-- ==== Sys2Proof/Word.lean ====
section
/-! DEFINITION. The word types of the part: a 32-bit parameter word (R51) and a byte. -/

namespace Sys2Proof

/-- A 32-bit word of an AXG packet, a register or a record (R51). -/
abbrev Word := BitVec 32

/-- A byte. -/
abbrev Byte := BitVec 8

end Sys2Proof
end

