-- ==== Sys2Proof/Syntax.lean ====
section
/-! DEFINITION. The steps of the part: one constructor per row of spec/opcode_table.json. -/

namespace Sys2Proof

/-- The carrier a command packet comes by (R51, R65, R83): the PCIe command ring, SPI, an in-band frame with its port, source
address and 802.1Q tag, the start script, as its command of an index (R630), or the twin link of a redundant pair (R463). -/
inductive Via where
  | pcie
  | spi
  | inband (port sa : Nat) (tci : Option Nat)
  | script (index : Nat)
  | twin
deriving DecidableEq, Repr

/-- A command packet as it arrives, its opcode given by the row (R51, R52). LEN is the number of parameter words. -/
structure Pkt where
  via : Via := .pcie
  tag : Nat := 0
  seq : Nat := 0
  destId : Nat := 0x3FFFF
  srcId : Nat := 0x3FFFF
  auth : Bool := false
  relay : Bool := false
  more : Bool := false
  /-- Reserved bits of header words 2 and 3, which the tag covers. -/
  rsv2 : Nat := 0
  rsv3 : Nat := 0
  words : List Word := []
  /-- The 128-bit authentication tag, when `auth`. -/
  mac : Nat := 0
deriving DecidableEq, Repr

/-- A raw stamp as a capture cell measures it (R250): how many ticks before the present one it was taken, the word-edge phase in ps, the
bit position, the receive unit interval in units of 2^-64 ns, the lane, a lane lead in units of its UI (R254), and whether the lane's
phase measurement is unavailable (R257). -/
structure Raw where
  ago : Nat := 0
  phi : Nat := 0
  bitPos : Nat := 0
  ui : Nat := 0
  lane : Nat := 0
  lead : Nat := 0
  coarse : Bool := false
deriving DecidableEq, Repr

/-- The TAP instructions of R457 and R573, and any other code. -/
inductive Jtag where
  | idcode | bypass | sample | extest | clamp | highz | extestPulse | extestTrain | scanAccess | other
deriving DecidableEq, Repr

/-- What a calibration step measured (R509, R510, R515): the sum of the 64 values of m (of m_ret for the trace), h, their standard
deviation and the loop time L, all in fs; the die temperature in 1/16 degree C; the receive CDR's or CALREF_CLK's frequency offset in
0.01 ppm; for the trace, a missing edge and by how many ns successive CALREF_PPS edges lie off 1 s. -/
structure CalMeas where
  sum : Int := 0
  h : Int := 0
  sd : Nat := 0
  loop : Int := 0
  temp : Int := 400
  off : Int := 0
  noRef : Bool := false
  ppsOff : Nat := 0
deriving DecidableEq, Repr

/-- What a start measures (R554, R625, R640): its times in us, the die temperature at root lock in 1/16 degree C, and the verdict of each
segment of a full start test (true: failed). -/
structure StartMeas where
  lockUs : Nat := 3800
  testUs : Nat := 0
  startUs : Nat := 0
  temp : Int := 400
  fails : List Bool := []
deriving DecidableEq, Repr

/-- Errors of one row of an eye scan (R124): of the coarse pass at the 65 phases from -32 to +32, and of the fine pass on each side, from its
outermost point inward. -/
structure EyeErr where
  coarse : List Nat := []
  left : List Nat := []
  right : List Nat := []
deriving DecidableEq, Repr

/-- What a receiver saw of its pair's polarity (R101): the training frame marker as a word, the /I2/ sets in order (true: the inverted form), or
how many of the first 64 blocks are valid only after inversion. -/
inductive Pol where
  | marker (w : Nat)
  | idles (sets : List Bool)
  | blocks (n : Nat)
deriving DecidableEq, Repr

/-- What the part has measured of one reference by an evaluation (R353, R355): the mean of its frequency over the last 16 s in units of 10^-12,
which a packet reference has from its own samples instead, and an edge of a PPS input since the evaluation before, as ticks ago and eighths
of a ps into its tick. -/
structure RefMeas where
  ref : Nat
  freq : Int := 0
  edge : Option (Nat × Nat) := none
deriving DecidableEq, Repr

/-- Why a reference's check is made (R356): the time in ps since its last edge, how far in ps three consecutive PPS edges lay from the times
the edges before predict, its FREQ_OFF in units of 10^-12, or what the state shows of its lane or its session. -/
inductive RefWhy where
  | gap (ps : Nat)
  | strays (ps : List Int)
  | freq (f : Int)
  | state
deriving DecidableEq, Repr

/-- Digital signal pins, and pairs of lanes, by group and number (R458, R643). `sbp`: 0 SBP_CLK, 1 SBP_CS_N, 2-7 SBP_A, 8 SBP_SNAP, 9-40 SBP_D.
`spi`: 0 SPI_CLK, 1 SPI_CS_N, 2 SPI_MOSI, 3 SPI_MISO, 4 SPI_IRQ_N. `calref`: 0 CLK, 1 PPS, 2 RET, 3 OUT. -/
inductive BPin where
  | pePerstN | peRefclk | resetN | pfailN | alarmN | islandN | pairAct
  | bypassCl (k : Nat) | refstate (k : Nat) | refin (k : Nat) | calref (k : Nat) | ham (k : Nat) | evt (k : Nat) | pev (k : Nat)
  | sbp (k : Nat) | spi (k : Nat)
  | lane (l : Nat) (tx : Bool) | pcie (k : Nat) (tx : Bool)
deriving DecidableEq, Repr

/-- The planes a record comes from (R534). -/
inductive Plane where
  | mgmt | timing | data
deriving DecidableEq, Repr

/-- The steps. A command row carries the packet that arrives, which its opcode makes the row's; an event row carries what the world around
the part, or a measurement, decides. -/
inductive Instr where
  /-- SYS_NOP (R92), opcode 0x0100. -/
  | sysNop (p : Pkt)
  /-- SYS_IDENT (R93), opcode 0x0101. -/
  | sysIdent (p : Pkt)
  /-- SYS_AXG_CONFIG (R94), opcode 0x0102. -/
  | sysAxgConfig (p : Pkt)
  /-- SYS_SHUTDOWN (R556), opcode 0x0110. -/
  | sysShutdown (p : Pkt)
  /-- SHUTDOWN_REPLY_LEFT (R556): the verdict of each segment of the pass (true: failed) and its duration in us. -/
  | shutdownReplyLeft (fails : List Bool) (us : Nat)
  /-- SYS_RESTART (R638), opcode 0x0111. -/
  | sysRestart (p : Pkt)
  /-- RESTART_REPLY_LEFT (R638): what the restart measures. -/
  | restartReplyLeft (m : StartMeas)
  /-- SYS_BOOT_SLOT (R639), opcode 0x0112. -/
  | sysBootSlot (p : Pkt)
  /-- SYS_STATUS (R640), opcode 0x0113. -/
  | sysStatus (p : Pkt)
  /-- LANE_CONFIG (R129), opcode 0x0200. -/
  | laneConfig (p : Pkt)
  /-- LANE_STATUS (R130), opcode 0x0201. -/
  | laneStatus (p : Pkt)
  /-- LANE_TRAIN (R131), opcode 0x0202. -/
  | laneTrain (p : Pkt)
  /-- LANE_DOZE (R132), opcode 0x0203. -/
  | laneDoze (p : Pkt)
  /-- LANE_SKETCH (R133), opcode 0x0204. -/
  | laneSketch (p : Pkt)
  /-- LANE_SKETCH_READ (R134), opcode 0x0205. -/
  | laneSketchRead (p : Pkt)
  /-- LANE_LOOPBACK (R135), opcode 0x0206. -/
  | laneLoopback (p : Pkt)
  /-- PORT_CONFIG (R166), opcode 0x0220. -/
  | portConfig (p : Pkt)
  /-- PORT_STATUS (R167), opcode 0x0221. -/
  | portStatus (p : Pkt)
  /-- PORT_ADMIN (R168), opcode 0x0222. -/
  | portAdmin (p : Pkt)
  /-- PORT_RING (R169), opcode 0x0223. -/
  | portRing (p : Pkt)
  /-- PORT_NODE_READ (R170), opcode 0x0224. -/
  | portNodeRead (p : Pkt)
  /-- BYPASS_SET (R161), opcode 0x0240. -/
  | bypassSet (p : Pkt)
  /-- BYPASS_POLICY (R172), opcode 0x0241. -/
  | bypassPolicy (p : Pkt)
  /-- BYPASS_STATUS (R173), opcode 0x0242. -/
  | bypassStatus (p : Pkt)
  /-- FWD_FDB_ADD (R207), opcode 0x0300. -/
  | fwdFdbAdd (p : Pkt)
  /-- FWD_FDB_DEL (R208), opcode 0x0301. -/
  | fwdFdbDel (p : Pkt)
  /-- FWD_FDB_FLUSH (R208), opcode 0x0301. -/
  | fwdFdbFlush (p : Pkt)
  /-- FWD_FDB_READ (R209), opcode 0x0302. -/
  | fwdFdbRead (p : Pkt)
  /-- FWD_AGEING (R210), opcode 0x0303. -/
  | fwdAgeing (p : Pkt)
  /-- FWD_STREAM_SET (R211), opcode 0x0304. -/
  | fwdStreamSet (p : Pkt)
  /-- FWD_STREAM_READ (R212), opcode 0x0305. -/
  | fwdStreamRead (p : Pkt)
  /-- FWD_VLAN_SET (R213), opcode 0x0306. -/
  | fwdVlanSet (p : Pkt)
  /-- FWD_CLASS_MAP (R214), opcode 0x0307. -/
  | fwdClassMap (p : Pkt)
  /-- FWD_CUT_MODE (R215), opcode 0x0308. -/
  | fwdCutMode (p : Pkt)
  /-- FWD_PUNT_RULE (R216), opcode 0x0309. -/
  | fwdPuntRule (p : Pkt)
  /-- BUF_MIN_SET (R235), opcode 0x0340. -/
  | bufMinSet (p : Pkt)
  /-- BUF_POOL_SET (R236), opcode 0x0341. -/
  | bufPoolSet (p : Pkt)
  /-- BUF_OCCUPANCY (R237), opcode 0x0342. -/
  | bufOccupancy (p : Pkt)
  /-- TIME_GET (R273), opcode 0x0400. -/
  | timeGet (p : Pkt)
  /-- TIME_SET (R274), opcode 0x0401. -/
  | timeSet (p : Pkt)
  /-- TIME_ADJ_RATE (R275), opcode 0x0402. -/
  | timeAdjRate (p : Pkt)
  /-- TIME_STEP (R276), opcode 0x0403. -/
  | timeStep (p : Pkt)
  /-- TIME_SLEW (R277), opcode 0x0404. -/
  | timeSlew (p : Pkt)
  /-- TIME_EPOCH (R278), opcode 0x0405. -/
  | timeEpoch (p : Pkt)
  /-- SESSION_CREATE (R308), opcode 0x0440. -/
  | sessionCreate (p : Pkt)
  /-- SESSION_DELETE (R309), opcode 0x0441. -/
  | sessionDelete (p : Pkt)
  /-- SESSION_READ (R310), opcode 0x0442. -/
  | sessionRead (p : Pkt)
  /-- SESSION_STATUS (R311), opcode 0x0443. -/
  | sessionStatus (p : Pkt)
  /-- SESSION_SERVO (R312), opcode 0x0444. -/
  | sessionServo (p : Pkt)
  /-- SESSION_KEY (R313), opcode 0x0445. -/
  | sessionKey (p : Pkt)
  /-- SESSION_ESMC (R314), opcode 0x0446. -/
  | sessionEsmc (p : Pkt)
  /-- MEAS_CONFIG (R433), opcode 0x0500. -/
  | measConfig (p : Pkt)
  /-- MEAS_START (R434), opcode 0x0501. -/
  | measStart (p : Pkt)
  /-- MEAS_STOP (R435), opcode 0x0502. -/
  | measStop (p : Pkt)
  /-- MEAS_READ (R436), opcode 0x0503. -/
  | measRead (p : Pkt)
  /-- MEAS_STATS (R437), opcode 0x0504. -/
  | measStats (p : Pkt)
  /-- REF_CONFIG (R378), opcode 0x0600. -/
  | refConfig (p : Pkt)
  /-- REF_RANK (R379), opcode 0x0601. -/
  | refRank (p : Pkt)
  /-- REF_SELECT (R380), opcode 0x0602. -/
  | refSelect (p : Pkt)
  /-- REF_STATUS (R381), opcode 0x0603. -/
  | refStatus (p : Pkt)
  /-- REF_BANDWIDTH (R382), opcode 0x0604. -/
  | refBandwidth (p : Pkt)
  /-- REF_HOLDOVER (R383), opcode 0x0605. -/
  | refHoldover (p : Pkt)
  /-- HAM_ARM (R406), opcode 0x0700. -/
  | hamArm (p : Pkt)
  /-- HAM_DISARM (R407), opcode 0x0701. -/
  | hamDisarm (p : Pkt)
  /-- HAM_ALIGN (R408), opcode 0x0702. -/
  | hamAlign (p : Pkt)
  /-- HAM_STATUS (R409), opcode 0x0703. -/
  | hamStatus (p : Pkt)
  /-- HAM_CONV (R410), opcode 0x0704. -/
  | hamConv (p : Pkt)
  /-- CAL_CONFIG (R528), opcode 0x0800. -/
  | calConfig (p : Pkt)
  /-- CAL_RUN (R529), opcode 0x0801. -/
  | calRun (p : Pkt)
  /-- CAL_STATUS (R530), opcode 0x0802. -/
  | calStatus (p : Pkt)
  /-- CAL_CALREF (R531), opcode 0x0803. -/
  | calCalref (p : Pkt)
  /-- CAL_COMMIT (R532), opcode 0x0804. -/
  | calCommit (p : Pkt)
  /-- ANNEAL_CONFIG (R576), opcode 0x0900. -/
  | annealConfig (p : Pkt)
  /-- ANNEAL_BLOCK (R564), opcode 0x0901. -/
  | annealBlock (p : Pkt)
  /-- ANNEAL_RESULT (R578), opcode 0x0902. -/
  | annealResult (p : Pkt)
  /-- BELLOWS_BUDGET (R503), opcode 0x0A00. -/
  | bellowsBudget (p : Pkt)
  /-- BELLOWS_HOLDUP (R504), opcode 0x0A01. -/
  | bellowsHoldup (p : Pkt)
  /-- BELLOWS_REPORT (R505), opcode 0x0A02. -/
  | bellowsReport (p : Pkt)
  /-- BELLOWS_COSTS (R506), opcode 0x0A03. -/
  | bellowsCosts (p : Pkt)
  /-- CRUCIBLE_READ (R550), opcode 0x0B00. -/
  | crucibleRead (p : Pkt)
  /-- CRUCIBLE_FLUSH (R551), opcode 0x0B01. -/
  | crucibleFlush (p : Pkt)
  /-- CRUCIBLE_LATCH_READ (R553), opcode 0x0B02. -/
  | crucibleLatchRead (p : Pkt)
  /-- CRUCIBLE_CLEAR (R552), opcode 0x0B03. -/
  | crucibleClear (p : Pkt)
  /-- CNT_CONFIG (R617), opcode 0x0C00. -/
  | cntConfig (p : Pkt)
  /-- CNT_READ (R618), opcode 0x0C01. -/
  | cntRead (p : Pkt)
  /-- CNT_WRITE (R619), opcode 0x0C02. -/
  | cntWrite (p : Pkt)
  /-- CNT_BANDWIDTH (R620), opcode 0x0C03. -/
  | cntBandwidth (p : Pkt)
  /-- CNT_USER (R621), opcode 0x0C04. -/
  | cntUser (p : Pkt)
  /-- HIER_CONFIG (R344), opcode 0x0D00. -/
  | hierConfig (p : Pkt)
  /-- HIER_ENROLL (R318), opcode 0x0D01. -/
  | hierEnroll (p : Pkt)
  /-- HIER_RELEASE (R346), opcode 0x0D02. -/
  | hierRelease (p : Pkt)
  /-- HIER_TABLE_READ (R347), opcode 0x0D03. -/
  | hierTableRead (p : Pkt)
  /-- HIER_BROADCAST (R88), opcode 0x0D05. -/
  | hierBroadcast (p : Pkt)
  /-- HIER_CLOSURE (R331), opcode 0x0D06. -/
  | hierClosure (p : Pkt)
  /-- HIER_CLOSURE_READ (R349), opcode 0x0D07. -/
  | hierClosureRead (p : Pkt)
  /-- HIER_STATUS (R350), opcode 0x0D08. -/
  | hierStatus (p : Pkt)
  /-- WORKER_REPORT (R325), opcode 0x0D08. -/
  | workerReport (p : Pkt)
  /-- PAIR_CONFIG (R480), opcode 0x0E00. -/
  | pairConfig (p : Pkt)
  /-- PAIR_STATUS (R482), opcode 0x0E01. -/
  | pairStatus (p : Pkt)
  /-- PAIR_SWITCH (R481), opcode 0x0E02. -/
  | pairSwitch (p : Pkt)
  /-- SEC_LC_SET (R579), opcode 0x0F00. -/
  | secLcSet (p : Pkt)
  /-- SEC_LC_STATUS (R580), opcode 0x0F01. -/
  | secLcStatus (p : Pkt)
  /-- SEC_KEY_LOAD (R570), opcode 0x0F02. -/
  | secKeyLoad (p : Pkt)
  /-- SEC_SEQ_RESET (R582), opcode 0x0F03. -/
  | secSeqReset (p : Pkt)
  /-- SEC_TAMPER_STATUS (R583), opcode 0x0F04. -/
  | secTamperStatus (p : Pkt)
  /-- SEC_SCAN_ENABLE (R573), opcode 0x0F05. -/
  | secScanEnable (p : Pkt)
  /-- MEM_READ (R599), opcode 0x1000. -/
  | memRead (p : Pkt)
  /-- MEM_WRITE (R600), opcode 0x1001. -/
  | memWrite (p : Pkt)
  /-- MEM_IMAGE_WRITE (R601), opcode 0x1002. -/
  | memImageWrite (p : Pkt)
  /-- MEM_BGTEST (R602), opcode 0x1003. -/
  | memBgtest (p : Pkt)
  /-- MEM_BGTEST_STOP (R602), opcode 0x1003. -/
  | memBgtestStop (p : Pkt)
  /-- AXG_SEGMENT (R69): a packet with MORE = 1 and its opcode. -/
  | axgSegment (op : Nat) (p : Pkt)
  /-- AXG_RELAY (R85): a packet for another DEVICE_ID and its opcode. -/
  | axgRelay (op : Nat) (p : Pkt)
  /-- AXG_RELAY_REPLY (R87): the port, the source address and the words of the reply packet. -/
  | axgRelayReply (port sa : Nat) (pkt : List Word)
  /-- CMD_PI (R75): the index written, and the words of the slots not fetched before. -/
  | cmdPi (pi : Nat) (words : List Word)
  /-- RPL_CI (R78): the index written. -/
  | rplCi (v : Nat)
  /-- PUNT_PI (R446): the index written. -/
  | puntPi (v : Nat)
  /-- INS_PI (R447): the index written. -/
  | insPi (v : Nat)
  /-- CLK_STATUS_W1C (R48): the word written. -/
  | clkStatusW1c (v : Word)
  /-- PLANE_STATUS_W1C (R50): the word written. -/
  | planeStatusW1c (v : Word)
  /-- REF_STATE_W1C (R369): the word written. -/
  | refStateW1c (v : Word)
  /-- AXG_ERR_READ (R95). -/
  | axgErrRead
  /-- REGISTER_WRITE (R14): the offset in BAR0 and the word. -/
  | registerWrite (off : Nat) (v : Word)
  /-- HOST_WINDOW_WRITE (R442): the offset in the window and the bytes. -/
  | hostWindowWrite (off : Nat) (bytes : List Byte)
  /-- SPI_PUT (R80): the words clocked in. -/
  | spiPut (words : List Word)
  /-- SPI_GET (R81): whether the host clocks out the whole packet. -/
  | spiGet (done : Bool)
  /-- SPI_STAT (R79). -/
  | spiStat
  /-- SBP_TIME_READ (R453): the word of the Shosibin map. -/
  | sbpTimeRead (word : Nat)
  /-- SBP_SNAP_STATUS_READ (R455). -/
  | sbpSnapStatusRead
  /-- CNT_PAGE_READ (R615): the counter and the word of its entry. -/
  | cntPageRead (k word : Nat)
  /-- SBP_SNAP_EDGE (R454): how many ticks before the present one the edge came, and its fine value in 1/8 ps. -/
  | sbpSnapEdge (ago f8 : Nat)
  /-- POWER_ON_RELEASE (R622). -/
  | powerOnRelease
  /-- RESET_N_FALL (R624). -/
  | resetNFall
  /-- RESET_RELEASE (R625): what the start measures. -/
  | resetRelease (m : StartMeas)
  /-- RESET_RELEASE_WAIT_ALARM (R623). -/
  | resetReleaseWaitAlarm
  /-- PFAIL_N_LOW (R496). -/
  | pfailNLow
  /-- INTERNAL_RAIL_FAULT (R495): the metered rail. -/
  | internalRailFault (rail : Nat)
  /-- PARKED_RESUME (R502): what the start measures. -/
  | parkedResume (m : StartMeas)
  /-- XO_LOSS (R45). -/
  | xoLoss
  /-- ROOT_RELOCK (R45): ticks since XO_IN returned. -/
  | rootRelocked (ago : Nat)
  /-- TIMING_PLANE_FAULT (R660). -/
  | timingPlaneFault
  /-- TIMING_PLANE_RETURN (R240). -/
  | timingPlaneReturn
  /-- WATCHDOG_FIRE (R37). -/
  | watchdogFire
  /-- TAMPER_DETECTED (R571): the cause: 0 TAMPER0, 1 TAMPER1, 2 VBAT_LOSS, 3 VOLTAGE_GLITCH, 4 CLOCK_GLITCH. -/
  | tamperDetected (cause : Nat)
  /-- PE_PERST_ASSERT (R645). -/
  | pePerstAssert
  /-- PE_PERST_RELEASE (R645). -/
  | pePerstRelease
  /-- JTAG_INSTRUCTION (R457): the instruction shifted in, and the boundary cells the board holds high. -/
  | jtagLoad (j : Jtag) (pads : List BPin)
  /-- JTAG_TAP_RESET (R457). -/
  | jtagTapReset
  /-- LANE_STEP_EXIT (R100): the lane, what its receiver saw of polarity, and the lane order found at step 6. -/
  | laneStepExit (l : Nat) (pol : Pol) (order : Nat)
  /-- LANE_STEP_TIMEOUT (R100): the lane. -/
  | laneStepTimeout (l : Nat)
  /-- LANE_SIGNAL_LOSS (R100): the lane. -/
  | laneSignalLoss (l : Nat)
  /-- CL72_UPDATE_RECEIVED (R108): the lane, the coefficient update field and the training frame marker. -/
  | cl72Update (l req marker : Nat)
  /-- CL72_STATUS_RECEIVED (R109): the lane, the status report field, the training frame marker, and the figure of merit of the own equaliser in
  10^-3 dB. -/
  | cl72Report (l report marker : Nat) (fom : Int)
  /-- LANE_LOCK_LOSS (R110): the lane. -/
  | laneLockLoss (l : Nat)
  /-- BURST_ATTEMPT_END (R110): the lane, and whether the attempt succeeds. -/
  | burstAttemptEnd (l : Nat) (ok : Bool)
  /-- DOZE_IDLE_EXPIRED (R117): the lane. -/
  | dozeIdleExpired (l : Nat)
  /-- DOZE_ENTRY_END (R117): the lane. -/
  | dozeEntryEnd (l : Nat)
  /-- DOZE_WAKE_TRIGGER (R119): the lane. -/
  | dozeWakeTrigger (l : Nat)
  /-- DOZE_EXIT_COMPLETE (R120): the lane. -/
  | dozeExitComplete (l : Nat)
  /-- DOZE_FLAGS_PERIODIC (R115): the lane. -/
  | dozeFlagsPeriodic (l : Nat)
  /-- DOZE_FLAGS_RECEIVED (R116): the lane and DOZE_OK. -/
  | dozeFlagsReceived (l : Nat) (ok : Bool)
  /-- DOZE_ENTER_RECEIVED (R117): the lane. -/
  | dozeEnterReceived (l : Nat)
  /-- DOZE_BURST_RECEIVED (R119): the lane. -/
  | dozeBurstReceived (l : Nat)
  /-- DOZE_BURST_MISSED (R121): the lane, and whether block lock is regained within 1 ms. -/
  | dozeBurstMissed (l : Nat) (regained : Bool)
  /-- SKETCH_SCAN_END (R127): the lane, the errors of the rows measured, and whether lock was lost. -/
  | sketchEnd (l : Nat) (rows : List EyeErr) (lost : Bool)
  /-- LINK_LOSS (R140): the port, the cause (0 Local Fault, 1 Remote Fault, 2 alignment, 3 a lane), whether it comes in the tick of an event of
  R145, and whether a frame is being received that is not decided yet. -/
  | linkLost (p cause : Nat) (withDown early : Bool)
  /-- LF_FILTER_EXPIRY (R142): the port. -/
  | lfFilterExpiry (p : Nat)
  /-- LINK_LOSS_CLEARED (R144): the port. -/
  | linkLossCleared (p : Nat)
  /-- BYPASS_CLOSE_COMPLETE (R157): the bypass pair. -/
  | bypassCloseComplete (b : Nat)
  /-- BYPASS_OPEN_COMPLETE (R160): the bypass pair. -/
  | bypassOpenComplete (b : Nat)
  /-- BYPASS_POLICY_PROBE_START (R159): the bypass pair. -/
  | bypassPolicyProbeStart (b : Nat)
  /-- OPEN_PROBE_EXPIRY (R159): the bypass pair. -/
  | openProbeExpiry (b : Nat)
  /-- RETRY_GAP_EXPIRY (R159): the bypass pair. -/
  | retryGapExpiry (b : Nat)
  /-- SUPERVISION_SEND (R154): the ring instance. -/
  | supervisionSend (k : Nat)
  /-- ENTRY_FORGET (R151): the slot of the node table. -/
  | entryForget (slot : Nat)
  /-- NODE_FORGET (R151): the slot of the node table. -/
  | nodeForget (slot : Nat)
  /-- FRAME_TRIGGER_BYTE (R193): the port, the bytes received so far, the FCS verdict when the frame has ended, and the raw receive stamp. -/
  | frameTriggerByte (p : Nat) (bytes : List Byte) (ended : Option Bool) (r : Raw)
  /-- SPARK_MATCH (R198): the port, the first 14 bytes and the raw receive stamp. -/
  | sparkMatch (p : Nat) (bytes : List Byte) (r : Raw)
  /-- SPARK_KEY_CHECK_FAIL (R201): the port and the bytes up to the field that fails. -/
  | sparkKeyCheckFail (p : Nat) (bytes : List Byte)
  /-- FRAME_LAST_BYTE (R227): the port, the whole frame, its FCS verdict, and the egress ports whose spark copy ran out of bytes. -/
  | frameLastByte (p : Nat) (bytes : List Byte) (ok : Bool) (under : List Nat)
  /-- FRAME_EGRESS_SELECT (R191): the egress port and the raw transmit stamp of the frame, for an event message. -/
  | frameEgressSelect (p : Nat) (r : Raw)
  /-- FRAME_TX_END (R230): the egress port, and by how many ps the predicted transmit stamp exceeds the one at the ball, when they differ by one
  UI or more. -/
  | frameTxEnd (p : Nat) (diff : Option Int)
  /-- FDB_AGE_SWEEP (R186). -/
  | fdbAgeSweep
  /-- INSERT_FRAME (R206): the insert queue: 0 IQ_TIME, 1 IQ_CMD, 2 IQ_HOST. -/
  | insertFrame (q : Nat)
  /-- REG_OPERATION (R28). -/
  | regOperation
  /-- PUNT_DESCRIPTOR_FILL (R446): the buffer address the posted descriptor holds. -/
  | puntDescriptorFill (addr : Nat)
  /-- INSERT_DESCRIPTOR_FETCH (R447): the descriptor and the bytes of its buffer. -/
  | insertDescriptorFetch (words : List Word) (bytes : List Byte)
  /-- INSERT_DESCRIPTOR_DONE (R448). -/
  | insertDescriptorDone
  /-- SCHEDULED_ACTION_DUE (R246). -/
  | scheduledActionDue
  /-- SLEW_COMPLETE (R247): the time base. -/
  | slewComplete (n : Nat)
  /-- PTP_MESSAGE_TAKEN (R286). -/
  | ptpMessageTaken
  /-- PTP_PERIODIC_SEND (R287): the session, and what is due: 0 Announce, 1 Sync, 2 delay request. -/
  | ptpPeriodicSend (sid kind : Nat)
  /-- ANNOUNCE_RECEIPT_TIMEOUT (R291): the session. -/
  | announceReceiptTimeout (sid : Nat)
  /-- SYNC_LOSS (R291): the session. -/
  | syncLoss (sid : Nat)
  /-- BMCA_M3_WAIT_EXPIRY (R290): the session. -/
  | bmcaM3WaitExpiry (sid : Nat)
  /-- ESMC_PDU_SEND (R300): the port. -/
  | esmcPduSend (p : Nat)
  /-- ESMC_PDU_RECEIVED (R300). -/
  | esmcPduReceived
  /-- ESMC_RX_TIMEOUT (R302): the port. -/
  | esmcRxTimeout (p : Nat)
  /-- REF_SELECTION_EVAL (R361): the ROOT_OFFSET the loop has come to, in 10^-12, and what has been measured. -/
  | refEvaluation (off : Int) (meas : List RefMeas)
  /-- REF_CHECK_FAIL (R357): the reference, and what its check saw. -/
  | refCheckFail (k : Nat) (why : RefWhy)
  /-- REF_CHECKS_PASS (R357): the reference. -/
  | refChecksPass (k : Nat)
  /-- REF_QUAL_TIME_EXPIRY (R357): the reference. -/
  | refQualTimeExpiry (k : Nat)
  /-- REF_WTR_EXPIRY (R357): the reference. -/
  | refWtrExpiry (k : Nat)
  /-- SWITCH_MEASUREMENT_COMPLETE (R367): the measured frequency in 10^-12. -/
  | switchMeasurementComplete (f : Int)
  /-- LOOP_LOCK_DETECTED (R366): the ROOT_OFFSET the loop has come to, and the frequency errors of the last comparison periods, in 10^-12. -/
  | loopLocked (off : Int) (errs : List Int)
  /-- LOOP_LOCK_LOST (R366): the frequency errors of the last comparison periods, in 10^-12. -/
  | loopUnlocked (errs : List Int)
  /-- BANDWIDTH_NARROW_STEP (R370): the ROOT_OFFSET the loop has come to, and the largest frequency error of the dwell, in 10^-12. -/
  | bandwidthNarrowed (off : Int) (worst : Nat)
  /-- HIST_VALID_SET (R374): F_H in 10^-12 and T_H in 1/16 degree C. -/
  | histValidSet (f t : Int)
  /-- HOLDOVER_PREDICTION_UPDATE (R375): the die temperature and the external one, none when open or shorted, in 1/16 degree C. -/
  | holdoverPredictionUpdate (die : Int) (ext : Option Int)
  /-- HAM_EDGE_COMMIT (R389): the output. -/
  | hamEdgeCommit (k : Nat)
  /-- HAM_EDGE_EMIT (R404): the output. -/
  | hamEdgeEmit (k : Nat)
  /-- HAM_ALIGN_COMPLETE (R401): the output. -/
  | hamAlignComplete (k : Nat)
  /-- EVENT_EDGE (R415): the channel, the direction of the edge, how many ticks before the present one it came, and its fine value in 1/8 ps. -/
  | inputEdge (ch : Nat) (falling : Bool) (ago f8 : Nat)
  /-- PAIR_BEACON_SEND (R465). -/
  | pairBeaconSend
  /-- TWIN_TIME_SEND (R465). -/
  | twinTimeSend
  /-- BEACON_RECEIVED (R474). -/
  | beaconReceived
  /-- TWIN_TIME_RECEIVED (R466). -/
  | twinTimeReceived
  /-- COMPARE_RECEIVED (R467). -/
  | compareReceived
  /-- DIGEST_WINDOW_END (R468). -/
  | digestWindowEnd
  /-- PAIR_SELF_CHECK_DONE (R470): whether the signature check passes. -/
  | pairSelfCheckDone (signature : Bool)
  /-- VERDICT_RECEIVED (R472). -/
  | verdictReceived
  /-- CONFIG_RECEIVED (R463). -/
  | configReceived
  /-- HANDOVER_RECEIVED (R474). -/
  | handoverReceived
  /-- TWIN_LINK_TIMEOUT (R466). -/
  | twinLinkTimeout
  /-- BEACON_LOSS (R473). -/
  | beaconLoss
  /-- JOINING_TIMEOUT (R474). -/
  | joiningTimeout
  /-- PAIR_BEACON_TAKEN (R478). -/
  | pairBeaconTaken
  /-- PAIR_TABLE_FORGET (R478): the entry of the filter table. -/
  | pairTableForget (k : Nat)
  /-- WORKER_REPORT_SEND (R323). -/
  | workerReportSend
  /-- WORKER_REPORT_REPLY (R337): the port, the source address and the words of the reply packet. -/
  | workerReportReply (port sa : Nat) (pkt : List Word)
  /-- CHILD_MISS (R326): the slot of the worker table. -/
  | childMiss (slot : Nat)
  /-- CLOSURE_PROBE_SEND (R332): the direction: clockwise, or counter-clockwise. -/
  | closureProbeSend (ccw : Bool)
  /-- CLOSURE_PROBE_RETURN (R332). -/
  | closureProbeReturn
  /-- LEDGER_WINDOW_BOUNDARY (R487). -/
  | ledgerWindowBoundary
  /-- METER_INTERVAL (R483): the energy of each metered rail in the interval, in uJ. -/
  | meterInterval (rails : List Nat)
  /-- HOLDUP_MEAN (R493): the new sample of HOLDUP_SNS, in uV. -/
  | holdupMean (pinUv : Nat)
  /-- HU_LOW_TIMER (R494). -/
  | huLowTimer
  /-- JOB_ADMITTED (R488). -/
  | jobAdmitted
  /-- CAL_ROUND_ROBIN_STEP (R512). -/
  | calRoundRobinStep
  /-- CAL_STEP_COMPLETE (R515): the item and what its step measured. -/
  | calStepComplete (item : Nat) (m : CalMeas)
  /-- VALUE_STALE (R518): the die temperature in 1/16 degree C, as now measured. -/
  | dieTemperature (temp : Int)
  /-- CAL_COMMIT_COMPLETE (R524). -/
  | calCommitComplete
  /-- CRUCIBLE_RECORD_ARRIVAL (R540): the plane the record comes from, its CODE, SOURCE and DATA. -/
  | crucibleRecordArrival (pl : Plane) (code source : Nat) (d5 d6 d7 : Word)
  /-- CRUCIBLE_RING_TAKE (R542). -/
  | crucibleRingTake
  /-- CRUCIBLE_LATCH_FLUSH_TIMER (R544). -/
  | crucibleLatchFlushTimer
  /-- CRUCIBLE_FLUSH_COMPLETE (R546). -/
  | crucibleFlushComplete
  /-- ANNEAL_SEGMENT_COMPLETE (R554): the block of a block anneal (a measurement channel or a lane, and its index), none for the pass or the
  full start test; its errors and its time in us. -/
  | annealSegmentComplete (block : Option (Bool × Nat)) (errors us : Nat)
  /-- RUN_H_HOURLY (R561). -/
  | runHHourly
  /-- BORROW_STEP_COMPLETE (R592): the words that failed, at the end of TEST. -/
  | borrowStepComplete (failWords : Nat)
  /-- BANDWIDTH_WINDOW_END (R614). -/
  | bandwidthWindowEnd
  /-- MODULE_UNPOWERED (R622). -/
  | moduleUnpowered
  /-- VBAT_FALL (R571): whether VBAT fell below 1.6 V. -/
  | vbatFall (lost : Bool)
  /-- MPI_POWER_UP (R443): the time firmware takes to start, in us. -/
  | mpiPowerUp (startUs : Nat)
  /-- PCIE_LINK_UP (R443): the words host memory holds in the command ring from the consumer index up to CMD_PI. -/
  | pcieLinkUp (words : List Word)
  /-- MRAM_WRITE_COMPLETE (R601). -/
  | mramWriteComplete
  /-- LPI_TRANSITION (R122): the lane, whether it is the own transmit direction or the partner, and whether low-power idle begins. -/
  | lpiTransition (l : Nat) (tx on : Bool)
  /-- TAMPER_INPUT_HIGH (R571): the input. -/
  | tamperInputHigh (input : Nat)
  /-- HOLDOVER_FIT_SAMPLE (R375): the 60 s means of ROOT_OFFSET in 10^-12 and of the temperature in 1/16 degree C. -/
  | holdoverFitSample (f t : Int)
deriving DecidableEq, Repr

end Sys2Proof
end

