-- ==== Sys2Proof/Decode.lean ====
section
/-! DEFINITION. The step that a word spells by the bits of spec/opcode_table.json. -/

namespace Sys2Proof

/-- No row of the table has bits: a command is a packet of words (R52), and an event has no encoding. Packets are parsed where a carrier
delivers their words (`Machine.parsePacket`). -/
def decodeTableWord (_nbits _w : Nat) : Option Instr := none

end Sys2Proof
end

