-- ==== Sys2Proof/Config.lean ====
section
/-! DEFINITION. What the spec leaves open: free values, each an opaque constant with no body, so that no proof can see what it is.
A value of a fresh kind each time is one of them applied to the counter `free` of the state. -/

namespace Sys2Proof

/-- A value the spec does not state, one for each number drawn (notes/assumptions/2.md). -/
opaque Config.freeNat : Nat → Nat

/-- A signed value the spec does not state, one for each number drawn. -/
opaque Config.freeInt : Nat → Int

/-- The hash of a forwarding-database way: way, MAC and FID (R182: fixed in hardware, not given). -/
opaque Config.fdbHash : Nat → Nat → Nat → Nat

/-- The hash of a stream-table way: way and DA (R187). -/
opaque Config.streamHash : Nat → Nat → Nat

/-- The factory default delay, in ps, of a calibrated item without a stored value: item and rate (R518: not given). -/
opaque Config.palDefault : Nat → Nat → Int

/-- The factory value F of generation 1, in ps: item and rate (R511, R515: not given). -/
opaque Config.palFactory : Nat → Nat → Int

end Sys2Proof
end

