-- ==== Sys2Proof/Machine/Bits.lean ====
section
/-! DEFINITION. Bit fields, clamping, saturation and byte order: the plain helpers every family uses (R11, R12, R54, R70). -/

namespace Sys2Proof.Machine

open Sys2Proof

/-- The field [hi:lo] of a word, unsigned (R11). -/
def fld (w : Word) (hi lo : Nat) : Nat := (w.toNat >>> lo) % 2 ^ (hi + 1 - lo)

/-- One bit of a word as a flag (R11). -/
def bit (w : Word) (i : Nat) : Bool := w.getLsbD i

/-- Two's complement of the low `n` bits of a number (R11). -/
def signed (n : Nat) (v : Nat) : Int :=
  let v := v % 2 ^ n
  if v < 2 ^ (n - 1) then (v : Int) else (v : Int) - (2 ^ n : Nat)

/-- The field [hi:lo] of a word, signed (R11). -/
def sfld (w : Word) (hi lo : Nat) : Int := signed (hi + 1 - lo) (fld w hi lo)

/-- A number's low 32 bits as a word. -/
def w32 (n : Nat) : Word := BitVec.ofNat 32 n

/-- A signed number as a 32-bit two's complement word. -/
def i32 (i : Int) : Word := BitVec.ofInt 32 i

/-- The low `n` bits of a signed number, for a signed field narrower than a word. -/
def lowBits (n : Nat) (i : Int) : Nat := (i % (2 ^ n : Nat)).toNat

/-- A word built from fields, each given by its low bit and its value; every other bit is 0 (R12). -/
def pack (fs : List (Nat × Nat)) : Word := w32 ((fs.map (fun f => f.2 * 2 ^ f.1)).sum)

/-- The word at an index, 0 beyond the end. -/
def wd (ws : List Word) (i : Nat) : Word := ws.getD i 0

/-- The nearest legal value (R70). -/
def clamp (lo hi n : Nat) : Nat := max lo (min hi n)

/-- The nearest legal value of a signed field (R70). -/
def clampZ (lo hi i : Int) : Int := max lo (min hi i)

/-- A counter of ceiling `m` after `k` more events: it saturates (R167). -/
def satAdd (m n k : Nat) : Nat := min m (n + k)

/-- A saturating 8-bit, 16-bit and 32-bit counter after one event. -/
def inc8 (n : Nat) : Nat := satAdd 0xFF n 1
def inc16 (n : Nat) : Nat := satAdd 0xFFFF n 1
def inc32 (n : Nat) : Nat := satAdd 0xFFFFFFFF n 1

/-- Whole ticks of a number of seconds (R41). -/
def ticksPerSec : Nat := 1250000000

/-- Ceiling division. -/
def ceilDiv (a b : Nat) : Nat := (a + b - 1) / b

/-- Round a quotient to the nearest integer, halves away from zero. -/
def roundDiv (a : Int) (b : Nat) : Int :=
  if a < 0 then -((((-a).toNat * 2 + b) / (2 * b) : Nat) : Int) else (((a.toNat * 2 + b) / (2 * b) : Nat) : Int)

/-- The `n` bytes of a number, most significant first (R54). -/
def bytesBE : Nat → Nat → List Byte
  | 0, _ => []
  | n + 1, v => BitVec.ofNat 8 (v / 256 ^ n) :: bytesBE n v

/-- The number spelled by bytes, most significant first. -/
def ofBytesBE (bs : List Byte) : Nat := bs.foldl (fun a b => a * 256 + b.toNat) 0

/-- The `n` bytes of a number, least significant first. -/
def bytesLE : Nat → Nat → List Byte
  | 0, _ => []
  | n + 1, v => BitVec.ofNat 8 v :: bytesLE n (v / 256)

/-- The number spelled by bytes, least significant first. -/
def ofBytesLE (bs : List Byte) : Nat := bs.foldr (fun b a => a * 256 + b.toNat) 0

/-- Words as bytes, each most significant byte first (R54). -/
def wordBytesBE (ws : List Word) : List Byte := ws.flatMap (fun w => bytesBE 4 w.toNat)

/-- Words as bytes, each least significant byte first (R54, R599). -/
def wordBytesLE (ws : List Word) : List Byte := ws.flatMap (fun w => bytesLE 4 w.toNat)

/-- Bytes as words, most significant byte first; a remainder of fewer than four bytes is dropped. -/
def wordsOfBE : List Byte → List Word
  | a :: b :: c :: d :: r => w32 (ofBytesBE [a, b, c, d]) :: wordsOfBE r
  | _ => []

/-- Number of true flags. -/
def countTrue (l : List Bool) : Nat := (l.filter id).length

/-- The indices below `n` of the bits set in a mask. -/
def maskBits (n m : Nat) : List Nat := (List.range n).filter (fun i => m.testBit i)

/-- The mask whose bits are a list of indices. -/
def maskOf (l : List Nat) : Nat := l.foldl (fun a i => a ||| 2 ^ i) 0

/-- The larger of a list of numbers, 0 for none. -/
def maxOf (l : List Nat) : Nat := l.foldl max 0

/-- Serial-number comparison on `n` bits: is `a` ahead of `b` (R473, R548)? -/
def aheadOf (n a b : Nat) : Bool :=
  let d := (a + 2 ^ n - b % 2 ^ n) % 2 ^ n
  decide (0 < d ∧ d < 2 ^ (n - 1))

end Sys2Proof.Machine
end

