-- ==== Sys2Proof/Machine/Crypto.lean ====
section
/-! DEFINITION. The published algorithms the spec names: AES-256-GMAC (R59, NIST SP 800-38D), HMAC-SHA-256 truncated to 128 bits
(R6, FIPS 198-1 with FIPS 180-4) and the CRC-32 of IEEE 802.3. PRESUMED: their constants come from those standards, not from the
spec (notes/assumptions/3.md). -/

namespace Sys2Proof.Machine

open Sys2Proof

/-- One step of the reflected CRC-32 register. -/
def crcBit (c : Nat) : Nat := if c % 2 = 1 then Nat.xor (c / 2) 0xEDB88320 else c / 2

/-- The CRC-32 register after one byte. -/
def crcByte (c : Nat) (b : Byte) : Nat :=
  (List.range 8).foldl (fun a _ => crcBit a) (Nat.xor c b.toNat)

/-- The CRC-32 of IEEE 802.3 over bytes. -/
def crc32 (bs : List Byte) : Nat := Nat.xor (bs.foldl crcByte 0xFFFFFFFF) 0xFFFFFFFF

/-- Multiplication by x in the field of AES. -/
def aesX (b : Nat) : Nat := if b * 2 < 256 then b * 2 else Nat.xor (b * 2) 0x11B

/-- Multiplication in the field of AES. -/
def aesMul (a b : Nat) : Nat :=
  ((List.range 8).foldl (fun (p : Nat × Nat) i =>
    (if b.testBit i then Nat.xor p.1 p.2 else p.1, aesX p.2)) (0, a)).1

/-- The inverse in the field of AES, 0 for 0: the 254th power. -/
def aesInv (a : Nat) : Nat :=
  let a2 := aesMul a a
  let a4 := aesMul a2 a2
  let a8 := aesMul a4 a4
  let a16 := aesMul a8 a8
  let a32 := aesMul a16 a16
  let a64 := aesMul a32 a32
  aesMul (aesMul (aesMul a64 a64) (aesMul a64 a32)) (aesMul (aesMul a16 a8) (aesMul a4 a2))

/-- The S-box of AES: the inverse under the affine map. -/
def aesSbox (a : Nat) : Nat :=
  let b := aesInv a
  let rot := fun k => (b * 2 ^ k + b / 2 ^ (8 - k)) % 256
  Nat.xor (Nat.xor (Nat.xor b (rot 1)) (Nat.xor (rot 2) (rot 3))) (Nat.xor (rot 4) 0x63)

/-- Exclusive or of two byte lists. -/
def xorBytes (a b : List Nat) : List Nat := List.zipWith Nat.xor a b

/-- One further word of the AES-256 key schedule. -/
def aesNextKey (w : List (List Nat)) (i : Nat) : List (List Nat) :=
  let t := w.getD (i - 1) []
  let u :=
    if i % 8 = 0 then
      xorBytes ((t.drop 1 ++ t.take 1).map aesSbox) [(List.range (i / 8 - 1)).foldl (fun a _ => aesX a) 1, 0, 0, 0]
    else if i % 8 = 4 then t.map aesSbox else t
  w ++ [xorBytes (w.getD (i - 8) []) u]

/-- The bytes of a number as numbers, most significant first. -/
def natBytes (n v : Nat) : List Nat := (bytesBE n v).map BitVec.toNat

/-- Bytes, each a number, as one number. -/
def ofNatBytes (l : List Nat) : Nat := l.foldl (fun a b => a * 256 + b) 0

/-- The fifteen round keys of AES-256, 16 bytes each. -/
def aesKeys (key : Nat) : List (List Nat) :=
  let k := natBytes 32 key
  let w0 := (List.range 8).map (fun i => (k.drop (4 * i)).take 4)
  let w := (List.range 52).foldl (fun w i => aesNextKey w (i + 8)) w0
  (List.range 15).map (fun r => ((w.drop (4 * r)).take 4).flatten)

/-- The byte substitution and row shift of a round. -/
def aesSubShift (st : List Nat) : List Nat :=
  (List.range 16).map (fun i => aesSbox (st.getD ((i + 4 * (i % 4)) % 16) 0))

/-- The column mix of a round. -/
def aesMix (st : List Nat) : List Nat :=
  (List.range 16).map (fun i =>
    let c := i / 4 * 4
    let a := fun k => st.getD (c + (i + k) % 4) 0
    Nat.xor (Nat.xor (aesMul 2 (a 0)) (aesMul 3 (a 1))) (Nat.xor (a 2) (a 3)))

/-- AES-256 of one 128-bit block. -/
def aes256 (key block : Nat) : Nat :=
  let ks := aesKeys key
  let s0 := xorBytes (natBytes 16 block) (ks.getD 0 [])
  let s1 := (List.range 13).foldl (fun st r => xorBytes (aesMix (aesSubShift st)) (ks.getD (r + 1) [])) s0
  ofNatBytes (xorBytes (aesSubShift s1) (ks.getD 14 []))

/-- Multiplication in the field of GCM, bit 0 the most significant. -/
def gcmMul (x y : Nat) : Nat :=
  ((List.range 128).foldl (fun (p : Nat × Nat) i =>
    let v := p.2
    (if x.testBit (127 - i) then Nat.xor p.1 v else p.1,
     if v % 2 = 1 then Nat.xor (v / 2) (0xE1 * 2 ^ 120) else v / 2)) (0, y)).1

/-- A byte list cut into 16-byte blocks, the last padded with zeros, each as a number. -/
def blocks16 : Nat → List Byte → List Nat
  | 0, _ => []
  | n + 1, bs => ofBytesBE ((bs.take 16) ++ List.replicate (16 - bs.length) 0) :: blocks16 n (bs.drop 16)

/-- AES-256-GMAC of additional data under a 96-bit initialization vector, empty plaintext (R59). -/
def gmac256 (key iv : Nat) (aad : List Byte) : Nat :=
  let h := aes256 key 0
  let bl := blocks16 (ceilDiv aad.length 16) aad ++ [aad.length * 8 * 2 ^ 64]
  let g := bl.foldl (fun a b => gcmMul (Nat.xor a b) h) 0
  Nat.xor g (aes256 key (iv * 2 ^ 32 + 1))

/-- The first 64 primes, from which SHA-256 takes its constants. -/
def shaPrimes : List Nat :=
  [2, 3, 5, 7, 11, 13, 17, 19, 23, 29, 31, 37, 41, 43, 47, 53, 59, 61, 67, 71, 73, 79, 83, 89, 97, 101, 103, 107, 109, 113, 127, 131]
  ++ [137, 139, 149, 151, 157, 163, 167, 173, 179, 181, 191, 193, 197, 199, 211, 223, 227, 229, 233, 239, 241, 251, 257, 263, 269,
    271, 277, 281, 283, 293, 307, 311]

/-- The integer `k`-th root of a number below 2^(36k), bit by bit. -/
def rootOf (k n : Nat) : Nat :=
  (List.range 36).foldl (fun r i => let c := r + 2 ^ (35 - i); if c ^ k ≤ n then c else r) 0

/-- Rotation of a 32-bit word to the right. -/
def rotr (n : Nat) (w : Word) : Word := w.rotateRight n

/-- One further word of the SHA-256 message schedule. -/
def shaNextW (w : List Word) (i : Nat) : List Word :=
  let a := wd w (i - 15)
  let b := wd w (i - 2)
  let s0 := rotr 7 a ^^^ rotr 18 a ^^^ (a >>> 3)
  let s1 := rotr 17 b ^^^ rotr 19 b ^^^ (b >>> 10)
  w ++ [wd w (i - 16) + s0 + wd w (i - 7) + s1]

/-- One round of SHA-256. -/
def shaRound (h : List Word) (kw : Word) : List Word :=
  match h with
  | [a, b, c, d, e, f, g, x] =>
    let s1 := rotr 6 e ^^^ rotr 11 e ^^^ rotr 25 e
    let ch := (e &&& f) ^^^ (~~~e &&& g)
    let t1 := x + s1 + ch + kw
    let s0 := rotr 2 a ^^^ rotr 13 a ^^^ rotr 22 a
    let mj := (a &&& b) ^^^ (a &&& c) ^^^ (b &&& c)
    [t1 + s0 + mj, a, b, c, d + t1, e, f, g]
  | h => h

/-- SHA-256 of one 64-byte block. -/
def shaBlock (h : List Word) (blk : List Byte) : List Word :=
  let w := (List.range 48).foldl (fun w i => shaNextW w (i + 16)) (wordsOfBE blk)
  let ks := shaPrimes.map (fun p => w32 (rootOf 3 (p * 2 ^ 96)))
  List.zipWith (· + ·) h ((List.zipWith (· + ·) ks w).foldl shaRound h)

/-- SHA-256, as 32 bytes (FIPS 180-4). -/
def sha256 (m : List Byte) : List Byte :=
  let z := (119 - m.length % 64) % 64
  let p := m ++ [0x80] ++ List.replicate z 0 ++ bytesBE 8 (m.length * 8)
  let h0 := (shaPrimes.take 8).map (fun q => w32 (rootOf 2 (q * 2 ^ 64)))
  wordBytesBE ((List.range (p.length / 64)).foldl (fun h i => shaBlock h ((p.drop (64 * i)).take 64)) h0)

/-- HMAC-SHA-256 truncated to 128 bits (R6), with a 256-bit key. -/
def hmac128 (key : Nat) (m : List Byte) : Nat :=
  let k := bytesBE 32 key ++ List.replicate 32 0
  let i := sha256 (k.map (· ^^^ 0x36) ++ m)
  ofBytesBE ((sha256 (k.map (· ^^^ 0x5C) ++ i)).take 16)

end Sys2Proof.Machine
end

