-- ==== Sys2Proof/Machine/Tab.lean ====
section
/-! DEFINITION. Sparse tables in one canonical form: keys strictly rising, and no entry equal to what an unlisted key reads as.
A register file, the controller memory and the counters are such tables. A table of entries that may be absent is the same list
with no default. -/

namespace Sys2Proof.Machine

open Sys2Proof

/-- A sparse table: key and value pairs, keys strictly rising. -/
abbrev Tab (α : Type) := List (Nat × α)

/-- The entry of a key, if it is listed. -/
def Tab.find? {α : Type} : Tab α → Nat → Option α
  | [], _ => none
  | (a, v) :: t, k => if a = k then some v else Tab.find? t k

/-- What a key reads as: its entry, or the default of an unlisted key. -/
def Tab.get {α : Type} (d : Nat → α) (t : Tab α) (k : Nat) : α := (Tab.find? t k).getD (d k)

/-- The table with a key's entry removed. -/
def Tab.erase {α : Type} : Tab α → Nat → Tab α
  | [], _ => []
  | (a, v) :: t, k => if a = k then t else if k < a then (a, v) :: t else (a, v) :: Tab.erase t k

/-- The table with a key's entry set, in its place. -/
def Tab.insert {α : Type} : Tab α → Nat → α → Tab α
  | [], k, x => [(k, x)]
  | (a, v) :: t, k, x =>
    if a = k then (k, x) :: t else if k < a then (k, x) :: (a, v) :: t else (a, v) :: Tab.insert t k x

/-- Write a key. Writing what an unlisted key reads as removes the entry, so that equal contents are equal tables. -/
def Tab.put {α : Type} [DecidableEq α] (d : Nat → α) (t : Tab α) (k : Nat) (x : α) : Tab α :=
  if x = d k then Tab.erase t k else Tab.insert t k x

/-- The keys are strictly rising. -/
def Tab.sorted {α : Type} : Tab α → Bool
  | [] => true
  | [_] => true
  | (a, _) :: (b, w) :: t => decide (a < b) && Tab.sorted ((b, w) :: t)

/-- The canonical form: keys strictly rising, no entry equal to its default. -/
def Tab.wf {α : Type} [DecidableEq α] (d : Nat → α) (t : Tab α) : Bool :=
  Tab.sorted t && t.all (fun e => decide (e.2 ≠ d e.1))

/-- The keys listed. -/
def Tab.keys {α : Type} (t : Tab α) : List Nat := t.map Prod.fst

/-- The least key below `n` that is not listed. -/
def Tab.freeKey {α : Type} (n : Nat) (t : Tab α) : Option Nat :=
  (List.range n).find? (fun k => (Tab.find? t k).isNone)

/-- Keep the entries that satisfy a test. -/
def Tab.keep {α : Type} (p : Nat → α → Bool) (t : Tab α) : Tab α := t.filter (fun e => p e.1 e.2)

/-- Apply a function to every listed entry. -/
def Tab.mapVal {α : Type} (f : Nat → α → α) (t : Tab α) : Tab α := t.map (fun e => (e.1, f e.1 e.2))

end Sys2Proof.Machine
end

