-- ==== Sys2Proof/Machine/State.lean ====
section
/-! DEFINITION. The state of the part, as plain data: every register, queue, table and counter the spec names, chapter by chapter,
and the queue of waiting commands. Counters and configuration fields are numbers, with the width the spec gives them kept by the
operations that write them; `INVENTORY.md` lists every field with its rule and its reset value. -/

namespace Sys2Proof.Machine

open Sys2Proof

/-- Reasons a step stops with a fault: none. Every row of the table has an effect in every state. -/
inductive Fault where
  /-- Raised by nothing: kept so that the type has a name; safe. -/
  | unreachable
deriving DecidableEq, Repr

/-- Reasons a step is refused. -/
inductive Refusal where
  /-- Raised by an arm of exec whose row has no meaning yet; safe. -/
  | notModelled (mnemonic : String)
deriving DecidableEq, Repr

/-! ### Commands in progress (chapter 02) -/

/-- What an accepted command keeps for its reply (R53, R61, R65, R69). -/
structure Ctx where
  via : Via
  op : Nat
  tag : Nat := 0
  /-- The SEQ echoed in the reply. -/
  seq : Nat := 0
  srcId : Nat := 0x3FFFF
  /-- The DEVICE_ID the device held when it accepted the command (R53). -/
  respId : Nat := 0x3FFFF
  /-- Accepted as authenticated. -/
  authed : Bool := false
  epoch : Nat := 0
  bootEpoch : Nat := 0
  /-- The reply engine's copy of the verifying key (R569); 0 when the command is not authenticated. -/
  key : Nat := 0
  /-- This unit mirrors the command to its partner and holds its own reply until the partner's (R463). -/
  mirrored : Bool := false
  /-- PE_PERST_N has been low since the command came over PCIe: its reply is discarded (R645). -/
  mute : Bool := false
  /-- Its MBX_CMD entry was issued before a management restart: the timing plane carries it out and its reply is discarded (R38). -/
  lost : Bool := false
deriving DecidableEq, Repr

/-- A reply that has been formed: status, detail and parameter words (R53, R57). -/
structure Rpl where
  status : Nat
  detail : Nat
  words : List Word
  /-- Further packets of the exchange, which follow the reply's own (R89). -/
  follow : List (List Word) := []
deriving DecidableEq, Repr

/-- The work a command in progress waits for. -/
inductive Work where
  /-- LANE.TRAIN until step 7, and whether its job has been admitted (R131). -/
  | laneTrain (lane : Nat) (preset started : Bool)
  /-- LANE.SKETCH (R133). -/
  | sketch (lane dwell : Nat)
  /-- BYPASS.SET, waiting for the pair's transition or for its turn, and whether it has taken effect (R161). -/
  | bypass (pair : Nat) (close acted : Bool)
  /-- BYPASS.POLICY with its words, waiting behind a command for its pair that waits (R68, R161). -/
  | policy (pair : Nat) (w0 w1 : Word)
  /-- TIME.SET with AT (R274): time base, new value, AT_TIME. -/
  | timeSet (tb : Nat) (value at_ : Nat)
  /-- TIME.STEP with AT (R276): time base, OFFSET in units of 2^-18 ns, AT_TIME. -/
  | timeStep (tb : Nat) (offset : Int) (at_ : Nat)
  /-- TIME.SLEW (R277): time base, OFFSET in units of 2^-18 ns, SLEW_MAX. -/
  | slew (tb : Nat) (offset : Int) (max : Nat)
  /-- MEAS.START with AT (R434): channel mask, AT_TIME on a time base. -/
  | measStart (mask : Nat) (tb at_ : Nat)
  /-- MEAS.STATS on a channel (R437). -/
  | stats (ch statN : Nat)
  /-- HAM.DISARM (R407): the outputs that were not IDLE, and those of them still to become IDLE. -/
  | hamDisarm (mask todo : Nat)
  /-- HAM.ALIGN (R408): outputs selected, still aligning, aligned and ended; its SLEW and ALIGN_SLEW. -/
  | hamAlign (mask todo aligned ended : Nat) (slew : Bool) (rate : Nat)
  /-- CAL.RUN on an item (R529). -/
  | calRun (item : Nat)
  /-- CAL.COMMIT (R532). -/
  | calCommit
  /-- CRUCIBLE.FLUSH (R551): 0 waiting for admission, 1 admitted, 2 its flush runs. -/
  | flush (phase : Nat)
  /-- ANNEAL.BLOCK (R577). -/
  | anneal (chan : Bool) (index : Nat)
  /-- A command that names a block under test, held with its parameters until the segment ends (R565). -/
  | blocked (chan : Bool) (index : Nat) (params : List Word)
  /-- A command that has not taken effect, behind one of its carrier and opcode group that has not either (R68), with its parameters. -/
  | behind (params : List Word)
  /-- CNT.READ (R609): its clamped FIRST, COUNT and CLEAR_OVF, the counters still to read, and the words read so far. -/
  | cntRead (first n : Nat) (clr : Bool) (left : Nat) (acc : List Word)
  /-- CNT.WRITE (R609): its clamped FIRST and N, the entries still to write, and the words of the counters written. -/
  | cntWrite (first n : Nat) (entries : List (Word × Word)) (acc : List Word)
  /-- HIER.ENROLL until the child's first answer (R318, R320), with the first four words of its reply. -/
  | enroll (child : Nat) (words : List Word)
  /-- HIER.BROADCAST (R88). -/
  | broadcast (id : Nat)
  /-- HIER.CLOSURE (R331). -/
  | closure (params : List Word)
  /-- MEM.IMAGE_WRITE (R601): slot, offset, number of the write, data, units of work left. -/
  | imageWrite (slot offset id : Nat) (data : List Word) (left : Nat)
  /-- SYS.BOOT_SLOT with WRITE (R639): the slot, and whether its job has been admitted. -/
  | bootSlot (slot : Nat) (admitted : Bool)
  /-- MEM.BGTEST (R602). -/
  | bgtest (first count : Nat)
  /-- A reply formed and waiting in a pair unit for the partner's (R463). -/
  | mirror (rpl : Rpl)
  /-- A command that waits for the timing plane to return to service (R39), with its parameters. -/
  | mailbox (params : List Word)
  /-- PAIR.SWITCH on the ACTIVE unit, until it has stood down (R481). -/
  | pairSwitch
deriving DecidableEq, Repr

/-- A command in progress (R67). -/
structure Job where
  ctx : Ctx
  work : Work
deriving DecidableEq, Repr

/-- A partly received command (R69). -/
structure Partial where
  srcId : Nat
  op : Nat
  tag : Nat
  destId : Nat
  words : List Word
  /-- Every segment so far carried AUTH = 1. -/
  allAuth : Bool
  /-- DETAIL of the first segment whose tag or sequence failed. -/
  fail : Option Nat
  epoch : Nat
  key : Nat
deriving DecidableEq, Repr

/-- One entry of the replay table (R63). -/
structure Replay where
  srcId : Nat
  /-- The destination form: addressed to the device's own DEVICE_ID rather than 0x3FFFF. -/
  own : Bool
  lastSeq : Nat
  epoch : Nat
deriving DecidableEq, Repr

/-- Where a relayed command goes back (R87): an ordinary carrier, or a broadcast of this manager (R88). -/
inductive RelayTo where
  | carrier (ctx : Ctx)
  | broadcast (id : Nat)
deriving DecidableEq, Repr

/-- A relay record (R87), with the child's address at the relay, and, while segments of its command are still to come, what they are known by
(R69). -/
structure Relay where
  tag : Nat
  srcId : Nat
  child : Nat
  mac : Nat
  back : RelayTo
  op : Nat := 0
  destId : Nat := 0
  more : Bool := false
deriving DecidableEq, Repr

/-- A command for another device that has been refused, or completed by its child's absence, while segments of it are still to come: they are
swallowed, and the last one brings the refusal's one reply, where that is still owed (R65, R69, R85). -/
structure RelayTail where
  srcId : Nat
  op : Nat
  tag : Nat
  destId : Nat
  owed : Option (Nat × Nat)
deriving DecidableEq, Repr

/-- The Axger interface (chapter 02). -/
structure Axg where
  /-- AXG_ERR fields (R95), 8 bits each, saturating. -/
  badHdr : Nat := 0
  malformed : Nat := 0
  authFails : Nat := 0
  reasmDrop : Nat := 0
  /-- SYS.AXG_CONFIG (R94). -/
  etype : Nat := 0x88B5
  mtu : Nat := 1500
  authReq : Bool := true
  inbandEn : Bool := true
  groupEn : Bool := true
  /-- Ring registers (R77) and doorbells (R78). -/
  cringBase : Nat := 0
  cringSize : Nat := 6
  rringBase : Nat := 0
  rringSize : Nat := 6
  axgWb : Nat := 0
  axgVec : Nat := 0
  axgVecEn : Bool := false
  cmdPi : Nat := 0
  cmdCi : Nat := 0
  rplPi : Nat := 0
  rplCi : Nat := 0
  /-- The command consumer index last written to AXG_WB (R76, R443). -/
  wbCi : Nat := 0
  /-- Words between the consumer index and CMD_PI that wait in the part for room (R67, R75). -/
  cmdRing : List Word := []
  /-- Replies waiting for room in the reply ring, oldest first (R76). -/
  rplWait : List (List Word) := []
  /-- SPI reply queue, oldest first (R81), and SPI_OVF (R79). -/
  spiQ : List (List Word) := []
  spiOvf : Bool := false
  /-- Packets in the SPI command buffer, oldest first (R80). -/
  spiBuf : List (List Word) := []
  /-- Replay table (R63), at most 64 entries. -/
  replay : List Replay := []
  /-- Partly received commands (R69), oldest last segment first, at most 64. -/
  partials : List Partial := []
  /-- Commands in progress (R67), oldest first. -/
  jobs : List Job := []
  /-- Relay records (R87), at most 1,024. -/
  relays : List Relay := []
  /-- Commands refused at the relay whose segments are still coming, at most one for each SRC_ID and 64 in all. -/
  tails : List RelayTail := []
  /-- INBAND_AUTH_REQ as it stood when the packet now taken from PQ_CMD arrived (R94). -/
  arrivedReq : Option Bool := none
deriving DecidableEq, Repr

/-! ### The root clock and the planes (chapter 01) -/

/-- CLK_STATUS, ROOT_OFFSET and PLANE_STATUS (R48-R50), with the tick count (R241). XO_PRESENT, whose Reset column holds a dash, is 1 in State.reset:
edges arrive on XO_IN (DESIGN CHOICE, notes/assumptions/82.md). -/
structure Clk where
  tick : Nat := 0
  rootLock : Bool := false
  xoPresent : Bool := true
  xoLoss : Bool := false
  rootClamp : Bool := false
  /-- Steering of CK_ROOT in units of 2^-48, and the value it moves to at no more than 1 ppm per ms (R41). -/
  steer : Int := 0
  steerTo : Int := 0
  tpUp : Bool := false
  dpUp : Bool := false
  tpFault : Bool := false
  mbxEvtLost : Bool := false
  pqRegEvtLost : Bool := false
  mgtRestarts : Nat := 0
deriving DecidableEq, Repr

/-- What leaves the part, oldest first: the model's record of its outputs. -/
inductive Output where
  /-- The part writes host memory over PCIe. -/
  | hostWrite (addr : Nat) (bytes : List Byte)
  /-- The part signals an MSI-X vector. -/
  | msix (vec : Nat)
  /-- A host bus read returns these words. -/
  | read (words : List Word)
  /-- A frame leaves a port, FCS valid or invalidated; one that ends early leaves with the bytes its copy sent (R196). -/
  | frame (port : Nat) (bytes : List Byte) (fcsOk : Bool)
  /-- A lane sends a doze ordered set or burst: lane and the 24-bit payload of R115, or 0 for a burst. -/
  | ordered (lane payload : Nat)
  /-- A port begins (true) or ends sending Remote Fault (R139). -/
  | remoteFault (port : Nat) (on : Bool)
  /-- A lane answers a Clause 72 request with a status report (R107). -/
  | cl72Status (lane status : Nat)
  /-- A lane sends a Clause 72 coefficient update request (R106, R109, R131). -/
  | cl72Request (lane request : Nat)
  /-- A Hammer output changes level at a time in units of 2^-64 ns of its time base. -/
  | hamEdge (ham : Nat) (level : Bool) (time : Nat)
  /-- A record is dropped at the queue that carries it (R29, R35). -/
  | lost (queue : Nat)
deriving DecidableEq, Repr

/-! ### The event record (chapter 17) -/

/-- A Crucible record without the fields its place gives it (R536). `time` is in units of 2^-64 ns. -/
structure Rec where
  time : Nat := 0
  code : Nat := 0
  source : Nat := 0
  repeat_ : Nat := 0
  sev : Nat := 0
  latched : Bool := false
  unset : Bool := false
  holdover : Bool := false
  island : Bool := false
  d5 : Word := 0
  d6 : Word := 0
  d7 : Word := 0
deriving DecidableEq, Repr

/-- First-fault latch state (R543). -/
inductive LatchSt where
  | armed | filling | full
deriving DecidableEq, Repr

/-- Why a flush runs (R544, R549). -/
inductive FlushBy where
  | fault | command | gasp
deriving DecidableEq, Repr

/-- A snapshot that a flush writes, and an image as it stands in MRAM (R546-R548). -/
structure Image where
  epoch : Nat := 0
  seq : Nat := 0
  total : Nat := 0
  base : Nat := 0
  latchSt : LatchSt := .armed
  latchFirst : Nat := 0
  latch : List Rec := []
  /-- Newest record first. -/
  ring : List Rec := []
  trigger : FlushBy := .fault
  lg0 : Word := 0
  lg1 : Word := 0
  lg2 : Word := 0
  /-- Trailer and CRC written: the image is COMPLETE; otherwise it is TORN. -/
  complete : Bool := true
deriving DecidableEq, Repr

/-- The Crucible block (R533). -/
structure Cru where
  /-- Intake FIFO, oldest first, at most 256 (R539). -/
  fifo : List Rec := []
  /-- Ring, newest first, at most 4,096 (R542). -/
  ring : List Rec := []
  total : Nat := 0
  base : Nat := 0
  latchSt : LatchSt := .armed
  latch : List Rec := []
  latchFirst : Nat := 0
  /-- A fault flush is owed for the present latch fill (R544). -/
  latchFlushDue : Bool := false
  /-- TICK at which the latch left ARMED (R544), and the first one in which the ring may take its next record (R539). -/
  latchTick : Nat := 0
  nextTake : Nat := 0
  /-- Pending loss count (R541), with the record that will carry it timed at the first loss. -/
  lossCount : Nat := 0
  lossRec : Rec := {}
  lossLastNs : Nat := 0
  /-- The 16 most recently accepted records: code, source, REPEAT and tick of the last occurrence, newest first (R540). -/
  recent : List (Nat × Nat × Nat × Nat) := []
  /-- A flush in progress: its snapshot (R545). -/
  flushing : Option Image := none
  /-- Flushes that wait for the one in progress (R549). -/
  flushWait : List FlushBy := []
  /-- A fault flush that fell due while MPI is down (R544). -/
  flushDeferred : Bool := false
  /-- The slot this run writes (R548). -/
  slot : Nat := 0
  /-- This run has written an image (R550). -/
  written : Bool := false
  /-- Previous image: slot, when there is one (R548). -/
  prevSlot : Option Nat := none
deriving DecidableEq, Repr

/-! ### The energy ledger (chapter 15) -/

/-- What a ledger job does once admitted (R485). -/
inductive JobFor where
  /-- A calibration step: 0 of the round-robin, 1 of a CAL.RUN, 2 a pass that R426 deferred. -/
  | calStep (item origin : Nat)
  /-- A commit, of a CAL.COMMIT or of the round-robin (R525). -/
  | calCommit (cmd : Bool)
  | sketch (lane : Nat)
  | train (lane : Nat)
  | annealSeg (chan : Bool) (index : Nat)
  | bgRegion
  | flush
  | imageWrite (id : Nat)
  | bootSlot (slot : Nat)
deriving DecidableEq, Repr

/-- A job waiting for admission (R488, R489). -/
structure LedJob where
  code : Nat
  cost : Nat
  what : JobFor
deriving DecidableEq, Repr

/-- Hold-up values as BELLOWS.HOLDUP writes them (R504). -/
structure HuCfg where
  en : Bool
  eff : Nat
  cap : Nat
  vmin : Nat
  ratio : Nat
  load : Nat
  gaspPort : Nat
deriving DecidableEq, Repr

/-- The ledger (R483-R505). -/
structure Led where
  budget : Nat := 50
  window : Nat := 100
  /-- BUDGET in mJ and WINDOW in ms in force in the window in progress, and the TICK it began at (R487). -/
  budgetNow : Nat := 50
  windowNow : Nat := 100
  windowStart : Nat := 0
  /-- The head of the queue is to be tested (R489). -/
  test : Bool := false
  enable : Bool := true
  /-- Credit C in uJ (R487). -/
  credit : Int := 0
  waiting : List LedJob := []
  admitted : Nat := 0
  /-- Rail energies in uJ: of the window in progress and of the last one (R484). -/
  eAcc : List Nat := List.replicate 8 0
  eRail : List Nat := List.replicate 8 0
  pPeak : List Nat := List.replicate 8 0
  eTotal : Nat := 0
  /-- TICK at which the last 1 ms interval ended (R483). -/
  meterTick : Nat := 0
  /-- The hold-up values in force, and those written that the next mean brings into force (R504). -/
  huEn : Bool := false
  huEff : Nat := 85
  huCap : Nat := 1000
  huVmin : Nat := 10000
  huRatio : Nat := 1000
  huLoad : Nat := 0
  gaspPort : Nat := 0x7F
  huNext : Option HuCfg := none
  /-- The last samples of HOLDUP_SNS in uV, newest first, at most 16; V in mV and E_usable in uJ at the last mean (R492). -/
  samples : List Nat := []
  vHu : Nat := 0
  eUsable : Nat := 0
  covered : Bool := false
  huLow : Bool := false
  /-- TICK since which COVERED has been 0 with HU_EN = 1 (R494). -/
  uncovered : Option Nat := none
deriving DecidableEq, Repr

/-- The last-gasp summary kept in MRAM (R498, R505). -/
structure Gasp where
  pfail : Bool := false
  railFault : Bool := false
  rail : Nat := 0
  covered : Bool := false
  vHu : Nat := 0
  eUsable : Nat := 0
  epoch : Nat := 0
deriving DecidableEq, Repr

/-! ### Self-test and security (chapter 18) -/

/-- A result record of R558. -/
structure TestRec where
  /-- 0 IN_PROGRESS, 1 PASS, 2 FAIL. -/
  status : Nat := 0
  full : Bool := false
  expected : Nat := 0
  completed : Nat := 0
  firstFail : Nat := 0xFFFFFFFF
  nFail : Nat := 0
  runH : Nat := 0
  epoch : Nat := 0
  /-- Test time in us (R578). -/
  duration : Nat := 0
deriving DecidableEq, Repr

/-- Which self-test runs (R554). -/
inductive TestKind where
  | pass | full
deriving DecidableEq, Repr

/-- A block anneal in progress or its result (R564, R577, R578). -/
structure Block where
  chan : Bool
  index : Nat
  expected : Nat
  completed : Nat := 0
  firstFail : Nat := 0xFFFFFFFF
  nFail : Nat := 0
  errors : Nat := 0
  /-- A segment is running, rather than waiting for admission. -/
  running : Bool := false
  runH : Nat := 0
  epoch : Nat := 0
  duration : Nat := 0
deriving DecidableEq, Repr

/-- Life-cycle states (R566). -/
inductive Lc where
  | manufacture | provisioned | operational | decommissioned
deriving DecidableEq, Repr

/-- The tamper latch, held in the vault domain (R571, R583). -/
structure Tamper where
  t0 : Bool := false
  t1 : Bool := false
  vbatLoss : Bool := false
  vGlitch : Bool := false
  cGlitch : Bool := false
  wiped : Bool := false
  count : Nat := 0
  /-- Each TAMPER input may raise its cause again (R571). -/
  armed0 : Bool := true
  armed1 : Bool := true
  vbatLow : Bool := false
  /-- VBAT fell below 1.6 V and has not risen to 1.8 V yet. -/
  vbatLost : Bool := false
deriving DecidableEq, Repr

/-- Security and self-test state outside MRAM (R554-R573). -/
structure Sec where
  /-- Hours of this run that RUN_H counts (R561). -/
  hours : Nat := 0
  wipeFail : Bool := false
  scanArmed : Bool := false
  fuse : Bool := false
  lastQuick : Bool := false
  /-- The anneal pass in progress, and its record's last rewrite (R556). -/
  testing : Option TestKind := none
  test : TestRec := {}
  blocks : List Block := []
  lastBlock : Option Block := none
deriving DecidableEq, Repr

/-! ### Controller memory (chapter 19) -/

/-- Steps of a borrowed region (R592). -/
inductive Borrow where
  | copy | switch | test | restore | release
deriving DecidableEq, Repr

/-- A background test in progress (R602). -/
structure BgTest where
  first : Nat
  count : Nat
  tested : Nat := 0
  stop : Bool := false
  /-- The step of the region now borrowed; none while its job waits. -/
  step : Option Borrow := none
  owner : Option Ctx
deriving DecidableEq, Repr

/-- Controller memory and the test engine (R585-R595). -/
structure Mem where
  /-- The 2 MiB of controller memory, sparse; an unlisted byte reads 0 (R586: DESIGN CHOICE). -/
  bytes : List Host.Cell := []
  /-- The shadow's 4 KiB, in the same form, and the region served from it (R591, R592). -/
  shadow : List Host.Cell := []
  inUse : Option Nat := none
  retired : Option Nat := none
  bg : Option BgTest := none
  /-- MRAM writes of code 11 admitted and in progress, oldest first (R596, R601, R639). -/
  writes : List JobFor := []
deriving DecidableEq, Repr

/-! ### Start and reset (chapter 21) -/

/-- Power state (R502, R557, R622-R625). -/
inductive Power where
  /-- Supply rails out of range, or the power-on detector not released (R622). -/
  | unpowered
  /-- RESET_N low (R624). -/
  | held
  /-- Waiting for reset release (R623). -/
  | waiting
  /-- RUN (R502). -/
  | run
  | parked
  | stopped
deriving DecidableEq, Repr

/-- The management plane (R36-R38, R631). -/
inductive Mpi where
  /-- Firmware runs. -/
  | up
  /-- Steps 1 to 6 of a start: no firmware runs yet (R625). -/
  | starting
  /-- Firmware hangs while the plane is powered (R36, R663). No row of the table brings a hang about. -/
  | hung
  /-- Cut off, after a watchdog firing or a SYS.RESTART with SCOPE 1 (R19). -/
  | down
  /-- The boot ROM serves the recovery state (R631). -/
  | recovery
deriving DecidableEq, Repr

/-- A shutdown or restart whose reply has not left yet (R556, R638). -/
inductive Stop where
  | shutdown (noPass : Bool)
  | restart
  | mgmtRestart
deriving DecidableEq, Repr

/-- Start and reset state (R640). -/
structure Start where
  power : Power := .waiting
  mpi : Mpi := .up
  resetN : Bool := true
  pfailN : Bool := true
  podReleased : Bool := true
  perstN : Bool := true
  pcieUp : Bool := false
  cause : Nat := 0
  kind : Nat := 0
  done : Bool := false
  fallback : Bool := false
  trunc : Bool := false
  /-- The script has issued all its commands; START_DONE follows the last waiting one (R627). -/
  scriptEnded : Bool := false
  prevImage : Nat := 0
  tamperStart : Bool := false
  bootFails : Nat := 0
  startUs : Nat := 0
  lockUs : Nat := 0
  testUs : Nat := 0
  /-- Reset release to the issue of the script's last command as measured, and the TICK of that step: START_US adds what passes until START_DONE. -/
  scriptUs : Nat := 0
  scriptAt : Nat := 0
  scriptCmds : Nat := 0
  scriptErrs : Nat := 0
  firstErr : Nat := 0xFFFF
  firstErrStat : Nat := 0
  slot : Nat := 0
  version : Nat := 0
  watchdog : Bool := false
  stop : Option Stop := none
deriving DecidableEq, Repr

/-- What holds ALARM_N low (R45, R494, R502, R563, R571, R623, R631). -/
structure Alarms where
  xo : Bool := false
  huLow : Bool := false
  parked : Bool := false
  testFail : Bool := false
  tamper : Bool := false
  waitRelease : Bool := false
  recovery : Bool := false
deriving DecidableEq, Repr

/-- Values fixed at manufacture (R4, R93). -/
structure Fused where
  /-- A word of the secure region or area does not read back as 0, so that every wipe fails (R568). -/
  secureDefect : Bool := false
  /-- VARIANT is CTX-9632-MI. -/
  mi : Bool := true
  mgtMac : Nat := 0
deriving DecidableEq, Repr

/-! ### Lanes (chapter 03) -/

/-- A set of transmit FIR taps (R108). -/
structure Taps where
  pre : Nat := 3
  main : Nat := 42
  post : Nat := 17
deriving DecidableEq, Repr

/-- Phase of a transmit direction's doze (R117-R120). -/
inductive Doze where
  | awake | entering | dozing | exiting
deriving DecidableEq, Repr

/-- Boundaries of one row of an eye scan: left and right at 10^-3, 10^-6, 10^-9, 10^-12; none reads 0x80 (R134). -/
structure EyeRow where
  l3 : Option Int := none
  r3 : Option Int := none
  l6 : Option Int := none
  r6 : Option Int := none
  l9 : Option Int := none
  r9 : Option Int := none
  l12 : Option Int := none
  r12 : Option Int := none
deriving DecidableEq, Repr

/-- The results of an eye scan (R134). -/
structure Eye where
  stat : Nat := 0
  dwell : Nat := 0
  deepest : Nat := 0
  finePoints : Nat := 0
  width : Nat := 0
  height : Nat := 0
  rows : List EyeRow := []
deriving DecidableEq, Repr

/-- One serial lane (R129, R130, R132, R134, R135). -/
structure Lane where
  rate : Nat := 3
  enable : Bool := false
  txInvert : Bool := false
  rxPolAuto : Bool := true
  rxInvert : Bool := false
  trainEn : Bool := false
  txReverse : Bool := false
  medium : Nat := 0
  cfgTaps : Taps := {}
  taps : Taps := {}
  /-- STEP: 0 disabled, 1-7 of R100. -/
  step : Nat := 0
  pllLock : Bool := false
  signal : Bool := false
  cdrLock : Bool := false
  blockLock : Bool := false
  rxInverted : Bool := false
  trained : Bool := false
  chotonPartner : Bool := false
  txDoze : Bool := false
  rxDoze : Bool := false
  lpiTx : Bool := false
  lpiRx : Bool := false
  solo : Bool := false
  partnerDozeOk : Bool := false
  burst : Bool := false
  /-- Burst attempts made since the loss (R110). -/
  attempts : Nat := 0
  doze : Doze := .awake
  /-- DOZE_OK of the flags last sent (R115). -/
  flagsSent : Option Bool := none
  dozeEn : Bool := false
  lpiEn : Bool := false
  dozeIdle : Nat := 50
  lockLosses : Nat := 0
  retrainFails : Nat := 0
  dozeExitErr : Nat := 0
  codeErrors : Nat := 0
  rxOrder : Nat := 0
  reversed : Bool := false
  rxReady : Bool := false
  /-- Requests the own receiver has sent in this training, and its figures of merit in 10^-3 dB after the last 17 of them, oldest first (R109). -/
  reqs : Nat := 0
  foms : List Int := []
  /-- A LANE.TRAIN restarted the lane, with PRESET (R131). -/
  preset : Bool := false
  sketching : Bool := false
  /-- The lane left step 7 since the running scan started (R127). -/
  scanLost : Bool := false
  eye : Eye := {}
  loopMode : Nat := 0
  prbsErrors : Nat := 0
  /-- The first tick in which receive, and transmit, stamps are no longer COARSE after a lock, an alignment or a wake (R257). -/
  coarseRx : Nat := 0
  coarseTx : Nat := 0
deriving DecidableEq, Repr

/-! ### Ports, rings and bypass pairs (chapter 04) -/

/-- Port states (R167). -/
inductive PortSt where
  | disabled | down | filter | up | bypassed
deriving DecidableEq, Repr

/-- One port (R166-R168, R214, R215, R272, R314 and the counters read as events). -/
structure Port where
  fecMode : Nat := 0
  maxFrame : Nat := 1518
  enable : Bool := false
  lfFilter : Nat := 50
  st : PortSt := .disabled
  localFault : Bool := false
  remoteFault : Bool := false
  alignLost : Bool := false
  /-- The port sends Remote Fault (R139). -/
  faultTx : Bool := false
  flushDrops : Nat := 0
  downDrops : Nat := 0
  rxTrunc : Nat := 0
  txTrunc : Nat := 0
  lfEvents : Nat := 0
  lfRecovered : Nat := 0
  oversize : Nat := 0
  runt : Nat := 0
  fecCorrected : Nat := 0
  fecUncorrected : Nat := 0
  pauseDrops : Nat := 0
  dupCut : Nat := 0
  pvid : Nat := 1
  defPcp : Nat := 0
  pcpMap : Nat := 0xFAC681
  cut : Nat := 0
  stampVerifyErr : Nat := 0
  cfSaturated : Nat := 0
  tcIcvStale : Nat := 0
  stampMiss : Nat := 0
deriving DecidableEq, Repr

/-- One ring instance (R147, R169). -/
structure Ring where
  mode : Nat := 0
  lanId : Nat := 0
  portA : Nat := 0x7F
  portB : Nat := 0x7F
  interlink : Nat := 0x7F
  entryForget : Nat := 400
  nodeForget : Nat := 60
  supInterval : Nat := 2000
  supAddr : Nat := 0
  /-- The instance's next sequence number (R148). -/
  seq : Nat := 0
deriving DecidableEq, Repr

/-- One node-table entry (R151, R170). -/
structure Node where
  sa : Nat
  ring : Nat
  highSeq : Nat
  /-- The window W: bit a marks HIGH_SEQ - a as seen. -/
  win : Nat
  /-- W has been cleared by ENTRY_FORGET: the next frame restarts the window. -/
  cleared : Bool := false
  seenA : Bool
  seenB : Bool
  /-- TICK of the entry's last frame. -/
  last : Nat
deriving DecidableEq, Repr

/-- Bypass pair states (R173). -/
inductive PairSt where
  | closed | opening | probing | opened | closing
deriving DecidableEq, Repr

/-- One bypass pair (R155-R161, R171-R173). -/
structure Bypass where
  st : PairSt := .closed
  /-- A PROBING pair's lanes have been released at tick 62,500 (R160). -/
  released : Bool := false
  auto : Bool := false
  openProbe : Nat := 50
  retryGap : Nat := 10
  held : Bool := false
  lastCause : Nat := 0
  probeFails : Nat := 0
  closes : Nat := 0
  /-- The wait of RETRY_GAP is running (R159). -/
  retrying : Bool := false
deriving DecidableEq, Repr

/-! ### Forwarding and the shared buffer (chapters 05, 06) -/

/-- A stamp as the timing plane holds it: its tick, its sub-tick term in units of 2^-64 ns of root time (R251), and its time on each of
TB0-TB7 in units of 2^-64 ns with the tag word of R258, both as they stood in that tick, so that later steps never change them (R248,
R252). -/
structure Stamp where
  tick : Nat := 0
  sub : Int := 0
  times : List Nat := []
  tags : List Word := []
deriving DecidableEq, Repr

/-- One forwarding-database entry (R182). -/
structure Fdb where
  mac : Nat
  fid : Nat
  dest : Nat
  static : Bool
  hit : Bool
deriving DecidableEq, Repr

/-- One stream-table entry (R187, R211). -/
structure Stream where
  da : Nat
  etype : Nat
  appid : Nat
  appidEn : Bool
  tagMode : Bool
  vid : Nat
  dest : Nat
  cls : Nat
  spark : Bool
  cut : Bool
  sparkLen : Nat
deriving DecidableEq, Repr

/-- One VLAN entry (R213). -/
structure Vlan where
  fid : Nat
  valid : Bool := false
  learn : Bool := true
  member : Nat := 0
  untag : Nat := 0
deriving DecidableEq, Repr

/-- One punt rule (R205, R216). -/
structure Punt where
  action : Nat := 0
  inPort : Nat := 0x7F
  daAny : Bool := true
  etypeAny : Bool := true
  protoAny : Bool := true
  dportAny : Bool := true
  da : Nat := 0
  etype : Nat := 0
  proto : Nat := 0
  dport : Nat := 0
  hits : Nat := 0
deriving DecidableEq, Repr

/-- The forwarding tables (chapter 05). -/
structure Fwd where
  fdb : Tab Fdb := []
  groups : Tab Nat := []
  ageTime : Nat := 300
  ageEn : Bool := true
  learnFull : Nat := 0
  /-- The tick of the last event record of a failed learning insert (R184). -/
  learnNoted : Option Nat := none
  moves : Nat := 0
  moveBlocked : Nat := 0
  streams : Tab Stream := []
  vlans : Tab Vlan := []
  punts : Tab Punt := []
  /-- PUNT_DROP_TIME, PUNT_DROP_CMD, PUNT_DROP_HOST (R25). -/
  puntDropTime : Nat := 0
  puntDropCmd : Nat := 0
  puntDropHost : Nat := 0
deriving DecidableEq, Repr

/-- The terms of a session that a marked frame leaves with, as they stood when it was enqueued (R291, R293): time base, latencies in units of
2^-16 ns, the delay and asymmetry of the link in units of 2^-18 ns, and what signs it. -/
structure Terms where
  tb : Nat := 0
  ingress : Int := 0
  egress : Int := 0
  link : Int := 0
  auth : Nat := 0
  txKey : Nat := 0
  cfExcl : Bool := false
deriving DecidableEq, Repr

/-- What rewriting a transmitted frame is marked for (R21, R260): none, or the session or transparent clock that owns it. -/
inductive Mark where
  | none
  /-- A message the engine sends for a session (R261). -/
  | session (sid : Nat) (x : Terms)
  /-- A one-step Pdelay_Resp of a session, with the receive stamp of its Pdelay_Req (R293). -/
  | turnaround (sid : Nat) (x : Terms) (rx : Stamp)
  /-- A transit message crossing a transparent clock: its sessions on the ingress and the egress port (R265, R285). -/
  | transit (inSid outSid : Nat) (x y : Terms)
  /-- A frame of the twin link (R465). -/
  | twin
  /-- A closure probe of a run: its direction (R332). -/
  | probe (dir : Nat)
deriving DecidableEq, Repr

/-- Why a frame is punted to the host (R446), or which plane queue it waits in. -/
inductive PuntTo where
  | time
  | cmd
  | host (reason rule : Nat)
deriving DecidableEq, Repr

/-- How a copy leaves the buffer. -/
inductive CopySt where
  /-- A store-and-forward target of a frame that has not ended (R193, R227). -/
  | pending
  /-- On its egress queue. -/
  | queued
  /-- In transmission. -/
  | sending
deriving DecidableEq, Repr

/-- One enqueue of a stored frame on an egress queue (R223, R229). -/
structure Copy where
  frame : Nat
  port : Nat
  /-- Class 0-7, or 8 for the spark queue. -/
  queue : Nat
  charge : Nat
  st : CopySt
  /-- The tag edit of R181: none, leave untagged, or leave with a TCI. -/
  tag : Option (Option Nat) := none
  /-- HSR or PRP edit (R148-R150): 0 none, 1 as received with its HSR tag, 2 a new HSR tag, 3 an RCT. -/
  red : Nat := 0
  redSeq : Nat := 0
  /-- PathId of a new HSR tag or LanId of an RCT. -/
  redLan : Nat := 0
  mark : Mark := .none
  /-- An insert descriptor that awaits the transmit stamp (R448). -/
  insIdx : Option Nat := none
  txStamp : Option Stamp := none
  /-- The copy cuts through, rather than waiting for the frame's end (R192). -/
  cut : Bool := false
  /-- RATE_TOTAL of the eight time bases in the tick of its selection (R262, R265). -/
  rates : List Int := []
  /-- The frame leaves with an invalidated FCS, its overlay having missed (R23). -/
  missed : Bool := false
deriving DecidableEq, Repr

/-- One punt-queue entry of a stored frame (R24, R25, R229). -/
structure PuntItem where
  frame : Nat
  dst : PuntTo
  /-- INBAND_AUTH_REQ when the frame arrived, which binds a command that waits in PQ_CMD (R94). -/
  authReq : Bool := true
deriving DecidableEq, Repr

/-- What a spark frame saw of the tables at its match (R28, R198): its stream entry, its VLAN, and the ring role of its port. -/
structure SparkView where
  entry : Stream
  vid : Nat
  vlan : Vlan
  role : Option (Nat × Ring × Nat) := none
deriving DecidableEq, Repr

/-- One stored frame (R220), with the bytes that have arrived so far, its FCS among them once it has ended. -/
structure Frame where
  id : Nat
  bytes : List Byte
  /-- Ingress port, or 0x7F for an inserted frame. -/
  inPort : Nat
  /-- The cells of its chain, HEAD first; each cell's NEXT is the one after it (R220). -/
  chain : List Nat := []
  rx : Stamp := {}
  ended : Bool := false
  /-- It ended with a bad FCS, which a punt copy taken at byte 127 reports (R446). -/
  badFcs : Bool := false
  /-- It arrived on an HSR ring port, so that an HSR tag of it is recognised (R175); it carries an RCT that its port's role recognises (R149). -/
  hsrIn : Bool := false
  rct : Bool := false
  /-- A spark frame (R198). -/
  spark : Option SparkView := none
  /-- A spark frame whose fixed punts and copy rules have been decided at byte 127 (R202). -/
  punted : Bool := false
  /-- Its target set has been decided, so that it is freed when nothing refers to it (R231). -/
  decided : Bool := false
  /-- It passed step 3 of R177 in a VLAN that learns: the FID to learn under (R184). -/
  learn : Option Nat := none
  /-- A copy was refused by admission or by a punt cap (R613). -/
  refused : Bool := false
  /-- At least one enqueue was accepted (R613). -/
  accepted : Bool := false
  /-- At least one copy reached its destination (R610). -/
  delivered : Bool := false
  /-- Bytes that had arrived by its last step, and the tick of that step: the others arrive at the rate of its port (R222). -/
  base : Nat := 0
  since : Nat := 0
  /-- Segments that have arrived, and those of them counted in PEND, by pipeline lane (R174, R611). -/
  seen : Nat := 0
  segs : Tab Nat := []
  /-- The final fate, once nothing refers to the frame: delivered, and the event of its scrap cause (R611, R613). Its cells are free. -/
  fate : Option (Bool × Nat) := none
deriving DecidableEq, Repr

/-- A frame in an insert queue (R206). -/
structure Ins where
  bytes : List Byte
  lookup : Bool := false
  port : Nat := 0
  cls : Nat := 0
  vid : Nat := 0
  mark : Mark := .none
  insIdx : Option Nat := none
deriving DecidableEq, Repr

/-- The copy path of an insert queue: the frame being copied in, and its segments not yet given a slot (R174, R222). -/
structure CopyPath where
  frame : Nat
  left : Nat
deriving DecidableEq, Repr

/-- The registers of R77 and R444 and the MSI-X table, as the copy in DPI keeps them (R30, R443). -/
structure HostRegs where
  cringBase : Nat := 0
  cringSize : Nat := 6
  rringBase : Nat := 0
  rringSize : Nat := 6
  axgWb : Nat := 0
  axgVec : Nat := 0
  axgVecEn : Bool := false
  pringBase : Nat := 0
  pringSize : Nat := 6
  pbufSize : Nat := 2048
  iringBase : Nat := 0
  iringSize : Nat := 6
  dmaWb : Nat := 0
  puntVec : Nat := 0
  puntVecEn : Bool := false
  insVec : Nat := 0
  insVecEn : Bool := false
  msix : Tab Word := []
deriving DecidableEq, Repr

/-- A register operation waiting in IQ_REG (R28, R30): a host write that has been posted. A table or counter operation of a command and a host
read are applied, behind those that wait, in the step that issues them. -/
inductive RegOp where
  /-- A W1C write of PLANE_STATUS (R50). -/
  | planeW1C (mask : Word)
  /-- The copy of the host's registers takes their values (R443). -/
  | copy (regs : HostRegs)
deriving DecidableEq, Repr

/-- The shared buffer and the queues between the planes (chapters 01, 06). -/
structure Buf where
  poolSize : Nat := 152768
  alpha : Nat := 0x88888888
  alphaSpark : Nat := 8
  poolPeak : Nat := 0
  /-- MIN(p, q), keyed 9p + q. -/
  mins : Tab Nat := []
  admitDrops : Tab Nat := []
  frames : List Frame := []
  /-- Enqueues, in enqueue order. -/
  copies : List Copy := []
  /-- Punt-queue entries of PQ_TIME, PQ_CMD and PQ_HOST, oldest first. -/
  punted : List PuntItem := []
  nextId : Nat := 0
  iqTime : List Ins := []
  iqCmd : List Ins := []
  iqHost : List Ins := []
  /-- The copy paths in use: 0 IQ_TIME, 1 IQ_CMD, 2 IQ_HOST. -/
  paths : Tab CopyPath := []
  iqReg : List RegOp := []
  /-- Register operations that wait in the management plane for a slot (R27, R29). -/
  regWait : List RegOp := []
  /-- Event entries waiting in PQ_REG, oldest first: the record of each, where it carries one. Operations in IQ_REG have reserved a slot of
  their own (R29). -/
  pqReg : List (Option Rec) := []
  /-- Entries waiting in MBX_EVT, oldest first, and events dropped at it since the part started (R35). -/
  mbxEvt : List (Option Rec) := []
  mbxEvtDrops : Nat := 0
  /-- Replies waiting in MBX_RPL while the management plane hangs (R31, R35). -/
  mbxRpl : List (Ctx × Rpl) := []
deriving DecidableEq, Repr

/-! ### Host buses (chapter 13) -/

/-- An insert descriptor fetched and not yet done (R447, R448). -/
structure InsDesc where
  idx : Nat
  /-- Word 3 as the host wrote it. -/
  word3 : Word := 0
  stampReq : Bool
  /-- Its frame has been copied, dropped or stamped. -/
  ready : Bool := false
  dropped : Bool := false
  stamp : Option Stamp := none
deriving DecidableEq, Repr

/-- Punt and insert rings, MSI-X, Shosibin and JTAG (chapter 13). -/
structure Hst where
  pringBase : Nat := 0
  pringSize : Nat := 6
  pbufSize : Nat := 2048
  iringBase : Nat := 0
  iringSize : Nat := 6
  dmaWb : Nat := 0
  puntVec : Nat := 0
  puntVecEn : Bool := false
  insVec : Nat := 0
  insVecEn : Bool := false
  puntPi : Nat := 0
  puntCi : Nat := 0
  insPi : Nat := 0
  insFetch : Nat := 0
  insCi : Nat := 0
  insDescs : List InsDesc := []
  /-- MSI-X table words and pending bits (R438, R439). -/
  msix : Tab Word := []
  msixPend : Nat := 0
  /-- The copy of these registers and of the command rings' that DPI keeps for a management restart (R443). -/
  copy : HostRegs := {}
  /-- Shosibin holding registers: words 4n+1 to 4n+3, and 60 (R453). -/
  sbpHold : Tab Word := []
  /-- Snap words 32-55, 57 and 58 (R455). -/
  snapWords : Tab Word := []
  /-- Pending capture: its words 32-55, 57, 58, and its UNCAL and COARSE bits (R454). -/
  snapPend : Option (List Word × Bool × Bool) := none
  snapOverrun : Nat := 0
  snapMissed : Nat := 0
  /-- Time of the last captured SBP_SNAP edge, in ps since root lock. -/
  snapLast : Option Nat := none
  /-- TAP instruction decoded (R457), IDCODE after a TAP reset. -/
  tap : Jtag := .idcode
  /-- The boundary register: its cells whose captured level is high (R458). -/
  bsr : List BPin := []
deriving DecidableEq, Repr

/-! ### Performance counters (chapter 20) -/

/-- One programmable counter (R604-R608). -/
structure Cnt where
  event : Nat := 0
  level : Bool := false
  enable : Bool := false
  inst : Nat := 0x7F
  queue : Nat := 0xF
  value : Nat := 0
  ovf : Bool := false
  /-- The state held in the tick before (R606). -/
  prev : Bool := false
  /-- What this tick has counted so far, and OVF before it (R606, R609). -/
  got : Nat := 0
  was : Bool := false
deriving DecidableEq, Repr

/-- One top-down counter (R603). -/
structure Td where
  value : Nat := 0
  ovf : Bool := false
  /-- What this tick has counted so far, and OVF before it (R609). -/
  got : Nat := 0
  was : Bool := false
deriving DecidableEq, Repr

/-- One port's bandwidth values (R614). -/
structure Band where
  rxBytes : Nat := 0
  txBytes : Nat := 0
  rxFrames : Nat := 0
  txFrames : Nat := 0
deriving DecidableEq, Repr

/-- The counters (chapter 20). -/
structure Cnts where
  prog : Tab Cnt := []
  /-- TD(p, c), keyed 4p + c. -/
  td : Tab Td := []
  /-- PEND(p). -/
  pend : Tab Nat := []
  /-- Segments of pipeline lane p already counted whose slots lie in the ticks to come. -/
  backlog : Tab Nat := []
  windowMs : Nat := 1000
  /-- WINDOW_MS in force in the window in progress, and its start TICK. -/
  windowNow : Nat := 1000
  winStart : Nat := 0
  acc : Tab Band := []
  /-- WINDOW_MS has changed, and its first window has not begun. -/
  changed : Bool := false
  /-- The last latched window: its values, and the TICKs at which it began and ended. -/
  last : Tab Band := []
  lastStart : Nat := 0
  lastEnd : Nat := 0
  valid : Bool := false
  user : Bool := false
  /-- Holding registers of the counter user page, keyed 4 CNT + word (R615). -/
  hold : Tab Word := []
deriving DecidableEq, Repr

/-! ### Time bases (chapter 07) -/

/-- A running slew (R247). -/
structure Slew where
  /-- Remaining offset in units of 2^-64 ns. -/
  rem : Int
  /-- SLEW_MAX. -/
  max : Nat
  /-- Remainder of the slew's share carried to the next tick, as `carry` below. -/
  carry : Nat := 0
deriving DecidableEq, Repr

/-- A time base as it stood before a change: its value and the carries of its terms in a tick `at_`, and the rates (in units of 10^-15) and flags
that hold in every tick before `till`. -/
structure TbPast where
  till : Nat
  at_ : Nat
  val : Nat
  carry : Int
  base : Int
  slewRate : Int
  slewCarry : Nat
  unset : Bool
  holdover : Bool
  holdSince : Nat
deriving DecidableEq, Repr

/-- One time base (R238-R247, R258). -/
structure TBase where
  /-- The value in units of 2^-64 ns: seconds, nanoseconds and the 64 bits below the nanosecond (R238, R242). -/
  val : Nat := 0
  /-- Remainder of the rate term carried to the next tick, in units of 2^-64 ns x 10^-15 (R242). -/
  carry : Int := 0
  unset : Bool := true
  stepCount : Nat := 0
  /-- Rate terms in units of 10^-15 (R243). -/
  rateCmd : Int := 0
  rateServo : Int := 0
  slew : Option Slew := none
  holdover : Bool := false
  /-- TICK at which holdover was entered (R259). -/
  holdSince : Nat := 0
  /-- How it stood before each change of the last 2^17 ticks, the newest first, for stamps of earlier ticks (R248, R252). -/
  past : List TbPast := []
deriving DecidableEq, Repr

/-! ### Reference selection (chapter 10) -/

/-- A REFIN input or RC slot (R378). -/
structure RefCfg where
  enable : Bool := false
  edge : Bool := false
  pps : Bool := false
  ssm : Nat := 0xF
  essm : Nat := 0xFF
  lane : Nat := 0
  freqHz : Nat := 10000000
  cable : Int := 0
deriving DecidableEq, Repr

/-- Rank and wait times of a reference (R379). -/
structure RefRank where
  rank : Nat := 8
  qualTime : Nat := 10
  wtrTime : Nat := 300
  pktSsm : Nat := 0xB
  pktEssm : Nat := 0xFF
deriving DecidableEq, Repr

/-- Qualification states (R357). -/
inductive RefQ where
  | off | disqualified | qualifying | wtr | qualified
deriving DecidableEq, Repr

/-- A reference's running state (R357, R381). `samples` are a packet reference's accepted offset samples of the last 16 s, TICK and theta in units
of 2^-18 ns, the newest first (R355). -/
structure RefRun where
  q : RefQ := .off
  cause : Nat := 0
  /-- It has been disqualified since it left OFF. -/
  everDisq : Bool := false
  /-- TICK at which the timer of QUALIFYING or WTR started. -/
  since : Nat := 0
  /-- OUTVOTED, with the winner it lost to (R363). -/
  outvoted : Option Nat := none
  freqOff : Int := 0
  disqCount : Nat := 0
  selCount : Nat := 0
  phaseOff : Int := 0
  samples : List (Nat × Int) := []
deriving DecidableEq, Repr

/-- TB0 states (R365, R369). -/
inductive Tb0St where
  | freeRun | acquire | lockWide | lockNarrow | holdover | switching | fault
deriving DecidableEq, Repr

/-- Reference selection and the TB0 loop (R352-R383). Frequencies are in units of 10^-12, temperatures in 1/16 degree C. -/
structure Refs where
  cfg : Tab RefCfg := []
  ranks : Tab RefRank := []
  runs : Tab RefRun := []
  mode : Nat := 0
  revertive : Bool := true
  forceRef : Nat := 0
  pullRange : Nat := 30000
  qualLimit : Nat := 200
  trackBw : Nat := 1000
  damping : Nat := 5000
  phaseBw : Nat := 100
  phaseSlew : Nat := 10000
  stepThresh : Nat := 1000
  learn : Bool := true
  histWin : Nat := 1000
  histGuard : Nat := 2
  tempSel : Bool := false
  /-- C1, C2 and AGE in force: written with LEARN 0, learned otherwise. -/
  c1 : Int := 0
  c2 : Int := 0
  age : Int := 0
  st : Tb0St := .freeRun
  sel : Nat := 0xFFF
  disagree : Bool := false
  /-- A dispute without an arbiter has written its record (R364). -/
  disputed : Bool := false
  arbiter : Nat := 0xFFF
  histValid : Bool := false
  /-- Present loop bandwidth in units of 2^-16 mHz, which hold every step of R370 exactly. -/
  bwNow : Nat := 0
  /-- TICK at which the present dwell began (R370), and at which LOCK-NARROW was last entered (R374). -/
  dwellSince : Nat := 0
  narrowSince : Nat := 0
  /-- TICK of the REF.BANDWIDTH whose higher TRACK_BW waits for the next comparison (R371). -/
  bwWait : Option Nat := none
  /-- The selection was made by the rescue rule, of a reference in WTR (R360). -/
  rescued : Bool := false
  /-- TICK of the latest evaluation (R361). -/
  evalTick : Option Nat := none
  /-- The measurement window of a switch: the TICK it began, and the PPS edges or accepted samples of the target since (R367). -/
  switchSince : Nat := 0
  switchSeen : Nat := 0
  /-- The switch in progress began in HOLDOVER (R367). -/
  fromHoldover : Bool := false
  /-- TICK at which FAULT was entered (R365). -/
  faultSince : Nat := 0
  fH : Int := 0
  tH : Int := 0
  /-- TICK of the midpoint of the span of F_H. -/
  midH : Nat := 0
  /-- Last temperature read, and whether the external diode is open or shorted. -/
  temp : Int := 0
  tempFallback : Bool := false
  /-- 60 s means of ROOT_OFFSET and temperature with their TICK, newest first, while LEARN is set (R375). -/
  fits : List (Int × Int × Nat) := []
deriving DecidableEq, Repr

/-! ### Palette (chapter 16) -/

/-- A stored calibration value (R518): value in ps, die temperature of its step in 1/16 degree C, residual in ps, the TICK its age counts
from. -/
structure PalVal where
  value : Int
  temp : Int := 0
  res : Nat := 0
  since : Nat := 0
  /-- STALE until the next accepted step, for its T_meas when it was loaded (R520). -/
  stale : Bool := false
deriving DecidableEq, Repr

/-- A Palette slot of MRAM (R522): its entries are keyed 8 x item + rate, K among them as item 245. -/
structure PalSlot where
  gen : Nat
  entries : Tab PalVal := []
  /-- Magic word and CRC-32 are correct (R523). -/
  valid : Bool := true
deriving DecidableEq, Repr

/-- A calibration step in progress (R512-R514, R527). -/
structure CalStep where
  item : Nat
  rate : Nat
  /-- Made by CAL.RUN rather than by the round-robin. -/
  byRun : Bool
  /-- Its result is discarded after a management restart (R527). -/
  lost : Bool := false
deriving DecidableEq, Repr

/-- Calibration (R507-R532). -/
structure Pal where
  rrEn : Bool := true
  autoCommit : Bool := true
  laneEn : Bool := true
  convEn : Bool := true
  hamEn : Bool := true
  refinEn : Bool := true
  stepGap : Nat := 100
  commitDelta : Nat := 5
  staleAge : Nat := 60
  staleTemp : Nat := 5
  calrefEn : Bool := false
  tauCab : Nat := 0
  uCab : Nat := 0
  /-- Values in force, keyed 8 x item + rate, K among them as item 245. -/
  vals : Tab PalVal := []
  /-- The square of 8 u_K, u_K in fs (R521). -/
  uK2 : Nat := 0
  /-- The die temperature in 1/16 degree C as last measured (R518). -/
  dieTemp : Int := 400
  next : Nat := 0
  /-- The round-robin's step waits for admission, and the TICK from which its next one may start (R512, R513, R528). -/
  rrWaiting : Bool := false
  rrDue : Nat := 0
  steps : List CalStep := []
  rejects : Tab Nat := []
  reasons : Tab Nat := []
  /-- Results that failed only the test against p, newest first, keyed by item (R516). -/
  near : Tab (List Int) := []
  gen : Nat := 0
  slot : Nat := 0
  aBad : Bool := false
  bBad : Bool := false
  ownTrace : Bool := false
  /-- An accepted value of this cycle differs from its stored value by more than COMMIT_DELTA (R525). -/
  dirty : Bool := false
  /-- The snapshot of a commit whose first MRAM write has been issued (R524, R526). -/
  commit : Option PalSlot := none
  /-- The commit in progress is that of a CAL.COMMIT, and the admitted commits that wait for it (R524). -/
  commitCmd : Bool := false
  commitQ : List Bool := []
deriving DecidableEq, Repr

/-! ### Hierarchy configuration (chapter 09) -/

/-- The HIER.CONFIG values (R344). -/
structure HierCfg where
  deviceId : Nat := 0x3FFFF
  tier : Nat := 0
  top : Bool := false
  subHi : Nat := 0x3FFFF
  parentId : Nat := 0x3FFFF
  hasParent : Bool := false
  parentMac : Nat := 0
  parentPort : Nat := 0x7F
  vid : Nat := 1
  vlanEn : Bool := false
  pcp : Nat := 7
  islandMiss : Nat := 3
  rejoinSlew : Nat := 1000
  rejoinDone : Nat := 50
  ringSid0 : Nat := 0
  ringEn0 : Bool := false
  ringSid1 : Nat := 0
  ringEn1 : Bool := false
deriving DecidableEq, Repr

/-- Hierarchy states (R337). -/
inductive HierSt where
  | detached | top | seeking | joined | island | rejoining
deriving DecidableEq, Repr

/-- One link of a closure run (R331, R348). -/
structure Link where
  node : Nat
  outPort : Nat
  inPort : Nat
  sid : Nat
  aFix : Int
  wlCoef : Int
deriving DecidableEq, Repr

/-- A closure run in progress (R331-R335): loop sums in units of 2^-18 ns, newest first, delays reported per link in ps. -/
structure Closure where
  ctx : Ctx
  ring : Nat
  domain : Nat
  probes : Nat
  kLimit : Nat
  eLimit : Nat
  mgrSid : Nat
  links : List Link
  /-- Next sequenceId of the run's probes. -/
  seq : Nat := 0
  /-- Probes sent and loop sums returned, clockwise and counter-clockwise. -/
  sentCw : Nat := 0
  sentCcw : Nat := 0
  sumCw : List Int := []
  sumCcw : List Int := []
  /-- Probes under way: sequenceId, direction, and the transmit time on TB0 in units of 2^-18 ns once stamped. -/
  flying : List (Nat × Nat × Option Int) := []
  /-- Mean path delays reported for each link while probes are in flight, keyed by link. -/
  delays : Tab (List Int) := []
deriving DecidableEq, Repr

/-- A stored closure result (R335, R349). -/
structure RingRes where
  gen : Nat
  n : Nat
  e : Int
  k : Int
  retCw : Nat
  retCcw : Nat
  /-- c_i of each link, with the link's nodes and ports. -/
  res : List Int
  links : List Link
deriving DecidableEq, Repr

/-- A broadcast in progress at this manager (R88, R89): results so far as target, status, detail, and the collected reply packets. -/
structure Bcast where
  ctx : Ctx
  collect : Bool
  recurse : Bool
  targets : List Nat
  /-- Targets not completed yet. -/
  waiting : List Nat
  nTargets : Nat := 0
  nOk : Nat := 0
  nUnreach : Nat := 0
  nOther : Nat := 0
  fails : List (Nat × Nat × Nat) := []
  /-- A target's reply packets so far, and all collected ones. -/
  part : Tab (List Word) := []
  replies : List (List Word) := []
  /-- Targets that wait for a relay record (R87, R330), with the packet to send. -/
  unsent : List Nat := []
  packet : List Word := []
  tag : Nat := 0
  srcId : Nat := 0
deriving DecidableEq, Repr

/-- The device's own place in the hierarchy while it runs (chapter 09). -/
structure Hier where
  st : HierSt := .detached
  /-- Island epoch held (R259, R338). -/
  epoch : Nat := 0
  /-- TICK at which ISLAND was entered (R278). -/
  islandSince : Nat := 0
  /-- The parent's latest reply reports island state (R338), with its head and the head's holdover age. -/
  parentIsland : Bool := false
  parentHead : Nat := 0x3FFFF
  parentHoldAge : Nat := 0
  parentEpoch : Nat := 0
  /-- Closure residual of each own port in ps, with its generation (R336). -/
  residuals : Tab (Int × Nat) := []
  /-- Port on which the last answered report's reply arrived (R339). -/
  replyPort : Nat := 0x7F
  /-- REJOIN_OFFSET in ps, whether it has been measured since REJOINING was entered, and samples within REJOIN_DONE (R337, R340). -/
  rejoinOffset : Int := 0
  rejoinMeasured : Bool := false
  rejoinRun : Nat := 0
  /-- The TAG of the latest report while it is unanswered (R324). -/
  reportTag : Option Nat := none
  /-- TICK at which the latest report was sent (R323). -/
  reportTick : Option Nat := none
  /-- TAG of the next report, whether a report has been sent since the part started, and consecutive unanswered reports. -/
  nextTag : Nat := 0
  reported : Bool := false
  unanswered : Nat := 0
  closure : Option Closure := none
  rings : Tab RingRes := []
  bcasts : Tab Bcast := []
  nextBcast : Nat := 0
  /-- Island epoch and state as they stood at the end of a tick, at each change of the last 2^17 ticks, the newest first, for stamps of earlier
  ticks (R258). -/
  marks : List (Nat × Nat × Bool) := []
deriving DecidableEq, Repr

/-- Presence of a worker-table entry (R326). -/
inductive Pres where
  | enrolling | present | absent
deriving DecidableEq, Repr

/-- One worker-table entry (R318-R326, R345, R347). -/
structure Worker where
  childId : Nat
  subHi : Nat
  mac : Nat
  port : Nat
  vid : Nat := 1
  vlanEn : Bool := false
  pcp : Nat := 7
  kind : Nat := 0
  pres : Pres := .enrolling
  misses : Nat := 0
  dying : Bool := false
  /-- The fields the latest accepted report carried: words 1 to its end (R325, R351). -/
  report : List Word := []
  /-- VARIANT of the latest report (R343). -/
  variant : Nat := 0
  /-- TICK of the latest accepted report, none before one of this run (R347). -/
  lastTick : Option Nat := none
deriving DecidableEq, Repr

/-! ### MRAM (chapter 19) -/

/-- What MRAM keeps across power loss (R597, R598), each item in the form its owner gives it. -/
structure Mram where
  lc : Lc := .manufacture
  hostKey : Option Nat := none
  sysKey : Option Nat := none
  bootEpoch : Nat := 0
  runH : Nat := 0
  nextFull : Bool := false
  quickAge : Nat := 720
  flushSeq : Nat := 0
  pairGen : Nat := 0
  palette : Tab PalSlot := [(0, { gen := 1, entries := [(1960, { value := 0, temp := 400 })] })]
  gasp : Option Gasp := none
  /-- The run now ended, or in progress, ended in a recorded last gasp (LG_PREV of the next start, R505). -/
  gaspEnded : Bool := false
  lgPrev : Bool := false
  lgCount : Nat := 0
  passRec : Option TestRec := none
  startRec : Option TestRec := none
  images : Tab Image := []
  /-- Firmware slots A and B as bytes (R597). -/
  fwA : List Host.Cell := []
  fwB : List Host.Cell := []
  /-- The hierarchy record: HIER.CONFIG values, whether they are persistent, and the worker table (R322, R598). -/
  hierCfg : Option HierCfg := none
  hierPersist : Bool := false
  workers : Tab Worker := []
  /-- Stored closure results, in the hierarchy record (R335, R597). -/
  rings : Tab RingRes := []
deriving DecidableEq, Repr

/-! ### Redundant pair configuration (chapter 14) -/

/-- The PAIR.CONFIG values (R480). -/
structure PairCfg where
  en : Bool := false
  unit : Nat := 0
  cfgMirror : Bool := true
  filter : Bool := true
  cmpHam : Bool := true
  cmpSync : Bool := true
  cmpDigest : Bool := false
  twinPort : Nat := 31
  witness : Nat := 1
  mac : Nat := 0
  beaconVid : Nat := 1
  cmpThresh : Nat := 200
  cmpCount : Nat := 3
  takeoverDelay : Nat := 20
  witSid : Nat := 0
  witRef : Nat := 0
  twinAsym : Int := 0
  cmpPorts : Nat := 0
deriving DecidableEq, Repr

/-- Unit states of a pair (R474). -/
inductive UnitSt where
  | off | joining | standby | active | failed
deriving DecidableEq, Repr

/-- One side's part in a dispute (R470, R471): its self-check, and its witness mean in ps when it holds 16 samples. -/
structure Verdict where
  pass : Bool
  e : Option Int
deriving DecidableEq, Repr

/-- What a dispute is about (R467, R469). -/
inductive Disputed where
  | ham (tb : Nat)
  | sync (tb : Nat)
  | digest
deriving DecidableEq, Repr

/-- One pair of the worker's filter table (R478): for each unit its source address and PAIR_GEN. -/
structure PairEnt where
  mac : Nat
  unit0 : Option (Nat × Nat) := none
  unit1 : Option (Nat × Nat) := none
  last : Nat
deriving DecidableEq, Repr

/-- The pair unit's running state (R465-R482). Times on time bases and theta are in units of 2^-18 ns, D in ps. -/
structure PairRun where
  st : UnitSt := .off
  twinUp : Bool := false
  partnerSt : Nat := 7
  partnerGen : Nat := 0
  twinDown : Bool := false
  disagree : Bool := false
  diverge : Bool := false
  mismatch : Bool := false
  dualSeen : Bool := false
  selfOk : Bool := false
  lastCause : Nat := 0
  dHam : Int := 0
  dSync : Int := 0
  /-- theta_n of the last exchange, one for each time base, with the time of the exchange on the active's time bases, and those of the exchange
  before (R466, R467). -/
  theta : List Int := []
  thetaAt : List Int := []
  thetaPrev : List Int := []
  thetaPrevAt : List Int := []
  /-- Syncs of the active that await the next exchange: session, time base, transmit time (R467). -/
  syncCmp : List (Nat × Nat × Int) := []
  eOwn : Int := 0
  ePartner : Int := 0
  disputes : Nat := 0
  takeovers : Nat := 0
  digestMismatch : Nat := 0
  twinDrops : Nat := 0
  filtered : Nat := 0
  lastDual : Nat := 0
  /-- Sequence numbers of the frames sent, per KIND. -/
  seqs : Tab Nat := []
  /-- Consecutive comparisons beyond CMP_THRESH: key 0 for HAM0, 1 + SID for a session; differing digest windows. -/
  beyond : Tab Nat := []
  digestRun : Nat := 0
  /-- A dispute in progress, with the two verdicts so far. -/
  dispute : Option Disputed := none
  own : Option Verdict := none
  partner : Option Verdict := none
  /-- TICK until which no new dispute is raised (R469). -/
  quietUntil : Nat := 0
  /-- The last verdict named this unit faulty (R474). -/
  faulty : Bool := false
  /-- The last samples of the witness, newest first, at most 16, in ps. -/
  witness : List Int := []
  /-- The partner's last TWIN_TIME: its sequence number, transmit times and this unit's receive times; this unit's last one: its number and
  transmit times. -/
  twinRx : Option (Nat × List Int × List Int) := none
  twinTx : Option (Nat × List Int) := none
  /-- The last boundaries of the own HAM0 and of the active's, at most 16 each: index, time base, time on it, UNCAL. -/
  ham0 : List (Nat × Nat × Int × Bool) := []
  hamCmp : List (Nat × Nat × Int × Bool) := []
  /-- Frames of the digest: window, ingress port, target mask, class. -/
  digest : List (Nat × Nat × Nat × Nat) := []
  /-- Digests sent and received that await the other side's: window, CRC-32, frame count. -/
  ownDigests : List (Nat × Nat × Nat) := []
  partnerDigests : List (Nat × Nat × Nat) := []
  /-- TICK of the partner's last ACTIVE beacon, of its last frame, and of the last twin frame on the twin port; or of the unit's last change of
  state (R466, R473, R474). -/
  activeAt : Nat := 0
  heardAt : Nat := 0
  twinAt : Nat := 0
  /-- The filter table, by slot (R478). -/
  pairs : Tab PairEnt := []
deriving DecidableEq, Repr

/-! ### Hammer outputs (chapter 11) -/

/-- Modes of an output (R384). -/
inductive HamMode where
  | oneShot | periodic | conv
deriving DecidableEq, Repr

/-- States of an output (R404). -/
inductive HamSt where
  | idle | armed | running | done
deriving DecidableEq, Repr

/-- A committed edge (R389): its tick and its sub-tick delay in ps; the boundary's index and its place on H, or on the time base for a one-shot,
when it begins one; whether it leaves the active level, none for a boundary that makes no edge (R390); whether the output stops there (R396). -/
structure HamEdge where
  tick : Nat
  ps : Nat
  boundary : Option (Nat × Nat) := none
  level : Option Bool
  stop : Bool := false
deriving DecidableEq, Repr

/-- A realignment in progress (R401, R402): waiting for the first boundary, with that boundary's time on the time base, or slewing at a rate
in ppb. -/
inductive HamAlign where
  | wait
  | after (tk : Nat)
  | slew (ppb : Nat)
deriving DecidableEq, Repr

/-- One Hammer output (R384-R410). Times are in units of 2^-64 ns. -/
structure Ham where
  st : HamSt := .idle
  mode : HamMode := .oneShot
  tb : Nat := 0
  frame : Bool := false
  pol : Bool := false
  follow : Bool := false
  stopEn : Bool := false
  wrap : Bool := false
  start : Nat := 0
  /-- PERIOD and WIDTH in ps. -/
  period : Nat := 0
  width : Nat := 0
  stopTime : Nat := 0
  nPerSec : Nat := 0
  /-- The output time H, with the remainder of its rate carried (R385). -/
  h : Nat := 0
  carry : Int := 0
  /-- The next boundary: k, or s x N_PER_SEC + j in converter start; none when no more is to come. -/
  next : Option Nat := none
  committed : List HamEdge := []
  align : Option HamAlign := none
  /-- HAM.DISARM has been applied: IDLE follows the committed edges and the pulse in progress. -/
  disarming : Bool := false
  /-- At its active level. -/
  active : Bool := false
  steppedOver : Bool := false
  lastEdge : Nat := 0
  lastSmp : Nat := 0
  edges : Nat := 0
  lastIndex : Nat := 0
deriving DecidableEq, Repr

/-! ### Event measurement (chapter 12) -/

/-- A captured edge: its full TICK, f in units of 1/8 ps, D_IN in force in the same units, and its flags (R413, R425, R427). -/
structure Cap where
  tick : Nat
  f : Nat
  d : Int
  coarse : Bool
  uncal : Bool
deriving DecidableEq, Repr

/-- Channel states (R431). -/
inductive ChSt where
  | off | ready | running
deriving DecidableEq, Repr

/-- A statistics run (R428-R430). -/
structure StatRun where
  statN : Nat
  n : Nat := 0
  x1 : Int := 0
  sum : Int := 0
  sum2 : Int := 0
  min_ : Int := 0
  max_ : Int := 0
  excl : Nat := 0
  unres : Nat := 0
  gaps : Nat := 0
  ovfSeen : Bool := false
  /-- TICK of the applying tick: only results whose later edge is captured after it count. -/
  since : Nat := 0
deriving DecidableEq, Repr

/-- One measurement channel (R411-R437). -/
structure Chan where
  enable : Bool := false
  edge : Bool := false
  mode : Nat := 0
  tb : Nat := 0
  queueEn : Bool := true
  calHold : Bool := false
  stopCh : Nat := 0
  prescale : Nat := 1
  st : ChSt := .off
  /-- Selected edges counted by the prescaler, modulo PRESCALE, and the TICK of its last restart (R414). -/
  pre : Nat := 0
  begun : Nat := 0
  /-- Index of the next passed edge, and on an interval channel of the next stop edge. -/
  k : Nat := 0
  stopK : Nat := 0
  /-- The last captured edge: TICK and f in 1/8 ps. -/
  lastCap : Option (Nat × Nat) := none
  /-- The edge before, when it was captured: the start of a period. -/
  prev : Option Cap := none
  /-- Captured start and stop edges that await their partners, by index; indices refused on either side. -/
  starts : Tab Cap := []
  stops : Tab Cap := []
  refused : List Nat := []
  gap : Bool := false
  missed : Nat := 0
  lost : Nat := 0
  /-- Results queued, oldest first, four words each. -/
  queue : List (List Word) := []
  stat : Option StatRun := none
  /-- A Palette pass fell due while CAL_HOLD held it (R426). -/
  deferred : Bool := false
deriving DecidableEq, Repr

/-! ### Timing sessions (chapter 08) -/

/-- A session entry (R281). Signed latencies are in units of 2^-16 ns. -/
structure SesCfg where
  port : Nat
  domain : Nat
  role : Nat
  tb : Nat
  profile : Nat
  transport : Nat
  delayMech : Nat
  twoStep : Bool
  nfAddr : Bool
  closureEn : Bool
  srcPref : Nat
  cls : Nat
  vlanEn : Bool
  pcp : Nat
  annTimeout : Nat
  logSync : Int
  logAnn : Int
  logDelay : Int
  vid : Nat
  txKey : Nat
  auth : Nat
  cfExcl : Bool
  ingress : Int
  egress : Int
  asym : Int
  ipSrc : Nat
  fixedDelay : Nat
deriving DecidableEq, Repr

/-- Session states (R291, R311). -/
inductive SesSt where
  | down | listening | uncalibrated | slave | master | passive | transit
deriving DecidableEq, Repr

/-- What an Announce message carries (R290, R298). -/
structure DataSet where
  pri1 : Nat
  cls : Nat
  acc : Nat
  var : Nat
  pri2 : Nat
  gmId : Nat
  steps : Nat
  /-- sourcePortIdentity of the sender. -/
  sender : Nat
  senderPort : Nat
  utcOffset : Nat := 0
  timeSource : Nat := 0
  /-- Low byte of flagField: leap61, leap59, utcValid, ptpTimescale, timeTraceable, frequencyTraceable. -/
  flags : Nat := 0
  /-- totalTimeInaccuracy of profile 4, and its grandmasterID. -/
  inacc : Nat := 0
  gmShort : Nat := 0
deriving DecidableEq, Repr

/-- A foreign master of a session (R290). -/
structure Foreign where
  ds : DataSet
  logAnn : Int
  /-- TICK of the last Announce and of the one before, where there is one. -/
  last : Nat
  before : Option Nat := none
deriving DecidableEq, Repr

/-- A Sync exchange on the slave side (R292): times in units of 2^-18 ns, corrections in 2^-16 ns. -/
structure SyncRx where
  seq : Nat
  t1 : Int
  t2 : Int
  corr : Int
  /-- A Follow_Up is awaited. -/
  waiting : Bool
  coarse : Bool
  uncal : Bool
deriving DecidableEq, Repr

/-- A delay exchange on the requesting side (R292, R293): the request's transmit time, and a two-step response in progress. -/
structure DelayTx where
  seq : Nat
  t3 : Int
  coarse : Bool
  uncal : Bool
  /-- t4', t2', correction of a two-step Pdelay_Resp whose Follow_Up is awaited, with its receive flags. -/
  resp : Option (Int × Int × Int × Bool × Bool) := none
deriving DecidableEq, Repr

/-- What a session does while it exists (R290-R297, R311). -/
structure SesRun where
  st : SesSt := .down
  parent : Option Foreign := none
  foreigns : List Foreign := []
  /-- Recommended M3 and waiting to become MASTER (R290). -/
  m3 : Bool := false
  seqAnn : Nat := 0
  seqSync : Nat := 0
  seqDelay : Nat := 0
  sync : Option SyncRx := none
  /-- logMessageInterval of the parent's Syncs. -/
  logSyncRx : Int := 0
  delay : Option DelayTx := none
  /-- d_f or D_f in units of 2^-34 ns, when a first value has set it (R296). -/
  df : Option Int := none
  /-- Last offset in units of 2^-18 ns. -/
  theta : Int := 0
  /-- A first sample has been taken, so that the outlier test has a predecessor. -/
  hasTheta : Bool := false
  discards : Nat := 0
  run : Nat := 0
  lastUncal : Bool := false
  keyExhausted : Bool := false
  rxMsgs : Nat := 0
  txMsgs : Nat := 0
  rxDrops : Nat := 0
  txDrops : Nat := 0
  authFail : Nat := 0
  coarseExcl : Nat := 0
  outliers : Nat := 0
  syncLoss : Nat := 0
  /-- The last difference of a transmit stamp from its prediction that was reported to the session, in ps (R263). -/
  verify : Option Int := none
deriving DecidableEq, Repr

/-- One session. -/
structure Session where
  cfg : SesCfg
  run : SesRun := {}
deriving DecidableEq, Repr

/-- The data set and servo parameters of a clock instance (R312). -/
structure Inst where
  pri1 : Nat := 128
  pri2 : Nat := 128
  cls : Nat := 248
  acc : Nat := 0xFE
  var : Nat := 0xFFFF
  timeSource : Nat := 0xA0
  slaveOnly : Bool := false
  ptpTimescale : Bool := true
  utcValid : Bool := false
  leap61 : Bool := false
  leap59 : Bool := false
  utcOffset : Int := 37
  ownInacc : Nat := 50
  fn : Nat := 100
  damping : Nat := 707
  stepThresh : Nat := 1000
  slewLimit : Nat := 100000
  lockThresh : Nat := 100
  lockCount : Nat := 16
  delayAvg : Nat := 4
  outlier : Nat := 1000
  holdAvg : Nat := 8
  holdClass : Nat := 7
  unsetClass : Nat := 248
deriving DecidableEq, Repr

/-- Servo states (R297). -/
inductive ServoSt where
  | idle | acquire | locked | holdover
deriving DecidableEq, Repr

/-- One servo (R295-R297). On TB0 only `stepOk` is used, by the reference loop. -/
structure Servo where
  st : ServoSt := .idle
  follow : Option Nat := none
  /-- I in units of 10^-15. -/
  integ : Int := 0
  /-- The proportional term -2 zeta omega theta of the last accepted sample, in units of 10^-15 (R296, R386). -/
  prop : Int := 0
  /-- TICK of the last accepted sample. -/
  last : Option Nat := none
  good : Nat := 0
  bad : Nat := 0
  stepOk : Bool := false
  /-- I after the last samples, newest first, at most 4,096. -/
  hist : List Int := []
deriving DecidableEq, Repr

/-- ESMC of a port (R300-R302, R314). -/
structure Esmc where
  en : Bool := false
  opt : Bool := false
  ext : Bool := false
  force : Bool := false
  txQl : Nat := 0xF
  txEssm : Nat := 0xFF
  rxQl : Nat := 0
  rxEssm : Nat := 0
  rxValid : Bool := false
  /-- No PDU for 5 s: QL-FAILED (R302). -/
  failed : Bool := false
  rxExt : Bool := false
  rxPdus : Nat := 0
  /-- Originator's clockIdentity, eEEC and EEC counts of the extended TLV last received. -/
  rxId : Nat := 0
  rxEeec : Nat := 0
  rxEec : Nat := 0
  /-- The level last sent, so that a change sends an event PDU (R300). -/
  lastTx : Option (Nat × Nat) := none
deriving DecidableEq, Repr

/-- The timing protocol engine (chapter 08). -/
structure Ptp where
  sessions : Tab Session := []
  insts : Tab Inst := []
  servos : Tab Servo := []
  esmc : Tab Esmc := []
  /-- Last accepted sequenceNo of a sourcePortIdentity under a key slot (R289): source, key, number. -/
  seqSeen : List (Nat × Nat × Nat) := []
deriving DecidableEq, Repr

/-- One session key slot, in the secure region (R313). -/
structure SesKey where
  alg : Nat
  spp : Nat
  keyId : Nat
  salt : Nat
  key : Nat
  /-- The last sequenceNo sent under the slot, 0 before the first (R269). -/
  seqNo : Nat := 0
deriving DecidableEq, Repr

/-! ### The whole state -/

/-- The state of the part. -/
structure State where
  /-- Commands waiting, first in, first out. -/
  pending : List Instr := []
  /-- The model's own counter: how many free values have been taken. -/
  free : Nat := 0
  /-- The model's record of what has left the part, oldest first. -/
  out : List Output := []
  fused : Fused := {}
  tamper : Tamper := {}
  mram : Mram := {}
  start : Start := {}
  alarms : Alarms := {}
  clk : Clk := {}
  axg : Axg := {}
  cru : Cru := {}
  led : Led := {}
  sec : Sec := {}
  mem : Mem := {}
  lanes : Tab Lane := []
  /-- FORM of TQ0-TQ7 (R137). -/
  form : Tab Bool := []
  ports : Tab Port := []
  rings : Tab Ring := []
  nodes : Tab Node := []
  nodeFull : Nat := 0
  bypass : Tab Bypass := []
  fwd : Fwd := {}
  buf : Buf := {}
  hst : Hst := {}
  cnt : Cnts := {}
  tbs : Tab TBase := []
  hcfg : HierCfg := {}
  hier : Hier := {}
  /-- The worker table, by slot (R318). -/
  workers : Tab Worker := []
  pcfg : PairCfg := {}
  prun : PairRun := {}
  sesKeys : Tab SesKey := []
  ptp : Ptp := {}
  pal : Pal := {}
  refs : Refs := {}
  hams : Tab Ham := []
  chans : Tab Chan := []
  /-- The partner's replies to mirrored commands that this unit has not completed yet: opcode, TAG, reply (R463). -/
  twinRpl : List (Nat × Nat × Rpl) := []
deriving DecidableEq, Repr

/-- The part right after RESET_N rises (R13): every register at its reset value, before the start sequence. The values the spec
does not give are named in notes/assumptions/. -/
def State.reset : State := {}

end Sys2Proof.Machine
end

