-- ==== Sys2Proof/Machine/Ops.lean ====
section
/-! DEFINITION. The named operations over the state that every family uses: registers, lanes, ports and tables through one accessor
each, free values, Crucible records (R533-R549), ledger charges and jobs (R485-R491), and replies by every carrier (R53-R84). -/

namespace Sys2Proof.Machine

open Sys2Proof

/-! ### What an unlisted key reads as -/

def laneReset (k : Nat) : Lane := { rate := if k < 32 then 4 else 3 }
def portReset (_ : Nat) : Port := {}
def ringReset (_ : Nat) : Ring := {}
def bypassReset (_ : Nat) : Bypass := {}
def tbReset (_ : Nat) : TBase := {}
def puntReset (_ : Nat) : Punt := {}
def minReset (_ : Nat) : Nat := 40
def zeroReset (_ : Nat) : Nat := 0
def falseReset (_ : Nat) : Bool := false
def wordReset (_ : Nat) : Word := 0
def byteReset (_ : Nat) : Byte := 0
def cntReset (_ : Nat) : Cnt := {}
def tdReset (_ : Nat) : Td := {}
def bandReset (_ : Nat) : Band := {}

/-- Every port, as a mask. -/
def allPorts : Nat := 2 ^ 104 - 1

/-- A VLAN entry after RESET_N: VLAN 1 valid, all ports members and untagged, FID equal to VID (R213). -/
def vlanReset (k : Nat) : Vlan :=
  if k = 1 then { fid := 1, valid := true, member := allPorts, untag := allPorts } else { fid := k }

/-! ### Accessors -/

/-- A step on one of n like things acts on those that exist. -/
def onIdx (n k : Nat) (f : State → State) (s : State) : State := if k < n then f s else s

/-! ### Units of time (R238, R242) -/

/-- Units of 2^-64 ns in a nanosecond and in a second, and the number of values a time base counts through (R238). -/
def nsU : Nat := 2 ^ 64
def secU : Nat := 10 ^ 9 * nsU
def tbWrap : Nat := 2 ^ 48 * secU
/-- Units of 2^-64 ns in one FRACTION unit. -/
def fracU : Nat := 2 ^ 46

/-- T_MAX (R238), at the resolution of a time value. -/
def tMax : Nat := tbWrap - fracU

/-! ### The rates of a time base, and how it stood before (R241-R244, R247, R248) -/

/-- The bound of RATE_TOTAL (R243), in units of 10^-15. -/
def rateLimit : Int := 1000000000000

/-- RATE_SLEW (R247). -/
def TBase.rateSlew (t : TBase) : Int :=
  match t.slew with
  | none => 0
  | some x => if x.rem < 0 then -(1000 * x.max : Nat) else if 0 < x.rem then ((1000 * x.max : Nat) : Int) else 0

/-- The sum of the three terms before the clamp. -/
def TBase.rateSum (t : TBase) : Int := t.rateCmd + t.rateServo + t.rateSlew

/-- RATE_TOTAL and RATE_CLAMP (R243). -/
def TBase.rateTotal (t : TBase) : Int := clampZ (-rateLimit) rateLimit t.rateSum
def TBase.rateClamp (t : TBase) : Bool := decide (t.rateTotal ≠ t.rateSum)

/-- The nominal 0.8 ns of a tick in units of 2^-64 ns: 4 units more in every fifth tick (R242). -/
def tickU (tick : Nat) : Nat := 4 * nsU / 5 + (if tick % 5 = 4 then 4 else 0)

/-- The part of RATE_SLEW the clamp lets through (R247). -/
def TBase.slewRate (t : TBase) : Int :=
  t.rateTotal - clampZ (-rateLimit) rateLimit (t.rateCmd + t.rateServo)

/-- The denominator of a rate term: 10^-15 of 0.8 ns is 4 x 2^64 / (5 x 10^15) units. -/
def rateDen : Nat := 5 * 10 ^ 15

/-- How far back a stamp's tick may lie: a change older than this many ticks is forgotten. -/
def pastTicks : Nat := 2 ^ 17

/-- A time base as it stands in a tick, kept for the ticks before `till`. -/
def TBase.snapshot (t : TBase) (at_ till : Nat) : TbPast :=
  { till := till, at_ := at_, val := t.val, carry := t.carry, base := clampZ (-rateLimit) rateLimit (t.rateCmd + t.rateServo), slewRate := t.slewRate,
    slewCarry := (t.slew.map Slew.carry).getD 0, unset := t.unset, holdover := t.holdover, holdSince := t.holdSince }

/-- A time base that has changed from an old one otherwise than by one tick's advance, whose state before is kept (R248, R252). -/
def TBase.since (t old : TBase) (at_ till : Nat) : TBase :=
  { t with past := old.snapshot at_ till :: old.past.filter (fun x => decide (till < x.till + pastTicks)) }

/-- The time base in an earlier tick: as it stood before the first change after that tick (R248, R252). -/
def TBase.pastAt (t : TBase) (now tick : Nat) : TbPast :=
  ((t.past.filter (fun x => decide (tick < x.till))).getLast?).getD (t.snapshot now now)

/-- The nominal time of the ticks from tick 0 to a tick: 4 ns in every five ticks, and the whole units of 0.8 ns in each of the rest (R242). -/
def nominalU (tick : Nat) : Nat := tick * (4 * nsU / 5) + 4 * ((tick + 1) / 5)

/-- Its value in a tick, which the rates of its span give exactly from the value kept: the carries make every tick's rounding reversible. -/
def TbPast.valueAt (x : TbPast) (tick : Nat) : Nat :=
  let k : Int := (tick : Int) - x.at_
  let r := (x.carry + k * (x.base * (4 * nsU : Nat))) / (rateDen : Nat)
  let n : Int := ((x.slewRate.natAbs * (4 * nsU) : Nat) : Int)
  let a := ((x.slewCarry : Int) + k * n) / (rateDen : Nat)
  let sl := if x.slewRate < 0 then -a else a
  (((x.val : Int) + (nominalU tick : Int) - nominalU x.at_ + r + sl) % (tbWrap : Nat)).toNat

/-- RATE_TOTAL in its span. -/
def TbPast.rateTotal (x : TbPast) : Int := x.base + x.slewRate

namespace State

def lane (s : State) (k : Nat) : Lane := Tab.get laneReset s.lanes k
def setLane (s : State) (k : Nat) (l : Lane) : State := { s with lanes := Tab.put laneReset s.lanes k l }
def modLane (s : State) (k : Nat) (f : Lane → Lane) : State := s.setLane k (f (s.lane k))
def port (s : State) (k : Nat) : Port := Tab.get portReset s.ports k
def setPort (s : State) (k : Nat) (p : Port) : State := { s with ports := Tab.put portReset s.ports k p }
def modPort (s : State) (k : Nat) (f : Port → Port) : State := s.setPort k (f (s.port k))
def ring (s : State) (k : Nat) : Ring := Tab.get ringReset s.rings k
def setRing (s : State) (k : Nat) (r : Ring) : State := { s with rings := Tab.put ringReset s.rings k r }
def pair (s : State) (k : Nat) : Bypass := Tab.get bypassReset s.bypass k
def setPair (s : State) (k : Nat) (b : Bypass) : State := { s with bypass := Tab.put bypassReset s.bypass k b }
def modPair (s : State) (k : Nat) (f : Bypass → Bypass) : State := s.setPair k (f (s.pair k))
def tb (s : State) (k : Nat) : TBase := Tab.get tbReset s.tbs k
def setTb (s : State) (k : Nat) (t : TBase) : State := { s with tbs := Tab.put tbReset s.tbs k t }
/-- Change a time base in the present tick; how it stood is kept for stamps of earlier ticks (R248). -/
def modTb (s : State) (k : Nat) (f : TBase → TBase) : State := s.setTb k ((f (s.tb k)).since (s.tb k) s.clk.tick s.clk.tick)
def formed (s : State) (k : Nat) : Bool := Tab.get falseReset s.form k
def vlan (s : State) (k : Nat) : Vlan := Tab.get vlanReset s.fwd.vlans k
def minOf (s : State) (p q : Nat) : Nat := Tab.get minReset s.buf.mins (9 * p + q)
def emit (s : State) (o : Output) : State := { s with out := s.out ++ [o] }
def emits (s : State) (os : List Output) : State := { s with out := s.out ++ os }

/-- A free value: one the spec does not state. The counter moves on, so that the next one is another. -/
def drawNat (s : State) : Nat × State := (Config.freeNat s.free, { s with free := s.free + 1 })
def drawInt (s : State) : Int × State := (Config.freeInt s.free, { s with free := s.free + 1 })

/-- A saturating count of what only the medium brings about, read: an unstated number more than at the last reading. -/
def drawCount (s : State) (m old : Nat) : Nat × State := (satAdd m old (Config.freeNat s.free), { s with free := s.free + 1 })

/-- The part is a CTX-9632-MI, with the manager functions (R1, R2). -/
def isMi (s : State) : Bool := s.fused.mi

/-- A step that comes about only while the part runs. -/
def whileRunning (s : State) (f : State → State) : State := if s.start.power = .run then f s else s

/-- ALARM_N is driven low while any cause holds it. -/
def alarmLow (s : State) : Bool :=
  s.alarms.xo || s.alarms.huLow || s.alarms.parked || s.alarms.testFail || s.alarms.tamper || s.alarms.waitRelease
    || s.alarms.recovery

/-- DPI is powered and the data plane is out of reset (R50). -/
def dpUp (s : State) : Bool := s.clk.dpUp

/-- The timing plane is in service (R50, R660). -/
def tpUp (s : State) : Bool := s.clk.tpUp

/-- MPI is powered (R19). -/
def mpiOn (s : State) : Bool := decide (s.start.mpi ≠ .down)

/-- The management plane works: it is powered and does not hang (R36, R663). -/
def mpiUp (s : State) : Bool := decide (s.start.mpi ≠ .down ∧ s.start.mpi ≠ .hung)

end State

/-! ### Time values (R238, R239) -/

/-- The 96-bit time value of an accumulator, truncated to FRACTION (R238, R242). -/
def timeBits (v : Nat) : Nat :=
  let v := v % tbWrap
  (v / secU) * 2 ^ 48 + (v % secU / nsU) * 2 ^ 18 + v % nsU / fracU

/-- A time value as three words, most significant first (R239). -/
def timeWords (v : Nat) : List Word :=
  let b := timeBits v
  [w32 (b / 2 ^ 64), w32 (b / 2 ^ 32), w32 b]

/-- The accumulator of a written 96-bit time value, NANOSECONDS clamped (R238). -/
def timeOfBits (b : Nat) : Nat :=
  (b / 2 ^ 48 % 2 ^ 48) * secU + min (b / 2 ^ 18 % 2 ^ 30) 999999999 * nsU + b % 2 ^ 18 * fracU

/-- The time value three words spell (R239). -/
def timeOfWords (a b c : Word) : Nat := timeOfBits (a.toNat * 2 ^ 64 + b.toNat * 2 ^ 32 + c.toNat)

/-- NANOSECONDS of a time value. -/
def timeNs (v : Nat) : Nat := v % secU / nsU

/-! ### The event record: intake, ring, latch and flush (chapter 17) -/

/-- SEV of each code (R538); TB0_STATE and ANNEAL_RESULT are given theirs by the caller. -/
def sevOf (code : Nat) : Nat :=
  if [0x0102, 0x0104, 0x0105, 0x0106, 0x0202, 0x0E03, 0x0F01, 0x0F03].contains code then 3
  else if [0x0101, 0x0201, 0x0401, 0x0601, 0x0602, 0x0801, 0x0A01, 0x0D01, 0x0D03, 0x0E01, 0x0E02, 0x0E04, 0x0E05, 0x0F02].contains code
  then 2
  else if [0x0107, 0x0701].contains code then 1 else 0

/-- SOURCE from a kind and an index (R537). -/
def srcOf (kind idx : Nat) : Nat := kind * 0x1000 + idx % 0x1000

/-- The device is in ISLAND: its own state is ISLAND or REJOINING, or it is JOINED under a parent that reports island state (R338). -/
def State.inIsland (s : State) : Bool :=
  decide (s.hier.st = .island) || decide (s.hier.st = .rejoining) || (decide (s.hier.st = .joined) && s.hier.parentIsland)

/-- A record of the present tick: TB0's time and its UNSET, HOLDOVER and ISLAND bits (R535). -/
def State.mkRec (s : State) (code source sev : Nat) (d5 d6 d7 : Word) : Rec :=
  let t := s.tb 0
  { time := t.val, code := code, source := source, sev := sev, unset := t.unset, holdover := t.holdover, 
    island := s.inIsland, d5 := d5, d6 := d6, d7 := d7 }

/-- One more occurrence in the first record of a list that has this code and source. -/
def bumpFirst (code source : Nat) : List Rec → List Rec
  | [] => []
  | r :: t =>
    if r.code = code ∧ r.source = source then { r with repeat_ := r.repeat_ + 1 } :: t else r :: bumpFirst code source t

/-- Is there a record of this code and source in a list? -/
def hasRec (code source : Nat) (l : List Rec) : Bool := l.any (fun r => decide (r.code = code ∧ r.source = source))

/-- One more occurrence in an accepted record: in the FIFO if it is there, otherwise in the ring and in the latch copy (R540). -/
def Cru.bump (c : Cru) (code source : Nat) : Cru :=
  if hasRec code source c.fifo then
    { c with fifo := (bumpFirst code source c.fifo.reverse).reverse }
  else
    { c with ring := bumpFirst code source c.ring, latch := (bumpFirst code source c.latch.reverse).reverse }

/-- A record reaches the intake in a tick: it is coalesced (R540), accepted (R542) or dropped and counted (R541). -/
def Cru.arrive (c : Cru) (tick : Nat) (r : Rec) : Cru :=
  match c.recent.find? (fun e => decide (e.1 = r.code ∧ e.2.1 = r.source)) with
  | some e =>
    if e.2.2.1 < 0xFFFF ∧ tick - e.2.2.2 < 1250 then
      let c := c.bump r.code r.source
      { c with recent := c.recent.map (fun x => if x = e then (e.1, e.2.1, e.2.2.1 + 1, tick) else x) }
    else if c.fifo.length < 256 then
      { c with fifo := c.fifo ++ [r], recent := (r.code, r.source, 0, tick) :: c.recent.take 15 }
    else
      { c with
        lossRec := if c.lossCount = 0 then r else c.lossRec
        lossCount := inc32 c.lossCount
        lossLastNs := timeNs r.time }
  | none =>
    if c.fifo.length < 256 then
      { c with fifo := c.fifo ++ [r], recent := (r.code, r.source, 0, tick) :: c.recent.take 15 }
    else
      { c with
        lossRec := if c.lossCount = 0 then r else c.lossRec
        lossCount := inc32 c.lossCount
        lossLastNs := timeNs r.time }

/-- The LOST record enters at the first free entry, ahead of any new arrival (R541). -/
def Cru.admitLost (c : Cru) (tick : Nat) : Cru :=
  if 0 < c.lossCount ∧ c.fifo.length < 256 then
    let r : Rec := { c.lossRec with
      code := 0x0101, source := srcOf 13 2, sev := 2, repeat_ := 0, d5 := w32 c.lossCount, d6 := w32 c.lossLastNs, d7 := 0 }
    { c with fifo := c.fifo ++ [r], recent := (r.code, r.source, 0, tick) :: c.recent.take 15, lossCount := 0 }
  else c

/-- A record is stored in the ring, numbered, and fed to the latch (R542, R543). -/
def Cru.store (c : Cru) (tick : Nat) (r : Rec) : Cru :=
  let fill := c.latchSt = .filling ∨ (c.latchSt = .armed ∧ r.sev = 3)
  if fill then
    let r := { r with latched := true }
    let l := c.latch ++ [r]
    { c with
      ring := r :: c.ring.take 4095
      total := (c.total + 1) % 2 ^ 32
      latch := l
      latchFirst := if c.latchSt = .armed then c.total else c.latchFirst
      latchSt := if l.length < 64 then .filling else .full
      latchFlushDue := if c.latchSt = .armed then true else c.latchFlushDue
      latchTick := if c.latchSt = .armed then tick else c.latchTick }
  else
    { c with ring := r :: c.ring.take 4095, total := (c.total + 1) % 2 ^ 32 }

/-- PQ_REG has a slot that no event holds and no operation of IQ_REG has reserved (R29). -/
def State.regSlot (s : State) : Bool := decide (s.buf.pqReg.length + s.buf.iqReg.length < 1024)

/-- A record, or an event without one, enters MBX_EVT or PQ_REG, and the block copies the record at that moment (R534). While the management
plane works it takes entries at once; while it hangs or is cut off they wait. A full queue drops the event, sets the LOST flag and writes
one LOST record (R29, R35). -/
def State.queueEvent (s : State) (pl : Plane) (r? : Option Rec) : State :=
  let take := fun (s : State) =>
    match r? with
    | some r => { s with cru := s.cru.arrive s.clk.tick r }
    | none => s
  let lost := fun (s : State) (was : Bool) (idx : Nat) =>
    if was then s
    else { s with cru := s.cru.arrive s.clk.tick (s.mkRec 0x0101 (srcOf 13 idx) 2 0 0 0) }
  match pl with
  | .mgmt => take s
  | .timing =>
    if s.mpiUp then take s
    else if s.buf.mbxEvt.length < 256 then take { s with buf := { s.buf with mbxEvt := s.buf.mbxEvt ++ [r?] } }
    else
      lost { s with clk := { s.clk with mbxEvtLost := true }, buf := { s.buf with mbxEvtDrops := inc32 s.buf.mbxEvtDrops } } s.clk.mbxEvtLost 0
  | .data =>
    if s.regSlot then (if s.mpiUp then take s else take { s with buf := { s.buf with pqReg := s.buf.pqReg ++ [r?] } })
    else lost { s with clk := { s.clk with pqRegEvtLost := true } } s.clk.pqRegEvtLost 1

/-- A record of the present tick is raised by a plane. -/
def State.log (s : State) (pl : Plane) (code source : Nat) (d5 d6 d7 : Word) : State :=
  s.queueEvent pl (some (s.mkRec code source (sevOf code) d5 d6 d7))

/-- A record whose SEV its code does not fix. -/
def State.logSev (s : State) (pl : Plane) (sev code source : Nat) (d5 d6 : Word) : State :=
  s.queueEvent pl (some (s.mkRec code source sev d5 d6 0))

/-! ### The energy ledger: charges and waiting jobs (chapter 15) -/

/-- Fixed and per-ms cost, priority and code of the job table (R485). -/
def jobFixed (code : Nat) : Nat := [35, 90, 25, 25, 420, 0, 0, 1800, 60, 2500, 60, 110].getD code 0
def jobPerMs (code : Nat) : Nat := if code = 5 ∨ code = 6 then 12 else 0
def jobPrio (code : Nat) : Nat := [2, 2, 2, 2, 1, 6, 6, 5, 0, 3, 4, 7].getD code 0

/-- A job that does not wait is charged when it starts, even into debt (R486). -/
def State.charge (s : State) (k : Nat) : State := { s with led := { s.led with credit := s.led.credit - k } }

/-- Place a job in a queue ordered by priority and, within a priority, by arrival (R489). -/
def insertJob (j : LedJob) : List LedJob → List LedJob
  | [] => [j]
  | x :: t => if jobPrio j.code < jobPrio x.code then j :: x :: t else x :: insertJob j t

/-- A job waits for admission (R488, R489). -/
def State.queueJob (s : State) (code cost : Nat) (what : JobFor) : State :=
  { s with led := { s.led with waiting := insertJob { code := code, cost := cost, what := what } s.led.waiting, test := true } }

/-- Waiting jobs that satisfy a test leave the queue uncharged. -/
def State.dropJobs (s : State) (p : JobFor → Bool) : State :=
  { s with led := { s.led with waiting := s.led.waiting.filter (fun j => !p j.what) } }

/-! ### Replies (chapter 02) -/

/-- Status codes (R57). -/
def stOk : Nat := 0x0000
def stUnknown : Nat := 0x0010
def stBadLength : Nat := 0x0011
def stDenied : Nat := 0x0020
def stAuthFail : Nat := 0x0021
def stUnreach : Nat := 0x0040
def stRejected : Nat := 0x0050
def stIncomplete : Nat := 0x0051
def stLate : Nat := 0x0060
def stNotManager : Nat := 0x0070

/-- Header word 0 (R52, R53). -/
def hdrWord0 (reply auth relay more : Bool) (op : Nat) : Word :=
  pack [(24, 0xA7), (20, 1), (19, reply.toNat), (18, auth.toNat), (17, relay.toNat), (16, more.toNat), (0, op % 2 ^ 16)]

/-- The initialization vector of a tag (R61). -/
def gmacIv (idA idB epoch seq : Nat) (dir : Bool) (bootEpoch : Nat) : Nat :=
  idA % 2 ^ 18 * 2 ^ 78 + idB % 2 ^ 18 * 2 ^ 60 + epoch % 2 ^ 32 * 2 ^ 28 + seq % 256 * 2 ^ 20 + dir.toNat * 2 ^ 19 + bootEpoch % 2 ^ 16 * 8

/-- A 128-bit tag as four words. -/
def tagWords (t : Nat) : List Word := [w32 (t / 2 ^ 96), w32 (t / 2 ^ 64), w32 (t / 2 ^ 32), w32 t]

/-- One reply packet (R53), with its tag when the command was accepted as authenticated. -/
def replyPacket (c : Ctx) (status detail : Nat) (ws : List Word) (more : Bool) : List Word :=
  let body :=
    [hdrWord0 true c.authed false more c.op,
     pack [(16, c.tag % 2 ^ 16), (0, ws.length)],
     pack [(18, c.seq % 256), (0, c.respId % 2 ^ 18)],
     pack [(16, status), (0, detail % 2 ^ 16)]] ++ ws
  if c.authed then
    body ++ tagWords (gmac256 c.key (gmacIv c.respId c.srcId c.epoch c.seq true c.bootEpoch) (wordBytesBE body))
  else body

/-- A list cut into pieces of at most `n` words, at least one piece. -/
def chunkWords : Nat → Nat → List Word → List (List Word)
  | 0, _, ws => [ws]
  | f + 1, n, ws => if ws.length ≤ n then [ws] else ws.take n :: chunkWords f n (ws.drop n)

/-- The most bytes one packet takes on a carrier: INBAND_MTU in band (R84), half the reply ring over PCIe, so that it finds room at every
producer index (R73, R74, R76; notes/assumptions/61.md). -/
def State.carrierBytes (s : State) : Via → Nat
  | .inband _ _ _ => s.axg.mtu
  | .pcie => 32 * 2 ^ s.axg.rringSize
  | _ => 4 * 1031

/-- The most parameter words one packet carries on a carrier once it is split (R52, R84). -/
def State.carrierWords (s : State) (v : Via) : Nat := max 1 (min 1023 ((s.carrierBytes v - 32) / 4))

/-- Mark every packet but the last as having more to come (R69). -/
def chainPackets (c : Ctx) (status detail : Nat) (more : Bool) : List (List Word) → List (List Word)
  | [] => []
  | [ws] => [replyPacket c status detail ws more]
  | ws :: t => replyPacket c status detail ws true :: chainPackets c status detail more t

/-- The segments of a packet whose words, split to the carrier, are these: each with the packet's header and tag, its own LEN, and
MORE on all but the last (R69, R86). -/
def segmentPackets (head tag : List Word) : List (List Word) → List (List Word)
  | [] => []
  | [ws] => [[wd head 0, pack [(16, fld (wd head 1) 31 16), (0, ws.length)], wd head 2, wd head 3] ++ ws ++ tag]
  | ws :: t => ([wd head 0 ||| pack [(16, 1)], pack [(16, fld (wd head 1) 31 16), (0, ws.length)], wd head 2, wd head 3] ++ ws ++ tag)
      :: segmentPackets head tag t

/-- The packets a packet leaves as on a carrier: itself while the carrier holds it, else its segments (R69, R84, R86). -/
def State.viaPackets (s : State) (v : Via) (pkt : List Word) : List (List Word) :=
  if 4 * pkt.length ≤ s.carrierBytes v then [pkt]
  else
    let n := if bit (wd pkt 0) 18 then pkt.length - 8 else pkt.length - 4
    segmentPackets (pkt.take 4) (pkt.drop (4 + n)) (chunkWords n (s.carrierWords v) ((pkt.drop 4).take n))

/-- Packets of one exchange that follow a reply: MORE on all but the last (R69, R89). -/
def followPackets : List (List Word) → List (List Word)
  | [] => []
  | [p] => [(wd p 0 &&& 0xFFFEFFFF) :: p.drop 1]
  | p :: t => ((wd p 0 ||| pack [(16, 1)]) :: p.drop 1) :: followPackets t

/-- The reply packets of an exchange: one while the carrier holds it, else several, and what follows them (R69, R84, R89). -/
def State.replyPackets (s : State) (c : Ctx) (r : Rpl) : List (List Word) :=
  let more := !r.follow.isEmpty
  let fits := decide (4 * (4 + r.words.length + (if c.authed then 4 else 0)) ≤ s.carrierBytes c.via ∧ r.words.length ≤ 1023)
  (if fits then [replyPacket c r.status r.detail r.words more]
   else chainPackets c r.status r.detail more (chunkWords r.words.length (s.carrierWords c.via) r.words))
    ++ followPackets (r.follow.flatMap (s.viaPackets c.via))

/-- Slots a packet takes in a ring (R73). -/
def pktSlots (pkt : List Word) : Nat := ceilDiv (4 * pkt.length) 64

/-- A word of the MSI-X table as an unlisted one reads: each vector masked, as the PCI Express Base specification leaves it (PRESUMED). -/
def msixReset (k : Nat) : Word := if k % 4 = 3 then 1 else 0

/-- Signal an MSI-X vector: a masked one is pending (R438, R439). -/
def State.signal (s : State) (vec : Nat) : State :=
  if bit (Tab.get msixReset s.hst.msix (4 * vec + 3)) 0 then
    { s with hst := { s.hst with msixPend := s.hst.msixPend ||| 2 ^ vec } }
  else s.emit (.msix vec)

/-- Write one packet into the reply ring, if at least one slot stays free (R73, R74, R76): the slots, the write-back record, the
MSI-X vector. None while there is no room or the link is down. -/
def State.ringReply (s : State) (pkt : List Word) : Option State :=
  let n := 2 ^ s.axg.rringSize
  let need := pktSlots pkt
  let wrap := n < s.axg.rplPi + need
  let used := (s.axg.rplPi + n - s.axg.rplCi % n) % n
  let total := if wrap then n - s.axg.rplPi + need else need
  if s.start.pcieUp = true ∧ used + total < n then
    let at_ := if wrap then 0 else s.axg.rplPi
    let pi' := (at_ + need) % n
    let skip := if wrap then [Output.hostWrite (s.axg.rringBase + 64 * s.axg.rplPi) [0, 0, 0, 0]] else []
    let outs := skip ++ [Output.hostWrite (s.axg.rringBase + 64 * at_) (wordBytesLE pkt),
      Output.hostWrite s.axg.axgWb (bytesLE 4 pi' ++ bytesLE 4 s.axg.cmdCi)]
    let s := ({ s with axg := { s.axg with rplPi := pi', wbCi := s.axg.cmdCi } }).emits outs
    some (if s.axg.axgVecEn then s.signal s.axg.axgVec else s)
  else none

/-- Replies that wait inside the part leave in order while the reply ring has room (R76). -/
def drainReplies : Nat → State → State
  | 0, s => s
  | n + 1, s =>
    match s.axg.rplWait with
    | [] => s
    | pkt :: t =>
      match s.ringReply pkt with
      | some s' => drainReplies n { s' with axg := { s'.axg with rplWait := t } }
      | none => s

def State.drainReplies (s : State) : State := Machine.drainReplies s.axg.rplWait.length s

/-- Bytes of a frame up to its EtherType: addresses, an 802.1Q tag if any, the EtherType. -/
def frameHead (da sa : Nat) (tci : Option Nat) (etype : Nat) : List Byte :=
  bytesBE 6 da ++ bytesBE 6 sa ++ (match tci with | some t => bytesBE 2 0x8100 ++ bytesBE 2 t | none => []) ++ bytesBE 2 etype

/-- Pad to the least size without FCS. -/
def padFrame (bs : List Byte) : List Byte := bs ++ List.replicate (60 - bs.length) 0

/-- A frame with its FCS, least significant byte of the CRC first on the wire. -/
def withFcs (bs : List Byte) : List Byte := bs ++ bytesLE 4 (crc32 bs)

/-- The class of a frame the management plane sends on a port: the port's map at the command's PCP (DEDUCED). -/
def State.replyClass (s : State) (port : Nat) (tci : Option Nat) : Nat :=
  let pcp := match tci with | some t => t / 2 ^ 13 % 8 | none => (s.port port).defPcp
  (s.port port).pcpMap / 2 ^ (3 * pcp) % 8

/-- A management frame that carries an AXG packet (R82, R83, R86). -/
def State.axgFrame (s : State) (port da : Nat) (tci : Option Nat) (pkt : List Word) : Ins :=
  { bytes := padFrame (frameHead da s.fused.mgtMac tci s.axg.etype ++ wordBytesBE pkt), port := port, cls := s.replyClass port tci }

/-- The packets a packet leaves as in band (R84, R86). -/
def State.linkPackets (s : State) (pkt : List Word) : List (List Word) := s.viaPackets (.inband 0 0 none) pkt

/-- A script command's status: non-OK ones are counted and the first is kept (R630, R640). -/
def State.scriptStatus (s : State) (idx status : Nat) : State :=
  if status = stOk then s
  else
    { s with start := { s.start with
        scriptErrs := inc16 s.start.scriptErrs
        firstErr := if s.start.scriptErrs = 0 then idx else s.start.firstErr
        firstErrStat := if s.start.scriptErrs = 0 then status else s.start.firstErrStat } }

/-- START_DONE is set once the script has issued every command and none of them still waits (R627, R630). -/
def State.checkStartDone (s : State) : State :=
  if s.start.scriptEnded = true ∧ s.start.done = false ∧ s.axg.jobs.all (fun j => match j.ctx.via with | .script _ => false | _ => true) = true then
    { s with start := { s.start with done := true, bootFails := 0, startUs := s.start.scriptUs + (s.clk.tick - s.start.scriptAt) / 1250 } }
  else s

/-! ### Twin frames (R465) -/

def unitCode : UnitSt → Nat
  | .off => 0
  | .joining => 1
  | .active => 2
  | .standby => 3
  | .failed => 4

/-- The four header words of a twin frame (R465). -/
def State.twinHead (s : State) (kind seq : Nat) : List Word :=
  [pack [(24, 0xA8), (20, 1), (16, kind), (12, if s.isMi then 1 else 2), (8, unitCode s.prun.st), (0, s.pcfg.unit)],
   w32 s.mram.pairGen, w32 (s.pcfg.mac / 2 ^ 16), pack [(16, s.pcfg.mac % 2 ^ 16), (0, seq)]]

/-- The sequence number of the next frame of a KIND. -/
def State.twinSeq (s : State) (kind : Nat) : Nat × State :=
  let q := Tab.get (fun _ => 0) s.prun.seqs kind
  (q, { s with prun := { s.prun with seqs := Tab.put (fun _ => 0) s.prun.seqs kind ((q + 1) % 65536) } })

/-- A twin frame without its FCS. -/
def State.twinFrame (s : State) (kind seq : Nat) (ws : List Word) : List Byte :=
  frameHead 0x03A700000002 s.fused.mgtMac none s.axg.etype ++ wordBytesBE (s.twinHead kind seq ++ ws)

/-- Enter a frame of the timing plane into IQ_TIME, or drop it when the queue is full (R27). -/
def State.putTime (s : State) (i : Ins) : State :=
  if s.tpUp = true ∧ s.buf.iqTime.length < 2048 then { s with buf := { s.buf with iqTime := s.buf.iqTime ++ [i] } } else s

/-- Send a twin frame on the twin port, DIRECT into its spark queue (R465). -/
def State.twinSend (s : State) (kind : Nat) (ws : List Word) : State :=
  let (q, s) := s.twinSeq kind
  s.putTime { bytes := s.twinFrame kind q ws, port := s.pcfg.twinPort, cls := 8, mark := .twin }

/-- Send a formed reply by the carrier the command came by (R65, R76, R79, R83, R630). -/
def State.sendReply (s : State) (c : Ctx) (r : Rpl) : State :=
  if c.mute || c.lost then s
  else
  match c.via with
  | .pcie => ({ s with axg := { s.axg with rplWait := s.axg.rplWait ++ s.replyPackets c r } }).drainReplies
  | .spi => { s with axg := { s.axg with spiQ := s.axg.spiQ ++ s.replyPackets c r } }
  | .inband port sa tci =>
    { s with buf := { s.buf with iqCmd := s.buf.iqCmd ++ (s.replyPackets c r).map (s.axgFrame port sa tci) } }
  | .script i => (s.scriptStatus i r.status).checkStartDone
  | .twin => s.twinSend 4 (replyPacket c r.status r.detail r.words false)

/-- Both executions of a mirrored command have completed: this unit's reply leaves; a difference sets CFG_DIVERGE (R463). -/
def State.mirrorDone (s : State) (c : Ctx) (r pr : Rpl) : State :=
  let s := s.sendReply c r
  if r.status = pr.status ∧ r.words = pr.words then s
  else ({ s with prun := { s.prun with diverge := true } }).log .timing 0x0E05 (srcOf 12 0) (w32 c.op) 0 0

/-- Complete a command: its reply leaves at once, or, when this unit mirrors it to its partner, once the partner has replied (R463). While
the twin link is down nothing can come back, and the reply leaves alone (DEDUCED). While the management plane hangs, replies wait in MBX_RPL,
where each has had its slot reserved (R31, R35). -/
def State.complete (s : State) (c : Ctx) (r : Rpl) : State :=
  if c.lost then s
  else if s.start.mpi = .hung then { s with buf := { s.buf with mbxRpl := s.buf.mbxRpl ++ [(c, r)] } }
  else if c.mirrored then
    if s.prun.twinUp = false then s.sendReply c r
    else
      match s.twinRpl.find? (fun e => decide (e.1 = c.op ∧ e.2.1 = c.tag)) with
      | some e => ({ s with twinRpl := s.twinRpl.erase e }).mirrorDone c r e.2.2
      | none => { s with axg := { s.axg with jobs := s.axg.jobs ++ [{ ctx := c, work := .mirror r }] } }
  else s.sendReply c r

/-- Commands in progress: those held in the part with a reply to come (R67). A broadcast, a closure run and a background test are held where
their own state is. -/
def State.inProgress (s : State) : Nat :=
  (s.axg.jobs.filter (fun j => !j.ctx.lost)).length + s.hier.bcasts.length + (if s.hier.closure.isSome then 1 else 0)
    + (match s.mem.bg with | some b => if b.owner.isSome then 1 else 0 | none => 0)

/-! ### Register operations of the host (R28-R30, R443) -/

/-- The copy in DPI takes part in a restart as these values (R443). -/
def State.hostRegs (s : State) : HostRegs :=
  let a := s.axg
  let h := s.hst
  { cringBase := a.cringBase, cringSize := a.cringSize, rringBase := a.rringBase, rringSize := a.rringSize, axgWb := a.axgWb, axgVec := a.axgVec
    axgVecEn := a.axgVecEn, pringBase := h.pringBase, pringSize := h.pringSize, pbufSize := h.pbufSize, iringBase := h.iringBase
    iringSize := h.iringSize, dmaWb := h.dmaWb, puntVec := h.puntVec, puntVecEn := h.puntVecEn, insVec := h.insVec, insVecEn := h.insVecEn
    msix := h.msix }

/-- The host's registers take the values of a copy (R443, R645). -/
def State.setHostRegs (s : State) (r : HostRegs) : State :=
  { s with
    axg := { s.axg with
      cringBase := r.cringBase, cringSize := r.cringSize, rringBase := r.rringBase, rringSize := r.rringSize, axgWb := r.axgWb
      axgVec := r.axgVec, axgVecEn := r.axgVecEn }
    hst := { s.hst with
      pringBase := r.pringBase, pringSize := r.pringSize, pbufSize := r.pbufSize, iringBase := r.iringBase, iringSize := r.iringSize
      dmaWb := r.dmaWb, puntVec := r.puntVec, puntVecEn := r.puntVecEn, insVec := r.insVec, insVecEn := r.insVecEn, msix := r.msix } }

/-- One register operation is applied in the data plane, between two frames (R28). -/
def State.applyReg (s : State) : RegOp → State
  | .planeW1C v =>
    { s with clk := { s.clk with
        tpFault := s.clk.tpFault && !(bit v 29)
        mbxEvtLost := s.clk.mbxEvtLost && !(bit v 28)
        pqRegEvtLost := s.clk.pqRegEvtLost && !(bit v 27) } }
  | .copy r => { s with hst := { s.hst with copy := r } }

/-- The management plane issues an operation: it enters IQ_REG once a slot of PQ_REG can be reserved for it, and waits until then (R27, R29). -/
def State.putReg (s : State) (o : RegOp) : State :=
  if s.buf.regWait.isEmpty && s.regSlot then { s with buf := { s.buf with iqReg := s.buf.iqReg ++ [o] } }
  else { s with buf := { s.buf with regWait := s.buf.regWait ++ [o] } }

/-- The oldest operation that waits for a slot enters IQ_REG, once there is one (R29). -/
def State.regEnter (s : State) : State :=
  match s.buf.regWait with
  | [] => s
  | w :: u => if s.regSlot then { s with buf := { s.buf with iqReg := s.buf.iqReg ++ [w], regWait := u } } else s

/-- The oldest operation of IQ_REG is applied and answered, and one that waits takes the slot it leaves (R28, R29). -/
def State.regStep (s : State) : State :=
  match s.regEnter.buf.iqReg with
  | [] => s
  | o :: t => (({ s.regEnter with buf := { s.regEnter.buf with iqReg := t } }).applyReg o).regEnter

/-- Every operation that waits is applied: what comes behind them in IQ_REG, a table or counter operation or a host read, acts after them (R28). -/
def State.drainReg (s : State) : State :=
  (s.buf.iqReg ++ s.buf.regWait).foldl State.applyReg { s with buf := { s.buf with iqReg := [], regWait := [] } }

/-- A host write to a register of R77 or R444 or to the MSI-X table goes on to the copy in DPI (R30, R443). -/
def State.copyRegs (s : State) : State := s.putReg (.copy s.hostRegs)

/-- Complete with OK and these words. -/
def State.ok (s : State) (c : Ctx) (ws : List Word) : State := s.complete c { status := stOk, detail := 0, words := ws }

/-- Complete with a status, a detail and no words. -/
def State.err (s : State) (c : Ctx) (status detail : Nat) : State :=
  s.complete c { status := status, detail := detail, words := [] }

/-- A command whose work goes on is held in progress (R67). -/
def State.hold (s : State) (c : Ctx) (w : Work) : State :=
  { s with axg := { s.axg with jobs := s.axg.jobs ++ [{ ctx := c, work := w }] } }

/-- Complete every command in progress whose work a function answers for, in order, each with its reply. -/
def State.completeWhere (s : State) (f : Work → Option Rpl) : State :=
  let done := s.axg.jobs.filterMap (fun j => (f j.work).map (fun r => (j.ctx, r)))
  let s := { s with axg := { s.axg with jobs := s.axg.jobs.filter (fun j => (f j.work).isNone) } }
  done.foldl (fun s d => s.complete d.1 d.2) s

/-- The first command in progress whose work satisfies a test. -/
def State.findJob (s : State) (p : Work → Bool) : Option Job := s.axg.jobs.find? (fun j => p j.work)

/-- Complete the first command in progress whose work satisfies a test. -/
def State.completeFirst (s : State) (p : Work → Bool) (r : Rpl) : State :=
  match s.findJob p with
  | none => s
  | some j => ({ s with axg := { s.axg with jobs := s.axg.jobs.erase j } }).complete j.ctx r

/-- Replace the work of the first command in progress whose work satisfies a test. -/
def updWork (p : Work → Bool) (w : Work) : List Job → List Job
  | [] => []
  | j :: t => if p j.work then { j with work := w } :: t else j :: updWork p w t

/-- Every command in progress with one work takes another. -/
def relabel (a b : Work) (l : List Job) : List Job := l.map (fun (j : Job) => if j.work = a then { j with work := b } else j)

/-- An OK reply. -/
def okRpl (ws : List Word) : Rpl := { status := stOk, detail := 0, words := ws }

end Sys2Proof.Machine
end

