-- ==== Sys2Proof/Machine/Twin.lean ====
section
/-! DEFINITION. What a pair unit does wherever another chapter touches it (chapter 14): its states and gate, the twin link, comparisons and
disputes, and the witness. The twin frames' own steps and the PAIR commands stand in Machine/Pair.lean. -/

namespace Sys2Proof.Machine

open Sys2Proof

namespace State

/-! ### State, gate and beacons (R461, R462, R474) -/

/-- Pair outputs leave only the ACTIVE unit (R461). -/
def pairGateOpen (s : State) : Bool := !s.pcfg.en || decide (s.prun.st = .active)

/-- PAIR_ACT (R462). -/
def pairAct (s : State) : Bool := s.pcfg.en && decide (s.prun.st = .active)

/-- The level of a Hammer ball (R390, R405, R461): low while the part is in reset or TP_UP is 0, the inactive level behind a closed gate. -/
def hamBall (s : State) (k : Nat) : Bool :=
  let x := Tab.get (fun _ => ({} : Ham)) s.hams k
  if s.start.resetN = false ∨ s.clk.tpUp = false then false else xor (x.active && s.pairGateOpen) x.pol

/-- The balls whose output is at its active level change as the gate opens or closes (R461, R477). -/
def gateEdges (s : State) : State :=
  (s.hams.filter (fun e => e.2.active)).foldl (fun s e => s.emit (.hamEdge e.1 (s.hamBall e.1) (s.tb e.2.tb).val)) s

/-- A BEACON leaves on the twin port and, as a LOOKUP frame in class 7, on BEACON_VID (R465). It comes from the timing plane, until the last
gasp begins (R475). -/
def beacon (s : State) : State :=
  if s.prun.st = .off ∨ s.start.power ≠ .run then s
  else
    let s := s.twinSend 0 []
    let (q, s) := s.twinSeq 0
    s.putTime { bytes := s.twinFrame 0 q [], lookup := true, cls := 7, vid := s.pcfg.beaconVid }

/-- The unit changes state: its record, and a BEACON at once (R465, R474). -/
def setUnit (s : State) (n : UnitSt) (cause : Nat) : State :=
  let old := s.prun.st
  let was := s.pairGateOpen
  let s := { s with prun := { s.prun with st := n, activeAt := s.clk.tick, heardAt := s.clk.tick } }
  let s := if s.pairGateOpen = was then s else s.gateEdges
  (s.log .timing 0x0E01 (srcOf 12 0) (pack [(0, unitCode n), (4, unitCode old), (8, cause)]) (w32 s.mram.pairGen) 0).beacon

/-- PAIR_GEN takes a value, written to MRAM at once (R473, R486). -/
def setGen (s : State) (g : Nat) : State :=
  let s := s.charge (jobFixed 11)
  { s with mram := { s.mram with pairGen := g % 2 ^ 32 } }

/-- Takeover (R474). The overlap of the two units is not something either can compute from what the frames carry: a free value while the
twin link is up (R482). -/
def takeover (s : State) (gen cause : Nat) : State :=
  let (n, s) := s.drawNat
  let s := s.setGen gen
  let s := { s with prun := { s.prun with
    takeovers := inc16 s.prun.takeovers, lastCause := cause, dispute := none, own := none, partner := none, faulty := false
    lastDual := if s.prun.twinUp then n % 2 ^ 32 else 0xFFFFFFFF } }
  s.setUnit .active cause

/-- Stand-down (R474). -/
def standDown (s : State) : State :=
  let n : UnitSt := if s.prun.faulty then .failed else .standby
  s.setUnit n s.prun.lastCause

/-- PAIR.SWITCH commands that wait on the ACTIVE unit reply (R481). -/
def switchReply (s : State) (done : Bool) : State :=
  s.completeWhere (fun w => match w with
    | .pairSwitch => some (okRpl [pack [(0, done.toNat)], w32 s.mram.pairGen])
    | _ => none)

/-! ### The twin link (R466) -/

/-- Replies that wait for the partner's leave alone (DEDUCED). -/
def mirrorAlone (s : State) : State :=
  let l := s.axg.jobs.filterMap (fun j => match j.work with | .mirror r => some (j.ctx, r) | _ => none)
  let s := { s with
    axg := { s.axg with jobs := s.axg.jobs.filter (fun j => match j.work with | .mirror _ => false | _ => true) }
    twinRpl := [] }
  l.foldl (fun s e => s.sendReply e.1 e.2) s

/-- The twin link goes down (R466, R479): comparison is suspended, a dispute abandoned. -/
def twinLost (s : State) : State :=
  if s.prun.twinUp = false then s
  else
    let s := { s with prun := { s.prun with
      twinUp := false, twinDown := true, dispute := none, own := none, partner := none, syncCmp := [], hamCmp := [], ham0 := [],
      ownDigests := [], partnerDigests := [], digestRun := 0, beyond := [] } }
    ((s.log .timing 0x0E04 (srcOf 12 0) 0 0 0).mirrorAlone).switchReply false

/-- A twin frame has arrived on the twin port (R466). -/
def twinHeard (s : State) : State :=
  let s := { s with prun := { s.prun with twinAt := s.clk.tick } }
  if s.prun.twinUp then s
  else ({ s with prun := { s.prun with twinUp := true, twinDown := false } }).log .timing 0x0E04 (srcOf 12 0) 1 0 0

/-- TAKEOVER_DELAY in ticks (R473, R480). -/
def takeoverTicks (s : State) : Nat := s.pcfg.takeoverDelay * 125000

/-- Beacon loss: no ACTIVE beacon of the partner for TAKEOVER_DELAY (R473). -/
def beaconLost (s : State) : Bool := decide (s.prun.activeAt + s.takeoverTicks ≤ s.clk.tick)

/-! ### Comparison (R467-R469) -/

/-- Units of 2^-18 ns as ps. -/
def fracPs (x : Int) : Int := roundDiv (x * 1000) 262144

/-- A dispute is raised (R469): not while one is in progress, nor, by the standby, within 1 s of one that ended with no change. -/
def raiseDispute (s : State) (d : Disputed) (last : Int) : State :=
  if s.prun.dispute.isSome = true ∨ (s.prun.st ≠ .active ∧ s.clk.tick < s.prun.quietUntil) ∨ s.prun.twinUp = false then s
  else
    let s := { s with prun := { s.prun with
      dispute := some d, own := none, partner := none, disputes := inc16 s.prun.disputes, beyond := [], digestRun := 0 } }
    let code := match d with | .ham _ => 0 | .sync _ => 1 | .digest => 2
    s.log .timing 0x0E02 (srcOf 12 0) (w32 code) (i32 last) 0

/-- One comparison of an output gives D in ps (R469). -/
def compared (s : State) (key : Nat) (d : Disputed) (x : Int) : State :=
  let s := { s with prun := match d with | .ham _ => { s.prun with dHam := x } | .sync _ => { s.prun with dSync := x } | .digest => s.prun }
  let n := if s.pcfg.cmpThresh < x.natAbs then Tab.get (fun _ => 0) s.prun.beyond key + 1 else 0
  let s := { s with prun := { s.prun with beyond := Tab.put (fun _ => 0) s.prun.beyond key n } }
  if s.pcfg.cmpCount ≤ n then s.raiseDispute d x else s

/-- Comparison runs on a STANDBY with the twin link up (R467). -/
def comparing (s : State) : Bool := s.pcfg.en && decide (s.prun.st = .standby) && s.prun.twinUp

/-- A boundary of HAM0 that both units have emitted is compared (R467). -/
def matchHam (s : State) (k : Nat) : State :=
  match s.prun.ham0.find? (fun e => decide (e.1 = k)), s.prun.hamCmp.find? (fun e => decide (e.1 = k)) with
  | some o, some a =>
    let s := { s with prun := { s.prun with ham0 := s.prun.ham0.erase o, hamCmp := s.prun.hamCmp.erase a } }
    if o.2.1 ≠ a.2.1 ∨ o.2.2.2 = true ∨ a.2.2.2 = true then s
    else s.compared 0 (.ham o.2.1) (fracPs (o.2.2.1 + s.prun.theta.getD o.2.1 0 - a.2.2.1))
  | _, _ => s

/-- The content of a COMPARE frame about a boundary, a Sync or a digest window: the spec names its items and not their places, so that their
order is the model's (DESIGN CHOICE, notes/assumptions/48.md). -/
def cmpHamWords (k tb : Nat) (t : Int) (uncal : Bool) : List Word :=
  [0, w32 (k / 2 ^ 32), w32 k] ++ timeWords (t * (fracU : Nat)).toNat ++ [pack [(0, tb), (8, uncal.toNat)]]

/-- HAM0 has emitted a boundary in a periodic or converter-start mode (R467): the active reports it, the standby compares it. -/
def ham0Boundary (s : State) (k tb : Nat) (t : Int) (uncal : Bool) : State :=
  if s.pcfg.en = false ∨ s.pcfg.cmpHam = false ∨ s.prun.twinUp = false then s
  else if s.prun.st = .active then s.twinSend 2 (cmpHamWords k tb t uncal)
  else if s.prun.st = .standby then
    ({ s with prun := { s.prun with ham0 := (s.prun.ham0 ++ [(k, tb, t, uncal)]).drop (s.prun.ham0.length - 15) } }).matchHam k
  else s

/-- A Sync of a MASTER session has left the active (R467). -/
def syncSent (s : State) (sid seq tb : Nat) (st : Stamp) : State :=
  if s.pcfg.en = true ∧ s.pcfg.cmpSync = true ∧ s.prun.twinUp = true ∧ s.prun.st = .active then
    s.twinSend 2 ([1, pack [(16, sid), (0, seq % 65536)]] ++ timeWords (st.times.getD tb 0) ++ [wd st.tags tb])
  else s

/-- The active of a pair tells its partner a change of its worker table or of its closure results (R463), in a CONFIG frame whose content the
spec does not lay out (DESIGN CHOICE, notes/assumptions/48.md). -/
def twinTell (s : State) (ws : List Word) : State :=
  if s.pcfg.en = true ∧ s.prun.st = .active ∧ s.prun.twinUp = true then s.twinSend 4 ws else s

/-! ### The witness (R471) -/

/-- A sample of the witness in ps: of session WIT_SID under WITNESS 1, of reference WIT_REF under WITNESS 2. -/
def witnessSample (s : State) (kind id : Nat) (x : Int) : State :=
  if s.pcfg.en = true ∧ s.pcfg.witness = kind ∧ id = (if kind = 1 then s.pcfg.witSid else s.pcfg.witRef) then
    { s with prun := { s.prun with witness := x :: s.prun.witness.take 15 } }
  else s

end State

end Sys2Proof.Machine
end

