-- ==== Sys2Proof/Machine/Axger.lean ====
section
/-! DEFINITION. Reception of command packets (chapter 02): the checks of R56 in their order, authentication and replay (R59-R63),
privilege and life cycle (R64, R567), segments (R69), relay (R85-R87), and the commands and steps of the chapter. -/

namespace Sys2Proof.Machine

open Sys2Proof

/-! ### The master opcode table (R91) -/

/-- Privilege classes (R64). -/
inductive Cls where
  | q | c | k
deriving DecidableEq, Repr

/-- Opcodes of class Q. -/
def opsQ : List Nat :=
  [0x0100, 0x0101, 0x0113, 0x0201, 0x0205, 0x0221, 0x0224, 0x0242, 0x0302, 0x0305, 0x0342, 0x0400, 0x0405, 0x0442, 0x0443]
  ++ [0x0503, 0x0603, 0x0703, 0x0802, 0x0902, 0x0A02, 0x0A03, 0x0B00, 0x0B02, 0x0C01, 0x0D03, 0x0D07, 0x0D08, 0x0E01, 0x0F01, 0x0F04,
    0x1000]

/-- Opcodes of class K. -/
def opsK : List Nat := [0x0445, 0x0C04, 0x0F00, 0x0F02, 0x0F03, 0x0F05, 0x1002]

/-- Opcodes of class C. -/
def opsC : List Nat :=
  [0x0102, 0x0110, 0x0111, 0x0112, 0x0200, 0x0202, 0x0203, 0x0204, 0x0206, 0x0220, 0x0222, 0x0223, 0x0240, 0x0241]
  ++ [0x0300, 0x0301, 0x0303, 0x0304, 0x0306, 0x0307, 0x0308, 0x0309, 0x0340, 0x0341, 0x0401, 0x0402, 0x0403, 0x0404, 0x0440, 0x0441,
    0x0444, 0x0446]
  ++ [0x0500, 0x0501, 0x0502, 0x0504, 0x0600, 0x0601, 0x0602, 0x0604, 0x0605, 0x0700, 0x0701, 0x0702, 0x0704, 0x0800, 0x0801, 0x0803,
    0x0804, 0x0900, 0x0901]
  ++ [0x0A00, 0x0A01, 0x0B01, 0x0B03, 0x0C00, 0x0C02, 0x0C03, 0x0D00, 0x0D01, 0x0D02, 0x0D06, 0x0E00, 0x0E02, 0x1001, 0x1003]

/-- HIER.BROADCAST, whose class is that of the command it carries (R64, R88). -/
def opBroadcast : Nat := 0x0D05

/-- The opcode is in the master table. -/
def opDefined (op : Nat) : Bool := opsQ.contains op || opsC.contains op || opsK.contains op || decide (op = opBroadcast)

/-- Manager functions (R2, R91). -/
def opManager (op : Nat) : Bool := [0x0D01, 0x0D02, 0x0D03, 0x0D05, 0x0D06, 0x0D07].contains op

/-- The class of a command; a broadcast takes that of the packet inside, or K when there is none in the table (R64). The fuel bounds
broadcasts nested in one another. -/
def classOf : Nat → Nat → List Word → Cls
  | 0, _, _ => .k
  | f + 1, op, ws =>
    if op = opBroadcast then
      let n := fld (wd ws 0) 15 0
      if ws.length < 1 + n + 4 then .k
      else classOf f (fld (wd ws (1 + n)) 15 0) (ws.drop (1 + n + 4))
    else if opsQ.contains op then .q
    else if opsC.contains op then .c
    else .k

/-- The class of a received command. -/
def Pkt.cls (op : Nat) (ws : List Word) : Cls := classOf (ws.length + 1) op ws

/-! ### Authentication and replay (R59-R63) -/

/-- A packet that entered over this device's own PCIe or SPI. -/
def ownHost : Via → Bool
  | .pcie => true
  | .spi => true
  | _ => false

/-- The key that verifies a packet, when it is loaded (R60). -/
def State.keyFor (s : State) (p : Pkt) : Option Nat :=
  if ownHost p.via = true ∧ p.srcId = 0x3FFFF then s.mram.hostKey else s.mram.sysKey

/-- The additional authenticated data of a command: its header with RELAY taken as 0, and its parameters (R59). -/
def cmdAad (op : Nat) (p : Pkt) : List Byte :=
  wordBytesBE
    ([hdrWord0 false p.auth false p.more op, pack [(16, p.tag % 2 ^ 16), (0, p.words.length)],
      pack [(18, p.rsv2 % 2 ^ 14), (0, p.destId % 2 ^ 18)],
      pack [(26, p.rsv3 % 2 ^ 6), (18, p.seq % 256), (0, p.srcId % 2 ^ 18)]] ++ p.words)

/-- The outcome of the authentication check of one packet: a DETAIL when it fails, the epoch and key it verified under, and the state
with the replay table updated. -/
structure Auth where
  fail : Option Nat
  epoch : Nat
  key : Nat
  s : State

/-- Is this the replay entry of the packet (R63)? -/
def Replay.isOf (p : Pkt) (r : Replay) : Bool := decide (r.srcId = p.srcId ∧ r.own = decide (p.destId ≠ 0x3FFFF))

/-- Check one packet with AUTH = 1 under R59-R63. -/
def State.authCheck (s : State) (op : Nat) (p : Pkt) : Auth :=
  match s.keyFor p with
  | none => { fail := some 5, epoch := 0, key := 0, s := s }
  | some key =>
    if s.mram.bootEpoch = 0xFFFF then { fail := some 5, epoch := 0, key := 0, s := s }
    else
      let own := decide (p.destId ≠ 0x3FFFF)
      let old := s.axg.replay.find? (Replay.isOf p)
      if old.isNone = true ∧ 64 ≤ s.axg.replay.length then { fail := some 4, epoch := 0, key := 0, s := s }
      else
        let e := old.getD { srcId := p.srcId, own := own, lastSeq := 0, epoch := 0 }
        let d := (p.seq + 256 - e.lastSeq) % 256
        let epoch := if p.seq < e.lastSeq then e.epoch + 1 else e.epoch
        if d = 0 ∨ 127 < d then { fail := some 2, epoch := epoch, key := key, s := s }
        else if 2 ^ 32 ≤ epoch then { fail := some 5, epoch := epoch, key := key, s := s }
        else if gmac256 key (gmacIv p.srcId p.destId epoch p.seq false s.mram.bootEpoch) (cmdAad op p) = p.mac then
          let e' : Replay := { srcId := p.srcId, own := own, lastSeq := p.seq, epoch := epoch }
          let rest := s.axg.replay.filter (fun r => !Replay.isOf p r)
          { fail := none, epoch := epoch, key := key, s := { s with axg := { s.axg with replay := rest ++ [e'] } } }
        else { fail := some 1, epoch := epoch, key := key, s := s }

/-! ### Privilege and life cycle (R64, R566, R567, R631) -/

/-- INBAND_AUTH_REQ in force: OPERATIONAL clamps it to 1 (R567). -/
def State.authReqNow (s : State) : Bool := s.axg.arrivedReq.getD s.axg.authReq || decide (s.mram.lc = .operational)

/-- The class check: the status and DETAIL of a command outside its class's conditions (R64, R630). -/
def State.classCheck (s : State) (cls : Cls) (via : Via) (authed : Bool) : Option (Nat × Nat) :=
  match cls with
  | .q => none
  | .c =>
    match via with
    | .inband _ _ _ => if authed = true ∨ s.authReqNow = false then none else some (stAuthFail, 3)
    | _ => none
  | .k =>
    match via with
    | .script _ => some (stDenied, 1)
    | _ =>
    if s.mram.lc = .manufacture then (if ownHost via then none else some (stDenied, 1))
    else if authed then none else some (stAuthFail, 3)

def lcCode : Lc → Nat
  | .manufacture => 0
  | .provisioned => 1
  | .operational => 2
  | .decommissioned => 3

/-- The changes SEC.LC_SET may make (R566). -/
def lcAllowed (src : Lc) (target : Nat) : Bool :=
  match src with
  | .manufacture => decide (target = 1 ∨ target = 3)
  | .provisioned => decide (target = 2 ∨ target = 3)
  | .operational => decide (target = 1 ∨ target = 3)
  | .decommissioned => false

/-- Opcodes the boot ROM serves in the recovery state (R631). -/
def opsRecovery : List Nat := [0x0100, 0x0101, 0x0113, 0x0111, 0x0112, 0x1002]

/-- The life-cycle check (R566, R567, R631). -/
def State.lcCheck (s : State) (op : Nat) (ws : List Word) (via : Via) : Option (Nat × Nat) :=
  let target := fld (wd ws 0) 1 0
  if s.start.mpi = .recovery ∧ opsRecovery.contains op = false then some (stDenied, 2)
  else if op = 0x0F00 ∧ ws ≠ [] ∧ lcAllowed s.mram.lc target = false then some (stDenied, 2)
  else if (op = 0x0F02 ∨ op = 0x0445 ∨ (op = 0x0F00 ∧ (target = 1 ∨ target = 2))) ∧ ownHost via = false then some (stDenied, 1)
  else if op = 0x0F05 ∧ (s.mram.lc = .operational ∨ s.mram.lc = .decommissioned) then some (stDenied, 2)
  else if opsK.contains op = true ∧ s.mram.lc = .decommissioned then some (stDenied, 2)
  else none

/-! ### Relay (R85-R87, R329) -/

/-- The device's DEVICE_ID. -/
def State.devId (s : State) : Nat := s.hcfg.deviceId

/-- The device's subtree range (R316). -/
def State.inRange (s : State) (id : Nat) : Bool :=
  let lo := if s.devId = 0x3FFFF then 0 else s.devId
  decide (lo ≤ id ∧ id ≤ s.hcfg.subHi)

/-- The child whose range contains a DEVICE_ID: its slot and entry (R329). -/
def State.childFor (s : State) (id : Nat) : Option (Nat × Worker) :=
  List.find? (fun (e : Nat × Worker) => decide (e.2.childId ≤ id ∧ id ≤ e.2.subHi)) s.workers

/-- The 802.1Q tag of a child's frames (R86). -/
def Worker.tci (w : Worker) : Option Nat := if w.vlanEn then some (w.pcp * 2 ^ 13 + w.vid) else none

/-- A command packet as words, with RELAY set (R86). -/
def relayWords (op : Nat) (p : Pkt) : List Word :=
  let body :=
    [hdrWord0 false p.auth true p.more op, pack [(16, p.tag % 2 ^ 16), (0, p.words.length)],
     pack [(18, p.rsv2 % 2 ^ 14), (0, p.destId % 2 ^ 18)],
     pack [(26, p.rsv3 % 2 ^ 6), (18, p.seq % 256), (0, p.srcId % 2 ^ 18)]] ++ p.words
  if p.auth then body ++ tagWords p.mac else body

/-- The context in which an unexecuted command is answered. -/
def State.plainCtx (s : State) (op : Nat) (p : Pkt) : Ctx :=
  { via := p.via, op := op, tag := p.tag, seq := p.seq, srcId := p.srcId, respId := s.devId, bootEpoch := s.mram.bootEpoch }

/-- Send a packet in band to a child, as one relay does, in segments where it is too large (R84, R86). -/
def State.sendToChild (s : State) (w : Worker) (pkt : List Word) : State :=
  if s.pairGateOpen then
    { s with buf := { s.buf with iqCmd := s.buf.iqCmd ++ (s.linkPackets pkt).map (s.axgFrame w.port w.mac w.tci) } }
  else s

/-- The checks of R85 in order: the status and DETAIL of the first that fails, or the child on the path. -/
def State.relayCheck (s : State) (p : Pkt) : (Nat × Nat) ⊕ Worker :=
  if s.isMi = false then .inl (stNotManager, 0)
  else if s.inRange p.destId = false then .inl (stUnreach, 1)
  else
    match s.childFor p.destId with
    | none => .inl (stUnreach, 1)
    | some (_, w) =>
      if w.pres = .absent then .inl (stUnreach, 2)
      else if p.srcId = 0x3FFFF then .inl (stDenied, 3)
      else .inr w

/-- A packet continues a relayed command whose segments are still to come, or one that was refused (R69). -/
def Relay.continues (op : Nat) (p : Pkt) (r : Relay) : Bool :=
  r.more && decide (r.srcId = p.srcId ∧ r.op = op ∧ r.tag = p.tag ∧ r.destId = p.destId)
def RelayTail.continues (op : Nat) (p : Pkt) (t : RelayTail) : Bool :=
  decide (t.srcId = p.srcId ∧ t.op = op ∧ t.tag = p.tag ∧ t.destId = p.destId)

/-- A refused command whose segments are still coming is kept, at most one for each SRC_ID and 64 in all, the oldest giving way. -/
def addTail (t : RelayTail) (l : List RelayTail) : List RelayTail :=
  let rest := l.filter (fun x => decide (x.srcId ≠ t.srcId))
  (if rest.length < 64 then rest else rest.drop 1) ++ [t]

/-- A command for another DEVICE_ID (R85): one whose segments are under way goes after them, under the one record; else its checks in order,
then the relay with its record (R69, R86, R87). A refused command has one reply, at its last segment (R65). -/
def State.relayCommand (s : State) (op : Nat) (p : Pkt) : State :=
  let c := s.plainCtx op p
  match s.axg.relays.find? (Relay.continues op p) with
  | some r =>
    let s := { s with axg := { s.axg with relays := s.axg.relays.map (fun x =>
      if x = r then { r with more := p.more, back := .carrier c } else x) } }
    (match s.childFor p.destId with
     | some (_, w) => s.sendToChild w (relayWords op p)
     | none => s)
  | none =>
    match s.axg.tails.find? (RelayTail.continues op p) with
    | some t =>
      if p.more then s
      else
        let s := { s with axg := { s.axg with tails := s.axg.tails.erase t } }
        (match t.owed with
         | some (st, d) => s.err c st d
         | none => s)
    | none =>
      match s.relayCheck p with
      | .inl (st, d) =>
        if p.more then
          let t : RelayTail := { srcId := p.srcId, op := op, tag := p.tag, destId := p.destId, owed := some (st, d) }
          { s with axg := { s.axg with tails := addTail t s.axg.tails } }
        else s.err c st d
      | .inr w =>
        let r : Relay := { tag := p.tag, srcId := p.srcId, child := w.childId, mac := w.mac, back := .carrier c, op := op, destId := p.destId
                           more := p.more }
        let s := { s with axg := { s.axg with relays := s.axg.relays ++ [r] } }
        s.sendToChild w (relayWords op p)

/-! ### Segments (R69) -/

/-- Does a packet continue this partial command? -/
def Partial.continues (op : Nat) (p : Pkt) (x : Partial) : Bool :=
  decide (x.srcId = p.srcId ∧ x.op = op ∧ x.tag = p.tag ∧ x.destId = p.destId)

/-- The authentication outcome of a segment joined to what came before. -/
def joinSegment (old : Option Partial) (op : Nat) (p : Pkt) (a : Auth) : Partial :=
  match old with
  | none =>
    { srcId := p.srcId, op := op, tag := p.tag, destId := p.destId, words := p.words, allAuth := p.auth,
      fail := if p.auth then a.fail else none, epoch := a.epoch, key := a.key }
  | some x =>
    { x with
      words := x.words ++ p.words
      allAuth := x.allAuth && p.auth
      fail := match x.fail with | some d => some d | none => if p.auth then a.fail else none
      epoch := a.epoch
      key := a.key }

/-- The check of a packet's own tag; a packet without one passes here. -/
def State.segAuth (s : State) (op : Nat) (p : Pkt) : Auth :=
  if p.auth then s.authCheck op p else { fail := none, epoch := 0, key := 0, s := s }

/-- A non-final segment arrives (R69). -/
def State.segment (s : State) (op : Nat) (p : Pkt) : State :=
  let a := s.segAuth op p
  let s := a.s
  let mine := s.axg.partials.find? (fun x => decide (x.srcId = p.srcId))
  let rest := s.axg.partials.filter (fun x => decide (x.srcId ≠ p.srcId))
  match mine with
  | some x =>
    if x.continues op p then
      { s with axg := { s.axg with partials := rest ++ [joinSegment (some x) op p a] } }
    else
      { s with axg := { s.axg with partials := rest ++ [joinSegment none op p a], reasmDrop := inc8 s.axg.reasmDrop } }
  | none =>
    if rest.length < 64 then
      { s with axg := { s.axg with partials := rest ++ [joinSegment none op p a] } }
    else
      { s with axg := { s.axg with partials := rest.drop 1 ++ [joinSegment none op p a], reasmDrop := inc8 s.axg.reasmDrop } }

/-! ### Acceptance (R56) and execution -/

/-- A command's body: what it does once accepted. -/
abbrev Body := Ctx → List Word → State → State

/-- The LEN an opcode's structure requires: none when LEN fits, the DETAIL of BAD_LENGTH otherwise (R57). -/
abbrev LenRule := List Word → Option Nat

/-- LEN is one fixed number. -/
def lenIs (n : Nat) : LenRule := fun ws => if ws.length = n then none else some n

/-- The management plane takes commands by this carrier now (R625, R631, R663, R497, R557). -/
def State.takes (s : State) (v : Via) : Bool :=
  match s.start.power, s.start.mpi, v with
  | .run, .up, .inband _ _ _ => s.axg.inbandEn
  | .run, .up, .pcie => s.start.pcieUp
  | .run, .up, _ => true
  | .run, .recovery, .pcie => s.start.pcieUp
  | .run, .recovery, .spi => true
  | _, _, _ => false

/-- Commands that reach the timing plane through MBX_CMD (R31). -/
def timingOp (op : Nat) : Bool := decide (0x0400 ≤ op ∧ op < 0x0800)

/-- The block a command names, where one: lane or channel (R565). -/
def blockOf (op : Nat) (ws : List Word) : List (Bool × Nat) :=
  if 0x0200 ≤ op ∧ op ≤ 0x0206 then [(false, min 95 (fld (wd ws 0) 6 0))]
  else if op = 0x0500 ∨ op = 0x0503 ∨ op = 0x0504 then [(true, min 27 (fld (wd ws 0) 4 0))]
  else if op = 0x0501 ∨ op = 0x0502 then (maskBits 28 (wd ws 0).toNat).map (fun k => (true, k))
  else []

/-- A block under test that a command names, while a segment of it runs. -/
def State.runningBlock (s : State) (op : Nat) (ws : List Word) : Option Block :=
  s.sec.blocks.find? (fun b => b.running && (blockOf op ws).contains (b.chan, b.index))

/-- Commands carried out through IQ_REG: the lane, port and bypass settings, the tables, the buffer and the counters (R24). -/
def dataOp (op : Nat) : Bool := decide (0x0200 ≤ op ∧ op < 0x0400) || decide (0x0C00 ≤ op ∧ op < 0x0D00)

/-- Two commands came by one carrier (R68). -/
def sameCarrier (a b : Via) : Bool :=
  match a, b with
  | .pcie, .pcie => true
  | .spi, .spi => true
  | .inband _ _ _, .inband _ _ _ => true
  | .script _, .script _ => true
  | .twin, .twin => true
  | _, _ => false

/-- The command has not taken effect yet, for a reason that is neither energy credit nor a future time (R68): its pair is in transition (R161),
a segment of its block runs (R565), its counters take a tick each (R609), or one before it has not taken effect. -/
def Work.holdsBack : Work → Bool
  | .bypass _ _ acted => !acted
  | .policy _ _ _ => true
  | .blocked _ _ _ => true
  | .behind _ => true
  | .cntRead _ _ _ _ _ => true
  | .cntWrite _ _ _ _ => true
  | _ => false

/-- A command of a carrier and opcode group waits behind an earlier one of them that has not taken effect (R68). -/
def State.behindOne (s : State) (c : Ctx) : Bool :=
  s.axg.jobs.any (fun j => j.work.holdsBack && sameCarrier j.ctx.via c.via && decide (j.ctx.op / 256 = c.op / 256))

/-- Entries of MBX_CMD and commands the timing plane has begun: each holds its slot of MBX_RPL until its reply (R31, R35). -/
def Work.onTiming : Work → Bool
  | .timeSet _ _ _ => true
  | .timeStep _ _ _ => true
  | .slew _ _ _ => true
  | .measStart _ _ _ => true
  | .stats _ _ => true
  | .hamDisarm _ _ => true
  | .hamAlign _ _ _ _ _ _ => true
  | _ => false

/-- Slots of MBX_RPL in use by commands the timing plane has begun. -/
def State.rplSlots (s : State) : Nat := (s.axg.jobs.filter (fun j => j.work.onTiming)).length + s.buf.mbxRpl.length

/-- A command waits for the timing plane, in MBX_CMD or for a place in it (R27, R39). -/
def Work.inMailbox : Work → Bool
  | .mailbox _ => true
  | _ => false

/-- The entries that MBX_CMD holds of the commands that wait for the timing plane, oldest first: while an entry's place, its 4,096 words of
parameters and its slot of MBX_RPL last; those behind wait in the management plane (R27, R31, R35). -/
def mbxTake : Nat → Nat → List Job → List Job
  | _, _, [] => []
  | slots, words, j :: t =>
    match j.work with
    | .mailbox ws => if 0 < slots ∧ ws.length ≤ words then j :: mbxTake (slots - 1) (words - ws.length) t else []
    | _ => mbxTake slots words t

/-- MBX_CMD. -/
def State.mbxCmd (s : State) : List Job := mbxTake (64 - s.rplSlots) 4096 s.axg.jobs

/-- The timing plane can take a command at once: it is in service, none waits before it, and a slot of MBX_RPL is free (R33, R35, R39). -/
def State.mbxOpen (s : State) : Bool :=
  s.tpUp && decide (s.rplSlots < 64) && s.axg.jobs.all (fun j => !j.work.inMailbox)

/-- A command acts: it waits while a segment of a block it names runs (R565); otherwise its body acts, behind the register operations that wait
where it is carried out through IQ_REG (R28). -/
def State.performNow (s : State) (body : Body) (c : Ctx) (ws : List Word) : State :=
  match s.runningBlock c.op ws with
  | some b => s.hold c (.blocked b.chan b.index ws)
  | none => body c ws (if dataOp c.op then s.drainReg else s)

/-- Execute an accepted command: it waits behind one of its carrier and group that has not taken effect (R68), or for the timing plane (R33, R39);
otherwise it acts. -/
def State.perform (s : State) (body : Body) (c : Ctx) (ws : List Word) : State :=
  if s.behindOne c then s.hold c (.behind ws)
  else if timingOp c.op = true ∧ s.mbxOpen = false then s.hold c (.mailbox ws)
  else s.performNow body c ws

/-- The groups whose commands are not mirrored (R463). -/
def unmirrored (op : Nat) : Bool := [0x01, 0x0E, 0x0F, 0x10].contains (op / 256)

/-- A unit of a pair mirrors accepted in-band commands of class C, but for the groups named in R463. -/
def State.mirrors (s : State) (op : Nat) (cls : Cls) (via : Via) : Bool :=
  match via with
  | .inband _ _ _ =>
    s.pcfg.en && s.pcfg.cfgMirror && decide (s.prun.st = .active) && s.prun.twinUp && decide (cls = .c) && !unmirrored op
  | _ => false

/-- The command packet a CONFIG frame carries (R463, R465): the accepted command, whole and without a tag. -/
def mirrorPacket (op tag srcId : Nat) (ws : List Word) : List Word :=
  [hdrWord0 false false false false op, pack [(16, tag % 2 ^ 16), (0, ws.length)], w32 0x3FFFF, pack [(0, srcId % 2 ^ 18)]] ++ ws

/-- Count an AUTH_FAIL (R95). -/
def State.authFailed (s : State) (c : Ctx) (detail : Nat) : State :=
  ({ s with axg := { s.axg with authFails := inc8 s.axg.authFails } }).err c stAuthFail detail

/-- Steps 3 to 6 of R56 on a whole command whose tags verify, then its execution. -/
def State.execute (s : State) (len : LenRule) (body : Body) (c : Ctx) (ws : List Word) : State :=
  let cls := Pkt.cls c.op ws
  if opDefined c.op = false then s.err c stUnknown 0
  else if opManager c.op = true ∧ s.isMi = false then s.err c stNotManager 0
  else
    match s.classCheck cls c.via c.authed with
    | some (st, d) => if st = stAuthFail then s.authFailed c d else s.err c st d
    | none =>
      match s.lcCheck c.op ws c.via with
      | some (st, d) => s.err c st d
      | none =>
        match len ws with
        | some d => s.err c stBadLength d
        | none =>
          if 1023 < ws.length then s.err c stBadLength 0
          else if s.mirrors c.op cls c.via then
            (s.twinSend 4 (mirrorPacket c.op c.tag c.srcId ws)).perform body { c with mirrored := true } ws
          else s.perform body c ws

/-- Steps 2 to 6 of R56 on a whole command, then its execution. -/
def State.accept (s : State) (len : LenRule) (body : Body) (op : Nat) (p : Pkt) : State :=
  let a := s.segAuth op p
  let j := joinSegment (s.axg.partials.find? (Partial.continues op p)) op p a
  let s := { a.s with axg := { a.s.axg with partials := a.s.axg.partials.filter (fun x => !x.continues op p) } }
  let authed := j.allAuth && j.fail.isNone
  let c : Ctx :=
    { via := p.via, op := op, tag := p.tag, seq := p.seq, srcId := p.srcId, respId := s.devId, authed := authed, epoch := j.epoch,
      bootEpoch := s.mram.bootEpoch, key := if authed then j.key else 0, mirrored := false }
  match j.fail with
  | some d => s.authFailed c d
  | none => s.execute len body c j.words

/-- A packet for another device needs a relay record (R85, R87). -/
def State.relays (s : State) (p : Pkt) : Bool := decide (p.destId ≠ 0x3FFFF ∧ p.destId ≠ s.devId)

/-- A packet that is relayed and takes a relay record (R85, R87): the first of its command. -/
def State.needsRecord (s : State) (op : Nat) (p : Pkt) : Bool :=
  s.relays p && (match s.relayCheck p with | .inr _ => true | .inl _ => false) && s.axg.relays.all (fun r => !Relay.continues op p r)
    && s.axg.tails.all (fun t => !RelayTail.continues op p t)

/-- There is room to take a packet: fewer than 256 commands in progress (R67), and a relay record when it needs one (R87). -/
def State.room (s : State) (op : Nat) (p : Pkt) : Bool :=
  decide (s.inProgress < 256) && (!s.needsRecord op p || decide (s.axg.relays.length < 1024))

/-- A packet that is taken (R55 passed): routing first (R56), then a segment or a whole command. -/
def State.taken (s : State) (len : LenRule) (body : Body) (op : Nat) (p : Pkt) : State :=
  if s.relays p then s.relayCommand op p
  else if p.more then s.segment op p
  else s.accept len body op p

/-- A command packet arrives (R55 passed). While the management plane does not take commands by this carrier, or has no room, the packet is
not taken. -/
def State.receive (s : State) (len : LenRule) (body : Body) (op : Nat) (p : Pkt) : State :=
  if s.takes p.via = true ∧ s.room op p = true then s.taken len body op p else s

/-! ### Commands of the chapter -/

/-- SYS.NOP (R92). -/
def bodySysNop : Body := fun c _ s => s.ok c []

/-- DEV_IDENT (R4). -/
def State.devIdent (s : State) : Word := pack [(16, 0x9632), (12, if s.isMi then 1 else 2), (4, 0xB1)]

/-- SYS.IDENT (R93). -/
def bodySysIdent : Body := fun c _ s =>
  s.ok c [s.devIdent, w32 s.devId, w32 (s.fused.mgtMac / 2 ^ 16), pack [(16, s.fused.mgtMac % 2 ^ 16), (0, s.mram.bootEpoch)],
    w32 s.start.version, pack [(0, lcCode s.mram.lc), (2, s.start.slot)]]

/-- A legal AXG_ETYPE: excluded values take the next higher legal value (R70, R94). -/
def clampEtype (e : Nat) : Nat :=
  let e := max 0x0600 e
  if e = 0x8100 ∨ e = 0x88A8 ∨ e = 0x88F7 then e + 1 else e

/-- SYS.AXG_CONFIG (R94): its own reply leaves under the settings before it; in OPERATIONAL, INBAND_AUTH_REQ is clamped to 1 (R567). -/
def bodyAxgConfig : Body := fun c ws s =>
  let w := bit (wd ws 0) 31
  let a := s.axg
  let a := if w then
    { a with
      etype := clampEtype (fld (wd ws 0) 15 0)
      mtu := clamp 1500 9000 (fld (wd ws 1) 13 0)
      authReq := bit (wd ws 2) 0 || decide (s.mram.lc = .operational)
      inbandEn := bit (wd ws 2) 1
      groupEn := bit (wd ws 2) 2 } else a
  let s := s.ok c [pack [(31, w.toNat), (0, a.etype)], w32 a.mtu,
    pack [(0, (a.authReq || decide (s.mram.lc = .operational)).toNat), (1, a.inbandEn.toNat), (2, a.groupEn.toNat)]]
  { s with axg := { s.axg with etype := a.etype, mtu := a.mtu, authReq := a.authReq, inbandEn := a.inbandEn, groupEn := a.groupEn } }

/-- A host read of AXG_ERR returns the counts and clears them (R95). -/
def axgErrRead (s : State) : State :=
  ({ s with axg := { s.axg with badHdr := 0, malformed := 0, authFails := 0, reasmDrop := 0 } }).emit
    (.read [pack [(24, s.axg.badHdr), (16, s.axg.malformed), (8, s.axg.authFails), (0, s.axg.reasmDrop)]])

/-! ### Packets as words (R52, R55) -/

/-- What R55 makes of the words a carrier delivered: a packet with its opcode, a reply, or a discard counted BAD_HDR or MALFORMED. -/
inductive Parsed where
  | cmd (op : Nat) (p : Pkt)
  | reply (words : List Word)
  | badHdr
  | malformed
deriving DecidableEq, Repr

/-- Parse the words a carrier delivered (R52, R55). Whole words only: a carrier that ends inside a word delivered fewer words. -/
def parsePacket (via : Via) (ws : List Word) : Parsed :=
  if ws = [] then .malformed
  else if fld (wd ws 0) 31 24 ≠ 0xA7 ∨ fld (wd ws 0) 23 20 ≠ 1 then .badHdr
  else if ws.length < 4 then .malformed
  else if bit (wd ws 0) 19 then .reply ws
  else
    let auth := bit (wd ws 0) 18
    let len := fld (wd ws 1) 15 0
    if 1023 < len then .malformed
    else if ws.length < 4 + len + (if auth then 4 else 0) then .malformed
    else
      .cmd (fld (wd ws 0) 15 0)
        { via := via, tag := fld (wd ws 1) 31 16, seq := fld (wd ws 3) 25 18, destId := fld (wd ws 2) 17 0,
          srcId := fld (wd ws 3) 17 0, auth := auth, relay := bit (wd ws 0) 17, more := bit (wd ws 0) 16,
          rsv2 := fld (wd ws 2) 31 18, rsv3 := fld (wd ws 3) 31 26, words := (ws.drop 4).take len,
          mac := if auth then ((ws.drop (4 + len)).take 4).foldl (fun a w => a * 2 ^ 32 + w.toNat) 0 else 0 }

/-- A discard of R55, counted once. -/
def State.countBadHdr (s : State) : State := { s with axg := { s.axg with badHdr := inc8 s.axg.badHdr } }
def State.countMalformed (s : State) : State := { s with axg := { s.axg with malformed := inc8 s.axg.malformed } }

end Sys2Proof.Machine
end

