-- ==== Sys2Proof/Machine/Crucible.lean ====
section
/-! DEFINITION. The event record (chapter 17): flushes and images, the ring's step, and the CRUCIBLE commands. -/

namespace Sys2Proof.Machine

open Sys2Proof

/-! ### Flush (R544-R549) -/

/-- FLUSH_SEQ rises by one and skips 0 (R547). -/
def nextFlushSeq (q : Nat) : Nat := if q % 256 = 255 then 1 else q % 256 + 1

/-- The three words of BELLOWS.REPORT that describe the last gasp recorded in MRAM (R505). -/
def gaspWords (g : Option Gasp) : List Word :=
  match g with
  | none => [0, 0, 0]
  | some g =>
    [pack [(0, g.pfail.toNat), (1, g.railFault.toNat), (2, g.rail % 8), (8, g.covered.toNat), (16, g.vHu % 2 ^ 16)],
     w32 g.eUsable, pack [(0, g.epoch % 2 ^ 16)]]

/-- The snapshot of ring and latch that a flush writes (R545, R546). -/
def State.snapshot (s : State) (why : FlushBy) : Image :=
  let g := gaspWords s.mram.gasp
  { epoch := s.mram.bootEpoch, seq := nextFlushSeq s.mram.flushSeq, total := s.cru.total, base := s.cru.base,
    latchSt := s.cru.latchSt, latchFirst := s.cru.latchFirst, latch := s.cru.latch, ring := s.cru.ring, trigger := why,
    lg0 := wd g 0, lg1 := wd g 1, lg2 := wd g 2, complete := false }

/-- A flush starts: its snapshot is taken, FLUSH_SEQ rises, and the slot of this run holds a torn image until the trailer is written
(R545-R548). Commands whose flush was admitted are served by it (R549). -/
def State.beginFlush (s : State) (why : FlushBy) : State :=
  let img := s.snapshot why
  { s with
    mram := { s.mram with flushSeq := img.seq, images := Tab.insert s.mram.images s.cru.slot img }
    cru := { s.cru with flushing := some img, written := true }
    axg := { s.axg with jobs := relabel (.flush 1) (.flush 2) s.axg.jobs } }

/-- The charge of a flush: 33 units of 4 KiB, job code 11 (R544, R546). -/
def flushCost : Nat := 33 * jobFixed 11

/-- A fault flush falls due (R544, R549): deferred while MPI is down; a waiting command's flush is served with it and leaves the queue
uncharged; a flush in progress makes it wait; charged as one that never waits unless an admitted command flush covers it. -/
def State.faultFlush (s : State) : State :=
  if s.mpiOn = false then { s with cru := { s.cru with flushDeferred := true } }
  else if s.cru.flushing.isSome = true then
    if s.cru.flushWait.isEmpty = true then { (s.charge flushCost) with cru := { s.cru with flushWait := [.fault] } } else s
  else
    let s := s.charge flushCost
    let s := s.dropJobs (fun j => decide (j = JobFor.flush))
    let s := { s with axg := { s.axg with
      jobs := relabel (.flush 0) (.flush 1) s.axg.jobs } }
    s.beginFlush .fault

/-- An admitted command flush starts, or waits for the flush in progress (R544, R549). -/
def State.commandFlush (s : State) : State :=
  let s := { s with axg := { s.axg with jobs := updWork (fun w => decide (w = Work.flush 0)) (.flush 1) s.axg.jobs } }
  if s.cru.flushing.isSome = true then
    { s with cru := { s.cru with flushWait := if s.cru.flushWait.isEmpty = true then [.command] else s.cru.flushWait } }
  else s.beginFlush .command

/-- The trailer is written: the image is complete, the commands it served reply, and the next flush starts (R546, R549, R551). -/
def State.endFlush (s : State) : State :=
  match s.cru.flushing with
  | none => s
  | some img =>
    let s := { s with
      mram := { s.mram with images := Tab.insert s.mram.images s.cru.slot { img with complete := true } }
      cru := { s.cru with flushing := none, nextTake := s.clk.tick + 32 } }
    let rpl := okRpl [pack [(0, img.seq), (8, s.cru.slot)], w32 img.total]
    let s := s.completeWhere (fun w => if w = Work.flush 2 then some rpl else none)
    match s.cru.flushWait with
    | [] => s
    | why :: t => ({ s with cru := { s.cru with flushWait := t } }).beginFlush why

/-- A flush cut off leaves a torn image: of its records an unstated number of the newest had been written (R548; free value). -/
def State.tearFlush (s : State) : State :=
  match s.cru.flushing with
  | none => s
  | some img =>
    let (n, s) := s.drawNat
    { s with
      mram := { s.mram with images := Tab.insert s.mram.images s.cru.slot { img with ring := img.ring.take (n % (img.ring.length + 1)) } }
      cru := { s.cru with flushing := none, flushWait := [] } }

/-- The previous image among two slots, and its state: 0 NONE, 1 COMPLETE, 2 TORN (R548). -/
def prevImage (images : Tab Image) : Option Nat :=
  match Tab.find? images 0, Tab.find? images 1 with
  | none, none => none
  | some _, none => some 0
  | none, some _ => some 1
  | some a, some b => if aheadOf 8 a.seq b.seq then some 0 else some 1

def imageState (images : Tab Image) (slot : Option Nat) : Nat :=
  match slot.bind (Tab.find? images) with
  | none => 0
  | some i => if i.complete then 1 else 2

/-! ### Records as words -/

/-- A record's eight words (R536). -/
def recWords (seq : Nat) (r : Rec) : List Word :=
  timeWords r.time ++
    [pack [(16, r.code), (0, r.source)],
     pack [(16, r.repeat_), (12, r.sev), (11, r.latched.toNat), (10, r.unset.toNat), (9, r.holdover.toNat), (8, r.island.toNat),
       (0, seq)],
     r.d5, r.d6, r.d7]

/-- What CRUCIBLE.READ and CRUCIBLE.LATCH_READ see of an area: IMAGE code, FLUSH_SEQ, BOOT_EPOCH, TOTAL, oldest readable number, ring,
latch state, number of the latch's first record, latch (R550, R553). -/
structure Area where
  image : Nat
  seq : Nat
  epoch : Nat
  total : Nat
  oldest : Nat
  ring : List Rec
  latchSt : LatchSt
  latchFirst : Nat
  latch : List Rec

/-- The oldest readable record number (R542, R548). -/
def oldestOf (total base n : Nat) : Nat := max (max (total - 4096) base) (total - n)

/-- An area by its code (R550): 0 the live ring, 1 this run's image, 2 the previous image. -/
def State.area (s : State) (a : Nat) : Area :=
  let none_ : Area :=
    { image := 0, seq := 0, epoch := s.mram.bootEpoch, total := 0, oldest := 0, ring := [], latchSt := .armed, latchFirst := 0,
      latch := [] }
  let ofImage := fun (i : Option Image) =>
    match i with
    | none => none_
    | some i =>
      { image := if i.complete then 1 else 2, seq := i.seq, epoch := i.epoch, total := i.total,
        oldest := oldestOf i.total i.base i.ring.length, ring := i.ring, latchSt := i.latchSt, latchFirst := i.latchFirst,
        latch := i.latch }
  if a = 0 then
    { image := 3, seq := 0, epoch := s.mram.bootEpoch, total := s.cru.total, oldest := oldestOf s.cru.total s.cru.base s.cru.ring.length,
      ring := s.cru.ring, latchSt := s.cru.latchSt, latchFirst := s.cru.latchFirst, latch := s.cru.latch }
  else if a = 1 then (if s.cru.written then ofImage (Tab.find? s.mram.images s.cru.slot) else none_)
  else ofImage (s.cru.prevSlot.bind (Tab.find? s.mram.images))

def latchCode : LatchSt → Nat
  | .armed => 0
  | .filling => 1
  | .full => 2

/-! ### Commands -/

/-- CRUCIBLE.READ (R550). -/
def bodyCrucibleRead (c : Ctx) (ws : List Word) (s : State) : State :=
  let a := s.area (min 2 (fld (wd ws 0) 1 0))
  let count := fld (wd ws 0) 22 16
  let first := (wd ws 1).toNat
  let start := max first a.oldest
  let n := min count (a.total - start)
  let recs := ((a.ring.drop (a.total - start - n)).take n).reverse
  s.ok c ([w32 a.total, w32 start, pack [(0, n), (16, min 0xFFFF (start - first))],
    pack [(0, a.image), (8, a.seq), (16, a.epoch)]] ++ recs.flatMap (recWords a.seq))

/-- CRUCIBLE.FLUSH (R551): one job of code 11 that waits. -/
def bodyCrucibleFlush (c : Ctx) (_ : List Word) (s : State) : State := (s.hold c (.flush 0)).queueJob 11 flushCost .flush

/-- CRUCIBLE.LATCH_READ (R553). -/
def bodyCrucibleLatchRead (c : Ctx) (ws : List Word) (s : State) : State :=
  let w := wd ws 0
  let a := s.area (min 2 (fld w 1 0))
  let first := fld w 13 8
  let count := min (min 64 (fld w 22 16)) (64 - first)
  let recs := (a.latch.drop first).take count
  s.ok c ([pack [(0, a.latch.length), (8, latchCode a.latchSt), (16, recs.length)],
    if a.latchSt = .armed then 0xFFFFFFFF else w32 a.latchFirst] ++ recs.flatMap (recWords a.seq))

/-- The ring and the latch are cleared (R552). -/
def Cru.clear (c : Cru) (ring latch : Bool) : Cru :=
  let c := if ring then { c with base := c.total, fifo := [], recent := [] } else c
  if latch then { c with latch := [], latchSt := .armed, latchFlushDue := false } else c

/-- CRUCIBLE.CLEAR (R552): the clear first, then a CLEARED record. -/
def bodyCrucibleClear (c : Ctx) (ws : List Word) (s : State) : State :=
  let w := wd ws 0
  let t := s.cru.total
  let s := { s with cru := (s.cru.clear (bit w 0) (bit w 1)).admitLost s.clk.tick }
  let s := s.log .mgmt 0x0B01 0 (pack [(0, fld w 1 0)]) (w32 t) 0
  s.ok c [pack [(0, fld w 1 0)]]

/-! ### Steps -/

/-- The ring takes the oldest record from the FIFO, at most one in 32 ticks, unless a flush holds it (R539, R542, R545); a latch that becomes FULL starts the flush
of its fill (R544). -/
def ringTake (s : State) : State :=
  if s.cru.flushing.isSome = true ∨ s.clk.tick < s.cru.nextTake then s
  else
    match s.cru.fifo with
    | [] => s
    | r :: t =>
      let was := s.cru.latchSt
      let cru := (({ s.cru with fifo := t, nextTake := s.clk.tick + 32 }).store s.clk.tick r).admitLost s.clk.tick
      let s := { s with cru := cru }
      if cru.latchSt = .full ∧ was ≠ .full ∧ cru.latchFlushDue = true then
        ({ s with cru := { cru with latchFlushDue := false } }).faultFlush
      else s

/-- 10 ms after the latch left ARMED, its fill is flushed once (R544). -/
def latchTimer (s : State) : State :=
  if s.cru.latchFlushDue = true ∧ s.cru.latchTick + 12500000 ≤ s.clk.tick then ({ s with cru := { s.cru with latchFlushDue := false } }).faultFlush else s

/-! ### Records whose cause has no step of its own (R534-R541) -/

/-- The codes of stepping B1 (R538). -/
def recordCodes : List Nat :=
  [0x0101, 0x0102, 0x0103, 0x0104, 0x0105, 0x0106, 0x0107, 0x0201, 0x0202, 0x0401, 0x0601, 0x0602, 0x0701, 0x0801, 0x0A01, 0x0B01, 0x0D01,
   0x0D02, 0x0D03, 0x0D04, 0x0E01, 0x0E02, 0x0E03, 0x0E04, 0x0E05, 0x0F01, 0x0F02, 0x0F03, 0x0901]

/-- SEV of an arriving record; TB0_STATE into FAULT and a self-test that did not pass are faults (R538). -/
def sevOfData (code : Nat) (d5 : Word) : Nat :=
  if code = 0x0601 then (if fld d5 2 0 = 7 then 3 else 2) else if code = 0x0901 then (if fld d5 1 0 = 1 then 0 else 3) else sevOf code

/-- CRUCIBLE_RECORD_ARRIVAL (R540): codes not listed in R538 are not issued. -/
def recordArrival (pl : Plane) (code source : Nat) (d5 d6 d7 : Word) (s : State) : State :=
  if recordCodes.contains code = true ∧ s.start.power = .run then
    s.queueEvent pl (some (s.mkRec code (source % 2 ^ 16) (sevOfData code d5) d5 d6 d7))
  else s

end Sys2Proof.Machine
end

