-- ==== Sys2Proof/Machine/Bellows.lean ====
section
/-! DEFINITION. The energy ledger (chapter 15): credit and admission, metering, hold-up, and the BELLOWS commands. The last gasp itself
stands in Machine/Startup.lean. -/

namespace Sys2Proof.Machine

open Sys2Proof

/-! ### Hold-up (R492-R494) -/

/-- Twice E_usable in units of 10^-6 uJ, exactly: HU_CAP x (V^2 - HU_VMIN^2), and 0 below HU_VMIN (R492). -/
def Led.usable2 (l : Led) : Nat := if l.vHu < l.huVmin then 0 else l.huCap * (l.vHu ^ 2 - l.huVmin ^ 2)

/-- E_req x HU_EFF in units of 10^-3 uJ, exactly (R493, R500). -/
def Led.reqEff (l : Led) : Nat := 4900 * 100 * 1000 + l.huLoad * 350 * l.huEff

/-- E_usable ≥ E_req (R493). -/
def Led.enough (l : Led) : Bool := decide (2 * 10 ^ 3 * l.reqEff ≤ l.usable2 * l.huEff)

/-- E_usable and E_req in whole uJ, rounded to the nearest (DESIGN CHOICE: the spec states no rounding of the reported figures). -/
def Led.eUsableNow (l : Led) : Nat := (l.usable2 + 10 ^ 6) / (2 * 10 ^ 6)
def Led.eReq (l : Led) : Nat := (2 * l.reqEff + 1000 * l.huEff) / (2000 * l.huEff)

/-- V in mV from the mean of the pin's last 16 samples, to the nearest mV (R492). -/
def Led.vOf (l : Led) : Nat :=
  (2 * l.samples.sum * l.huRatio + 100000 * l.samples.length) / (200000 * max 1 l.samples.length)

/-- The hold-up values last written, and those values in force (R504). -/
def Led.hu (l : Led) : HuCfg :=
  l.huNext.getD { en := l.huEn, eff := l.huEff, cap := l.huCap, vmin := l.huVmin, ratio := l.huRatio, load := l.huLoad, gaspPort := l.gaspPort }
def Led.takeHu (l : Led) : Led :=
  let h := l.hu
  { l with huEn := h.en, huEff := h.eff, huCap := h.cap, huVmin := h.vmin, huRatio := h.ratio, huLoad := h.load, gaspPort := h.gaspPort, huNext := none }

/-- A new mean is formed with a sample of the pin, which reads at most 1.25 V: written values come into force, then V, E_usable and COVERED; HU_LOW
clears when COVERED returns to 1, and the head of the queue is tested then (R489, R492-R494, R504, R658). -/
def holdupMean (pinUv : Nat) (s : State) : State :=
  let l := s.led.takeHu
  let l := { l with samples := min 1250000 pinUv :: l.samples.take 15 }
  let l := { l with vHu := l.vOf }
  let cov := l.huEn && l.enough
  let low := if cov then false else l.huLow
  { s with
    led := { l with
      eUsable := l.eUsableNow, covered := cov, huLow := low, test := l.test || (cov && !l.covered)
      uncovered := if l.huEn = true ∧ cov = false then some (l.uncovered.getD s.clk.tick) else none }
    alarms := { s.alarms with huLow := low } }

/-- COVERED has been 0 for 1 s with HU_EN = 1 (R494). -/
def Led.huDue (l : Led) (tick : Nat) : Bool := l.uncovered.any (fun t => decide (t + ticksPerSec ≤ tick))

/-- HU_LOW_TIMER (R494). -/
def huLowTimer (s : State) : State :=
  if s.led.huEn = true ∧ s.led.hu.en = true ∧ s.led.huDue s.clk.tick = true ∧ s.led.covered = false ∧ s.led.huLow = false then
    ({ s with led := { s.led with huLow := true }, alarms := { s.alarms with huLow := true } }).log .mgmt 0x0A01 0
      (w32 s.led.vHu) (w32 s.led.eUsable) 0
  else s

/-! ### Windows and admission (R487-R491) -/

/-- The TICK at which the window in progress ends (R487). -/
def Led.windowEnd (l : Led) : Nat := l.windowStart + l.windowNow * 1250000

/-- A window ends: the credit is BUDGET plus any debt, the rail energies of the window are kept, written values come into force, the head of the
queue is tested (R487, R489). -/
def windowBoundary (s : State) : State :=
  if s.clk.tick < s.led.windowEnd then s
  else
  { s with led := { s.led with
      credit := (1000 * s.led.budget : Nat) + min s.led.credit 0
      budgetNow := s.led.budget
      windowNow := s.led.window
      windowStart := s.led.windowEnd
      test := true
      eRail := s.led.eAcc
      eAcc := List.replicate 8 0 } }

/-- May a waiting job be admitted now (R488, R491)? -/
def Led.mayAdmit (l : Led) (cost : Nat) : Bool :=
  let credit := if 1000 * l.budgetNow < cost then decide (l.credit = (1000 * l.budgetNow : Nat)) else decide ((cost : Int) ≤ l.credit)
  (!l.enable || credit) && (l.covered || !l.huEn)

/-- The head of the queue is admitted, if it may be: it leaves the queue and is charged (R488, R489). -/
def State.admitHead (s : State) : Option (LedJob × State) :=
  match s.led.waiting with
  | [] => none
  | j :: t =>
    if s.led.mayAdmit j.cost then
      some (j, { s with led := { s.led with
        waiting := t
        credit := s.led.credit - j.cost
        admitted := inc16 s.led.admitted } })
    else none

/-- A 1 ms metering interval ends with these rail energies in uJ, once, at a tick that is a multiple of 1,250,000 (R483, R484): one uJ in 1 ms is
1 mW of mean power. -/
def meterInterval (rails : List Nat) (s : State) : State :=
  let r := (List.range 8).map (fun i => rails.getD i 0)
  if s.clk.tick % 1250000 ≠ 0 ∨ s.clk.tick ≤ s.led.meterTick then s
  else
  { s with led := { s.led with
      eAcc := List.zipWith (· + ·) s.led.eAcc r
      pPeak := List.zipWith max s.led.pPeak r
      eTotal := (s.led.eTotal + r.sum) % 2 ^ 64
      meterTick := s.clk.tick } }

/-! ### Commands -/

/-- BELLOWS.BUDGET (R503): LEDGER_EN at once, the rest at the next boundary. -/
def bodyBudget : Body := fun c ws s =>
  let w := bit (wd ws 0) 31
  let l := if w then
    { s.led with
      budget := clamp 1 100000 (fld (wd ws 1) 16 0)
      enable := bit (wd ws 1) 31
      test := s.led.test || decide (bit (wd ws 1) 31 ≠ s.led.enable)
      window := clamp 10 10000 (fld (wd ws 2) 13 0) } else s.led
  ({ s with led := l }).ok c [pack [(31, w.toNat)], pack [(0, l.budget), (31, l.enable.toNat)], w32 l.window]

/-- A field "port or 0x7F": the values between take 0x7F (R136). -/
def portOrNone (n : Nat) : Nat := if n < 104 then n else 0x7F

/-- BELLOWS.HOLDUP (R504): the values apply from the next mean; writing HU_EN 0 clears HU_LOW (R494). -/
def bodyHoldup : Body := fun c ws s =>
  let w := bit (wd ws 0) 31
  let l := if w then
    { s.led with huNext := some {
        en := bit (wd ws 0) 0, eff := clamp 50 100 (fld (wd ws 0) 14 8), cap := clamp 10 1000000 (fld (wd ws 1) 19 0)
        vmin := clamp 1000 60000 (fld (wd ws 2) 15 0), ratio := clamp 100 10000 (fld (wd ws 2) 29 16)
        load := min 50000 (fld (wd ws 3) 15 0), gaspPort := portOrNone (fld (wd ws 3) 22 16) } } else s.led
  let h := l.hu
  let l := { l with huLow := l.huLow && h.en }
  ({ s with led := l, alarms := { s.alarms with huLow := l.huLow } }).ok c
    [pack [(31, w.toNat), (0, h.en.toNat), (8, h.eff)], w32 h.cap, pack [(0, h.vmin), (16, h.ratio)], pack [(0, h.load), (16, h.gaspPort)]]

/-- BELLOWS.REPORT (R505). -/
def bodyReport : Body := fun c ws s =>
  let l := s.led
  let r :=
    [pack [(0, l.enable.toNat), (1, l.huEn.toNat), (2, l.covered.toNat), (3, (!l.huEn).toNat), (4, l.huLow.toNat),
       (5, s.mram.lgPrev.toNat), (8, min 0xFF l.waiting.length), (16, l.admitted)],
     i32 l.credit, pack [(0, l.vHu % 2 ^ 16), (16, s.mram.lgCount)], w32 l.eUsable, w32 l.eReq]
    ++ l.eRail.map w32 ++ l.pPeak.map w32 ++ [w32 (l.eTotal / 2 ^ 32), w32 l.eTotal] ++ gaspWords s.mram.gasp
  let s := if bit (wd ws 0) 0 then { s with led := { l with pPeak := List.replicate 8 0 } } else s
  s.ok c r

/-- BELLOWS.COSTS (R506). -/
def bodyCosts : Body := fun c _ s =>
  s.ok c ([12] ++ (List.range 12).flatMap (fun i =>
    [pack [(0, i), (4, jobPrio i), (16, min 0xFFFF (s.led.waiting.filter (fun j => decide (j.code = i))).length)],
     pack [(0, jobFixed i), (16, jobPerMs i)]]))

end Sys2Proof.Machine
end

