-- ==== Sys2Proof/Machine/Memory.lean ====
section
/-! DEFINITION. Controller memory and MRAM (chapter 19): byte access, borrowed regions, MRAM as bytes, and the MEM commands. -/

namespace Sys2Proof.Machine

open Sys2Proof

/-! ### Controller memory -/

/-- The size of controller memory and the start of the secure region (R585). -/
def memSize : Nat := 0x200000
def secureBase : Nat := 0x1E0000

/-- Where the byte at an offset lies: bank, row, and byte of the 64-bit word (R585). -/
def memBank (x : Nat) : Nat := x / 8 % 16
def memRow (x : Nat) : Nat := x / 128 % 16384
def memLane (x : Nat) : Nat := x % 8

/-- The bank and row of the words that an access of 1 to 8 bytes covers: one word, or two consecutive ones (R590). -/
def memWords (x n : Nat) : List (Nat × Nat) :=
  if x % 8 + n ≤ 8 then [(memBank x, memRow x)] else [(memBank x, memRow x), (memBank (x + 8), memRow (x + 8))]

/-- The region of 4 KiB an offset lies in (R591), and whether it is served from the shadow (R592). -/
def memRegion (x : Nat) : Nat := x / 4096
def Mem.shadowed (m : Mem) (x : Nat) : Bool := decide (m.inUse = some (memRegion x))

/-- One byte as a host or a command reads it: from the shadow while that serves its region (R592); the secure region reads 0 (R442, R599). -/
def State.memByte (s : State) (a : Nat) : Byte :=
  if secureBase ≤ a then 0
  else if s.mem.shadowed a then Tab.get byteReset s.mem.shadow (a % 4096)
  else Tab.get byteReset s.mem.bytes a

/-- The borrowed region an offset lies in stands in the shadow and in its banks alike: it has been copied and not switched yet, or copied back and
not released yet, so that a write goes to both (R592). -/
def Mem.doubled (m : Mem) (x : Nat) : Bool :=
  m.bg.any (fun b => decide (memRegion x = b.first + b.tested) && decide (b.step = some Borrow.switch ∨ b.step = some Borrow.release))

/-- Write one byte, to the shadow while that serves its region, or to both (R592); the secure region and what lies beyond take none (R442, R600). -/
def State.setMemByte (s : State) (a : Nat) (b : Byte) : State :=
  if secureBase ≤ a then s
  else
    let m := s.mem
    let m := if s.mem.shadowed a || s.mem.doubled a then { m with shadow := Tab.put byteReset m.shadow (a % 4096) b } else m
    let m := if !s.mem.shadowed a || s.mem.doubled a then { m with bytes := Tab.put byteReset m.bytes a b } else m
    { s with mem := m }

/-- The engine's steps on a region (R592): it is copied into the shadow, tested, which leaves it 0, and restored from the shadow. -/
def Mem.copyRegion (m : Mem) (r : Nat) : Mem :=
  { m with shadow := (m.bytes.filter (fun e => decide (memRegion e.1 = r))).map (fun e => (e.1 % 4096, e.2)) }
def Mem.testRegion (m : Mem) (r : Nat) : Mem := { m with bytes := m.bytes.filter (fun e => decide (memRegion e.1 ≠ r)) }
def Mem.restoreRegion (m : Mem) (r : Nat) : Mem :=
  { m with bytes := m.bytes.filter (fun e => decide (memRegion e.1 < r)) ++ m.shadow.map (fun e => (4096 * r + e.1, e.2))
      ++ m.bytes.filter (fun e => decide (r < memRegion e.1)) }

/-- Write bytes in address order. -/
def State.setMemBytes (s : State) (a : Nat) : List Byte → State
  | [] => s
  | b :: t => (s.setMemByte a b).setMemBytes (a + 1) t

/-- A host write through the window (R442): 1-8 bytes at any alignment, or more, split; outside the window nothing. -/
def hostWindowWrite (off : Nat) (bs : List Byte) (s : State) : State :=
  if s.start.power = .run ∧ s.start.pcieUp = true ∧ off + bs.length ≤ memSize then s.setMemBytes off bs else s

/-! ### MRAM as bytes (R597, R598) -/

/-- Pad a block with zeros. -/
def padTo (n : Nat) (bs : List Byte) : List Byte := (bs ++ List.replicate (n - bs.length) 0).take n

/-- A result record's 64 bytes (R558). -/
def testRecBytes (r : TestRec) : List Byte :=
  let b := padTo 60 (bytesLE 4 0x414E4C31 ++ bytesLE 4 (r.status + 4 * r.full.toNat) ++ bytesLE 4 r.expected ++ bytesLE 4 r.completed
    ++ bytesLE 4 r.firstFail ++ bytesLE 4 r.nFail ++ bytesLE 4 r.runH ++ bytesLE 2 r.epoch)
  b ++ bytesLE 4 (crc32 b)

/-- An image's bytes as far as they are written: header, latch, ring, and the trailer of a complete one (R546). -/
def imageBytes (i : Image) : List Byte :=
  let rec8 := fun (r : Rec) => wordBytesLE (recWords i.seq r)
  let hd := padTo 64 (bytesLE 4 0x43524331 ++ bytesLE 4 i.epoch ++ bytesLE 4 i.seq ++ bytesLE 4 i.total ++
    bytesLE 4 (latchCode i.latchSt + 256 * i.latch.length) ++
    bytesLE 4 (match i.trigger with | .fault => 0 | .command => 1 | .gasp => 2) ++ wordBytesLE [i.lg0, i.lg1, i.lg2])
  let b := hd ++ padTo 2048 (i.latch.flatMap rec8) ++ padTo 131072 (i.ring.flatMap rec8)
  b ++ (if i.complete then padTo 64 (bytesLE 4 (crc32 b) ++ bytesLE 4 i.seq) else [])

/-- The 64-byte blocks of the record area whose layout the spec gives; of the others it gives the content, not its layout (R598). -/
def State.recordArea (s : State) (blk : Nat) : Option (List Byte) :=
  let rec64 := fun (r : Option TestRec) => match r with | some r => testRecBytes r | none => List.replicate 64 0
  if blk = 0 then some (rec64 s.mram.passRec)
  else if blk = 1 then some (rec64 s.mram.startRec)
  else if 8 ≤ blk then some (List.replicate 64 0)
  else none

/-- What MEM.READ sees of MRAM at a byte offset: firmware slots as written, images and records in their layouts, the reserved and secure
areas as 0; a byte whose layout the spec does not give is a free value (R597-R599). -/
def State.mramByte (s : State) (slots : Nat → Option Byte) (a : Nat) : Byte :=
  if a < 0x180000 then Tab.get byteReset s.mram.fwA a
  else if a < 0x300000 then Tab.get byteReset s.mram.fwB (a - 0x180000)
  else if a < 0x308000 then (slots a).getD (BitVec.ofNat 8 (Config.freeNat (s.free + a)))
  else if a < 0x348000 then
    (match Tab.find? s.mram.images 0 with | some i => (imageBytes i).getD (a - 0x308000) 0 | none => 0)
  else if a < 0x388000 then
    (match Tab.find? s.mram.images 1 with | some i => (imageBytes i).getD (a - 0x348000) 0 | none => 0)
  else if a < 0x3C8000 then BitVec.ofNat 8 (Config.freeNat (s.free + a))
  else if a < 0x3C9000 then
    (match s.recordArea ((a - 0x3C8000) / 64) with
      | some b => b.getD ((a - 0x3C8000) % 64) 0
      | none => BitVec.ofNat 8 (Config.freeNat (s.free + a)))
  else 0

/-- Write a byte of a firmware slot. -/
def State.setFwByte (s : State) (slot a : Nat) (b : Byte) : State :=
  if 0x180000 ≤ a then s
  else if slot = 0 then { s with mram := { s.mram with fwA := Tab.put byteReset s.mram.fwA a b } }
  else { s with mram := { s.mram with fwB := Tab.put byteReset s.mram.fwB a b } }

/-- Write bytes of a firmware slot in order. -/
def State.setFwBytes (s : State) (slot a : Nat) : List Byte → State
  | [] => s
  | b :: t => (s.setFwByte slot a b).setFwBytes slot (a + 1) t

/-- A firmware slot's bytes. -/
def State.fwSlot (s : State) (slot : Nat) : List Host.Cell := if slot = 0 then s.mram.fwA else s.mram.fwB

/-! ### Firmware slots (R628, R629) -/

/-- The `n` bytes of a slot from an offset. -/
def fwBytes (m : List Host.Cell) (off n : Nat) : List Byte := (List.range n).map (fun i => Tab.get byteReset m (off + i))

/-- A 32-bit header field of a slot (DEDUCED: least significant byte first, as MEM.IMAGE_WRITE and MEM.READ carry words). -/
def fwField (m : List Host.Cell) (off : Nat) : Nat := ofBytesLE (fwBytes m off 4)

/-- A slot is valid (R628). -/
def fwValid (m : List Host.Cell) : Bool :=
  let code := fwField m 12
  let so := fwField m 16
  let sl := fwField m 20
  decide (fwField m 0 = 0x4657494D) && decide (fwField m 60 = crc32 (fwBytes m 0 60)) && decide (sl ≤ 65536)
    && decide (so + sl ≤ 0x180000) && decide (64 + code ≤ so) && decide (fwField m 24 = crc32 (fwBytes m 64 (so + sl - 64)))

/-- BOOT_GEN of a slot, or 0 when it is not valid (R639). -/
def fwGen (m : List Host.Cell) : Nat := if fwValid m then fwField m 8 else 0

/-- The slot a start prefers: the valid one with the higher BOOT_GEN under the comparison of R473, slot A when equal (R628, R629). -/
def State.preferred (s : State) : Option Nat :=
  match fwValid s.mram.fwA, fwValid s.mram.fwB with
  | false, false => none
  | true, false => some 0
  | false, true => some 1
  | true, true => if aheadOf 32 (fwField s.mram.fwB 8) (fwField s.mram.fwA 8) then some 1 else some 0

/-- Set a slot's BOOT_GEN and rewrite its header CRC (R639). -/
def State.setBootGen (s : State) (slot gen : Nat) : State :=
  let s := s.setFwBytes slot 8 (bytesLE 4 (gen % 2 ^ 32))
  s.setFwBytes slot 60 (bytesLE 4 (crc32 (fwBytes (s.fwSlot slot) 0 60)))

/-! ### Commands -/

/-- MEM.READ (R599). -/
def bodyMemRead (slots : State → Nat → Option Byte) : Body := fun c ws s =>
  let mram := bit (wd ws 0) 0
  let size := if mram then 0x800000 else memSize
  let off := min (fld (wd ws 1) 22 0 / 4 * 4) (size - 4)
  let n := min (min 1022 (fld (wd ws 2) 9 0)) ((size - off) / 4)
  let rd := fun a => if mram then s.mramByte (slots s) a else s.memByte a
  s.ok c (w32 off :: (List.range n).map (fun j => w32 (ofBytesLE ((List.range 4).map (fun i => rd (off + 4 * j + i))))))

/-- LEN of a command with a fixed head and any number of data words (R600, R601). -/
def lenAtLeast (n : Nat) : LenRule := fun ws => if n ≤ ws.length then none else some n

/-- MEM.WRITE (R600). -/
def bodyMemWrite : Body := fun c ws s =>
  let off := fld (wd ws 0) 20 0 / 4 * 4
  let data := ws.drop 1
  let n := min data.length ((secureBase - off) / 4)
  let s := s.setMemBytes off (wordBytesLE (data.take n))
  s.ok c [w32 off, w32 n]

/-- MEM.IMAGE_WRITE (R601): each 4 KiB unit the write touches is one job of code 11; the bytes are written as the jobs end. -/
def bodyImageWrite : Body := fun c ws s =>
  let slot := fld (wd ws 0) 0 0
  let off := min 1572860 (fld (wd ws 1) 20 0) / 4 * 4
  let data := (ws.drop 2).take ((0x180000 - off) / 4)
  if data = [] then s.ok c [w32 slot, w32 off, 0]
  else
    let last := off + 4 * data.length - 1
    let units := last / 4096 - off / 4096 + 1
    let id := s.buf.nextId
    let s := { s with buf := { s.buf with nextId := id + 1 } }
    let s := s.hold c (.imageWrite slot off id data units)
    (List.range units).foldl (fun s _ => s.queueJob 11 (jobFixed 11) (.imageWrite id)) s

/-- MEM.BGTEST and its STOP form (R602): a second test waits; a retired region lets none run (R593). -/
def bodyBgtest : Body := fun c ws s =>
  let stop := bit (wd ws 0) 0
  let first := min 479 (fld (wd ws 1) 8 0)
  let count := min (fld (wd ws 2) 9 0) (480 - first)
  let rep := fun (retired busy : Bool) => [pack [(17, retired.toNat), (18, busy.toNat)], (0x1FF : Word), 0]
  if stop then
    ({ s with mem := { s.mem with bg := s.mem.bg.map (fun (b : BgTest) => { b with stop := true }) } }).ok c
      (rep s.mem.retired.isSome false)
  else if s.mem.bg.isSome then s.hold c (.bgtest first count)
  else if s.mem.retired.isSome then s.ok c (rep true true)
  else if count = 0 then s.ok c (rep false false)
  else
    let s := { s with mem := { s.mem with bg := some { first := first, count := count, owner := some c } } }
    s.queueJob 10 (jobFixed 10) .bgRegion

/-- The reply of a background test that ends. -/
def bgReply (b : BgTest) (stopped : Bool) (fail : Option Nat) (words : Nat) : List Word :=
  [pack [(0, b.tested), (16, stopped.toNat), (17, fail.isSome.toNat)], w32 (fail.getD 0x1FF), w32 words]

/-- A background test ends: it replies, and a waiting one begins (R602). -/
def State.endBgtest (s : State) (b : BgTest) (stopped : Bool) (fail : Option Nat) (words : Nat) : State :=
  let s := { s with mem := { s.mem with bg := none } }
  let s := match b.owner with | some c => s.ok c (bgReply b stopped fail words) | none => s
  match s.findJob (fun w => match w with | .bgtest _ _ => true | _ => false) with
  | some { ctx := c, work := .bgtest first count } =>
    let s := { s with axg := { s.axg with jobs := s.axg.jobs.erase { ctx := c, work := .bgtest first count } } }
    bodyBgtest c [0, w32 first, w32 count] s
  | _ => s

/-- One step of a borrowed region ends (R592), after which every byte still reads as before: after TEST, a region with failing words is retired (R593); after RELEASE the region is
complete and the next one waits for its job, or the test ends. A test whose command has gone tests no further region (R595). -/
def borrowStep (failWords : Nat) (s : State) : State :=
  match s.mem.bg with
  | none => s
  | some b =>
    let r := b.first + b.tested
    let go := fun (m : Mem) (x : Borrow) => { s with mem := { m with bg := some { b with step := some x } } }
    match b.step with
    | none => s
    | some .copy => go (s.mem.copyRegion r) .switch
    | some .switch => go { s.mem with inUse := some r } .test
    | some .test =>
      if failWords = 0 then go (s.mem.testRegion r) .restore
      else
        ({ s with mem := { s.mem.testRegion r with retired := some r } }).endBgtest { b with tested := b.tested + 1 } b.stop (some r) failWords
    | some .restore => go (s.mem.restoreRegion r) .release
    | some .release =>
      let s := { s with mem := { s.mem with inUse := none, shadow := [] } }
      let b := { b with tested := b.tested + 1, step := none }
      if b.stop = true ∨ b.owner.isNone = true then s.endBgtest b b.stop none 0
      else if b.tested = b.count then s.endBgtest b false none 0
      else ({ s with mem := { s.mem with bg := some b } }).queueJob 10 (jobFixed 10) .bgRegion

/-- A region's job is admitted: the borrow begins (R592, R594). -/
def State.startRegion (s : State) : State :=
  { s with mem := { s.mem with bg := s.mem.bg.map (fun (b : BgTest) => { b with step := some Borrow.copy }) } }

/-- An admitted MRAM write of MEM.IMAGE_WRITE or SYS.BOOT_SLOT finishes its last block (R596, R601, R639). -/
def Work.imageId : Work → Option Nat
  | .imageWrite _ _ id _ _ => some id
  | _ => none

end Sys2Proof.Machine
end

