-- ==== Sys2Proof/Machine/Security.lean ====
section
/-! DEFINITION. Secrets, life cycle, tamper and scan, and the self-test result records (chapter 18). -/

namespace Sys2Proof.Machine

open Sys2Proof

/-! ### The wipe (R568) -/

/-- A wipe: the replay table, the session keys, the keys and BOOT_EPOCH are destroyed; a word that does not read back as 0 sets
WIPE_FAIL. -/
def State.wipe (s : State) : State :=
  { s with
    axg := { s.axg with replay := [] }
    sesKeys := []
    mram := { s.mram with hostKey := none, sysKey := none, bootEpoch := 0 }
    sec := { s.sec with wipeFail := s.sec.wipeFail || s.fused.secureDefect } }

/-- The life-cycle state changes, with its record (R566). -/
def State.setLc (s : State) (n : Lc) : State :=
  let old := s.mram.lc
  ({ s with
     mram := { s.mram with lc := n }
     sec := { s.sec with fuse := s.sec.fuse || decide (n = Lc.decommissioned) } }).log .mgmt 0x0F02 0
    (pack [(0, lcCode n), (2, lcCode old)]) 0 0

/-! ### Tamper (R571) -/

/-- The tamper latch is set: any cause bit. -/
def Tamper.latched (t : Tamper) : Bool := t.t0 || t.t1 || t.vbatLoss || t.vGlitch || t.cGlitch

/-- The steps a powered part takes on a latched tamper with a cause: wipe, MANUFACTURE, record, ALARM_N (R571). -/
def State.tamperSteps (s : State) (cause : Nat) : State :=
  let s := s.wipe
  let s := { s with tamper := { s.tamper with wiped := true } }
  let s := if s.mram.lc = .provisioned ∨ s.mram.lc = .operational then s.setLc .manufacture else s
  let s := s.log .mgmt 0x0F01 0 (pack [(0, cause)]) 0 0
  { s with alarms := { s.alarms with tamper := true } }

/-- Set a cause's bit and count the event; VBAT_LOSS clears the count first (R571). None when the cause cannot be raised now. -/
def Tamper.raise (t : Tamper) (cause : Nat) (running : Bool) : Option Tamper :=
  let n := inc8 t.count
  match cause with
  | 0 => if t.armed0 then some { t with t0 := true, armed0 := false, count := n } else none
  | 1 => if t.armed1 then some { t with t1 := true, armed1 := false, count := n } else none
  | 2 => if t.vbatLost then some { t with vbatLoss := true, vbatLost := false, vbatLow := false, count := 1 } else none
  | 3 => if running then some { t with vGlitch := true, count := n } else none
  | 4 => if running then some { t with cGlitch := true, count := n } else none
  | _ => none

/-- The part's clocks run, so that tamper is handled at once: from root lock until it parks, stops or is reset (R571, R596). -/
def State.running (s : State) : Bool := decide (s.start.power = .run)

/-- A tamper cause is detected (R571): handled at once while the part runs, at the next start otherwise. The vault samples nothing while
VBAT is lost. -/
def tamperDetected (cause : Nat) (s : State) : State :=
  if s.tamper.vbatLost = true ∧ cause < 2 then s
  else
    match s.tamper.raise cause s.running with
    | none => s
    | some t =>
      let s := { s with tamper := { t with wiped := false } }
      if s.running then s.tamperSteps cause else s

/-- A TAMPER input is seen high at two consecutive samples (R571). -/
def tamperInputHigh (input : Nat) (s : State) : State :=
  if s.tamper.vbatLost then s
  else if input = 0 then { s with tamper := { s.tamper with armed0 := true } }
  else if input = 1 then { s with tamper := { s.tamper with armed1 := true } }
  else s

/-- VBAT falls below 1.8 V, or below 1.6 V, at which the vault's state is lost (R571, R572). -/
def vbatFall (lost : Bool) (s : State) : State :=
  if lost then { s with tamper := { vbatLow := true, vbatLost := true } }
  else { s with tamper := { s.tamper with vbatLow := true } }

/-! ### Commands -/

/-- Eight words as a 256-bit key, most significant word first. -/
def keyOf (ws : List Word) : Nat := ws.foldl (fun a w => a * 2 ^ 32 + w.toNat) 0

/-- LEN of SEC.LC_SET (R579). -/
def lenLcSet : LenRule := fun ws =>
  if ws = [] then some 0
  else
    let t := fld (wd ws 0) 1 0
    let n := if t = 1 ∨ t = 2 then 17 else 1
    if ws.length = n then none else some n

def lcOf (n : Nat) : Lc := match n with | 0 => .manufacture | 1 => .provisioned | 2 => .operational | _ => .decommissioned

/-- SEC.LC_SET (R566, R569, R579): wipe, install the keys, change the state, clear the latch, reply with the key that verified it. -/
def bodyLcSet : Body := fun c ws s =>
  let target := fld (wd ws 0) 1 0
  let old := s.mram.lc
  let rep := fun (s : State) (changed keys : Bool) =>
    s.ok c [pack [(0, lcCode s.mram.lc), (2, lcCode old), (4, changed.toNat), (5, keys.toNat)]]
  if fld (wd ws 0) 31 16 ≠ 0x4C43 then rep s false false
  else
    let s := s.wipe
    let keys := decide (target = 1 ∨ target = 2) && !s.sec.wipeFail
    let s := if keys then
      { s with mram := { s.mram with hostKey := some (keyOf ((ws.drop 1).take 8)), sysKey := some (keyOf ((ws.drop 9).take 8)) } } else s
    let s := s.setLc (lcOf target)
    let s := { s with
      tamper := { s.tamper with t0 := false, t1 := false, vbatLoss := false, vGlitch := false, cGlitch := false, wiped := false }
      alarms := { s.alarms with tamper := false } }
    rep s true keys

/-- SCAN_ACCESS is decoded (R573, R580). -/
def State.scanOpen (s : State) : Bool := s.sec.scanArmed || decide (s.mram.lc = .decommissioned)

/-- SEC.LC_STATUS (R580). -/
def bodyLcStatus : Body := fun c _ s =>
  s.ok c [pack [(0, lcCode s.mram.lc), (2, s.mram.hostKey.isSome.toNat), (3, s.mram.sysKey.isSome.toNat), (4, s.tamper.latched.toNat),
    (5, s.tamper.wiped.toNat), (6, s.sec.wipeFail.toNat), (7, s.scanOpen.toNat), (8, s.sec.fuse.toNat), (9, s.tamper.vbatLow.toNat)],
    w32 s.mram.bootEpoch]

/-- What a key load leaves stored (R570): none when it unloads the key. -/
def loadKey (lc : Lc) (host : Bool) (old : Option Nat) (k : Nat) : Option Nat :=
  if k ≠ 0 then some k else if host = true ∧ lc ≠ .manufacture then old else none

/-- SEC.KEY_LOAD (R570, R581); no key can be loaded while WIPE_FAIL is set (R568). -/
def bodyKeyLoad : Body := fun c ws s =>
  let host := !(bit (wd ws 0) 0)
  let old := if host then s.mram.hostKey else s.mram.sysKey
  let new := if s.sec.wipeFail then old else loadKey s.mram.lc host old (keyOf ((ws.drop 1).take 8))
  let s := if new = old then s
    else
      let m := if host then { s.mram with hostKey := new } else { s.mram with sysKey := new }
      { s with mram := { m with bootEpoch := 0 }, axg := { s.axg with replay := [] } }
  s.ok c [pack [(0, s.mram.hostKey.isSome.toNat), (1, s.mram.sysKey.isSome.toNat), (16, s.mram.bootEpoch)]]

/-- SEC.SEQ_RESET (R582). -/
def bodySeqReset : Body := fun c ws s =>
  let src := fld (wd ws 0) 17 0
  let keep := if bit (wd ws 0) 24 then [] else s.axg.replay.filter (fun r => decide (r.srcId ≠ src))
  ({ s with axg := { s.axg with replay := keep } }).ok c [w32 (s.axg.replay.length - keep.length)]

/-- SEC.TAMPER_STATUS (R583). -/
def bodyTamperStatus : Body := fun c _ s =>
  let t := s.tamper
  s.ok c [pack [(0, t.t0.toNat), (1, t.t1.toNat), (2, t.vbatLoss.toNat), (3, t.vGlitch.toNat), (4, t.cGlitch.toNat), (5, t.wiped.toNat),
    (8, t.count)]]

/-- SEC.SCAN_ENABLE (R573, R584): the reply first, then the wipe, the state, the record, and the arming once the wipe is verified. -/
def bodyScanEnable : Body := fun c _ s =>
  let armed := !(s.sec.wipeFail || s.fused.secureDefect)
  let s := s.ok c [pack [(0, 0), (7, armed.toNat)]]
  let s := s.wipe
  let s := if s.mram.lc = .provisioned then s.setLc .manufacture else s
  let s := s.log .mgmt 0x0F03 0 0 0 0
  { s with sec := { s.sec with scanArmed := armed } }

/-! ### Result records (R555-R563, R578) -/

/-- How a result record reads: 0 NONE, 1 PASS, 2 FAIL, 3 INCOMPLETE (R558, R559). -/
def TestRec.reads (r : TestRec) : Nat :=
  if r.status = 1 then (if r.completed = r.expected then 1 else 3)
  else if r.status = 2 then 2
  else if 0 < r.nFail then 2 else 3

def readsOf (r : Option TestRec) : Nat := match r with | none => 0 | some r => r.reads

/-- The latest record: the higher RUN_H, the anneal-pass record on equal values (R562). -/
def latestRec (pass start : Option TestRec) : Option TestRec :=
  match pass, start with
  | some a, some b => if a.runH < b.runH then some b else some a
  | some a, none => some a
  | none, x => x

/-- The newer record that reads PASS (R562). -/
def newestPass (pass start : Option TestRec) : Option TestRec :=
  latestRec (pass.filter (fun r => decide (r.reads = 1))) (start.filter (fun r => decide (r.reads = 1)))

/-- A quick start is allowed (R562). -/
def Mram.quickOk (m : Mram) : Bool :=
  !m.nextFull && decide (m.quickAge ≠ 0)
    && (let l := readsOf (latestRec m.passRec m.startRec); decide (l = 1 ∨ l = 3))
    && (match newestPass m.passRec m.startRec with | some r => decide (m.runH - r.runH < m.quickAge) | none => false)

/-- The record after one more segment of a test (R555, R558). A segment that needs the shadow while a region is retired counts as failed
(R593). -/
def TestRec.segment (r : TestRec) (retired fail : Bool) : TestRec :=
  let bad := fail || (retired && decide (32 ≤ r.completed ∧ r.completed < 64))
  { r with
    completed := r.completed + 1
    nFail := if bad then r.nFail + 1 else r.nFail
    firstFail := if bad = true ∧ r.nFail = 0 then r.completed else r.firstFail }

/-- The final status of a test that has run its range (R555). -/
def TestRec.final (r : TestRec) : TestRec := { r with status := if r.nFail = 0 then 1 else 2 }

/-- The ANNEAL_RESULT record of a test's end (R560): result, test, segments completed. -/
def State.annealRecord (s : State) (result test completed source : Nat) : State :=
  s.logSev .mgmt (if result = 1 then 0 else 3) 0x0901 source (pack [(0, result), (2, test)]) (w32 completed)

/-- ANNEAL.CONFIG (R576). -/
def bodyAnnealConfig : Body := fun c ws s =>
  let w := bit (wd ws 0) 31
  let m := if w then { s.mram with nextFull := bit (wd ws 0) 0, quickAge := min 8760 (fld (wd ws 1) 13 0) } else s.mram
  ({ s with mram := m }).ok c [pack [(31, w.toNat), (0, m.nextFull.toNat)], w32 m.quickAge, w32 m.runH]

/-- ANNEAL.RESULT (R578). -/
def bodyAnnealResult : Body := fun c ws s =>
  let which := min 2 (fld (wd ws 0) 1 0)
  let r : Option TestRec :=
    if which = 0 then s.mram.passRec
    else if which = 1 then s.mram.startRec
    else s.sec.lastBlock.map (fun (b : Block) =>
      { status := if 0 < b.nFail then 2 else if b.completed = b.expected then 1 else 0, full := false, expected := b.expected,
        completed := b.completed, firstFail := b.firstFail, nFail := b.nFail, runH := b.runH, epoch := b.epoch, duration := b.duration })
  let res := readsOf r
  let t := r.getD {}
  let ws' := [pack [(0, res), (2, which), (4, s.mram.quickOk.toNat), (5, s.mram.nextFull.toNat), (6, s.sec.lastQuick.toNat)],
    w32 t.expected, w32 t.completed, if r.isNone then 0xFFFFFFFF else w32 t.firstFail, w32 t.nFail, w32 t.runH, w32 t.epoch,
    w32 (min 0xFFFFFFFF t.duration)]
  if res = 3 then s.complete c { status := stIncomplete, detail := min 0xFFFF t.completed, words := ws' }
  else s.ok c ws'

/-- TICK passes a multiple of 4.5 x 10^12, every 3,600 s: RUN_H rises and is written (R561). -/
def runHourly (s : State) : State :=
  if s.running = true ∧ s.sec.hours < s.clk.tick / (45 * 10 ^ 11) then
    let s := s.charge (jobFixed 11)
    { s with mram := { s.mram with runH := (s.mram.runH + 1) % 2 ^ 32 }, sec := { s.sec with hours := s.sec.hours + 1 } }
  else s

end Sys2Proof.Machine
end

