-- ==== Sys2Proof/Machine/Counters.lean ====
section
/-! DEFINITION. Performance counters, top-down slots and bandwidth windows (chapter 20): the counting operation every rule that counts an
event uses, and the CNT commands. -/

namespace Sys2Proof.Machine

open Sys2Proof

namespace State

def prog (s : State) (k : Nat) : Cnt := Tab.get cntReset s.cnt.prog k
def setProg (s : State) (k : Nat) (c : Cnt) : State := { s with cnt := { s.cnt with prog := Tab.put cntReset s.cnt.prog k c } }
def tdOf (s : State) (k : Nat) : Td := Tab.get tdReset s.cnt.td k
def setTd (s : State) (k : Nat) (t : Td) : State := { s with cnt := { s.cnt with td := Tab.put tdReset s.cnt.td k t } }
def pendOf (s : State) (p : Nat) : Nat := Tab.get zeroReset s.cnt.pend p
def setPend (s : State) (p n : Nat) : State := { s with cnt := { s.cnt with pend := Tab.put zeroReset s.cnt.pend p n } }
def backlogOf (s : State) (p : Nat) : Nat := Tab.get zeroReset s.cnt.backlog p
def setBacklog (s : State) (p n : Nat) : State := { s with cnt := { s.cnt with backlog := Tab.put zeroReset s.cnt.backlog p n } }

end State

/-! ### Events (R604-R607) -/

/-- Codes of the events of R604. -/
def evCodes : List Nat :=
  [0x000, 0x001, 0x002, 0x003, 0x004, 0x010, 0x011, 0x012, 0x100, 0x101, 0x102, 0x103, 0x104, 0x105, 0x106, 0x107, 0x108, 0x109, 0x10A]
  ++ [0x110, 0x111, 0x112, 0x113, 0x200, 0x201, 0x202, 0x203, 0x300, 0x301, 0x302, 0x303, 0x400, 0x401, 0x402, 0x403, 0x404]

/-- Events with no instance, and events with a queue. -/
def evNoInst (e : Nat) : Bool := [0x000, 0x108, 0x109, 0x10A, 0x202].contains e
def evQueue (e : Nat) : Bool := [0x200, 0x201].contains e
def evState (e : Nat) : Bool := [0x010, 0x011, 0x012, 0x201, 0x202].contains e

/-- INST as stored (R605). -/
def evInst (e i : Nat) : Nat :=
  if evNoInst e then 0
  else if e = 0x203 then (if i < 3 then i else 0x7F)
  else if 0x400 ≤ e then (if i < 16 then i else 0x7F)
  else if i < 104 then i else 0x7F

/-- Add to a 48-bit counter; a wrap sets OVF (R608). -/
def add48 (v n : Nat) (ovf : Bool) : Nat × Bool := ((v + n) % 2 ^ 48, ovf || decide (2 ^ 48 ≤ v + n))

/-- A counter after occurrences of an event (R606). -/
def Cnt.pulse (c : Cnt) (ev inst q w : Nat) : Cnt :=
  let m := c.enable && decide (c.event = ev) && (evNoInst ev || decide (c.inst = 0x7F) || decide (c.inst = inst))
    && (!evQueue ev || decide (8 < c.queue) || decide (c.queue = q))
  if m then
    let n := if c.level then (if c.got = 0 then 1 else 0) else w
    let a := add48 c.value n c.ovf
    { c with value := a.1, ovf := a.2, got := c.got + n }
  else c

/-- Count occurrences of an event in the present tick: instance, queue, weight (R604-R606). A counter with nothing selected is not
listed, and counts nothing. -/
def State.event (s : State) (ev inst q w : Nat) : State :=
  if w = 0 then s else { s with cnt := { s.cnt with prog := Tab.mapVal (fun _ c => c.pulse ev inst q w) s.cnt.prog } }

/-- The usual case: one occurrence on a port. -/
def State.ev (s : State) (ev inst : Nat) : State := s.event ev inst 0 1

/-! ### Port presence, which counters and ports share (R136, R137) -/

/-- A port exists (R137). -/
def State.portExists (s : State) (p : Nat) : Bool :=
  if p < 32 then !s.formed (p / 4) else if p < 96 then true else if p < 104 then s.formed (p - 96) else false

/-- The lanes of a port (R136). -/
def portLanes (p : Nat) : List Nat := if p < 96 then [p] else (List.range 4).map (fun i => 4 * (p - 96) + i)

/-- The pipeline lane of a port (R174). -/
def pipeOf (p : Nat) : Nat := if p < 32 then p / 4 else if p < 96 then 8 + (p - 32) / 8 else p - 96

/-- The MAC rate of a port in units of 100 Mb/s (R204). -/
def State.macRate (s : State) (p : Nat) : Nat := if 96 ≤ p then 1000 else [10, 25, 50, 100, 250].getD (s.lane p).rate 250

/-! ### Charges of the buffer that counters read (R223) -/

/-- Q(p, q): the charges of a queue's enqueues (R223). -/
def State.qOf (s : State) (p q : Nat) : Nat :=
  ((s.buf.copies.filter (fun c => decide (c.port = p ∧ c.queue = q))).map Copy.charge).sum

/-- The queues that hold a charge. -/
def State.chargedQueues (s : State) : List (Nat × Nat) := (s.buf.copies.map (fun c => (c.port, c.queue))).dedup

/-- The pool use U (R223). -/
def State.poolUsed (s : State) : Nat := (s.chargedQueues.map (fun e => s.qOf e.1 e.2 - s.minOf e.1 e.2)).sum

/-- A state source holds in the present tick (R604, R605). -/
def State.holds (s : State) (c : Cnt) : Bool :=
  let onPorts := fun (f : Nat → Bool) =>
    if c.inst = 0x7F then (List.range 104).any (fun p => s.portExists p && f p) else s.portExists c.inst && f c.inst
  match c.event with
  | 0x010 => onPorts (fun p => decide ((s.port p).st = .up))
  | 0x011 => onPorts (fun p => decide ((s.port p).st = .filter))
  | 0x012 => onPorts (fun p => (portLanes p).any (fun l => (s.lane l).txDoze))
  | 0x201 => onPorts (fun p => (List.range 9).any (fun q =>
      (decide (8 < c.queue) || decide (c.queue = q)) && decide (s.minOf p q < s.qOf p q)))
  | 0x202 => decide (s.buf.poolSize ≤ s.poolUsed)
  | _ => false

/-- What a state source's counter counts in a tick, whose end shows whether the state held (R606). -/
def State.tickCnt (s : State) (c : Cnt) : Cnt :=
  if evState c.event then
    let h := s.holds c
    let n := if c.enable = true ∧ h = true ∧ (c.level = true ∨ c.prev = false) then 1 else 0
    let a := add48 c.value n c.ovf
    { c with value := a.1, ovf := a.2, prev := h, got := c.got + n }
  else c

/-! ### Top-down slots (R610-R613) -/

/-- Segments of a frame of L bytes (R174). -/
def segsOf (l : Nat) : Nat := ceilDiv l 16

/-- Add to a top-down counter. -/
def State.addTd (s : State) (p c n : Nat) : State :=
  let t := s.tdOf (4 * p + c)
  let a := add48 t.value n t.ovf
  s.setTd (4 * p + c) { t with value := a.1, ovf := a.2, got := t.got + n }

/-- Segments of a frame arrive on a pipeline lane: they pend, and take the slots of as many ticks (R611). -/
def State.segArrive (s : State) (p n : Nat) : State :=
  (s.setPend p ((s.pendOf p + n) % 2 ^ 32)).setBacklog p (s.backlogOf p + n)

/-- Pending segments become DELIVERED, or SCRAPPED with a cause (R610, R613). -/
def State.segFate (s : State) (p n : Nat) (delivered : Bool) (cause : Nat) : State :=
  let s := s.setPend p (s.pendOf p - n)
  if delivered then s.addTd p 0 n else (s.addTd p 1 n).event cause p 0 n

/-! ### Bandwidth windows (R614) -/

/-- A frame counts, whole, in the window that holds a stamp tick (R614): the one in progress, or the one latched last, whose values it still joins
when its last byte comes later (DEDUCED, notes/assumptions/81.md). -/
def State.inWindow (s : State) (tick p : Nat) (f : Band → Band) : State :=
  let put := fun (t : Tab Band) => Tab.put bandReset t p (f (Tab.get bandReset t p))
  if s.cnt.winStart ≤ tick then { s with cnt := { s.cnt with acc := put s.cnt.acc } }
  else if s.cnt.lastStart ≤ tick ∧ tick < s.cnt.lastEnd then { s with cnt := { s.cnt with last := put s.cnt.last } }
  else s

/-- A frame received on a port counts in the window of its receive stamp's tick (R614) and as RX_FRAMES and RX_BYTES. -/
def State.rxBand (s : State) (p len tick : Nat) : State :=
  ((s.inWindow tick p (fun b => { b with rxBytes := b.rxBytes + len, rxFrames := b.rxFrames + 1 })).ev 0x001 p).event 0x002 p 0 len

/-- A frame transmitted on a port counts in the window of its transmit stamp's tick and as TX_FRAMES and TX_BYTES. -/
def State.txBand (s : State) (p len tick : Nat) : State :=
  ((s.inWindow tick p (fun b => { b with txBytes := b.txBytes + len, txFrames := b.txFrames + 1 })).ev 0x003 p).event 0x004 p 0 len

/-- Ticks of a window of so many ms. -/
def windowTicks (ms : Nat) : Nat := 1250000 * ms

/-- The start of a tick, for the windows (R614): one that ends here has every port's values latched, and the next begins. The first window of a
new WINDOW_MS begins at the first boundary of its own length, where it breaks the one in progress off; VALID stays 0 until it has ended. -/
def bandwidthEnd (s : State) : State :=
  let c := s.cnt
  let t := s.clk.tick
  if t ≤ c.winStart then s
  else if c.changed = true ∧ t % windowTicks c.windowMs = 0 then
    let c := if t % windowTicks c.windowNow = 0 then { c with last := c.acc, lastStart := c.winStart, lastEnd := t } else c
    { s with cnt := { c with acc := [], winStart := t, windowNow := c.windowMs, changed := false } }
  else if t % windowTicks c.windowNow = 0 then
    { s with cnt := { c with last := c.acc, lastStart := c.winStart, lastEnd := t, acc := [], winStart := t, valid := !c.changed } }
  else s

/-! ### Commands -/

/-- CNT.CONFIG (R617): value and OVF stay; a state that already holds counts no edge in the applying tick (R607). -/
def bodyCntConfig : Body := fun c ws s =>
  let w := bit (wd ws 0) 31
  let k := fld (wd ws 0) 6 0
  let e0 := fld (wd ws 1) 11 0
  let e := if evCodes.contains e0 then e0 else 0
  let old := s.prog k
  let new := if w then
    { old with
      event := e
      level := bit (wd ws 1) 15
      enable := bit (wd ws 1) 16
      inst := evInst e (fld (wd ws 2) 6 0)
      queue := if evQueue e then (if fld (wd ws 2) 11 8 < 9 then fld (wd ws 2) 11 8 else 0xF) else (if evNoInst e then 0 else 0xF) }
    else old
  let s := if w then s.setProg k { new with prev := s.holds new } else s
  s.ok c [pack [(31, w.toNat), (0, k)], pack [(0, new.event), (15, new.level.toNat), (16, new.enable.toNat)],
    pack [(0, new.inst), (8, new.queue)]]

/-- Value and OVF of a counter by its number (R603). -/
def State.cntValue (s : State) (k : Nat) : Nat × Bool :=
  if k < 128 then ((s.prog k).value, (s.prog k).ovf)
  else if k < 192 then ((s.tdOf (k - 128)).value, (s.tdOf (k - 128)).ovf)
  else (s.pendOf (k - 192), false)

/-- Set value and OVF of a counter. -/
def State.setCnt (s : State) (k v : Nat) (ovf : Bool) : State :=
  if k < 128 then s.setProg k { s.prog k with value := v, ovf := ovf }
  else if k < 192 then s.setTd (k - 128) { s.tdOf (k - 128) with value := v, ovf := ovf }
  else s

/-- What a counter has counted in the present tick, and its OVF before it (R609). -/
def State.cntThis (s : State) (k : Nat) : Nat × Bool :=
  if k < 128 then ((s.prog k).got, (s.prog k).was)
  else if k < 192 then ((s.tdOf (k - 128)).got, (s.tdOf (k - 128)).was)
  else (0, false)

/-- The four words of a counter read in a tick (R618). -/
def State.cntWords (s : State) (k tick : Nat) : List Word :=
  let v := s.cntValue k
  [pack [(31, v.2.toNat), (0, v.1 / 2 ^ 32 % 2 ^ 16)], w32 v.1, w32 (tick / 2 ^ 32), w32 tick]

/-- Clear OVF of a counter. -/
def State.clearOvf (s : State) (k : Nat) : State := s.setCnt k (s.cntValue k).1 false

/-- CNT.READ and CNT.WRITE act on their counters one a tick, at the tick's end, so that what the tick counts is in it (R609). -/
def Work.onCounters : Work → Bool
  | .cntRead _ _ _ _ _ => true
  | .cntWrite _ _ _ _ => true
  | _ => false

/-- A counter is read at the tick's end, and its OVF cleared after that where CLEAR_OVF says so (R609). -/
def State.readCnt (s : State) (k : Nat) (clr : Bool) : List Word × State :=
  (s.cntWords k s.clk.tick, if clr then s.clearOvf k else s)

/-- A counter is written at the tick's end: the written value plus that tick's count; CLEAR_OVF acts first, a wrap of the old value sets nothing,
a wrap of the sum sets OVF (R609). -/
def State.writeCnt (s : State) (k : Nat) (a b : Word) : List Word × State :=
  let x := s.cntThis k
  let v := add48 (fld a 15 0 * 2 ^ 32 + b.toNat) x.1 (x.2 && !bit a 31)
  let s := s.setCnt k v.1 v.2
  (s.cntWords k s.clk.tick, s)

/-- The oldest CNT.READ or CNT.WRITE in progress takes its next counter; with the last one its reply leaves (R609, R618, R619). -/
def State.counterJob (s : State) : State :=
  match s.findJob Work.onCounters with
  | some { ctx := _, work := .cntRead first n clr (left + 1) acc } =>
    let r := s.readCnt (first + (n - 1 - left)) clr
    let words := acc ++ r.1
    if left = 0 then r.2.completeFirst Work.onCounters (okRpl (pack [(0, first), (8, n), (16, clr.toNat)] :: words))
    else { r.2 with axg := { r.2.axg with jobs := updWork Work.onCounters (.cntRead first n clr left words) r.2.axg.jobs } }
  | some { ctx := _, work := .cntWrite first n ((a, b) :: more) acc } =>
    let r := s.writeCnt (first + (n - 1 - more.length)) a b
    let words := acc ++ r.1
    if more = [] then r.2.completeFirst Work.onCounters (okRpl (pack [(0, first), (8, n)] :: words))
    else { r.2 with axg := { r.2.axg with jobs := updWork Work.onCounters (.cntWrite first n more words) r.2.axg.jobs } }
  | _ => s

/-- CNT.READ (R609, R618): one counter a tick, in ascending order from the present tick. -/
def bodyCntRead : Body := fun c ws s =>
  let w := wd ws 0
  let first := min 207 (fld w 7 0)
  let n := min (min 208 (fld w 15 8)) (208 - first)
  let clr := bit w 16
  if n = 0 then s.ok c [pack [(0, first), (16, clr.toNat)]] else s.hold c (.cntRead first n clr n [])

/-- LEN of CNT.WRITE (R619). -/
def lenCntWrite : LenRule := fun ws =>
  if ws = [] then some 0
  else let n := 1 + 2 * fld (wd ws 0) 15 8; if ws.length = n then none else some n

/-- CNT.WRITE (R609, R619): one counter a tick, in ascending order from the present tick. -/
def bodyCntWrite : Body := fun c ws s =>
  let w := wd ws 0
  let first := min 191 (fld w 7 0)
  let n := min (min 192 (fld w 15 8)) (192 - first)
  if n = 0 then s.ok c [pack [(0, first)]]
  else s.hold c (.cntWrite first n ((List.range n).map (fun i => (wd ws (1 + 2 * i), wd ws (2 + 2 * i)))) [])

/-- CNT.BANDWIDTH (R620). -/
def bodyBandwidth : Body := fun c ws s =>
  let w := bit (wd ws 0) 31
  let ms := if w then clamp 1 10000 (fld (wd ws 0) 13 0) else s.cnt.windowMs
  let first := min 103 (fld (wd ws 1) 6 0)
  let n := min (min 104 (fld (wd ws 1) 14 8)) (104 - first)
  let s := if w then
    let new := decide (ms ≠ s.cnt.windowMs)
    { s with cnt := { s.cnt with windowMs := ms, changed := s.cnt.changed || new, valid := s.cnt.valid && !new } } else s
  let rep := (List.range n).flatMap (fun i =>
    let b := if s.portExists (first + i) then Tab.get bandReset s.cnt.last (first + i) else {}
    [w32 (b.rxBytes / 2 ^ 32), w32 b.rxBytes, w32 (b.txBytes / 2 ^ 32), w32 b.txBytes, w32 b.rxFrames, w32 b.txFrames])
  s.ok c ([pack [(31, w.toNat), (0, ms)], w32 (s.cnt.lastStart / 2 ^ 32), w32 s.cnt.lastStart, pack [(0, s.cnt.valid.toNat)]] ++ rep)

/-- CNT.USER (R621). -/
def bodyCntUser : Body := fun c ws s =>
  let w := bit (wd ws 0) 31
  let u := if w then bit (wd ws 0) 0 else s.cnt.user
  ({ s with cnt := { s.cnt with user := u } }).ok c [pack [(31, w.toNat), (0, u.toNat)]]

/-- A host read of a word of the counter user page (R615): word 0 latches the entry's other words of the same tick. -/
def cntPageRead (k word : Nat) (s : State) : State :=
  if s.cnt.user = false ∨ 208 ≤ k then s.emit (.read [0])
  else if word = 0 then
    let v := s.cntValue k
    let hi := if k < 192 then v.1 / 2 ^ 32 % 2 ^ 16 else 0
    let put := fun (h : Tab Word) i x => Tab.put wordReset h (4 * k + i) x
    let h := put (put (put s.cnt.hold 1 (pack [(0, hi), (31, v.2.toNat)])) 2 (w32 s.clk.tick)) 3 (w32 (s.clk.tick / 2 ^ 32))
    ({ s with cnt := { s.cnt with hold := h } }).emit (.read [w32 v.1])
  else s.emit (.read [Tab.get wordReset s.cnt.hold (4 * k + word % 4)])

end Sys2Proof.Machine
end

