-- ==== Sys2Proof/Machine/Frame.lean ====
section
/-! DEFINITION. Frames as bytes: the parser of R175, the redundancy tag and trailer (R148-R150), tag edits (R181), and the PTP message inside a
frame (R260, R283). -/

namespace Sys2Proof.Machine

open Sys2Proof

/-- The number in `n` bytes from an offset, when the bytes end within the list. -/
def be? (bs : List Byte) (off n : Nat) : Option Nat :=
  if off + n ≤ bs.length then some (ofBytesBE ((bs.drop off).take n)) else none

/-- The number in `n` bytes from an offset, absent bytes as 0. -/
def beAt (bs : List Byte) (off n : Nat) : Nat := (be? bs off n).getD 0

/-! ### The parser (R175, R176) -/

/-- What the parser reads of a frame. A field that does not end by byte 127 is absent. -/
structure Hdr where
  da : Nat
  sa : Nat
  /-- PathId with LSDU size, and sequence number, of an HSR tag. -/
  hsr : Option (Nat × Nat)
  /-- The TCI of an 802.1Q tag. -/
  tci : Option Nat
  etype : Nat
  /-- Offset of the first byte after the EtherType. -/
  pay : Nat
  appid : Option Nat
  proto : Option Nat
  dport : Option Nat
  /-- 0 Ethernet, 1 IPv4, 2 IPv6, and the offset of a PTP common header. -/
  ptp : Option (Nat × Nat)
deriving DecidableEq, Repr

/-- Parse the first 128 bytes; an HSR tag is recognised on a ring port only. -/
def parseHdr (hsrPort : Bool) (all : List Byte) : Hdr :=
  let bs := all.take 128
  let hsrHere := hsrPort && decide (be? bs 12 2 = some 0x892F)
  let o1 := if hsrHere then 18 else 12
  let hsr := if hsrHere then (be? bs 14 2).bind (fun a => (be? bs 16 2).map (fun q => (a, q))) else none
  let tagHere := decide (be? bs o1 2 = some 0x8100)
  let tci := if tagHere then be? bs (o1 + 2) 2 else none
  let o2 := if tagHere then o1 + 4 else o1
  let et := beAt bs o2 2
  let pay := o2 + 2
  let appid := if et = 0x88B8 ∨ et = 0x88BA then be? bs pay 2 else none
  let ihl := 4 * (beAt bs pay 1 % 16)
  let v4 := decide (et = 0x0800) && decide (beAt bs pay 1 / 16 = 4) && decide (20 ≤ ihl) && decide (pay + ihl ≤ bs.length)
  let v6 := decide (et = 0x86DD) && decide (pay + 40 ≤ bs.length) && decide (beAt bs (pay + 6) 1 = 17 ∨ beAt bs (pay + 6) 1 = 6)
  let proto := if v4 then be? bs (pay + 9) 1 else if v6 then be? bs (pay + 6) 1 else none
  let l4 := if v4 then pay + ihl else pay + 40
  let dport := if proto = some 17 ∨ proto = some 6 then be? bs (l4 + 2) 2 else none
  let ptpAt := fun (o tr : Nat) => if o + 34 ≤ bs.length then some (tr, o) else none
  let ptp := if et = 0x88F7 then ptpAt pay 0
    else if proto = some 17 ∧ (dport = some 319 ∨ dport = some 320) then ptpAt (l4 + 8) (if v4 then 1 else 2)
    else none
  { da := beAt bs 0 6, sa := beAt bs 6 6, hsr := hsr, tci := tci, etype := et, pay := pay, appid := appid, proto := proto, dport := dport,
    ptp := ptp }

/-- A multicast or broadcast address. -/
def isMulti (mac : Nat) : Bool := (mac / 2 ^ 40).testBit 0

/-! ### Redundancy tag and trailer (R148-R150) -/

/-- A frame without its FCS. -/
def dropFcs (bs : List Byte) : List Byte := bs.take (bs.length - 4)

/-- The length of a frame's head up to its EtherType's end, HSR tag apart. -/
def headLen (h : Hdr) : Nat := match h.tci with | some _ => 18 | none => 14

/-- The RCT of a frame given without its FCS: sequence number and LanId, when suffix and size are right (R149). The LSDU size counts the bytes
after the EtherType, the trailer included (PRESUMED from IEC 62439-3). -/
def rctOf (h : Hdr) (bs : List Byte) : Option (Nat × Nat) :=
  let n := bs.length
  if n < headLen h + 6 then none
  else if beAt bs (n - 2) 2 ≠ 0x88FB then none
  else
    let lan := beAt bs (n - 4) 2
    if lan % 4096 = n - h.pay then some (beAt bs (n - 6) 2, lan / 4096) else none

/-- A frame in pieces: its addresses, what stands after an HSR tag, as an 802.1Q tag and the rest without any RCT. -/
structure Pieces where
  addrs : List Byte
  hsr : List Byte
  tci : Option Nat
  rest : List Byte

/-- Take a frame without its FCS apart. -/
def piecesOf (h : Hdr) (bs : List Byte) (rct : Bool) : Pieces :=
  let bs' := if rct then bs.take (bs.length - 6) else bs
  { addrs := bs.take 12, hsr := if h.hsr.isSome then (bs.drop 12).take 6 else [], tci := h.tci, rest := bs'.drop (h.pay - 2) }

/-- An 802.1Q tag as bytes. -/
def tagBytes : Option Nat → List Byte
  | none => []
  | some t => bytesBE 2 0x8100 ++ bytesBE 2 t

/-- The bytes of a copy up to its padding and trailer (R148-R150, R181): the tag edit, then an HSR tag. A copy without a tag edit keeps its tag. -/
def editBytes (h : Hdr) (bs : List Byte) (rct : Bool) (edit : Option (Option Nat)) (red redSeq redLan : Nat) : List Byte :=
  let p := piecesOf h bs rct
  let body := tagBytes (edit.getD p.tci) ++ p.rest
  let lsdu := p.rest.length - 2 + 6
  if red = 1 then p.addrs ++ p.hsr ++ body
  else if red = 2 then p.addrs ++ bytesBE 2 0x892F ++ bytesBE 2 (redLan * 4096 + lsdu % 4096) ++ bytesBE 2 redSeq ++ body
  else p.addrs ++ body

/-- The bytes of a copy as it leaves, without its FCS (R148-R150, R181): edited, with its RCT, padded to 60 bytes. -/
def leaveBytes (h : Hdr) (bs : List Byte) (rct : Bool) (edit : Option (Option Nat)) (red redSeq redLan : Nat) : List Byte :=
  let b := editBytes h bs rct edit red redSeq redLan
  if red = 3 then
    let b := padFrame b
    let n := b.length - (12 + (tagBytes (edit.getD h.tci)).length + 2) + 6
    b ++ bytesBE 2 redSeq ++ bytesBE 2 (redLan * 4096 + n % 4096) ++ bytesBE 2 0x88FB
  else padFrame b

/-! ### PTP messages (R260, R283) -/

/-- A PTP message as it stands in a frame. -/
structure Msg where
  typ : Nat
  sdo : Nat
  ver : Nat
  minor : Nat
  domain : Nat
  twoStep : Bool
  flags : Nat
  /-- correctionField in units of 2^-16 ns. -/
  corr : Int
  srcId : Nat
  srcPort : Nat
  seq : Nat
  logInt : Int
  /-- The message's bytes, its TLVs included. -/
  raw : List Byte
deriving DecidableEq, Repr

/-- The message at an offset of a frame given without its FCS. -/
def msgAt (bs : List Byte) (off : Nat) : Msg :=
  let b := bs.drop off
  let len := beAt b 2 2
  { typ := beAt b 0 1 % 16, sdo := beAt b 0 1 / 16, ver := beAt b 1 1 % 16, minor := beAt b 1 1 / 16, domain := beAt b 4 1,
    twoStep := (beAt b 6 1).testBit 1, flags := beAt b 7 1, corr := signed 64 (beAt b 8 8), srcId := beAt b 20 8, srcPort := beAt b 28 2,
    seq := beAt b 30 2, logInt := signed 8 (beAt b 33 1), raw := b.take (max 34 len) }

/-- Peer-delay messages (R284). -/
def Msg.peer (m : Msg) : Bool := [2, 3, 10].contains m.typ

/-- The timestamp at an offset of a message, in units of 2^-18 ns. -/
def Msg.stampAt (m : Msg) (off : Nat) : Int := (((beAt m.raw off 6) * 10 ^ 9 + beAt m.raw (off + 6) 4) * 2 ^ 18 : Nat)

/-- A timestamp's ten bytes, from a time in units of 2^-18 ns, truncated to whole nanoseconds (R264, R293). -/
def ptpStamp (t : Int) : List Byte :=
  let ns := (t / 2 ^ 18).toNat
  bytesBE 6 (ns / 10 ^ 9) ++ bytesBE 4 (ns % 10 ^ 9)

/-- FRACTION of a time in units of 2^-18 ns (R293). -/
def fracOf (t : Int) : Int := t % 2 ^ 18

/-- A sum of terms in units of 2^-18 ns, rounded once to 2^-16 ns with halves toward plus infinity (R266). -/
def roundCorr (t : Int) : Int := (t + 2) / 4

/-- The updated correctionField and whether it saturated (R266). -/
def addCorr (c t : Int) : Int × Bool :=
  if c = 2 ^ 63 - 1 then (c, false)
  else
    let r := c + roundCorr t
    if 2 ^ 63 - 1 < r ∨ r < -(2 ^ 63) then (2 ^ 63 - 1, true) else (r, false)

/-- Replace bytes from an offset. -/
def putBytes (bs : List Byte) (off : Nat) (x : List Byte) : List Byte := bs.take off ++ x ++ bs.drop (off + x.length)

/-- The AUTHENTICATION TLV at the end of a message: its offset, SPP, keyID, sequenceNo when present, and the ICV's offset (R267). -/
structure AuthTlv where
  off : Nat
  spp : Nat
  keyId : Nat
  seqNo : Option Nat
  icv : Nat
deriving DecidableEq, Repr

/-- The TLV, found as the last one of the message. -/
def authTlv (raw : List Byte) : Option AuthTlv :=
  let n := raw.length
  let try_ := fun (len : Nat) (gm : Bool) =>
    if n < 34 + 4 + len then none
    else
      let o := n - 4 - len
      if beAt raw o 2 = 0x8009 ∧ beAt raw (o + 2) 2 = len ∧ beAt raw (o + 5) 1 = (if gm then 2 else 0) then
        some { off := o, spp := beAt raw (o + 4) 1, keyId := beAt raw (o + 6) 4,
               seqNo := if gm then some (beAt raw (o + 10) 4) else none, icv := o + 10 + (if gm then 4 else 0) }
      else none
  (try_ 22 false).orElse (fun _ => try_ 26 true)

/-- The ICV of a message up to an offset under a key slot (R267-R269); `excl` takes the correctionField as zero. -/
def icvOf (k : SesKey) (excl : Bool) (raw : List Byte) (icv seqNo : Nat) : List Byte :=
  let m := (if excl then putBytes raw 8 (List.replicate 8 0) else raw).take icv
  if k.alg = 1 then bytesBE 16 (hmac128 k.key m)
  else bytesBE 16 (gmac256 k.key (k.salt % 2 ^ 32 * 2 ^ 64 + k.keyId % 2 ^ 32 * 2 ^ 32 + seqNo % 2 ^ 32) m)

/-- The Internet checksum sum of bytes, folded to 16 bits. -/
def inetSum (bs : List Byte) : Nat :=
  let rec go : List Byte → Nat
    | a :: b :: t => a.toNat * 256 + b.toNat + go t
    | [a] => a.toNat * 256
    | [] => 0
  let s := go bs
  let s := s % 65536 + s / 65536
  let s := s % 65536 + s / 65536
  s % 65536 + s / 65536

end Sys2Proof.Machine
end

