-- ==== Sys2Proof/Machine/Buffer.lean ====
section
/-! DEFINITION. The shared buffer (chapter 06): cells, charges, admission, references and their release, flushes, and the BUF commands. -/

namespace Sys2Proof.Machine

open Sys2Proof

/-! ### Frames and references (R220, R229-R231) -/

/-- Cells of a frame of L bytes (R220). -/
def cellsOf (l : Nat) : Nat := ceilDiv l 256

/-- Bank and row of word `w` of cell `c` (R218). -/
def wordPlace (c w : Nat) : Nat × Nat := (16 * (c % 2) + w, c / 2)

namespace State

/-- A stored frame by its number. -/
def frame? (s : State) (id : Nat) : Option Frame := s.buf.frames.find? (fun f => decide (f.id = id))

/-- Change a stored frame. -/
def modFrame (s : State) (id : Nat) (g : Frame → Frame) : State :=
  { s with buf := { s.buf with frames := s.buf.frames.map (fun (f : Frame) => if f.id = id then g f else f) } }

/-- REFCNT: the enqueues of a frame not yet released (R229). -/
def refcnt (s : State) (id : Nat) : Nat :=
  (s.buf.copies.filter (fun c => decide (c.frame = id))).length + (s.buf.punted.filter (fun x => decide (x.frame = id))).length

/-- The frame now arriving on a port. -/
def arriving (s : State) (p : Nat) : Option Frame := s.buf.frames.find? (fun f => decide (f.inPort = p) && !f.ended)

/-- A new frame starts to be written: its number, and the state that holds it. -/
def newFrame (s : State) (f : Frame) : Nat × State :=
  let id := s.buf.nextId
  (id, { s with buf := { s.buf with nextId := id + 1, frames := s.buf.frames ++ [{ f with id := id }] } })

/-! ### Cells (R217, R218, R220, R231) -/

/-- The lowest free cell from `k` upward; the fuel is the number of cells in use. Which free cell a write takes is not stated (DESIGN CHOICE,
notes/assumptions/67.md). -/
def lowestFree (used : List Nat) : Nat → Nat → Nat
  | 0, k => k
  | f + 1, k => if used.contains k then lowestFree used f (k + 1) else k

/-- Cells in use. -/
def usedCells (s : State) : List Nat := s.buf.frames.flatMap Frame.chain

/-- A chain grown to `n` cells off the free list. -/
def growChain : Nat → List Nat → List Nat → List Nat
  | 0, _, chain => chain
  | n + 1, used, chain => let k := lowestFree used used.length 0; growChain n (k :: used) (chain ++ [k])

/-- A frame's chain covers `len` bytes: at most 41 cells (R220). -/
def drawCells (s : State) (id len : Nat) : State :=
  s.modFrame id (fun (f : Frame) => { f with chain := growChain (min 41 (cellsOf len) - f.chain.length) s.usedCells f.chain })

/-- A segment was carried by a pipeline lane: it pends, or is classified at once when its frame's fate is final (R611). -/
def carry (s : State) (id p n : Nat) : State :=
  match s.frame? id with
  | none => s
  | some f =>
    let s := s.setPend p ((s.pendOf p + n) % 2 ^ 32)
    match f.fate with
    | none => s.modFrame id (fun (f : Frame) => { f with segs := Tab.put zeroReset f.segs p (Tab.get zeroReset f.segs p + n) })
    | some (d, cause) => s.segFate p n d cause

/-- A received frame's bytes have arrived up to a length: their segments take as many slots of its port's lane, and its chain grows (R174, R611). -/
def wrote (s : State) (id len : Nat) : State :=
  match s.frame? id with
  | none => s
  | some f =>
    let n := segsOf len - f.seen
    let p := pipeOf f.inPort
    let s := ((s.setBacklog p (s.backlogOf p + n)).carry id p n).modFrame id (fun (f : Frame) => { f with seen := f.seen + n })
    if f.fate.isSome then s else s.drawCells id len

/-- The same in a step of the frame: what follows arrives from this tick on. -/
def arriveSegs (s : State) (id len : Nat) : State :=
  (s.wrote id len).modFrame id (fun (f : Frame) => { f with base := len, since := s.clk.tick })

/-- One tick of the frames still arriving: as many bytes as their port's MAC rate has brought since the last step, up to MAX_FRAME (R222). -/
def arriveTick (s : State) : State :=
  (s.buf.frames.filter (fun f => !f.ended)).foldl (fun (s : State) f =>
    s.wrote f.id (min (s.port f.inPort).maxFrame (f.base + (s.clk.tick - f.since) * s.macRate f.inPort / 100))) s

/-- The copy path of an insert queue still has segments of a frame. -/
def copying (s : State) (id : Nat) : Bool := s.buf.paths.any (fun e => decide (e.2.frame = id))

/-- Remove a frame's record. -/
def eraseFrame (s : State) (id : Nat) : State := { s with buf := { s.buf with frames := s.buf.frames.filter (fun f => decide (f.id ≠ id)) } }

/-- A frame to which nothing refers any more has its fate decided: its cells return, its segments leave PEND (R231, R611, R613). `cause`
is the scrap event of the releases of this tick. A frame still arriving, or being copied in, keeps its place until its last segment. -/
def finish (s : State) (id cause : Nat) : State :=
  match s.frame? id with
  | none => s
  | some f =>
    if f.decided = false ∨ f.fate.isSome = true ∨ s.refcnt id ≠ 0 then s
    else
      let c := if f.accepted then cause else if f.refused then 0x401 else 0x400
      let s := f.segs.foldl (fun (s : State) e => s.segFate e.1 e.2 f.delivered c) s
      if f.ended = true ∧ s.copying id = false then s.eraseFrame id
      else s.modFrame id (fun (f : Frame) => { f with chain := [], segs := [], fate := some (f.delivered, c) })

/-- A frame has ended: one whose fate is final leaves. -/
def endFrame (s : State) (id : Nat) : State :=
  match s.frame? id with
  | none => s
  | some f => if f.fate.isSome then s.eraseFrame id else s.modFrame id (fun (f : Frame) => { f with ended := true })

/-! ### Slots and copy paths (R174, R222, R610, R612) -/

/-- `n` segments of the frame on an insert queue's copy path are carried by a lane; after the last one the path is free. -/
def placeSegs (s : State) (q p n : Nat) : State :=
  match Tab.find? s.buf.paths q with
  | none => s
  | some x =>
    let s := s.carry x.frame p n
    let done := match s.frame? x.frame with | some f => segsOf f.bytes.length - (x.left - n) | none => 0
    let s := match s.frame? x.frame with | some f => if f.fate.isSome then s else s.drawCells x.frame (16 * done) | none => s
    if n < x.left then { s with buf := { s.buf with paths := Tab.insert s.buf.paths q { x with left := x.left - n } } }
    else
      let s := { s with buf := { s.buf with paths := Tab.erase s.buf.paths q } }
      match s.frame? x.frame with
      | some f => if f.fate.isSome then s.eraseFrame x.frame else s
      | none => s

/-- An insert queue holds a frame that its busy copy path keeps waiting (R612). -/
def insertHeld (s : State) (q : Nat) : Bool :=
  (Tab.find? s.buf.paths q).isSome && decide ((if q = 0 then s.buf.iqTime else if q = 1 then s.buf.iqCmd else s.buf.iqHost) ≠ [])

/-- One tick of the slots: each lane carries a received segment, or, the lowest idle lanes first, one segment of each copy path (DESIGN CHOICE,
notes/assumptions/68.md); the slots left over are INSERT_HELD for each queue that waits, and UNFED (R174, R610-R612). -/
def slotTick (s : State) : State :=
  let idle := (List.range 16).filter (fun p => decide (s.backlogOf p = 0))
  let held := ([0, 1, 2].filter s.insertHeld).length
  let paths := [0, 1, 2].filter (fun q => (Tab.find? s.buf.paths q).isSome)
  let s := (List.range 16).foldl (fun (s : State) p => if idle.contains p then s else s.setBacklog p (s.backlogOf p - 1)) s
  let s := (idle.zip paths).foldl (fun (s : State) e => s.placeSegs e.2 e.1 1) s
  let rest := idle.drop paths.length
  (rest.drop held).foldl (fun (s : State) p => s.addTd p 2 1) ((rest.take held).foldl (fun (s : State) p => s.addTd p 3 1) s)

/-- Remove a copy; its charge is released with it (R230). -/
def dropCopy (s : State) (c : Copy) : State := { s with buf := { s.buf with copies := s.buf.copies.erase c } }

/-! ### Admission (R224-R226) -/

/-- The 4-bit code of a queue's class (R226, R236). -/
def alphaOf (s : State) (q : Nat) : Nat := if q < 8 then s.buf.alpha / 16 ^ q % 16 else s.buf.alphaSpark

/-- The admission test of a charge on a queue (R225, R226). -/
def admits (s : State) (p q n : Nat) : Bool :=
  let cur := s.qOf p q
  let m := s.minOf p q
  let u := s.poolUsed
  let k := s.alphaOf q
  decide (cur + n ≤ m)
    || (decide (k ≠ 0) && decide (u + (cur + n - max cur m) ≤ s.buf.poolSize)
        && decide ((cur + n - m) * 256 ≤ 2 ^ k * (s.buf.poolSize - u)))

/-- The highest pool use is kept (R237). -/
def notePeak (s : State) : State := { s with buf := { s.buf with poolPeak := max s.buf.poolPeak s.poolUsed } }

/-- ADMIT_DROPS(p, q). -/
def admitDropsOf (s : State) (p q : Nat) : Nat := Tab.get zeroReset s.buf.admitDrops (9 * p + q)

/-- A copy is refused and counted (R225). -/
def refuse (s : State) (p q id : Nat) : State :=
  let s := { s with buf := { s.buf with
    admitDrops := Tab.put zeroReset s.buf.admitDrops (9 * p + q) (inc32 (s.admitDropsOf p q)) } }
  (s.event 0x200 p q 1).modFrame id (fun (f : Frame) => { f with refused := true })

/-- Decide one target: the copy is enqueued with its charge, or refused (R224, R225). -/
def admitCopy (s : State) (c : Copy) : State :=
  if s.admits c.port c.queue c.charge then
    ({ s with buf := { s.buf with copies := s.buf.copies ++ [c] } }).notePeak.modFrame c.frame (fun (f : Frame) => { f with accepted := true })
  else s.refuse c.port c.queue c.frame

/-! ### Punt queues (R24, R25) -/

/-- Which of PQ_TIME, PQ_CMD and PQ_HOST an entry waits in. -/
def puntQueue : PuntTo → Nat
  | .time => 0
  | .cmd => 1
  | .host _ _ => 2

/-- Depth and cell cap of a punt queue (R24, R25). -/
def puntDepth (q : Nat) : Nat := [2048, 512, 4096].getD q 0
def puntCap (q : Nat) : Nat := [512, 512, 1024].getD q 0

/-- The entries of a punt queue, oldest first. -/
def puntItems (s : State) (q : Nat) : List PuntItem := s.buf.punted.filter (fun x => decide (puntQueue x.dst = q))

/-- Cells of a frame as a punt entry occupies them: those of its bytes, or the provisional number while it arrives. -/
def puntCells (s : State) (id : Nat) : Nat :=
  match s.frame? id with
  | none => 0
  | some f => if f.ended then cellsOf f.bytes.length else cellsOf (s.port f.inPort).maxFrame

/-- Count a punted frame that was dropped (R25, R38). -/
def countPuntDrop (s : State) (q : Nat) : State :=
  let w := s.fwd
  let w := if q = 0 then { w with puntDropTime := inc32 w.puntDropTime }
    else if q = 1 then { w with puntDropCmd := inc32 w.puntDropCmd } else { w with puntDropHost := inc32 w.puntDropHost }
  ({ s with fwd := w }).event 0x203 q 0 1

/-- A punt queue has a descriptor and cells for a frame (R25). -/
def puntRoom (s : State) (id q : Nat) : Bool :=
  let items := s.puntItems q
  decide (items.length < puntDepth q) && decide ((items.map (fun x => s.puntCells x.frame)).sum + s.puntCells id ≤ puntCap q)

/-- A frame reaches a punt queue: it takes a descriptor and cells, or is dropped and counted (R25, R228). A frame whose cells would pass
the cap reaches the cap. -/
def punt (s : State) (id : Nat) (dst : PuntTo) : State :=
  let q := puntQueue dst
  if s.puntRoom id q = false then
    (s.countPuntDrop q).modFrame id (fun (f : Frame) => { f with refused := true })
  else
    ({ s with buf := { s.buf with punted := s.buf.punted ++ [PuntItem.mk id dst s.axg.authReq] } }).modFrame id
      (fun (f : Frame) => { f with accepted := true })

/-- The head of a punt queue, when its frame has ended and satisfies a test: each queue keeps its order (R28). -/
def puntHead (s : State) (q : Nat) (ok : Frame → Bool) : Option (PuntItem × Frame) :=
  match s.puntItems q with
  | [] => none
  | x :: _ =>
    match s.frame? x.frame with
    | some f => if f.ended = true ∧ ok f = true then some (x, f) else none
    | none => none

/-- A punt entry is consumed by its plane (R230, R610). -/
def consume (s : State) (x : PuntItem) : State :=
  (({ s with buf := { s.buf with punted := s.buf.punted.erase x } }).modFrame x.frame (fun (f : Frame) => { f with delivered := true })).finish
    x.frame 0x400

/-- A punt entry is dropped: by a management restart, or for a bad FCS (R38, R196). -/
def dropPunt (s : State) (x : PuntItem) (cause : Nat) : State :=
  ({ s with buf := { s.buf with punted := s.buf.punted.erase x } }).finish x.frame cause

/-! ### Early ends, flushes and truncation (R142, R143, R196, R230, R232) -/

/-- The bytes of a copy of a frame, whole or as far as it has arrived, without trailer and padding while it has not ended. -/
def copyBytes (f : Frame) (c : Copy) : List Byte :=
  if f.ended then
    let bs := dropFcs f.bytes
    leaveBytes (parseHdr f.hsrIn bs) bs f.rct c.tag c.red c.redSeq c.redLan
  else editBytes (parseHdr f.hsrIn f.bytes) f.bytes false c.tag c.red c.redSeq c.redLan

/-- A copy ends early, and its reference is released with cause CUT: one in transmission leaves with the bytes it had sent and an invalidated FCS,
the complement of their CRC-32 (R196, R230). It had sent `lo` bytes, or a number from `lo` to those there are that the timing decides (free
value). -/
def cutShort (s : State) (c : Copy) (lo : Nat) : State :=
  let s : State := match s.frame? c.frame with
    | some f =>
      if c.st ≠ .sending then s
      else
        let bs := copyBytes f c
        let (n, s) : Nat × State := if bs.length ≤ lo then (lo, s) else let (n, s) := s.drawNat; (lo + n % (bs.length - lo + 1), s)
        let sent := bs.take n
        s.emit (.frame c.port (sent ++ bytesLE 4 (2 ^ 32 - 1 - crc32 sent)) false)
    | none => s
  (s.dropCopy c).finish c.frame 0x403

/-- The flush of a port that becomes DOWN (R142), and the truncation of what it is transmitting (R143). -/
def flushPort (s : State) (p : Nat) : State :=
  let mine := s.buf.copies.filter (fun c => decide (c.port = p))
  let s := (mine.filter (fun c => decide (c.st ≠ .sending))).foldl
    (fun (s : State) c =>
      (((s.modPort p (fun (x : Port) => { x with flushDrops := inc32 x.flushDrops })).ev 0x110 p).dropCopy c).finish c.frame 0x402) s
  (mine.filter (fun c => decide (c.st = .sending))).foldl
    (fun (s : State) c => ((s.modPort p (fun (x : Port) => { x with txTrunc := inc16 x.txTrunc })).ev 0x113 p).cutShort c 0) s

/-- The frame being received on a port when link loss begins ends at that point (R143). -/
def truncateRx (s : State) (p : Nat) : State :=
  match s.arriving p with
  | none => s
  | some f =>
    let s := (s.modPort p (fun (x : Port) => { x with rxTrunc := inc16 x.rxTrunc })).ev 0x112 p
    let s := s.modFrame f.id (fun (f : Frame) => { f with decided := true })
    let s := (s.buf.copies.filter (fun c => decide (c.frame = f.id))).foldl (fun (s : State) c => s.cutShort c 0) s
    let s := (s.buf.punted.filter (fun x => decide (x.frame = f.id))).foldl (fun s x => s.dropPunt x 0x403) s
    (s.finish f.id 0x403).endFrame f.id

/-! ### Places of words and the reserves (R217-R222, R237) -/

/-- Segment `k` of a frame lies in word k mod 16 of its cell k / 16: the cell and the word (R218). -/
def segPlace (f : Frame) (k : Nat) : Option (Nat × Nat) := f.chain[k / 16]?.map (fun c => (c, k % 16))

/-- The next cell of a chain, undefined in the last (R220). -/
def nextCell (f : Frame) (c : Nat) : Option Nat := (f.chain.zip f.chain.tail).findSome? (fun e => if e.1 = c then some e.2 else none)

/-- What bank and row hold: the 16 bytes of the segment placed there, as far as they have arrived (R217, R218). -/
def bankWord (s : State) (bank row : Nat) : Option (List Byte) :=
  let c := 2 * row + bank / 16
  s.buf.frames.findSome? (fun f =>
    (f.chain.zipIdx.find? (fun e => decide (e.1 = c))).map (fun e => (f.bytes.drop (16 * (16 * e.2 + bank % 16))).take 16))

/-- Frames that hold cells. -/
def heldFrames (s : State) : List Frame := s.buf.frames.filter (fun f => f.fate.isNone)

/-- CELLS of a frame: written so far (R220). -/
def cellsSum (l : List Frame) : Nat := (l.map (fun f => f.chain.length)).sum

def cellsUsed (s : State) : Nat := s.usedCells.length

/-- Cells in the ingress reserve: frames still arriving on a port (R222). -/
def ingressUsed (s : State) : Nat := cellsSum (s.heldFrames.filter (fun f => !f.ended))

/-- Cells in the insert reserve: frames being copied in (R222). -/
def insertUsed (s : State) : Nat := cellsSum (s.heldFrames.filter (fun f => s.copying f.id))

/-- Cells in the punt reserve: frames that have ended and wait in a punt queue (R221). -/
def puntUsed (s : State) : Nat :=
  cellsSum (s.heldFrames.filter (fun f => f.ended && s.buf.punted.any (fun x => decide (x.frame = f.id))))

end State

/-! ### Commands (R235-R237) -/

/-- The sum of every MIN over all port indices and queues (R221). -/
def State.minSum (s : State) : Nat := 40 * (936 - s.buf.mins.length) + (s.buf.mins.map Prod.snd).sum

/-- Cells that minima and pool may take together (R221). -/
def cellBudget : Nat := 190208

/-- Set MIN of one queue. -/
def State.setMin (s : State) (p q m : Nat) : State :=
  { s with buf := { s.buf with mins := Tab.put minReset s.buf.mins (9 * p + q) m } }

/-- The queues BUF.MIN_SET names. -/
def minQueues (all : Bool) (q : Nat) : List Nat := if all then List.range 9 else [q]

/-- BUF.MIN_SET (R235). -/
def bodyMinSet : Body := fun c ws s =>
  let w := bit (wd ws 0) 31
  let all := bit (wd ws 0) 30
  let p := min 103 (fld (wd ws 0) 6 0)
  let q := min 8 (fld (wd ws 0) 11 8)
  let qs := minQueues all q
  let others := s.minSum - (qs.map (s.minOf p)).sum
  let m := min (min 16384 (fld (wd ws 1) 15 0)) ((cellBudget - s.buf.poolSize - others) / qs.length)
  let s := if w = true ∧ s.portExists p = true then (qs.foldl (fun s q => s.setMin p q m) s).notePeak else s
  s.ok c [pack [(31, w.toNat), (30, all.toNat), (0, p), (8, q)], w32 (s.minOf p q), w32 s.minSum]

/-- BUF.POOL_SET (R236). -/
def bodyPoolSet : Body := fun c ws s =>
  let w := bit (wd ws 0) 31
  let s := if w then
    { s with buf := { s.buf with
        poolSize := min (fld (wd ws 0) 17 0) (cellBudget - s.minSum)
        alpha := (wd ws 1).toNat
        alphaSpark := fld (wd ws 2) 3 0 } } else s
  s.ok c [pack [(31, w.toNat), (0, s.buf.poolSize)], w32 s.buf.alpha, w32 s.buf.alphaSpark]

/-- BUF.OCCUPANCY (R237); reading POOL_PEAK sets it to the present U. -/
def bodyOccupancy : Body := fun c ws s =>
  let p := portOrAll (fld (wd ws 0) 6 0)
  let u := s.poolUsed
  let tot := [w32 (196608 - s.cellsUsed), w32 u, w32 s.buf.poolPeak, pack [(0, s.ingressUsed), (16, s.puntUsed)], w32 s.insertUsed,
    w32 s.heldFrames.length]
  let per := if p = 0x7F then [] else
    (List.range 9).map (fun q => w32 (s.qOf p q)) ++ (List.range 9).map (fun q => w32 (s.admitDropsOf p q))
  ({ s with buf := { s.buf with poolPeak := u } }).ok c (tot ++ per)
where
  /-- A port index, or 0x7F for the totals (R136). -/
  portOrAll (n : Nat) : Nat := if n < 104 then n else 0x7F

end Sys2Proof.Machine
end

