-- ==== Sys2Proof/Machine/Time.lean ====
section
/-! DEFINITION. Time bases and stamps (chapter 07): how a time base advances, raw stamps as times, steps, sets, slews, and the TIME
commands. -/

namespace Sys2Proof.Machine

open Sys2Proof

/-! ### The tick (R242, R247) -/

/-- One tick's slew: what it adds, and the slew that remains. The last tick adds the exact remainder (R247). -/
def Slew.share (x : Slew) (rate : Int) : Int × Slew :=
  let n := rate.natAbs * (4 * nsU) + x.carry
  let q := n / rateDen
  if x.rem.natAbs ≤ q ∧ 0 < rate.natAbs then (x.rem, { x with rem := 0, carry := 0 })
  else
    let d : Int := if rate < 0 then -(q : Int) else q
    (d, { x with rem := x.rem - d, carry := n % rateDen })

/-- One tick of a time base (R242, R247): the rate terms are rounded in each tick toward minus infinity and their remainder carried. -/
def TBase.advance (tick : Nat) (t : TBase) : TBase :=
  let base := clampZ (-rateLimit) rateLimit (t.rateCmd + t.rateServo)
  let n := base * (4 * nsU : Nat) + t.carry
  let q := n / (rateDen : Nat)
  let sl : Int × Option Slew := match t.slew with | none => (0, none) | some x => ((x.share t.slewRate).1, some (x.share t.slewRate).2)
  let v := (t.val + tickU tick : Nat) + q + sl.1
  { t with val := (v % (tbWrap : Nat)).toNat, carry := n % (rateDen : Nat), slew := sl.2 }

/-! ### Stamps (R249-R259) -/

/-- A length of root time on a time base of rate rho: (1 + rho) x, in the same units. -/
def scaleRho (total x : Int) : Int := x + roundDiv (x * total) (10 ^ 15)

/-- Round to the nearest FRACTION unit (R251). -/
def roundFrac (x : Int) : Int := roundDiv x fracU * (fracU : Nat)

/-- The transmit unit interval of a rate in units of 2^-64 ns: 1 / line rate (R97, R250). -/
def uiTx (rate : Nat) : Nat :=
  let e := [(4, 5), (8, 25), (32, 165), (16, 165), (32, 825)].getD rate (32, 825)
  (2 * e.1 * nsU + e.2) / (2 * e.2)

/-- The width of a lane's parallel word (R97). -/
def wordWidth (rate : Nat) : Nat := if rate < 2 then 40 else 66

/-- Age of a stored value in s (R518). -/
def State.palAge (s : State) (v : PalVal) : Nat := (s.clk.tick - v.since) / ticksPerSec

/-- A stored value is STALE: its age exceeds STALE_AGE, the die temperature now differs from T_meas by more than STALE_TEMP, or did when it was
loaded (R518, R520). -/
def State.palStale (s : State) (v : PalVal) : Bool :=
  decide (s.pal.staleAge * ticksPerSec < s.clk.tick - v.since) || v.stale
    || decide (16 * s.pal.staleTemp < (s.pal.dieTemp - v.temp).natAbs)

/-- The state of an item's own value: 0 UNCAL, 1 VALID, 2 STALE (R518). -/
def State.ownPalState (s : State) (item rate : Nat) : Nat :=
  match Tab.find? s.pal.vals (8 * item + rate) with
  | none => 0
  | some v => if s.palStale v then 2 else 1

/-- The state of an item: that of its own value or of K, whichever is worse (R519). -/
def State.palState (s : State) (item rate : Nat) : Nat :=
  let a := s.ownPalState item rate
  let k := s.ownPalState 245 0
  if a = 0 ∨ k = 0 then 0 else if a = 2 ∨ k = 2 then 2 else 1

/-- The calibration value in force, and whether what uses it is UNCAL: the stored one, or the factory default where the item or K has none (R256,
R508, R518, R519). -/
def State.palValue (s : State) (item rate : Nat) : Int × Bool :=
  match Tab.find? s.pal.vals (8 * item + rate) with
  | none => (Config.palDefault item rate, true)
  | some v => if s.palState item rate = 0 then (Config.palDefault item rate, true) else (v.value, decide (s.palState item rate ≠ 1))

/-- Picoseconds in units of 2^-64 ns. -/
def psU (p : Int) : Int := roundDiv (p * (nsU : Nat)) 1000

/-- A stamp is COARSE: its lane's phase measurement is unavailable, a calibration step of its path runs, or 2 us have not passed since the lane's
CDR locked, its group aligned or its direction woke (R257; which direction each of them concerns is DEDUCED, notes/assumptions/74.md). -/
def State.coarse (s : State) (rx : Bool) (r : Raw) : Bool :=
  r.coarse || s.pal.steps.any (fun c => decide (c.item = r.lane + (if rx then 0 else 96)))
    || decide (s.clk.tick < (if rx then (s.lane r.lane).coarseRx else (s.lane r.lane).coarseTx) + r.ago)

/-- The sub-tick term of a raw stamp in units of 2^-64 ns (R250, R251, R254, R257). -/
def State.subTick (s : State) (rx : Bool) (r : Raw) : Int :=
  let rate := (s.lane r.lane).rate
  let d := psU (s.palValue (r.lane + (if rx then 0 else 96)) rate).1
  let phi : Int := if s.coarse rx r then ((2 * nsU / 5 : Nat) : Int) else psU r.phi
  if rx then phi - ((wordWidth rate - 1 - r.bitPos) * r.ui : Nat) - d + (r.lead * r.ui : Nat)
  else phi + (r.bitPos * uiTx rate : Nat) + d

/-- Seconds in holdover of a time base (R258, R259). -/
def State.holdSecs (s : State) (t : TBase) : Nat := if t.holdover then (s.clk.tick - t.holdSince) / ticksPerSec else 0

/-- The island epoch, and whether the device was in ISLAND, in a tick (R258). -/
def State.islandAt (s : State) (tick : Nat) : Nat × Bool :=
  if tick < s.clk.tick then ((s.hier.marks.find? (fun m => decide (m.1 ≤ tick))).map Prod.snd).getD (s.hier.epoch, s.inIsland)
  else (s.hier.epoch, s.inIsland)

/-- At a tick's end its island epoch and state are noted, where they differ from those noted last. -/
def State.noteIsland (s : State) : State :=
  let now := (s.hier.epoch, s.inIsland)
  if s.hier.marks.head?.map Prod.snd = some now then s
  else
    let recent := fun (m : Nat × Nat × Bool) => decide (s.clk.tick < m.1 + pastTicks)
    { s with hier := { s.hier with
        marks := (s.clk.tick, now) :: (s.hier.marks.takeWhile recent ++ (s.hier.marks.dropWhile recent).take 1) } }

/-- The tag word of a stamp record of a tick (R258). -/
def State.stampTag (s : State) (tick lane : Nat) (tx uncal coarse : Bool) (n : Nat) : Word :=
  let t := (s.tb n).pastAt s.clk.tick tick
  let i := s.islandAt tick
  let age := if t.holdover then (tick - t.holdSince) / ticksPerSec / 60 else 0
  pack [(25, lane % 128), (24, tx.toNat), (16, i.1), (8, min 255 age), (7, t.unset.toNat), (6, t.holdover.toNat),
    (5, i.2.toNat), (4, uncal.toNat), (3, coarse.toNat), (0, n % 8)]

/-- The time, on a time base as it now stands, of an instant a number of ticks and a sub-tick term of root time away (R251, R262). -/
def TBase.timeAt (t : TBase) (ticks sub : Int) : Nat :=
  ((t.val + roundFrac (scaleRho t.rateTotal (ticks * (4 * nsU : Nat) / 5 + sub)) : Int) % (tbWrap : Nat)).toNat

/-- The time of a stamp on a time base, rounded to FRACTION: from its value and rate in the stamp's tick (R251, R252), or, for a tick to come, from
the present ones carried forward (R262). -/
def TBase.stampAt (t : TBase) (now tick : Nat) (sub : Int) : Nat :=
  let x := t.pastAt now tick
  let ahead : Int := ((tick - now : Nat) : Int) * (4 * nsU : Nat) / 5
  (roundFrac ((x.valueAt (min tick now) : Int) + scaleRho x.rateTotal (ahead + sub)) % (tbWrap : Nat)).toNat

/-- A stamp of a tick, from its sub-tick term. -/
def State.stampOf (s : State) (lane : Nat) (tx uncal coarse : Bool) (tick : Nat) (sub : Int) : Stamp :=
  { tick := tick, sub := sub,
    times := (List.range 8).map (fun n => (s.tb n).stampAt s.clk.tick tick sub),
    tags := (List.range 8).map (s.stampTag tick lane tx uncal coarse) }

/-- The receive stamp of a raw stamp (R249-R254). -/
def State.rxStamp (s : State) (r : Raw) : Stamp :=
  s.stampOf r.lane false (s.palValue r.lane (s.lane r.lane).rate).2 (s.coarse true r) (s.clk.tick - r.ago) (s.subTick true r)

/-- The egress term B of R194 and the transmit FEC addition of R195, for a lane rate, a TQ port and an effective FEC mode. -/
def egressTicks (rate : Nat) (tq : Bool) (fec : Nat) : Nat :=
  (if tq then 14 else if rate < 2 then 12 else 10) + (if fec = 0 then 0 else if tq then 20 else if fec = 1 then 4 else 20)

/-- The predicted transmit stamp of a frame selected in the present tick (R261, R262). -/
def State.txStamp (s : State) (r : Raw) (b : Nat) : Stamp :=
  s.stampOf r.lane true (s.palValue (96 + r.lane) (s.lane r.lane).rate).2 (s.coarse false r) (s.clk.tick + b) (s.subTick false r)

/-- A flag of a stamp on a time base. -/
def Stamp.uncal (x : Stamp) : Bool := bit (wd x.tags 0) 4
def Stamp.isCoarse (x : Stamp) : Bool := bit (wd x.tags 0) 3
def Stamp.lane (x : Stamp) : Nat := fld (wd x.tags 0) 31 25

/-- A predicted transmit stamp once its tick has come: its record's tag is that tick's (R258), and so are the times of a frame that is not marked
(R252); a marked frame's stay as they were written (R262). -/
def State.restamp (s : State) (marked : Bool) (x : Stamp) : Stamp :=
  let y := s.stampOf x.lane true x.uncal x.isCoarse x.tick x.sub
  if marked then { y with times := x.times } else y

/-- A stamp's time on a time base in FRACTION units (2^-18 ns). -/
def Stamp.frac (x : Stamp) (n : Nat) : Int := ((x.times.getD n 0 / fracU : Nat) : Int)

/-- A Palette step on an item's interpolator or input delay runs (R425). -/
def State.stepOn (s : State) (item : Nat) : Bool := s.pal.steps.any (fun c => decide (c.item = item))

/-- What the part captures of an edge `ago` ticks before the present one, at a fine value in 1/8 ps (R413, R425, R427). -/
def State.capture (s : State) (item : Nat) (eighths : Bool) (ago f8 : Nat) : Cap :=
  let pv := s.palValue item 0
  let coarse := s.stepOn item
  let f := min 6399 f8
  { tick := s.clk.tick - ago, f := if coarse then 3200 else if eighths then f else f / 8 * 8, d := 8 * pv.1, coarse := coarse, uncal := pv.2 }

/-- 1/8 ps in units of 2^-64 ns. -/
def eighthU (x : Int) : Int := roundDiv (x * (nsU : Nat)) 8000

/-- The stamp record of four words on a time base (R258). -/
def Stamp.record (x : Stamp) (n : Nat) : List Word := timeWords (x.times.getD n 0) ++ [wd x.tags n]

/-! ### Steps, sets and slews (R245-R248) -/

/-- The value a step by an offset leaves (R245). -/
def stepTo (v : Nat) (off : Int) : Nat := min tMax ((v : Int) + off).toNat

/-- A step or set as it acts on the time base (R245). -/
def TBase.setTo (v : Nat) (t : TBase) : TBase := { t with val := v, unset := false, stepCount := (t.stepCount + 1) % 65536 }

/-- A servo, as a State accessor. -/
def servoReset (_ : Nat) : Servo := {}
def State.servo (s : State) (n : Nat) : Servo := Tab.get servoReset s.ptp.servos n
def State.setServo (s : State) (n : Nat) (v : Servo) : State := { s with ptp := { s.ptp with servos := Tab.put servoReset s.ptp.servos n v } }

/-- A commanded set or step restarts the servo's acquisition and permits a step on its next sample (R297). -/
def Servo.stepped (v : Servo) : Servo :=
  let v := { v with stepOk := true }
  match v.st with
  | .locked => { v with st := .acquire, good := 0, bad := 0 }
  | .acquire => { v with good := 0, bad := 0 }
  | _ => v

/-- The reply of a slew that ends (R277): the unapplied part in units of 2^-18 ns. -/
def slewReply (tb : Nat) (off : Int) (max_ : Nat) (rem : Int) : List Word :=
  let r := roundDiv rem fracU
  [w32 tb, i32 (off / 2 ^ 32), i32 off, w32 max_, i32 (r / 2 ^ 32), i32 r]

/-- A running commanded slew ends, with what it has not applied in its reply (R247). -/
def State.endSlew (s : State) (n : Nat) : State :=
  match (s.tb n).slew with
  | none => s
  | some x =>
    let s := s.modTb n (fun t => { t with slew := none })
    s.completeWhere (fun w => match w with
      | .slew tb off m => if tb = n then some (okRpl (slewReply tb off m x.rem)) else none
      | _ => none)

/-- A commanded set or step applies (R245, R297). -/
def State.commandTime (s : State) (n v : Nat) : State :=
  let s := (s.modTb n (TBase.setTo v)).endSlew n
  s.setServo n (s.servo n).stepped

/-- A LATE record (R246, R538, R661). -/
def State.logLate (s : State) (pl : Plane) (c : Ctx) (source : Nat) : State :=
  s.log pl 0x0107 source (pack [(0, c.op), (16, c.tag)]) 0 0

/-! ### Commands -/

/-- The time base a command names. -/
def tbArg (w : Word) : Nat := fld w 2 0

/-- The time value in three words from an index (R239). -/
def timeArg (ws : List Word) (i : Nat) : Nat := timeOfWords (wd ws i) (wd ws (i + 1)) (wd ws (i + 2))

/-- A signed 64-bit value in two words from an index, the high word first. -/
def s64Arg (ws : List Word) (i : Nat) : Int := signed 64 ((wd ws i).toNat * 2 ^ 32 + (wd ws (i + 1)).toNat)

/-- TIME.GET (R273). -/
def bodyTimeGet : Body := fun c ws s =>
  let all := bit (wd ws 0) 8
  let tbs := if all then List.range 8 else [tbArg (wd ws 0)]
  let one := fun (n : Nat) =>
    let t := s.tb n
    timeWords t.val ++ [pack [(0, n), (3, t.unset.toNat), (4, t.slew.isSome.toNat), (5, t.holdover.toNat),
      (6, s.inIsland.toNat), (7, t.rateClamp.toNat), (16, t.stepCount)]]
  s.ok c ([w32 (s.clk.tick / 2 ^ 32), w32 s.clk.tick] ++ tbs.flatMap one)

/-- The reply words of TIME.SET (R274). -/
def timeSetWords (n : Nat) (at_ : Bool) (v old : Nat) : List Word := pack [(0, n), (8, at_.toNat)] :: (timeWords v ++ timeWords old)

/-- A set applies and replies (R245, R274). -/
def State.applySet (s : State) (c : Ctx) (n : Nat) (at_ : Bool) (v : Nat) : State :=
  let old := (s.tb n).val
  (s.commandTime n v).ok c (timeSetWords n at_ v old)

/-- TIME.SET (R274): at once, LATE, or scheduled (R246). -/
def bodyTimeSet : Body := fun c ws s =>
  let n := tbArg (wd ws 0)
  let v := timeArg ws 1
  let at_ := timeArg ws 4
  if bit (wd ws 0) 8 = false then s.applySet c n false v
  else if at_ ≤ (s.tb n).val then
    (s.logLate .timing c (srcOf 4 n)).complete c { status := stLate, detail := 0, words := timeSetWords n true v (s.tb n).val }
  else s.hold c (.timeSet n v at_)

/-- TIME.ADJ_RATE (R275). -/
def bodyAdjRate : Body := fun c ws s =>
  let w := bit (wd ws 0) 31
  let n := tbArg (wd ws 0)
  let r := clampZ (-500000000000) 500000000000 (s64Arg ws 1)
  let s := if w then s.modTb n (fun t => { t with rateCmd := r }) else s
  let t := s.tb n
  s.ok c [pack [(31, w.toNat), (0, n)], i32 (t.rateCmd / 2 ^ 32), i32 t.rateCmd, i32 (t.rateTotal / 2 ^ 32), i32 t.rateTotal]

/-- The reply words of TIME.STEP (R276). -/
def timeStepWords (n : Nat) (at_ : Bool) (off : Int) (t : Nat) : List Word :=
  pack [(0, n), (8, at_.toNat)] :: i32 (off / 2 ^ 32) :: i32 off :: timeWords t

/-- A step applies and replies with the effective offset, rounded to a FRACTION unit (R245, R276). -/
def State.applyStep (s : State) (c : Ctx) (n : Nat) (at_ : Bool) (off : Int) (t : Nat) : State :=
  let old := (s.tb n).val
  let v := stepTo old (off * (fracU : Nat))
  (s.commandTime n v).ok c (timeStepWords n at_ (roundDiv ((v : Int) - old) fracU) t)

/-- TIME.STEP (R276). -/
def bodyTimeStep : Body := fun c ws s =>
  let n := tbArg (wd ws 0)
  let off := s64Arg ws 1
  let at_ := timeArg ws 3
  if bit (wd ws 0) 8 = false then s.applyStep c n false off at_
  else if at_ ≤ (s.tb n).val then
    (s.logLate .timing c (srcOf 4 n)).complete c { status := stLate, detail := 0, words := timeStepWords n true off at_ }
  else s.hold c (.timeStep n off at_)

/-- TIME.SLEW (R247, R277): it ends a running slew; one of no offset completes at once. -/
def bodyTimeSlew : Body := fun c ws s =>
  let n := tbArg (wd ws 0)
  let off := s64Arg ws 1
  let m := clamp 1000 500000000 (wd ws 3).toNat
  let s := s.endSlew n
  if off = 0 then s.ok c (slewReply n 0 m 0)
  else (s.modTb n (fun t => { t with slew := some { rem := off * (fracU : Nat), max := m } })).hold c (.slew n off m)

/-- TIME.EPOCH (R278). -/
def bodyTimeEpoch : Body := fun c ws s =>
  let n := tbArg (wd ws 0)
  let t := s.tb n
  let isl := s.inIsland
  s.ok c [pack [(0, n), (8, isl.toNat), (9, t.holdover.toNat), (16, s.hier.epoch)], w32 (min 0xFFFFFFFF (s.holdSecs t)),
    if isl then w32 (min 0xFFFFFFFF ((s.clk.tick - s.hier.islandSince) / ticksPerSec)) else 0, w32 t.stepCount]

/-! ### Steps -/

/-- SLEW_COMPLETE (R247): a slew whose last tick has added the remainder is over, and replies. -/
def slewComplete (n : Nat) (s : State) : State :=
  match (s.tb n).slew with
  | none => s
  | some x => if x.rem = 0 then s.endSlew n else s

/-- One tick of a time base; a slew that the tick before completed is over (R241, R242, R247). -/
def State.tickTb (s : State) (n : Nat) : State :=
  let t := s.tb n
  let t' := t.advance s.clk.tick
  let done := fun (t : TBase) => match t.slew with | some x => decide (x.rem = 0) | none => false
  let s := s.setTb n (if done t' = true ∧ done t = false then t'.since t (s.clk.tick - 1) s.clk.tick else t')
  if done t then s.endSlew n else s

end Sys2Proof.Machine
end

