-- ==== Sys2Proof/Machine/Ref.lean ====
section
/-! DEFINITION. Reference selection and the TB0 loop (chapter 10) with the steering of CK_ROOT (R41): qualification, selection, arbitration, the
state machine, bandwidths, holdover. The REF commands stand in Machine/RefCommands.lean. -/

namespace Sys2Proof.Machine

open Sys2Proof

/-! ### Accessors -/

/-- No reference (R352). -/
def noRef : Nat := 0xFFF

def refCfgReset (k : Nat) : RefCfg := if k < 8 then {} else { ssm := 0, essm := 0, freqHz := 0 }
def refRankReset (k : Nat) : RefRank := if 0x400 ≤ k then { rank := 10 } else {}
def refRunReset (_ : Nat) : RefRun := {}

namespace State

def refCfg (s : State) (k : Nat) : RefCfg := Tab.get refCfgReset s.refs.cfg k
def refRank (s : State) (k : Nat) : RefRank := Tab.get refRankReset s.refs.ranks k
def refRun (s : State) (k : Nat) : RefRun := Tab.get refRunReset s.refs.runs k
def setRefRun (s : State) (k : Nat) (r : RefRun) : State := { s with refs := { s.refs with runs := Tab.put refRunReset s.refs.runs k r } }
def modRefRun (s : State) (k : Nat) (f : RefRun → RefRun) : State := s.setRefRun k (f (s.refRun k))

/-- A session, if it exists. -/
def session? (s : State) (sid : Nat) : Option Session := Tab.find? s.ptp.sessions sid

/-- The session of a packet reference, while it is a session of clock instance 0 in SLAVE (R352). -/
def packetRef (s : State) (k : Nat) : Option Session :=
  if k < 0x400 then none
  else (s.session? (k - 0x400)).filter (fun x => decide (x.cfg.tb = 0 ∧ x.cfg.role < 3 ∧ x.run.st = .slave))

/-- The reference carries time (R352). -/
def carriesTime (s : State) (k : Nat) : Bool := if k < 8 then (s.refCfg k).pps else decide (0x400 ≤ k ∧ k < 0x800)

/-- f_cmp in mHz (R352). -/
def fCmp (s : State) (k : Nat) : Nat :=
  if k < 8 then
    let c := s.refCfg k
    if c.pps then 1000 else 1000 * c.freqHz / ceilDiv (max 1 c.freqHz) 1000000
  else if k < 16 then 1000000000
  else match s.session? (k - 0x400) with
    | none => 1000
    | some x => if x.cfg.logSync < 0 then 1000 * 2 ^ (-x.cfg.logSync).toNat else 1000 / 2 ^ x.cfg.logSync.toNat

/-- Acquisition and tracking bandwidth in mHz (R370). -/
def acqBw (s : State) : Nat := min 400000 (s.fCmp s.refs.sel / 20)
def trackBwNow (s : State) : Nat := min s.refs.trackBw (s.fCmp s.refs.sel / 20)

/-- The loop takes a bandwidth in units of 2^-16 mHz, and a dwell begins (R370). -/
def setBw (s : State) (b : Nat) : State := { s with refs := { s.refs with bwNow := b, bwWait := none, dwellSince := s.clk.tick } }
def setAcqBw (s : State) : State := s.setBw (s.acqBw * 65536)
def setTrackBw (s : State) : State := s.setBw (s.trackBwNow * 65536)

/-! ### Steering (R41, R49) -/

/-- The limit of the steering, 100 ppm, in units of 2^-48. -/
def steerLimit : Int := 28147497671

/-- The steering is to move to a value (R41). -/
def steerTowards (s : State) (x : Int) : State :=
  let y := clampZ (-28147497671) 28147497671 x
  { s with clk := { s.clk with steerTo := y } }

/-- The steering is held where it is. -/
def holdSteering (s : State) : State := { s with clk := { s.clk with steerTo := s.clk.steer } }

/-- ROOT_SLEW: the 1 ppm per ms limit governs the steering. -/
def rootSlew (s : State) : Bool := decide (s.clk.steer ≠ s.clk.steerTo)

/-- One tick of the steering: 1 ppm per ms is 225 units of 2^-48 a tick; ROOT_CLAMP holds while the steering is at +-100 ppm (R41, R48). -/
def tickSteer (s : State) : State :=
  let x := s.clk.steer + clampZ (-225) 225 (s.clk.steerTo - s.clk.steer)
  { s with clk := { s.clk with steer := x, rootClamp := decide (x.natAbs = 28147497671) } }

/-- ROOT_OFFSET in units of 10^-12 (R49). -/
def rootOffset (s : State) : Int := roundDiv (s.clk.steer * 10 ^ 12) (2 ^ 48)

/-- A frequency in units of 10^-12 as a steering. -/
def steerOf (f : Int) : Int := roundDiv (f * 2 ^ 48) (10 ^ 12)

/-! ### Qualification (R356-R359) -/

/-- The parent port whose packet references an island disqualifies (R339). -/
def islandPort (s : State) : Nat := if s.hcfg.parentPort = 0x7F then s.hier.replyPort else s.hcfg.parentPort

/-- ISLAND_HOLD (R339, R358). -/
def islandHold (s : State) (k : Nat) : Bool :=
  decide (s.hier.st = .island) &&
    (match s.packetRef k with | some x => decide (x.cfg.port = s.islandPort) | none => false)

/-- A candidate (R359). -/
def candidate (s : State) (k : Nat) : Bool :=
  let r := s.refRun k
  let n := (s.refRank k).rank
  decide (r.q = .qualified) && !(s.islandHold k) && r.outvoted.isNone && decide (1 ≤ n ∧ n ≤ 14)

/-- A reference in WTR that the rescue rule counts as a candidate (R360). -/
def rescue (s : State) (k : Nat) : Bool :=
  let r := s.refRun k
  let n := (s.refRank k).rank
  decide (r.q = .wtr) && !(s.islandHold k) && r.outvoted.isNone && decide (1 ≤ n ∧ n ≤ 14)

/-- Every reference that is not OFF, in REF_ID order. -/
def refIds (s : State) : List Nat := (s.refs.runs.filter (fun e => decide (e.2.q ≠ RefQ.off))).map Prod.fst

/-! ### Arbitration (R363, R364) -/

/-- Two frequencies differ by more than QUAL_LIMIT (0.01 ppb is 10 units of 10^-12). -/
def differ (s : State) (a b : Int) : Bool := decide (10 * s.refs.qualLimit < (a - b).natAbs)

/-- The least of a list by a key, the first on a tie. -/
def leastBy (key : Nat → Nat) : List Nat → Option Nat
  | [] => none
  | x :: t => match leastBy key t with | none => some x | some y => if key y < key x then some y else some x

/-- The prediction p(t) of R375 in units of 10^-15 for a temperature in 1/16 degree C. -/
def prediction15 (s : State) (temp : Int) : Int :=
  let r := s.refs
  let d := temp - r.tH
  let days : Nat := 86400 * ticksPerSec
  r.fH * 1000 + roundDiv (r.c1 * d * 16 + r.c2 * d * d) 256 + roundDiv (r.age * ((s.clk.tick - r.midH : Nat) : Int)) days

/-- p(t) in units of 10^-12. -/
def prediction (s : State) : Int := roundDiv (s.prediction15 s.refs.temp) 1000

/-- Candidates of the best rank that are in dispute. -/
def disputing (s : State) (best : List Nat) : List Nat :=
  best.filter (fun a => best.any (fun b => s.differ (s.refRun a).freqOff (s.refRun b).freqOff))

/-- The arbiter of a dispute: its number and frequency; 0xFFE is the holdover prediction (R363). -/
def arbiterOf (s : State) (disp : List Nat) : Option (Nat × Int) :=
  let others := s.refIds.filter (fun k => (decide ((s.refRun k).q = .qualified) || decide ((s.refRun k).q = .wtr)) && !(disp.contains k))
  match leastBy (fun k => (s.refRank k).rank * 4096 + k) others with
  | some k => some (k, (s.refRun k).freqOff)
  | none => if s.refs.histValid then some (0xFFE, s.prediction) else none

/-! ### The TB0 state machine (R365-R368, R376) -/

def tb0Code : Tb0St → Nat
  | .freeRun => 0
  | .acquire => 1
  | .lockWide => 2
  | .lockNarrow => 3
  | .holdover => 4
  | .switching => 5
  | .fault => 7

/-- TB0's state changes: an MBX_EVT event, a record on entry into FAULT, HOLDOVER and FREE-RUN (R365); TB0's holdover flag follows
(R259), and `RATE_SERVO` is 0 where no phase loop runs (R372). In FAULT nothing is selected (DEDUCED, notes/assumptions/76.md). -/
def setTb0 (s : State) (n : Tb0St) : State :=
  let old := s.refs.st
  if n = old then s
  else
    let s := { s with refs := { s.refs with
      st := n, faultSince := if n = Tb0St.fault then s.clk.tick else s.refs.faultSince
      narrowSince := if n = Tb0St.lockNarrow then s.clk.tick else s.refs.narrowSince
      sel := if n = Tb0St.fault then 0xFFF else s.refs.sel
      switchSince := if n = Tb0St.switching then s.clk.tick else s.refs.switchSince
      switchSeen := if n = Tb0St.switching then 0 else s.refs.switchSeen } }
    let s := s.modTb 0 (fun t => { t with
      holdover := decide (n = Tb0St.holdover), holdSince := if n = Tb0St.holdover then s.clk.tick else t.holdSince,
      rateServo := if n = Tb0St.holdover ∨ n = Tb0St.freeRun ∨ n = Tb0St.switching ∨ n = Tb0St.fault then 0 else t.rateServo })
    let s := s.queueEvent .timing none
    if n = Tb0St.fault ∨ n = Tb0St.holdover ∨ n = Tb0St.freeRun then
      s.logSev .timing (if n = Tb0St.fault then 3 else 2) 0x0601 (srcOf 4 0) (pack [(0, tb0Code n), (4, tb0Code old)]) 0
    else s

/-- HOLDOVER when the history is valid, FREE-RUN otherwise. -/
def loseReference (s : State) : State :=
  let s := { s with refs := { s.refs with sel := noRef } }
  if s.refs.histValid then s.setTb0 .holdover else s.holdSteering.setTb0 .freeRun

/-- A selection is taken (R365): none, another reference, or the same. -/
def takeSelection (s : State) (n : Nat) : State :=
  let old := s.refs.sel
  let s := if n = noRef ∨ n = old then s else s.modRefRun n (fun r => { r with selCount := inc16 r.selCount })
  match s.refs.st with
  | .freeRun =>
    let s := { s with refs := { s.refs with sel := n } }
    if n = noRef then s else s.setAcqBw.setTb0 .acquire
  | .holdover =>
    let s := { s with refs := { s.refs with sel := n, fromHoldover := true } }
    if n = noRef then s else s.setTb0 .switching
  | .acquire =>
    if n = noRef then s.loseReference
    else if n = old then s
    else ({ s with refs := { s.refs with sel := n } }).setAcqBw
  | .lockWide | .lockNarrow =>
    if n = noRef then s.loseReference
    else if n = old then s
    else (({ s with refs := { s.refs with sel := n, fromHoldover := false } }).holdSteering).setTb0 .switching
  | .switching | .fault => s

/-- The automatic selection among candidates once any dispute is settled (R360). -/
def chooseAuto (s : State) (cands : List Nat) : Nat :=
  let rank := fun k => (s.refRank k).rank
  match leastBy rank cands with
  | none => noRef
  | some b =>
    let cur := s.refs.sel
    if cands.contains cur then
      if rank cur = rank b then cur else if s.refs.revertive then b else cur
    else b

/-- Candidates at an evaluation, the rescue rule included: what it has selected stays selected while its WTR runs and no other reference is a
candidate (R360). -/
def candidates (s : State) : List Nat :=
  let c := s.refIds.filter s.candidate
  if c ≠ [] then c
  else if s.refs.st = .freeRun ∨ s.refs.st = .holdover then s.refIds.filter s.rescue
  else if s.refs.rescued then (s.refIds.filter s.rescue).filter (fun k => decide (k = s.refs.sel))
  else []

/-- OUTVOTED references that have come within QUAL_LIMIT of their winner are so no longer (R363). -/
def unvote (s : State) : State :=
  { s with refs := { s.refs with runs := s.refs.runs.map (fun (e : Nat × RefRun) =>
      match e.2.outvoted with
      | some w => if s.differ e.2.freqOff (s.refRun w).freqOff then e else (e.1, { e.2 with outvoted := none })
      | none => e) } }

/-- The selection in MODE 0 (R360, R363, R364). -/
def selectAuto (s : State) : State :=
  let cands := s.candidates
  let s : State := { s with refs := { s.refs with rescued := cands.any s.rescue } }
  let rank := fun k => (s.refRank k).rank
  let best := match leastBy rank cands with | none => [] | some b => cands.filter (fun k => decide (rank k = rank b))
  let disp := s.disputing best
  if disp = [] then ({ s with refs := { s.refs with disputed := false } }).takeSelection (s.chooseAuto cands)
  else
    match s.arbiterOf disp with
    | none =>
      let s := { s with refs := { s.refs with disagree := true, arbiter := noRef } }
      if s.refs.disputed then s
      else
        let s := { s with refs := { s.refs with disputed := true } }
        (s.log .timing 0x0602 (srcOf 4 0) (pack [(0, disp.getD 0 0), (16, disp.getD 1 0)]) 0 0).queueEvent .timing none
    | some (a, f) =>
      let s := { s with refs := { s.refs with arbiter := a, disputed := false } }
      match leastBy (fun k => ((s.refRun k).freqOff - f).natAbs * 4096 + k) disp with
      | none => s
      | some w =>
        let wf := (s.refRun w).freqOff
        let losers := disp.filter (fun k => decide (k ≠ w) && s.differ (s.refRun k).freqOff wf)
        let s := losers.foldl (fun s k => s.modRefRun k (fun r => { r with outvoted := some w })) s
        let cands := cands.filter (fun k => !(losers.contains k))
        -- the winner stands for the best rank, unless the current selection is still one of them
        let cur := s.refs.sel
        if cands.contains cur = true ∧ (rank cur = rank w ∨ s.refs.revertive = false) then s.takeSelection cur
        else s.takeSelection w

/-- The 1 ms evaluation (R361, R362). -/
def evaluate (s : State) : State :=
  if s.refs.st = .switching ∨ s.refs.st = .fault then s
  else if s.refs.mode = 0 then s.selectAuto
  else
    let s : State := { s with refs := { s.refs with rescued := false } }
    if s.refs.mode = 1 then
      let k := s.refs.forceRef
      let q := (s.refRun k).q
      s.takeSelection (if (q = .qualified ∨ q = .wtr) ∧ s.islandHold k = false then k else noRef)
    else s.takeSelection noRef

/-- The evaluation of a tick: made where TICK is a multiple of 1,250,000, once (R361). -/
def evaluateTick (s : State) : State :=
  if s.clk.tick % 1250000 ≠ 0 ∨ s.refs.evalTick = some s.clk.tick then s
  else ({ s with refs := { s.refs with evalTick := some s.clk.tick } }).unvote.evaluate

/-- The target of a switch that can serve no longer ends it (R365). -/
def checkTarget (s : State) : State :=
  if s.refs.st = .switching then
    let k := s.refs.sel
    let q := (s.refRun k).q
    if (q = .qualified ∨ q = .wtr) ∧ s.islandHold k = false then s else s.loseReference
  else s

/-! ### The phase loop (R340, R372) -/

/-- The phase source: 0xFFF for none (R372). -/
def phaseRef (s : State) : Nat :=
  let sel := s.refs.sel
  if sel ≠ noRef ∧ s.carriesTime sel = true then sel
  else
    let l := s.refIds.filter (fun k => s.carriesTime k && decide ((s.refRun k).q = .qualified) && !(s.islandHold k)
      && (s.refRun k).outvoted.isNone)
    (leastBy (fun k => (s.refRank k).rank * 4096 + k) l).getD noRef

/-- States in which the phase loop acts (R372). -/
def phaseActs (s : State) : Bool := decide (s.refs.st = .acquire) || decide (s.refs.st = .lockWide) || decide (s.refs.st = .lockNarrow)

/-- An offset of TB0 from its phase source, in units of 2^-18 ns, reaches the phase loop (R372): a permitted step, or a rate. The loop's
filter is not given, so the rate it writes is a free value within its clamp. -/
def phaseSample (s : State) (theta : Int) : State :=
  if s.phaseActs = false then s
  else
    let t := s.tb 0
    let v := s.servo 0
    let permitted := (t.unset || v.stepOk) && decide (s.hier.st ≠ .rejoining)
    let s := s.setServo 0 { v with stepOk := false }
    if permitted = true ∧ s.refs.stepThresh ≠ 0 ∧ s.refs.stepThresh * 262144 < theta.natAbs then
      s.modTb 0 (fun t => t.setTo (stepTo t.val (-theta * (fracU : Nat))))
    else
      let lim : Nat := 1000000 * (if s.hier.st = .rejoining then min s.refs.phaseSlew s.hcfg.rejoinSlew else s.refs.phaseSlew)
      let (x, s) := s.drawInt
      s.modTb 0 (fun t => { t with rateServo := clampZ (-(lim : Int)) lim x })

/-! ### Comparisons and measurements (R353, R355, R367, R371) -/

/-- A comparison of the loop with the selected reference: a higher TRACK_BW that waits applies (R371). -/
def comparison (s : State) (k : Nat) : State :=
  if k = s.refs.sel ∧ s.refs.bwWait.isSome then s.setBw (max s.refs.bwNow (s.trackBwNow * 65536)) else s

/-- One tick of the comparisons with a frequency: one falls in every 1 / f_cmp (R352, R371). -/
def tickComparison (s : State) : State :=
  match s.refs.bwWait with
  | none => s
  | some t =>
    if s.carriesTime s.refs.sel = false ∧ 1000 * ticksPerSec ≤ (s.clk.tick - t) * s.fCmp s.refs.sel then s.comparison s.refs.sel else s

/-- The least-squares slope of samples of TICK and theta, the newest first, in units of 10^-12 (R355; the fit is a DEDUCED reading of its 'slope',
notes/assumptions/77.md). -/
def slopeOf (l : List (Nat × Int)) : Int :=
  let t0 := (l.head?.map Prod.fst).getD 0
  let p := l.map (fun x => ((x.1 : Int) - t0, x.2))
  let n : Int := l.length
  let st := (p.map Prod.fst).sum
  let num := n * (p.map (fun x => x.1 * x.2)).sum - st * (p.map Prod.snd).sum
  let den := n * (p.map (fun x => x.1 * x.1)).sum - st * st
  if den ≤ 0 then 0 else roundDiv (num * 5 * 10 ^ 12) (4 * 2 ^ 18 * den.toNat)

/-- FREQ_OFF of a packet reference: the slope of its offset samples, added to ROOT_OFFSET (R355). -/
def packetFreq (s : State) (l : List (Nat × Int)) : Int := slopeOf l + s.rootOffset

/-- An edge or sample of a reference that carries time has reached the loop: it counts in a switch's window, and is a comparison (R367, R371). -/
def refSeen (s : State) (k : Nat) : State :=
  let s := if s.refs.st = .switching ∧ s.refs.sel = k then { s with refs := { s.refs with switchSeen := s.refs.switchSeen + 1 } } else s
  s.comparison k

/-- An offset of TB0 from a reference that carries time, in ps: PHASE_OFF, which the witness takes too (R381, R471). -/
def notePhase (s : State) (k : Nat) (ps : Int) : State :=
  (s.witnessSample 2 k ps).modRefRun k (fun r => { r with phaseOff := clampZ (-(2 ^ 31)) (2 ^ 31 - 1) ps })

/-- An accepted offset sample of a packet reference (R355, R366, R367). -/
def packetSample (s : State) (k : Nat) (theta : Int) : State :=
  let s := s.modRefRun k (fun r => { r with
    samples := (s.clk.tick, theta) :: r.samples.filter (fun x => decide (s.clk.tick ≤ x.1 + 16 * ticksPerSec)) })
  let s := s.modRefRun k (fun r => { r with freqOff := clampZ (-(2 ^ 31)) (2 ^ 31 - 1) (s.packetFreq r.samples) })
  (s.notePhase k (fracPs theta)).refSeen k

/-- The time of a PPS edge on TB0, as the distance from its nearest second in units of 2^-64 ns: its converter stamp minus the calibrated input
delay and CABLE_DELAY (R353). -/
def ppsOffset (s : State) (k ago f8 : Nat) : Int :=
  let c := s.capture (237 + k) false ago f8
  let t : Int := (s.tb 0).stampAt s.clk.tick c.tick (eighthU (c.f - c.d) - psU (s.refCfg k).cable)
  let r := t % (secU : Nat)
  if 2 * r ≤ (secU : Nat) then r else r - (secU : Nat)

/-! ### Steps -/

/-- A reference check fails (R357). -/
def refFail (s : State) (k cause : Nat) : State :=
  let r := s.refRun k
  if r.q = .qualifying ∨ r.q = .wtr ∨ r.q = .qualified then
    ((s.setRefRun k { r with q := .disqualified, cause := cause, everDisq := true, disqCount := inc16 r.disqCount }).queueEvent
      .timing none).checkTarget
  else s

/-- |FREQ_OFF| exceeds PULL_RANGE (R356). -/
def outOfPull (s : State) (k : Nat) : Bool := decide (1000 * s.refs.pullRange < (s.refRun k).freqOff.natAbs)

/-- The frequency check of every reference (R356, R357). -/
def checkPull (s : State) : State := s.refIds.foldl (fun (s : State) k => if s.outOfPull k then s.refFail k 2 else s) s

/-- A reference goes OFF (R357). -/
def refOff (s : State) (k : Nat) : State :=
  (s.modRefRun k (fun r => { r with q := .off, everDisq := false, outvoted := none, samples := [] })).checkTarget

/-- A reference leaves OFF; CAUSE keeps its last disqualification (R357, R381). -/
def refOn (s : State) (k : Nat) : State :=
  s.modRefRun k (fun r => if r.q = .off then { r with q := .disqualified, everDisq := false } else r)

/-- A PPS edge has been measured (R353): PHASE_OFF, and the phase loop when it is the phase source (R372). -/
def ppsEdge (s : State) (k ago f8 : Nat) : State :=
  let x := s.ppsOffset k ago f8
  let s := (s.notePhase k (roundDiv (x * 1000) nsU)).refSeen k
  if s.phaseRef = k then s.phaseSample (roundDiv x fracU) else s

/-- What has been measured of a reference (R353, R355). -/
def measured (s : State) (m : RefMeas) : State :=
  if (s.refRun m.ref).q = .off ∨ 0x400 ≤ m.ref then s
  else
    let s := s.modRefRun m.ref (fun r => { r with freqOff := clampZ (-(2 ^ 31)) (2 ^ 31 - 1) m.freq })
    match m.edge with
    | some e => if (s.refCfg m.ref).pps = true ∧ m.ref < 8 then s.ppsEdge m.ref e.1 e.2 else s
    | none => s

end State

/-- XO_IN has stopped (R45, R365). -/
def xoLossStep (s : State) : State :=
  let s := { s with clk := { s.clk with xoLoss := true, xoPresent := false, rootLock := false }, alarms := { s.alarms with xo := true } }
  (s.holdSteering.setTb0 .fault).log .mgmt 0x0105 0 0 0 0

/-- The root locks to XO_IN again, which has been present for `ago` ticks, 10 ms at the least (R45): TB0 leaves FAULT, by how long XO_IN was gone
and whether the history is valid (R365). -/
def rootRelock (ago : Nat) (s : State) : State :=
  if ago < 12500000 then s
  else
    let s := { s with clk := { s.clk with xoPresent := true, rootLock := true }, alarms := { s.alarms with xo := false } }
    if s.refs.st ≠ .fault ∨ s.tpUp = false then s
    else if s.refs.histValid = true ∧ s.clk.tick ≤ s.refs.faultSince + ticksPerSec + ago then s.setTb0 .holdover
    else ({ s with refs := { s.refs with histValid := false } }).setTb0 .freeRun

/-- CLK_STATUS_W1C (R48). -/
def clkStatusW1c (mask : Word) (s : State) : State :=
  if bit mask 29 then { s with clk := { s.clk with xoLoss := false } } else s

/-- REF_STATE_W1C (R369). -/
def refStateW1c (mask : Word) (s : State) : State :=
  if bit mask 31 then { s with refs := { s.refs with disagree := false } } else s

/-- REF_SELECTION_EVAL: what has been measured, the ROOT_OFFSET the loop has come to, which the steering follows while the loop is closed (R41,
R355), the frequency checks, and the evaluation, when the tick has one (R361). -/
def selectionEval (off : Int) (meas : List RefMeas) (s : State) : State :=
  if s.tpUp = false then s
  else
    let s := (meas.foldl State.measured s).checkPull
    let s := if s.phaseActs then s.steerTowards (State.steerOf off) else s
    s.evaluateTick

/-- REF_CHECKS_PASS (R357): not of a lane or session the state shows to be unusable. -/
def refChecksPass (k : Nat) (ok : State → Nat → Bool) (s : State) : State :=
  let r := s.refRun k
  if r.q = .disqualified ∧ ok s k = true then s.setRefRun k { r with q := .qualifying, since := s.clk.tick } else s

/-- A timer of a number of seconds has run out; one of 0 s runs out in the next tick (R357). -/
def State.refTimeOver (s : State) (k secs : Nat) : Bool :=
  decide ((s.refRun k).since < s.clk.tick ∧ (s.refRun k).since + secs * ticksPerSec ≤ s.clk.tick)

/-- REF_QUAL_TIME_EXPIRY (R357). -/
def refQualExpiry (k : Nat) (s : State) : State :=
  let r := s.refRun k
  if r.q = .qualifying ∧ s.refTimeOver k (s.refRank k).qualTime = true then
    s.setRefRun k { r with q := if r.everDisq then .wtr else .qualified, since := s.clk.tick }
  else s

/-- REF_WTR_EXPIRY (R357). -/
def refWtrExpiry (k : Nat) (s : State) : State :=
  let r := s.refRun k
  if r.q = .wtr ∧ s.refTimeOver k (s.refRank k).wtrTime = true then s.setRefRun k { r with q := .qualified } else s

/-- The measurement window of a switch is over: 10 ms, two PPS edges, or four accepted samples (R367). -/
def State.switchMeasured (s : State) : Bool :=
  let k := s.refs.sel
  if 0x400 ≤ k then decide (4 ≤ s.refs.switchSeen)
  else if s.carriesTime k then decide (2 ≤ s.refs.switchSeen)
  else decide (s.refs.switchSince + 12500000 ≤ s.clk.tick)

/-- SWITCH_MEASUREMENT_COMPLETE (R365, R367): the target's measured frequency in units of 10^-12; a packet reference's is that of its samples. -/
def switchComplete (f : Int) (s : State) : State :=
  if s.refs.st ≠ .switching ∨ s.switchMeasured = false then s
  else
    let f := if 0x400 ≤ s.refs.sel then s.packetFreq ((s.refRun s.refs.sel).samples.take 4) else f
    let base := roundDiv (s.clk.steerTo * 10 ^ 12) (2 ^ 48)
    let s := s.steerTowards (State.steerOf f)
    if (f - base).natAbs ≤ 100000 then s.setTrackBw.setTb0 .lockNarrow else s.setAcqBw.setTb0 .acquire

/-- The frequency error, in units of 10^-12, of 16 consecutive comparison periods, the latest of those given (R366). -/
def sixteen (test : Int → Bool) (errs : List Int) : Bool := decide (16 ≤ errs.length) && (errs.take 16).all test

/-- LOOP_LOCK_DETECTED (R365, R366): the ROOT_OFFSET the loop has come to, and the frequency errors, the newest first. -/
def lockDetected (off : Int) (errs : List Int) (s : State) : State :=
  if s.refs.st ≠ .acquire ∨ sixteen (fun e => decide (e.natAbs ≤ 100000)) errs = false then s
  else
    let s := s.steerTowards (State.steerOf off)
    if s.trackBwNow < s.acqBw then s.setAcqBw.setTb0 .lockWide else s.setTrackBw.setTb0 .lockNarrow

/-- LOOP_LOCK_LOST (R365, R366). -/
def lockLost (errs : List Int) (s : State) : State :=
  if (s.refs.st = .lockWide ∨ s.refs.st = .lockNarrow) ∧ sixteen (fun e => decide (1000000 < e.natAbs)) errs = true then
    s.setAcqBw.setTb0 .acquire
  else s

/-- BANDWIDTH_NARROW_STEP (R370): the ROOT_OFFSET the loop has come to, and the largest frequency error of the dwell in units of 10^-12. One outside
the band restarts the dwell; a dwell of 2 / bandwidth within it narrows the loop. -/
def narrowStep (off : Int) (worst : Nat) (s : State) : State :=
  if s.refs.st ≠ .lockWide then s
  else if 100000 < worst then { s with refs := { s.refs with dwellSince := s.clk.tick } }
  else if (s.clk.tick - s.refs.dwellSince) * s.refs.bwNow < 2 * 65536 * 1000 * ticksPerSec then s
  else
    let s := s.steerTowards (State.steerOf off)
    let b := max (s.trackBwNow * 65536) (s.refs.bwNow / 4)
    let s := s.setBw b
    if b ≤ s.trackBwNow * 65536 then s.setTb0 .lockNarrow else s

/-- HIST_VALID_SET (R374): F_H and T_H as measured over the span, once LOCK-NARROW has held for HIST_WIN + HIST_GUARD. -/
def histValidSet (f t : Int) (s : State) : State :=
  if s.refs.st ≠ .lockNarrow ∨ s.clk.tick < s.refs.narrowSince + (s.refs.histWin + s.refs.histGuard) * ticksPerSec then s
  else
    { s with refs := { s.refs with
        histValid := true, fH := f, tH := t,
        midH := s.clk.tick - (s.refs.histGuard + s.refs.histWin / 2) * ticksPerSec } }

/-- HOLDOVER_PREDICTION_UPDATE (R375): the temperatures of the die sensor and of the external diode, none when it is open or shorted. -/
def predictionUpdate (die : Int) (ext : Option Int) (s : State) : State :=
  let t := if s.refs.tempSel then ext.getD die else die
  let s := { s with refs := { s.refs with temp := t, tempFallback := s.refs.tempSel && ext.isNone } }
  if s.refs.st = .holdover ∨ (s.refs.st = .switching ∧ s.refs.fromHoldover = true) then
    s.steerTowards (roundDiv (s.prediction15 t * 2 ^ 48) (10 ^ 15))
  else s

/-- The determinant of a 3 x 3 matrix given by its rows. -/
def det3 (a b c : Int × Int × Int) : Int :=
  a.1 * (b.2.1 * c.2.2 - b.2.2 * c.2.1) - a.2.1 * (b.1 * c.2.2 - b.2.2 * c.1) + a.2.2 * (b.1 * c.2.1 - b.2.1 * c.1)

/-- A quotient of integers of any sign, rounded to the nearest; 0 for a zero divisor. -/
def divRound (a b : Int) : Int := if b = 0 then 0 else if b < 0 then roundDiv (-a) b.natAbs else roundDiv a b.natAbs

/-- C1 and C2 by least squares of y = a + C1 x + C2 x^2, x in 1/16 degree C and y in 10^-12, in units of 10^-15 per degree and per
degree squared (R375). -/
def fitQuadratic (l : List (Int × Int)) : Int × Int :=
  let m := fun k => (l.map (fun p => p.1 ^ k)).sum
  let v := fun k => (l.map (fun p => p.1 ^ k * p.2)).sum
  let d := det3 (m 0, m 1, m 2) (m 1, m 2, m 3) (m 2, m 3, m 4)
  let d1 := det3 (m 0, v 0, m 2) (m 1, v 1, m 3) (m 2, v 2, m 4)
  let d2 := det3 (m 0, m 1, v 0) (m 1, m 2, v 1) (m 2, m 3, v 2)
  (divRound (d1 * 16000) d, divRound (d2 * 256000) d)

/-- HOLDOVER_FIT_SAMPLE (R375): a 60 s mean of ROOT_OFFSET and temperature. Once the temperatures span 2 degrees C1 and C2 are fitted; how AGE
is fitted once 24 h have accumulated is not stated, so it is a free value. -/
def fitSample (f t : Int) (s : State) : State :=
  if s.refs.st ≠ .lockNarrow ∨ s.refs.learn = false then s
  else
    let l := (f, t, s.clk.tick) :: s.refs.fits
    let ts := l.map (fun x => x.2.1)
    let span := ts.foldl max t - ts.foldl min t
    let cc := if 32 ≤ span then fitQuadratic (l.map (fun x => (x.2.1 - s.refs.tH, x.1))) else (0, 0)
    let s := { s with refs := { s.refs with fits := l, c1 := signed 32 (lowBits 32 cc.1), c2 := signed 32 (lowBits 32 cc.2) } }
    if 1440 ≤ l.length then
      let (a, s) := s.drawInt
      { s with refs := { s.refs with age := signed 32 (lowBits 32 a) } }
    else s

end Sys2Proof.Machine
end

