-- ==== Sys2Proof/Machine/Session.lean ====
section
/-! DEFINITION. Timing sessions (chapter 08): session states, the BMCA, delay mechanisms, servos, and the messages the engine builds and
takes. The SESSION commands and ESMC stand in Machine/SessionCommands.lean. -/

namespace Sys2Proof.Machine

open Sys2Proof

/-! ### Accessors -/

def instReset (_ : Nat) : Inst := {}
def State.inst (s : State) (n : Nat) : Inst := Tab.get instReset s.ptp.insts n
def State.setSession (s : State) (sid : Nat) (x : Session) : State := { s with ptp := { s.ptp with sessions := Tab.insert s.ptp.sessions sid x } }

/-- Change a session's running state. -/
def State.modRun (s : State) (sid : Nat) (f : SesRun → SesRun) : State :=
  match s.session? sid with
  | none => s
  | some x => s.setSession sid { x with run := f x.run }

/-- The sessions of clock instance n (R280). -/
def State.instance_ (s : State) (n : Nat) : List (Nat × Session) :=
  s.ptp.sessions.filter (fun e => decide (e.2.cfg.tb = n ∧ e.2.cfg.role < 3))

/-- A MAC address as a modified EUI-64 without its bit inversion (R280). -/
def eui64 (mac : Nat) : Nat := mac / 2 ^ 24 * 2 ^ 40 + 0xFFFE * 2 ^ 24 + mac % 2 ^ 24

/-- The address the device presents: PAIR_MAC while it is a unit of a pair (R460). -/
def State.idMac (s : State) : Nat := if s.pcfg.en then s.pcfg.mac else s.fused.mgtMac

/-- clockIdentity (R280, R460). -/
def State.clockId (s : State) : Nat := eui64 s.idMac

/-- SYNTONIZED (R299). -/
def State.syntonized (s : State) (x : Session) : Bool :=
  decide (8 ≤ s.refs.sel ∧ s.refs.sel < 16) && (s.refCfg s.refs.sel).enable && (portLanes x.cfg.port).contains (s.refCfg s.refs.sel).lane

/-- The effective asymmetry A in units of 2^-16 ns (R294). -/
def State.asymOf (s : State) (x : Session) : Int :=
  x.cfg.asym + (if x.cfg.closureEn then
    (match Tab.find? s.hier.residuals x.cfg.port with | some r => roundDiv (r.1 * 65536) 1000 | none => 0) else 0)

/-- The filtered path delay in units of 2^-18 ns, when there is a valid one (R292, R296). -/
def Session.delay (x : Session) : Option Int :=
  if x.cfg.delayMech = 2 then some ((x.cfg.fixedDelay : Int) * 1024) else x.run.df.map (fun d => d / 65536)

/-- The terms a marked frame of a session leaves with, as they stand when it is enqueued (R291, R293). -/
def State.termsOf (s : State) (x : Session) : Terms :=
  { tb := x.cfg.tb, ingress := x.cfg.ingress, egress := x.cfg.egress,
    link := if x.cfg.delayMech = 1 then x.delay.getD 0 + 4 * s.asymOf x else 0,
    auth := x.cfg.auth, txKey := x.cfg.txKey, cfExcl := x.cfg.cfExcl }

/-! ### Data set comparison (R290) -/

/-- The instance's own data set (R298). -/
def State.ownSet (s : State) (n : Nat) : DataSet :=
  let i := s.inst n
  let t := s.tb n
  { pri1 := i.pri1, cls := if t.unset then i.unsetClass else if t.holdover then i.holdClass else i.cls, acc := i.acc, var := i.var,
    pri2 := i.pri2, gmId := s.clockId, steps := 0, sender := s.clockId, senderPort := 0, utcOffset := lowBits 16 i.utcOffset,
    timeSource := i.timeSource,
    flags := i.leap61.toNat + 2 * i.leap59.toNat + 4 * i.utcValid.toNat + 8 * i.ptpTimescale.toNat + (if t.holdover then 0 else 16),
    inacc := i.ownInacc, gmShort := s.fused.mgtMac % 65536 }

/-- Lexicographic order of two lists of numbers: is the first less? -/
def lexLt : List Nat → List Nat → Bool
  | a :: s, b :: t => decide (a < b) || (decide (a = b) && lexLt s t)
  | _, _ => false

/-- The standard comparison of two data sets (IEEE 1588-2019, named in R290): 0 the first is better, 1 better by topology, 2 the same, 3 and
4 the second by topology and better. `ra`, `rb` are the receiving ports. -/
def compareSets (own : Nat) (a : DataSet) (ra : Nat) (b : DataSet) (rb : Nat) : Nat :=
  let key := fun (d : DataSet) => [d.pri1, d.cls, d.acc, d.var, d.pri2, d.gmId]
  if a.gmId ≠ b.gmId then (if lexLt (key a) (key b) then 0 else 4)
  else if b.steps + 1 < a.steps then 4
  else if a.steps + 1 < b.steps then 0
  else if b.steps < a.steps then (if own < a.sender then 4 else 3)
  else if a.steps < b.steps then (if own < b.sender then 0 else 1)
  else if a.sender < b.sender then 1
  else if b.sender < a.sender then 3
  else if a.senderPort < b.senderPort then 1
  else if b.senderPort < a.senderPort then 3
  else if ra < rb then 1 else if rb < ra then 3 else 2

/-- Ticks of 2^l seconds (R287). -/
def logTicks (l : Int) : Nat := if l < 0 then ticksPerSec / 2 ^ (-l).toNat else ticksPerSec * 2 ^ l.toNat

/-- Two foreign masters are one. -/
def Foreign.same (f g : Foreign) : Bool := decide (f.ds.sender = g.ds.sender ∧ f.ds.senderPort = g.ds.senderPort)

/-- A foreign master is qualified: two Announce messages within the last four announce intervals (R290); a parent stays so until its receipt
timeout (DEDUCED, notes/assumptions/75.md). -/
def Foreign.qualified (now : Nat) (parent : Option Foreign) (f : Foreign) : Bool :=
  (match parent with | some p => f.same p | none => false)
    || (match f.before with | none => false | some b => decide (now ≤ b + 4 * logTicks f.logAnn))

/-- The best qualified foreign master of a session's port. -/
def State.bestForeign (s : State) (x : Session) : Option Foreign :=
  let port := x.cfg.port + 1
  (x.run.foreigns.filter (Foreign.qualified s.clk.tick x.run.parent)).foldl (fun (best : Option Foreign) f =>
    match best with
    | none => some f
    | some g => if compareSets s.clockId f.ds port g.ds port < 2 then some f else some g) none

/-! ### Servos (R295-R297) -/

/-- The session a servo is to follow (R295). -/
def State.toFollow (s : State) (n : Nat) : Option Nat :=
  let l := (s.instance_ n).filter (fun e => decide (e.2.run.st = .slave))
  match l.find? (fun e => decide (e.2.cfg.role = 2)) with
  | some e => some e.1
  | none => (State.leastBy (fun k => match s.session? k with | some x => x.cfg.srcPref * 1024 + k | none => 0) (l.map Prod.fst))

/-- The mean of a list, rounded. -/
def meanInt (l : List Int) : Int := if l = [] then 0 else roundDiv l.sum l.length

/-- The servo of TB1-TB7 follows the session that now qualifies (R295, R297); on TB0 no session servo acts. -/
def State.updateServo (s : State) (n : Nat) : State :=
  if n = 0 then s
  else
    let v := s.servo n
    let f := s.toFollow n
    if s.instance_ n = [] then
      if v.st = .idle then s
      else (s.setServo n { v with st := .idle, follow := none }).modTb n (fun t => { t with holdover := false })
    else if f = v.follow then s
    else
      match f with
      | some _ =>
        let stepOk := if v.st = .holdover then false else v.stepOk
        (s.setServo n { v with st := .acquire, follow := f, good := 0, bad := 0, stepOk := stepOk, last := none }).modTb n
          (fun t => { t with holdover := false })
      | none =>
        let h := v.hist.take (2 ^ (s.inst n).holdAvg)
        (s.setServo n { v with st := .holdover, follow := none }).modTb n
          (fun t => { t with holdover := true, holdSince := s.clk.tick, rateServo := meanInt h })

/-- FN_EFF in mHz (R296). -/
def fnEff (fn : Nat) (logSync : Int) : Nat :=
  min fn (if logSync < 0 then 50 * 2 ^ (-logSync).toNat else 50 / 2 ^ logSync.toNat)

/-- 4 pi and 4 pi squared, times 10^15 (R296; the law is stated over real numbers, its fixed point is a DESIGN CHOICE). -/
def fourPi : Nat := 12566370614359173
def fourPiSq : Nat := 39478417604357434

/-- One step of the control law (R296): the integrator I and the proportional term -2 zeta omega theta after a sample, from the time since the
last one in ticks. -/
def servoLaw (fn damping : Nat) (integ : Int) (ticks : Nat) (theta : Int) : Int × Int :=
  (integ + roundDiv (theta * (fourPiSq * fn * fn * ticks * 8 : Nat)) (10 ^ 25 * 2 ^ 18),
   -roundDiv (theta * (fourPi * damping * fn : Nat)) (10 ^ 15 * 2 ^ 18))

/-- An accepted sample reaches the servo of TB1-TB7 (R296, R297): a permitted step, or the law, and the lock counts. -/
def State.servoSample (s : State) (n : Nat) (logSync : Int) (theta : Int) : State :=
  let v := s.servo n
  let i := s.inst n
  let t := s.tb n
  let ns := fun (k : Nat) => k * 262144
  let permitted := t.unset || v.stepOk
  if v.st = .idle ∨ v.st = .holdover then s
  else if permitted = true ∧ i.stepThresh ≠ 0 ∧ ns i.stepThresh < theta.natAbs then
    (s.setServo n { v with st := .acquire, stepOk := false, good := 0, bad := 0, last := some s.clk.tick }).modTb n
      (fun t => t.setTo (stepTo t.val (-theta * (fracU : Nat))))
  else
    let tau := match v.last with | some l => s.clk.tick - l | none => 0
    let lim : Int := (i.slewLimit * 1000000 : Nat)
    let r := servoLaw (fnEff i.fn logSync) i.damping v.integ tau theta
    let good := if theta.natAbs ≤ ns i.lockThresh then v.good + 1 else 0
    let bad := if 4 * ns i.lockThresh < theta.natAbs then v.bad + 1 else 0
    let st : ServoSt := if v.st = .acquire ∧ i.lockCount ≤ good then .locked
      else if v.st = .locked ∧ i.lockCount ≤ bad then .acquire else v.st
    let v := { v with
      integ := r.1, prop := r.2, last := some s.clk.tick, stepOk := false, hist := (r.1 :: v.hist).take 4096, st := st,
      good := if st = v.st then good else 0, bad := if st = v.st then bad else 0 }
    (s.setServo n v).modTb n (fun t => { t with rateServo := clampZ (-lim) lim (r.2 - r.1) })

/-! ### The rejoin after an island (R337, R340) -/

/-- An offset sample of TB0 to the parent-side reference while REJOINING: REJOIN_OFFSET at the first, JOINED after 16 within REJOIN_DONE. -/
def State.rejoinSample (s : State) (port : Nat) (theta : Int) : State :=
  if s.hier.st ≠ .rejoining ∨ port ≠ s.islandPort then s
  else
    let s := if s.hier.rejoinMeasured then s
      else { s with hier := { s.hier with
        rejoinMeasured := true, rejoinOffset := clampZ (-(2 ^ 31)) (2 ^ 31 - 1) (roundDiv (theta * 1000) 262144) } }
    let n := if theta.natAbs ≤ s.hcfg.rejoinDone * 262144 then s.hier.rejoinRun + 1 else 0
    let s := { s with hier := { s.hier with rejoinRun := n } }
    if 16 ≤ n then
      ({ s with hier := { s.hier with st := .joined, rejoinRun := 0, epoch := s.hier.parentEpoch } }).log .mgmt 0x0D04 0 (i32 s.hier.rejoinOffset) 0 0
    else s

/-! ### Session states (R291) -/

def sesCode : SesSt → Nat
  | .down => 0
  | .listening => 1
  | .uncalibrated => 2
  | .slave => 3
  | .master => 4
  | .passive => 5
  | .transit => 6

/-- A session changes state: entering SLAVE it is offered to its servo, or to the reference loop on TB0; leaving it, it is taken from them
(R291, R295, R357). -/
def State.sesTo (s : State) (sid : Nat) (n : SesSt) : State :=
  match s.session? sid with
  | none => s
  | some x =>
    let old := x.run.st
    let s := s.setSession sid { x with run := { x.run with
      st := n, run := 0, m3 := false,
      parent := if n = SesSt.uncalibrated ∨ n = SesSt.slave then x.run.parent else none,
      foreigns := if n = SesSt.down then [] else x.run.foreigns,
      sync := if n = SesSt.slave then x.run.sync else none } }
    if x.cfg.role = 3 then s
    else if x.cfg.tb = 0 then
      if n = .slave ∧ old ≠ .slave then s.refOn (0x400 + sid)
      else if old = .slave ∧ n ≠ .slave then s.refFail (0x400 + sid) 5
      else s
    else s.updateServo x.cfg.tb

/-- The session's port has become UP (R291). -/
def State.sesPortUp (s : State) (sid : Nat) : State :=
  match s.session? sid with
  | some x => if x.run.st = .down then s.sesTo sid (if x.cfg.role = 0 then .master else if x.cfg.role = 3 then .transit else .listening) else s
  | none => s

/-- A port has become UP, or has left UP: its sessions follow (R291). -/
def State.sessionsUp (s : State) (p : Nat) : State :=
  ((s.ptp.sessions.filter (fun e => decide (e.2.cfg.port = p))).map Prod.fst).foldl State.sesPortUp s
def State.sessionsDown (s : State) (p : Nat) : State :=
  ((s.ptp.sessions.filter (fun e => decide (e.2.cfg.port = p))).map Prod.fst).foldl (fun s k => s.sesTo k .down) s

/-- A session takes a parent (R290, R291): a new one enters UNCALIBRATED. -/
def State.takeParent (s : State) (sid : Nat) (f : Foreign) : State :=
  match s.session? sid with
  | none => s
  | some x =>
    let same := match x.run.parent with | some p => decide (p.ds.sender = f.ds.sender ∧ p.ds.senderPort = f.ds.senderPort) | none => false
    if same then s.modRun sid (fun r => { r with parent := some f })
    else (s.sesTo sid .uncalibrated).modRun sid (fun r => { r with parent := some f, sync := none, hasTheta := false })

/-- The BMCA recommends MASTER: an instance that is slave-only listens instead (R290). -/
def State.recommendMaster (s : State) (sid : Nat) (slaveOnly : Bool) : State :=
  match s.session? sid with
  | none => s
  | some x =>
    if slaveOnly then (if x.run.st = .listening then s else s.sesTo sid .listening)
    else if x.run.st = .master then s else s.sesTo sid .master

/-- The state decision of one AUTO session (R290), the instance's own set and best foreign master given. -/
def State.decideOne (s : State) (n : Nat) (own : DataSet) (best : Option (Nat × Foreign)) (timedOut : Option Nat) (sid : Nat) : State :=
  match s.session? sid with
  | none => s
  | some x =>
    let so := (s.inst n).slaveOnly
    let p := x.cfg.port + 1
    let mine := s.bestForeign x
    if x.run.st = .down then s
    else if mine.isNone = true ∧ x.run.st = .listening ∧ x.run.m3 = false ∧ timedOut ≠ some sid then s
    else if own.cls ≤ 127 then
      match mine with
      | none => s.recommendMaster sid so
      | some f => if compareSets s.clockId own 0 f.ds p < 2 then s.recommendMaster sid so
        else if x.run.st = .passive then s else s.sesTo sid .passive
    else
      match best with
      | none => s.recommendMaster sid so
      | some (bs, f) =>
        if compareSets s.clockId own 0 f.ds p < 2 then s.recommendMaster sid so
        else if bs = sid then s.takeParent sid f
        else
          match mine with
          | some g =>
            if compareSets s.clockId f.ds (match s.session? bs with | some y => y.cfg.port + 1 | none => 0) g.ds p = 1 then
              (if x.run.st = .passive then s else s.sesTo sid .passive)
            else if so = true ∨ x.run.st = .master then s.recommendMaster sid so
            else (if x.run.m3 then s else (s.sesTo sid .listening).modRun sid (fun r => { r with m3 := true }))
          | none =>
            if so = true ∨ x.run.st = .master then s.recommendMaster sid so
            else (if x.run.m3 then s else (s.sesTo sid .listening).modRun sid (fun r => { r with m3 := true }))

/-- BMCA_STATE_DECISION: the state decision of every AUTO session of an instance (R290). -/
def State.bmca (s : State) (n : Nat) (timedOut : Option Nat) : State :=
  let autos := (s.instance_ n).filter (fun e => decide (e.2.cfg.role = 2))
  let best := autos.foldl (fun (b : Option (Nat × Foreign)) e =>
    match s.bestForeign e.2, b with
    | none, _ => b
    | some f, none => some (e.1, f)
    | some f, some (k, g) =>
      let pk := match s.session? k with | some y => y.cfg.port + 1 | none => 0
      if compareSets s.clockId f.ds (e.2.cfg.port + 1) g.ds pk < 2 then some (e.1, f) else b) none
  (autos.map Prod.fst).foldl (fun (s : State) sid => s.decideOne n (s.ownSet n) best timedOut sid) s

/-! ### Offset samples (R292, R293, R296) -/

/-- A new path delay in units of 2^-18 ns is filtered; a sample on a COARSE stamp is discarded and counted (R296). -/
def State.delaySample (s : State) (sid : Nat) (d : Int) (coarse : Bool) : State :=
  if coarse then s.modRun sid (fun r => { r with coarseExcl := inc16 r.coarseExcl })
  else
    match s.session? sid with
    | none => s
    | some x =>
      let d := d * 65536
      let k := (s.inst x.cfg.tb).delayAvg
      s.modRun sid (fun r => { r with df := some (match r.df with | none => d | some f => f + (d - f) / (2 ^ k : Nat)) })

/-- An offset sample is discarded: the run of accepted samples ends, and with it the lock counts of the servo that follows the session (R291, R296,
R297). -/
def State.sampleLost (s : State) (sid : Nat) (x : Session) : State :=
  let s := s.modRun sid (fun r => { r with run := 0 })
  if (s.servo x.cfg.tb).follow = some sid then s.setServo x.cfg.tb { s.servo x.cfg.tb with good := 0, bad := 0 } else s

/-- OFFSET_SAMPLE: a complete Sync gives an offset, which is tested, may calibrate the session, and reaches the servo or the TB0 loop (R291,
R296, R297). -/
def State.offsetSample (s : State) (sid : Nat) : State :=
  match s.session? sid with
  | none => s
  | some x =>
    match x.run.sync, x.delay with
    | some y, some d =>
      if y.waiting then s
      else if y.coarse then (s.modRun sid (fun r => { r with coarseExcl := inc16 r.coarseExcl })).sampleLost sid x
      else
        let theta := y.t2 - y.t1 - 4 * y.corr - d - 4 * s.asymOf x
        let i := s.inst x.cfg.tb
        let far := x.run.hasTheta && decide (i.outlier ≠ 0 ∧ i.outlier * 262144 < (theta - x.run.theta).natAbs)
        if far = true ∧ x.run.discards < 4 then
          (s.modRun sid (fun r => { r with discards := r.discards + 1, outliers := inc16 r.outliers })).sampleLost sid x
        else
          let s := s.modRun sid (fun r => { r with
            theta := theta, hasTheta := true, discards := 0, run := r.run + 1, lastUncal := y.uncal })
          let s := s.witnessSample 1 sid (State.fracPs theta)
          let ready := decide (x.run.st = .uncalibrated) && decide (4 ≤ x.run.run + 1) && (decide (x.cfg.profile ≠ 2) || s.syntonized x)
          let s := if ready then s.sesTo sid .slave else s
          let isSlave := match s.session? sid with | some z => decide (z.run.st = .slave) | none => false
          if isSlave = false then s
          else if x.cfg.tb = 0 then
            let s := s.packetSample (0x400 + sid) theta
            let s := if s.phaseRef = 0x400 + sid then s.phaseSample theta else s
            s.rejoinSample x.cfg.port theta
          else if (s.servo x.cfg.tb).follow = some sid then s.servoSample x.cfg.tb x.cfg.logSync theta
          else s
    | _, _ => s

/-! ### Building messages (R283, R287, R288) -/

/-- The common header of a message the part sends. -/
def ptpHeader (s : State) (x : Session) (typ len : Nat) (twoStep : Bool) (flags : Nat) (corr : Int) (seq : Nat) (logInt : Int) : List Byte :=
  let ctl := match typ with | 0 => 0 | 1 => 1 | 8 => 2 | 9 => 3 | 13 => 4 | _ => 5
  bytesBE 1 typ ++ bytesBE 1 0x12 ++ bytesBE 2 len ++ bytesBE 1 x.cfg.domain ++ bytesBE 1 0 ++ bytesBE 1 (2 * twoStep.toNat) ++ bytesBE 1 flags
    ++ bytesBE 8 (lowBits 64 corr) ++ bytesBE 4 0 ++ bytesBE 8 s.clockId ++ bytesBE 2 (x.cfg.port + 1) ++ bytesBE 2 seq ++ bytesBE 1 ctl
    ++ bytesBE 1 (lowBits 8 logInt)

/-- A key slot can sign: loaded, its sequenceNo not exhausted (R269, R289). -/
def SesKey.usable (k : SesKey) : Bool := decide (k.alg ≠ 0) && (decide (k.alg = 1) || decide (k.seqNo < 0xFFFFFFFF))

/-- The link-local IPv6 source address formed from MGT_MAC as a modified EUI-64 (R283). -/
def State.ipv6Src (s : State) : Nat := 0xFE80 * 2 ^ 112 + (eui64 s.fused.mgtMac ^^^ 2 ^ 57)

/-- The bytes of a message as a frame of its session's transport, without FCS (R283, R288). -/
def State.ptpFrame (s : State) (x : Session) (peer event : Bool) (hsr : Option (Nat × Nat)) (msg : List Byte) : List Byte :=
  let udp := fun (extra : List Byte) =>
    bytesBE 2 (if event then 319 else 320) ++ bytesBE 2 (if event then 319 else 320) ++ bytesBE 2 (8 + msg.length + extra.length)
  let etype := [0x88F7, 0x0800, 0x86DD].getD x.cfg.transport 0x88F7
  let da := match x.cfg.transport with
    | 1 => if peer then 0x01005E00006B else 0x01005E000181
    | 2 => if peer then 0x33330000006B else 0x333300000181
    | _ => if peer = true ∨ x.cfg.nfAddr = true then 0x0180C200000E else 0x011B19000000
  let pay := match x.cfg.transport with
    | 1 =>
      let dst := if peer then 0xE000006B else 0xE0000181
      let ip := fun (sum : Nat) => bytesBE 1 0x45 ++ bytesBE 1 0 ++ bytesBE 2 (28 + msg.length) ++ bytesBE 4 0 ++ bytesBE 1 1 ++ bytesBE 1 17
        ++ bytesBE 2 sum ++ bytesBE 4 x.cfg.ipSrc ++ bytesBE 4 dst
      ip (65535 - inetSum (ip 0)) ++ udp [] ++ bytesBE 2 0 ++ msg
    | 2 =>
      let dst := 0xFF02 * 2 ^ 112 + (if peer then 0x6B else 0x181)
      let len := 8 + msg.length + 2
      let u := udp [0, 0]
      let pseudo := bytesBE 16 s.ipv6Src ++ bytesBE 16 dst ++ bytesBE 4 len ++ bytesBE 4 17
      let sum := 65535 - inetSum (pseudo ++ u ++ bytesBE 2 0 ++ msg ++ [0, 0])
      bytesBE 4 0x60000000 ++ bytesBE 2 len ++ bytesBE 1 17 ++ bytesBE 1 1 ++ bytesBE 16 s.ipv6Src ++ bytesBE 16 dst ++ u
        ++ bytesBE 2 (if sum = 0 then 65535 else sum) ++ msg ++ [0, 0]
    | _ => msg
  let tci := if x.cfg.vlanEn then some (x.cfg.pcp * 8192 + x.cfg.vid) else none
  let body := tagBytes tci ++ bytesBE 2 etype ++ pay
  let tag := match hsr with
    | some (path, seq) => bytesBE 2 0x892F ++ bytesBE 2 (path * 4096 + (2 + pay.length + 4) % 4096) ++ bytesBE 2 seq
    | none => []
  padFrame (bytesBE 6 da ++ bytesBE 6 s.fused.mgtMac ++ tag ++ body)

/-- The ring instance and role of a port: 0 ring port A, 1 ring port B, 2 interlink, of an instance that runs (R147). -/
def State.ringRole (s : State) (p : Nat) : Option (Nat × Ring × Nat) :=
  (List.range 8).findSome? (fun k =>
    let r := s.ring k
    if r.mode = 0 then none
    else if r.portA = p then some (k, r, 0)
    else if r.portB = p then some (k, r, 1)
    else if r.mode = 3 ∧ r.interlink = p then some (k, r, 2)
    else none)

/-- A port that holds an HSR ring role (R175). -/
def State.hsrPort (s : State) (p : Nat) : Bool :=
  match s.ringRole p with
  | some (_, r, k) => decide (r.mode ≠ 2) && decide (k < 2)
  | none => false

/-- The instance's next sequence number (R148). -/
def State.nextSeq (s : State) (k : Nat) : Nat × State := ((s.ring k).seq, s.setRing k { s.ring k with seq := ((s.ring k).seq + 1) % 65536 })

/-- A frame enters IQ_TIME; a full queue drops it (R24, R27). -/
def State.iqTimePut (s : State) (i : Ins) : Option State :=
  if s.buf.iqTime.length < 2048 then some { s with buf := { s.buf with iqTime := s.buf.iqTime ++ [i] } } else none

/-- A session sends a message: its TLV is added and signed, or the message is not sent when the key cannot sign (R287-R289, R267-R269).
Marked frames are signed again when they are rewritten. A session that waits to become MASTER sends nothing (R290). -/
def State.sendMsg (s : State) (sid : Nat) (x : Session) (typ : Nat) (twoStep : Bool) (flags : Nat) (corr : Int) (seq : Nat) (logInt : Int)
    (body : List Byte) (mark : Mark) : State :=
  let sign := decide (x.cfg.auth ≠ 0)
  let key := Tab.find? s.sesKeys x.cfg.txKey
  if x.run.m3 = true then s
  else if sign = true ∧ (match key with | some k => k.usable | none => false) = false then
    if x.run.keyExhausted then s
    else (s.modRun sid (fun r => { r with keyExhausted := true })).log .timing 0x0401 (srcOf 5 sid) (w32 x.cfg.txKey) 0 0
  else
    let tlvLen := if sign then (match key with | some k => if k.alg = 1 then 26 else 30 | none => 0) else 0
    let head := ptpHeader s x typ (34 + body.length + tlvLen) twoStep flags corr seq logInt ++ body
    let (msg, s) := match (if sign then key else none) with
      | none => (head, s)
      | some k =>
        let n := k.seqNo + 1
        let m := head ++ bytesBE 2 0x8009 ++ bytesBE 2 (tlvLen - 4) ++ bytesBE 1 k.spp ++ bytesBE 1 (if k.alg = 1 then 0 else 2) ++ bytesBE 4 k.keyId
          ++ (if k.alg = 1 then [] else bytesBE 4 n)
        (m ++ icvOf k x.cfg.cfExcl m m.length n,
         { s with sesKeys := Tab.insert s.sesKeys x.cfg.txKey { k with seqNo := if k.alg = 1 then k.seqNo else n } })
    let peer := [2, 3, 10].contains typ
    let (hsr, s) := match s.ringRole x.cfg.port with
      | some (k, r, role) =>
        if r.mode ≠ 2 ∧ role < 2 ∧ peer = false then let (q, s) := s.nextSeq k; (some (role, q), s) else (none, s)
      | none => (none, s)
    let i : Ins := { bytes := s.ptpFrame x peer (typ < 8) hsr msg, port := x.cfg.port, cls := x.cfg.cls, mark := mark }
    if s.pairGateOpen = false ∧ [0, 8, 9, 11].contains typ = true then s
    else match s.iqTimePut i with
    | some s => s.modRun sid (fun r => { r with txMsgs := inc32 r.txMsgs })
    | none => s.modRun sid (fun r => { r with txDrops := inc16 r.txDrops })

/-- The data set a MASTER session announces (R298): the instance's own, or its parent's as a boundary clock. -/
def State.announceSet (s : State) (n : Nat) : DataSet :=
  let followed := if n = 0 then (if 0x400 ≤ s.phaseRef ∧ s.phaseRef < 0x800 ∧ s.phaseActs = true then some (s.phaseRef - 0x400) else none)
    else if (s.servo n).st = .holdover ∨ (s.servo n).st = .idle then none else (s.servo n).follow
  match (followed.bind s.session?).bind (fun x => x.run.parent) with
  | some p => { p.ds with steps := p.ds.steps + 1, inacc := min 0xFFFFFFFF (p.ds.inacc + (s.inst n).ownInacc) }
  | none => s.ownSet n

/-- The body of an Announce (R290, R298), with the profile 4 TLV (R282). -/
def announceBody (profile : Nat) (d : DataSet) : List Byte :=
  bytesBE 10 0 ++ bytesBE 2 d.utcOffset ++ bytesBE 1 0 ++ bytesBE 1 d.pri1 ++ bytesBE 1 d.cls ++ bytesBE 1 d.acc ++ bytesBE 2 d.var ++ bytesBE 1 d.pri2
    ++ bytesBE 8 d.gmId ++ bytesBE 2 d.steps ++ bytesBE 1 d.timeSource
    ++ (if profile = 4 then bytesBE 2 3 ++ bytesBE 2 16 ++ bytesBE 3 0x1C129D ++ bytesBE 3 2 ++ bytesBE 2 d.gmShort ++ bytesBE 4 0
        ++ bytesBE 4 d.inacc else [])

/-- PTP_PERIODIC_SEND: a session's Announce (0), Sync (1) or delay request (2) interval elapses (R287). -/
def ptpSend (sid kind : Nat) (s : State) : State :=
  match s.session? sid with
  | none => s
  | some x =>
    if s.tpUp = false then s
    else if kind = 0 then
      if x.run.st ≠ .master then s
      else
        let d := s.announceSet x.cfg.tb
        let s := s.modRun sid (fun r => { r with seqAnn := (r.seqAnn + 1) % 65536 })
        s.sendMsg sid x 11 false d.flags 0 x.run.seqAnn x.cfg.logAnn (announceBody x.cfg.profile d) .none
    else if kind = 1 then
      if x.run.st ≠ .master then s
      else
        let s := s.modRun sid (fun r => { r with seqSync := (r.seqSync + 1) % 65536 })
        s.sendMsg sid x 0 x.cfg.twoStep 0 0 x.run.seqSync x.cfg.logSync (bytesBE 10 0) (.session sid (s.termsOf x))
    else
      let e2e := decide (x.cfg.delayMech = 0 ∧ (x.run.st = .uncalibrated ∨ x.run.st = .slave))
      let p2p := decide (x.cfg.delayMech = 1 ∧ x.run.st ≠ .down)
      if e2e = false ∧ p2p = false then s
      else
        let s := s.modRun sid (fun r => { r with seqDelay := (r.seqDelay + 1) % 65536, delay := none })
        s.sendMsg sid x (if p2p then 2 else 1) false 0 0 x.run.seqDelay x.cfg.logDelay (bytesBE 10 0 ++ (if p2p then bytesBE 10 0 else []))
          (.session sid (s.termsOf x))

/-! ### What the transmit stamp of a message does (R286, R292, R293) -/

/-- A stamp's time on a session's time base in units of 2^-18 ns, with its latency (in units of 2^-16 ns) applied. -/
def State.planeTime (_ : State) (x : Session) (st : Stamp) (lat : Int) : Int := st.frac x.cfg.tb + 4 * lat

/-- The engine's message of a session has been stamped as it left (R286, R292, R293). -/
def State.msgStamped (s : State) (sid : Nat) (bs : List Byte) (st : Stamp) : State :=
  match s.session? sid, (parseHdr (s.hsrPort ((s.session? sid).elim 0 (fun x => x.cfg.port))) bs).ptp with
  | some x, some (_, off) =>
    let m := msgAt bs off
    let t := s.planeTime x st x.cfg.egress
    let s := if m.typ = 0 ∧ x.run.st = .master then s.syncSent sid m.seq x.cfg.tb st else s
    if m.typ = 0 ∧ m.twoStep = true then
      let t1 := st.frac x.cfg.tb
      s.sendMsg sid x 8 false 0 (roundCorr (fracOf t1 + 4 * x.cfg.egress)) m.seq x.cfg.logSync (ptpStamp t1) .none
    else if m.typ = 1 ∨ m.typ = 2 then
      s.modRun sid (fun r => { r with delay := some { seq := m.seq, t3 := t, coarse := st.isCoarse, uncal := st.uncal } })
    else if m.typ = 3 ∧ m.twoStep = true then
      s.sendMsg sid x 10 false 0 (roundCorr (fracOf t)) m.seq 0x7F (ptpStamp t ++ (m.raw.drop 44).take 10) .none
    else s
  | _, _ => s

/-! ### Rewriting in flight (R260-R266, R271, R293) -/

/-- What rewriting does to a message: its bytes with originTimestamp and correctionField written; `terms` in units of 2^-18 ns. -/
def rewriteMsg (raw : List Byte) (origin : Option Int) (terms : Int) : List Byte × Bool :=
  let c := addCorr (signed 64 (beAt raw 8 8)) terms
  let raw := putBytes raw 8 (bytesBE 8 (lowBits 64 c.1))
  (match origin with | some t => putBytes raw 34 (ptpStamp t) | none => raw, c.2)

/-- The residence time of a message between two stamps in units of 2^-18 ns (R265). -/
def residence (rho : Int) (rx tx : Stamp) : Int :=
  roundDiv (scaleRho rho (((tx.tick : Int) - rx.tick) * (4 * nsU : Nat) / 5 + tx.sub - rx.sub)) fracU

/-- Put a rewritten message back into its frame: the UDP checksum is written as 0 over IPv4, and over IPv6 the two bytes after the message
make it correct (R260). -/
def patchFrame (bs : List Byte) (tr off : Nat) (raw : List Byte) : List Byte :=
  let bs := putBytes bs off raw
  if tr = 1 then putBytes bs (off - 2) [0, 0]
  else if tr = 2 then
    let bs := putBytes bs (off + raw.length) [0, 0]
    let len := beAt bs (off - 4) 2
    let ip := off - 48
    let sum := inetSum ((bs.drop (ip + 8)).take 32 ++ bytesBE 4 len ++ bytesBE 4 17 ++ (bs.drop (off - 8)).take len)
    putBytes bs (off + raw.length) (bytesBE 2 (65535 - sum))
  else bs

/-- The overlay of a marked frame that leaves a port with a stamp, at the rates of its selection: its bytes, and the state with what is counted. -/
def State.overlay (s : State) (mark : Mark) (rates : List Int) (egress : Nat) (bs : List Byte) (rx tx : Stamp) : List Byte × State :=
  match (parseHdr (s.hsrPort egress) bs).ptp with
  | none => (bs, s)
  | some (tr, off) =>
    let m := msgAt bs off
    let sat := fun (b : Bool) (s : State) => if b then
      (s.modPort egress (fun (p : Port) => { p with cfSaturated := inc32 p.cfSaturated })).ev 0x302 egress else s
    let sign := fun (x : Terms) (raw : List Byte) =>
      match authTlv raw, Tab.find? s.sesKeys x.txKey with
      | some t, some k => if x.auth = 0 then raw else putBytes raw t.icv (icvOf k x.cfExcl raw t.icv (t.seqNo.getD 0))
      | _, _ => raw
    match mark with
    | .session _ x =>
      if m.typ = 0 ∧ m.twoStep = false then
        let t1 := tx.frac x.tb
        let r := rewriteMsg m.raw (some t1) (fracOf t1 + 4 * x.egress)
        (patchFrame bs tr off (sign x r.1), sat r.2 s)
      else (bs, s)
    | .turnaround _ x rx0 =>
      let r := rewriteMsg m.raw none (residence (rates.getD x.tb 0) rx0 tx + 4 * (x.ingress + x.egress))
      (patchFrame bs tr off (sign x r.1), sat r.2 s)
    | .transit _ _ x y =>
      let r := rewriteMsg m.raw none
        (residence (rates.getD x.tb 0) rx tx + 4 * (x.ingress + y.egress) + (if m.typ = 0 then x.link else 0))
      let s := sat r.2 s
      match authTlv r.1 with
      | none => (patchFrame bs tr off r.1, s)
      | some t =>
        match List.find? (fun (e : Nat × SesKey) => decide (e.2.keyId = t.keyId ∧ e.2.spp = t.spp ∧ e.2.alg ≠ 0 ∧ (e.2.alg = 2) = t.seqNo.isSome)) s.sesKeys with
        | some e => (patchFrame bs tr off (putBytes r.1 t.icv (icvOf e.2 y.cfExcl r.1 t.icv (t.seqNo.getD 0))), s)
        | none =>
          (patchFrame bs tr off r.1, (s.modPort egress (fun (p : Port) => { p with tcIcvStale := inc32 p.tcIcvStale })).ev 0x303 egress)
    | _ => (bs, s)

/-! ### Taking messages (R284-R297) -/

/-- The transport of a PTP message against a session's. -/
def Session.takesMsg (x : Session) (port tr : Nat) (m : Msg) : Bool :=
  decide (x.cfg.port = port ∧ x.cfg.domain = m.domain ∧ x.cfg.transport = tr)
    && (decide (x.cfg.role < 3) || (m.peer && decide (x.cfg.delayMech = 1)))

/-- The versions and the majorSdoId the part accepts; every other message is ordinary traffic (R283). -/
def Msg.accepted (m : Msg) : Bool := decide (m.sdo = 0 ∧ m.ver = 2 ∧ m.minor ≤ 1)

/-- The session that takes a PTP message received on a port (R283, R284). -/
def State.takerOf (s : State) (port tr : Nat) (m : Msg) : Option Nat :=
  if m.accepted = false then none
  else (List.find? (fun (e : Nat × Session) => e.2.takesMsg port tr m) s.ptp.sessions).map Prod.fst

/-- The TC session of a message's domain on a port (R283, R285). -/
def State.tcOf (s : State) (port : Nat) (m : Msg) : Option (Nat × Session) :=
  if m.accepted = false then none
  else List.find? (fun (e : Nat × Session) => decide (e.2.cfg.port = port ∧ e.2.cfg.domain = m.domain ∧ e.2.cfg.role = 3)) s.ptp.sessions

/-- The authentication check of a received message under AUTH 2 (R289): the state with the sequence number noted, or none for a discard. -/
def State.authRx (s : State) (x : Session) (m : Msg) : Option State :=
  if x.cfg.auth ≠ 2 then some s
  else
    match authTlv m.raw with
    | none => none
    | some t =>
      match List.find? (fun (e : Nat × SesKey) => decide (e.2.keyId = t.keyId ∧ e.2.spp = t.spp ∧ e.2.alg ≠ 0 ∧ (e.2.alg = 2) = t.seqNo.isSome)) s.sesKeys with
      | none => none
      | some e =>
        if icvOf e.2 x.cfg.cfExcl m.raw t.icv (t.seqNo.getD 0) ≠ (m.raw.drop t.icv).take 16 then none
        else
          match t.seqNo with
          | none => some s
          | some n =>
            let src := m.srcId * 65536 + m.srcPort
            match s.ptp.seqSeen.find? (fun q => decide (q.1 = src ∧ q.2.1 = e.1)) with
            | some q => if n ≤ q.2.2 then none else
                some { s with ptp := { s.ptp with seqSeen := (s.ptp.seqSeen.erase q) ++ [(src, e.1, n)] } }
            | none => some { s with ptp := { s.ptp with seqSeen := s.ptp.seqSeen ++ [(src, e.1, n)] } }

/-- The offset of the first TLV of a message that passes a test, other TLVs being passed over; the fuel bounds their number. -/
def tlvFrom (test : Nat → Bool) (raw : List Byte) : Nat → Nat → Option Nat
  | 0, _ => none
  | n + 1, off =>
    if raw.length < off + 4 then none
    else if test off then some off
    else tlvFrom test raw n (off + 4 + beAt raw (off + 2) 2)

/-- An Announce as a data set, with the IEEE_C37_238 TLV wherever among its TLVs it stands (R282, R290). -/
def Msg.dataSet (m : Msg) : DataSet :=
  let g := m.raw
  let at_ := tlvFrom (fun o => decide (beAt g o 2 = 3) && decide (beAt g (o + 4) 3 = 0x1C129D)) g 256 64
  let c37 := at_.isSome
  let o := at_.getD 64
  { pri1 := beAt g 47 1, cls := beAt g 48 1, acc := beAt g 49 1, var := beAt g 50 2, pri2 := beAt g 52 1, gmId := beAt g 53 8,
    steps := beAt g 61 2, sender := m.srcId, senderPort := m.srcPort, utcOffset := beAt g 44 2, timeSource := beAt g 63 1, flags := m.flags,
    gmShort := if c37 then beAt g (o + 10) 2 else 0, inacc := if c37 then beAt g (o + 16) 4 else 0 }

/-- Note an Announce among the five foreign masters (R290); a sixth takes no record while five are held. -/
def noteForeign (tick : Nat) (d : DataSet) (logAnn : Int) (l : List Foreign) : List Foreign :=
  match l.find? (fun f => decide (f.ds.sender = d.sender ∧ f.ds.senderPort = d.senderPort)) with
  | some f => l.map (fun g => if g = f then { ds := d, logAnn := logAnn, last := tick, before := some f.last } else g)
  | none => if l.length < 5 then l ++ [{ ds := d, logAnn := logAnn, last := tick }] else l

/-- An Announce is taken (R290, R291). -/
def State.takeAnnounce (s : State) (sid : Nat) (x : Session) (m : Msg) : State :=
  let d := m.dataSet
  if d.steps ≥ 255 ∨ m.srcId = s.clockId ∨ x.cfg.role = 0 ∨ x.run.st = .down then s
  else
    let l := noteForeign s.clk.tick d m.logInt x.run.foreigns
    let s := s.modRun sid (fun r => { r with foreigns := l })
    let q := l.any (fun f => decide (f.ds.sender = d.sender ∧ f.ds.senderPort = d.senderPort) && f.qualified s.clk.tick x.run.parent)
    if q = false then s
    else if x.cfg.role = 1 then
      match s.bestForeign { x with run := { x.run with foreigns := l } } with
      | some f => s.takeParent sid f
      | none => s
    else s.bmca x.cfg.tb none

/-- The message comes from the session's parent. -/
def SesRun.fromParent (r : SesRun) (m : Msg) : Bool :=
  match r.parent with
  | some p => decide (p.ds.sender = m.srcId ∧ p.ds.senderPort = m.srcPort)
  | none => false

/-- The requestingPortIdentity of a response is this session's (R292, R293). -/
def State.mine (s : State) (x : Session) (m : Msg) (off : Nat) : Bool :=
  decide (beAt m.raw off 8 = s.clockId ∧ beAt m.raw (off + 8) 2 = x.cfg.port + 1)

/-- A message is acted on by the session that took it (R286, R290-R293). -/
def State.actOn (s : State) (sid : Nat) (x : Session) (m : Msg) (rx : Stamp) : State :=
  let tRx := s.planeTime x rx (-x.cfg.ingress)
  let src := bytesBE 8 m.srcId ++ bytesBE 2 m.srcPort
  let slaveSide := decide (x.run.st = .uncalibrated ∨ x.run.st = .slave)
  match m.typ with
  | 11 => s.takeAnnounce sid x m
  | 0 =>
    if slaveSide = false ∨ x.run.fromParent m = false then s
    else
      let y : SyncRx :=
        { seq := m.seq, t1 := m.stampAt 34, t2 := tRx, corr := m.corr, waiting := m.twoStep, coarse := rx.isCoarse, uncal := rx.uncal }
      let s := s.modRun sid (fun r => { r with sync := some y, logSyncRx := m.logInt })
      if m.twoStep then s else s.offsetSample sid
  | 8 =>
    match x.run.sync with
    | some y =>
      if slaveSide = true ∧ y.waiting = true ∧ y.seq = m.seq ∧ x.run.fromParent m = true then
        (s.modRun sid (fun r => { r with
          sync := some { y with t1 := m.stampAt 34, corr := y.corr + m.corr, waiting := false } })).offsetSample sid
      else s
    | none => s
  | 1 =>
    if x.cfg.delayMech = 0 ∧ (x.run.st = .master ∨ x.run.st = .passive ∨ x.run.st = .transit) then
      let c := addCorr m.corr (-(fracOf tRx))
      let s := if c.2 then (s.modPort x.cfg.port (fun (p : Port) => { p with cfSaturated := inc32 p.cfSaturated })).ev 0x302 x.cfg.port else s
      s.sendMsg sid x 9 false 0 c.1 m.seq x.cfg.logDelay (ptpStamp tRx ++ src) .none
    else s
  | 9 =>
    match x.run.delay, x.run.sync with
    | some q, some y =>
      if slaveSide = true ∧ x.cfg.delayMech = 0 ∧ q.seq = m.seq ∧ x.run.fromParent m = true ∧ s.mine x m 44 = true ∧ y.waiting = false then
        let t4 := m.stampAt 34
        let d := ((y.t2 - q.t3) + (t4 - y.t1) - 4 * y.corr - 4 * m.corr) / 2
        (s.delaySample sid d (q.coarse || y.coarse)).modRun sid (fun r => { r with delay := none })
      else s
    | _, _ => s
  | 2 =>
    if x.cfg.delayMech = 1 ∧ x.run.st ≠ .down then
      if x.cfg.twoStep then
        s.sendMsg sid x 3 true 0 (roundCorr (-(fracOf tRx))) m.seq 0x7F (ptpStamp tRx ++ src) (.session sid (s.termsOf x))
      else s.sendMsg sid x 3 false 0 0 m.seq 0x7F (bytesBE 10 0 ++ src) (.turnaround sid (s.termsOf x) rx)
    else s
  | 3 =>
    match x.run.delay with
    | some q =>
      if x.cfg.delayMech = 1 ∧ q.seq = m.seq ∧ s.mine x m 44 = true then
        if m.twoStep then
          s.modRun sid (fun r => { r with delay := some { q with resp := some (tRx, m.stampAt 34, m.corr, rx.isCoarse, rx.uncal) } })
        else
          let d := ((tRx - q.t3) - 4 * m.corr) / 2
          (s.delaySample sid d (q.coarse || rx.isCoarse)).modRun sid (fun r => { r with delay := none })
      else s
    | none => s
  | 10 =>
    match x.run.delay with
    | some { seq := q, t3 := t1', coarse := c, resp := some (t4', t2', corr, c', _), .. } =>
      if x.cfg.delayMech = 1 ∧ q = m.seq ∧ s.mine x m 44 = true then
        let d := ((t4' - t1') - (m.stampAt 34 - t2') - 4 * (corr + m.corr)) / 2
        (s.delaySample sid d (c || c')).modRun sid (fun r => { r with delay := none })
      else s
    | _ => s
  | _ => s

/-- The PTP message of a stored frame: its transport and the message. -/
def State.frameMsg (s : State) (f : Frame) : Option (Nat × Msg) :=
  let b := dropFcs f.bytes
  (parseHdr (s.hsrPort f.inPort) b).ptp.map (fun p => (p.1, msgAt b p.2))

/-- PTP_MESSAGE_TAKEN: the oldest PTP message of PQ_TIME (R286). Management and Signaling messages go on to the host (R284). -/
def ptpTaken (s : State) : State :=
  if s.tpUp = false then s
  else
    match s.puntHead 0 (fun f => (s.frameMsg f).isSome) with
    | none => s
    | some (it, f) =>
      if f.badFcs then s.consume it
      else
      match s.frameMsg f with
      | none => s
      | some (tr, m) =>
        match s.takerOf f.inPort tr m with
        | none => s.consume it
        | some sid =>
          match s.session? sid with
          | none => s.consume it
          | some x =>
            let s := s.modRun sid (fun r => { r with rxMsgs := inc32 r.rxMsgs })
            match s.authRx x m with
            | none => (s.consume it).modRun sid (fun r => { r with authFail := inc16 r.authFail })
            | some s =>
              if m.typ = 12 ∨ m.typ = 13 then (s.punt f.id (.host 4 0)).consume it
              else
                let s := s.consume it
                match s.session? sid with
                | some x => s.actOn sid x m f.rx
                | none => s

/-! ### Timeouts (R290, R291) -/

/-- ANNOUNCE_RECEIPT_TIMEOUT: no Announce within the receipt timeout (R290, R291). -/
def announceTimeout (sid : Nat) (s : State) : State :=
  match s.session? sid with
  | none => s
  | some x =>
    if x.cfg.role = 0 ∨ x.cfg.role = 3 ∨ x.run.st = .down ∨ x.run.st = .master then s
    else
      let gone := fun (r : SesRun) => match r.parent with
        | some p => { r with foreigns := r.foreigns.filter (fun f => decide (f.ds.sender ≠ p.ds.sender ∨ f.ds.senderPort ≠ p.ds.senderPort)) }
        | none => { r with foreigns := [] }
      let s := s.modRun sid gone
      let s := if x.run.st = .uncalibrated ∨ x.run.st = .slave ∨ x.run.st = .passive then s.sesTo sid .listening else s
      if x.cfg.role = 2 then s.bmca x.cfg.tb (some sid)
      else
        match s.session? sid with
        | some y => (match s.bestForeign y with | some f => s.takeParent sid f | none => s)
        | none => s

/-- SYNC_LOSS: three Sync intervals of the parent without a Sync (R291). -/
def syncLoss (sid : Nat) (s : State) : State :=
  match s.session? sid with
  | none => s
  | some x =>
    if x.run.st = .uncalibrated ∨ x.run.st = .slave then
      (s.modRun sid (fun r => { r with syncLoss := inc16 r.syncLoss })).sesTo sid .listening
    else s

/-- BMCA_M3_WAIT_EXPIRY: a session recommended M3 becomes MASTER, or listens on where its instance is slave-only (R290). -/
def m3Expiry (sid : Nat) (s : State) : State :=
  match s.session? sid with
  | none => s
  | some x =>
    if x.run.m3 = false ∨ x.run.st = .down then s
    else if (s.inst x.cfg.tb).slaveOnly then s.modRun sid (fun r => { r with m3 := false })
    else s.sesTo sid .master

end Sys2Proof.Machine
end

