-- ==== Sys2Proof/Machine/SessionCommands.lean ====
section
/-! DEFINITION. The SESSION commands (R308-R314) with the clamps of R281 and R282, and ESMC (R300-R302). -/

namespace Sys2Proof.Machine

open Sys2Proof

/-! ### The session entry (R281, R282) -/

/-- Legal ranges of a profile (R282): transport, domain, LOG_SYNC, LOG_ANNOUNCE, LOG_DELAY and ANNOUNCE_TIMEOUT. -/
structure Ranges where
  transport : Nat
  domain : Nat
  sync : Int × Int
  ann : Int × Int
  delay : Int × Int
  timeout : Nat × Nat

def profileRanges (p : Nat) : Ranges :=
  if p < 2 then { transport := 2, domain := 127, sync := (-1, 1), ann := (0, 4), delay := (0, 5), timeout := (2, 10) }
  else if p = 2 then { transport := 2, domain := 127, sync := (-7, 0), ann := (-3, 3), delay := (-7, 0), timeout := (2, 10) }
  else { transport := 0, domain := 255, sync := (0, 0), ann := (0, 0), delay := (0, 0), timeout := (3, 3) }

/-- DELAY_MECH as the profile allows it (R282); an excluded value takes the next higher legal one, the highest the nearest (R70). -/
def profileMech (p d : Nat) : Nat :=
  match p with
  | 0 => if d = 0 then 0 else 2
  | 1 => if d < 2 then 1 else 2
  | 2 => 0
  | _ => 1

/-- The entry a SESSION.CREATE spells, clamped (R281, R282). -/
def sesCfgOf (ws : List Word) : SesCfg :=
  let w1 := wd ws 1
  let w2 := wd ws 2
  let w3 := wd ws 3
  let p := min 4 (fld w1 7 5)
  let r := profileRanges p
  { port := min 103 (fld (wd ws 0) 22 16), domain := min r.domain (fld (wd ws 0) 31 24), role := fld w1 1 0, tb := fld w1 4 2, profile := p,
    transport := min r.transport (fld w1 9 8), delayMech := profileMech p (fld w1 11 10), twoStep := bit w1 12, nfAddr := bit w1 13,
    closureEn := bit w1 14, srcPref := fld w1 19 16, cls := min 8 (fld w1 23 20), vlanEn := bit w1 24, pcp := fld w1 27 25,
    annTimeout := clamp r.timeout.1 r.timeout.2 (fld w1 31 28), logSync := clampZ r.sync.1 r.sync.2 (sfld w2 7 0),
    logAnn := clampZ r.ann.1 r.ann.2 (sfld w2 15 8), logDelay := clampZ r.delay.1 r.delay.2 (sfld w2 23 16), vid := clamp 1 4094 (fld w3 11 0),
    txKey := fld w3 23 16, auth := min 2 (fld w3 25 24), cfExcl := bit w3 26, ingress := sfld (wd ws 4) 31 0, egress := sfld (wd ws 5) 31 0,
    asym := sfld (wd ws 6) 31 0, ipSrc := (wd ws 7).toNat, fixedDelay := (wd ws 8).toNat }

/-- An entry as nine words (R281), `exists_` in word 0 [10] (R310). -/
def SesCfg.toWords (c : SesCfg) (sid : Nat) (exists_ : Bool) : List Word :=
  [pack [(0, sid), (10, exists_.toNat), (16, c.port), (24, c.domain)],
   pack [(0, c.role), (2, c.tb), (5, c.profile), (8, c.transport), (10, c.delayMech), (12, c.twoStep.toNat), (13, c.nfAddr.toNat),
     (14, c.closureEn.toNat), (16, c.srcPref), (20, c.cls), (24, c.vlanEn.toNat), (25, c.pcp), (28, c.annTimeout)],
   pack [(0, lowBits 8 c.logSync), (8, lowBits 8 c.logAnn), (16, lowBits 8 c.logDelay)],
   pack [(0, c.vid), (16, c.txKey), (24, c.auth), (26, c.cfExcl.toNat)], i32 c.ingress, i32 c.egress, i32 c.asym, w32 c.ipSrc, w32 c.fixedDelay]

/-! ### Creating and deleting (R279, R280, R308, R309) -/

/-- A session is deleted: its entry is freed, and its servo, or its packet reference, is without it (R291, R297, R357). -/
def State.deleteSession (s : State) (sid : Nat) : State :=
  match s.session? sid with
  | none => s
  | some x =>
    let s := { s with ptp := { s.ptp with sessions := Tab.erase s.ptp.sessions sid } }
    if 3 ≤ x.cfg.role then s else if x.cfg.tb = 0 then s.refOff (0x400 + sid) else s.updateServo x.cfg.tb

/-- Why an entry cannot be created beside the sessions there are: 0 for none, otherwise REASON (R279, R280, R308). -/
def State.createReason (s : State) (sid : Nat) (c : SesCfg) : Nat :=
  let others := s.ptp.sessions.filter (fun e => decide (e.1 ≠ sid))
  if others.any (fun e => decide (e.2.cfg.port = c.port ∧ e.2.cfg.domain = c.domain)) then 1
  else if c.role = 3 then 0
  else if others.any (fun e => decide (e.2.cfg.role < 3 ∧ e.2.cfg.tb ≠ c.tb ∧ e.2.cfg.domain = c.domain)) then 2
  else if others.any (fun e => decide (e.2.cfg.role < 3 ∧ e.2.cfg.tb = c.tb ∧ e.2.cfg.domain ≠ c.domain)) then 3
  else 0

/-- SESSION.CREATE (R308): the old session of the SID is deleted, and the new one, when it may stand, starts DOWN and follows its port. -/
def bodySesCreate : Body := fun c ws s =>
  let sid := fld (wd ws 0) 9 0
  let e := sesCfgOf ws
  let had := (s.session? sid).isSome
  let reason := s.createReason sid e
  let can := decide (reason = 0) && s.portExists e.port
  let s := if can then s.deleteSession sid else s
  let s := if can then
    let s := s.setSession sid { cfg := e }
    let s := if (s.port e.port).st = .up then s.sesPortUp sid else s
    if e.role < 3 then s.updateServo e.tb else s
    else s
  s.ok c (e.toWords sid false ++ [pack [(0, can.toNat), (1, (can && had).toNat), (2, reason)]])

/-- SESSION.DELETE (R309). -/
def bodySesDelete : Body := fun c ws s =>
  let w := wd ws 0
  let gone := s.ptp.sessions.filter (fun e =>
    bit w 25 || (if bit w 24 then decide (e.2.cfg.port = min 103 (fld w 22 16)) else decide (e.1 = fld w 9 0)))
  ((gone.map Prod.fst).foldl State.deleteSession s).ok c [w32 gone.length]

/-- SESSION.READ (R310). -/
def bodySesRead : Body := fun c ws s =>
  let sid := fld (wd ws 0) 9 0
  match s.session? sid with
  | some x => s.ok c (x.cfg.toWords sid true)
  | none => s.ok c (w32 sid :: List.replicate 8 0)

/-- The servo or the TB0 loop uses the session (R311). -/
def State.followed (s : State) (sid : Nat) (x : Session) : Bool :=
  if x.cfg.tb = 0 then s.phaseActs && (decide (s.refs.sel = 0x400 + sid) || decide (s.phaseRef = 0x400 + sid))
  else decide ((s.servo x.cfg.tb).follow = some sid)

/-- A 64-bit signed value as two words, high word first. -/
def s64Words (i : Int) : List Word := [i32 (i / 2 ^ 32), i32 i]

/-- SESSION.STATUS (R311). -/
def bodySesStatus : Body := fun c ws s =>
  let sid := fld (wd ws 0) 9 0
  match s.session? sid with
  | none => s.ok c (w32 sid :: List.replicate 15 0)
  | some x =>
    let r := x.run
    let d := if x.cfg.delayMech = 2 then (x.cfg.fixedDelay : Int) * 256 else roundDiv (r.df.getD 0) (2 ^ 18)
    let p := r.parent.map Foreign.ds
    let pc := (p.map DataSet.sender).getD 0
    let gm := if r.st = .master then (s.announceSet x.cfg.tb).gmId else (p.map DataSet.gmId).getD 0
    s.ok c
      ([pack [(0, sid), (10, 1), (12, sesCode r.st), (16, (s.syntonized x).toNat), (17, (s.followed sid x).toNat), (18, r.keyExhausted.toNat),
          (19, r.lastUncal.toNat)]]
        ++ s64Words (roundDiv r.theta 4) ++ s64Words d
        ++ [i32 (s.asymOf x), w32 (pc / 2 ^ 32), w32 pc, pack [(0, (p.map DataSet.senderPort).getD 0), (16, (p.map DataSet.steps).getD 0)],
          w32 (gm / 2 ^ 32), w32 gm, w32 r.rxMsgs, w32 r.txMsgs, pack [(0, r.rxDrops), (16, r.txDrops)], pack [(0, r.authFail), (16, r.coarseExcl)],
          pack [(0, r.outliers), (16, r.syncLoss)]])

/-! ### Servo, keys -/

/-- The parameters a SESSION.SERVO write spells, clamped (R312); on TB0 the servo's own words are ignored. -/
def instOf (n : Nat) (ws : List Word) (old : Inst) : Inst :=
  let w1 := wd ws 1
  let w2 := wd ws 2
  let i := { old with
    pri1 := fld w1 7 0, pri2 := fld w1 15 8, cls := fld w1 23 16, acc := fld w1 31 24, var := fld w2 15 0, timeSource := fld w2 23 16,
    slaveOnly := bit w2 24, ptpTimescale := bit w2 25, utcValid := bit w2 26, leap61 := bit w2 27, leap59 := bit w2 28,
    utcOffset := sfld (wd ws 3) 15 0, ownInacc := fld (wd ws 3) 31 16, holdClass := fld (wd ws 9) 7 0, unsetClass := fld (wd ws 9) 15 8 }
  if n = 0 then i
  else
    { i with
      fn := clamp 1 10000 (fld (wd ws 4) 13 0), damping := clamp 500 5000 (fld (wd ws 4) 29 16),
      stepThresh := min 1000000000 (fld (wd ws 5) 29 0), slewLimit := clamp 1 500000 (fld (wd ws 6) 19 0),
      lockThresh := clamp 1 65535 (fld (wd ws 7) 15 0), lockCount := clamp 1 255 (fld (wd ws 7) 23 16), delayAvg := min 10 (fld (wd ws 7) 27 24),
      outlier := min 1000000 (fld (wd ws 8) 19 0), holdAvg := min 12 (fld (wd ws 8) 27 24) }

def servoCode : ServoSt → Nat
  | .idle => 0
  | .acquire => 1
  | .locked => 2
  | .holdover => 3

/-- SESSION.SERVO (R312). Without a session to follow, FN_EFF is SERVO_FN; TB0's loop is another's, and its fields read 0 (DESIGN CHOICE). -/
def bodySesServo : Body := fun c ws s =>
  let w := bit (wd ws 0) 31
  let n := tbArg (wd ws 0)
  let i := if w then instOf n ws (s.inst n) else s.inst n
  let s := if w then { s with ptp := { s.ptp with insts := Tab.put instReset s.ptp.insts n i } } else s
  let v := s.servo n
  let eff := match v.follow.bind s.session? with | some x => fnEff i.fn x.cfg.logSync | none => i.fn
  let own := if n = 0 then [0, 0, 0, 0, 0] else
    [pack [(0, i.fn), (16, i.damping)], w32 i.stepThresh, w32 i.slewLimit, pack [(0, i.lockThresh), (16, i.lockCount), (24, i.delayAvg)],
     pack [(0, i.outlier), (24, i.holdAvg)]]
  s.ok c
    ([pack [(31, w.toNat), (0, n)], pack [(0, i.pri1), (8, i.pri2), (16, i.cls), (24, i.acc)],
      pack [(0, i.var), (16, i.timeSource), (24, i.slaveOnly.toNat), (25, i.ptpTimescale.toNat), (26, i.utcValid.toNat), (27, i.leap61.toNat),
        (28, i.leap59.toNat)], pack [(0, lowBits 16 i.utcOffset), (16, i.ownInacc)]]
      ++ own ++ [pack [(0, i.holdClass), (8, i.unsetClass)],
        if n = 0 then 0 else pack [(0, eff), (16, servoCode v.st), (18, v.follow.getD 0)]])

/-- SESSION.KEY (R313): a write restarts the slot's sequenceNo; ALG 0 empties the slot. -/
def bodySesKey : Body := fun c ws s =>
  let w := bit (wd ws 0) 31
  let k := fld (wd ws 0) 7 0
  let alg := min 2 (fld (wd ws 1) 1 0)
  let s := if w then
    let keys := if alg = 0 then Tab.erase s.sesKeys k else
      Tab.insert s.sesKeys k { alg := alg, spp := fld (wd ws 1) 15 8, keyId := (wd ws 2).toNat, salt := (wd ws 3).toNat, key := keyOf ((ws.drop 4).take 8) }
    { s with
      sesKeys := keys
      ptp := { s.ptp with
        seqSeen := s.ptp.seqSeen.filter (fun q => decide (q.2.1 ≠ k))
        sessions := Tab.mapVal (fun _ (x : Session) =>
          if x.cfg.txKey = k then { x with run := { x.run with keyExhausted := false } } else x) s.ptp.sessions } }
    else s
  let rep := match Tab.find? s.sesKeys k with
    | some e => [pack [(0, e.alg), (8, e.spp)], w32 e.keyId, w32 e.salt, w32 e.seqNo]
    | none => [0, 0, 0, 0]
  s.ok c (pack [(31, w.toNat), (0, k)] :: rep)

/-! ### ESMC (R300-R302, R314) -/

def esmcReset (_ : Nat) : Esmc := {}
def State.esmc (s : State) (p : Nat) : Esmc := Tab.get esmcReset s.ptp.esmc p
def State.setEsmc (s : State) (p : Nat) (e : Esmc) : State := { s with ptp := { s.ptp with esmc := Tab.put esmcReset s.ptp.esmc p e } }

/-- The port that holds a lane (R136). -/
def State.portOfLane (s : State) (l : Nat) : Nat := if l < 32 ∧ s.formed (l / 4) = true then 96 + l / 4 else l

/-- Quality level to send: SSM code, enhanced code, and the originator's clockIdentity with its eEEC and EEC counts (R300, R301). -/
structure Ql where
  ssm : Nat
  essm : Nat
  id : Nat
  eeec : Nat
  eec : Nat

/-- The quality level a port sends (R301). -/
def State.qlOf (s : State) (p : Nat) : Ql :=
  let e := s.esmc p
  let own := fun (a b : Nat) => ({ ssm := a, essm := b, id := s.clockId, eeec := 1, eec := 0 } : Ql)
  if e.force then own e.txQl e.txEssm
  else if s.refs.st = .freeRun ∨ s.refs.st = .holdover ∨ s.refs.st = .fault then own (if e.opt then 0xA else 0xB) 0x22
  else
    let k := s.refs.sel
    if k < 8 then own (s.refCfg k).ssm 0xFF
    else if k < 16 then
      let q := s.portOfLane (s.refCfg k).lane
      let r := s.esmc q
      if q = p then own 0xF 0xFF
      else if r.rxExt then { ssm := r.rxQl, essm := r.rxEssm, id := r.rxId, eeec := (r.rxEeec + 1) % 256, eec := r.rxEec }
      else own r.rxQl r.rxEssm
    else
      match s.session? (k - 0x400) with
      | some x => if x.cfg.port = p then own 0xF 0xFF else own (s.refRank k).pktSsm (s.refRank k).pktEssm
      | none => own (s.refRank k).pktSsm (s.refRank k).pktEssm

/-- An ESMC PDU as a frame without FCS (R300; the bytes the spec does not list are those of ITU-T G.8264, which it names). -/
def State.esmcFrame (s : State) (event ext : Bool) (q : Ql) : List Byte :=
  padFrame (frameHead 0x0180C2000002 s.fused.mgtMac none 0x8809 ++ bytesBE 1 0x0A ++ bytesBE 3 0x0019A7 ++ bytesBE 2 1
    ++ bytesBE 1 (0x10 + 8 * event.toNat) ++ bytesBE 3 0 ++ bytesBE 1 1 ++ bytesBE 2 4 ++ bytesBE 1 q.ssm
    ++ (if ext then bytesBE 1 2 ++ bytesBE 2 20 ++ bytesBE 1 q.essm ++ bytesBE 8 q.id ++ bytesBE 1 0 ++ bytesBE 1 q.eeec ++ bytesBE 1 q.eec
        ++ bytesBE 5 0 else []))

/-- ESMC_PDU_SEND (R300): an information PDU, or an event PDU when the quality level has changed since the last one. -/
def esmcSend (p : Nat) (s : State) : State :=
  let e := s.esmc p
  if e.en = false ∨ s.tpUp = false ∨ s.portExists p = false ∨ s.pairGateOpen = false then s
  else
    let q := s.qlOf p
    let event := match e.lastTx with | some l => decide (l ≠ (q.ssm, q.essm)) | none => false
    let s := s.setEsmc p { e with lastTx := some (q.ssm, q.essm) }
    (s.iqTimePut { bytes := s.esmcFrame event e.ext q, port := p, cls := 7 }).getD s

/-- A frame is an ESMC PDU (R177, R300). -/
def isEsmc (bs : List Byte) : Bool :=
  let h := parseHdr false bs
  decide (h.da = 0x0180C2000002) && decide (h.etype = 0x8809) && decide (be? bs h.pay 4 = some 0x0A0019A7)

/-- The enabled RC slots whose lane belongs to a port (R354). -/
def State.rcOfPort (s : State) (p : Nat) : List Nat :=
  [8, 9, 10, 11, 12, 13, 14, 15].filter (fun k => (s.refCfg k).enable && decide (s.portOfLane (s.refCfg k).lane = p))

/-- Recovered clocks of a port whose quality level forbids them fail their check (R302, R356). -/
def State.checkQl (s : State) (p : Nat) : State :=
  let e := s.esmc p
  if e.failed = true ∨ e.rxQl = 0xF then (s.rcOfPort p).foldl (fun (s : State) k => s.refFail k 4) s else s

/-- The offset of the first TLV of a type in an ESMC PDU, other TLVs being ignored (R300): a type byte, then the length of the whole TLV. -/
def esmcTlv (bs : List Byte) (typ : Nat) : Nat → Nat → Option Nat
  | 0, _ => none
  | n + 1, o =>
    let len := beAt bs (o + 1) 2
    if bs.length < o + 3 ∨ len < 3 then none else if beAt bs o 1 = typ then some o else esmcTlv bs typ n (o + len)

/-- ESMC_PDU_RECEIVED: the oldest ESMC PDU of PQ_TIME (R300). -/
def esmcReceived (s : State) : State :=
  if s.tpUp = false then s
  else
    match s.puntHead 0 (fun f => isEsmc f.bytes) with
    | none => s
    | some (it, f) =>
      if f.badFcs then s.consume it
      else
      let h := parseHdr false f.bytes
      let e := s.esmc f.inPort
      let bs := dropFcs f.bytes
      let ql := match esmcTlv bs 1 512 (h.pay + 10) with | some o => beAt bs (o + 3) 1 % 16 | none => e.rxQl
      let x := (esmcTlv bs 2 512 (h.pay + 10)).filter (fun o => decide (beAt bs (o + 1) 2 = 20 ∧ o + 20 ≤ bs.length))
      let ext := x.isSome
      let o := x.getD 0
      let e := { e with
        rxQl := ql, rxValid := true, failed := false, rxExt := ext, rxPdus := inc16 e.rxPdus, rxEssm := if ext then beAt bs (o + 3) 1 else 0xFF,
        rxId := if ext then beAt bs (o + 4) 8 else 0, rxEeec := if ext then beAt bs (o + 13) 1 else 0,
        rxEec := if ext then beAt bs (o + 14) 1 else 0 }
      ((s.consume it).setEsmc f.inPort e).checkQl f.inPort

/-- ESMC_RX_TIMEOUT (R302). -/
def esmcTimeout (p : Nat) (s : State) : State := (s.setEsmc p { s.esmc p with failed := true, rxValid := false }).checkQl p

/-- SESSION.ESMC (R314). -/
def bodySesEsmc : Body := fun c ws s =>
  let w := bit (wd ws 0) 31
  let p := min 103 (fld (wd ws 0) 6 0)
  let w1 := wd ws 1
  let e := s.esmc p
  let e := if w = true ∧ s.portExists p = true then
    { e with en := bit w1 0, opt := bit w1 1, ext := bit w1 2, force := bit w1 3, txQl := fld w1 7 4, txEssm := fld w1 15 8 } else e
  (s.setEsmc p e).ok c
    [pack [(31, w.toNat), (0, p)],
     pack [(0, e.en.toNat), (1, e.opt.toNat), (2, e.ext.toNat), (3, e.force.toNat), (4, e.txQl), (8, e.txEssm)],
     pack [(0, e.rxQl), (4, e.rxEssm), (12, e.rxValid.toNat), (13, e.rxExt.toNat), (16, e.rxPdus)]]

end Sys2Proof.Machine
end

