-- ==== Sys2Proof/Machine/Closure.lean ====
section
/-! DEFINITION. Closure calibration (R331-R336, R348, R349): the run, its probes, its figures and its end. -/

namespace Sys2Proof.Machine

open Sys2Proof

/-! ### Stored results and replies -/

/-- The words of a closure result (R348). -/
def closureWords (ring n gen : Nat) (e k : Int) (retCw retCcw : Nat) (res : List Int) : List Word :=
  [pack [(0, ring), (16, n), (24, gen % 256)], i32 e, i32 k, pack [(0, min 8191 retCw), (16, min 8191 retCcw)]] ++ res.map i32

/-- The stored residuals of a ring as `n` values, 0 before the first successful run (R336). -/
def State.storedRes (s : State) (ring n : Nat) : List Int :=
  let l := match Tab.find? s.hier.rings ring with | some r => r.res | none => []
  (List.range n).map (fun i => l.getD i 0)

/-- The generation in force of a ring. -/
def State.ringGen (s : State) (ring : Nat) : Nat := match Tab.find? s.hier.rings ring with | some r => r.gen | none => 0

/-- A session of this device that runs on a port. -/
def State.ownSessionOn (s : State) (sid port : Nat) : Bool :=
  match s.session? sid with | some x => decide (x.cfg.port = port) | none => false

/-! ### Starting a run (R331, R334) -/

/-- The links a HIER.CLOSURE spells (R348). -/
def linksOf (n : Nat) (ws : List Word) : List Link :=
  (List.range n).map (fun i =>
    { node := min 0x3FFFE (fld (wd ws (4 + 4 * i)) 17 0), outPort := min 103 (fld (wd ws (4 + 4 * i)) 30 24),
      inPort := min 103 (fld (wd ws (5 + 4 * i)) 6 0), sid := fld (wd ws (5 + 4 * i)) 25 16, aFix := sfld (wd ws (6 + 4 * i)) 31 0,
      wlCoef := clampZ (-1000000) 1000000 (sfld (wd ws (7 + 4 * i)) 31 0) })

/-- The run a HIER.CLOSURE starts. -/
def closureOf (c : Ctx) (ws : List Word) : Closure :=
  let n := clamp 3 32 (fld (wd ws 0) 21 16)
  { ctx := c, ring := fld (wd ws 0) 3 0, domain := fld (wd ws 0) 15 8, probes := clamp 1 4096 (fld (wd ws 1) 12 0),
    kLimit := clamp 1 65535 (fld (wd ws 1) 31 16), eLimit := clamp 1 1000000 (wd ws 2).toNat, mgrSid := fld (wd ws 3) 9 0, links := linksOf n ws }

/-- The child entry of a DEVICE_ID. -/
def State.childOf (s : State) (id : Nat) : Option (Nat × Worker) :=
  List.find? (fun (e : Nat × Worker) => decide (e.2.childId = id)) s.workers

/-- A SID is one of the ring sessions a worker reports (R331, R351). -/
def Worker.ringSid (w : Worker) (sid : Nat) : Bool :=
  let x := wd w.report 6
  (bit x 10 && decide (fld x 9 0 = sid)) || (bit x 26 && decide (fld x 25 16 = sid))

/-- The nodes and sessions of a run can serve it: its nodes are children that are not ABSENT, and every SID is a ring session of its node,
or on the manager a session on its port (R331, R334). -/
def State.closureReady (s : State) (r : Closure) : Bool :=
  let n := r.links.length
  (List.range n).all (fun i =>
    let l := r.links.getD i { node := 0, outPort := 0, inPort := 0, sid := 0, aFix := 0, wlCoef := 0 }
    if i + 1 = n then s.ownSessionOn l.sid l.inPort
    else
      let next := r.links.getD (i + 1) l
      match s.childOf next.node with
      | some (_, w) => decide (w.pres ≠ Pres.absent) && w.ringSid l.sid
      | none => false)

/-- A rejected run replies: stored residuals stay, figures not reached are free values (R334, R348). -/
def State.replyRejected (s : State) (r : Closure) (reason : Nat) (fig : Option (Int × Int)) : State :=
  let (e, s) := match fig with | some f => (f.1, s) | none => s.drawInt
  let (k, s) := match fig with | some f => (f.2, s) | none => s.drawInt
  let n := r.links.length
  s.complete r.ctx {
    status := stRejected, detail := reason,
    words := closureWords r.ring n (s.ringGen r.ring) e k r.sumCw.length r.sumCcw.length (s.storedRes r.ring n) }

/-- The manager's own two ports of a stored ring. -/
def ringEnds (x : RingRes) : List Nat :=
  match x.links, x.links.getLast? with
  | a :: _, some z => [a.outPort, z.inPort]
  | _, _ => []

/-- A closure result as the active of a pair tells it (R463), and as its partner takes it. -/
def ringTell (ring : Nat) (x : RingRes) : List Word :=
  [3, w32 ring, w32 x.gen, w32 x.n] ++ s64Words x.e ++ s64Words x.k ++ [w32 x.retCw, w32 x.retCcw, w32 x.links.length]
    ++ x.links.flatMap (fun l => [w32 l.node, pack [(0, l.outPort), (8, l.inPort), (16, l.sid)], i32 l.aFix, i32 l.wlCoef])
    ++ x.res.flatMap s64Words
def linksTold : Nat → List Word → List Link
  | 0, _ => []
  | n + 1, c => { node := fld (wd c 0) 17 0, outPort := fld (wd c 1) 6 0, inPort := fld (wd c 1) 14 8, sid := fld (wd c 1) 31 16,
                  aFix := sfld (wd c 2) 31 0, wlCoef := sfld (wd c 3) 31 0 } :: linksTold n (c.drop 4)
def pairsTold : List Word → List Int
  | a :: b :: t => s64Arg [a, b] 0 :: pairsTold t
  | _ => []
def ringTold (c : List Word) : RingRes :=
  let n := (wd c 10).toNat
  { gen := (wd c 2).toNat, n := (wd c 3).toNat, e := s64Arg c 4, k := s64Arg c 6, retCw := (wd c 8).toNat, retCcw := (wd c 9).toNat,
    links := linksTold (min 4096 n) (c.drop 11), res := pairsTold (c.drop (11 + 4 * n)) }

/-- The stored closure results change, here and in the hierarchy record (R335, R597). -/
def State.setRings (s : State) (t : Tab RingRes) : State :=
  { s with hier := { s.hier with rings := t }, mram := { s.mram with rings := t } }

/-- Other stored rings that share a node with a run lose their results (R331). -/
def State.dropRings (s : State) (r : Closure) : State :=
  let nodes := (r.links.drop 1).map Link.node
  let shares := fun (k : Nat) (x : RingRes) => decide (k ≠ r.ring) && (x.links.drop 1).any (fun l => nodes.contains l.node)
  let gone := (s.hier.rings.filter (fun e => shares e.1 e.2)).flatMap (fun e => ringEnds e.2)
  let keys := (s.hier.rings.filter (fun e => shares e.1 e.2)).map Prod.fst
  let s := s.setRings (s.hier.rings.filter (fun e => !(shares e.1 e.2)))
  let s := { s with hier := { s.hier with residuals := Tab.keep (fun p _ => !(gone.contains p)) s.hier.residuals } }
  keys.foldl (fun s k => s.twinTell [4, w32 k]) s

/-- Start waiting closure commands while none runs: one that cannot run is rejected at once (R334). The fuel is their number. -/
def startClosures : Nat → State → State
  | 0, s => s
  | f + 1, s =>
    if s.hier.closure.isSome then s
    else
      match s.findJob (fun w => match w with | .closure _ => true | _ => false) with
      | some { ctx := c, work := .closure ws } =>
        let s := { s with axg := { s.axg with jobs := s.axg.jobs.erase { ctx := c, work := .closure ws } } }
        let r := closureOf c ws
        if s.closureReady r then
          let s := s.dropRings r
          { s with hier := { s.hier with closure := some r } }
        else startClosures f (s.replyRejected r 1 none)
      | _ => s

def State.nextClosure (s : State) : State := startClosures s.axg.jobs.length s

/-- LEN of HIER.CLOSURE: 4 + 4N with the effective N (R348). -/
def lenClosure : LenRule := fun ws =>
  let n := 4 + 4 * clamp 3 32 (fld (wd ws 0) 21 16)
  if ws = [] then some 0 else if ws.length = n then none else some n

/-- HIER.CLOSURE (R331, R334). -/
def bodyClosure : Body := fun c ws s => (s.hold c (.closure ws)).nextClosure

/-- HIER.CLOSURE_READ (R349). -/
def bodyClosureRead : Body := fun c ws s =>
  let ring := fld (wd ws 0) 3 0
  match Tab.find? s.hier.rings ring with
  | some r => s.ok c (closureWords ring r.n r.gen r.e r.k r.retCw r.retCcw r.res)
  | none => s.ok c (closureWords ring 0 0 0 0 0 0 [])

/-! ### The end of a run (R332-R336) -/

/-- The run in progress is rejected (R334). -/
def State.rejectClosure (s : State) (reason : Nat) : State :=
  match s.hier.closure with
  | none => s
  | some r => (({ s with hier := { s.hier with closure := none } }).replyRejected r reason none).nextClosure

/-- A port of the run leaves UP, or its bypass pair closes (R334). -/
def State.closurePortLost (s : State) (p : Nat) : State :=
  match s.hier.closure with
  | some r =>
    if (r.links.head?.map Link.outPort) = some p ∨ (r.links.getLast?.map Link.inPort) = some p then s.rejectClosure 1 else s
  | none => s

/-- A node of the run becomes ABSENT (R334). -/
def State.closureNodeLost (s : State) (id : Nat) : State :=
  match s.hier.closure with
  | some r => if (r.links.drop 1).any (fun l => decide (l.node = id)) then s.rejectClosure 1 else s
  | none => s

/-- A quotient rounded to the nearest, halves toward plus infinity. -/
def roundUpHalf (a : Int) (b : Nat) : Int := (2 * a + b) / (2 * b : Nat)

/-- The round trips r_i of the links, twice the means of the delays given for each, over one common denominator: exact, in ps (R333). -/
def roundTrips (l : List (List Int)) : List Int × Nat :=
  let d := (l.map (fun x => max 1 x.length)).prod
  (l.map (fun x => 2 * x.sum * ((d / max 1 x.length : Nat) : Int)), d)

/-- E and K in ps from the loop sums, the round trips over their denominator, and the model (R334). -/
def closureFigures (links : List Link) (cw ccw : List Int) (r : List Int) (den : Nat) : Int × Int :=
  let a := cw.length
  let b := ccw.length
  let model := (links.zip r).map (fun x => x.1.aFix * 2000000000 * (den : Int) + x.1.wlCoef * x.2)
  let e := (cw.sum * 1000 * b - ccw.sum * 1000 * a) * 2000000000 * (den : Int) - model.sum * (2 ^ 19 * a * b : Nat)
  let k := (cw.sum * 1000 * b + ccw.sum * 1000 * a) * (den : Int) - r.sum * (2 ^ 18 * a * b : Nat)
  let lim := fun (x : Int) => clampZ (-(2 ^ 31)) (2 ^ 31 - 1) x
  (lim (roundUpHalf e (2 ^ 19 * a * b * 2000000000 * den)), lim (roundUpHalf k (2 ^ 18 * a * b * den)))

/-- The index of the largest round trip, the lowest on a tie. -/
def largestOf (r : List Int) : Nat :=
  (r.zipIdx.foldl (fun (best : Int × Nat) x => if best.1 < x.1 then (x.1, x.2) else best) (r.headD 0, 0)).2

/-- The residuals: E spread in proportion to the round trips, the remainder to the largest (R335). -/
def spreadResiduals (e : Int) (r shares : List Int) : List Int :=
  shares.modify (largestOf r) (fun x => x + (e - shares.sum))

/-- The manager's own reading for the last link, in ps: its session's mean path delay (R333). -/
def State.ownDelay (s : State) (r : Closure) : Option Int :=
  ((r.links.getLast?.bind (fun l => s.session? l.sid)).bind Session.delay).map (fun d => roundDiv (d * 1000) 262144)

/-- The delays of every link while the run's probes were in flight (R333). -/
def Closure.runDelays (r : Closure) : List (List Int) := (List.range r.links.length).map (fun i => (Tab.find? r.delays i).getD [])

/-- The run may end (R332, R333). -/
def Closure.complete (r : Closure) : Bool :=
  decide (r.probes ≤ r.sumCw.length) && decide (r.probes ≤ r.sumCcw.length)
    && (List.range (r.links.length - 1)).all (fun i => decide (2 ≤ ((Tab.find? r.delays i).getD []).length))
    && ((Tab.find? r.delays (r.links.length - 1)).getD []) ≠ []

/-- The residuals of a stored ring for its manager's own two ports apply at once (R336). -/
def State.applyOwn (s : State) (x : RingRes) : State :=
  match x.links, x.links.getLast? with
  | a :: _, some z =>
    let t := Tab.insert s.hier.residuals a.outPort (-(x.res.headD 0), x.gen)
    { s with hier := { s.hier with residuals := Tab.insert t z.inPort (x.res.getLastD 0, x.gen) } }
  | _, _ => s

/-- End a run whose probes and reports are complete (R334, R335). -/
def State.tryFinish (s : State) : State :=
  match s.hier.closure with
  | none => s
  | some r =>
    if r.complete = false then s
    else
      let (trips, den) := roundTrips r.runDelays
      let fig := closureFigures r.links r.sumCw r.sumCcw trips den
      let s := { s with hier := { s.hier with closure := none } }
      if r.kLimit < fig.2.natAbs ∨ r.eLimit < fig.1.natAbs then (s.replyRejected r 3 (some fig)).nextClosure
      else
        let (x, s) := if trips.sum = 0 then s.drawInt else ((0 : Int), s)
        let shares : List Int := if trips.sum = 0 then trips.map (fun _ => x) else trips.map (fun t => roundUpHalf (fig.1 * t) trips.sum.toNat)
        let res := spreadResiduals fig.1 trips shares
        let y : RingRes :=
          { gen := (s.ringGen r.ring + 1) % 256, n := r.links.length, e := fig.1, k := fig.2, retCw := r.sumCw.length, retCcw := r.sumCcw.length,
            res := res, links := r.links }
        let old := match Tab.find? s.hier.rings r.ring with | some o => ringEnds o | none => []
        let s := s.setRings (Tab.insert s.hier.rings r.ring y)
        let s := { s with hier := { s.hier with residuals := Tab.keep (fun p _ => !(old.contains p)) s.hier.residuals } }
        (((s.applyOwn y).twinTell (ringTell r.ring y)).ok r.ctx (closureWords r.ring y.n y.gen y.e y.k y.retCw y.retCcw res)).nextClosure

/-- A worker's report gives the mean path delay of a link of the run, and with each report of a node the manager reads its own session (R333; when
it reads is a DESIGN CHOICE, notes/assumptions/29.md). A node or session that can serve the run no longer ends it (R334). -/
def State.closureReport (s : State) (w : Worker) : State :=
  match s.hier.closure with
  | none => s
  | some r =>
    if s.closureReady r = false then s.rejectClosure 1
    else
    let x := wd w.report 6
    let add := fun (t : Tab (List Int)) (i : Nat) =>
      let l := r.links.getD i { node := 0, outPort := 0, inPort := 0, sid := 0, aFix := 0, wlCoef := 0 }
      let next := r.links.getD (i + 1) l
      if i + 1 < r.links.length ∧ next.node = w.childId ∧ 0 < r.sentCw + r.sentCcw then
        let d := if bit x 10 = true ∧ fld x 9 0 = l.sid then some (sfld (wd w.report 4) 31 0)
          else if bit x 26 = true ∧ fld x 25 16 = l.sid then some (sfld (wd w.report 5) 31 0) else none
        match d with
        | some v => Tab.insert t i (v :: (Tab.find? t i).getD [])
        | none => t
      else t
    let t := (List.range r.links.length).foldl add r.delays
    let last := r.links.length - 1
    let t := match s.ownDelay r with
      | some d => if t = r.delays then t else Tab.insert t last (d :: (Tab.find? t last).getD [])
      | none => t
    ({ s with hier := { s.hier with closure := some { r with delays := t } } }).tryFinish

/-! ### Probes (R332) -/

/-- A probe as a frame without FCS: a one-step Sync of the run's domain. -/
def State.probeFrame (s : State) (domain port seq : Nat) : List Byte :=
  padFrame (frameHead 0x011B19000000 s.fused.mgtMac none 0x88F7 ++ bytesBE 1 0 ++ bytesBE 1 0x12 ++ bytesBE 2 44 ++ bytesBE 1 domain ++ bytesBE 1 0
    ++ bytesBE 2 0 ++ bytesBE 8 0 ++ bytesBE 4 0 ++ bytesBE 8 s.clockId ++ bytesBE 2 (port + 1) ++ bytesBE 2 seq ++ bytesBE 1 0 ++ bytesBE 1 0
    ++ bytesBE 10 0)

/-- CLOSURE_PROBE_SEND: direction 0 is clockwise, 1 counter-clockwise. After 4 x PROBES probes without PROBES returned the run is rejected
(R334). -/
def closureProbeSend (ccw : Bool) (s : State) : State :=
  match s.hier.closure with
  | none => s
  | some r =>
    let sent := if ccw then r.sentCcw else r.sentCw
    let ret := if ccw then r.sumCcw.length else r.sumCw.length
    let port := if ccw then (r.links.getLast?.map Link.inPort).getD 0 else (r.links.head?.map Link.outPort).getD 0
    if s.tpUp = false then s
    else if s.closureReady r = false then s.rejectClosure 1
    else if 4 * r.probes ≤ sent ∧ ret < r.probes then s.rejectClosure 1
    else
      let r' := { r with
        seq := (r.seq + 1) % 65536, sentCw := r.sentCw + (!ccw).toNat, sentCcw := r.sentCcw + ccw.toNat,
        flying := (r.seq, ccw.toNat, none) :: (r.flying.filter (fun f => decide (f.1 ≠ r.seq))) }
      let s := { s with hier := { s.hier with closure := some r' } }
      (s.iqTimePut { bytes := s.probeFrame r.domain port r.seq, port := port, cls := 7, mark := .probe ccw.toNat }).getD s

/-- A probe leaves with its transmit stamp (R332). -/
def State.probeSent (s : State) (seq : Nat) (st : Stamp) : State :=
  match s.hier.closure with
  | none => s
  | some r =>
    { s with hier := { s.hier with closure := some { r with
        flying := r.flying.map (fun (f : Nat × Nat × Option Int) => if f.1 = seq then (f.1, f.2.1, some (st.frac 0)) else f) } } }

/-- A message is a returning probe of the run (R177, R332). -/
def State.isProbe (s : State) (sa : Nat) (m : Msg) : Bool :=
  match s.hier.closure with
  | some r => decide (m.typ = 0 ∧ m.domain = r.domain ∧ sa = s.fused.mgtMac) && r.flying.any (fun f => decide (f.1 = m.seq))
  | none => false

/-- The latency of a session of this device in units of 2^-18 ns, 0 without one. -/
def State.latOf (s : State) (sid : Nat) (ing : Bool) : Int :=
  match s.session? sid with | some x => 4 * (if ing then x.cfg.ingress else x.cfg.egress) | none => 0

/-- A stored frame is a returning probe of the run. -/
def State.isReturn (s : State) (f : Frame) : Bool :=
  match s.frameMsg f with
  | some (_, m) => s.isProbe (parseHdr false f.bytes).sa m
  | none => false

/-- CLOSURE_PROBE_RETURN: the oldest returned probe of PQ_TIME gives its loop sum (R332). -/
def closureProbeReturn (s : State) : State :=
  match s.puntHead 0 s.isReturn with
  | none => s
  | some (it, f) =>
    if f.badFcs then s.consume it
    else
    match s.frameMsg f, s.hier.closure with
    | some (_, m), some r =>
      let s := s.consume it
      match r.flying.find? (fun q => decide (q.1 = m.seq)) with
      | some (q, dir, some tx) =>
        let last := (r.links.getLast?.map Link.sid).getD 0
        let out := if dir = 0 then r.mgrSid else last
        let inn := if dir = 0 then last else r.mgrSid
        let sum := (f.rx.frac 0 - s.latOf inn true) - (tx + s.latOf out false) - 4 * m.corr
        let r := { r with
          flying := r.flying.filter (fun x => decide (x.1 ≠ q))
          sumCw := if dir = 0 then sum :: r.sumCw else r.sumCw
          sumCcw := if dir = 0 then r.sumCcw else sum :: r.sumCcw }
        ({ s with hier := { s.hier with closure := some r } }).tryFinish
      | _ => s
    | _, _ => s.consume it

end Sys2Proof.Machine
end

