-- ==== Sys2Proof/Machine/Links.lean ====
section
/-! DEFINITION. How lanes, ports and bypass pairs move together (chapters 03 and 04): lane steps, link loss and return, doze, closing and opening a
pair. The commands stand in Machine/Lanes.lean and Machine/Ports.lean. -/

namespace Sys2Proof.Machine

open Sys2Proof

namespace State

/-! ### What holds a lane or a port -/

/-- The lane belongs to a TQ port (R137). -/
def inTq (s : State) (l : Nat) : Bool := decide (l < 32) && s.formed (l / 4)

/-- The four lanes of a lane's TQ group, or the lane alone. -/
def groupOf (s : State) (l : Nat) : List Nat := if s.inTq l then portLanes (96 + l / 4) else [l]

/-- The bypass pairs that hold a port (R155, R162). -/
def pairsOf (_ : State) (p : Nat) : List Nat :=
  if p < 8 then [p / 2] else if p = 96 then [0, 1] else if p = 97 then [2, 3] else []

/-- A pair disconnects its lanes: it is closed, closing, or has not yet released them (R104, R157, R160). -/
def pairHolds (s : State) (b : Nat) : Bool :=
  match (s.pair b).st with
  | .opened => false
  | .probing => !(s.pair b).released
  | _ => true

/-- The port is BYPASSED (R145, R162). -/
def bypassed (s : State) (p : Nat) : Bool := (s.pairsOf p).any s.pairHolds

/-- The lane's pair keeps its driver idle (R104). -/
def laneHeld (s : State) (l : Nat) : Bool := decide (l < 8) && s.pairHolds (l / 2)

/-- The effective FEC of a port (R138). -/
def fecOf (s : State) (p : Nat) : Nat :=
  let m := (s.port p).fecMode
  if 96 ≤ p then m else if p < 32 ∧ (s.lane p).rate = 4 then m else 0

/-- The lane is held as a reference (R21, R354). -/
def refHold (s : State) (l : Nat) : Bool :=
  [8, 9, 10, 11, 12, 13, 14, 15].any (fun k => (s.refCfg k).enable && decide ((s.refCfg k).lane = l))

/-- The lane's recovered clock is usable (R113). -/
def laneUsable (s : State) (l : Nat) : Bool :=
  let x := s.lane l
  x.cdrLock && !x.rxDoze && decide (x.loopMode ≠ 1 ∧ x.loopMode ≠ 3)

/-- Reference checks of the RC slots that name a lane (R356). -/
def checkLane (s : State) (l : Nat) : State :=
  if s.laneUsable l then s
  else ([8, 9, 10, 11, 12, 13, 14, 15].filter (fun k => decide ((s.refCfg k).lane = l))).foldl (fun (s : State) k => s.refFail k 3) s

/-- No link loss: every lane in step 7 outside loopback, no fault received, alignment held (R140, R145). -/
def linkOk (s : State) (p : Nat) : Bool :=
  let x := s.port p
  (portLanes p).all (fun l => decide ((s.lane l).step = 7) && decide ((s.lane l).loopMode = 0)) && !x.localFault && !x.remoteFault && !x.alignLost

/-! ### Port states (R140-R146) -/

/-- A port leaves UP: its sessions stop, a closure run on it ends, and the twin link on it goes down (R291, R334, R466). -/
def leaveUp (s : State) (p : Nat) : State :=
  let s := (s.sessionsDown p).closurePortLost p
  if s.pcfg.en = true ∧ p = s.pcfg.twinPort then s.twinLost else s

/-- A port becomes DOWN, DISABLED or BYPASSED without the filter, or at its end (R142, R143, R145). -/
def portDown (s : State) (p : Nat) (st : PortSt) : State :=
  let was := (s.port p).st
  let s := s.modPort p (fun (x : Port) => { x with st := st })
  if was = .up then (((s.truncateRx p).flushPort p).leaveUp p)
  else if was = .filter then s.flushPort p
  else s

/-- A link loss is observed on an UP port: its filter starts, and expires at once when LF_FILTER is 0 (R140, R141, R143). -/
def portLoss (s : State) (p : Nat) : State :=
  let s := s.truncateRx p
  let s := s.modPort p (fun (x : Port) => { x with lfEvents := inc16 x.lfEvents, st := PortSt.filter })
  let s := s.leaveUp p
  if (s.port p).lfFilter = 0 then s.portDown p .down else s

/-- Both ports of a probing pair are UP: the pair is OPEN (R159). -/
def confirmPair (s : State) (b : Nat) : State :=
  let x := s.pair b
  if x.st = .probing ∧ x.released = true ∧ ([2 * b, 2 * b + 1].all (fun l => decide ((s.port (s.portOfLane l)).st = .up))) = true then
    s.setPair b { x with st := .opened }
  else s

/-- A port returns to UP (R141, R144): its sessions start (R291). -/
def portUp (s : State) (p : Nat) : State :=
  let was := (s.port p).st
  let s := s.modPort p (fun (x : Port) => { x with st := PortSt.up, lfRecovered := if was = PortSt.filter then inc16 x.lfRecovered else x.lfRecovered })
  (s.pairsOf p).foldl confirmPair (s.sessionsUp p)

/-- The receive link of a port in service is down (R139): a lane is not in step 7, alignment is lost, or Local Fault is received. -/
def rxLinkDown (s : State) (p : Nat) : Bool :=
  let x := s.port p
  s.portExists p && x.enable && !(s.bypassed p)
    && ((portLanes p).any (fun l => decide ((s.lane l).step ≠ 7)) || x.localFault || x.alignLost)

/-- Remote Fault is sent while the receive link is down (R139). -/
def syncFault (s : State) (p : Nat) : State :=
  let on := s.rxLinkDown p
  if (s.port p).faultTx = on then s else (s.modPort p (fun (x : Port) => { x with faultTx := on })).emit (.remoteFault p on)

/-- Bring a port's state in line with its lanes, faults, enable and pair (R140-R145). A port with ENABLE 0 whose pair is closed reads DISABLED, not
BYPASSED (DESIGN CHOICE, notes/assumptions/64.md). -/
def syncState (s : State) (p : Nat) : State :=
  let x := s.port p
  if s.portExists p = false then (if x.st = .disabled then s else s.portDown p (if x.enable then .down else .disabled))
  else if x.enable = false then (if x.st = .disabled then s else s.portDown p .disabled)
  else if s.bypassed p then (if x.st = .bypassed then s else s.portDown p .bypassed)
  else
    let ok := s.linkOk p
    match x.st with
    | .up => if ok then s else s.portLoss p
    | .filter => if ok then s.portUp p else s
    | _ =>
      let s := s.modPort p (fun (x : Port) => { x with st := PortSt.down })
      if ok then s.portUp p else s

/-- A port follows its lanes, and its Remote Fault with it. -/
def syncPort (s : State) (p : Nat) : State := (s.syncState p).syncFault p

/-- An event of R145 takes a port DOWN at once (R145, R146); it returns when no loss is left. -/
def forceDown (s : State) (p : Nat) : State :=
  if (s.port p).st = .up ∨ (s.port p).st = .filter then s.portDown p .down else s

/-! ### Doze signalling (R114-R121) -/

/-- DOZE_ALLOWED (R114, R132). -/
def dozeAllowed (s : State) (l : Nat) : Bool :=
  let x := s.lane l
  x.dozeEn && decide (2 ≤ x.rate ∧ x.rate ≤ 4) && decide (s.fecOf (s.portOfLane l) = 0) && !(s.inTq l) && decide (x.step = 7) && !x.sketching

/-- DOZE_OK of the flags the lane sends (R116). -/
def dozeOk (s : State) (l : Nat) : Bool := !(s.refHold l) && !(s.lane l).sketching

/-- A DISABLED port sends electrical idle: its lanes' drivers send nothing (R145). -/
def driverIdle (s : State) (l : Nat) : Bool := decide ((s.port (s.portOfLane l)).st = .disabled)

/-- A lane's transmitter sends something, if its driver is on. -/
def laneSends (s : State) (l : Nat) (o : Output) : State := if s.driverIdle l then s else s.emit o

/-- A FLAGS set is sent (R115). -/
def sendFlags (s : State) (l : Nat) : State :=
  let ok := s.dozeOk l
  if s.driverIdle l then s
  else (s.modLane l (fun (x : Lane) => { x with flagsSent := some ok })).emit (.ordered l (0xD50100 + ok.toNat))

/-- Exit begins: the burst leaves (R119). -/
def wake (s : State) (l : Nat) : State :=
  if (s.lane l).doze = .dozing then (s.modLane l (fun (x : Lane) => { x with doze := Doze.exiting })).laneSends l (.ordered l 0) else s

/-- The part may assert low-power idle on a lane (R122): with DOZE_EN set too, only while the partner sends no doze flags. -/
def lpiMay (s : State) (l : Nat) : Bool :=
  let x := s.lane l
  x.lpiEn && decide (1 ≤ x.medium) && decide (x.rate = 3 ∨ x.rate = 4) && !(s.inTq l) && !(s.refHold l)
    && !(x.dozeEn && x.chotonPartner) && decide (x.step = 7)

/-- The lane's flags or its conditions to doze have changed: new flags leave, or a dozing transmitter exits to send them (R115, R116, R132). -/
def dozeChanged (s : State) (l : Nat) : State :=
  let s := if (s.lane l).lpiTx = true ∧ s.lpiMay l = false then s.modLane l (fun (x : Lane) => { x with lpiTx := false }) else s
  let x := s.lane l
  if x.step ≠ 7 then s
  else if x.doze = .dozing then (if x.dozeEn = false ∨ s.dozeOk l = false then s.wake l else s)
  else if x.dozeEn = true ∧ x.doze = .awake ∧ x.flagsSent ≠ some (s.dozeOk l) then s.sendFlags l
  else s

/-- A frame waits in an egress queue of the lane's port. -/
def egressWaiting (s : State) (l : Nat) : Bool :=
  let p := s.portOfLane l
  s.buf.copies.any (fun c => decide (c.port = p) && decide (c.st ≠ CopySt.pending))

/-- A wake trigger holds (R119). -/
def wakeTrigger (s : State) (l : Nat) : Bool :=
  let x := s.lane l
  s.egressWaiting l || !x.partnerDozeOk || !(s.dozeOk l) || !x.dozeEn

/-! ### Calibration steps that end REJECTED (R517, R527) -/

/-- The RATE that keys an item's value now: the lane's, for a lane item (R508). -/
def itemRate (s : State) (item : Nat) : Nat := if item < 192 then (s.lane (item % 96)).rate else 0

/-- The item entry of CAL.STATUS (R530). -/
def calEntry (s : State) (item : Nat) : List Word :=
  let rate := s.itemRate item
  let v := (Tab.find? s.pal.vals (8 * item + rate)).getD { value := 0, temp := 0, since := s.clk.tick }
  [pack [(0, item), (9, s.palState item rate), (11, (Tab.find? s.pal.reasons item).getD 0), (13, rate), (16, v.res)],
   pack [(0, lowBits 20 v.value), (20, (Tab.find? s.pal.rejects item).getD 0)],
   pack [(0, min 0xFFFF (s.palAge v)), (16, lowBits 16 v.temp)]]

/-- The reply of the CAL.RUN whose step has ended (R529). -/
def calReply (s : State) (c : CalStep) (reason : Nat) : State :=
  if c.byRun then
    s.completeFirst (fun w => decide (w = .calRun c.item))
      { status := if reason = 0 then stOk else stRejected, detail := reason, words := s.calEntry c.item }
  else s

/-- A step ends REJECTED: its reason, its count, its event, and for the trace its record (R517). -/
def calReject (s : State) (c : CalStep) (reason : Nat) : State :=
  let p := s.pal
  let n := (Tab.find? p.rejects c.item).getD 0
  let s := { s with pal := { p with
    reasons := Tab.insert p.reasons c.item reason, rejects := Tab.insert p.rejects c.item (satAdd 0xFFF n 1) } }
  let s := if c.item = 245 then s.log .timing 0x0801 (srcOf 10 245) (w32 reason) 0 0 else s.queueEvent .timing none
  s.calReply c reason

/-- A calibration step on a lane's stamp paths ends at once, REJECTED: 1 the lane left step 7, 2 its RATE changed (R527). -/
def breakCal (s : State) (l why : Nat) : State :=
  (s.pal.steps.filter (fun c => (decide (c.item = l) || decide (c.item = 96 + l)) && !c.lost)).foldl (fun (s : State) c =>
    ({ s with pal := { s.pal with steps := s.pal.steps.erase c, near := Tab.erase s.pal.near c.item } }).calReject c why) s

/-! ### Lane steps (R100) -/

/-- A lane changes step: a link-state event (R29, R100); out of step 7 doze ends, into it the counts and flags of step 7 begin anew. -/
def laneStep (s : State) (l n : Nat) : State :=
  let x := s.lane l
  if x.step = n then s
  else
    let s := s.setLane l { x with
      step := n
      doze := .awake
      txDoze := false
      rxDoze := false
      codeErrors := if n = 7 then 0 else x.codeErrors
      chotonPartner := x.chotonPartner && decide (n ≠ 7)
      partnerDozeOk := x.partnerDozeOk && decide (n ≠ 7)
      flagsSent := none
      burst := x.burst && decide (n = 3)
      scanLost := x.scanLost || (x.sketching && decide (x.step = 7))
      solo := x.solo && decide (n ≠ 7) }
    let s := if x.step = 7 then (s.breakCal l 1).dropJobs (fun j => decide (j = JobFor.sketch l) && x.sketching) else s
    s.queueEvent .data none

/-- Reply to the LANE.TRAIN commands of a lane (R131). -/
def endTraining (s : State) (l : Nat) (abandoned : Bool) : State :=
  let x := s.lane l
  let s := (s.setLane l { x with preset := false }).dropJobs (fun j => decide (j = JobFor.train l) && abandoned)
  s.completeWhere (fun w => match w with
    | .laneTrain k _ started =>
      if k = l ∧ (started = true ∨ abandoned = true) then
        some (okRpl [pack [(0, (x.trained && !abandoned).toNat), (1, abandoned.toNat)], pack [(0, x.taps.pre), (8, x.taps.main), (16, x.taps.post)]])
      else none
    | _ => none)

/-- A lane's bring-up restarts at a step, or at an earlier one it has not passed yet (R100, R110, R111, R131): what the steps from there on
establish is lost. -/
def laneRestart (s : State) (l n : Nat) : State :=
  let x := s.lane l
  let n := if x.enable then min n (max 1 x.step) else 0
  let s := s.setLane l { x with
    pllLock := x.pllLock && decide (2 ≤ n)
    signal := x.signal && decide (3 ≤ n)
    cdrLock := false
    blockLock := false
    burst := false
    attempts := 0
    solo := false
    rxReady := false
    lpiTx := false
    lpiRx := false }
  ((s.laneStep l n).checkLane l).syncPort (s.portOfLane l)

/-- Every lane of a list restarts at a step. -/
def lanesRestart (s : State) (ls : List Nat) (n : Nat) : State := ls.foldl (fun (s : State) l => s.laneRestart l n) s

/-- A lane reaches step 7: its training commands reply, flags are exchanged, its port follows (R100, R116, R131). -/
def laneArrived (s : State) (l : Nat) : State :=
  (((s.laneStep l 7).endTraining l false).dozeChanged l).syncPort (s.portOfLane l)

/-! ### Bypass pairs (R155-R161) -/

/-- The BYPASS.STATUS word of a pair (R173). -/
def pairWord (s : State) (b : Nat) : Word :=
  let x := s.pair b
  let st := match x.st with | .closed => 0 | .opening => 1 | .probing => 2 | .opened => 3 | .closing => 4
  pack [(0, st), (3, x.auto.toNat), (4, x.held.toNat), (5, x.lastCause), (8, x.probeFails), (16, x.closes)]

/-- A close begins (R157): its ports become BYPASSED and its lanes' drivers fall to electrical idle. -/
def startClose (s : State) (b cause : Nat) : State :=
  let x := s.pair b
  if x.st = .closed ∨ x.st = .closing then s
  else
    let s := s.setPair b { x with st := .closing, released := false, lastCause := cause }
    let ls := [2 * b, 2 * b + 1]
    let s := ls.foldl (fun (s : State) l => if 2 < (s.lane l).step then s.laneRestart l 2 else s) s
    let s := ls.foldl (fun (s : State) l => s.syncPort (s.portOfLane l)) s
    ls.foldl (fun (s : State) l => s.closurePortLost (s.portOfLane l)) s

/-- An open begins (R160). -/
def startOpen (s : State) (b : Nat) (probe : Bool) : State :=
  s.modPair b (fun (x : Bypass) => { x with st := if probe then PairSt.probing else PairSt.opening, released := false, retrying := false })

/-- A command in progress for a pair that still has something to do in the pair's present state: a BYPASS.SET that has taken effect rests
while its transition runs (R161). -/
def pairWork (s : State) (b : Nat) (w : Work) : Bool :=
  match w with
  | .bypass k true acted => decide (k = b) && !(acted && decide ((s.pair b).st = PairSt.closing))
  | .bypass k false acted => decide (k = b) && !(acted && decide ((s.pair b).st = PairSt.opening))
  | .policy k _ _ => decide (k = b)
  | _ => false

/-- The commands in progress of a pair, with the first that `pairWork` names marked as having taken effect. -/
def pairActed (s : State) (b : Nat) (close : Bool) : State :=
  { s with axg := { s.axg with jobs := updWork (s.pairWork b) (.bypass b close true) s.axg.jobs } }

/-- HELD follows a commanded close or open as it takes effect (R159). -/
def pairHeld (s : State) (b : Nat) (acted close : Bool) : State :=
  if acted then s else s.modPair b (fun (x : Bypass) => { x with held := close })

/-- The reply of BYPASS.POLICY (R172). -/
def policyWords (s : State) (b : Nat) (w : Bool) : List Word :=
  let x := s.pair b
  [pack [(31, w.toNat), (0, b)], pack [(0, x.auto.toNat), (4, x.openProbe), (16, x.retryGap)]]

/-- A write of BYPASS.POLICY takes effect (R159, R172). -/
def writePolicy (s : State) (b : Nat) (a : Word) : State :=
  s.modPair b (fun (x : Bypass) => { x with
    auto := bit a 0, openProbe := clamp 1 1000 (fld a 15 4), retryGap := clamp 1 3600 (fld a 31 16), held := false,
    retrying := x.retrying && bit a 0 })

/-- Let the commands for a pair act in arrival order as far as its state allows (R161). A close or an open that finds the pair probing with its
lanes released acts at once, since no transition runs (DESIGN CHOICE, notes/assumptions/30.md). The fuel bounds the steps they take. -/
def runPair (b : Nat) : Nat → State → State
  | 0, s => s
  | f + 1, s =>
    let mine := s.pairWork b
    match s.findJob mine with
    | some { ctx := _, work := .bypass _ true acted } =>
      match (s.pair b).st with
      | .closed =>
        let s := (s.pairHeld b acted true).modPair b (fun (x : Bypass) => { x with retrying := false })
        runPair b f (s.completeFirst mine (okRpl [s.pairWord b]))
      | .opened => runPair b f (((s.pairActed b true).pairHeld b acted true).startClose b 4)
      | .probing => if (s.pair b).released then runPair b f (((s.pairActed b true).pairHeld b acted true).startClose b 4) else s
      | .closing => runPair b f ((s.pairActed b true).pairHeld b acted true)
      | .opening => s
    | some { ctx := _, work := .bypass _ false acted } =>
      match (s.pair b).st with
      | .opened =>
        let s := s.pairHeld b acted false
        runPair b f (s.completeFirst mine (okRpl [s.pairWord b]))
      | .probing =>
        if (s.pair b).released then
          let s := (s.pairHeld b acted false).modPair b (fun (x : Bypass) => { x with st := PairSt.opened })
          runPair b f (s.completeFirst mine (okRpl [s.pairWord b]))
        else runPair b f (((s.pairActed b false).pairHeld b acted false).modPair b (fun (x : Bypass) => { x with st := PairSt.opening }))
      | .closed => runPair b f (((s.pairActed b false).pairHeld b acted false).startOpen b false)
      | .opening => runPair b f ((s.pairActed b false).pairHeld b acted false)
      | .closing => s
    | some { ctx := _, work := .policy _ w0 w1 } =>
      let w := bit w0 31
      let s := if w then s.writePolicy b w1 else s
      runPair b f (s.completeFirst mine (okRpl (s.policyWords b w)))
    | _ => s

/-- Serve the commands of a pair. -/
def servePair (s : State) (b : Nat) : State := runPair b (2 * s.axg.jobs.length) s

/-- The policy may act on a pair (R159): no condition of R156 holds, both ports and lanes are enabled, neither lane is in loopback. A watchdog
firing is over once MPI is cut off, so that the policy may act before MPI returns (DESIGN CHOICE, notes/assumptions/65.md). -/
def policyMay (s : State) (b : Nat) : Bool :=
  let x := s.pair b
  let ls := [2 * b, 2 * b + 1]
  x.auto && !x.held && decide (x.st = PairSt.closed) && decide (s.start.power = .run) && decide (s.start.stop = none)
    && ls.all (fun l => (s.port (s.portOfLane l)).enable && (s.lane l).enable && decide ((s.lane l).loopMode = 0))

end State

/-- BYPASS_CLOSE_COMPLETE (R157): tick 1,250 of a close. -/
def bypassClosed (b : Nat) (s : State) : State :=
  let x := s.pair b
  if x.st ≠ .closing then s
  else
    let s := s.setPair b { x with st := .closed, closes := inc16 x.closes, retrying := x.auto && decide (x.lastCause = 5) }
    (s.log .mgmt 0x0201 (srcOf 3 b) (pack [(0, x.lastCause)]) 0 0).servePair b

/-- BYPASS_OPEN_COMPLETE (R160): tick 62,500 of an open; the lanes are released to step 2. -/
def bypassOpened (b : Nat) (s : State) : State :=
  let x := s.pair b
  if x.st ≠ .opening ∧ (x.st ≠ .probing ∨ x.released = true) then s
  else
    let s := s.setPair b { x with released := true, st := if x.st = .opening then .opened else .probing }
    let s := [2 * b, 2 * b + 1].foldl (fun (s : State) l => s.syncPort (s.portOfLane l)) s
    s.servePair b

/-- BYPASS_POLICY_PROBE_START (R159). -/
def probeStart (b : Nat) (s : State) : State := if s.policyMay b = true ∧ (s.pair b).retrying = false then s.startOpen b true else s

/-- OPEN_PROBE_EXPIRY (R159). -/
def openProbeExpiry (b : Nat) (s : State) : State :=
  let x := s.pair b
  if x.st = .probing ∧ x.released = true then (s.setPair b { x with probeFails := inc8 x.probeFails }).startClose b 5 else s

/-- RETRY_GAP_EXPIRY (R159). -/
def retryGapExpiry (b : Nat) (s : State) : State :=
  let x := s.pair b
  if x.retrying = false then s
  else
    let s := s.setPair b { x with retrying := false }
    if s.policyMay b then s.startOpen b true else s

/-- LINK_LOSS (R140, R143, R146): 0 Local Fault, 1 Remote Fault, 2 loss of PCS alignment, 3 a lane's departure from step 7, which the lane's own
step has already brought about. A loss in the tick of an event of R145 only counts. `early`: a frame is being received that has not reached the
byte at which it is decided, so that the part holds nothing else of it; it is counted in RX_TRUNC. -/
def linkLoss (p cause : Nat) (withDown early : Bool) (s : State) : State :=
  let st := (s.port p).st
  let s := s.modPort p (fun (x : Port) => { x with
    localFault := x.localFault || decide (cause = 0)
    remoteFault := x.remoteFault || decide (cause = 1)
    alignLost := x.alignLost || (decide (cause = 2) && decide (96 ≤ p))
    rxTrunc := if early = true ∧ (st = .up ∨ st = .filter ∨ withDown = true) then inc16 x.rxTrunc else x.rxTrunc })
  if withDown = true ∧ st ≠ .up ∧ st ≠ .filter then (s.modPort p (fun (x : Port) => { x with lfEvents := inc16 x.lfEvents })).syncFault p
  else s.syncPort p

/-- LF_FILTER_EXPIRY (R140, R142). -/
def lfFilterExpiry (p : Nat) (s : State) : State := if (s.port p).st = .filter then s.portDown p .down else s

/-- LINK_LOSS_CLEARED (R141, R144): no fault is received and alignment is held; the port returns when its lanes are in step 7. -/
def linkLossCleared (p : Nat) (s : State) : State :=
  (s.modPort p (fun (x : Port) => { x with localFault := false, remoteFault := false, alignLost := false })).syncPort p

end Sys2Proof.Machine
end

