-- ==== Sys2Proof/Machine/Lanes.lean ====
section
/-! DEFINITION. Serial lanes (chapter 03): bring-up, training, lock loss, doze, Sketch, and the LANE commands. -/

namespace Sys2Proof.Machine

open Sys2Proof

/-! ### Rates (R97, R128) -/

/-- The rate a written code gives a lane (R97, R129). -/
def clampRate (l r : Nat) (tq : Bool) : Nat :=
  if tq then 4 else if l < 32 then (if r = 2 then 3 else min 4 r) else min 3 r

/-- Bits a lane carries in a millisecond. -/
def bitsPerMs (rate : Nat) : Nat := [1250000, 3125000, 5156250, 10312500, 25781250].getD rate 25781250

/-- The cost of comparing a number of bits, in uJ: 12 for each started millisecond (R485). -/
def scanCost (rate bits : Nat) : Nat := 12 * ceilDiv bits (bitsPerMs rate)

/-! ### Bring-up (R100-R104) -/

/-- Training of a lane begins: charged, unless a LANE.TRAIN has paid for it (R128, R485, R486). -/
def State.chargeTraining (s : State) (l : Nat) : State :=
  if s.axg.jobs.any (fun j => match j.work with | .laneTrain k _ true => decide (k = l) | _ => false) then s else s.charge (jobFixed 7)

/-- The taps in force when training does not set them (R105, R108). -/
def Lane.trains (x : Lane) : Bool := x.trainEn && decide (x.rate = 3 ∨ x.rate = 4)

/-- Training ends with both receivers ready (R109). -/
def State.trainingDone (s : State) (l : Nat) : State :=
  (s.modLane l (fun (x : Lane) => { x with rxReady := true, trained := true })).laneStep l 5

/-- Step 6 of a group ends (R100, R103, R111, R112): its lanes reach step 7 and the port's alignment is held. A lost lane found at another
position restarts the group. -/
def State.groupAligned (s : State) (l order : Nat) : State :=
  let ls := s.groupOf l
  let first := ls.headD l
  let solo := ls.any (fun k => (s.lane k).solo)
  if ls.all (fun k => decide ((s.lane k).step = 6 ∨ (s.lane k).step = 7)) = false then s
  else if solo = true ∧ order % 256 ≠ (s.lane first).rxOrder then s.lanesRestart ls 3
  else
    let s := s.modLane first (fun (x : Lane) => { x with rxOrder := order % 256, reversed := decide (order % 256 = 0x1B) })
    let s := s.modPort (s.portOfLane l) (fun (p : Port) => { p with alignLost := false })
    let s := ls.foldl (fun (s : State) k => s.modLane k (fun (x : Lane) => { x with coarseRx := s.clk.tick + 2500 })) s
    ls.foldl (fun (s : State) k => if (s.lane k).step = 6 then s.laneArrived k else s) s

/-- Eight inverted /I2/ sets without a true one between them (R101); `n` of them came just before. -/
def eightInverted : Nat → List Bool → Bool
  | _, [] => false
  | n, true :: t => decide (n = 7) || eightInverted (n + 1) t
  | _, false :: t => eightInverted 0 t

/-- What the receiver saw settles its polarity (R101): the training frame marker at step 4, /I2/ sets at 8b/10b rates and the first 64 blocks at
64b/66b rates at step 5, unless training has settled it. Polarity is the pair's, seen before the receiver's own inversion (DEDUCED,
notes/assumptions/62.md). -/
def Lane.polarity (x : Lane) (p : Pol) : Lane :=
  if x.rxPolAuto = false then { x with rxInverted := x.rxInvert }
  else match p with
    | .marker m => if x.step = 4 ∧ m = 0x0000FFFF then { x with rxInverted := true }
      else if x.step = 4 ∧ m = 0xFFFF0000 then { x with rxInverted := false } else x
    | .idles sets => if x.step = 5 ∧ x.rate ≤ 1 then { x with rxInverted := eightInverted 0 sets } else x
    | .blocks n => if x.step = 5 ∧ 2 ≤ x.rate ∧ x.trains = false then { x with rxInverted := decide (48 < n) } else x

/-- Training of a lane starts, or starts again: the own receiver's first request leaves (R100, R105, R109, R131). -/
def State.startTraining (s : State) (l : Nat) : State :=
  let s := (s.modLane l (fun (x : Lane) => { x with taps := x.cfgTaps, rxReady := false, reqs := 1, foms := [] })).chargeTraining l
  s.laneSends l (.cl72Request l (if (s.lane l).preset then 2 ^ 13 else 2 ^ 12))

/-- LANE_STEP_EXIT: a step's exit condition is met; what the receiver saw of polarity and the lane order found at step 6 are the step's
(R100, R101, R103). -/
def laneStepExit (l : Nat) (pol : Pol) (order : Nat) (s : State) : State :=
  let x := s.lane l
  if x.enable = false then s
  else
    match x.step with
    | 1 => (s.modLane l (fun (x : Lane) => { x with pllLock := true })).laneStep l 2
    | 2 => if s.laneHeld l then s else (s.modLane l (fun (x : Lane) => { x with signal := true })).laneStep l 3
    | 3 =>
      if x.burst then s
      else
        let s := s.modLane l (fun (x : Lane) => { x with cdrLock := true, rxReady := false, coarseRx := s.clk.tick + 2500 })
        if x.trains then ((s.modLane l (fun (x : Lane) => { x with trained := false })).startTraining l).laneStep l 4
        else (s.modLane l (fun (x : Lane) => { x with taps := x.cfgTaps })).laneStep l 5
    | 4 => (s.setLane l (x.polarity pol)).trainingDone l
    | 5 =>
      let s := s.setLane l { x.polarity pol with blockLock := true }
      if s.inTq l then s.laneStep l 6 else s.laneArrived l
    | 6 => s.groupAligned l order
    | _ => s

/-- LANE_STEP_TIMEOUT: a step's limit is reached (R100, R111). -/
def laneStepTimeout (l : Nat) (s : State) : State :=
  let x := s.lane l
  let ls := s.groupOf l
  if x.enable = false then s
  else if ls.any (fun k => (s.lane k).solo) = true then
    ls.foldl (fun (s : State) k => s.laneRestart k 3) s
  else
    match x.step with
    | 1 => s.queueEvent .data none
    | 3 => if x.burst then s else s.laneRestart l 2
    | 4 => s.startTraining l
    | 5 => s.laneRestart l 3
    | 6 => s.lanesRestart ls 3
    | _ => s

/-! ### Training (R105-R109) -/

/-- Would these taps pass the sum limit? -/
def Taps.sumOk (t : Taps) : Bool := decide (t.pre + t.main + t.post ≤ 63)

/-- One tap after a two-bit request (R106-R108): its new value and the status reported. `inv` is a tap that an increment of its coefficient
lowers. The other two taps sum to `rest`. -/
def tapRequest (inv : Bool) (v hi rest req : Nat) : Nat × Nat :=
  let up := if inv then req = 2 else req = 1
  let down := if inv then req = 1 else req = 2
  let top := if inv then 2 else 3
  let bottom := if inv then 3 else 2
  if up then (if v < hi ∧ v + 1 + rest ≤ 63 then (v + 1, 1) else (v, top))
  else if down then (if 0 < v then (v - 1, 1) else (v, bottom))
  else (v, 0)

/-- CL72_UPDATE_RECEIVED: a coefficient update request is answered (R106-R108): the taps in force, and the status report sent back. The marker of
its training frame shows polarity (R101). -/
def cl72Update (l req marker : Nat) (s : State) : State :=
  let x := (s.lane l).polarity (.marker marker)
  if x.step ≠ 4 then s
  else
    let ready := x.rxReady.toNat * 2 ^ 15
    let t := x.taps
    if req.testBit 13 then
      (s.setLane l { x with taps := { pre := 0, main := 63, post := 0 } }).laneSends l (.cl72Status l (ready + 0x15))
    else if req.testBit 12 then
      (s.setLane l { x with taps := x.cfgTaps }).laneSends l (.cl72Status l (ready + 0x15))
    else
      let a := tapRequest true t.pre 15 (t.main + t.post) (req % 4)
      let b := tapRequest false t.main 63 (a.1 + t.post) (req / 4 % 4)
      let c := tapRequest true t.post 31 (a.1 + b.1) (req / 16 % 4)
      (s.setLane l { x with taps := { pre := a.1, main := b.1, post := c.1 } }).laneSends l
        (.cl72Status l (ready + c.2 * 16 + b.2 * 4 + a.2))

/-- The own receiver has finished (R109): its figure of merit improved by no more than 0.1 dB over the last 16 requests, or it has sent 1,024. -/
def Lane.settled (x : Lane) : Bool :=
  decide (1024 ≤ x.reqs) || (decide (x.foms.length = 17) && decide (x.foms.getLastD 0 - x.foms.headD 0 ≤ 100))

/-- CL72_STATUS_RECEIVED: the partner answers the own receiver's last request (R107, R109). `fom` is the equaliser's figure of merit now, in
10^-3 dB. The receiver sends its next request, whose coefficients are its own search's (free value), or sets receiver ready; training ends when
both report ready. -/
def cl72Status (l report marker : Nat) (fom : Int) (s : State) : State :=
  let x := (s.lane l).polarity (.marker marker)
  if x.step ≠ 4 then s
  else
    let x := if x.rxReady then x else { x with foms := (x.foms ++ [fom]).drop (x.foms.length - 16) }
    let done := !x.rxReady && x.settled
    let x := { x with rxReady := x.rxReady || done }
    let s := if done then (s.setLane l x).laneSends l (.cl72Status l (2 ^ 15))
      else if x.rxReady then s.setLane l x
      else
        let (n, s) := (s.setLane l { x with reqs := x.reqs + 1 }).drawNat
        s.laneSends l (.cl72Request l (n % 2 ^ 6))
    if x.rxReady = true ∧ report.testBit 15 = true then s.trainingDone l else s

/-! ### Lock loss (R110-R112) -/

/-- A lane in step 7 has lost lock (R110, R111): counted, and burst attempts begin; a second lane of a group restarts all four (R112). -/
def State.lockLoss (s : State) (l : Nat) : State :=
  let x := s.lane l
  if x.step ≠ 7 then s
  else
    let ls := s.groupOf l
    let again := s.inTq l && ls.any (fun k => (s.lane k).solo)
    let s := s.setLane l { x with
      lockLosses := inc8 x.lockLosses, cdrLock := false, blockLock := false, burst := true, attempts := 0, solo := s.inTq l && !again }
    let s := s.laneStep l 3
    let s := if s.inTq l then s.modPort (s.portOfLane l) (fun (p : Port) => { p with alignLost := true }) else s
    let s := (s.checkLane l).syncPort (s.portOfLane l)
    if again then s.lanesRestart ls 3 else s.charge (jobFixed 8)

/-- LANE_SIGNAL_LOSS: receive amplitude is lost in steps 3 to 6, or in step 7, where it is a lock loss unless the direction dozes (R100, R121). -/
def laneSignalLoss (l : Nat) (s : State) : State :=
  let x := s.lane l
  if x.burst then s.setLane l { x with signal := false }
  else if x.step = 7 then
    if x.rxDoze = true ∨ x.lpiRx = true then s else (s.setLane l { x with signal := false }).lockLoss l
  else if x.step < 3 then s
  else if x.step = 6 then (s.lanesRestart ((s.groupOf l).filter (fun k => decide (k ≠ l))) 3).laneRestart l 2
  else s.laneRestart l 2

/-- LANE_LOCK_LOSS. -/
def laneLockLoss (l : Nat) (s : State) : State := s.lockLoss l

/-- BURST_ATTEMPT_END (R110, R111). -/
def burstEnd (l : Nat) (ok : Bool) (s : State) : State :=
  let x := s.lane l
  if x.burst = false then s
  else if ok then
    let s := s.setLane l { x with
      burst := false, signal := true, cdrLock := true, blockLock := true, attempts := 0, coarseRx := s.clk.tick + 2500 }
    if s.inTq l then s.laneStep l 6 else s.laneArrived l
  else if x.attempts + 1 < 3 then (s.setLane l { x with attempts := x.attempts + 1 }).charge (jobFixed 8)
  else
    let others := (s.groupOf l).filter (fun k => decide (k ≠ l))
    let s := s.setLane l { x with retrainFails := inc8 x.retrainFails }
    (s.laneRestart l 2).lanesRestart others 3

/-! ### Doze (R114-R122) -/

/-- DOZE_IDLE_EXPIRED (R114, R117): entry begins with three ENTER sets. A lane held as a reference never dozes (R116). -/
def dozeIdleExpired (l : Nat) (s : State) : State :=
  let x := s.lane l
  if x.doze ≠ .awake ∨ s.dozeAllowed l = false ∨ x.partnerDozeOk = false ∨ s.refHold l = true ∨ s.egressWaiting l = true ∨ s.driverIdle l = true then s
  else (s.setLane l { x with doze := .entering }).emits (List.replicate 3 (.ordered l 0xD50200))

/-- DOZE_ENTRY_END (R117, R118): a trigger that arose during entry starts exit at once. -/
def dozeEntryEnd (l : Nat) (s : State) : State :=
  let x := s.lane l
  if x.doze ≠ .entering then s
  else
    let s := s.setLane l { x with doze := .dozing, txDoze := true }
    if s.wakeTrigger l then s.wake l else s

/-- DOZE_WAKE_TRIGGER (R119). -/
def dozeWake (l : Nat) (s : State) : State := if s.wakeTrigger l then s.wake l else s

/-- DOZE_EXIT_COMPLETE (R120): flags owed leave first. -/
def dozeExitComplete (l : Nat) (s : State) : State :=
  let x := s.lane l
  if x.doze ≠ .exiting then s else (s.setLane l { x with doze := .awake, txDoze := false }).dozeChanged l

/-- DOZE_FLAGS_PERIODIC (R115). -/
def dozeFlagsPeriodic (l : Nat) (s : State) : State :=
  let x := s.lane l
  if x.dozeEn = true ∧ x.step = 7 ∧ x.doze = .awake then s.sendFlags l else s

/-- DOZE_FLAGS_RECEIVED (R116). -/
def dozeFlagsReceived (l : Nat) (ok : Bool) (s : State) : State :=
  let x := s.lane l
  if x.step ≠ 7 then s
  else
    let s := (s.setLane l { x with chotonPartner := true, partnerDozeOk := ok }).dozeChanged l
    if ok then s else s.wake l

/-- DOZE_ENTER_RECEIVED (R117): the CDR frequency is frozen, and the receive direction dozes. -/
def dozeEnterReceived (l : Nat) (s : State) : State :=
  if (s.lane l).step ≠ 7 then s else (s.modLane l (fun (x : Lane) => { x with rxDoze := true })).checkLane l

/-- DOZE_BURST_RECEIVED (R119): the receiver relocks. -/
def dozeBurstReceived (l : Nat) (s : State) : State := s.modLane l (fun (x : Lane) => { x with rxDoze := false })

/-- DOZE_BURST_MISSED (R121): block-lock hunt, which regains lock within 1 ms or becomes a lock loss. -/
def dozeBurstMissed (l : Nat) (regained : Bool) (s : State) : State :=
  let x := s.lane l
  if x.rxDoze = false then s
  else
    let s := s.setLane l { x with rxDoze := false, dozeExitErr := inc16 x.dozeExitErr }
    if regained then s else s.lockLoss l

/-- LPI_TRANSITION (R122): the own transmit direction under its conditions, or the partner's. -/
def lpiTransition (l : Nat) (tx on : Bool) (s : State) : State :=
  let x := s.lane l
  let wake := fun (was : Bool) (old : Nat) => if was = true ∧ on = false then s.clk.tick + 2500 else old
  if tx then s.setLane l { x with lpiTx := on && s.lpiMay l, coarseTx := wake x.lpiTx x.coarseTx }
  else s.setLane l { x with lpiRx := on, coarseRx := wake x.lpiRx x.coarseRx }

/-! ### Sketch (R123-R128, R133, R134) -/

/-- The deepest measured level of a dwell (R125). -/
def deepestOf (dwell : Nat) : Nat := if 42 ≤ dwell then 12 else if 32 ≤ dwell then 9 else if 22 ≤ dwell then 6 else 3

/-- A point with `e` errors over `n` compared bits passes level 10^-k (R125). -/
def eyePass (n k e : Nat) : Bool := decide ((e + 3) * 10 ^ k ≤ n)

/-- The points the fine pass measures on one side of a row (R124), from the outermost inward, with their errors: it ends at a point that passes
the deepest level, or at phase 0. A count the step does not give is a point that fails. -/
def finePoints (n k : Nat) : List Nat → List Nat → List (Nat × Nat)
  | [], _ => []
  | d :: ds, es =>
    let e := es.headD n
    (d, e) :: (if eyePass n k e then [] else finePoints n k ds es.tail)

/-- One side of a row: `coarse` holds the errors at 0, 1, 2, … 1/64 UI from phase 0, `fine` those of the fine pass. -/
structure EyeSide where
  coarse : List Nat := []
  fine : List Nat := []
deriving DecidableEq, Repr

def EyeSide.pass (x : EyeSide) (d : Nat) : Bool := eyePass (2 ^ 20) 3 (x.coarse.getD d (2 ^ 20))

/-- Its passing points continuous with phase 0. -/
def EyeSide.run (x : EyeSide) : Nat := ((List.range 33).takeWhile x.pass).length

/-- The points its fine pass measures: none when no point passed 10^-3. -/
def EyeSide.measured (x : EyeSide) (dwell : Nat) : List (Nat × Nat) :=
  match (List.range 33).reverse.find? x.pass with
  | some d => finePoints (2 ^ dwell) (deepestOf dwell) (List.range (d + 1)).reverse x.fine
  | none => []

/-- Its boundary at a level, as a distance from phase 0 (R125). At 10^-3 the coarse pass decides. At a deeper level the measured points do, from
the last one outward; the points inside it, which are not measured, are continuous with phase 0 when they passed 10^-3 (DEDUCED,
notes/assumptions/63.md). -/
def EyeSide.boundary (x : EyeSide) (dwell k : Nat) : Option Nat :=
  if k = 3 then (if x.run = 0 then none else some (x.run - 1))
  else if deepestOf dwell < k then none
  else (((x.measured dwell).reverse.takeWhile (fun m => decide (m.1 < x.run) && eyePass (2 ^ dwell) k m.2)).getLast?).map Prod.fst

/-- The two sides of a row. -/
def leftOf (r : EyeErr) : EyeSide := { coarse := (r.coarse.take 33).reverse, fine := r.left }
def rightOf (r : EyeErr) : EyeSide := { coarse := r.coarse.drop 32, fine := r.right }

/-- A row's boundaries (R125). -/
def eyeRow (r : EyeErr) (dwell : Nat) : EyeRow :=
  let lo := fun (k : Nat) => ((leftOf r).boundary dwell k).map (fun d => -(d : Int))
  let hi := fun (k : Nat) => ((rightOf r).boundary dwell k).map (fun d => (d : Int))
  { l3 := lo 3, r3 := hi 3, l6 := lo 6, r6 := hi 6, l9 := lo 9, r9 := hi 9, l12 := lo 12, r12 := hi 12 }

/-- The fine points of a row. -/
def pointsOf (r : EyeErr) (dwell : Nat) : Nat := ((leftOf r).measured dwell).length + ((rightOf r).measured dwell).length

/-- A row's boundaries at a level. -/
def eyeAt (r : EyeRow) (k : Nat) : Option (Int × Int) :=
  let both := fun (a b : Option Int) => a.bind (fun x => b.map (fun y => (x, y)))
  if k = 3 then both r.l3 r.r3 else if k = 6 then both r.l6 r.r6 else if k = 9 then both r.l9 r.r9 else both r.l12 r.r12

/-- A row passes the level at phase 0. -/
def eyeOpen (r : EyeRow) (k : Nat) : Bool := match eyeAt r k with | some (a, b) => decide (a ≤ 0 ∧ 0 ≤ b) | none => false

/-- Rows of a run that start at the head of a list. -/
def runLen (p : EyeRow → Bool) (l : List EyeRow) : Nat := (l.takeWhile p).length

/-- EYE_WIDTH in mUI and EYE_HEIGHT in mV (R126), rounded with halves up. -/
def eyeFigures (rows : List EyeRow) (k : Nat) : Nat × Nat :=
  let mid := rows.getD 64 {}
  if eyeOpen mid k = false then (0, 0)
  else
    let w := match eyeAt mid k with | some (a, b) => (b - a).toNat | none => 0
    let up := runLen (fun r => eyeOpen r k) (rows.drop 65)
    let down := runLen (fun r => eyeOpen r k) (rows.take 64).reverse
    ((w * 15625 * 2 + 1000) / 2000, ((up + down) * 625 * 2 + 100) / 200)

/-- A boundary as its byte: 0x80 for none (R134). -/
def eyeByte (b : Option Int) : Nat := match b with | some x => lowBits 8 (clampZ (-32) 32 x) | none => 0x80

/-- The header words of LANE.SKETCH_READ (R134). -/
def eyeHead (x : Lane) (first count : Nat) : List Word :=
  let e := x.eye
  [pack [(0, e.stat), (4, x.sketching.toNat), (8, e.deepest), (16, min 65535 e.finePoints)], pack [(0, e.width), (16, e.height)],
   pack [(0, e.dwell), (8, first), (16, count)]]

/-- The first LANE.SKETCH of a lane. -/
def isSketch (l : Nat) (w : Work) : Bool := match w with | .sketch k _ => decide (k = l) | _ => false

/-- Start the scans waiting for a lane as far as they can (R127): one on a lane not in step 7 ends at once, the next one waits for the ledger.
The fuel bounds their number. -/
def runSketch (l : Nat) : Nat → State → State
  | 0, s => s
  | f + 1, s =>
    let x := s.lane l
    match s.findJob (isSketch l) with
    | some { ctx := _, work := .sketch _ dwell } =>
      if x.sketching = true ∨ s.led.waiting.any (fun j => decide (j.what = JobFor.sketch l)) = true then s
      else if x.step ≠ 7 then
        let x := { x with eye := { stat := 3, dwell := dwell, deepest := deepestOf dwell } }
        runSketch l f ((s.setLane l x).completeFirst (isSketch l) (okRpl (eyeHead x 0 0)))
      else s.queueJob 5 (scanCost x.rate (8385 * 2 ^ 20)) (.sketch l)
    | _ => s

def State.serveSketch (s : State) (l : Nat) : State := runSketch l s.axg.jobs.length s

/-- A Sketch job is admitted: the coarse pass starts the scan, and each fine point asks for the next (R124, R128). -/
def State.sketchAdmitted (s : State) (l code : Nat) : State :=
  match s.findJob (isSketch l) with
  | some { ctx := _, work := .sketch _ dwell } =>
    let x := s.lane l
    let fine := fun (s : State) => s.queueJob 6 (scanCost x.rate (2 ^ dwell)) (.sketch l)
    if code = 6 then (if x.sketching = true ∧ x.scanLost = false then fine s else s)
    else if x.step ≠ 7 then s.serveSketch l
    else fine ((s.setLane l { x with sketching := true, scanLost := false }).dozeChanged l)
  | _ => s

/-- SKETCH_SCAN_END: a scan ends, with its lane's lock lost or complete: the errors of the rows measured (R124-R127, R133). -/
def sketchScanEnd (l : Nat) (rows : List EyeErr) (lost : Bool) (s : State) : State :=
  let x := s.lane l
  match s.findJob (isSketch l) with
  | some { ctx := _, work := .sketch _ dwell } =>
    if x.sketching = false then s
    else
      let rows := rows.take 129
      let points := rows.foldl (fun n r => n + pointsOf r dwell) 0
      let k := deepestOf dwell
      let eye := rows.map (fun r => eyeRow r dwell) ++ List.replicate (129 - rows.length) {}
      let fig := eyeFigures eye k
      let bad := lost || x.scanLost
      let x := { x with
        sketching := false
        scanLost := false
        eye := { stat := if bad then 2 else 1, dwell := dwell, deepest := k, finePoints := points, width := fig.1, height := fig.2, rows := eye } }
      let s := (s.setLane l x).dropJobs (fun j => decide (j = JobFor.sketch l))
      (((s.completeFirst (isSketch l) (okRpl (eyeHead x 0 0))).dozeChanged l).serveSketch l)
  | _ => s

/-! ### Commands -/

/-- The lane a command names (R96). -/
def laneArg (w : Word) : Nat := min 95 (fld w 6 0)

/-- Taps as a word (R129). -/
def tapsWord (t : Taps) : Word := pack [(0, t.pre), (8, t.main), (16, t.post)]

/-- Written taps within their limits: the sum rule lowers TAP_MAIN first (R108, R129). -/
def clampTaps (w : Word) : Taps :=
  let pre := fld w 3 0
  let post := fld w 20 16
  { pre := pre, main := min (fld w 13 8) (63 - pre - post), post := post }

/-- LANE.CONFIG (R98, R129): a change of RATE or ENABLE restarts the lane and abandons its training. -/
def bodyLaneConfig : Body := fun c ws s =>
  let w := bit (wd ws 0) 31
  let l := laneArg (wd ws 0)
  let a := wd ws 1
  let old := s.lane l
  let rate := clampRate l (fld a 2 0) (s.inTq l)
  let new : Lane := { old with
    rate := rate, enable := bit a 4, txInvert := bit a 5, rxPolAuto := bit a 6, rxInvert := bit a 7,
    trainEn := bit a 8 && decide (rate = 3 ∨ rate = 4), txReverse := bit a 9, medium := min 2 (fld a 11 10), cfgTaps := clampTaps (wd ws 2) }
  let s := if w then
    let rateChanged := decide (new.rate ≠ old.rate)
    let new := if new.trainEn then new else { new with taps := new.cfgTaps }
    let s := s.setLane l (if new.rxPolAuto then new else { new with rxInverted := new.rxInvert })
    if rateChanged = true ∨ new.enable ≠ old.enable then
      let s := if rateChanged then s.breakCal l 2 else s
      let s := if rateChanged = true ∨ new.enable = false then s.endTraining l true else s
      s.laneRestart l 1
    else s.dozeChanged l
    else s
  let x := s.lane l
  s.ok c
    [pack [(31, w.toNat), (0, l)],
     pack [(0, x.rate), (4, x.enable.toNat), (5, x.txInvert.toNat), (6, x.rxPolAuto.toNat), (7, x.rxInvert.toNat), (8, x.trainEn.toNat),
       (9, x.txReverse.toNat), (10, x.medium)], tapsWord x.cfgTaps]

/-- LANE.STATUS (R130); the code errors of the medium are counted as they are read. -/
def bodyLaneStatus : Body := fun c ws s =>
  let l := laneArg (wd ws 0)
  let (n, s) := if (s.lane l).step = 7 then s.drawCount 0xFFFFFFFF (s.lane l).codeErrors else ((s.lane l).codeErrors, s)
  let x := s.lane l
  let b := Bool.toNat
  let first := s.inTq l && decide (l % 4 = 0)
  (s.setLane l { x with codeErrors := n }).ok c
    [pack [(0, l), (8, x.rate), (12, x.step), (16, b x.pllLock), (17, b x.signal), (18, b x.cdrLock), (19, b x.blockLock), (20, b x.rxInverted),
       (21, b x.trained), (22, b x.chotonPartner), (23, b x.txDoze), (24, b x.rxDoze), (25, b (s.refHold l)), (26, b (x.lpiTx || x.lpiRx)),
       (27, b x.sketching), (28, b x.solo), (29, b x.partnerDozeOk), (30, b x.burst)],
     tapsWord x.taps, pack [(0, x.lockLosses), (8, x.retrainFails), (16, x.dozeExitErr)], pack [(0, if first then x.rxOrder else 0), (8, b (first && x.reversed))],
     w32 n]

/-- LANE.TRAIN (R128, R131): a job of code 7 that waits; its admission restarts the lane. -/
def bodyLaneTrain : Body := fun c ws s =>
  let l := laneArg (wd ws 0)
  (s.hold c (.laneTrain l (bit (wd ws 0) 8) false)).queueJob 7 (jobFixed 7) (.train l)

/-- A LANE.TRAIN is admitted: the lane restarts at step 1 and its port goes down (R131, R145). -/
def State.trainAdmitted (s : State) (l : Nat) : State :=
  let isIt := fun (w : Work) => match w with | .laneTrain k _ false => decide (k = l) | _ => false
  match s.findJob isIt with
  | some { ctx := _, work := .laneTrain _ preset _ } =>
    let s := { s with axg := { s.axg with jobs := updWork isIt (.laneTrain l preset true) s.axg.jobs } }
    let s := (s.modLane l (fun (x : Lane) => { x with preset := preset })).forceDown (s.portOfLane l)
    s.laneRestart l 1
  | _ => s

/-- LANE.DOZE (R132). -/
def bodyLaneDoze : Body := fun c ws s =>
  let w := bit (wd ws 0) 31
  let l := laneArg (wd ws 0)
  let a := wd ws 1
  let s := if w then
    (s.modLane l (fun (x : Lane) => { x with
      dozeEn := bit a 0, lpiEn := bit a 1, dozeIdle := clamp 1 65535 (fld a 31 16), lpiTx := x.lpiTx && bit a 1 })).dozeChanged l
    else s
  let x := s.lane l
  s.ok c [pack [(31, w.toNat), (0, l)], pack [(0, x.dozeEn.toNat), (1, x.lpiEn.toNat), (2, (s.dozeAllowed l).toNat), (16, x.dozeIdle)]]

/-- LANE.SKETCH (R127, R128, R133). -/
def bodyLaneSketch : Body := fun c ws s =>
  let l := laneArg (wd ws 0)
  (s.hold c (.sketch l (clamp 20 42 (fld (wd ws 1) 5 0)))).serveSketch l

/-- LANE.SKETCH_READ (R134). -/
def bodySketchRead : Body := fun c ws s =>
  let w := wd ws 0
  let x := s.lane (laneArg w)
  let first := min 128 (fld w 15 8)
  let n := min (min 129 (fld w 23 16)) (129 - first)
  let row := fun (i : Nat) =>
    let r := x.eye.rows.getD i {}
    [pack [(24, eyeByte r.l3), (16, eyeByte r.r3), (8, eyeByte r.l6), (0, eyeByte r.r6)],
     pack [(24, eyeByte r.l9), (16, eyeByte r.r9), (8, eyeByte r.l12), (0, eyeByte r.r12)]]
  s.ok c (eyeHead x first n ++ (List.range n).flatMap (fun i => row (first + i)))

/-- LANE.LOOPBACK (R135): modes 1 to 3 take the port down; the checker's errors of mode 3 are measured. -/
def bodyLoopback : Body := fun c ws s =>
  let w := bit (wd ws 0) 31
  let l := laneArg (wd ws 0)
  let m := fld (wd ws 1) 1 0
  let s := if w then
    let s := s.modLane l (fun (x : Lane) => { x with loopMode := m, prbsErrors := 0 })
    let s := if m = 0 then s else s.forceDown (s.portOfLane l)
    (s.checkLane l).syncPort (s.portOfLane l)
    else s
  let x := s.lane l
  let (n, s) := if x.loopMode = 3 then s.drawCount 0xFFFFFFFF x.prbsErrors else (x.prbsErrors, s)
  (s.setLane l { x with prbsErrors := n }).ok c [pack [(31, w.toNat), (0, l)], w32 x.loopMode, w32 n]

end Sys2Proof.Machine
end

