-- ==== Sys2Proof/Machine/Ports.lean ====
section
/-! DEFINITION. Port, ring and bypass commands (chapter 04), the node table of duplicate discard (R151, R152) and supervision frames (R154). -/

namespace Sys2Proof.Machine

open Sys2Proof

/-! ### Ports -/

/-- The port a command names (R136). -/
def portArg (w : Word) : Nat := min 103 (fld w 6 0)

/-- The FEC code a written one gives (R70, R138). -/
def State.clampFec (s : State) (p m : Nat) : Nat :=
  if 96 ≤ p then (if m = 0 then 0 else 2)
  else if p < 32 ∧ (s.lane p).rate = 4 then min 2 m
  else 0

/-- An instance's effective mode: 0 when its mode needs a role that is none (R147). -/
def Ring.effMode (r : Ring) : Nat :=
  if r.mode = 0 then 0
  else if r.portA = 0x7F ∨ r.portB = 0x7F then 0
  else if r.mode = 3 ∧ r.interlink = 0x7F then 0
  else r.mode

/-- A change of a role or of the mode of an instance clears its node entries and its sequence counter (R169). -/
def State.changeRing (s : State) (k : Nat) (r : Ring) : State :=
  let o := s.ring k
  if o.mode = r.mode ∧ o.portA = r.portA ∧ o.portB = r.portB ∧ o.interlink = r.interlink then s.setRing k r
  else { (s.setRing k { r with seq := 0 }) with nodes := Tab.keep (fun _ e => decide (e.ring ≠ k)) s.nodes }

/-- Ring roles that name a port which does not exist become none (R137, R147). -/
def State.dropRoles (s : State) : State :=
  (List.range 8).foldl (fun (s : State) k =>
    let r := s.ring k
    let keep := fun (p : Nat) => if p = 0x7F ∨ s.portExists p = true then p else 0x7F
    let r := { r with portA := keep r.portA, portB := keep r.portB, interlink := keep r.interlink }
    s.changeRing k { r with mode := r.effMode }) s

/-- A TQ group is formed or dissolved (R137): every affected port goes down, the ring roles of ports that cease to exist are lost, and the
four lanes restart at step 1, at RATE 4 in a group. -/
def State.setForm (s : State) (k : Nat) (on : Bool) : State :=
  let ls := portLanes (96 + k)
  let ps := (96 + k) :: ls
  let s := ps.foldl State.forceDown s
  let s := { s with form := Tab.put falseReset s.form k on }
  let s := ls.foldl (fun (s : State) l =>
    let x := s.lane l
    if on = true ∧ x.rate ≠ 4 then ((s.setLane l { x with rate := 4 }).breakCal l 2).endTraining l true else s) s
  (ps.foldl State.syncPort s.dropRoles).lanesRestart ls 1

/-- PORT.CONFIG (R137, R138, R166): a written FORM acts on a TQ port whether or not it exists yet. -/
def bodyPortConfig : Body := fun c ws s =>
  let w := bit (wd ws 0) 31
  let p := portArg (wd ws 0)
  let a := wd ws 1
  let tq := decide (96 ≤ p)
  let s := if w = true ∧ (s.portExists p = true ∨ (tq = true ∧ bit a 2 = true)) then
    let reform := tq && decide (bit a 2 ≠ s.formed (p - 96))
    let s := if reform then s.setForm (p - 96) (bit a 2) else s
    let old := s.port p
    let new : Port := { old with fecMode := s.clampFec p (fld a 1 0), maxFrame := clamp 1518 10240 (fld a 29 16) }
    let changed := decide (new.fecMode ≠ old.fecMode ∨ new.maxFrame ≠ old.maxFrame)
    let s := s.setPort p new
    if changed = true ∧ reform = false then (s.forceDown p).lanesRestart (portLanes p) 3 else s
    else s
  s.ok c
    [pack [(31, w.toNat), (8, (s.portExists p).toNat), (0, p)],
     pack [(0, s.fecOf p), (2, (tq && s.formed (p - 96)).toNat), (16, (s.port p).maxFrame)]]

def portStCode : PortSt → Nat
  | .disabled => 0
  | .down => 1
  | .filter => 2
  | .up => 3
  | .bypassed => 4

/-- PORT.STATUS (R167): the codewords of a FEC are counted as they are read. -/
def bodyPortStatus : Body := fun c ws s =>
  let p := portArg (wd ws 0)
  let ex := s.portExists p
  let fec := ex && decide (s.fecOf p ≠ 0)
  let (a, s) := if fec then s.drawCount 0xFFFFFFFF (s.port p).fecCorrected else ((s.port p).fecCorrected, s)
  let (b, s) := if fec then s.drawCount 0xFFFFFFFF (s.port p).fecUncorrected else ((s.port p).fecUncorrected, s)
  let s := s.modPort p (fun (x : Port) => { x with fecCorrected := a, fecUncorrected := b })
  let x := s.port p
  let up := maskOf (((portLanes p).zipIdx.filter (fun e => decide ((s.lane e.1).step = 7))).map Prod.snd)
  s.ok c
    [pack [(0, p), (8, ex.toNat), (9, portStCode x.st), (12, x.localFault.toNat), (13, x.remoteFault.toNat), (14, s.fecOf p), (16, up)],
     w32 x.flushDrops, w32 x.downDrops, pack [(0, x.rxTrunc), (16, x.txTrunc)], pack [(0, x.lfEvents), (16, x.lfRecovered)],
     pack [(0, x.oversize), (16, x.runt)], w32 x.fecCorrected, w32 x.fecUncorrected, pack [(0, x.pauseDrops), (16, x.dupCut)]]

/-- PORT.ADMIN (R145, R168). -/
def bodyPortAdmin : Body := fun c ws s =>
  let w := bit (wd ws 0) 31
  let p := portArg (wd ws 0)
  let a := wd ws 1
  let s := if w = true ∧ s.portExists p = true then
    let s := (s.modPort p (fun (x : Port) => { x with enable := bit a 0, lfFilter := min 1000 (fld a 25 16) })).syncPort p
    (portLanes p).foldl State.dozeChanged s
    else s
  s.ok c [pack [(31, w.toNat), (0, p)], pack [(0, (s.port p).enable.toNat), (16, (s.port p).lfFilter)]]

/-! ### Rings -/

/-- The role a written port gets in instance `k`: none when the port does not exist or already holds a role (R136, R147). -/
def State.ringPort (s : State) (k p : Nat) (mine : List Nat) : Nat :=
  let p := portOrNone p
  let held := (List.range 8).any (fun j => decide (j ≠ k) && decide ((s.ring j).portA = p ∨ (s.ring j).portB = p ∨ (s.ring j).interlink = p))
  if p = 0x7F ∨ s.portExists p = false ∨ held = true ∨ mine.contains p = true then 0x7F else p

/-- PORT.RING (R147, R169). -/
def bodyPortRing : Body := fun c ws s =>
  let w := bit (wd ws 0) 31
  let k := fld (wd ws 0) 2 0
  let a := wd ws 1
  let s := if w then
    let pa := s.ringPort k (fld a 14 8) []
    let pb := s.ringPort k (fld a 22 16) [pa]
    let il := s.ringPort k (fld a 30 24) [pa, pb]
    let r : Ring := { s.ring k with
      mode := fld a 1 0, lanId := fld a 2 2, portA := pa, portB := pb, interlink := il,
      entryForget := clamp 10 10000 (fld (wd ws 2) 15 0), nodeForget := clamp 1 3600 (fld (wd ws 2) 31 16),
      supInterval := clamp 100 10000 (fld (wd ws 3) 15 0), supAddr := fld (wd ws 3) 23 16 }
    s.changeRing k { r with mode := r.effMode }
    else s
  let r := s.ring k
  s.ok c
    [pack [(31, w.toNat), (0, k)], pack [(0, r.mode), (2, r.lanId), (8, r.portA), (16, r.portB), (24, r.interlink)],
     pack [(0, r.entryForget), (16, r.nodeForget)], pack [(0, r.supInterval), (16, r.supAddr)]]

/-- Whole milliseconds between two ticks. -/
def ticksMs (n : Nat) : Nat := n / 1250000

/-- PORT.NODE_READ (R170). -/
def bodyNodeRead : Body := fun c ws s =>
  let first := fld (wd ws 0) 13 0
  let count := min (min 16384 (fld (wd ws 1) 14 0)) (16384 - first)
  let l := s.nodes.filter (fun e => decide (first ≤ e.1 ∧ e.1 < first + count))
  s.ok c ([w32 l.length, w32 s.nodeFull] ++ l.flatMap (fun e =>
    let n := e.2
    [w32 (n.sa / 2 ^ 16), pack [(16, n.sa % 2 ^ 16), (0, n.ring), (8, n.seenA.toNat), (9, n.seenB.toNat)],
     pack [(16, n.highSeq), (0, e.1)], w32 (min 0xFFFFFFFF (ticksMs (s.clk.tick - n.last)))]))

/-- The decision of R151 on a sequence number: whether the frame is a duplicate, and the entry after it. -/
def Node.see (n : Node) (q tick : Nat) (onA onB : Bool) : Bool × Node :=
  let n := { n with seenA := n.seenA || onA, seenB := n.seenB || onB, last := tick }
  let d := (q + 65536 - n.highSeq) % 65536
  if n.cleared then (false, { n with highSeq := q, win := 1, cleared := false })
  else if d = 0 then (true, n)
  else if d ≤ 32767 then (false, { n with win := (n.win * 2 ^ d + 1) % 2 ^ 64, highSeq := q })
  else
    let a := 65536 - d
    if 64 ≤ a then (false, n)
    else if n.win.testBit a then (true, n)
    else (false, { n with win := n.win ||| 2 ^ a })

/-- Duplicate discard of a frame of a source and an instance (R151, R152): a full table accepts it and counts. The role is 0 port A, 1 port B,
2 the interlink. -/
def State.seeNode (s : State) (sa ring q role : Nat) : Bool × State :=
  match List.find? (fun (e : Nat × Node) => decide (e.2.sa = sa ∧ e.2.ring = ring)) s.nodes with
  | some (k, n) =>
    let r := n.see q s.clk.tick (decide (role = 0)) (decide (role = 1))
    (r.1, { s with nodes := Tab.insert s.nodes k r.2 })
  | none =>
    match Tab.freeKey 16384 s.nodes with
    | none => (false, { s with nodeFull := inc32 s.nodeFull })
    | some k =>
      let n : Node :=
        { sa := sa, ring := ring, highSeq := q, win := 1, seenA := decide (role = 0), seenB := decide (role = 1), last := s.clk.tick }
      (false, { s with nodes := Tab.insert s.nodes k n })

/-- ENTRY_FORGET: the window of the entry in a slot is cleared (R151). -/
def entryForget (slot : Nat) (s : State) : State :=
  { s with nodes := Tab.mapVal (fun k (n : Node) => if k = slot then { n with win := 0, cleared := true } else n) s.nodes }

/-- NODE_FORGET: the entry in a slot is freed (R151). -/
def nodeForget (slot : Nat) (s : State) : State := { s with nodes := Tab.erase s.nodes slot }

/-- A supervision frame of an instance, without tag or trailer (R154): its path, sequence number and one TLV with MGT_MAC, as IEC 62439-3 lays
them out (PRESUMED). -/
def State.supFrame (s : State) (r : Ring) (q : Nat) : List Byte :=
  padFrame (frameHead (0x01154E000100 + r.supAddr) s.fused.mgtMac none 0x88FB ++ bytesBE 2 1 ++ bytesBE 2 q
    ++ bytesBE 1 (if r.mode = 2 then 20 else 23) ++ bytesBE 1 6 ++ bytesBE 6 s.fused.mgtMac ++ bytesBE 2 0)

/-- The LanId of a PRP port role: 0 LAN A, 1 LAN B, 2 the interlink (R149, R150). -/
def Ring.lanOf (r : Ring) (role : Nat) : Nat := if role = 2 then 0xA + r.lanId else 0xA + role

/-- SUPERVISION_SEND (R154): a frame out of each port of an instance, with the HSR tag or trailer of that port. -/
def supervisionSend (k : Nat) (s : State) : State :=
  let r := s.ring k
  if s.dpUp = false ∨ r.mode = 0 then s
  else
    let (q, s) := s.nextSeq k
    let bs := s.supFrame r q
    let h := parseHdr false bs
    let roles := [(r.portA, 0), (r.portB, 1)] ++ (if r.mode = 3 then [(r.interlink, 2)] else [])
    let one := fun (e : Nat × Nat) =>
      let bytes := if r.mode = 2 ∨ e.2 = 2 then leaveBytes h bs false none 3 q (r.lanOf e.2) else leaveBytes h bs false none 2 q e.2
      ({ bytes := bytes, port := e.1, cls := s.replyClass e.1 none } : Ins)
    { s with buf := { s.buf with iqCmd := s.buf.iqCmd ++ roles.map one } }

/-! ### Bypass commands -/

/-- BYPASS.SET (R161, R171). -/
def bodyBypassSet : Body := fun c ws s =>
  let b := fld (wd ws 0) 1 0
  (s.hold c (.bypass b (bit (wd ws 0) 8) false)).servePair b

/-- BYPASS.POLICY (R159, R172): it acts at once unless a command for its pair waits (R68, R161). -/
def bodyBypassPolicy : Body := fun c ws s =>
  let b := fld (wd ws 0) 1 0
  (s.hold c (.policy b (wd ws 0) (wd ws 1))).servePair b

/-- BYPASS.STATUS (R173). -/
def bodyBypassStatus : Body := fun c _ s => s.ok c ((List.range 4).map s.pairWord)

end Sys2Proof.Machine
end

