-- ==== Sys2Proof/Machine/RefCommands.lean ====
section
/-! DEFINITION. The REF commands (R378-R383) and what a reference's checks ask of the state (R356). -/

namespace Sys2Proof.Machine

open Sys2Proof

/-- A REF_ID of R352: `top` says whether 0xFFF is legal in the field. -/
def refId (top : Bool) (n : Nat) : Nat :=
  if n < 0x10 then n else if n < 0x400 then 0x400 else if n < 0x800 then n else if top then 0xFFF else 0x7FF

/-- The state lets a reference pass its checks: a lane that is usable with a quality level that is not failed or DNU, or a session in SLAVE. What
only the signal shows is the step's own assertion (R356). -/
def State.refCanPass (s : State) (k : Nat) : Bool :=
  if s.outOfPull k then false
  else if k < 8 then (s.refCfg k).enable
  else if k < 16 then
    let e := s.esmc (s.portOfLane (s.refCfg k).lane)
    (s.refCfg k).enable && s.laneUsable (s.refCfg k).lane && !e.failed && decide (e.rxQl ≠ 0xF)
  else (s.packetRef k).isSome

/-- REF_CHECK_FAIL: the check of a reference as its kind has it, and the CAUSE of one that fails (R356, R381). -/
def refCheckFail (k : Nat) (why : RefWhy) (s : State) : State :=
  let c := s.refCfg k
  match why with
  | .gap ps =>
    if k < 8 ∧ (if c.pps then 1500000000000 < ps else 100000 < ps ∧ 2 * 10 ^ 12 < ps * c.freqHz) then s.refFail k 1 else s
  | .strays l => if k < 8 ∧ c.pps = true ∧ 3 ≤ l.length ∧ l.all (fun x => decide (1000000 < x.natAbs)) then s.refFail k 6 else s
  | .freq f => (if (s.refRun k).q = .off then s else s.measured { ref := k, freq := f }).checkPull
  | .state =>
    if k < 8 then s
    else if k < 16 then
      let e := s.esmc (s.portOfLane c.lane)
      if s.laneUsable c.lane = false then s.refFail k 3 else if e.failed = true ∨ e.rxQl = 0xF then s.refFail k 4 else s
    else if (s.packetRef k).isNone then s.refFail k 5 else s

/-- RATE_SERVO of TB0 is 0 while there is no phase source (R372). -/
def State.restPhase (s : State) : State :=
  if s.phaseActs = true ∧ s.phaseRef = noRef then s.modTb 0 (fun t => { t with rateServo := 0 }) else s

/-! ### REF.CONFIG and REF.RANK -/

/-- Another enabled slot names the lane (R354). -/
def State.laneTaken (s : State) (k l : Nat) : Bool :=
  [8, 9, 10, 11, 12, 13, 14, 15].any (fun j => decide (j ≠ k) && (s.refCfg j).enable && decide ((s.refCfg j).lane = l))

/-- The configuration a REF.CONFIG writes: fields the kind does not use are 0 (R354, R378). -/
def State.refCfgOf (s : State) (k : Nat) (ws : List Word) : RefCfg :=
  let a := wd ws 1
  if k < 8 then
    let pps := bit a 2
    { enable := bit a 0, edge := bit a 1, pps := pps, ssm := fld a 11 8, essm := fld a 19 12, lane := 0,
      freqHz := if pps then 0 else clamp 1000 800000000 (fld (wd ws 2) 29 0),
      cable := if pps then clampZ (-1000000) 1000000 (sfld (wd ws 3) 31 0) else 0 }
  else
    let l := min 95 (fld a 30 24)
    { enable := bit a 0 && !(s.laneTaken k l), ssm := 0, essm := 0, lane := l, freqHz := 0 }

/-- REF.CONFIG (R354, R357, R378). -/
def bodyRefConfig : Body := fun c ws s =>
  let w := bit (wd ws 0) 31
  let k := min 0xF (fld (wd ws 0) 11 0)
  let old := s.refCfg k
  let s := if w then
    let new := s.refCfgOf k ws
    let s := { s with refs := { s.refs with cfg := Tab.put refCfgReset s.refs.cfg k new } }
    let s := if new.enable then s.refOn k else s.refOff k
    if 8 ≤ k then (((s.checkLane new.lane).checkQl (s.portOfLane new.lane)).dozeChanged old.lane).dozeChanged new.lane else s
    else s
  let r := s.refCfg k
  s.ok c
    [pack [(31, w.toNat), (0, k)],
     pack [(0, r.enable.toNat), (1, r.edge.toNat), (2, r.pps.toNat), (8, r.ssm), (12, r.essm), (24, r.lane)], w32 r.freqHz, i32 r.cable]

/-- REF.RANK (R379). -/
def bodyRefRank : Body := fun c ws s =>
  let w := bit (wd ws 0) 31
  let k := refId false (fld (wd ws 0) 11 0)
  let a := wd ws 1
  let b := wd ws 2
  let s := if w then
    let r : RefRank := { rank := clamp 1 15 (fld a 3 0), qualTime := clamp 1 3600 (fld a 27 16), wtrTime := min 3600 (fld b 11 0),
                         pktSsm := fld b 15 12, pktEssm := fld b 23 16 }
    { s with refs := { s.refs with ranks := Tab.put refRankReset s.refs.ranks k r } }
    else s
  let r := s.refRank k
  s.ok c [pack [(31, w.toNat), (0, k)], pack [(0, r.rank), (16, r.qualTime)], pack [(0, r.wtrTime), (12, r.pktSsm), (16, r.pktEssm)]]

/-! ### REF.SELECT and REF.STATUS -/

/-- REF.SELECT (R362, R380). -/
def bodyRefSelect : Body := fun c ws s =>
  let w := bit (wd ws 0) 31
  let a := wd ws 1
  let r := if w then
    { s.refs with
      mode := min 2 (fld a 1 0), revertive := bit a 2, forceRef := refId false (fld a 27 16),
      pullRange := clamp 1000 100000 (fld (wd ws 2) 16 0), qualLimit := clamp 1 65535 (fld (wd ws 3) 15 0) }
    else s.refs
  ({ s with refs := r }).checkPull.ok c
    [pack [(31, w.toNat)], pack [(0, r.mode), (2, r.revertive.toNat), (16, r.forceRef)], w32 r.pullRange, w32 r.qualLimit]

/-- REF_STATE (R369). -/
def State.refState (s : State) : Word :=
  let p := s.phaseRef
  pack [(31, s.refs.disagree.toNat), (30, s.refs.histValid.toNat), (29, (decide (p = noRef)).toNat), (28, (decide (s.refs.mode ≠ 0)).toNat),
    (16, s.refs.sel), (4, p), (0, State.tb0Code s.refs.st)]

def refQCode : RefQ → Nat
  | .off => 0
  | .disqualified => 1
  | .qualifying => 2
  | .wtr => 3
  | .qualified => 4

/-- Seconds left of a timer, a started second counted whole (DESIGN CHOICE). -/
def State.refTimeLeft (s : State) (k : Nat) : Nat :=
  let r := s.refRun k
  let len := match r.q with | .qualifying => (s.refRank k).qualTime | .wtr => (s.refRank k).wtrTime | _ => 0
  ceilDiv (len * ticksPerSec - (s.clk.tick - r.since)) ticksPerSec

/-- REF.STATUS (R381); BW_NOW is truncated to whole mHz (DESIGN CHOICE, notes/assumptions/78.md). -/
def bodyRefStatus : Body := fun c ws s =>
  let k := refId true (fld (wd ws 0) 11 0)
  let r := s.refRun k
  let head := [s.refState, pack [(0, s.refs.bwNow / 65536), (20, s.refs.arbiter)], if s.refs.histValid then i32 s.prediction else 0]
  s.ok c (head ++ (if k = noRef then [0, 0, 0, 0, 0] else
    [pack [(0, k), (12, refQCode r.q), (15, r.cause), (19, r.outvoted.isSome.toNat), (20, (s.islandHold k).toNat), (21, (s.candidate k).toNat)],
     i32 r.freqOff, pack [(0, s.refTimeLeft k), (16, r.disqCount)], w32 r.selCount, if s.carriesTime k then i32 r.phaseOff else 0]))

/-! ### REF.BANDWIDTH and REF.HOLDOVER -/

/-- A new TRACK_BW reaches the loop (R365, R371). -/
def State.trackChanged (s : State) : State :=
  if s.refs.st = .lockWide ∨ s.refs.st = .lockNarrow then
    if s.refs.bwNow < s.trackBwNow * 65536 then { s with refs := { s.refs with bwWait := some s.clk.tick } }
    else
      let s := { s with refs := { s.refs with bwWait := none } }
      if s.trackBwNow * 65536 < s.refs.bwNow ∧ s.refs.st = .lockNarrow then (s.setBw s.refs.bwNow).setTb0 .lockWide else s
  else s

/-- REF.BANDWIDTH (R371, R382). -/
def bodyRefBandwidth : Body := fun c ws s =>
  let w := bit (wd ws 0) 31
  let s := if w then
    ({ s with refs := { s.refs with
        trackBw := clamp 50 100000 (fld (wd ws 1) 16 0), damping := clamp 500 10000 (fld (wd ws 2) 13 0),
        phaseBw := clamp 1 10000 (fld (wd ws 3) 13 0), phaseSlew := clamp 1 500000 (fld (wd ws 4) 18 0),
        stepThresh := min 1000000000 (fld (wd ws 5) 29 0) } }).trackChanged
    else s
  let r := s.refs
  s.ok c [pack [(31, w.toNat)], w32 r.trackBw, w32 r.damping, w32 r.phaseBw, w32 r.phaseSlew, w32 r.stepThresh]

/-- REF.HOLDOVER (R374, R375, R383): turning LEARN on, or FORGET, starts learning anew (DEDUCED). -/
def bodyRefHoldover : Body := fun c ws s =>
  let w := bit (wd ws 0) 31
  let a := wd ws 1
  let r := if w then
    let learn := bit (wd ws 0) 30
    let forget := bit (wd ws 0) 29
    let r := { s.refs with learn := learn, histWin := clamp 16 65535 (fld a 15 0), histGuard := fld a 23 16, tempSel := bit a 24 }
    let r := if forget then { r with histValid := false } else r
    if learn then
      (if forget = true ∨ s.refs.learn = false then { r with c1 := 0, c2 := 0, age := 0, fits := [] } else r)
    else { r with c1 := sfld (wd ws 2) 31 0, c2 := sfld (wd ws 3) 31 0, age := sfld (wd ws 4) 31 0, fits := [] }
    else s.refs
  ({ s with refs := r }).ok c
    [pack [(31, w.toNat), (30, r.learn.toNat)], pack [(0, r.histWin), (16, r.histGuard), (24, r.tempSel.toNat)],
     i32 r.c1, i32 r.c2, i32 r.age, i32 r.fH, i32 r.tH, pack [(0, r.tempFallback.toNat), (1, r.histValid.toNat)]]

end Sys2Proof.Machine
end

