-- ==== Sys2Proof/Machine/Forward.lean ====
section
/-! DEFINITION. The forwarding tables and the resolve stage (chapter 05): database, streams, VLANs, punt rules, the target set of a frame. The
steps of frames stand in Machine/Frames.lean, the FWD commands in Machine/ForwardCommands.lean. -/

namespace Sys2Proof.Machine

open Sys2Proof

/-! ### The forwarding database (R182-R186) -/

namespace State

/-- The entry of a key: its slot and the entry (R182). -/
def fdbFind (s : State) (mac fid : Nat) : Option (Nat × Fdb) :=
  List.find? (fun (e : Nat × Fdb) => decide (e.2.mac = mac ∧ e.2.fid = fid)) s.fwd.fdb

/-- Change the database. -/
def setFdb (s : State) (t : Tab Fdb) : State := { s with fwd := { s.fwd with fdb := t } }

end State

/-- The slot of a key in a way (R182). -/
def fdbSlot (way mac fid : Nat) : Nat := way * 32768 + Config.fdbHash way mac fid % 32768

/-- The other three slots of the entry in a slot. -/
def otherSlots (t : Tab Fdb) (slot : Nat) : List Nat :=
  match Tab.find? t slot with
  | none => []
  | some e => ((List.range 4).filter (fun w => decide (w ≠ slot / 32768))).map (fun w => fdbSlot w e.mac e.fid)

/-- One level of the search for a free slot: the first chain that ends at one, or the chains one move longer. A chain is written from its last
slot back (R183). -/
def searchLevel (t : Tab Fdb) (chains : List (List Nat)) : Option (List Nat) × List (List Nat) :=
  let longer := chains.flatMap (fun c => match c with
    | [] => []
    | h :: _ => ((otherSlots t h).filter (fun x => !(c.contains x))).map (fun x => x :: c))
  (longer.find? (fun c => match c with | h :: _ => (Tab.find? t h).isNone | [] => false), longer)

/-- The breadth-first search for a chain of at most `n` moves (R183). -/
def searchChain (t : Tab Fdb) : Nat → List (List Nat) → Option (List Nat)
  | 0, _ => none
  | n + 1, chains =>
    match searchLevel t chains with
    | (some c, _) => some c
    | (none, longer) => searchChain t n longer

/-- Carry out the moves of a chain from its free end backward (R183). -/
def moveChain (t : Tab Fdb) : List Nat → Tab Fdb
  | a :: b :: r =>
    match Tab.find? t b with
    | some e => moveChain (Tab.erase (Tab.insert t a e) b) (b :: r)
    | none => moveChain t (b :: r)
  | _ => t

/-- Insert a new key: the lowest free way, or a chain of moves, or failure (R183). -/
def fdbPlace (t : Tab Fdb) (e : Fdb) : Option (Tab Fdb) :=
  let slots := (List.range 4).map (fun w => fdbSlot w e.mac e.fid)
  match slots.find? (fun k => (Tab.find? t k).isNone) with
  | some k => some (Tab.insert t k e)
  | none =>
    match searchChain t 4 (slots.map (fun k => [k])) with
    | none => none
    | some c => match c.getLast? with | some k => some (Tab.insert (moveChain t c) k e) | none => none

/-- Learning at the end of a frame (R184, R185). -/
def State.learn (s : State) (mac fid port : Nat) : State :=
  match s.fdbFind mac fid with
  | some (k, e) =>
    if e.static then
      (if e.dest = port then s else ({ s with fwd := { s.fwd with moveBlocked := inc32 s.fwd.moveBlocked } }).event 0x10A 0 0 1)
    else
      let s' := s.setFdb (Tab.insert s.fwd.fdb k { e with dest := port, hit := true })
      if e.dest = port then s' else ({ s' with fwd := { s'.fwd with moves := inc32 s'.fwd.moves } }).event 0x109 0 0 1
  | none =>
    match fdbPlace s.fwd.fdb { mac := mac, fid := fid, dest := port, static := false, hit := true } with
    | some t => s.setFdb t
    | none =>
      let due := match s.fwd.learnNoted with | some t => decide (t + 1250000 ≤ s.clk.tick) | none => true
      let f := { s.fwd with learnFull := inc32 s.fwd.learnFull, learnNoted := if due then some s.clk.tick else s.fwd.learnNoted }
      let s := ({ s with fwd := f }).event 0x108 0 0 1
      if due then s.queueEvent .data none else s

/-- FDB_AGE_SWEEP (R186). -/
def ageSweep (s : State) : State :=
  if s.fwd.ageEn = false then s
  else
    s.setFdb ((s.fwd.fdb.filter (fun e => e.2.static || e.2.hit)).map
      (fun (e : Nat × Fdb) => if e.2.static then e else (e.1, { e.2 with hit := false })))

/-! ### Streams (R187-R190, R198) -/

/-- The slot of a DA in a way of the stream table (R187). -/
def streamSlot (way da : Nat) : Nat := way * 8192 + Config.streamHash way da % 8192

/-- A frame matches an entry's full key (R187, R188). -/
def Stream.matches_ (e : Stream) (h : Hdr) : Bool :=
  decide (e.da = h.da ∧ e.etype = h.etype)
    && (match h.tci with | none => !e.tagMode | some t => e.tagMode && decide (t % 4096 = e.vid))
    && (!e.appidEn || decide (h.appid = some e.appid))

/-- The full search (R188). Where an entry with APPID_EN 0 and one with APPID_EN 1 both match a frame, the one in the lowest slot is taken (DESIGN
CHOICE, notes/assumptions/69.md). -/
def State.streamFind (s : State) (h : Hdr) : Option Stream :=
  (List.find? (fun (e : Nat × Stream) => e.2.matches_ h) s.fwd.streams).map Prod.snd

/-- The first type field a spark entry's key implies on a port (R198). -/
def Stream.sparkType (e : Stream) (hsr : Bool) : Nat := if hsr then 0x892F else if e.tagMode then 0x8100 else e.etype

/-- The spark entry that a frame's first 14 bytes match (R198); the twin port carries only twin frames (R464), and a MAC control frame is dropped
whatever matches it (R139). -/
def State.sparkFind (s : State) (port : Nat) (bs : List Byte) : Option Stream :=
  if bs.length < 14 ∨ (s.pcfg.en = true ∧ port = s.pcfg.twinPort) then none
  else
    (List.find? (fun (e : Nat × Stream) =>
      e.2.spark && decide (e.2.etype ≠ 0x8808) && decide (e.2.da = beAt bs 0 6 ∧ beAt bs 12 2 = e.2.sparkType (s.hsrPort port))) s.fwd.streams).map Prod.snd

/-! ### VLAN and class (R179, R180) -/

/-- The VLAN of a frame: none for VID 4,095 (R179). -/
def State.vidOf (s : State) (p : Nat) (h : Hdr) : Option Nat :=
  match h.tci with
  | none => some (s.port p).pvid
  | some t => let v := t % 4096; if v = 0 then some (s.port p).pvid else if v = 4095 then none else some v

/-- The class of a frame by its port's map (R180). -/
def State.classOfPcp (s : State) (p : Nat) (h : Hdr) : Nat :=
  let pcp := match h.tci with | none => (s.port p).defPcp | some t => t / 2 ^ 13 % 8
  (s.port p).pcpMap / 2 ^ (3 * pcp) % 8

/-- The tag edit of an egress port (R181): left untagged, or tagged with the VLAN; a frame that arrived untagged takes a PCP. -/
def State.tagEdit (s : State) (vid port pcp : Nat) (tci : Option Nat) : Option (Option Nat) :=
  if (s.vlan vid).untag.testBit port then some none
  else
    match tci with
    | some t => some (some (t / 4096 * 4096 + vid))
    | none => some (some (pcp * 8192 + vid))

/-! ### Fixed punts (R177 step 1, R205) -/

/-- An address the device takes frames by (R177, R460). -/
def State.ownMac (s : State) (da : Nat) : Bool :=
  decide (da = s.fused.mgtMac) || (s.pcfg.en && decide (s.prun.st = .active) && decide (da = s.pcfg.mac))

/-- A pair beacon (R465, R478). -/
def State.isBeacon (s : State) (h : Hdr) (bs : List Byte) : Bool :=
  decide (h.da = 0x03A700000002 ∧ h.etype = s.axg.etype) && decide (be? bs h.pay 1 = some 0xA8)

/-- The source address is the unit of a stored pair whose PAIR_GEN is lower than its partner's (R478). -/
def State.pairFiltered (s : State) (sa : Nat) : Bool :=
  s.prun.pairs.any (fun e =>
    match e.2.unit0, e.2.unit1 with
    | some a, some b => (decide (a.1 = sa) && aheadOf 32 b.2 a.2) || (decide (b.1 = sa) && aheadOf 32 a.2 b.2)
    | _, _ => false)

/-- What step 1 of R177 makes of a frame. -/
inductive Fixed where
  /-- It goes to a punt queue and is not forwarded. -/
  | take (d : PuntTo)
  /-- A PTP message of the lower generation of a pair is dropped (R478). -/
  | filtered
  /-- It goes on: copied to PQ_TIME or not; a transit message of a TC session or not. -/
  | pass (copy : Bool) (transit : Option Nat)
deriving DecidableEq, Repr

/-- Items (a) to (h) of step 1, in their order (R177). -/
def State.fixed (s : State) (p : Nat) (h : Hdr) (bs : List Byte) : Fixed :=
  let copy := s.pcfg.filter && s.isBeacon h bs
  let msg := h.ptp.map (fun x => (x.1, msgAt bs x.2))
  let taker := msg.bind (fun x => s.takerOf p x.1 x.2)
  let transit := match taker with | some _ => none | none => msg.bind (fun x => (s.tcOf p x.2).map Prod.fst)
  if h.etype = s.axg.etype ∧ s.axg.inbandEn = true ∧ (s.ownMac h.da = true ∨ (s.axg.groupEn = true ∧ h.da = 0x03A700000001)) then .take .cmd
  else if (match msg with | some x => s.isProbe h.sa x.2 | none => false) then .take .time
  else if taker.isSome then (if s.pcfg.filter = true ∧ s.pairFiltered h.sa = true then .filtered else .take .time)
  else if isEsmc bs then .take .time
  else if transit.isSome then .pass copy transit
  else if s.ownMac h.da = true ∧ h.etype ≠ s.axg.etype then .take (.host 0 0)
  else if h.da / 16 = 0x0180C200000 then .take (.host 1 0)
  else .pass copy none

/-- A punt rule matches a frame (R205). -/
def Punt.matches_ (r : Punt) (p : Nat) (h : Hdr) : Bool :=
  decide (r.action ≠ 0) && decide (r.inPort = 0x7F ∨ r.inPort = p) && (r.daAny || decide (r.da = h.da))
    && (r.etypeAny || decide (r.etype = h.etype)) && (r.protoAny || decide (h.proto = some r.proto))
    && (r.dportAny || decide (h.dport = some r.dport))

def State.puntRule (s : State) (k : Nat) : Punt := Tab.get puntReset s.fwd.punts k

/-- The first matching rule, and the state that has counted it (R205). -/
def State.ruleFor (s : State) (p : Nat) (h : Hdr) : Option (Nat × Punt) × State :=
  match (List.range 64).find? (fun k => (s.puntRule k).matches_ p h) with
  | none => (none, s)
  | some k =>
    let r := s.puntRule k
    (some (k, r), { s with fwd := { s.fwd with punts := Tab.put puntReset s.fwd.punts k { r with hits := inc32 r.hits } } })

/-! ### Ring rules (R148-R153) -/

/-- What the ring rules leave of a frame: the sequence number it carries, the other ring port it goes out of, and the ports of its instance. -/
structure RingIn where
  /-- Removed or found a duplicate. -/
  gone : Bool := false
  /-- Instance, role and mode of the ingress port. -/
  inst : Option (Nat × Ring × Nat) := none
  seq : Option Nat := none

/-- A host-side address of an HSR node: the database holds it on a port that is not one of its ring ports (R148). -/
def State.hostSide (s : State) (r : Ring) (mac fid : Nat) : Bool :=
  match s.fdbFind mac fid with
  | some (_, e) => decide (e.dest < 104 ∧ e.dest ≠ r.portA ∧ e.dest ≠ r.portB)
  | none => false

/-- Some instance runs as a PRP node or a RedBox, so that trailers are looked for (DEDUCED from R149, notes/assumptions/70.md). -/
def State.prpRuns (s : State) : Bool := (List.range 8).any (fun k => decide (2 ≤ (s.ring k).mode))

/-- The RCT of a received frame, its FCS at its end (R149). -/
def State.rctIn (s : State) (h : Hdr) (bs : List Byte) : Option (Nat × Nat) := if s.prpRuns then rctOf h (dropFcs bs) else none

/-- Removal and duplicate discard of a frame received on a port of a ring role (R148-R152); `whole` frames show their trailer. -/
def State.ringRules (s : State) (at_ : Option (Nat × Ring × Nat)) (fid : Nat) (h : Hdr) (bs : List Byte) (whole : Bool) : RingIn × State :=
  match at_ with
  | none => ({}, s)
  | some (k, r, role) =>
    if r.mode ≠ 2 ∧ role < 2 then
      if h.sa = s.fused.mgtMac ∨ s.hostSide r h.sa fid = true then ({ gone := true, inst := some (k, r, role) }, s)
      else
        match h.hsr with
        | none => ({ inst := some (k, r, role) }, s)
        | some (_, q) =>
          let (dup, s) := s.seeNode h.sa k q role
          ({ gone := dup, inst := some (k, r, role), seq := some q }, s)
    else
      match (if whole then s.rctIn h bs else none) with
      | none => ({ inst := some (k, r, role) }, s)
      | some (q, _) =>
        let (dup, s) := s.seeNode h.sa k q role
        ({ gone := dup, inst := some (k, r, role), seq := some q }, s)

/-- The ring instance that a port belongs to as an HSR ring port or a PRP LAN port of mode 2. -/
def State.doubly (s : State) (p : Nat) : Option (Nat × Ring) :=
  match s.ringRole p with
  | some (k, r, role) => if role < 2 then some (k, r) else none
  | none => none

/-- A target that is one of an instance's two ports stands for both (R148, R149). -/
def State.bothPorts (s : State) (l : List Nat) : List Nat :=
  (l.flatMap (fun p => match s.doubly p with | some (_, r) => [r.portA, r.portB] | none => [p])).dedup

/-- The targets once the ring rules have their say: from a ring port, the other one unless the frame is unicast to the host side, and the host side
when it is multicast or addressed there; from a LAN port, never the other LAN (R148, R149). -/
def State.ringTargets (s : State) (ri : RingIn) (multi known : Bool) (base : List Nat) : List Nat :=
  match ri.inst with
  | some (k, r, role) =>
    let others := base.filter (fun p => match s.doubly p with | some (j, _) => decide (j ≠ k) | none => true)
    if r.mode ≠ 2 ∧ role < 2 then
      let host := if multi = true ∨ known = true then s.bothPorts others else []
      let on := if multi = false ∧ known = true ∧ host ≠ [] then [] else [if role = 0 then r.portB else r.portA]
      on ++ host
    else if r.mode = 2 ∧ role < 2 then s.bothPorts others
    else s.bothPorts base
  | none => s.bothPorts base

/-! ### The target set (R177, R178) -/

/-- What resolve decides. -/
structure Decision where
  targets : List Nat := []
  /-- Class, or 8 for the spark queue. -/
  queue : Nat := 0
  vid : Nat := 1
  tci : Option Nat := none
  cut : Bool := false
  learn : Option Nat := none
  punts : List PuntTo := []
  transit : Option Nat := none
  ring : RingIn := {}

/-- The ports of a DEST: none for the discard (R178). -/
def State.destPorts (s : State) (d : Nat) : Option (List Nat) :=
  if d < 104 then some [d] else if d = 0xFFF then none else some (maskBits 104 (Tab.get zeroReset s.fwd.groups (d % 4096)))

/-- A drop counted in VLAN_DROP of a port. -/
def State.vlanDrop (s : State) (p : Nat) : State := s.ev 0x106 p

/-- The port can take frames for egress: it exists and is not down (R141, R142). -/
def State.takesEgress (s : State) (p : Nat) : Bool := s.portExists p && decide ((s.port p).st = .up ∨ (s.port p).st = .filter)

/-- The removals after step 7 (R177): the ingress port, non-members, the twin port (R464), ports that are DOWN or absent (R142). -/
def State.prune (s : State) (p vid : Nat) (l : List Nat) : List Nat × State :=
  let l := l.filter (fun q => decide (q ≠ p) && !(s.pcfg.en && decide (q = s.pcfg.twinPort)))
  let member := (s.vlan vid).member
  let s := if l.any (fun q => !(member.testBit q)) then s.vlanDrop p else s
  let l := l.filter (fun q => member.testBit q)
  let down := l.filter (fun q => s.portExists q && !(s.takesEgress q))
  let s := down.foldl (fun (s : State) q => (s.modPort q (fun (x : Port) => { x with downDrops := inc32 x.downDrops })).ev 0x111 q) s
  (l.filter s.takesEgress, s)

/-- Steps 5 to 7 and the removals (R177): from the VLAN and class of step 3. A stream entry of the spark class puts the frame on the spark queue
(R189). -/
def State.lookup (s : State) (p vid cls : Nat) (h : Hdr) (d : Decision) : Decision × State :=
  let fid := (s.vlan vid).fid
  let st := (s.streamFind h)
  let hit := match st with | some e => some e.dest | none => (s.fdbFind h.da fid).map (fun e => e.2.dest)
  let d := { d with queue := match st with | some e => if e.spark then 8 else e.cls | none => cls, cut := match st with | some e => e.cut | none => false, vid := vid,
                    tci := h.tci }
  match hit with
  | some x =>
    match s.destPorts x with
    | none => (d, s.ev 0x107 p)
    | some l => let (t, s) := s.prune p vid (s.ringTargets d.ring (isMulti h.da) true l); ({ d with targets := t }, s)
  | none =>
    let (t, s) := s.prune p vid (s.ringTargets d.ring (isMulti h.da) false (maskBits 104 (s.vlan vid).member))
    ({ d with targets := t }, s)

/-- Resolve a received frame outside the spark class (R177). -/
def State.resolve (s : State) (p : Nat) (bs : List Byte) (whole : Bool) : Decision × State :=
  let h := parseHdr (s.hsrPort p) bs
  if s.pcfg.en = true ∧ p = s.pcfg.twinPort then
    if s.isBeacon h bs then ({ punts := [.time] }, s)
    else ({}, { s with prun := { s.prun with twinDrops := inc32 s.prun.twinDrops } })
  else
    match s.fixed p h bs with
    | .take d => ({ punts := [d] }, s)
    | .filtered => ({}, { s with prun := { s.prun with filtered := inc32 s.prun.filtered } })
    | .pass copy transit =>
      let d : Decision := { punts := if copy then [.time] else [], transit := transit, tci := h.tci }
      let fid := (s.vlan ((s.vidOf p h).getD 0)).fid
      let (ri, s) := s.ringRules (s.ringRole p) fid h bs whole
      let d := { d with ring := ri }
      if ri.gone then (d, s)
      else
        match s.vidOf p h with
        | none => (d, s.vlanDrop p)
        | some vid =>
          let v := s.vlan vid
          if v.valid = false ∨ v.member.testBit p = false then (d, s.vlanDrop p)
          else
            let d := { d with learn := if v.learn = true ∧ isMulti h.sa = false then some v.fid else none, vid := vid }
            let (rule, s) := s.ruleFor p h
            match rule with
            | some (k, r) =>
              if r.action = 3 then (d, s)
              else if r.action = 2 then ({ d with punts := d.punts ++ [.host 3 k] }, s)
              else s.lookup p vid (s.classOfPcp p h) h { d with punts := d.punts ++ [.host 2 k] }
            | none => s.lookup p vid (s.classOfPcp p h) h d

end Sys2Proof.Machine
end

