-- ==== Sys2Proof/Machine/Frames.lean ====
section
/-! DEFINITION. The steps of frames (chapters 05, 06): trigger byte, spark match, last byte, egress, insertion. -/

namespace Sys2Proof.Machine

open Sys2Proof

/-! ### Enqueueing the copies of a frame (R192, R224, R229) -/

namespace State

/-- A port in a PRP role: a LAN port, or the interlink to one (R147, R153). -/
def prpPort (s : State) (p : Nat) : Bool :=
  match s.ringRole p with | some (_, r, role) => decide (r.mode = 2 ∨ role = 2) | none => false

/-- A target of a frame cuts through (R192, R153). -/
def cutsTo (s : State) (p : Nat) (d : Decision) (q : Nat) : Bool :=
  (d.cut || (s.port q).cut.testBit d.queue) && decide (s.macRate q ≤ s.macRate p) && !(s.prpPort q) && !(s.prpPort p)

/-- A frame forwarded between the ring ports of one HSR instance. -/
def inRing (d : Decision) (k : Nat) : Bool :=
  match d.ring.inst with | some (j, r, role) => decide (j = k ∧ r.mode ≠ 2 ∧ role < 2) | none => false

/-- The sequence numbers a frame takes in the instances it enters (R148-R150): kept from the interlink, or the next one. A spark frame from the
interlink enters the ring before its RCT has been seen, and takes the instance's next number (DESIGN CHOICE, notes/assumptions/71.md). -/
def seqsFor (s : State) (d : Decision) : Tab Nat × State :=
  (List.range 8).foldl (fun (acc : Tab Nat × State) k =>
    let enters := d.targets.any (fun p => match acc.2.doubly p with | some (j, _) => decide (j = k) | none => false) && !(inRing d k)
    if enters = false then acc
    else
      match d.ring.inst, d.ring.seq with
      | some (j, _, 2), some q => if j = k then (Tab.insert acc.1 k q, acc.2) else let (q, s) := acc.2.nextSeq k; (Tab.insert acc.1 k q, s)
      | _, _ => let (q, s) := acc.2.nextSeq k; (Tab.insert acc.1 k q, s)) ([], s)

/-- The redundancy edit of a target: code, sequence number, path or LanId (R148-R150). A spark frame's own sequence number is filled in when its
HSR tag has been read. -/
def redOf (s : State) (d : Decision) (seqs : Tab Nat) (p : Nat) : Nat × Nat × Nat :=
  match s.ringRole p with
  | some (k, r, role) =>
    let q := (Tab.find? seqs k).getD 0
    if role < 2 then
      if r.mode ≠ 2 then (if inRing d k then (1, 0, 0) else (2, q, role)) else (3, q, r.lanOf role)
    else if inRing d k then (match d.ring.seq with | some q => (3, q, r.lanOf 2) | none => if d.queue = 8 then (3, 0, r.lanOf 2) else (0, 0, 0))
    else (0, 0, 0)
  | none => (0, 0, 0)

/-- The rewriting mark of a transit message on an egress port (R285). -/
def transitMark (s : State) (d : Decision) (msg : Option Msg) (p : Nat) : Mark :=
  match d.transit, msg with
  | some a, some m =>
    if m.typ ≤ 1 then
      (match s.tcOf p m, s.session? a with | some (b, y), some x => .transit a b (s.termsOf x) (s.termsOf y) | _, _ => .none)
    else .none
  | _, _ => .none

/-- The port's default PCP; an inserted frame has none (DESIGN CHOICE: 0). -/
def pcpOf (s : State) (p : Nat) : Nat := if p < 104 then (s.port p).defPcp else 0

/-- Decide every target of a frame in order (R224, R229): `cut` targets and those of a frame that has ended are queued, the others wait. -/
def admitAll (s : State) (id p : Nat) (d : Decision) (h : Hdr) (bs : List Byte) (cut : Nat → Bool) (ended : Bool) (n : Nat) : State :=
  let (seqs, s) := s.seqsFor d
  let msg := h.ptp.map (fun x => msgAt bs x.2)
  d.targets.foldl (fun (s : State) q =>
    let red := s.redOf d seqs q
    s.admitCopy
      { frame := id, port := q, queue := d.queue, charge := n, st := if ended = true ∨ cut q = true then CopySt.queued else CopySt.pending,
        tag := if d.queue = 8 then (match s.tagEdit d.vid q (s.pcpOf p) d.tci with | some none => some none | e => if d.tci.isSome then none else e)
               else s.tagEdit d.vid q (s.pcpOf p) d.tci,
        red := red.1, redSeq := red.2.1, redLan := red.2.2, mark := s.transitMark d msg q, cut := cut q }) s

/-- A settled charge: the frame's actual cells on every copy, and its waiting targets enqueued (R227). -/
def settle (s : State) (id len : Nat) : State :=
  let l := s.buf.copies.map (fun (c : Copy) => if c.frame = id then { c with charge := cellsOf len } else c)
  let waits := fun (c : Copy) => decide (c.frame = id) && decide (c.st = CopySt.pending)
  { s with buf := { s.buf with
      copies := l.filter (fun c => !(waits c)) ++ (l.filter waits).map (fun (c : Copy) => { c with st := CopySt.queued }) } }

/-- The provisional charge of a port (R224). -/
def provisional (s : State) (p : Nat) : Nat := cellsOf (s.port p).maxFrame

/-- The frame belongs to a digest: its receive stamp lies more than 1 us from both ends of its window (R468). -/
def noteDigest (s : State) (p : Nat) (rx : Stamp) (d : Decision) : State :=
  let t := rx.times.getD 0 0
  let ms : Nat := 10 ^ 6 * nsU
  let within := t % ms
  if s.pcfg.en = true ∧ s.pcfg.cmpPorts.testBit p = true ∧ 1000 * nsU < within ∧ within < 999000 * nsU then
    { s with prun := { s.prun with digest := s.prun.digest ++ [(t / ms, p, maskOf d.targets, d.queue)] } }
  else s

/-- A frame reaches a punt queue; a message of a session that PQ_TIME drops counts in the session's RX_DROPS (R25, R286). -/
def puntMsg (s : State) (id p : Nat) (h : Hdr) (bs : List Byte) (dst : PuntTo) : State :=
  let full := decide (dst = PuntTo.time) && !s.puntRoom id 0
  let s := s.punt id dst
  if full then
    match h.ptp.bind (fun x => s.takerOf p x.1 (msgAt bs x.2)) with
    | some sid => s.modRun sid (fun r => { r with rxDrops := inc16 r.rxDrops })
    | none => s
  else s

/-- Decide a frame as resolve has found it: targets, then punts (R177, R228, R229). -/
def decide_ (s : State) (id p : Nat) (d : Decision) (h : Hdr) (bs : List Byte) (cut : Nat → Bool) (ended : Bool) (n : Nat) : State :=
  let s := s.modFrame id (fun (f : Frame) => { f with decided := true, learn := d.learn })
  let s := match s.frame? id with | some f => s.noteDigest p f.rx d | none => s
  d.punts.foldl (fun (s : State) x => s.puntMsg id p h bs x) (s.admitAll id p d h bs cut ended n)

/-- A port receives frames (R142): it is UP. -/
def receives (s : State) (p : Nat) : Bool := s.dpUp && s.portExists p && decide ((s.port p).st = .up)

/-- A raw stamp on a lane of its port. -/
def rawOn (p : Nat) (r : Raw) : Raw := if (portLanes p).contains r.lane then r else { r with lane := (portLanes p).headD 0 }

/-- A new frame arrives on a port. -/
def startFrame (s : State) (p : Nat) (bs : List Byte) (r : Raw) : Nat × State :=
  let (id, s) := s.newFrame { id := 0, bytes := bs, inPort := p, rx := s.rxStamp (rawOn p r), hsrIn := s.hsrPort p }
  (id, s.arriveSegs id bs.length)

/-! ### The end of a frame (R139, R184, R193, R196, R227) -/

/-- The end of a frame whose fate its copies decide. -/
def closeFrame (s : State) (id cause : Nat) : State := (s.endFrame id).finish id cause

/-- Learning at a frame's end (R184). -/
def learnFrame (s : State) (id p : Nat) (bs : List Byte) : State :=
  match (s.frame? id).bind (fun f => f.learn) with
  | some fid => s.learn (beAt bs 6 6) fid p
  | none => s

/-- A frame that resolve sees with its last byte (R139, R193). -/
def wholeFrame (s : State) (id p : Nat) (bs : List Byte) (ok : Bool) : State :=
  let n := bs.length
  let h := parseHdr (s.hsrPort p) bs
  let at_ := match s.frame? id with | some f => f.rx.tick | none => s.clk.tick
  let s := ((s.rxBand p n at_).arriveSegs id n).modFrame id (fun (f : Frame) =>
    { f with bytes := bs, ended := true, badFcs := !ok, rct := (s.rctIn h bs).isSome })
  let gone := fun (s : State) => (s.modFrame id (fun (f : Frame) => { f with decided := true })).finish id 0x400
  if n < 64 then gone (s.modPort p (fun (x : Port) => { x with runt := inc16 x.runt }))
  else if (s.port p).maxFrame < n then gone (s.modPort p (fun (x : Port) => { x with oversize := inc16 x.oversize }))
  else if h.etype = 0x8808 then gone (s.modPort p (fun (x : Port) => { x with pauseDrops := inc16 x.pauseDrops }))
  else if ok = false then gone (s.ev 0x100 p)
  else
    let (d, s) := s.resolve p bs true
    let cut := fun q => s.cutsTo p d q
    let some_ := d.targets.any cut
    let s := s.decide_ id p d h bs cut true (if some_ then s.provisional p else cellsOf n)
    ((s.settle id n).learnFrame id p bs).finish id 0x400

/-- Copies that end early in one tick: those that wait are dropped first, those in transmission leave with an invalidated FCS (R143, R196). -/
def endCopies (s : State) (id : Nat) (each : State → Copy → State) : State :=
  let l := s.buf.copies.filter (fun c => decide (c.frame = id))
  ((l.filter (fun c => decide (c.st = CopySt.pending))) ++ (l.filter (fun c => decide (c.st ≠ CopySt.pending)))).foldl each s

/-- All bytes of a frame that has ended have been sent before its invalidated FCS. -/
def cutWhole (s : State) (c : Copy) : State := s.cutShort c (2 ^ 20)

/-- A cut-through frame whose FCS proves bad (R196, R227). -/
def badEnd (s : State) (id p : Nat) : State :=
  (s.ev 0x101 p).endCopies id (fun (s : State) c =>
    if c.st = .sending then (s.ev 0x102 c.port).cutWhole c
    else if c.st = .pending then ((s.ev 0x100 p).dropCopy c).finish id 0x404
    else ((s.ev 0x100 p).dropCopy c).finish id 0x403)

/-- A copy of a spark frame that ran out of bytes: its egress is faster, and the frame longer than SPARK_LEN (R204). -/
def underrun (s : State) (f : Frame) (len : Nat) (c : Copy) : Bool :=
  decide (s.macRate f.inPort < s.macRate c.port) && decide (c.st = CopySt.sending)
    && (match f.spark with | some v => decide (v.entry.sparkLen < len) | none => false)

/-- Copies ended because a spark frame proves to be removed or a duplicate (R153, R201). -/
def dupEnd (s : State) (id lo : Nat) : State :=
  s.endCopies id (fun (s : State) c =>
    ((s.modPort c.port (fun (x : Port) => { x with dupCut := inc16 x.dupCut })).ev 0x105 c.port).cutShort c lo)

/-- The last byte of a frame already decided (R139, R196, R204, R227). A frame that is too long ends after byte MAX_FRAME. -/
def lateEnd (s : State) (f : Frame) (p : Nat) (bs : List Byte) (ok : Bool) (under : List Nat) : State :=
  let n := bs.length
  let id := f.id
  let h := parseHdr f.hsrIn bs
  let long := decide ((s.port p).maxFrame < n)
  let s := (s.buf.copies.filter (fun c => decide (c.frame = id) && under.contains c.port && s.underrun f n c)).foldl
    (fun (s : State) c => (s.ev 0x104 c.port).cutShort c (match f.spark with | some v => v.entry.sparkLen | none => 0)) s
  let s := ((s.rxBand p n f.rx.tick).arriveSegs id n).modFrame id (fun (f : Frame) =>
    { f with bytes := if long then bs.take (s.port p).maxFrame else bs, badFcs := !ok, rct := (s.rctIn h bs).isSome })
  if n < 64 ∨ long = true then
    let s := if long then s.modPort p (fun (x : Port) => { x with oversize := inc16 x.oversize })
      else s.modPort p (fun (x : Port) => { x with runt := inc16 x.runt })
    let s := s.endCopies id cutWhole
    let s := (s.buf.punted.filter (fun x => decide (x.frame = id))).foldl (fun (s : State) x => s.dropPunt x 0x403) s
    s.closeFrame id 0x403
  else if ok = false then ((s.badEnd id p).closeFrame id 0x403)
  else
    -- a spark frame on a PRP port shows its trailer only now (R153)
    let late := match f.spark.bind SparkView.role with | some (_, r, role) => decide (r.mode = 2 ∨ role = 2) | none => false
    let (ri, s) := if late then s.ringRules (f.spark.bind SparkView.role) 0 h bs true else ({}, s)
    let s := if ri.gone then s.dupEnd id (2 ^ 20) else s.learnFrame id p bs
    (s.settle id n).closeFrame id 0x403

/-! ### The spark class (R198-R204) -/

/-- The tables as a spark frame sees them at its match (R28, R198): its VLAN is fixed from its first 14 bytes. -/
def sparkView (s : State) (p : Nat) (e : Stream) : SparkView :=
  let vid := if e.tagMode then e.vid else (s.port p).pvid
  { entry := e, vid := vid, vlan := s.vlan vid, role := s.ringRole p }

/-- SPARK_MATCH: the first 14 bytes match a spark entry (R198): targets, spark queue, provisional charges. -/
def sparkStart (s : State) (p : Nat) (e : Stream) (bs : List Byte) (r : Raw) : State :=
  let v := s.sparkView p e
  let (id, s) := s.startFrame p bs r
  let ring : RingIn := { inst := v.role }
  let h := parseHdr (s.hsrPort p) bs
  let (t, s) : List Nat × State := match s.destPorts e.dest with
    | none => ([], s.ev 0x107 p)
    | some l => s.prune p v.vid (s.ringTargets ring (isMulti h.da) true l)
  let d : Decision := { targets := t, queue := 8, vid := v.vid, tci := if e.tagMode then some e.vid else none, cut := true, ring := ring }
  let s := s.modFrame id (fun (f : Frame) => { f with spark := some v })
  ((s.decide_ id p d h bs (fun _ => true) false (s.provisional p)).finish id 0x400)

/-- The key fields beyond byte 13 hold (R201). -/
def sparkKeyOk (v : SparkView) (p : Nat) (h : Hdr) : Bool := v.entry.matches_ h && v.vlan.valid && v.vlan.member.testBit p

/-- A key field has failed: every copy ends with an invalidated FCS, and one not begun is dropped, without a count of its own (R201; DESIGN CHOICE,
notes/assumptions/72.md). -/
def sparkMismatch (s : State) (f : Frame) : State :=
  ((s.ev 0x103 f.inPort).modFrame f.id (fun (f : Frame) => { f with punted := true, learn := none })).endCopies f.id
    (fun (s : State) c => s.cutShort c 0)

/-- The copies that cross from the ring to the interlink of instance `k` take the sequence number of the HSR tag (R150). -/
def fillSeq (s : State) (id k q : Nat) : State :=
  { s with buf := { s.buf with copies := s.buf.copies.map (fun (c : Copy) =>
      match s.ringRole c.port with
      | some (j, _, 2) => if c.frame = id ∧ c.red = 3 ∧ j = k then { c with redSeq := q } else c
      | _ => c) } }

/-- A spark frame reaches byte 127 or its end: key check, fixed punts, ring rules, copy rules, learning (R177, R201, R202). One already freed is
punted no more (R231). -/
def sparkByte127 (s : State) (f : Frame) (bs : List Byte) : State :=
  let p := f.inPort
  let h := parseHdr f.hsrIn bs
  if f.punted then s
  else
    match f.spark with
    | none => s
    | some v =>
      if sparkKeyOk v p h = false then s.sparkMismatch f
      else
        let s := s.modFrame f.id (fun (f : Frame) => { f with punted := true })
        let free := f.fate.isSome
        let fix := s.fixed p h bs
        let s := match fix with
          | .take d => if free then s else s.puntMsg f.id p h bs d
          | .filtered => { s with prun := { s.prun with filtered := inc32 s.prun.filtered } }
          | .pass copy _ => if copy = true ∧ free = false then s.puntMsg f.id p h bs .time else s
        let (ri, s) := s.ringRules v.role v.vlan.fid h bs false
        if ri.gone then s.dupEnd f.id 0
        else
          let s := match v.role, ri.seq with | some (k, _, _), some q => s.fillSeq f.id k q | _, _ => s
          let s := match fix with
            | .pass _ _ =>
              if free then s
              else match s.ruleFor p h with
                | (some (k, r), s') => if r.action = 1 then s'.punt f.id (.host 2 k) else s
                | (none, _) => s
            | _ => s
          s.modFrame f.id (fun (f : Frame) => { f with learn := if v.vlan.learn = true ∧ isMulti h.sa = false then some v.vlan.fid else none })

end State

/-! ### Steps of received frames -/

/-- FRAME_LAST_BYTE: the whole frame, its FCS verdict, and the ports whose spark copy ran out of bytes. -/
def frameLastByte (p : Nat) (bs : List Byte) (ok : Bool) (under : List Nat) (s : State) : State :=
  match s.arriving p with
  | none => s
  | some f =>
    if f.decided = false then s.wholeFrame f.id p bs ok
    else
      let s := if f.spark.isSome = true ∧ 64 ≤ bs.length then s.sparkByte127 f bs else s
      match s.frame? f.id with
      | some f => s.lateEnd f p bs ok under
      | none => s

/-- FRAME_TRIGGER_BYTE: a frame reaches byte 127, or has ended with this FCS verdict (R193). One no target of which cuts through goes on
arriving until its last byte. -/
def frameTrigger (p : Nat) (bs : List Byte) (ended : Option Bool) (r : Raw) (s : State) : State :=
  if s.receives p = false then s
  else
    match s.arriving p with
    | some f => if f.spark.isSome = true ∧ ended.isNone = true ∧ 128 ≤ bs.length then s.sparkByte127 f bs else s
    | none =>
      match s.sparkFind p bs with
      | some e =>
        let s := s.sparkStart p e (bs.take 14) r
        (match ended with
        | some ok => frameLastByte p bs ok [] s
        | none => match s.arriving p with | some f => if 128 ≤ bs.length then s.sparkByte127 f bs else s | none => s)
      | none =>
        match ended with
        | some ok => let (id, s) := s.startFrame p bs r; s.wholeFrame id p bs ok
        | none =>
          if bs.length < 128 then s
          else
            let (id, s) := s.startFrame p bs r
            let h := parseHdr (s.hsrPort p) bs
            if h.etype = 0x8808 then s
            else
              let x := s.resolve p bs false
              let cut := fun q => x.2.cutsTo p x.1 q
              if x.1.targets.any cut then (x.2.decide_ id p x.1 h bs cut false (s.provisional p)).finish id 0x400 else s

/-- SPARK_MATCH (R198). -/
def sparkMatch (p : Nat) (bs : List Byte) (r : Raw) (s : State) : State :=
  if s.receives p = false ∨ (s.arriving p).isSome = true then s
  else match s.sparkFind p bs with | some e => s.sparkStart p e (bs.take 14) r | none => s

/-- SPARK_KEY_CHECK_FAIL: the bytes up to the field that fails (R201). -/
def sparkKeyFail (p : Nat) (bs : List Byte) (s : State) : State :=
  match s.arriving p with
  | some f =>
    match f.spark with
    | some v => if f.punted = true ∨ State.sparkKeyOk v p (parseHdr f.hsrIn bs) = true then s else s.sparkMismatch f
    | none => s
  | none => s

/-! ### Egress (R191, R230, R260-R263) -/

namespace State

/-- The frame the scheduler serves next on a port: the spark queue, then classes 7 down to 0, each in enqueue order (R191). -/
def nextCopy (s : State) (p : Nat) : Option Copy :=
  [8, 7, 6, 5, 4, 3, 2, 1, 0].findSome? (fun q =>
    s.buf.copies.find? (fun c => decide (c.port = p ∧ c.queue = q) && decide (c.st = CopySt.queued)))

/-- Change a copy in its place. -/
def setCopy (s : State) (old new : Copy) : State :=
  { s with buf := { s.buf with copies := s.buf.copies.map (fun (c : Copy) => if c = old then new else c) } }

/-- A mark asks for an overlay, without which the frame leaves with an invalidated FCS (R23, R260). -/
def needsOverlay (mark : Mark) (bs : List Byte) : Bool :=
  match mark with
  | .session _ _ => match (parseHdr true bs).ptp with | some (_, o) => let m := msgAt bs o; decide (m.typ = 0) && !m.twoStep | none => false
  | .turnaround _ _ _ => true
  | .transit _ _ _ _ => true
  | .twin => true
  | _ => false

/-- The transmit times of a TWIN_TIME frame, written in flight (R465). -/
def twinOverlay (bs : List Byte) (tx : Stamp) : List Byte :=
  if beAt bs 15 1 % 16 = 1 then putBytes bs 30 ((List.range 8).flatMap (fun n => wordBytesBE (timeWords (tx.times.getD n 0)))) else bs

/-- An insert descriptor's frame has left, with its transmit stamp; without one while the timing plane is out of service (R448). -/
def insStamped (s : State) (i : Nat) (st : Option Stamp) : State :=
  { s with hst := { s.hst with insDescs := s.hst.insDescs.map (fun (d : InsDesc) =>
      if d.idx = i then { d with ready := true, stamp := st } else d) } }

/-- What a copy's transmit stamp does once it has left (R286, R292, R332, R448, R465). -/
def afterStamp (s : State) (c : Copy) (bs : List Byte) (tx : Stamp) : State :=
  let s := match c.mark with
    | .session sid _ => s.msgStamped sid bs tx
    | .turnaround sid _ _ => s.msgStamped sid bs tx
    | .probe _ => (match (parseHdr false bs).ptp with | some (_, o) => s.probeSent (msgAt bs o).seq tx | none => s)
    | .twin =>
      if beAt bs 15 1 % 16 = 1 then
        { s with prun := { s.prun with twinTx := some (beAt bs 28 2, (List.range 8).map (fun n => tx.frac n)) } }
      else s
    | _ => s
  match c.insIdx with
  | some i => s.insStamped i (some tx)
  | none => s

end State

/-- FRAME_EGRESS_SELECT: the port is UP, out of doze and idle, and a frame waits; its transmit stamp is predicted (R191, R255, R261). -/
def egressSelect (p : Nat) (r : Raw) (s : State) : State :=
  if s.dpUp = false ∨ (s.port p).st ≠ .up ∨ s.portExists p = false then s
  else if s.buf.copies.any (fun c => decide (c.port = p) && decide (c.st = CopySt.sending)) then s
  else if (portLanes p).any (fun l => decide ((s.lane l).doze ≠ .awake)) then s
  else
    match s.nextCopy p with
    | none => s
    | some c =>
      let x := (portLanes p).headD 0
      let st := if s.tpUp then
        some (s.txStamp (State.rawOn p r) (egressTicks (s.lane x).rate (decide (96 ≤ p)) (s.fecOf p))) else none
      let bs := match s.frame? c.frame with | some f => f.bytes | none => []
      let missed := st.isNone && State.needsOverlay c.mark bs
      let s := if missed then (s.modPort p (fun (x : Port) => { x with stampMiss := inc32 x.stampMiss })).ev 0x300 p else s
      s.setCopy c { c with st := .sending, txStamp := st, missed := missed, rates := (List.range 8).map (fun n => (s.tb n).rateTotal) }

/-- The stamp as the ball capture cell took it, where the prediction was d ps more (R263). -/
def Stamp.atBall (rates : List Int) (x : Stamp) (d : Int) : Stamp :=
  { x with
    sub := x.sub - psU d
    times := List.zipWith (fun (t : Nat) r => (roundFrac ((t : Int) - scaleRho r (psU d)) % (tbWrap : Nat)).toNat) x.times rates }

/-- The session a copy's message belongs to. -/
def Mark.session? : Mark → Option Nat
  | .session sid _ => some sid
  | .turnaround sid _ _ => some sid
  | .transit _ sid _ _ => some sid
  | _ => Option.none

/-- The comparison of the transmit stamp with its prediction, prediction minus ball value in ps: one UI or more is counted, recorded and reported
to the session (R263). -/
def stampVerify (p : Nat) (c : Copy) (off : Option Int) (tx : Stamp) (s : State) : Stamp × State :=
  match off with
  | none => (tx, s)
  | some d =>
    if (psU d).natAbs < uiTx (s.lane tx.lane).rate then (tx, s)
    else
      let s := ((s.modPort p (fun (x : Port) => { x with stampVerifyErr := inc32 x.stampVerifyErr })).ev 0x301 p).log .timing 0x0202 (srcOf 2 p) (i32 d) 0 0
      (tx.atBall c.rates d, match c.mark.session? with | some sid => s.modRun sid (fun r => { r with verify := some d }) | none => s)

/-- FRAME_TX_END: the copy's last segment is read: the frame as it leaves, its counts, its stamp, its reference (R230, R263). A frame still
arriving has no last segment yet. -/
def frameTxEnd (p : Nat) (off : Option Int) (s : State) : State :=
  match s.buf.copies.find? (fun c => decide (c.port = p) && decide (c.st = CopySt.sending)) with
  | none => s
  | some c0 =>
    match s.frame? c0.frame with
    | none => s
    | some f =>
      if f.ended = false then s
      else
        let bs := State.copyBytes f c0
        let c : Copy := { c0 with txStamp := c0.txStamp.map (s.restamp (State.needsOverlay c0.mark f.bytes)) }
        let (bs, s) : List Byte × State := match c.txStamp with
          | some tx => (match c.mark with | .twin => (State.twinOverlay bs tx, s) | _ => s.overlay c.mark c.rates p bs f.rx tx)
          | none => (bs, s)
        let fcs := if c.missed then 2 ^ 32 - 1 - crc32 bs else crc32 bs
        let s := ((s.emit (.frame p (bs ++ bytesLE 4 fcs) (!c.missed))).txBand p (bs.length + 4) (match c.txStamp with | some tx => tx.tick | none => s.clk.tick))
        let s := ((s.modFrame f.id (fun (f : Frame) => { f with delivered := true })).dropCopy c0).finish f.id 0x403
        match c.txStamp with
        | some tx => let (tx, s) := stampVerify p c off tx s; s.afterStamp c bs tx
        | none => (match c.insIdx with | some i => s.insStamped i none | none => s)

/-! ### Insertion (R174, R206, R228, R447, R448) -/

namespace State

/-- A new frame takes the copy path of its insert queue: what is left of the frame before it is carried at once (R174, R222). -/
def startCopy (s : State) (q id n : Nat) : State :=
  let s := match Tab.find? s.buf.paths q with
    | some x =>
      let p := ((List.range 16).find? (fun p => decide (s.backlogOf p = 0))).getD 0
      (s.setBacklog p (s.backlogOf p + x.left)).placeSegs q p x.left
    | none => s
  { s with buf := { s.buf with paths := Tab.insert s.buf.paths q { frame := id, left := n } } }

/-- Pop the head of an insert queue: 0 IQ_TIME, 1 IQ_CMD, 2 IQ_HOST. -/
def popInsert (s : State) (q : Nat) : Option (Ins × State) :=
  match q, s.buf.iqTime, s.buf.iqCmd, s.buf.iqHost with
  | 0, i :: t, _, _ => some (i, { s with buf := { s.buf with iqTime := t } })
  | 1, _, i :: t, _ => some (i, { s with buf := { s.buf with iqCmd := t } })
  | 2, _, _, i :: t => some (i, { s with buf := { s.buf with iqHost := t } })
  | _, _, _, _ => none

/-- The insert descriptor of a copied frame: dropped, done, or waiting for its stamp (R448). -/
def insCopied (s : State) (i : Ins) (stored : Bool) : State :=
  match i.insIdx with
  | none => s
  | some k =>
    { s with hst := { s.hst with insDescs := s.hst.insDescs.map (fun (d : InsDesc) =>
        if d.idx = k then { d with dropped := !stored, ready := d.ready || !stored || !d.stampReq } else d) } }

/-- A DIRECT frame for a port: one target, no lookup, no tag edit (R206). -/
def insertDirect (s : State) (id : Nat) (i : Ins) (n : Nat) : State :=
  let p := min 103 i.port
  if s.takesEgress p = false then
    (if s.portExists p then (s.modPort p (fun (x : Port) => { x with downDrops := inc32 x.downDrops })).ev 0x111 p else s)
  else
    s.admitCopy { frame := id, port := p, queue := min 8 i.cls, charge := n, st := .queued, mark := i.mark, insIdx := i.insIdx }

/-- A LOOKUP frame: its tag's VID or the given one, then steps 5 to 7 of R177 without ingress filtering (R206). A tag with VID 0 takes the
descriptor's VID, and without a stream hit the class is the descriptor's CLASS, 8 the spark queue (DESIGN CHOICE, notes/assumptions/73.md). -/
def insertLookup (s : State) (id : Nat) (i : Ins) (bs : List Byte) (n : Nat) : State :=
  let h := parseHdr false bs
  let vid := match h.tci with | some t => if t % 4096 = 0 then i.vid else t % 4096 | none => i.vid
  let (d, s) := s.lookup 0x7F vid i.cls h {}
  let d := if i.insIdx.isSome then { d with targets := d.targets.filter (fun p => decide (i.bytes.length ≤ (s.port p).maxFrame - 4)) } else d
  s.admitAll id 0x7F d h bs (fun _ => false) true n

end State

/-- INSERT_FRAME: a frame of an insert queue enters the pipeline (R206, R228). -/
def insertFrame (q : Nat) (s : State) : State :=
  if s.dpUp = false then s
  else
    match s.popInsert q with
    | none => s
    | some (i, s) =>
      let bs := withFcs (padFrame i.bytes)
      let n := cellsOf bs.length
      let (id, s) := s.newFrame { id := 0, bytes := bs, inPort := 0x7F, ended := true, decided := true }
      let s := s.startCopy q id (segsOf bs.length)
      let s := if i.lookup then s.insertLookup id i bs n else s.insertDirect id i n
      let stored := s.buf.copies.any (fun c => decide (c.frame = id))
      (s.insCopied i stored).finish id 0x400

end Sys2Proof.Machine
end

