-- ==== Sys2Proof/Machine/ForwardCommands.lean ====
section
/-! DEFINITION. The FWD commands (R207-R216). -/

namespace Sys2Proof.Machine

open Sys2Proof

/-- A written DEST: excluded values become the discard (R70, R178). -/
def destOf (d : Nat) : Nat := if 104 ≤ d ∧ d < 0xFFF then 0xFFF else d

/-- A MAC address in two words (R207). -/
def macOf (a b : Word) : Nat := a.toNat * 2 ^ 16 + fld b 31 16

/-- A mask of ports in four words, word 0 first; bits of ports above 103 are reserved (R178). -/
def maskArg (ws : List Word) (i : Nat) : Nat :=
  ((wd ws i).toNat + (wd ws (i + 1)).toNat * 2 ^ 32 + (wd ws (i + 2)).toNat * 2 ^ 64 + (wd ws (i + 3)).toNat * 2 ^ 96) % 2 ^ 104

def maskWords (m : Nat) : List Word := [w32 m, w32 (m / 2 ^ 32), w32 (m / 2 ^ 64), w32 (m / 2 ^ 96)]

/-- The words of N flags, 32 to a word (R207). -/
def flagWords (l : List Bool) : List Word :=
  (List.range (ceilDiv l.length 32)).map (fun j => w32 (maskOf (((l.drop (32 * j)).take 32).zipIdx.filterMap (fun e => if e.1 then some e.2 else none))))

/-! ### Forwarding database and groups -/

/-- LEN of a command with N entries of `n` words after its first (R207, R208, R211). -/
def lenEntries (n : Nat) : LenRule := fun ws =>
  let len := 1 + n * fld (wd ws 0) 15 0
  if ws = [] then some 0 else if ws.length = len then none else some (min 0xFFFF len)

/-- One entry of FWD.FDB_ADD, with what HIT is on a new entry (R183, R185). -/
def State.fdbAdd (s : State) (a b d : Word) : Bool × State :=
  let mac := macOf a b
  let fid := fld b 11 0
  let (n, s) := s.drawNat
  let e : Fdb := { mac := mac, fid := fid, dest := destOf (fld d 12 0), static := bit d 16, hit := n.testBit 0 }
  match s.fdbFind mac fid with
  | some (k, _) => (true, s.setFdb (Tab.insert s.fwd.fdb k e))
  | none => match fdbPlace s.fwd.fdb e with | some t => (true, s.setFdb t) | none => (false, s)

/-- LEN of FWD.FDB_ADD. -/
def lenFdbAdd : LenRule := fun ws => lenEntries (if bit (wd ws 0) 31 then 5 else 3) ws

/-- FWD.FDB_ADD (R207). -/
def bodyFdbAdd : Body := fun c ws s =>
  let n := fld (wd ws 0) 15 0
  let r : List Bool × State :=
    if bit (wd ws 0) 31 then
      (List.replicate n true, (List.range n).foldl (fun (s : State) i =>
        { s with fwd := { s.fwd with groups := Tab.insert s.fwd.groups (fld (wd ws (1 + 5 * i)) 11 0) (maskArg ws (2 + 5 * i)) } }) s)
    else
      (List.range n).foldl (fun (acc : List Bool × State) i =>
        let x := acc.2.fdbAdd (wd ws (1 + 3 * i)) (wd ws (2 + 3 * i)) (wd ws (3 + 3 * i))
        (acc.1 ++ [x.1], x.2)) ([], s)
  let stored := countTrue r.1
  r.2.ok c (pack [(0, stored), (16, n - stored)] :: flagWords r.1)

/-- LEN of FWD.FDB_DEL (R208). -/
def lenFdbDel : LenRule := fun ws => if ws = [] then some 0 else if bit (wd ws 0) 31 then lenIs 2 ws else lenEntries 2 ws

/-- Delete the keys of a list (R208). -/
def State.fdbDelKeys (s : State) (ws : List Word) : State :=
  let keys := (List.range (fld (wd ws 0) 15 0)).map (fun i => (macOf (wd ws (1 + 2 * i)) (wd ws (2 + 2 * i)), fld (wd ws (2 + 2 * i)) 11 0))
  s.setFdb (Tab.keep (fun _ e => !(keys.contains (e.mac, e.fid))) s.fwd.fdb)

/-- Delete every entry of a port and FID (R208). -/
def State.fdbFlush (s : State) (w : Word) : State :=
  let p := portOrNone (fld w 6 0)
  s.setFdb (Tab.keep (fun _ e =>
    !(decide (p = 0x7F ∨ e.dest = p) && (bit w 28 || decide (e.fid = fld w 27 16)) && (bit w 29 || !e.static))) s.fwd.fdb)

/-- FWD.FDB_DEL in either form (R208). -/
def bodyFdbDel : Body := fun c ws s =>
  let t := if bit (wd ws 0) 31 then s.fdbFlush (wd ws 1) else s.fdbDelKeys ws
  t.ok c [w32 (s.fwd.fdb.length - t.fwd.fdb.length)]

/-- FWD.FDB_READ (R209); a group counts as valid once it has been written (DESIGN CHOICE). -/
def bodyFdbRead : Body := fun c ws s =>
  let grp := bit (wd ws 0) 31
  let top := if grp then 4096 else 131072
  let first := min (fld (wd ws 0) 16 0) top
  let count := min (fld (wd ws 1) 17 0) (top - first)
  let inside := fun (k : Nat) => decide (first ≤ k ∧ k < first + count)
  if grp then
    let l := s.fwd.groups.filter (fun e => inside e.1)
    s.ok c (w32 l.length :: l.flatMap (fun e => w32 e.1 :: maskWords e.2))
  else
    let l := s.fwd.fdb.filter (fun e => inside e.1)
    s.ok c (w32 l.length :: l.flatMap (fun e =>
      [w32 (e.2.mac / 2 ^ 16), pack [(16, e.2.mac % 2 ^ 16), (0, e.2.fid)], pack [(0, e.2.dest), (16, e.2.static.toNat), (17, e.2.hit.toNat)],
       w32 e.1]))

/-- FWD.AGEING (R210). -/
def bodyAgeing : Body := fun c ws s =>
  let w := bit (wd ws 0) 31
  let f := if w then { s.fwd with ageTime := clamp 10 1000000 (fld (wd ws 1) 19 0), ageEn := bit (wd ws 1) 31 } else s.fwd
  ({ s with fwd := f }).ok c
    [pack [(31, w.toNat)], pack [(0, f.ageTime), (31, f.ageEn.toNat)], w32 f.fdb.length, w32 f.learnFull, w32 f.moves, w32 f.moveBlocked]

/-! ### Streams -/

/-- The stream entry that five words spell (R211). -/
def streamOf (ws : List Word) (i : Nat) : Stream :=
  let b := wd ws (i + 1)
  let c := wd ws (i + 2)
  let d := wd ws (i + 3)
  { da := macOf (wd ws i) b, etype := max 0x600 (fld b 15 0), appid := fld c 31 16, appidEn := bit c 15, tagMode := bit c 14,
    vid := clamp 1 4094 (fld c 11 0), dest := destOf (fld d 12 0), cls := fld d 18 16, spark := bit d 20, cut := bit d 21,
    sparkLen := clamp 64 10240 (fld (wd ws (i + 4)) 13 0) }

/-- The words of a stream entry, with its slot and STORED (R211). -/
def streamWords (e : Stream) (slot : Nat) (stored : Bool) : List Word :=
  [w32 (e.da / 2 ^ 16), pack [(16, e.da % 2 ^ 16), (0, e.etype)],
   pack [(16, e.appid), (15, e.appidEn.toNat), (14, e.tagMode.toNat), (0, e.vid)],
   pack [(0, e.dest), (16, e.cls), (20, e.spark.toNat), (21, e.cut.toNat)], pack [(0, e.sparkLen), (16, slot), (31, stored.toNat)]]

/-- Two entries have the same key (R187). -/
def Stream.sameKey (a b : Stream) : Bool :=
  decide (a.da = b.da ∧ a.tagMode = b.tagMode ∧ a.etype = b.etype ∧ a.appidEn = b.appidEn) && (!a.appidEn || decide (a.appid = b.appid))
    && (!a.tagMode || decide (a.vid = b.vid))

/-- Where a new entry goes: the lowest free way, while fewer than four entries share its DA (R187). -/
def streamFree (t : Tab Stream) (da : Nat) : Option Nat :=
  if 4 ≤ (t.filter (fun e => decide (e.2.da = da))).length then none
  else ((List.range 4).map (fun w => streamSlot w da)).find? (fun k => (Tab.find? t k).isNone)

/-- Store or delete one entry (R187, R190): what the reply returns of it. -/
def State.streamSet (s : State) (del : Bool) (e : Stream) : (List Word × Bool) × State :=
  let t := s.fwd.streams
  let same := List.find? (fun (x : Nat × Stream) => x.2.sameKey e) t
  let put := fun (t : Tab Stream) => { s with fwd := { s.fwd with streams := t } }
  if del then
    match same with
    | some (k, _) => ((streamWords e k true, true), put (Tab.erase t k))
    | none => ((streamWords e 0 false, false), s)
  else
    let taken := t.any (fun x => x.2.spark && decide (x.2.da = e.da) && !(x.2.sameKey e))
    let e := { e with spark := e.spark && !taken }
    match (match same with | some (k, _) => some k | none => streamFree t e.da) with
    | some k => ((streamWords e k true, true), put (Tab.insert t k e))
    | none => ((streamWords e 0 false, false), s)

/-- FWD.STREAM_SET (R211); in a delete, STORED marks an entry that was removed (DESIGN CHOICE). -/
def bodyStreamSet : Body := fun c ws s =>
  let n := fld (wd ws 0) 15 0
  let del := bit (wd ws 0) 31
  let r := (List.range n).foldl (fun (acc : (List Word × Nat) × State) i =>
    let x := acc.2.streamSet del (streamOf ws (1 + 5 * i))
    ((acc.1.1 ++ x.1.1, acc.1.2 + x.1.2.toNat), x.2)) (([], 0), s)
  r.2.ok c (pack [(0, r.1.2), (16, n - r.1.2)] :: r.1.1)

/-- FWD.STREAM_READ (R212). -/
def bodyStreamRead : Body := fun c ws s =>
  let first := fld (wd ws 0) 14 0
  let count := min (fld (wd ws 1) 15 0) (32768 - first)
  let l := s.fwd.streams.filter (fun e => decide (first ≤ e.1 ∧ e.1 < first + count))
  s.ok c (w32 l.length :: l.flatMap (fun e => streamWords e.2 e.1 true))

/-! ### VLANs, classes, punt rules -/

/-- FWD.VLAN_SET (R213). -/
def bodyVlanSet : Body := fun c ws s =>
  let w := bit (wd ws 0) 31
  let vid := clamp 1 4094 (fld (wd ws 0) 11 0)
  let a := wd ws 1
  let s := if w then
    let v : Vlan := { fid := fld a 11 0, valid := bit a 16, learn := bit a 17, member := maskArg ws 2, untag := maskArg ws 6 }
    { s with fwd := { s.fwd with vlans := Tab.put vlanReset s.fwd.vlans vid v } }
    else s
  let v := s.vlan vid
  s.ok c ([pack [(31, w.toNat), (0, vid)], pack [(0, v.fid), (16, v.valid.toNat), (17, v.learn.toNat)]] ++ maskWords v.member ++ maskWords v.untag)

/-- FWD.CLASS_MAP (R214). -/
def bodyClassMap : Body := fun c ws s =>
  let w := bit (wd ws 0) 31
  let p := portArg (wd ws 0)
  let a := wd ws 1
  let s := if w = true ∧ s.portExists p = true then
    s.modPort p (fun (x : Port) => { x with pvid := clamp 1 4094 (fld a 11 0), defPcp := fld a 14 12, pcpMap := fld (wd ws 2) 23 0 }) else s
  let x := s.port p
  s.ok c [pack [(31, w.toNat), (0, p)], pack [(0, x.pvid), (12, x.defPcp)], w32 x.pcpMap]

/-- FWD.CUT_MODE (R215). -/
def bodyCutMode : Body := fun c ws s =>
  let w := bit (wd ws 0) 31
  let p := portArg (wd ws 0)
  let s := if w = true ∧ s.portExists p = true then s.modPort p (fun (x : Port) => { x with cut := fld (wd ws 1) 7 0 }) else s
  s.ok c [pack [(31, w.toNat), (0, p)], w32 (s.port p).cut]

/-- FWD.PUNT_RULE (R216). -/
def bodyPuntRule : Body := fun c ws s =>
  let w := bit (wd ws 0) 31
  let k := fld (wd ws 0) 5 0
  let a := wd ws 1
  let s := if w then
    let r : Punt :=
      { action := fld a 1 0, inPort := portOrNone (fld a 14 8), daAny := bit a 16, etypeAny := bit a 17, protoAny := bit a 18, dportAny := bit a 19,
        da := macOf (wd ws 2) (wd ws 3), etype := fld (wd ws 3) 15 0, proto := fld (wd ws 4) 7 0, dport := fld (wd ws 4) 31 16, hits := 0 }
    { s with fwd := { s.fwd with punts := Tab.put puntReset s.fwd.punts k r } }
    else s
  let r := s.puntRule k
  s.ok c
    [pack [(31, w.toNat), (0, k)],
     pack [(0, r.action), (8, r.inPort), (16, r.daAny.toNat), (17, r.etypeAny.toNat), (18, r.protoAny.toNat), (19, r.dportAny.toNat)],
     w32 (r.da / 2 ^ 16), pack [(16, r.da % 2 ^ 16), (0, r.etype)], pack [(0, r.proto), (16, r.dport)], w32 r.hits]

end Sys2Proof.Machine
end

