-- ==== Sys2Proof/Machine/HostBus.lean ====
section
/-! DEFINITION. Host buses (chapter 13): the direct register page, doorbells and MSI-X, the punt and insert rings, SPI status, the
Shosibin port and JTAG. -/

namespace Sys2Proof.Machine

open Sys2Proof

/-! ### Registers and doorbells (R77, R78, R439-R445) -/

/-- The low and the high half of a 64-bit address register; the low `a` bits of the low half are ignored. -/
def setLow (a old : Nat) (v : Word) : Nat := old / 2 ^ 32 * 2 ^ 32 + v.toNat / 2 ^ a * 2 ^ a
def setHigh (old : Nat) (v : Word) : Nat := v.toNat * 2 ^ 32 + old % 2 ^ 32

/-- A vector field: 0-63 (R441). -/
def vecOf (v : Word) : Nat := min 63 (fld v 10 0)

/-- A ring size field (R77). -/
def ringSizeOf (v : Word) : Nat := clamp 6 16 (fld v 4 0)

namespace State

/-- The command and reply rings after a base or size changed: what was not fetched stays unprocessed, what was not read unread (R77). -/
def restartCring (s : State) (a : Axg) : State :=
  let n := 2 ^ a.cringSize
  { s with axg := if (a.cringBase, a.cringSize) = (s.axg.cringBase, s.axg.cringSize) then a
      else { a with cmdPi := a.cmdPi % n, cmdCi := a.cmdPi % n, wbCi := a.cmdPi % n, cmdRing := [] } }
def restartRring (s : State) (a : Axg) : State :=
  let n := 2 ^ a.rringSize
  ({ s with axg := if (a.rringBase, a.rringSize) = (s.axg.rringBase, s.axg.rringSize) then a
      else { a with rplPi := a.rplPi % n, rplCi := a.rplPi % n } }).drainReplies

/-- The punt and insert rings likewise (R444). -/
def restartPring (s : State) (h : Hst) : State :=
  let n := 2 ^ h.pringSize
  { s with hst := if (h.pringBase, h.pringSize) = (s.hst.pringBase, s.hst.pringSize) then h
      else { h with puntPi := h.puntPi % n, puntCi := h.puntPi % n } }
def restartIring (s : State) (h : Hst) : State :=
  let n := 2 ^ h.iringSize
  { s with hst := if (h.iringBase, h.iringSize) = (s.hst.iringBase, s.hst.iringSize) then h
      else { h with insPi := h.insPi % n, insFetch := h.insPi % n, insCi := h.insPi % n, insDescs := [] } }

/-- A word of the MSI-X table: the message address and data are stored, of the control word its mask bit; a vector unmasked while it is
pending is signalled (R438). -/
def writeMsix (s : State) (k : Nat) (v : Word) : State :=
  let v := if k % 4 = 3 then v &&& 1 else if k % 4 = 0 then w32 (v.toNat / 4 * 4) else v
  let s := { s with hst := { s.hst with msix := Tab.put msixReset s.hst.msix k v } }
  if k % 4 = 3 ∧ v = 0 ∧ s.hst.msixPend.testBit (k / 4) = true then
    ({ s with hst := { s.hst with msixPend := s.hst.msixPend ^^^ 2 ^ (k / 4) } }).emit (.msix (k / 4))
  else s

end State

/-- A 32-bit aligned host write to a register with no row of its own (R77, R439-R444), or none at every other offset. -/
def State.registerPut (s : State) (off : Nat) (v : Word) : Option State :=
  if 0x30000 ≤ off ∧ off < 0x30400 ∧ off % 4 = 0 then some (s.writeMsix ((off - 0x30000) / 4) v)
  else
    let a := s.axg
    let h := s.hst
    match off with
    | 0x40 => some (s.restartCring { a with cringBase := setLow 6 a.cringBase v })
    | 0x44 => some (s.restartCring { a with cringBase := setHigh a.cringBase v })
    | 0x48 => some (s.restartCring { a with cringSize := ringSizeOf v })
    | 0x50 => some (s.restartRring { a with rringBase := setLow 6 a.rringBase v })
    | 0x54 => some (s.restartRring { a with rringBase := setHigh a.rringBase v })
    | 0x58 => some (s.restartRring { a with rringSize := ringSizeOf v })
    | 0x60 => some { s with axg := { a with axgWb := setLow 3 a.axgWb v } }
    | 0x64 => some { s with axg := { a with axgWb := setHigh a.axgWb v } }
    | 0x68 => some { s with axg := { a with axgVec := vecOf v, axgVecEn := bit v 31 } }
    | 0x80 => some (s.restartPring { h with pringBase := setLow 5 h.pringBase v })
    | 0x84 => some (s.restartPring { h with pringBase := setHigh h.pringBase v })
    | 0x88 => some (s.restartPring { h with pringSize := ringSizeOf v })
    | 0x8C => some { s with hst := { h with pbufSize := clamp 2048 16384 (fld v 14 0 / 64 * 64) } }
    | 0x90 => some (s.restartIring { h with iringBase := setLow 5 h.iringBase v })
    | 0x94 => some (s.restartIring { h with iringBase := setHigh h.iringBase v })
    | 0x98 => some (s.restartIring { h with iringSize := ringSizeOf v })
    | 0xA0 => some { s with hst := { h with dmaWb := setLow 3 h.dmaWb v } }
    | 0xA4 => some { s with hst := { h with dmaWb := setHigh h.dmaWb v } }
    | 0xA8 => some { s with hst := { h with puntVec := vecOf v, puntVecEn := bit v 31 } }
    | 0xAC => some { s with hst := { h with insVec := vecOf v, insVecEn := bit v 31 } }
    | _ => none

/-- REGISTER_WRITE (R14): the register takes the value, and its copy in DPI with it (R443); an offset without such a register is ignored. -/
def registerWrite (off : Nat) (v : Word) (s : State) : State :=
  if s.start.pcieUp = false then s
  else
    match s.registerPut off v with
    | some t => t.copyRegs
    | none => s

/-- RPL_CI (R78): slots before the index are free, and waiting replies take them (R76). -/
def rplCiWrite (v : Nat) (s : State) : State :=
  if s.start.pcieUp then ({ s with axg := { s.axg with rplCi := v % 2 ^ s.axg.rringSize } }).drainReplies else s

/-- PUNT_PI and INS_PI (R445). -/
def puntPiWrite (v : Nat) (s : State) : State :=
  if s.start.pcieUp then { s with hst := { s.hst with puntPi := v % 2 ^ s.hst.pringSize } } else s
def insPiWrite (v : Nat) (s : State) : State :=
  if s.start.pcieUp then { s with hst := { s.hst with insPi := v % 2 ^ s.hst.iringSize } } else s

/-- CLK_STATUS_W1C and REF_STATE_W1C over PCIe (R48, R369); a PLANE_STATUS write waits in IQ_REG (R28, R30, R50). -/
def hostClkW1c (v : Word) (s : State) : State := if s.start.pcieUp then clkStatusW1c v s else s
def hostRefW1c (v : Word) (s : State) : State := if s.start.pcieUp then refStateW1c v s else s
def hostPlaneW1c (v : Word) (s : State) : State :=
  if s.start.pcieUp then s.putReg (.planeW1C v) else s

/-- REG_OPERATION: the oldest operation of IQ_REG is applied between frames and answered through PQ_REG (R28). -/
def regOperation (s : State) : State := s.regStep

/-- AXG_ERR_READ over PCIe (R95). -/
def hostAxgErrRead (s : State) : State := if s.start.pcieUp then axgErrRead s else s

/-- A read of the counter user page over PCIe (R615): an operation of IQ_REG, behind those that wait (R28, R30). -/
def hostCntPageRead (k word : Nat) (s : State) : State := if s.start.pcieUp then cntPageRead k (word % 4) s.drainReg else s

/-! ### Plain reads (R14, R439, R440): no row, but the value that a host read of a word returns -/

/-- CLK_STATUS (R48). Between a loss of XO_IN and the relock the state does not show whether edges arrive: XO_PRESENT is then a free value. -/
def State.clkStatus (s : State) : Word :=
  pack [(31, s.clk.rootLock.toNat), (30, (s.clk.xoPresent || (Config.freeNat s.free).testBit 0).toNat), (29, s.clk.xoLoss.toNat),
    (28, s.clk.rootClamp.toNat), (27, s.rootSlew.toNat)]

/-- PLANE_STATUS (R50), read through IQ_REG behind the operations that wait (R28, R30). -/
def State.planeStatus (s : State) : Word :=
  let c := s.drainReg.clk
  pack [(31, c.tpUp.toNat), (30, c.dpUp.toNat), (29, c.tpFault.toNat), (28, c.mbxEvtLost.toNat), (27, c.pqRegEvtLost.toNat), (0, c.mgtRestarts)]

/-- What a word of the direct register page reads (R4, R14, R48-R50, R77, R95, R369, R440, R444). The read of AXG_ERR also clears it, which is
its own row; a reserved word reads 0. -/
def State.pageWord (s : State) (off : Nat) : Word :=
  let a := s.axg
  let h := s.hst
  match off with
  | 0x00 => s.devIdent
  | 0x10 => s.clkStatus
  | 0x14 => i32 s.rootOffset
  | 0x18 => s.planeStatus
  | 0x20 => pack [(24, a.badHdr), (16, a.malformed), (8, a.authFails), (0, a.reasmDrop)]
  | 0x30 => s.refState
  | 0x40 => w32 a.cringBase
  | 0x44 => w32 (a.cringBase / 2 ^ 32)
  | 0x48 => w32 a.cringSize
  | 0x50 => w32 a.rringBase
  | 0x54 => w32 (a.rringBase / 2 ^ 32)
  | 0x58 => w32 a.rringSize
  | 0x60 => w32 a.axgWb
  | 0x64 => w32 (a.axgWb / 2 ^ 32)
  | 0x68 => pack [(0, a.axgVec), (31, a.axgVecEn.toNat)]
  | 0x80 => w32 h.pringBase
  | 0x84 => w32 (h.pringBase / 2 ^ 32)
  | 0x88 => w32 h.pringSize
  | 0x8C => w32 h.pbufSize
  | 0x90 => w32 h.iringBase
  | 0x94 => w32 (h.iringBase / 2 ^ 32)
  | 0x98 => w32 h.iringSize
  | 0xA0 => w32 h.dmaWb
  | 0xA4 => w32 (h.dmaWb / 2 ^ 32)
  | 0xA8 => pack [(0, h.puntVec), (31, h.puntVecEn.toNat)]
  | 0xAC => pack [(0, h.insVec), (31, h.insVecEn.toNat)]
  | _ => 0

/-- What an aligned 32-bit host read of BAR0 returns (R14, R439, R442): the register page, the MSI-X table and its pending bits, the window
onto controller memory, least significant byte first; 0 for the write-only doorbells and for every range not listed. The counter user page
has its own row. -/
def State.barWord (s : State) (off : Nat) : Word :=
  if off % 4 ≠ 0 then 0
  else if off < 0x10000 then s.pageWord off
  else if 0x30000 ≤ off ∧ off < 0x30400 then Tab.get msixReset s.hst.msix ((off - 0x30000) / 4)
  else if off = 0x30800 then w32 s.hst.msixPend
  else if off = 0x30804 then w32 (s.hst.msixPend / 2 ^ 32)
  else if 0x800000 ≤ off ∧ off < 0xA00000 then
    w32 ((List.range 4).foldr (fun i acc => acc * 256 + (s.memByte (off - 0x800000 + i)).toNat) 0)
  else 0

/-- What a host read of 1 to 8 bytes of the window onto controller memory returns, at any alignment; 0 in the secure region (R439, R442). -/
def State.windowRead (s : State) (x n : Nat) : List Byte := (List.range (min 8 n)).map (fun i => s.memByte (x + i))

/-! ### Punt and insert rings (R446-R449) -/

/-- The write-back record at DMA_WB (R449). -/
def State.dmaRecord (s : State) : State := s.emit (.hostWrite s.hst.dmaWb (bytesLE 4 s.hst.puntCi ++ bytesLE 4 s.hst.insCi))

/-- Words 3 to 7 of a punt descriptor and, last, its word 2 (R446). -/
def puntDescriptor (f : Frame) (reason rule : Nat) (n : Nat) (trunc : Bool) : List Byte × List Byte :=
  (wordBytesLE (w32 rule :: f.rx.record 0),
   wordBytesLE [pack [(0, n), (16, f.inPort % 128), (24, reason), (28, trunc.toNat), (29, f.badFcs.toNat), (31, 1)]])

/-- PUNT_DESCRIPTOR_FILL (R446, R449): the head of PQ_HOST, once it has ended, goes to the next posted buffer, whose address the
descriptor holds. -/
def puntFill (addr : Nat) (s : State) : State :=
  if s.start.pcieUp = false ∨ s.hst.puntCi = s.hst.puntPi then s
  else
    match s.puntHead 2 (fun _ => true) with
    | none => s
    | some (x, f) =>
      let (reason, rule) := match x.dst with | .host a b => (a, if a = 2 ∨ a = 3 then b else 0) | _ => (0, 0)
      let bs := f.bytes.take s.hst.pbufSize
      let d := puntDescriptor f reason rule bs.length (decide (s.hst.pbufSize < f.bytes.length))
      let at_ := s.hst.pringBase + 32 * s.hst.puntCi
      let s := s.emits [.hostWrite addr bs, .hostWrite (at_ + 12) d.1, .hostWrite (at_ + 8) d.2]
      let s := ({ s with hst := { s.hst with puntCi := (s.hst.puntCi + 1) % 2 ^ s.hst.pringSize } }).dmaRecord
      let s := if s.hst.puntVecEn then s.signal s.hst.puntVec else s
      s.consume x

/-- INSERT_DESCRIPTOR_FETCH (R447): words 0 to 3 of the next descriptor before INS_PI, with the bytes its buffer holds. A DIRECT frame
too long for its port is not sent; a LOOKUP frame is judged at each of its targets. -/
def insFetch (ws : List Word) (bytes : List Byte) (s : State) : State :=
  if s.start.pcieUp = false ∨ s.hst.insFetch = s.hst.insPi ∨ 4096 ≤ s.buf.iqHost.length then s
  else
    let w2 := wd ws 2
    let w3 := wd ws 3
    let len := fld w2 13 0
    let look := bit w2 16
    let port := fld w2 30 24
    let idx := s.hst.insFetch
    let long := !look && decide ((s.port (min 103 port)).maxFrame < len + 4)
    let d : InsDesc := { idx := idx, word3 := w3, stampReq := bit w3 16 && !look, ready := long, dropped := long }
    let s := { s with hst := { s.hst with insFetch := (idx + 1) % 2 ^ s.hst.iringSize, insDescs := s.hst.insDescs ++ [d] } }
    if long then s
    else
      { s with buf := { s.buf with iqHost := s.buf.iqHost ++
          [{ bytes := padTo len bytes, lookup := look, port := port, cls := min 8 (fld w2 20 17), vid := fld w3 11 0, insIdx := some idx }] } }

/-- A descriptor whose frame has left its insert queue and of which no copy is left without a stamp: the frame was flushed (R448). -/
def State.insGone (s : State) (d : InsDesc) : Bool :=
  s.buf.iqHost.all (fun i => decide (i.insIdx ≠ some d.idx)) && s.buf.copies.all (fun c => decide (c.insIdx ≠ some d.idx))

/-- INSERT_DESCRIPTOR_DONE (R448, R449): the oldest descriptor fetched completes when its frame has been copied, stamped or dropped. -/
def insDone (s : State) : State :=
  match s.hst.insDescs with
  | [] => s
  | d :: t =>
    let gone := !d.ready && s.insGone d
    if s.start.pcieUp = false ∨ (d.ready = false ∧ gone = false) then s
    else
      let at_ := s.hst.iringBase + 32 * d.idx
      let w3 := (d.word3 &&& 0x3FFFFFFF) ||| pack [(30, (d.dropped || gone).toNat), (31, 1)]
      let st := match d.stamp with | some x => [Output.hostWrite (at_ + 16) (wordBytesLE (x.record 0))] | none => []
      let s := s.emits (st ++ [.hostWrite (at_ + 12) (wordBytesLE [w3])])
      let s := ({ s with hst := { s.hst with insDescs := t, insCi := (d.idx + 1) % 2 ^ s.hst.iringSize } }).dmaRecord
      if s.hst.insVecEn then s.signal s.hst.insVec else s

/-! ### SPI (R79-R81) -/

/-- The SPI port answers: the part runs and its management plane is not cut off (R663). -/
def State.spiAnswers (s : State) : Bool := decide (s.start.power = .run) && s.mpiOn

/-- CMD_SPACE (R80). -/
def State.cmdSpace (s : State) : Bool :=
  decide ((s.axg.spiBuf.map (fun p => 4 * p.length)).sum + 4128 ≤ 8192) && decide (s.inProgress < 256)

/-- SPI_STAT (R79). -/
def spiStat (s : State) : State :=
  if s.spiAnswers then
    ({ s with axg := { s.axg with spiOvf := false } }).emit
      (.read [pack [(0, s.cmdSpace.toNat), (1, (!s.axg.spiQ.isEmpty).toNat), (2, s.axg.spiOvf.toNat)]])
  else s

/-- SPI_GET (R79, R81): the head of the reply queue, which leaves only when all its bytes have been clocked out. -/
def spiGet (done : Bool) (s : State) : State :=
  if s.spiAnswers then
    match s.axg.spiQ with
    | [] => s.emit (.read [0])
    | pkt :: t => ({ s with axg := { s.axg with spiQ := if done then t else pkt :: t } }).emit (.read pkt)
  else s

/-! ### The Shosibin port (R451-R456) -/

/-- The tick T of a live read: it starts 1.6-2.4 ns, two ticks, before the tick of the addressing edge (R453). -/
def State.sbpTick (s : State) : Nat := s.clk.tick - 2

/-- The live words of a time base in the tick of the read: its time, and bits [23:0] of its stamp word with UNCAL and COARSE 0 (R452, R453). A
time base that has run for less than the two ticks reads 0. -/
def State.liveWords (s : State) (n : Nat) : List Word :=
  let x := (s.tb n).pastAt s.clk.tick s.sbpTick
  timeWords (if x.val < nominalU x.at_ - nominalU s.sbpTick then 0 else x.valueAt s.sbpTick)
    ++ [w32 ((s.stampTag s.sbpTick 0 false false false n).toNat % 2 ^ 24)]

/-- Fill holding registers from a word on (R453). -/
def holdFrom (h : Tab Word) : Nat → List Word → Tab Word
  | _, [] => h
  | i, w :: t => holdFrom (Tab.put wordReset h i w) (i + 1) t

/-- SBP_SNAP_STATUS_READ (R455): the pending capture moves into the snap words; the counters are read and cleared. -/
def snapStatusRead (s : State) : State :=
  if s.clk.tpUp = false then (if s.start.resetN then s.emit (.read [0]) else s)
  else
    let h := s.hst
    let w := pack [(8, h.snapOverrun), (0, h.snapMissed)]
    match h.snapPend with
    | none => ({ s with hst := { h with snapOverrun := 0, snapMissed := 0 } }).emit (.read [w])
    | some (ws, uncal, coarse) =>
      let words := holdFrom (holdFrom h.snapWords 32 (ws.take 24)) 57 (ws.drop 24)
      ({ s with hst := { h with snapWords := words, snapPend := none, snapOverrun := 0, snapMissed := 0 } }).emit
        (.read [w ||| pack [(31, 1), (29, uncal.toNat), (28, coarse.toNat)]])

/-- A Shosibin read of a word (R452, R453, R456): words 4n and 59 are live and fill the holding registers of that tick. -/
def sbpTimeRead (word : Nat) (s : State) : State :=
  let word := word % 64
  let h := s.hst
  if s.start.resetN = false then s
  else if s.clk.tpUp = false then s.emit (.read [if word = 61 then 7 else 0])
  else if word < 32 ∧ word % 4 = 0 then
    let ws := s.liveWords (word / 4)
    ({ s with hst := { h with sbpHold := holdFrom h.sbpHold (word + 1) (ws.drop 1) } }).emit (.read [wd ws 0])
  else if word < 32 ∨ word = 60 then s.emit (.read [Tab.get wordReset h.sbpHold word])
  else if word = 59 then
    ({ s with hst := { h with sbpHold := Tab.put wordReset h.sbpHold 60 (w32 s.sbpTick) } }).emit (.read [w32 (s.sbpTick / 2 ^ 32)])
  else if word = 56 then snapStatusRead s
  else if word < 59 then s.emit (.read [Tab.get wordReset h.snapWords word])
  else if word = 61 then s.emit (.read [s.refState])
  else s.emit (.read [if word = 62 then 0x5B1D0001 else 0])

/-! ### JTAG (R457, R573) -/

/-- The TAP works in every state with supply. -/
def State.powered (s : State) : Bool := decide (s.start.power ≠ .unpowered)

/-- The cells of the boundary register (R458): every digital signal pin, and the AC cells of the pairs of TL8-TL31, AL0-AL63 and the PCIe lanes.
The TAP's own pins carry none. -/
def boundaryCell : BPin → Bool
  | .bypassCl k => decide (k < 4)
  | .refstate k => decide (k < 3)
  | .refin k => decide (k < 8)
  | .calref k => decide (k < 4)
  | .ham k => decide (k < 16)
  | .evt k => decide (k < 24)
  | .pev k => decide (k < 4)
  | .sbp k => decide (k < 41)
  | .spi k => decide (k < 5)
  | .lane l _ => decide (8 ≤ l ∧ l < 96)
  | .pcie k _ => decide (k < 4)
  | _ => true

/-- A cell is an IEEE 1149.6 AC cell (R458). -/
def acCell : BPin → Bool
  | .lane l _ => decide (8 ≤ l ∧ l < 96)
  | .pcie k _ => decide (k < 4)
  | _ => false

/-- The outputs whose level the state gives, and that level (R81, R158, R341, R369, R404, R462, R652). -/
def State.outPins (s : State) : List (BPin × Bool) :=
  let rs := if s.start.resetN = false then 0 else if s.tpUp then State.tb0Code s.refs.st else 7
  [(.alarmN, !s.alarmLow), (.islandN, !s.inIsland || !s.start.resetN), (.pairAct, s.pcfg.en && decide (s.prun.st = UnitSt.active)),
    (.spi 4, s.axg.spiQ.isEmpty)]
    ++ (List.range 4).map (fun k => (BPin.bypassCl k, s.pairHolds k)) ++ (List.range 3).map (fun k => (BPin.refstate k, rs.testBit k))
    ++ (List.range 16).map (fun k => (BPin.ham k, xor (Tab.get (fun _ => {}) s.hams k).active (Tab.get (fun _ => {}) s.hams k).pol))

/-- SAMPLE captures the cells: the outputs from the state, and of the other cells those the board holds high (R457, R458). -/
def State.sampled (s : State) (pads : List BPin) : List BPin :=
  let outs := s.outPins
  (outs.filter Prod.snd).map Prod.fst ++ pads.filter (fun p => boundaryCell p && !((outs.map Prod.fst).contains p))

/-- JTAG_INSTRUCTION (R457, R458, R573): boundary instructions act only while RESET_N is low, SCAN_ACCESS only where it is decoded; every other
code is BYPASS. `pads` are the cells the board holds high. -/
def jtagInstruction (i : Jtag) (pads : List BPin) (s : State) : State :=
  if s.powered = false then s
  else
    let to_ : Jtag := match i with
      | .idcode => .idcode
      | .sample => .sample
      | .scanAccess => if s.scanOpen then .scanAccess else .bypass
      | .extest => if s.start.resetN then .bypass else .extest
      | .clamp => if s.start.resetN then .bypass else .clamp
      | .highz => if s.start.resetN then .bypass else .highz
      | .extestPulse => if s.start.resetN then .bypass else .extestPulse
      | .extestTrain => if s.start.resetN then .bypass else .extestTrain
      | .bypass => .bypass
      | .other => .bypass
    let boundary := decide (to_ = .sample ∨ to_ = .extest ∨ to_ = .extestPulse ∨ to_ = .extestTrain)
    let s := { s with hst := { s.hst with tap := to_, bsr := if boundary then s.sampled pads else s.hst.bsr } }
    if to_ = .idcode then s.emit (.read [0x196329E3]) else s

/-- JTAG_TAP_RESET (R457): IDCODE is the instruction after a reset (IEEE 1149.1). -/
def tapReset (s : State) : State := { s with hst := { s.hst with tap := .idcode } }

end Sys2Proof.Machine
end

