-- ==== Sys2Proof/Machine/Meas.lean ====
section
/-! DEFINITION. Event stamping and interval measurement (chapter 12): captures, results, queues, statistics, the MEAS commands, and the
capture of SBP_SNAP (R454). Fine values and input delays are in units of 1/8 ps, the internal resolution of the precision channels. -/

namespace Sys2Proof.Machine

open Sys2Proof

def chanReset (_ : Nat) : Chan := {}
def State.chan (s : State) (k : Nat) : Chan := Tab.get chanReset s.chans k
def State.setChan (s : State) (k : Nat) (x : Chan) : State := { s with chans := Tab.put chanReset s.chans k x }
def State.modChan (s : State) (k : Nat) (f : Chan → Chan) : State := s.setChan k (f (s.chan k))

/-- A channel index (R411). -/
def chArg (w : Word) : Nat := min 27 (fld w 4 0)

/-- LSB of a channel in 1/8 ps (R411). -/
def chLsb (ch : Nat) : Nat := if ch < 24 then 64 else 8

/-- The least distance of two captured edges in 1/8 ps (R415). -/
def chSpacing (ch : Nat) : Nat := if ch < 24 then 64000 else 320000

/-- The Palette item of a channel's input delay (R507). -/
def chItem (ch : Nat) : Nat := 192 + ch

/-! ### Results (R416-R424) -/

/-- A finished interval or period: Δ in ps and its flags (R419-R421). -/
structure Delta where
  ps : Int
  neg : Bool
  unres : Bool
  ovf : Bool
  coarse : Bool
  uncal : Bool

/-- Δ from a start edge to a stop edge at an LSB (R419-R421). -/
def deltaOf (lsb : Nat) (start stop : Cap) : Delta :=
  let n : Int := (stop.tick : Int) - start.tick
  let ovf := decide (2 ^ 40 ≤ n.natAbs)
  let m : Int := if n < 0 then -((n.natAbs % 2 ^ 40 : Nat) : Int) else ((n.natAbs % 2 ^ 40 : Nat) : Int)
  let x := m * 6400 + (stop.f - stop.d) - (start.f - start.d)
  let unres := decide (x.natAbs < lsb)
  let ps := if unres then 0 else roundDiv x lsb * (lsb / 8 : Nat)
  { ps := ps, neg := decide (ps < 0), unres := unres, ovf := ovf, coarse := start.coarse || stop.coarse, uncal := start.uncal || stop.uncal }

/-- The queue entry of an interval or period (R424), its GAP bit apart. -/
def deltaEntry (ch stopCh kind k : Nat) (d : Delta) : List Word :=
  s64Words d.ps ++ [w32 k,
    pack [(27, ch), (24, kind), (13, stopCh), (12, d.ovf.toNat), (11, d.neg.toNat), (10, d.unres.toNat), (4, d.uncal.toNat), (3, d.coarse.toNat)]]

/-- A result enters the queue, or is dropped and counted (R423): a result stored after a missing one carries GAP. -/
def Chan.store (x : Chan) (e : List Word) : Chan :=
  if x.queueEn = false then x
  else if 4096 ≤ x.queue.length then { x with lost := inc16 x.lost, gap := true }
  else { x with queue := x.queue ++ [e.set 3 (wd e 3 ||| pack [(26, x.gap.toNat)])], gap := false }

/-! ### Statistics (R428-R430) -/

/-- One result enters a statistics run: its later edge's tick, Δ (R428). -/
def StatRun.take (r : StatRun) (tick : Nat) (d : Delta) : StatRun :=
  if tick ≤ r.since then r
  else if d.coarse = true ∨ d.ovf = true then { r with excl := inc32 r.excl, ovfSeen := r.ovfSeen || d.ovf }
  else
    let x1 := if r.n = 0 then d.ps else r.x1
    let e := d.ps - x1
    { r with
      n := r.n + 1, x1 := x1, sum := r.sum + e, sum2 := r.sum2 + e * e
      min_ := if r.n = 0 then d.ps else min r.min_ d.ps
      max_ := if r.n = 0 then d.ps else max r.max_ d.ps
      unres := if d.unres then inc16 r.unres else r.unres }

/-- The integer square root, one bit at a time. -/
def sqrtBits (n : Nat) : Nat → Nat → Nat
  | 0, acc => acc
  | i + 1, acc => let t := acc + 2 ^ i; sqrtBits n i (if t * t ≤ n then t else acc)

/-- Mean and sample standard deviation in units of 2^-8 ps, halves rounded up (R430). -/
def StatRun.mean (r : StatRun) : Int := if r.n = 0 then 0 else roundUpHalf (256 * (r.x1 * r.n + r.sum)) r.n
def StatRun.stdev (r : StatRun) : Nat :=
  if r.n < 2 then 0
  else
    let a := (r.n * r.sum2 - r.sum * r.sum).toNat
    (sqrtBits (262144 * a / (r.n * (r.n - 1))) 96 0 + 1) / 2

/-- The reply words of a run (R437). -/
def statWords (ch mode : Nat) (r : StatRun) (stopped : Bool) : List Word :=
  let sd := r.stdev
  [pack [(0, ch), (8, stopped.toNat), (9, r.ovfSeen.toNat), (10, mode)], w32 r.n, w32 r.excl, pack [(0, r.unres), (16, r.gaps)]]
    ++ s64Words r.mean ++ [w32 (sd / 2 ^ 32), w32 sd] ++ s64Words r.min_ ++ s64Words r.max_

/-- Does a command in progress run or wait for statistics on a channel? -/
def statOf (ch : Nat) (w : Work) : Option Nat := match w with | .stats c n => if c = ch then some n else none | _ => none

/-- The oldest MEAS.STATS that waits on a channel begins, when none runs there (R429). -/
def State.beginStats (s : State) (ch : Nat) : State :=
  if (s.chan ch).stat.isSome then s
  else
    match s.axg.jobs.findSome? (fun j => statOf ch j.work) with
    | none => s
    | some n => s.modChan ch (fun x => { x with stat := some { statN := n, since := s.clk.tick } })

/-- The run in progress on a channel ends and replies; the next one begins (R429). -/
def State.endStats (s : State) (ch : Nat) (stopped : Bool) : State :=
  let x := s.chan ch
  match x.stat with
  | none => s
  | some r =>
    let s := s.setChan ch { x with stat := none }
    (s.completeFirst (fun w => (statOf ch w).isSome) (okRpl (statWords ch x.mode r stopped))).beginStats ch

/-- A result reaches the statistics unit; the run ends when it has included STAT_N results (R429). -/
def State.statTake (s : State) (ch tick : Nat) (d : Delta) : State :=
  match (s.chan ch).stat with
  | none => s
  | some r =>
    let r := r.take tick d
    let s := s.modChan ch (fun x => { x with stat := some r })
    if r.statN ≠ 0 ∧ r.statN ≤ r.n then s.endStats ch false else s

/-- Results a channel will not produce: the next one stored carries GAP, and a run counts them (R415, R428). -/
def Chan.miss (x : Chan) (n : Nat) : Chan :=
  { x with gap := true, stat := x.stat.map (fun (r : StatRun) => { r with gaps := satAdd 0xFFFF r.gaps n }) }

/-! ### Edges (R413-R422) -/

/-- An edge of a channel's own stream in STAMP or PERIOD mode: none when it was refused. -/
def State.ownEdge (s : State) (ch : Nat) (c : Option Cap) : State :=
  let x := s.chan ch
  let k := x.k
  match c with
  | none => s.setChan ch ({ x with k := k + 1, prev := none }.miss (if x.prev.isSome then 2 else 1))
  | some c =>
    let x := { x with k := k + 1, prev := some c }
    let d := (s.chan ch).prev.map (fun p => deltaOf (chLsb ch) p c)
    let x :=
      if x.mode = 0 then
        let t := (s.tb x.tb).stampAt s.clk.tick c.tick (eighthU (c.f - c.d))
        x.store (timeWords t ++ [s.stampTag c.tick 0 false c.uncal c.coarse x.tb ||| pack [(27, ch)]])
      else match d with
        | some d => x.store (deltaEntry ch ch 2 (k - 1) d)
        | none => x
    let s := s.setChan ch x
    match d with
    | some d => s.statTake ch c.tick d
    | none => s

/-- An index of an interval channel whose pair will produce no result: its partner, if it waits, is discarded (R415). -/
def Chan.refuse (x : Chan) (k : Nat) : Chan :=
  if x.refused.contains k then { x with refused := x.refused.erase k }
  else if (Tab.find? x.starts k).isSome ∨ (Tab.find? x.stops k).isSome then
    { x with starts := Tab.erase x.starts k, stops := Tab.erase x.stops k }.miss 1
  else { x with refused := k :: x.refused }.miss 1

/-- A start or stop edge of an interval channel: it meets its partner, waits for it, or is refused (R416, R418, R422). -/
def State.pairEdge (s : State) (ch : Nat) (stop : Bool) (c : Option Cap) : State :=
  let x := s.chan ch
  let k := if stop then x.stopK else x.k
  let x := if stop then { x with stopK := k + 1 } else { x with k := k + 1 }
  match c with
  | none => s.setChan ch (x.refuse k)
  | some c =>
    if x.refused.contains k then s.setChan ch { x with refused := x.refused.erase k }
    else
      match Tab.find? (if stop then x.starts else x.stops) k with
      | some p =>
        let d := deltaOf (max (chLsb ch) (chLsb x.stopCh)) (if stop then p else c) (if stop then c else p)
        let x := { x with starts := Tab.erase x.starts k, stops := Tab.erase x.stops k }
        (s.setChan ch (x.store (deltaEntry ch x.stopCh 1 k d))).statTake ch (max p.tick c.tick) d
      | none =>
        if 64 ≤ (if stop then x.stops else x.starts).length then
          s.setChan ch { (x.refuse k) with missed := inc16 x.missed }
        else if stop then s.setChan ch { x with stops := Tab.insert x.stops k c }
        else s.setChan ch { x with starts := Tab.insert x.starts k c }

/-- The running interval channels that a channel serves as stop (R418). -/
def State.stopsFor (s : State) (ch : Nat) : List Nat :=
  (List.range 28).filter (fun i => let y := s.chan i; decide (y.st = ChSt.running ∧ y.mode = 1 ∧ y.stopCh = ch))

/-- An edge the prescaler passes, `ago` ticks before the present one at a fine value in 1/8 ps, is captured or refused, takes its index in every
stream it belongs to, and produces the results it completes (R413-R422, R425). -/
def State.passedEdge (s : State) (ch ago f8 : Nat) : State :=
    let x := s.chan ch
    let c := s.capture (chItem ch) (decide (24 ≤ ch)) ago f8
    let near := match x.lastCap with
      | none => false
      | some (t, f) => decide (((c.tick : Int) - t) * 6400 + min 6399 f8 - f < (chSpacing ch : Nat))
    let s := s.setChan ch (if near then { x with missed := inc16 x.missed } else { x with lastCap := some (c.tick, min 6399 f8) })
    let c? := if near then none else some c
    let s := if x.st ≠ .running then s else if x.mode = 1 then s.pairEdge ch false c? else s.ownEdge ch c?
    ((s.stopsFor ch).filter (fun i => decide ((s.chan i).begun ≤ c.tick))).foldl (fun s i => s.pairEdge i true c?) s

/-- EVENT_EDGE (R413-R425): the input crosses its threshold `ago` ticks before the present one. The prescaler counts the edges of the direction
EDGE selects since its last restart, and passes edge 0 and every PRESCALE-th after it (R414). -/
def eventEdge (ch : Nat) (falling : Bool) (ago f8 : Nat) (s : State) : State :=
  let ch := min 27 ch
  let x := s.chan ch
  if s.clk.tpUp = false ∨ x.st = .off ∨ falling ≠ x.edge ∨ s.clk.tick - ago < x.begun then s
  else
    let s := s.setChan ch { x with pre := (x.pre + 1) % max 1 x.prescale }
    if x.pre = 0 then s.passedEdge ch ago f8 else s

/-! ### Starting and stopping (R431) -/

/-- A Palette pass on an item is deferred: its converter serves a running channel with CAL_HOLD 1, as that channel or as its stop channel
(R426). -/
def State.passHeld (s : State) (item : Nat) : Bool :=
  decide (192 ≤ item ∧ item ≤ 219)
    && (List.range 28).any (fun k =>
      let x := s.chan k
      x.calHold && decide (x.st = .running) && (decide (chItem k = item) || (decide (x.mode = 1) && decide (chItem x.stopCh = item))))

/-- CAL.RUN commands on an item that have neither a job waiting nor a step. -/
def State.runsWaiting (s : State) (item : Nat) : Nat :=
  (s.axg.jobs.filter (fun j => decide (j.work = .calRun item))).length
    - (s.led.waiting.filter (fun j => decide (j.what = .calStep item 1))).length
    - (s.pal.steps.filter (fun c => decide (c.item = item) && c.byRun)).length

/-- The deferred passes whose channels have stopped wait for admission (R426, R514). -/
def State.passesDue (s : State) : State :=
  (List.range 28).foldl (fun s k =>
    let item := chItem k
    if s.passHeld item then s
    else
      let s := if (s.chan k).deferred then
        (s.modChan k (fun x => { x with deferred := false })).queueJob 1 (jobFixed 1) (.calStep item 2) else s
      (List.range (s.runsWaiting item)).foldl (fun s _ => s.queueJob 1 (jobFixed 1) (.calStep item 1)) s) s

/-- A channel starts: indices 0, prescaler restarted, waiting edges discarded; MISSED and LOST are kept (R414, R431). -/
def Chan.begin_ (tick : Nat) (x : Chan) : Chan := { x with st := .running, pre := 0, begun := tick, k := 0, stopK := 0, prev := none, starts := [], stops := [], refused := [] }

/-- The selected channels in READY or RUNNING start in one tick (R434): which ones, and the state. -/
def State.startChans (s : State) (mask : Nat) : Nat × State :=
  let l := (maskBits 28 mask).filter (fun k => decide ((s.chan k).st ≠ .off))
  (maskOf l, l.foldl (fun s k => s.modChan k (Chan.begin_ s.clk.tick)) s)

/-- A measurement that runs on a channel stops: waiting edges are discarded and counted (R431). -/
def Chan.halt (x : Chan) : Chan :=
  if x.st = .running then
    { x with st := .ready, missed := satAdd 0xFFFF x.missed (x.starts.length + x.stops.length), starts := [], stops := [], refused := [],
             prev := none }
  else x

/-- A stop on a channel: its measurement and its statistics run end (R429, R431). -/
def State.stopChan (s : State) (ch : Nat) : State :=
  let s := s.modChan ch Chan.halt
  match (s.chan ch).stat with
  | some r => s.endStats ch (decide (r.statN ≠ 0))
  | none => s

/-- Every channel goes OFF when the timing plane leaves service: queues are cleared, statistics runs end with STOPPED 1 (R431, R660). -/
def State.chansOff (s : State) : State :=
  (List.range 28).foldl (fun s ch =>
    let s := s.completeWhere (fun w => match statOf ch w with
      | some n => some (okRpl (statWords ch (s.chan ch).mode ((s.chan ch).stat.getD { statN := n }) true))
      | none => none)
    s.modChan ch (fun x => { x with st := .off, enable := false, queue := [], stat := none, starts := [], stops := [], refused := [], prev := none, k := 0,
                                    stopK := 0, lastCap := none, gap := false })) s |>.passesDue

/-! ### Commands (R433-R437) -/

/-- The words of a channel's configuration (R433). -/
def Chan.cfgWords (x : Chan) (write : Bool) (ch : Nat) : List Word :=
  [pack [(31, write.toNat), (0, ch)],
   pack [(0, x.enable.toNat), (1, x.edge.toNat), (2, x.mode), (4, x.tb), (7, x.queueEn.toNat), (8, x.calHold.toNat), (16, x.stopCh)],
   w32 x.prescale]

/-- MEAS.CONFIG (R416, R431, R433): a write stops the channel first. -/
def bodyMeasConfig : Body := fun c ws s =>
  let w := bit (wd ws 0) 31
  let ch := chArg (wd ws 0)
  let s := if w then
    let s := (s.stopChan ch).passesDue
    let x := s.chan ch
    let v := wd ws 1
    let stopCh := min 27 (fld v 20 16)
    let mode := min 2 (fld v 3 2)
    let en := bit v 0
    s.setChan ch { x with
      enable := en, edge := bit v 1, mode := if mode = 1 ∧ stopCh = ch then 2 else mode, tb := fld v 6 4, queueEn := bit v 7,
      calHold := bit v 8, stopCh := stopCh, prescale := clamp 1 4096 (fld (wd ws 2) 12 0)
      pre := 0, begun := s.clk.tick, st := if en then .ready else .off, queue := if en then x.queue else [] }
    else s
  s.ok c ((s.chan ch).cfgWords w ch)

/-- The reply of a start (R434). -/
def startWords (started tick : Nat) : List Word := [w32 started, w32 (tick / 2 ^ 32), w32 tick]

/-- A start applies and replies (R434). -/
def State.applyStart (s : State) (c : Ctx) (mask : Nat) : State :=
  let (l, s) := s.startChans mask
  s.ok c (startWords l s.clk.tick)

/-- MEAS.START (R246, R434). -/
def bodyMeasStart : Body := fun c ws s =>
  let mask := fld (wd ws 0) 27 0
  let at_ := timeArg ws 1
  if bit (wd ws 0) 31 = false then s.applyStart c mask
  else if at_ ≤ (s.tb 0).val then
    (s.logLate .timing c (srcOf 0 0)).complete c { status := stLate, detail := 0, words := startWords 0 s.clk.tick }
  else s.hold c (.measStart mask 0 at_)

/-- MEAS.STOP (R435). -/
def bodyMeasStop : Body := fun c ws s =>
  let l := maskBits 28 (wd ws 0).toNat
  let run := l.filter (fun k => decide ((s.chan k).st = ChSt.running))
  ((l.foldl State.stopChan s).passesDue).ok c [w32 (maskOf run)]

def chStCode : ChSt → Nat
  | .off => 0
  | .ready => 1
  | .running => 2

/-- MEAS.READ (R436). -/
def bodyMeasRead : Body := fun c ws s =>
  let ch := chArg (wd ws 0)
  let x := s.chan ch
  let n := min (min 4096 (fld (wd ws 0) 28 16)) x.queue.length
  (s.setChan ch { x with queue := x.queue.drop n, lost := 0, missed := 0 }).ok c
    ([pack [(0, n), (16, x.queue.length - n), (30, chStCode x.st)], pack [(0, x.lost), (16, x.missed)]] ++ (x.queue.take n).flatten)

/-- MEAS.STATS (R429, R437). -/
def bodyMeasStats : Body := fun c ws s =>
  let ch := chArg (wd ws 0)
  (s.hold c (.stats ch (wd ws 1).toNat)).beginStats ch

/-! ### Scheduled actions (R246, R274, R276, R434) -/

/-- Is a scheduled action due: has its time base reached its time? -/
def State.due (s : State) (w : Work) : Bool :=
  match w with
  | .timeSet n _ at_ => decide (at_ ≤ (s.tb n).val)
  | .timeStep n _ at_ => decide (at_ ≤ (s.tb n).val)
  | .measStart _ n at_ => decide (at_ ≤ (s.tb n).val)
  | _ => false

/-- Apply scheduled actions that are due, oldest first; one of them can make another due. -/
def applyDue : Nat → State → State
  | 0, s => s
  | n + 1, s =>
    match s.findJob s.due with
    | none => s
    | some j =>
      let s := { s with axg := { s.axg with jobs := s.axg.jobs.erase j } }
      applyDue n (match j.work with
        | .timeSet tb v _ => s.applySet j.ctx tb true v
        | .timeStep tb off at_ => s.applyStep j.ctx tb true off at_
        | .measStart mask _ _ => s.applyStart j.ctx mask
        | _ => s)

/-- SCHEDULED_ACTION_DUE (R246). -/
def scheduledDue (s : State) : State := if s.tpUp then applyDue s.axg.jobs.length s else s

/-! ### SBP_SNAP (R454) -/

/-- SBP_SNAP_EDGE: a rising edge `ago` ticks before the present one is captured on all eight time bases, or ignored for its spacing. -/
def snapEdge (ago f8 : Nat) (s : State) : State :=
  if s.clk.tpUp = false then s
  else
    let c := s.capture 220 false ago f8
    let t := c.tick * 800 + min 6399 f8 / 8
    let h := s.hst
    let near := match h.snapLast with | none => false | some l => decide (t < l + 100000)
    if near then { s with hst := { h with snapMissed := inc8 h.snapMissed } }
    else
      let ws := (List.range 8).flatMap (fun n => timeWords ((s.tb n).stampAt s.clk.tick c.tick (eighthU (c.f - c.d))))
      { s with hst := { h with
          snapPend := some (ws ++ [w32 (c.tick / 2 ^ 32), w32 c.tick], c.uncal, c.coarse)
          snapOverrun := if h.snapPend.isSome then inc8 h.snapOverrun else h.snapOverrun
          snapLast := some t } }

end Sys2Proof.Machine
end

