-- ==== Sys2Proof/Machine/Cal.lean ====
section
/-! DEFINITION. Background calibration and the Palette store (chapter 16): eligibility, the round-robin, the tests of a result, staleness,
commits, and the CAL commands. -/

namespace Sys2Proof.Machine

open Sys2Proof

/-! ### Items (R507, R512) -/

/-- Ledger job code of a step on an item (R507). -/
def calCode (item : Nat) : Nat := if item < 192 then 0 else if item < 221 then 1 else if item < 237 then 2 else 3

namespace State

/-- An item is eligible, deferral under R426 apart (R512). -/
def calEligible (s : State) (item : Nat) : Bool :=
  if item < 96 then
    let x := s.lane item
    s.pal.laneEn && decide (x.step = 7) && x.cdrLock && !x.rxDoze
  else if item < 192 then
    let x := s.lane (item - 96)
    s.pal.laneEn && x.enable && x.pllLock && !x.txDoze && !(s.laneHeld (item - 96))
  else if item < 221 then s.pal.convEn
  else if item < 237 then s.pal.hamEn
  else if item < 245 then s.pal.refinEn
  else s.pal.calrefEn

/-- A block anneal's segment runs on the block of an item (R565). -/
def calBlocked (s : State) (item : Nat) : Bool :=
  s.sec.blocks.any (fun b => b.running &&
    (if b.chan then decide (item = chItem b.index) else decide (item = b.index ∨ item = 96 + b.index)))

/-- A step's job waits for admission (R513). -/
def queueCal (s : State) (item origin : Nat) : State := s.queueJob (calCode item) (jobFixed (calCode item)) (.calStep item origin)

/-- A commit is requested (R524, R525). -/
def requestCommit (s : State) (cmd : Bool) : State := s.queueJob 4 (jobFixed 4) (.calCommit cmd)

/-- A pass that falls due under CAL_HOLD is put off (R426). -/
def deferPass (s : State) (item : Nat) : State := s.modChan (item - 192) (fun x => { x with deferred := true })

/-! ### The round-robin (R512, R513) -/

/-- The first eligible item at or after `from_`, of `n` items; passes that CAL_HOLD defers are noted and skipped (R426). -/
def nextItem (from_ : Nat) : Nat → State → Option Nat × State
  | 0, s => (none, s)
  | n + 1, s =>
    if 246 ≤ from_ then (none, s)
    else if s.calEligible from_ = false then nextItem (from_ + 1) n s
    else if s.passHeld from_ then nextItem (from_ + 1) n (s.deferPass from_)
    else (some from_, s)

/-- The round-robin ends a cycle: a commit is requested when an accepted value changed by more than COMMIT_DELTA (R525). -/
def endCycle (s : State) : State :=
  let s := if s.pal.autoCommit = true ∧ s.pal.dirty = true then s.requestCommit false else s
  { s with pal := { s.pal with dirty := false, next := 0 } }

/-- The step of the round-robin's next item waits for admission. -/
def requestStep (s : State) (item : Nat) : State :=
  ({ s with pal := { s.pal with rrWaiting := true, next := item } }).queueCal item 0

end State

/-- CAL_ROUND_ROBIN_STEP: STEP_GAP has passed since the last admitted step (R512, R513). -/
def calRoundRobin (s : State) : State :=
  if s.clk.tick < s.pal.rrDue ∨ s.pal.rrEn = false ∨ s.pal.rrWaiting = true ∨ s.mpiUp = false ∨ s.start.power ≠ .run then s
  else
    match State.nextItem s.pal.next (246 - s.pal.next) s with
    | (some i, s) => s.requestStep i
    | (none, s) =>
      match State.nextItem 0 246 s.endCycle with
      | (some i, s) => s.requestStep i
      | (none, s) => s

namespace State

/-- A step's job has been admitted: it begins, or waits behind a step on the same item (R514). -/
def calAdmitted (s : State) (item origin : Nat) : State :=
  let p := s.pal
  let p := if origin = 0 then { p with rrWaiting := false, next := item + 1, rrDue := s.clk.tick + p.stepGap * 125000 } else p
  { s with pal := { p with steps := p.steps ++ [{ item := item, rate := s.itemRate item, byRun := decide (origin = 1) }] } }

/-! ### Results (R515-R517, R521) -/

/-- The floor of the square root, below 2^48. -/
def sqrtFloor (n : Nat) : Nat := sqrtBits n 48 0

/-- Residual in ps from the square of 8 r, r in fs: the nearest ps (R521). -/
def residual (x : Nat) : Nat := min 0xFFFF ((sqrtFloor x / 4000 + 1) / 2)

/-- The value of a step in ps, halves rounded up (R509). -/
def calValue (m : CalMeas) (k : Int) : Int := (m.sum - 64 * m.h + 64000 * k + 32000) / 64000

/-- The K of a trace in ps, halves rounded up; the design value of Delta is 12 ps (R509, R510). -/
def traceValue (m : CalMeas) (tau : Nat) : Int := (64 * (m.loop - 1000 * (tau : Int) - 12000) - 2 * m.sum + 128 * m.h + 64000) / 128000

/-- K in force (R510). -/
def palK (s : State) : Int := match Tab.find? s.pal.vals 1960 with | some v => v.value | none => 0

/-- The square of 8 u_K of a trace, u_K in fs (R521). -/
def traceU2 (uCab sd : Nat) : Nat := (4000 * uCab) ^ 2 + sd ^ 2 + 4000 ^ 2

/-- The reason a result is REJECTED for before its figure is tested, in the order of R515: 0 none. -/
def calReason (c : CalStep) (m : CalMeas) : Nat :=
  if c.item = 245 then (if m.noRef then 1 else if 100 < m.off.natAbs ∨ 1000 < m.ppsOff then 2 else 0)
  else if c.item < 96 ∧ 20000 < m.off.natAbs then 2
  else 0

/-- Every two of three results lie within a limit of one another (R516). -/
def within3 (lim : Nat) (a b c : Int) : Bool := decide ((a - b).natAbs ≤ lim ∧ (a - c).natAbs ≤ lim ∧ (b - c).natAbs ≤ lim)

/-- Does a figure pass the tests of R515, with the exception of R516: the verdict, and the results that have failed only the test against p.
-/
def calPasses (s : State) (c : CalStep) (m : CalMeas) (v : Int) : Bool × List Int :=
  let trace := decide (c.item = 245)
  let limF := if trace then 100 else 300
  let limS := if trace then 5000 else 10000
  let limP := if trace then 10 else 20
  if limF < (v - Config.palFactory c.item c.rate).natAbs ∨ limS < m.sd then (false, [])
  else
    match Tab.find? s.pal.vals (8 * c.item + c.rate) with
    | none => (true, [])
    | some p =>
      if (v - p.value).natAbs ≤ limP then (true, [])
      else
        match (Tab.find? s.pal.near c.item).getD [] with
        | a :: b :: _ => if within3 limP v a b then (true, []) else (false, [v, a])
        | l => (false, v :: l)

/-- A result is accepted: it is the value in force (R515, R518, R521, R525). -/
def calAccept (s : State) (c : CalStep) (m : CalMeas) (v : Int) : State :=
  let key := 8 * c.item + c.rate
  let p := s.pal
  let trace := decide (c.item = 245)
  let u2 := if trace then traceU2 p.uCab m.sd else p.uK2
  let res := residual (if trace then u2 else m.sd ^ 2 + u2)
  let stored := ((Tab.find? s.mram.palette p.slot).map (fun (x : PalSlot) => x.entries)).bind (fun e => Tab.find? e key)
  let moved := match stored with | some x => decide (p.commitDelta < (v - x.value).natAbs) | none => true
  let s := { s with pal := { p with
    vals := Tab.insert p.vals key { value := v, temp := m.temp, res := res, since := s.clk.tick }
    uK2 := u2
    ownTrace := p.ownTrace || trace
    reasons := Tab.erase p.reasons c.item
    near := Tab.erase p.near c.item
    dirty := p.dirty || moved } }
  let s := if trace = true ∧ p.autoCommit = true then s.requestCommit false else s
  s.calReply c 0

end State

/-- CAL_STEP_COMPLETE: the oldest step on an item ends with what it measured (R509-R517, R527). A step waits while a segment tests its
item's block (R565) and, on the timing plane, while that plane is out of service (R39). -/
def calStepComplete (item : Nat) (m : CalMeas) (s : State) : State :=
  match s.pal.steps.find? (fun (c : CalStep) => decide (c.item = item)) with
  | none => s
  | some c =>
    if s.calBlocked item = true ∨ (192 ≤ item ∧ s.tpUp = false) then s
    else
      let s := { s with pal := { s.pal with steps := s.pal.steps.erase c, dieTemp := m.temp } }
      if c.lost then s
      else
        let reason := if item < 192 ∧ s.calEligible item = false then 1 else State.calReason c m
        if reason ≠ 0 then ({ s with pal := { s.pal with near := Tab.erase s.pal.near item } }).calReject c reason
        else
          let v := if item = 245 then State.traceValue m s.pal.tauCab else State.calValue m s.palK
          match s.calPasses c m v with
          | (true, _) => s.calAccept c m v
          | (false, l) =>
            let near := if l = [] then Tab.erase s.pal.near item else Tab.insert s.pal.near item l
            ({ s with pal := { s.pal with near := near } }).calReject c 3

/-- VALUE_STALE: the die temperature as now measured, by which, and by its age, a stored value is STALE (R518). -/
def valueStale (temp : Int) (s : State) : State :=
  { s with pal := { s.pal with dieTemp := temp } }

/-! ### Commits and loading (R522-R526) -/

namespace State

/-- The slot a commit writes: its snapshot of every stored value, without ages (R522, R524). -/
def palSnapshot (s : State) : PalSlot :=
  { gen := (s.pal.gen + 1) % 2 ^ 32, entries := s.pal.vals.map (fun (e : Nat × PalVal) => (e.1, { e.2 with since := 0, stale := false })) }

/-- A commit begins: its snapshot is taken in one tick (R524). -/
def beginCommit (s : State) (cmd : Bool) : State := { s with pal := { s.pal with commit := some s.palSnapshot, commitCmd := cmd } }

/-- A commit's job has been admitted: a second one waits until the first completes (R524). -/
def commitAdmitted (s : State) (cmd : Bool) : State :=
  if s.pal.commit.isSome then { s with pal := { s.pal with commitQ := s.pal.commitQ ++ [cmd] } } else s.beginCommit cmd

/-- The CRC of a commit is written: its generation is in force (R524). -/
def writeCommit (s : State) (x : PalSlot) : State :=
  let slot := 1 - s.pal.slot
  { s with
    mram := { s.mram with palette := Tab.insert s.mram.palette slot x }
    pal := { s.pal with gen := x.gen, slot := slot, commit := none, commitCmd := false } }

/-- A commit cut off by a loss of power leaves its slot torn (R526). -/
def tearCommit (s : State) : State :=
  match s.pal.commit with
  | none => s
  | some x => { s with mram := { s.mram with palette := Tab.insert s.mram.palette (1 - s.pal.slot) { x with valid := false } } }

/-- The slot loaded at start: the valid one with the higher generation (R523). -/
def palChoice (m : Mram) : Option (Nat × PalSlot) :=
  let v := fun k => (Tab.find? m.palette k).filter (fun (x : PalSlot) => x.valid)
  match v 0, v 1 with
  | some a, some b => if aheadOf 32 b.gen a.gen then some (1, b) else some (0, a)
  | some a, none => some (0, a)
  | none, some b => some (1, b)
  | none, none => none

/-- Step 4 of the start: the values of the slot take age 0 at root lock, and u_K is the residual stored with K (R520, R521, R523). -/
def palLoad (s : State) (temp : Int) : State :=
  let bad := fun k => ((Tab.find? s.mram.palette k).filter (fun (x : PalSlot) => x.valid)).isNone
  let p : Pal := { aBad := bad 0, bBad := bad 1, dieTemp := temp }
  match palChoice s.mram with
  | none => { s with pal := p }
  | some (k, x) =>
    let r := match Tab.find? x.entries 1960 with | some v => v.res | none => 0
    let load := fun (v : PalVal) => { v with stale := decide (16 * p.staleTemp < (temp - v.temp).natAbs) }
    { s with pal := { p with vals := Tab.mapVal (fun _ v => load v) x.entries, gen := x.gen, slot := k, uK2 := (8000 * r) ^ 2 } }

end State

/-- The bytes of a Palette slot (R522); those of a torn one are not stated. -/
def palSlotBytes (x : PalSlot) : List Byte :=
  let k := match Tab.find? x.entries 1960 with | some v => v.value | none => 0
  let entry := fun (e : Nat × PalVal) =>
    bytesLE 4 (e.1 / 8 % 512 + e.1 % 8 * 512 + lowBits 20 e.2.value * 4096) ++ bytesLE 2 (lowBits 16 e.2.temp) ++ bytesLE 2 e.2.res
  let head := bytesLE 4 0x50414C31 ++ bytesLE 4 x.gen ++ bytesLE 4 x.entries.length ++ bytesLE 4 (lowBits 32 k) ++ x.entries.flatMap entry
  let body := (head ++ List.replicate (16380 - head.length) 0).take 16380
  body ++ bytesLE 4 (crc32 body)

/-- A byte of the Palette slots as MRAM holds it, where the spec gives it (R522, R597). -/
def State.palByte (s : State) (a : Nat) : Option Byte :=
  match Tab.find? s.mram.palette ((a - 0x300000) / 0x4000) with
  | some x => if x.valid then (palSlotBytes x)[(a - 0x300000) % 0x4000]? else none
  | none => some 0

/-- CAL_COMMIT_COMPLETE (R524, R532). -/
def calCommitComplete (s : State) : State :=
  match s.pal.commit with
  | none => s
  | some x =>
    let cmd := s.pal.commitCmd
    let s := s.writeCommit x
    let s := if cmd then s.completeFirst (fun w => decide (w = .calCommit)) (okRpl [w32 s.pal.gen, pack [(0, s.pal.slot)]]) else s
    match s.pal.commitQ with
    | [] => s
    | b :: t => ({ s with pal := { s.pal with commitQ := t } }).beginCommit b

/-! ### Commands (R528-R532) -/

/-- CAL.CONFIG (R528). -/
def bodyCalConfig : Body := fun c ws s =>
  let w := bit (wd ws 0) 31
  let v := wd ws 0
  let p := if w then
    { s.pal with
      rrEn := bit v 0, autoCommit := bit v 1, laneEn := bit v 4, convEn := bit v 5, hamEn := bit v 6, refinEn := bit v 7
      stepGap := clamp 1 10000 (fld (wd ws 1) 13 0), commitDelta := clamp 1 255 (fld (wd ws 1) 23 16)
      staleAge := clamp 10 3600 (fld (wd ws 2) 11 0), staleTemp := clamp 1 20 (fld (wd ws 2) 20 16) } else s.pal
  ({ s with pal := p }).ok c
    [pack [(31, w.toNat), (0, p.rrEn.toNat), (1, p.autoCommit.toNat), (4, p.laneEn.toNat), (5, p.convEn.toNat), (6, p.hamEn.toNat),
       (7, p.refinEn.toNat)],
     pack [(0, p.stepGap), (16, p.commitDelta)], pack [(0, p.staleAge), (16, p.staleTemp)]]

/-- CAL.RUN (R514, R529): not eligible, it is REJECTED at once and nothing else happens; else its step waits for admission, or for the
deferral of R426 to end. -/
def bodyCalRun : Body := fun c ws s =>
  let item := min 245 (fld (wd ws 0) 8 0)
  if s.calEligible item = false then s.complete c { status := stRejected, detail := 1, words := s.calEntry item }
  else
    let s := s.hold c (.calRun item)
    if s.passHeld item then s else s.queueCal item 1

namespace State

/-- The items that are eligible now and their states. -/
def calStates (s : State) : List (Nat × Nat) :=
  ((List.range 246).filter (fun i => s.calEligible i)).map (fun i => (i, s.palState i (s.itemRate i)))

/-- PALETTE_Q (R521). -/
def paletteQ (s : State) : Nat :=
  let l := s.calStates
  if l.any (fun e => decide (e.2 ≠ 1)) then 0xFFFF
  else maxOf (l.map (fun e => match Tab.find? s.pal.vals (8 * e.1 + s.itemRate e.1) with | some v => v.res | none => 0))

/-- A commit waits or runs. -/
def commitBusy (s : State) : Bool :=
  s.pal.commit.isSome || decide (s.pal.commitQ ≠ [])
    || s.led.waiting.any (fun j => match j.what with | .calCommit _ => true | _ => false)

end State

/-- CAL.STATUS (R530). -/
def bodyCalStatus : Body := fun c ws s =>
  let first := min 245 (fld (wd ws 0) 8 0)
  let count := min (fld (wd ws 0) 24 16) (246 - first)
  let l := s.calStates
  let next := s.pal.next % 246
  s.ok c ([pack [(0, s.paletteQ), (16, min 0xFF (l.filter (fun e => decide (e.2 = 0))).length),
      (24, min 0xFF (l.filter (fun e => decide (e.2 = 2))).length)],
     w32 s.pal.gen,
     pack [(0, s.pal.slot), (1, s.pal.aBad.toNat), (2, s.pal.bBad.toNat), (3, s.pal.ownTrace.toNat), (4, s.commitBusy.toNat),
       (8, next % 256), (16, next / 256)],
     i32 s.palK] ++ (List.range count).flatMap (fun j => s.calEntry (first + j)))

/-- CAL.CALREF (R527, R531): a write ends a trace step in progress. What the inputs show at the command is not brought by any step, and is
free (notes/assumptions/2.md). -/
def bodyCalCalref : Body := fun c ws s =>
  let w := bit (wd ws 0) 31
  let s := if w then
    let s := { s with pal := { s.pal with
      calrefEn := bit (wd ws 0) 0, tauCab := min 10000000 (wd ws 1).toNat, uCab := fld (wd ws 2) 15 0 } }
    match s.pal.steps.find? (fun (x : CalStep) => decide (x.item = 245)) with
    | some x => if x.lost then s else ({ s with pal := { s.pal with steps := s.pal.steps.erase x } }).calReject x 1
    | none => s
    else s
  let (n, s) := s.drawNat
  s.ok c [pack [(31, w.toNat), (0, s.pal.calrefEn.toNat)], w32 s.pal.tauCab, w32 s.pal.uCab, w32 (n % 2 ^ 32) &&& 0xFFFF0007]

/-- CAL.COMMIT (R532). -/
def bodyCalCommit : Body := fun c _ s => (s.hold c .calCommit).requestCommit true

end Sys2Proof.Machine
end

