-- ==== Sys2Proof/Machine/Anneal.lean ====
section
/-! DEFINITION. Self-tests as they run: the anneal pass, the full start test and block anneals (R554-R565), and the commands that stop,
restart or describe the part (R575, R638-R640). -/

namespace Sys2Proof.Machine

open Sys2Proof

/-! ### The anneal pass and the full start test (R555-R560) -/

namespace State

/-- The record of a test is written to its place in MRAM (R556, R558). -/
def writeTest (s : State) (k : TestKind) : State :=
  match k with
  | .pass => { s with mram := { s.mram with passRec := some s.sec.test } }
  | .full => { s with mram := { s.mram with startRec := some s.sec.test } }

/-- A test begins with its record IN_PROGRESS (R556, R562). -/
def beginTest (s : State) (k : TestKind) : State :=
  let r : TestRec :=
    { full := decide (k = .full), expected := if k = .full then 572 else 316, runH := s.mram.runH, epoch := s.mram.bootEpoch }
  ({ s with sec := { s.sec with testing := some k, test := r } }).writeTest k

/-- A segment of the test in progress ends: the record is rewritten every 16 segments, and a test that has run its range ends with its
final record (R555, R556, R560). Each segment is charged and never waits (R486). -/
def testSegment (s : State) (fail : Bool) (us : Nat) : State :=
  match s.sec.testing with
  | none => s
  | some k =>
    let s := s.charge (jobFixed 9)
    let r := s.sec.test.segment s.mem.retired.isSome fail
    let r := { r with duration := r.duration + us }
    if r.completed = r.expected then
      let r := r.final
      let s := ({ s with sec := { s.sec with testing := none, test := r } }).writeTest k
      s.annealRecord r.reads (if k = .full then 1 else 0) r.completed 0
    else
      let s := { s with sec := { s.sec with test := r } }
      if r.completed % 16 = 0 then s.writeTest k else s

/-- Segments of the test in progress end in order. -/
def testSegments (s : State) (fails : List Bool) : State := fails.foldl (fun (s : State) f => s.testSegment f 0) s

/-! ### Block anneals (R564, R565, R577) -/

/-- A block is administratively idle (R564). -/
def blockIdle (s : State) (chan : Bool) (i : Nat) : Bool :=
  if chan then
    decide ((s.chan i).st = .off)
      && !((List.range 28).any (fun k => let y := s.chan k; decide (y.st = .running ∧ y.mode = 1 ∧ y.stopCh = i)))
  else
    !(s.lane i).enable
      && !(s.axg.jobs.any (fun j => match j.work with | .sketch l _ => decide (l = i) | .laneTrain l _ _ => decide (l = i) | _ => false))

/-- Segments of a block's anneal: one for each rate a lane offers, two for a channel (R97, R564). -/
def blockSegs (chan : Bool) : Nat := if chan then 2 else 4

/-- The reply words of ANNEAL.BLOCK (R577). -/
def blockWords (res : Nat) (b : Block) : List Word :=
  [pack [(0, res), (8, b.expected), (12, b.completed)], w32 b.firstFail, w32 b.errors]

/-- The command whose block anneal runs, or which waits for its turn. -/
def isAnneal (chan : Bool) (i : Nat) (w : Work) : Bool := decide (w = .anneal chan i)

/-- The block anneal of a block, in progress. -/
def blockRun (s : State) (chan : Bool) (i : Nat) : Option Block := s.sec.blocks.find? (fun b => decide (b.chan = chan ∧ b.index = i))

/-- The next ANNEAL.BLOCK of a block takes its turn (R564). The fuel bounds the commands that find the block not idle. -/
def startBlock (chan : Bool) (i : Nat) : Nat → State → State
  | 0, s => s
  | f + 1, s =>
    if (s.blockRun chan i).isSome ∨ (s.findJob (isAnneal chan i)).isNone then s
    else
      let b : Block := { chan := chan, index := i, expected := blockSegs chan, runH := s.mram.runH, epoch := s.mram.bootEpoch }
      if s.blockIdle chan i then
        ({ s with sec := { s.sec with blocks := s.sec.blocks ++ [b] } }).queueJob 9 (jobFixed 9) (.annealSeg chan i)
      else startBlock chan i f (s.completeFirst (isAnneal chan i) (okRpl (blockWords 2 b)))

/-- How a block anneal that ends now reads (R555). -/
def blockResult (b : Block) : Nat := if 0 < b.nFail then 2 else if b.completed = b.expected then 1 else 3

/-- A block anneal ends: its record, its reply (R560, R577). -/
def closeBlock (s : State) (b : Block) : State :=
  let s := { s with sec := { s.sec with blocks := s.sec.blocks.erase b, lastBlock := some b } }
  let s := s.dropJobs (fun j => decide (j = JobFor.annealSeg b.chan b.index))
  let res := blockResult b
  let s := s.annealRecord res 2 b.completed (srcOf (if b.chan then 8 else 1) b.index)
  s.completeFirst (isAnneal b.chan b.index)
    { status := if res = 3 then stIncomplete else stOk, detail := if res = 3 then b.completed else 0, words := blockWords res b }

/-- A block anneal ends and the next of the block takes its turn. -/
def endBlock (s : State) (b : Block) : State :=
  let s := s.closeBlock b
  startBlock b.chan b.index s.axg.jobs.length s

/-- Every block anneal ends before the part stops or restarts (R574, R637). -/
def endBlocks (s : State) : State := s.sec.blocks.foldl State.closeBlock s

/-- A block's segment waits at the head of the queue, but the block is idle no longer: the anneal ends before admission (R565). -/
def blockStale (s : State) (chan : Bool) (i : Nat) : Option Block := if s.blockIdle chan i then none else s.blockRun chan i

/-- A block's segment is admitted and runs. -/
def annealAdmitted (s : State) (chan : Bool) (i : Nat) : State :=
  { s with sec := { s.sec with blocks := s.sec.blocks.map (fun (b : Block) =>
      if b.chan = chan ∧ b.index = i then { b with running := true } else b) } }

/-- A block's segment ends with its error count (R554, R564). -/
def blockSegment (s : State) (b : Block) (errors us : Nat) : State :=
  let fail := decide (0 < errors)
  let b' : Block := { b with
    completed := b.completed + 1, running := false, duration := b.duration + us
    nFail := if fail then b.nFail + 1 else b.nFail
    firstFail := if fail = true ∧ b.nFail = 0 then b.completed else b.firstFail
    errors := if fail = true ∧ b.nFail = 0 then errors else b.errors }
  { s with sec := { s.sec with blocks := s.sec.blocks.map (fun (x : Block) => if x = b then b' else x) } }

/-- After the commands that waited for a segment, the block's next segment waits for admission, or the anneal ends (R565). -/
def blockNext (s : State) (chan : Bool) (i : Nat) : State :=
  match s.blockRun chan i with
  | none => s
  | some b =>
    if b.completed = b.expected ∨ s.blockIdle chan i = false then s.endBlock b
    else s.queueJob 9 (jobFixed 9) (.annealSeg chan i)

end State

/-- ANNEAL.BLOCK (R564, R577). -/
def bodyAnnealBlock : Body := fun c ws s =>
  let chan := bit (wd ws 0) 0
  let i := min (if chan then 27 else 95) (fld (wd ws 0) 14 8)
  let s := s.hold c (.anneal chan i)
  State.startBlock chan i s.axg.jobs.length s

/-! ### Stopping and restarting (R556, R575, R638) -/

/-- SYS.SHUTDOWN up to its reply (R556, R574, R575). -/
def bodyShutdown : Body := fun c ws s =>
  let noPass := bit (wd ws 0) 0
  let next := bit (wd ws 0) 1
  let s := (s.charge (jobFixed 11)).endBlocks
  let s := { s with mram := { s.mram with nextFull := s.mram.nextFull || next } }
  let r : TestRec := { expected := 316, runH := s.mram.runH, epoch := s.mram.bootEpoch }
  let s := if noPass then s else { s with mram := { s.mram with passRec := some r } }
  ({ s with start := { s.start with stop := some (.shutdown noPass) } }).ok c
    [pack [(0, noPass.toNat), (1, next.toNat)], w32 (if noPass then 0 else 316)]

/-- SYS.RESTART up to its reply (R637, R638). -/
def bodyRestart : Body := fun c ws s =>
  let scope := bit (wd ws 0) 0
  let s := s.endBlocks
  ({ s with start := { s.start with stop := some (if scope then .mgmtRestart else .restart) } }).ok c [pack [(0, scope.toNat)]]

/-! ### Firmware slots and status (R639, R640) -/

/-- The reply words of SYS.BOOT_SLOT (R639). -/
def State.bootSlotWords (s : State) : List Word :=
  [pack [(0, s.preferred.getD 0), (1, s.start.slot), (2, (fwValid s.mram.fwA).toNat), (3, (fwValid s.mram.fwB).toNat),
     (4, s.start.fallback.toNat)],
   w32 (fwGen s.mram.fwA), w32 (fwGen s.mram.fwB)]

/-- SYS.BOOT_SLOT (R639). -/
def bodyBootSlot : Body := fun c ws s =>
  let slot := fld (wd ws 0) 0 0
  if bit (wd ws 0) 31 = true ∧ fwValid (s.fwSlot slot) = true then
    (s.hold c (.bootSlot slot false)).queueJob 11 (jobFixed 11) (.bootSlot slot)
  else s.ok c s.bootSlotWords

/-- SYS.STATUS (R640). -/
def bodySysStatus : Body := fun c _ s =>
  let x := s.start
  s.ok c
    [pack [(0, x.cause), (3, x.kind), (5, x.done.toNat), (6, x.fallback.toNat), (7, x.trunc.toNat), (8, x.prevImage),
       (10, x.tamperStart.toNat), (12, min 15 x.bootFails), (16, s.clk.mgtRestarts)],
     w32 x.startUs, w32 x.lockUs, w32 x.testUs, pack [(0, x.scriptCmds), (16, x.scriptErrs)],
     pack [(0, x.firstErr), (16, x.firstErrStat)], w32 s.mram.bootEpoch, w32 s.mram.runH]

/-! ### MRAM writes (R596, R601, R639) -/

namespace State

/-- An MRAM write job is admitted: it joins the writes in progress. -/
def writeAdmitted (s : State) (what : JobFor) : State := { s with mem := { s.mem with writes := s.mem.writes ++ [what] } }

/-- The units of an image write still to do, one fewer. -/
def imageUnit (id : Nat) (w : Work) : Work :=
  match w with
  | .imageWrite slot off i data left => if i = id then .imageWrite slot off i data (left - 1) else w
  | w => w

/-- The bytes of the unit that has ended: the 4 KiB part of the slot that is `done` units after the first one touched. -/
def imageBytesOf (off : Nat) (data : List Word) (done : Nat) : Nat × List Byte :=
  let unit := off / 4096 + done
  let lo := max off (4096 * unit)
  let hi := min (off + 4 * data.length) (4096 * unit + 4096)
  (lo, ((wordBytesLE data).drop (lo - off)).take (hi - lo))

/-- A unit of MEM.IMAGE_WRITE has been written; the last one completes the command (R601). -/
def imageWritten (s : State) (id : Nat) : State :=
  match s.findJob (fun w => decide (w.imageId = some id)) with
  | some { ctx := _, work := .imageWrite slot off _ data left } =>
    let last := off + 4 * data.length - 1
    let units := last / 4096 - off / 4096 + 1
    let p := imageBytesOf off data (units - left)
    let s := s.setFwBytes slot p.1 p.2
    let s := { s with axg := { s.axg with jobs := s.axg.jobs.map (fun (j : Job) => { j with work := imageUnit id j.work }) } }
    s.completeWhere (fun w => match w with
      | .imageWrite slot off i data 0 => if i = id then some (okRpl [w32 slot, w32 off, w32 data.length]) else none
      | _ => none)
  | _ => s

/-- The rewritten header of SYS.BOOT_SLOT is in MRAM (R639). -/
def bootSlotWritten (s : State) (slot : Nat) : State :=
  let other := s.fwSlot (1 - slot)
  let s := s.setBootGen slot ((fwGen other + 1) % 2 ^ 32)
  s.completeFirst (fun w => match w with | .bootSlot k _ => decide (k = slot) | _ => false) (okRpl s.bootSlotWords)

end State

/-- MRAM_WRITE_COMPLETE: the oldest write in progress ends (R596, R601, R639). -/
def mramWriteComplete (s : State) : State :=
  match s.mem.writes with
  | [] => s
  | x :: t =>
    let s := { s with mem := { s.mem with writes := t } }
    match x with
    | .imageWrite id => s.imageWritten id
    | .bootSlot slot => s.bootSlotWritten slot
    | _ => s

end Sys2Proof.Machine
end

