-- ==== Sys2Proof/Machine/Ham.lean ====
section
/-! DEFINITION. Hammer outputs and converter starts (chapter 11): output time, boundaries, commits and edges, realignment, and the HAM
commands. -/

namespace Sys2Proof.Machine

open Sys2Proof

def hamReset (_ : Nat) : Ham := {}
def State.ham (s : State) (k : Nat) : Ham := Tab.get hamReset s.hams k
def State.setHam (s : State) (k : Nat) (x : Ham) : State := { s with hams := Tab.put hamReset s.hams k x }

/-! ### Output time (R385-R387) -/

/-- The output keeps an output time H: it has been armed in a periodic or converter-start mode. -/
def Ham.keepsH (x : Ham) : Bool := decide (x.st ≠ .idle) && decide (x.mode ≠ .oneShot)

/-- The time base is in lock (R386). -/
def State.hamLock (s : State) (n : Nat) : Bool :=
  if n = 0 then (decide (s.refs.st = .lockWide) || decide (s.refs.st = .lockNarrow)) && decide (s.hier.st ≠ .rejoining)
  else decide ((s.servo n).st = .locked)

/-- FOLLOWING: the phase part is followed in this tick (R386, R409). -/
def State.hamFollows (s : State) (x : Ham) : Bool := x.follow && s.hamLock x.tb

/-- The frequency part of rho_H, always followed, in units of 10^-15 (R386). -/
def State.hamFreq (s : State) (n : Nat) : Int :=
  let t := s.tb n
  let v := s.servo n
  t.rateCmd + (if n = 0 then 0 else if v.st = .acquire ∨ v.st = .locked then -v.integ else t.rateServo)

/-- The phase part of rho_H: the reference loop's RATE_SERVO on TB0, the servo's proportional term on TB1-TB7 (R386). -/
def State.hamPhase (s : State) (n : Nat) : Int := if n = 0 then (s.tb 0).rateServo else (s.servo n).prop

/-- Frequency and phase parts of rho_H before the clamp (R386). -/
def State.hamRateSum (s : State) (x : Ham) : Int := s.hamFreq x.tb + (if s.hamFollows x then s.hamPhase x.tb else 0)

/-- The sign and size of ALIGN_SLEW while a slewing alignment runs (R402). -/
def Ham.slewRate (x : Ham) (off : Int) : Int :=
  match x.align with
  | some (.slew ppb) => if 0 < off then -((ppb * 1000000 : Nat) : Int) else if off < 0 then ((ppb * 1000000 : Nat) : Int) else 0
  | _ => 0

/-- PHASE_OFF in units of 2^-64 ns (R387). -/
def State.hamOff (s : State) (x : Ham) : Int := if x.keepsH then (x.h : Int) - (s.tb x.tb).val else 0

/-- rho_H (R386, R402). -/
def State.hamRho (s : State) (x : Ham) : Int := clampZ (-rateLimit) rateLimit (s.hamRateSum x + x.slewRate (s.hamOff x))

/-! ### Boundaries (R388, R395, R397) -/

/-- The place of boundary k: START + k x PERIOD, or sample k mod N_PER_SEC of second k / N_PER_SEC. -/
def Ham.bound (x : Ham) (k : Nat) : Nat :=
  match x.mode with
  | .oneShot => x.start
  | .periodic => x.start + (psU ((k * x.period : Nat) : Int)).toNat
  | .conv =>
    let n := max 1 x.nPerSec
    k / n * secU + (psU (((2 * (k % n) * 10 ^ 12 + n) / (2 * n) : Nat) : Int)).toNat

/-- A number at or a little below the first boundary that lies at or beyond a time. -/
def Ham.guess (x : Ham) (t : Nat) : Nat :=
  match x.mode with
  | .oneShot => 0
  | .periodic => (t - x.start) * 1000 / (max 1 x.period * nsU) - 1
  | .conv => t / secU * x.nPerSec + t % secU * x.nPerSec / secU - 1

/-- The first boundary from an index on that lies at or beyond a time (R395, R397). -/
def Ham.firstAt (x : Ham) (k t : Nat) : Nat :=
  let g := max k (x.guess t)
  ((List.range 6).find? (fun i => decide (t ≤ x.bound (g + i)))).elim (g + 6) (g + ·)

/-- The nominal distance of two boundaries in ps. -/
def Ham.spanPs (x : Ham) : Nat := if x.mode = .conv then 10 ^ 12 / max 1 x.nPerSec else x.period

/-- A boundary is not emitted (R396). -/
def Ham.stopped (x : Ham) (k : Nat) : Bool := x.stopEn && decide (x.stopTime ≤ x.bound k)

/-- A time on H, or on the time base for a one-shot, as a time on the time base (R399). -/
def State.hamOnTb (s : State) (x : Ham) (b : Nat) : Nat := ((b : Int) - s.hamOff x).toNat

/-! ### Commands that wait for outputs (R403, R407, R408) -/

/-- Replies of HAM commands none of whose outputs is awaited any more. -/
def State.hamReplies (s : State) : State :=
  s.completeWhere (fun w => match w with
    | .hamDisarm mask 0 => some (okRpl [w32 mask])
    | .hamAlign mask 0 aligned ended slew rate =>
      some (okRpl [pack [(0, mask), (16, slew.toNat)], w32 rate, pack [(0, aligned), (16, ended)]])
    | _ => none)

/-- Change the work of every command in progress. -/
def State.mapWork (s : State) (f : Work → Work) : State :=
  { s with axg := { s.axg with jobs := s.axg.jobs.map (fun (j : Job) => { j with work := f j.work }) } }

/-- Remove an index from a mask. -/
def dropBit (m k : Nat) : Nat := if m.testBit k then m ^^^ 2 ^ k else m

/-- An output's alignment completes or ends, and counts in its command (R403). -/
def State.endAlign (s : State) (k : Nat) (aligned : Bool) : State :=
  if (s.ham k).align = none then s
  else
    let s := s.setHam k { s.ham k with align := none }
    (s.mapWork (fun w => match w with
      | .hamAlign mask todo al en slew rate =>
        if todo.testBit k then
          .hamAlign mask (dropBit todo k) (if aligned then al ||| 2 ^ k else al) (if aligned then en else en ||| 2 ^ k) slew rate
        else w
      | w => w)).hamReplies

/-- An output a disarm waits for has become IDLE, or runs a new schedule. -/
def State.endDisarm (s : State) (k : Nat) : State :=
  (s.mapWork (fun w => match w with
    | .hamDisarm mask todo => .hamDisarm mask (dropBit todo k)
    | w => w)).hamReplies

/-! ### Edges (R389, R390, R404) -/

/-- The ball's level changes: an edge leaves while the pair gate is open (R461). `ticks` and `ps` place it from the present tick. -/
def State.hamLevel (s : State) (k : Nat) (active : Bool) (ticks : Int) (ps : Nat) : State :=
  let x := s.ham k
  let s := s.setHam k { x with active := active }
  if x.active ≠ active ∧ s.pairGateOpen = true then
    s.emit (.hamEdge k (xor active x.pol) ((s.tb x.tb).timeAt ticks (psU ps)))
  else s

/-- A schedule comes to its end: the output is DONE at its inactive level, and an alignment ends (R396, R403). -/
def State.hamDone (s : State) (k : Nat) : State :=
  let s := if (s.ham k).committed = [] then s.hamLevel k false 0 0 else s
  (s.setHam k { s.ham k with st := .done, next := none }).endAlign k false

/-- An output being disarmed is IDLE once its committed edges and the pulse in progress are complete; a frame then returns to its inactive
level (R404). -/
def State.hamSettle (s : State) (k : Nat) : State :=
  let x := s.ham k
  if x.disarming = true ∧ x.committed = [] ∧ (x.active = false ∨ x.frame = true) then
    let s := s.hamLevel k false 0 0
    ((s.setHam k { s.ham k with st := .idle, next := none, disarming := false }).endAlign k false).endDisarm k
  else s

/-- 51.2 ns, the 64 ticks of a commit, in units of 2^-64 ns. -/
def commitU : Nat := 512 * nsU / 10

/-- The level an output has after its committed edges. -/
def Ham.lastLevel (x : Ham) : Bool := ((x.committed.filterMap HamEdge.level).getLast?).getD x.active

/-- The place of a time on H or the time base: ps from the start of the present tick, to the nearest ps (R388, R389). -/
def placePs (now t : Nat) (rho : Int) : Nat := (roundDiv (((t : Int) - now) * 1000 * 10 ^ 15) (nsU * (10 ^ 15 + rho).toNat)).toNat

/-- The edges of a boundary placed a number of ps from the present tick: a level set of a frame, or a pulse with its end (R390). The pulse's end
is committed with its beginning (DESIGN CHOICE, notes/assumptions/46.md). -/
def Ham.edgesOf (x : Ham) (tick : Nat) (rho : Int) (k b ps : Nat) (last : Bool) : List HamEdge :=
  if x.frame then
    let lvl := decide (k % 2 = 0)
    [{ tick := tick + ps / 800, ps := ps % 800, boundary := some (k, b), level := if lvl = x.lastLevel then none else some lvl }]
  else
    let e := ps + (roundDiv ((x.width : Int) * 10 ^ 15) (10 ^ 15 + rho).toNat).toNat
    [{ tick := tick + ps / 800, ps := ps % 800, boundary := some (k, b), level := some true },
     { tick := tick + e / 800, ps := e % 800, level := some false, stop := last }]

/-- A one-shot commits: at START, or 64 ticks after a step has passed it (R393). -/
def State.commitOneShot (s : State) (k : Nat) (x : Ham) : State :=
  let t := s.tb x.tb
  let rho := t.rateTotal
  if (t.val : Int) + scaleRho rho commitU < x.start then s
  else
    let late := decide (x.start < t.val)
    let ps := if late then 51200 else placePs t.val x.start rho
    let s := s.setHam k { x with
      next := none, steppedOver := x.steppedOver || late, committed := x.committed ++ x.edgesOf s.clk.tick rho 0 x.start ps true }
    if late then s.log .timing 0x0701 (srcOf 7 k) 0 0 0 else s

/-- A periodic or converter-start output commits its next boundary, or the end of a stopped frame (R389, R396). -/
def State.commitPeriodic (s : State) (k : Nat) (x : Ham) (n : Nat) : State :=
  let rho := s.hamRho x
  let b := x.bound n
  if (x.h : Int) + scaleRho rho commitU < b then s
  else
    let ps := placePs x.h b rho
    if x.stopped n then
      s.setHam k { x with next := none, committed := x.committed ++
        [{ tick := s.clk.tick + ps / 800, ps := ps % 800, level := if x.lastLevel then some false else none, stop := true }] }
    else
      let last := !x.frame && x.stopped (n + 1)
      s.setHam k { x with next := if last then none else some (n + 1), committed := x.committed ++ x.edgesOf s.clk.tick rho n b ps last }

/-- HAM_EDGE_COMMIT (R389): the next boundary is committed when its time is at most 64 ticks away; not while an alignment holds it. -/
def hamCommit (k : Nat) (s : State) : State :=
  let k := k % 16
  let x := s.ham k
  let held := match x.align with
    | some .wait => x.committed.any (fun e => e.boundary.isSome)
    | some (.after _) => true
    | _ => false
  if s.clk.tpUp = false ∨ x.disarming = true ∨ held = true then s
  else
    match x.next with
    | none => s
    | some n => if x.mode = .oneShot then s.commitOneShot k x else s.commitPeriodic k x n

/-- HAM_EDGE_EMIT (R398, R399, R404): the oldest committed edge whose tick has come is emitted. -/
def hamEmit (k : Nat) (s : State) : State :=
  let k := k % 16
  let x := s.ham k
  if s.clk.tpUp = false then s
  else
    match x.committed with
    | [] => s
    | e :: t =>
      if s.clk.tick < e.tick then s
      else
        let ticks : Int := (e.tick : Int) - s.clk.tick
        let s := s.setHam k { x with committed := t }
        let s : State := match e.level with | some l => s.hamLevel k l ticks e.ps | none => s
        let s : State := match e.boundary with
          | none => s
          | some (i, b) =>
            let x := s.ham k
            let at_ := if x.mode = .oneShot then (s.tb x.tb).timeAt ticks (psU e.ps) else s.hamOnTb x b
            let smp := if x.mode = .conv then (if x.wrap then i % max 1 x.nPerSec else x.edges) else 0
            let x := { x with
              st := if x.st = .armed ∧ x.mode ≠ .oneShot then HamSt.running else x.st
              lastEdge := at_, lastSmp := smp, edges := (x.edges + 1) % 2 ^ 32, lastIndex := i
              align := if x.align = some .wait then some (.after at_) else x.align }
            let s := s.setHam k x
            if k = 0 ∧ x.mode ≠ .oneShot then s.ham0Boundary i x.tb ((at_ / fracU : Nat) : Int) (s.palValue 221 0).2 else s
        let s : State := if e.stop then s.hamDone k else s
        s.hamSettle k

/-! ### Realignment (R400-R402) -/

/-- The next boundary of a schedule, which is DONE at once when that one is not emitted and it makes no frame (R395, R396). -/
def State.hamNext (s : State) (k n : Nat) : State :=
  let x := s.ham k
  if x.frame = false ∧ x.stopped n = true then s.hamDone k else s.setHam k { x with next := some n }

/-- The first boundary of a schedule just armed: a STOP_TIME at or before it leaves the output DONE at once, of either shape (R396). -/
def State.hamFirst (s : State) (k n : Nat) : State :=
  let x := s.ham k
  if x.stopped n = true then s.hamDone k else s.setHam k { x with next := some n }

/-- HAM_ALIGN_COMPLETE (R401, R402): H is set equal to the time base after the boundary an alignment waited for; a slewing alignment is complete
once H has met the time base, whose last fraction its own tick finishes. -/
def hamAlignComplete (k : Nat) (s : State) : State :=
  let k := k % 16
  let x := s.ham k
  let tb := (s.tb x.tb).val
  match x.align with
  | some (.after tk) =>
    if x.committed ≠ [] then s
    else
      let s := (s.setHam k { x with h := tb, carry := 0 }).endAlign k true
      if x.next.isNone then s
      else s.hamNext k (x.firstAt (x.lastIndex + 1) (tk + (psU ((x.spanPs / 2 : Nat) : Int)).toNat))
  | some (.slew _) => if x.h = tb then s.endAlign k true else s
  | _ => s

/-- One tick of H (R385, R402), after its time base's. -/
def State.tickHam (s : State) (k : Nat) : State :=
  let x := s.ham k
  if x.keepsH = false ∨ s.clk.tpUp = false then s
  else
    let base := clampZ (-rateLimit) rateLimit (s.hamRateSum x)
    let n := base * (4 * nsU : Nat) + x.carry
    let v := ((x.h + tickU s.clk.tick : Nat) + n / (rateDen : Nat) : Int).toNat
    let tb := (s.tb x.tb).val
    match x.align with
    | some (.slew ppb) =>
      let off : Int := (v : Int) - tb
      let d := clampZ (-rateLimit) rateLimit (s.hamRateSum x + x.slewRate off) - base
      let q := d.natAbs * (4 * nsU) / rateDen
      if off.natAbs ≤ q then (s.setHam k { x with h := tb, carry := 0 }).endAlign k true
      else s.setHam k { x with
        h := ((v : Int) + (if off < 0 then (q : Int) else -(q : Int))).toNat, carry := n % (rateDen : Nat), align := some (.slew ppb) }
    | _ => s.setHam k { x with h := v % tbWrap, carry := n % (rateDen : Nat) }

/-- Every output goes IDLE when the timing plane leaves service, with what its commands then reply (R404, R660). -/
def State.hamsOff (s : State) : State :=
  (({ s with hams := [] }).mapWork (fun w => match w with
    | .hamDisarm mask _ => .hamDisarm mask 0
    | .hamAlign mask todo al en slew rate => .hamAlign mask 0 al (en ||| todo) slew rate
    | w => w)).hamReplies

/-! ### Commands (R406-R410) -/

/-- The earliest permitted edge E on the time base (R389): 64 ticks from now, and 2 ns after the end of the pulses committed so far. -/
def State.earliest (s : State) (k : Nat) (tb : Nat) (rho : Int) : Nat :=
  let t := (s.tb tb).val
  let x := s.ham k
  let a : Int := t + scaleRho rho commitU
  match x.committed.getLast? with
  | none => a.toNat
  | some e => (max a (t + scaleRho rho (psU (((e.tick : Int) - s.clk.tick) * 800 + e.ps + 2000)))).toNat

/-- A new schedule replaces the old one: committed edges and the pulse in progress complete as plain edges, an alignment ends, a waiting disarm
no longer waits for this output (R403, R404). -/
def State.armHam (s : State) (k : Nat) (x : Ham) : State :=
  let old := s.ham k
  let s := (s.endAlign k false).endDisarm k
  let s := if old.frame = true ∧ old.committed = [] then s.hamLevel k false 0 0 else s
  let old := s.ham k
  s.setHam k { x with
    st := .armed, h := if x.mode = .oneShot then 0 else (s.tb x.tb).val, active := old.active
    committed := old.committed.map (fun (e : HamEdge) => { e with boundary := none, stop := false }) }

/-- The reply words 0-9 of HAM.ARM (R406). -/
def Ham.armWords (x : Ham) (k : Nat) : List Word :=
  [pack [(0, k), (4, x.tb), (8, x.frame.toNat), (9, x.pol.toNat), (10, x.follow.toNat), (11, x.stopEn.toNat)]] ++ timeWords x.start
    ++ [w32 (x.period / 2 ^ 32), w32 x.period, w32 x.width] ++ timeWords x.stopTime

/-- HAM.ARM as its parameters state it, clamped (R390, R406). -/
def hamOfWords (ws : List Word) : Ham :=
  let w := wd ws 0
  let p0 := fld (wd ws 4) 15 0 * 2 ^ 32 + (wd ws 5).toNat
  let p := if p0 = 0 then 0 else max 10000 p0
  let one := decide (p = 0)
  let frame := bit w 8 && !one
  let top := if one then 2 ^ 32 - 1 else min (p / 2 - 2000) (2 ^ 32 - 1)
  { mode := if one then .oneShot else .periodic, tb := fld w 6 4, frame := frame, pol := bit w 9, follow := bit w 10 && !one,
    stopEn := bit w 11 && !one, start := timeArg ws 1, period := p, width := if frame then 0 else clamp 2000 top (wd ws 6).toNat,
    stopTime := if one then 0 else timeArg ws 7 }

/-- HAM.ARM (R393-R396, R403, R406). -/
def bodyHamArm : Body := fun c ws s =>
  let k := fld (wd ws 0) 3 0
  let x := hamOfWords ws
  let replaced := decide ((s.ham k).st = .armed) || decide ((s.ham k).st = .running)
  if x.mode = .oneShot then
    let e := s.earliest k x.tb (s.tb x.tb).rateTotal
    if x.start < e then
      (s.logLate .timing c (srcOf 7 k)).complete c
        { status := stLate, detail := 0, words := x.armWords k ++ timeWords (s.tb x.tb).val ++ [0] }
    else
      (s.armHam k { x with next := some 0 }).ok c (x.armWords k ++ timeWords x.start ++ [pack [(1, replaced.toNat)]])
  else
    let e := s.earliest k x.tb (s.hamRho x)
    let n := x.firstAt 0 e
    ((s.armHam k x).hamFirst k n).ok c
      (x.armWords k ++ timeWords (x.bound n) ++ [pack [(0, (decide (x.start < e)).toNat), (1, replaced.toNat)]])

/-- HAM.CONV (R397, R398, R410). -/
def bodyHamConv : Body := fun c ws s =>
  let w := wd ws 0
  let k := fld w 3 0
  let n := clamp 1 10000000 (fld (wd ws 1) 23 0)
  let x : Ham := { mode := .conv, tb := fld w 6 4, pol := bit w 9, follow := bit w 10, wrap := bit w 12, nPerSec := n,
                   width := clamp 2000 (10 ^ 12 / (2 * n) - 2000) (wd ws 2).toNat, start := timeArg ws 3 }
  let f := x.firstAt 0 (max x.start (s.earliest k x.tb (s.hamRho x)))
  ((s.armHam k x).hamNext k f).ok c
    ([pack [(0, k), (4, x.tb), (9, x.pol.toNat), (10, x.follow.toNat), (12, x.wrap.toNat)], w32 n, w32 x.width] ++ timeWords x.start
      ++ timeWords (x.bound f) ++ [w32 (if x.wrap then f % n else 0)])

/-- HAM.DISARM (R404, R407). -/
def bodyHamDisarm : Body := fun c ws s =>
  let l := (maskBits 16 (wd ws 0).toNat).filter (fun k => decide ((s.ham k).st ≠ .idle))
  let s := l.foldl (fun s k =>
    let s := s.endAlign k false
    s.setHam k { s.ham k with disarming := true, next := none }) s
  let s := s.hold c (.hamDisarm (maskOf l) (maskOf l))
  (l.foldl State.hamSettle s).hamReplies

/-- One output of HAM.ALIGN (R401, R402). -/
def State.alignOne (s : State) (slew : Bool) (rate k : Nat) : State :=
  let x := s.ham k
  let tb := (s.tb x.tb).val
  if slew then
    let s := s.setHam k { x with align := some (.slew rate) }
    if x.h = tb then s.endAlign k true else s
  else if x.st = .armed then
    let s := (s.setHam k { x with h := tb, carry := 0, align := some .wait }).endAlign k true
    let last := x.committed.filterMap (fun e => e.boundary.map Prod.fst)
    let n := x.firstAt (match last.getLast? with | some i => i + 1 | none => 0) (max (s.earliest k x.tb (s.hamRho x)) (if x.mode = .conv then x.start else 0))
    if x.next.isNone then s else s.hamNext k n
  else s.setHam k { x with align := some .wait }

/-- HAM.ALIGN (R400, R403, R408). -/
def bodyHamAlign : Body := fun c ws s =>
  let mask := fld (wd ws 0) 15 0
  let slew := bit (wd ws 0) 16
  let rate := clamp 1 500000 (fld (wd ws 1) 18 0)
  let l := (maskBits 16 mask).filter (fun k =>
    let x := s.ham k
    decide (x.mode ≠ .oneShot) && !x.disarming && (decide (x.st = .armed) || decide (x.st = .running)))
  let s := l.foldl (fun s k => s.endAlign k false) s
  let s := s.hold c (.hamAlign mask (maskOf l) 0 0 slew rate)
  (l.foldl (State.alignOne · slew rate) s).hamReplies

def hamStCode : HamSt → Nat
  | .idle => 0
  | .armed => 1
  | .running => 2
  | .done => 3

/-- The next boundary on the time base as now predicted (R409). -/
def State.nextEdge (s : State) (x : Ham) : List Word :=
  match x.committed.findSome? HamEdge.boundary, x.next with
  | some b, _ => timeWords (s.hamOnTb x b.2)
  | none, some n => if x.stopped n then [0, 0, 0] else timeWords (s.hamOnTb x (x.bound n))
  | none, none => [0, 0, 0]

/-- HAM.STATUS (R409). -/
def bodyHamStatus : Body := fun c ws s =>
  let k := fld (wd ws 0) 3 0
  let x := s.ham k
  let mode := match x.mode with | .oneShot => 0 | .periodic => 1 | .conv => 2
  s.ok c ([pack [(0, k), (4, x.tb), (8, hamStCode x.st), (11, mode), (13, x.frame.toNat), (14, x.follow.toNat), (15, x.align.isSome.toNat),
      (16, x.steppedOver.toNat), (17, (x.active && s.pairGateOpen).toNat), (18, (s.palValue (221 + k) 0).2.toNat), (19, (s.hamFollows x).toNat)]]
    ++ s64Words (roundDiv (s.hamOff x) fracU) ++ timeWords x.lastEdge ++ [w32 x.lastSmp] ++ s.nextEdge x
    ++ [w32 x.edges, w32 x.lastIndex])

end Sys2Proof.Machine
end

