-- ==== Sys2Proof/Machine/Hier.lean ====
section
/-! DEFINITION. The tree of managers and workers (chapter 09) and relay and broadcast (R85-R89): configuration, enrollment, presence, Worker Reports,
islands, and the HIER commands other than closure. -/

namespace Sys2Proof.Machine

open Sys2Proof

namespace State

/-! ### The hierarchy record (R322, R486) -/

/-- The configuration and the worker table are copied to the hierarchy record, charged as one MRAM write. -/
def saveHier (s : State) : State :=
  let s := s.charge (jobFixed 11)
  { s with mram := { s.mram with hierCfg := some s.hcfg, workers := s.workers } }

/-- Entries as a restart restores them (R322); over a restart of the part how long ago a child reported is lost with TICK, so that AGE stands at its
limit until the next report (DESIGN CHOICE, notes/assumptions/79.md). -/
def restored (part : Bool) (l : Tab Worker) : Tab Worker :=
  Tab.mapVal (fun _ (w : Worker) => { w with
    pres := .enrolling, misses := 0, dying := false, lastTick := if part then none else w.lastTick }) l

/-- The stored closure results as a restart restores them, with the residuals of the manager's own ports (R322, R335, R336). -/
def restoreRings (s : State) : State :=
  s.mram.rings.foldl (fun (s : State) e => s.applyOwn e.2) { s with hier := { s.hier with rings := s.mram.rings } }

/-- The device is a manager (R315). -/
def isManager (s : State) : Bool := s.isMi && !s.workers.isEmpty

/-- ISLAND_N (R341). -/
def islandN (s : State) : Bool := !s.inIsland || !s.start.resetN

/-- The device is the island head (R338). -/
def isHead (s : State) : Bool := decide (s.hier.st = .island) || decide (s.hier.st = .rejoining)

/-- ISLAND_HEAD and HEAD_HOLD_AGE_S (R338, R350). -/
def islandHead (s : State) : Nat := if s.isHead then s.devId else if s.inIsland then s.hier.parentHead else 0x3FFFF
def headHoldAge (s : State) : Nat := if s.isHead then s.holdSecs (s.tb 0) else if s.inIsland then s.hier.parentHoldAge else 0

/-! ### Broadcasts (R88, R89) -/

/-- The summary of a broadcast that has ended (R89); its counts stop at 0xFFFF, where merged summaries pass it (DESIGN CHOICE,
notes/assumptions/44.md). -/
def bcastReply (b : Bcast) : List Word :=
  [pack [(16, min 0xFFFF b.nOk), (0, min 0xFFFF b.nTargets)], pack [(16, min 0xFFFF b.nUnreach), (0, min 0xFFFF b.nOther)]]
    ++ b.fails.flatMap (fun f => [w32 f.1, pack [(16, f.2.1), (0, f.2.2)]])

/-- A broadcast whose targets have all completed replies with OK; with COLLECT the targets' reply packets follow in the same exchange (R89). -/
def bcastEnd (s : State) (id : Nat) : State :=
  match Tab.find? s.hier.bcasts id with
  | some b =>
    if b.waiting.isEmpty then
      ({ s with hier := { s.hier with bcasts := Tab.erase s.hier.bcasts id } }).complete b.ctx
        { status := stOk, detail := 0, words := bcastReply b, follow := if b.collect then b.replies else [] }
    else s
  | none => s

/-- The result of one target (R89). -/
def Bcast.note (b : Bcast) (child status detail : Nat) : Bcast :=
  if status = stOk then { b with nOk := b.nOk + 1 }
  else
    { b with
      nUnreach := if status = stUnreach then b.nUnreach + 1 else b.nUnreach
      nOther := if status = stUnreach then b.nOther else b.nOther + 1
      fails := b.fails ++ [(child, status, detail)] }

/-- A sub-manager's summary is added in place of its own result (R89). -/
def Bcast.merge (b : Bcast) (ws : List Word) : Bcast :=
  let n := fld (wd ws 1) 31 16 + fld (wd ws 1) 15 0
  { b with
    nTargets := b.nTargets + fld (wd ws 0) 15 0 - 1
    nOk := b.nOk + fld (wd ws 0) 31 16
    nUnreach := b.nUnreach + fld (wd ws 1) 31 16
    nOther := b.nOther + fld (wd ws 1) 15 0
    fails := b.fails ++ (List.range n).map (fun i =>
      (fld (wd ws (2 + 2 * i)) 17 0, fld (wd ws (3 + 2 * i)) 31 16, fld (wd ws (3 + 2 * i)) 15 0)) }

/-- A target of a broadcast completes without a reply of its own (R87, R88). -/
def bcastFail (s : State) (id child detail : Nat) : State :=
  match Tab.find? s.hier.bcasts id with
  | none => s
  | some b =>
    let b : Bcast := { Bcast.note b child stUnreach detail with waiting := b.waiting.erase child, unsent := b.unsent.erase child }
    ({ s with hier := { s.hier with bcasts := Tab.insert s.hier.bcasts id b } }).bcastEnd id

/-- The packet a target gets (R88): the inner packet with RELAY set; under RECURSE a target that is a manager gets a broadcast of it to all of its
own children (DESIGN CHOICE, notes/assumptions/44.md: the spec does not give that packet). -/
def bcastPacket (b : Bcast) (w : Worker) : List Word × Nat × Nat :=
  let relay := fun (l : List Word) => (wd l 0 ||| pack [(17, 1)]) :: l.drop 1
  if b.recurse = true ∧ w.kind = 1 then
    (relay ([hdrWord0 false false false false opBroadcast, pack [(16, b.tag), (0, 1 + b.packet.length)], w32 0x3FFFF, pack [(0, b.srcId)],
      pack [(31, b.collect.toNat), (30, 1)]] ++ b.packet), b.tag, b.srcId)
  else (relay b.packet, fld (wd b.packet 1) 31 16, fld (wd b.packet 3) 17 0)

/-- Send the oldest target that waits for a relay record; one that has left the table or is ABSENT completes at once (R87, R330). -/
def bcastSend (s : State) (id : Nat) (b : Bcast) (child : Nat) (rest : List Nat) : State :=
  let s := { s with hier := { s.hier with bcasts := Tab.insert s.hier.bcasts id { b with unsent := rest } } }
  match s.childOf child with
  | none => s.bcastFail id child 1
  | some (_, w) =>
    if w.pres = .absent then s.bcastFail id child 2
    else
      let (pkt, tag, src) := bcastPacket b w
      let r : Relay := { tag := tag, srcId := src, child := child, mac := w.mac, back := .broadcast id }
      ({ s with axg := { s.axg with relays := s.axg.relays ++ [r] } }).sendToChild w pkt

end State

/-- Broadcast targets leave while relay records are free (R330). The fuel bounds the targets. -/
def pumpBcasts : Nat → State → State
  | 0, s => s
  | n + 1, s =>
    if 1024 ≤ s.axg.relays.length then s
    else
      match List.find? (fun (e : Nat × Bcast) => !e.2.unsent.isEmpty) s.hier.bcasts with
      | some (id, b) =>
        (match b.unsent with
          | child :: rest => pumpBcasts n (s.bcastSend id b child rest)
          | [] => s)
      | none => s

namespace State

def pump (s : State) : State := pumpBcasts ((s.hier.bcasts.map (fun e => e.2.unsent.length)).sum) s

/-- Relayed commands and broadcast targets of a child complete with UNREACHABLE (R87, R326). -/
def relaysFail (s : State) (child detail : Nat) : State :=
  let mine := s.axg.relays.filter (fun r => decide (r.child = child))
  let s := { s with axg := { s.axg with relays := s.axg.relays.filter (fun r => decide (r.child ≠ child)) } }
  (mine.foldl (fun s r => match r.back with
    | .carrier c =>
      let t : RelayTail := { srcId := r.srcId, op := r.op, tag := r.tag, destId := r.destId, owed := none }
      (if r.more then { s with axg := { s.axg with tails := addTail t s.axg.tails } } else s).err c stUnreach detail
    | .broadcast id => s.bcastFail id child detail) s).pump

/-! ### Replies from children (R55, R87) -/

/-- A packet that passes back up: RELAY set, by the recorded carrier (R87). -/
def passBack (s : State) (c : Ctx) (pkt : List Word) : State :=
  let pkt := (wd pkt 0 ||| pack [(17, 1)]) :: pkt.drop 1
  if c.mute then s
  else
  match c.via with
  | .pcie => ({ s with axg := { s.axg with rplWait := s.axg.rplWait ++ s.viaPackets c.via pkt } }).drainReplies
  | .spi => { s with axg := { s.axg with spiQ := s.axg.spiQ ++ [pkt] } }
  | .inband port sa tci =>
    if s.pairGateOpen then { s with buf := { s.buf with iqCmd := s.buf.iqCmd ++ (s.linkPackets pkt).map (s.axgFrame port sa tci) } } else s
  | _ => s

/-- A reply packet of a broadcast's target (R89). -/
def bcastReplyIn (s : State) (id child : Nat) (pkt : List Word) (more : Bool) : State :=
  match Tab.find? s.hier.bcasts id with
  | none => s
  | some b =>
    let part := ((Tab.find? b.part child).getD []) ++ (pkt.drop 4).take (fld (wd pkt 1) 15 0)
    let b := { b with replies := if b.collect then b.replies ++ [(wd pkt 0 ||| pack [(17, 1)]) :: pkt.drop 1] else b.replies }
    if more then { s with hier := { s.hier with bcasts := Tab.insert s.hier.bcasts id { b with part := Tab.insert b.part child part } } }
    else
      let st := fld (wd pkt 3) 31 16
      let sub := b.recurse && decide (fld (wd pkt 0) 15 0 = opBroadcast) && decide (st = stOk)
      let b := if sub then Bcast.merge b part else Bcast.note b child st (fld (wd pkt 3) 15 0)
      let b := { b with part := Tab.erase b.part child, waiting := b.waiting.erase child }
      ({ s with hier := { s.hier with bcasts := Tab.insert s.hier.bcasts id b } }).bcastEnd id

/-- The relay record a reply packet matches: its TAG, and the child's address at the relay (R87). -/
def relayFor (s : State) (sa : Nat) (pkt : List Word) : Option Relay :=
  s.axg.relays.find? (fun r => decide (r.tag = fld (wd pkt 1) 31 16 ∧ r.mac = sa))

/-- A child's reply packet goes back by its relay record; the record is freed by the last packet (R87). -/
def relayReply (s : State) (r : Relay) (pkt : List Word) : State :=
  let more := bit (wd pkt 0) 16
  let s := if more then s else { s with axg := { s.axg with relays := s.axg.relays.erase r } }
  let s := match r.back with
    | .carrier c => s.passBack c pkt
    | .broadcast id => s.bcastReplyIn id r.child pkt more
  if more then s else s.pump

/-- The length checks 5 and 6 of R55 on a reply. -/
def replyFits (pkt : List Word) : Bool :=
  let len := fld (wd pkt 1) 15 0
  decide (len ≤ 1023) && decide (4 + len + (if bit (wd pkt 0) 18 then 4 else 0) ≤ pkt.length)

end State

/-- LEN of HIER.BROADCAST (R58, R88): it follows from COUNT and the inner packet's header, whose DEST_ID must be 0x3_FFFF. -/
def lenBroadcast : LenRule := fun ws =>
  let n := fld (wd ws 0) 15 0
  if ws.length < 1 + n + 4 then some 0
  else
    let h := ws.drop (1 + n)
    let len := 1 + n + 4 + fld (wd h 1) 15 0 + (if bit (wd h 0) 18 then 4 else 0)
    if fld (wd h 2) 17 0 ≠ 0x3FFFF then some 0
    else if ws.length = len then none else some (min 0xFFFF len)

/-- The targets of a broadcast in slot order of the worker table; those that are no entry of it come after (R330). -/
def State.bcastOrder (s : State) (targets : List Nat) : List Nat :=
  s.workers.flatMap (fun e => targets.filter (fun t => decide (t = e.2.childId))) ++ targets.filter (fun t => (s.childOf t).isNone)

/-- Targets that are ABSENT, or no children, complete at once (R330). -/
def State.bcastAtOnce (s : State) (id : Nat) (targets : List Nat) : State :=
  targets.foldl (fun (s : State) t => match s.childOf t with
    | none => s.bcastFail id t 1
    | some (_, w) => if w.pres = .absent then s.bcastFail id t 2 else s) s

/-- HIER.BROADCAST (R88, R89, R330). -/
def bodyBroadcast : Body := fun c ws s =>
  let w := wd ws 0
  let n := fld w 15 0
  let inner := ws.drop (1 + n)
  let targets := if n = 0 then s.workers.map (fun e => e.2.childId) else s.bcastOrder (((ws.drop 1).take n).map (fun x => fld x 17 0))
  let id := s.hier.nextBcast
  let b : Bcast := { ctx := c, collect := bit w 31, recurse := bit w 30, targets := targets, waiting := targets, nTargets := targets.length,
                     unsent := targets, packet := inner, tag := c.tag, srcId := c.srcId }
  let s := { s with hier := { s.hier with nextBcast := id + 1, bcasts := Tab.insert s.hier.bcasts id b } }
  (s.bcastAtOnce id targets).pump.bcastEnd id

/-! ### Configuration (R337, R344) -/

namespace State

/-- Words 1 to 6 of HIER.CONFIG applied (R70, R343, R344). -/
def hierIdentity (s : State) (ws : List Word) : HierCfg :=
  let id := fld (wd ws 1) 17 0
  let top := bit (wd ws 1) 24 && s.isMi
  let has := bit (wd ws 3) 24 && !top
  let sub := fld (wd ws 2) 17 0
  { s.hcfg with
    deviceId := id
    tier := if top then 0 else min 4 (fld (wd ws 1) 22 20)
    top := top
    subHi := if s.isMi = false then id else if id = 0x3FFFF then (if top then min 0x3FFFE sub else 0x3FFFF) else clamp id 0x3FFFE sub
    parentId := if top then 0x3FFFF else fld (wd ws 3) 17 0
    hasParent := has
    parentMac := macOf (wd ws 4) (wd ws 5)
    parentPort := portOrNone (fld (wd ws 5) 6 0)
    vid := clamp 1 4094 (fld (wd ws 6) 11 0)
    vlanEn := bit (wd ws 6) 12
    pcp := fld (wd ws 6) 15 13 }

/-- Words 7 to 9 of HIER.CONFIG applied. -/
def hierTune (h : HierCfg) (ws : List Word) : HierCfg :=
  { h with
    islandMiss := clamp 3 31 (fld (wd ws 7) 4 0)
    rejoinSlew := clamp 1 500000 (fld (wd ws 7) 27 8)
    rejoinDone := clamp 1 65535 (fld (wd ws 8) 15 0)
    ringSid0 := fld (wd ws 9) 9 0
    ringEn0 := bit (wd ws 9) 10
    ringSid1 := fld (wd ws 9) 25 16
    ringEn1 := bit (wd ws 9) 26 }

/-- A new identity moves the hierarchy state (R337). -/
def hierMoved (s : State) (old : HierCfg) : State :=
  let h := s.hcfg
  let seek := { s with hier := { s.hier with
    st := .seeking, parentIsland := false, reportTag := none, unanswered := 0, rejoinRun := 0 } }
  if h.top then { s with hier := { s.hier with st := .top, epoch := 0, parentIsland := false, reportTag := none, unanswered := 0 } }
  else if h.hasParent = false then { s with hier := { s.hier with st := .detached, parentIsland := false, reportTag := none, unanswered := 0 } }
  else if s.hier.st = .detached ∨ s.hier.st = .top then seek
  else if (h.deviceId, h.parentId, h.parentMac) ≠ (old.deviceId, old.parentId, old.parentMac) then seek
  else s

/-- The words of HIER.CONFIG (R344). -/
def hierCfgWords (h : HierCfg) (write persist tune : Bool) : List Word :=
  [pack [(31, write.toNat), (30, persist.toNat), (29, tune.toNat)], pack [(0, h.deviceId), (20, h.tier), (24, h.top.toNat)], w32 h.subHi,
   pack [(0, h.parentId), (24, h.hasParent.toNat)], w32 (h.parentMac / 2 ^ 16), pack [(16, h.parentMac % 2 ^ 16), (0, h.parentPort)],
   pack [(0, h.vid), (12, h.vlanEn.toNat), (13, h.pcp)], pack [(0, h.islandMiss), (8, h.rejoinSlew)], w32 h.rejoinDone,
   pack [(0, h.ringSid0), (10, h.ringEn0.toNat), (16, h.ringSid1), (26, h.ringEn1.toNat)]]

end State

/-- HIER.CONFIG (R322, R337, R344). -/
def bodyHierConfig : Body := fun c ws s =>
  let w := bit (wd ws 0) 31
  let t := bit (wd ws 0) 29
  let old := s.hcfg
  let s := if w then (({ s with hcfg := s.hierIdentity ws }).hierMoved old) else s
  let s := if t then { s with hcfg := State.hierTune s.hcfg ws } else s
  let s := if w = true ∨ t = true then ({ s with mram := { s.mram with hierPersist := bit (wd ws 0) 30 } }).saveHier else s
  s.ok c (State.hierCfgWords s.hcfg w s.mram.hierPersist t)

/-! ### Enrollment (R318-R321, R345, R346) -/

namespace State

/-- The device's own subtree range, where it has one (R316). -/
def ownRange (s : State) : Option (Nat × Nat) :=
  let h := s.hcfg
  if h.deviceId = 0x3FFFF then (if h.top then some (0, h.subHi) else none) else some (h.deviceId + 1, h.subHi)

/-- The first failing reason of R318, 0 for none. -/
def enrollReason (s : State) (w : Worker) : Nat :=
  let others := s.workers.filter (fun e => decide (e.2.childId ≠ w.childId))
  let inside := match s.ownRange with | some (lo, hi) => decide (lo ≤ w.childId ∧ w.subHi ≤ hi) | none => false
  if inside = false then 1
  else if 3 < s.hcfg.tier then 4
  else if others.any (fun e => decide (e.2.childId ≤ w.subHi ∧ w.childId ≤ e.2.subHi)) then 2
  else if others.any (fun e => decide (e.2.mac = w.mac)) then 6
  else if (s.childOf w.childId).isNone = true ∧ (Tab.freeKey 4096 s.workers).isNone = true then 3
  else 0

/-- The HIER.CONFIG a manager pushes to a child (R319, R346): its sequence number and epochs are not stated, so that they are free values, and its
TAG is 0 (DESIGN CHOICE, notes/assumptions/44.md). -/
def push (s : State) (w : Worker) (persist has : Bool) : State :=
  let mac := s.idMac
  let h : HierCfg := { deviceId := w.childId, tier := min 4 (s.hcfg.tier + 1), subHi := w.subHi, parentId := if has then s.devId else 0x3FFFF,
                       hasParent := has, parentMac := mac, vid := w.vid, vlanEn := w.vlanEn, pcp := w.pcp }
  let ws := (hierCfgWords h true persist false).take 7 ++ [0, 0, 0]
  let (seq, s) := s.drawNat
  let (epoch, s) := s.drawNat
  let (boot, s) := s.drawNat
  let auth := s.mram.sysKey.isSome
  let body := [hdrWord0 false auth false false 0x0D00, pack [(0, 10)], w32 0x3FFFF, pack [(18, seq % 256), (0, s.devId)]] ++ ws
  let pkt := match s.mram.sysKey with
    | some k => body ++ tagWords (gmac256 k (gmacIv s.devId 0x3FFFF epoch seq false boot) (wordBytesBE body))
    | none => body
  s.sendToChild w pkt

/-- The reply words of HIER.ENROLL (R345): at its end KIND is what the entry then holds. -/
def enrollWords (ws : List Word) (kind : Nat) (ok : Bool) (reason : Nat) : List Word :=
  ((wd ws 0 &&& 0xFFF3FFFF) ||| pack [(18, kind)]) :: (ws.drop 1).take 3 ++ [pack [(0, ok.toNat), (1, reason)]]

/-- HIER.ENROLL commands that wait for a child reply (R320). -/
def enrollReply (s : State) (child kind : Nat) (ok : Bool) (reason : Nat) : State :=
  s.completeWhere (fun w => match w with
    | .enroll id ws => if id = child then some (okRpl (enrollWords ws kind ok reason)) else none
    | _ => none)

end State

/-- An entry of the worker table as the active of a pair tells it (R463), and as its partner takes it: in ENROLLING. -/
def workerTell (slot : Nat) (w : Worker) : List Word :=
  [1, w32 slot, w32 w.childId, w32 w.subHi, w32 (w.mac / 2 ^ 16), pack [(16, w.mac % 2 ^ 16), (0, w.port), (8, w.pcp), (11, w.vlanEn.toNat)],
   pack [(0, w.vid), (16, w.kind)]]
def workerTold (c : List Word) : Worker :=
  { childId := fld (wd c 2) 17 0, subHi := fld (wd c 3) 17 0, mac := macOf (wd c 4) (wd c 5), port := fld (wd c 5) 6 0, vid := fld (wd c 6) 11 0,
    vlanEn := bit (wd c 5) 11, pcp := fld (wd c 5) 10 8, kind := fld (wd c 6) 17 16 }

/-- HIER.ENROLL (R318-R320, R345). -/
def bodyEnroll : Body := fun c ws s =>
  let id := min 0x3FFFE (fld (wd ws 0) 17 0)
  let kind := min 1 (fld (wd ws 0) 19 18)
  let push := bit (wd ws 0) 20
  let persist := bit (wd ws 0) 21
  let w : Worker := { childId := id, subHi := if kind = 0 then id else clamp id 0x3FFFE (fld (wd ws 3) 29 12), mac := macOf (wd ws 1) (wd ws 2),
                      port := min 103 (fld (wd ws 2) 6 0), vid := clamp 1 4094 (fld (wd ws 3) 11 0), vlanEn := bit (wd ws 2) 11,
                      pcp := fld (wd ws 2) 10 8, kind := kind }
  let rep := [pack [(0, id), (18, kind), (20, push.toNat), (21, persist.toNat)], w32 (w.mac / 2 ^ 16),
    pack [(16, w.mac % 2 ^ 16), (0, w.port), (8, w.pcp), (11, w.vlanEn.toNat)], pack [(0, w.vid), (12, w.subHi)]]
  let reason := s.enrollReason w
  if reason ≠ 0 then s.ok c (State.enrollWords rep kind false reason)
  else
    let slot := match s.childOf id with | some (k, _) => k | none => (Tab.freeKey 4096 s.workers).getD 0
    let was : Bool := match s.childOf id with | some (_, o) => decide (o.pres = .absent) | none => false
    let s := (({ s with workers := Tab.insert s.workers slot w }).saveHier).twinTell (workerTell slot w)
    let s := if was then s.log .mgmt 0x0D02 (srcOf 9 slot) (w32 id) 0 0 else s
    let s := s.hold c (.enroll id rep)
    if push then s.push w persist true else s

/-- HIER.RELEASE (R326, R346). -/
def bodyRelease : Body := fun c ws s =>
  let id := fld (wd ws 0) 17 0
  match s.childOf id with
  | none => s.ok c [0]
  | some (k, w) =>
    let s := if bit (wd ws 0) 20 then s.push w false false else s
    let s := (({ s with workers := Tab.erase s.workers k }).saveHier).twinTell [2, w32 k]
    let s := if w.pres = .absent then s.log .mgmt 0x0D02 (srcOf 9 k) (w32 id) 0 0 else s
    let s := (s.relaysFail id 1).enrollReply id w.kind false 5
    s.ok c [1]

/-- HIER.TABLE_READ (R347). -/
def bodyTableRead : Body := fun c ws s =>
  let first := fld (wd ws 0) 11 0
  let n := min (fld (wd ws 1) 12 0) (4096 - first)
  let l := s.workers.filter (fun e => decide (first ≤ e.1 ∧ e.1 < first + n))
  let pres := fun (p : Pres) => match p with | .enrolling => 1 | .present => 2 | .absent => 3
  let entry := fun (e : Nat × Worker) =>
    let w := e.2
    let age := match w.lastTick with | some t => min 31 ((s.clk.tick - t) / 31250000) | none => 31
    [pack [(0, w.childId), (18, w.kind), (20, pres w.pres), (22, w.misses), (24, w.dying.toNat), (25, w.variant % 16), (29, e.1 / 512)],
     w32 (w.mac / 2 ^ 16), pack [(16, w.mac % 2 ^ 16), (0, w.port), (8, w.pcp), (11, w.vlanEn.toNat)], pack [(0, w.vid), (12, w.subHi)],
     wd w.report 1, wd w.report 2, wd w.report 0, pack [(0, fld (wd w.report 3) 17 0), (18, e.1 % 512), (27, age)]]
  s.ok c (pack [(0, l.length), (16, (l.filter (fun e => decide (e.2.pres = Pres.absent))).length)] :: l.flatMap entry)

/-! ### Presence and Worker Reports at the manager (R325-R328, R351) -/

namespace State

/-- A child becomes ABSENT (R326). -/
def childAbsent (s : State) (slot : Nat) (w : Worker) (dying : Bool) : State :=
  let s := { s with workers := Tab.insert s.workers slot { w with pres := .absent, dying := dying } }
  let s := s.log .mgmt 0x0D01 (srcOf 9 slot) (pack [(0, w.childId), (18, dying.toNat)]) 0 0
  (s.relaysFail w.childId 2).closureNodeLost w.childId

/-- The residuals of a child's two ring ports: port, value and generation into each (R336). -/
def residualsFor (s : State) (child : Nat) : List (Nat × Int × Nat) :=
  (s.hier.rings.filterMap (fun e =>
    let r := e.2
    (List.range r.links.length).findSome? (fun i =>
      match r.links[i + 1]?, r.links[i]? with
      | some next, some l =>
        if next.node = child then some [(l.inPort, r.res.getD i 0, r.gen), (next.outPort, -(r.res.getD (i + 1) 0), r.gen)] else none
      | _, _ => none))).headD []

/-- The reply words of a Worker Report (R325, R351). -/
def reportReply (s : State) (acc : Bool) (res : List (Nat × Int × Nat)) : List Word :=
  let gen := match res with | r :: _ => r.2.2 | [] => 0
  let p := fun (i : Nat) => match res[i]? with | some r => (r.1, 1) | none => (0, 0)
  let v := fun (i : Nat) => match res[i]? with | some r => i32 r.2.1 | none => 0
  [pack [(0, acc.toNat), (1, s.inIsland.toNat), (2, (decide (s.hier.st = .rejoining)).toNat), (8, s.hier.epoch), (16, gen)],
   w32 s.islandHead, w32 (min 0xFFFFFFFF s.headHoldAge), pack [(0, (p 0).1), (7, (p 0).2), (16, (p 1).1), (23, (p 1).2)], v 0, v 1]

/-- A Worker Report is executed (R325-R328). -/
def workerReport (s : State) (c : Ctx) (ws : List Word) : State :=
  match c.via with
  | .inband port sa _ =>
    (match s.childOf c.srcId with
    | none => s.ok c (s.reportReply false [])
    | some (slot, w) =>
      if w.mac ≠ sa then s.ok c (s.reportReply false [])
      else
        let dying := bit (wd ws 0) 30
        let variant := fld (wd ws 0) 19 16
        let was := w.pres
        let w : Worker := { w with
          report := ws.drop 1, variant := variant, port := port, lastTick := some s.clk.tick, misses := 0
          kind := if variant = 2 then 0 else w.kind, subHi := if variant = 2 then w.childId else w.subHi }
        let s : State :=
          if dying then (if was = .absent then { s with workers := Tab.insert s.workers slot w } else s.childAbsent slot w true)
          else
            let s := { s with workers := Tab.insert s.workers slot { w with pres := .present, dying := false } }
            let s := if was = .absent then s.log .mgmt 0x0D02 (srcOf 9 slot) (w32 w.childId) 0 0 else s
            let s := s.enrollReply w.childId w.kind true 0
            s.closureReport w
        s.ok c (s.reportReply true (s.residualsFor w.childId)))
  | _ => s.ok c (s.reportReply false [])

def hierStCode : HierSt → Nat
  | .detached => 0
  | .top => 1
  | .seeking => 2
  | .joined => 3
  | .island => 4
  | .rejoining => 5

/-- Children by presence. -/
def childCount (s : State) (p : Pres) : Nat := (s.workers.filter (fun e => decide (e.2.pres = p))).length

end State

/-- LEN of HIER.STATUS (R350, R351). -/
def lenHierStatus : LenRule := fun ws =>
  if ws = [] then some 0
  else
    let n := if bit (wd ws 0) 31 then 8 else 1
    if ws.length = n then none else some n

/-- HIER.STATUS: a Worker Report, which a CTX-9632-WI does not collect (R2), or the device's own state (R325, R350, R351). -/
def bodyHierStatus : Body := fun c ws s =>
  if bit (wd ws 0) 31 then (if s.isMi then s.workerReport c ws else s.err c stNotManager 0)
  else
    let isl := s.inIsland
    s.ok c [pack [(0, State.hierStCode s.hier.st), (3, isl.toNat), (8, s.hier.epoch), (19, s.workers.length)],
      pack [(0, s.devId), (20, s.hcfg.tier)], w32 s.islandHead, pack [(0, s.childCount .present), (16, s.childCount .absent)],
      if isl then w32 (min 0xFFFFFFFF ((s.clk.tick - s.hier.islandSince) / ticksPerSec)) else 0, w32 (min 0xFFFFFFFF s.headHoldAge),
      i32 s.hier.rejoinOffset, w32 (min 0xFFFF s.hier.unanswered)]

/-- The next miss of an entry has fallen due: miss k falls 25 ms + k x 125 ms after the last accepted report (R326). -/
def State.missDue (s : State) (w : Worker) : Bool :=
  decide (w.pres = Pres.present) && decide (w.lastTick.getD 0 + 31250000 + (w.misses + 1) * 156250000 ≤ s.clk.tick)

/-- CHILD_MISS: a miss of a PRESENT entry falls due; the third makes it ABSENT (R326). A report accepted in the same tick comes first, and the miss
is not counted (R327). -/
def childMiss (slot : Nat) (s : State) : State :=
  match Tab.find? s.workers slot with
  | none => s
  | some w =>
    if s.missDue w = false then s
    else if 2 ≤ w.misses then s.childAbsent slot { w with misses := 3 } false
    else { s with workers := Tab.insert s.workers slot { w with misses := w.misses + 1 } }

/-! ### Worker Reports at the child (R323, R324, R337-R340) -/

namespace State

/-- The session that TB0, or else the first servo that follows one, follows (R351). -/
def mainSession (s : State) : Option Session :=
  let p := s.phaseRef
  let sid := if 0x400 ≤ p ∧ p ≠ 0xFFF then some (p - 0x400) else (List.range 8).findSome? (fun n => if n = 0 then none else (s.servo n).follow)
  sid.bind s.session?

/-- A value in ps in a signed field of 32 bits, saturating (chapter 09, Commands). -/
def satPs (x : Int) : Word := i32 (clampZ (-(2 ^ 31)) (2 ^ 31 - 1) x)

/-- The mean path delay of a ring session in ps, when it is reported (R333, R351). -/
def ringDelay (s : State) (en : Bool) (sid : Nat) : Option Int :=
  if en then (s.session? sid).bind (fun x => x.delay.map fracPs) else none

/-- The parameters of a Worker Report (R351). -/
def reportWords (s : State) (dying : Bool) : List Word :=
  let m := s.mainSession
  let d0 := s.ringDelay s.hcfg.ringEn0 s.hcfg.ringSid0
  let d1 := s.ringDelay s.hcfg.ringEn1 s.hcfg.ringSid1
  let sub := s.childCount .absent + (s.workers.map (fun e => fld (wd e.2.report 3) 17 0)).sum
  let portBad := (List.range 104).any (fun p => s.portExists p && (s.port p).enable && decide ((s.port p).st ≠ .up))
  [pack [(31, 1), (30, dying.toNat), (29, (!s.hier.reported).toNat), (0, hierStCode s.hier.st), (8, s.hier.epoch),
     (16, if s.isMi then 1 else 2), (20, s.hcfg.tier)],
   pack [(0, tb0Code s.refs.st), (3, match m with | some x => sesCode x.run.st | none => 0), (6, (match m with | some x => x.run.lastUncal | none => false).toNat),
     (7, (s.tb 0).holdover.toNat), (8, s.inIsland.toNat), (16, s.clk.xoLoss.toNat), (17, s.clk.tpFault.toNat),
     (18, ((List.range 4).any (fun b => decide ((s.pair b).st = PairSt.closed))).toNat),
     (19, (s.ptp.sessions.any (fun e => e.2.run.keyExhausted)).toNat), (20, portBad.toNat), (21, (decide (s.childCount .absent ≠ 0)).toNat)],
   (match m with | some x => satPs (fracPs x.run.theta) | none => 0),
   (match m with | some x => satPs (roundDiv (s.asymOf x * 1000) 65536) | none => 0),
   w32 (sub % 2 ^ 18), (match d0 with | some d => satPs d | none => 0), (match d1 with | some d => satPs d | none => 0),
   pack [(0, s.hcfg.ringSid0), (10, d0.isSome.toNat), (16, s.hcfg.ringSid1), (26, d1.isSome.toNat)]]

/-- A Worker Report leaves in band to PARENT_MAC, in class 7: out of PARENT_PORT, or by lookup while that is 0x7F (DEDUCED). -/
def sendReport (s : State) (dying : Bool) : State :=
  let h := s.hcfg
  let tag := s.hier.nextTag
  let pkt := [hdrWord0 false false false false 0x0D08, pack [(16, tag), (0, 8)], w32 h.parentId, w32 h.deviceId] ++ s.reportWords dying
  let tci := if h.vlanEn then some (h.pcp * 2 ^ 13 + h.vid) else none
  let i := s.axgFrame (if h.parentPort = 0x7F then 0 else h.parentPort) h.parentMac tci pkt
  let s := { s with buf := { s.buf with iqCmd := s.buf.iqCmd ++ [{ i with lookup := decide (h.parentPort = 0x7F), vid := h.vid, cls := 7 }] } }
  { s with hier := { s.hier with reportTag := some tag, nextTag := (tag + 1) % 65536, reported := true } }

/-- The device enters ISLAND from JOINED, with a new epoch, or from REJOINING with the epoch kept (R337-R339). -/
def enterIsland (s : State) (fresh : Bool) : State :=
  let e := if fresh then (if (s.hier.epoch + 1) % 256 = 0 then 1 else (s.hier.epoch + 1) % 256) else s.hier.epoch
  let s := { s with hier := { s.hier with
    st := .island, epoch := e, islandSince := if fresh then s.clk.tick else s.hier.islandSince, parentIsland := false, rejoinRun := 0 } }
  (if fresh then s.log .mgmt 0x0D03 0 (w32 e) 0 0 else s).checkTarget

/-- A report is found unanswered as its successor falls due (R337). -/
def reportMissed (s : State) : State :=
  if s.hier.reportTag.isNone then s
  else
    let n := s.hier.unanswered + 1
    let s := { s with hier := { s.hier with unanswered := min 0xFFFF n } }
    if n < s.hcfg.islandMiss then s
    else
      match s.hier.st with
      | .joined => if s.isManager then s.enterIsland true else { s with hier := { s.hier with st := .seeking, parentIsland := false } }
      | .rejoining => s.enterIsland false
      | _ => s

/-- The residuals into the ports that end a stored ring of this manager; every other port's value comes with the parent's reply, and is 0
without one (R336). -/
def ownResiduals (s : State) : Tab (Int × Nat) :=
  let ends := s.hier.rings.flatMap (fun e => ringEnds e.2)
  Tab.keep (fun p _ => ends.contains p) s.hier.residuals

/-- A report is answered (R324, R336-R338, R340). -/
def reportAnswered (s : State) (port : Nat) (ws : List Word) : State :=
  let acc := bit (wd ws 0) 0
  let note := fun (t : Tab (Int × Nat)) (i : Nat) =>
    let p := fld (wd ws 3) (16 * i + 6) (16 * i)
    if bit (wd ws 3) (16 * i + 7) = true ∧ p < 104 then Tab.insert t p (sfld (wd ws (4 + i)) 31 0, fld (wd ws 0) 23 16) else t
  let h := { s.hier with reportTag := none, unanswered := 0, replyPort := port }
  if acc = false then
    { s with hier := { h with st := if h.st = .joined then .seeking else h.st, parentIsland := if h.st = .joined then false else h.parentIsland } }
  else
    let was := s.inIsland
    let h : Hier := { h with
      parentIsland := bit (wd ws 0) 1, parentEpoch := fld (wd ws 0) 15 8, parentHead := fld (wd ws 1) 17 0, parentHoldAge := (wd ws 2).toNat
      residuals := note (note s.ownResiduals 0) 1 }
    let s : State := match h.st with
      | .seeking => { s with hier := { h with st := .joined, epoch := h.parentEpoch } }
      | .joined => { s with hier := { h with epoch := h.parentEpoch } }
      | .island => { s with hier := { h with st := .rejoining, rejoinMeasured := false, rejoinRun := 0 } }
      | _ => { s with hier := h }
    if s.inIsland = true ∧ was = false then { s with hier := { s.hier with islandSince := s.clk.tick } } else s

end State

/-- The present tick is a report tick of the device, and no report has left in it yet (R323). -/
def State.reportDue (s : State) : Bool :=
  decide (((s.clk.tick : Int) - (s.devId % 4096 * 38146 : Nat)) % 156250000 = 0) && decide (s.hier.reportTick ≠ some s.clk.tick)

/-- WORKER_REPORT_SEND (R323, R324, R337): at the device's report tick the last report is found answered or unanswered, and the next one leaves.
Only the ACTIVE unit of a pair reports (R461). -/
def workerReportSend (s : State) : State :=
  if s.hcfg.hasParent = false ∨ s.start.mpi ≠ .up ∨ s.start.power ≠ .run ∨ s.pairGateOpen = false ∨ s.reportDue = false then s
  else
    let s := s.reportMissed
    let s : State := { s with hier := { s.hier with reportTick := some s.clk.tick } }
    s.sendReport false

/-- A packet from PARENT_MAC that answers the latest report; every other one is discarded (R55, R324). -/
def State.reportReplyIn (s : State) (port sa : Nat) (pkt : List Word) : State :=
  match parsePacket (.inband port sa none) pkt with
  | .badHdr => s.countBadHdr
  | .malformed => s.countMalformed
  | .cmd _ _ => s
  | .reply _ =>
    if sa ≠ s.hcfg.parentMac ∨ s.hier.reportTag ≠ some (fld (wd pkt 1) 31 16) then s.countBadHdr
    else if State.replyFits pkt = false then s.countMalformed
    else s.reportAnswered port ((pkt.drop 4).take (fld (wd pkt 1) 15 0))

/-- A packet from a child that matches a relay record; every other one is discarded (R55, R87). -/
def State.relayReplyIn (s : State) (port sa : Nat) (pkt : List Word) : State :=
  match parsePacket (.inband port sa none) pkt with
  | .badHdr => s.countBadHdr
  | .malformed => s.countMalformed
  | .cmd _ _ => s
  | .reply _ =>
    match s.relayFor sa pkt with
    | none => s.countBadHdr
    | some r => if State.replyFits pkt = false then s.countMalformed else s.relayReply r pkt

/-- WORKER_REPORT_REPLY (R55, R324): a reply packet arrives in band. -/
def workerReportReply (port sa : Nat) (pkt : List Word) (s : State) : State :=
  if s.takes (.inband port sa none) then s.reportReplyIn port sa pkt else s

/-- AXG_RELAY_REPLY (R55, R87): a reply packet arrives in band. -/
def axgRelayReply (port sa : Nat) (pkt : List Word) (s : State) : State :=
  if s.takes (.inband port sa none) then s.relayReplyIn port sa pkt else s

/-- A reply packet taken from PQ_CMD: to the report it answers, or to its relay record (R55). It has arrived while INBAND_EN was 1, whatever
the setting is now (R94). -/
def replyTaken (port sa : Nat) (pkt : List Word) (s : State) : State :=
  if sa = s.hcfg.parentMac ∧ s.hier.reportTag = some (fld (wd pkt 1) 31 16) then s.reportReplyIn port sa pkt
  else s.relayReplyIn port sa pkt

end Sys2Proof.Machine
end

