-- ==== Sys2Proof/Machine/Pair.lean ====
section
/-! DEFINITION. Redundant pairs (chapter 14): twin frames received, disputes and verdicts, the worker's filter table, and the PAIR commands. -/

namespace Sys2Proof.Machine

open Sys2Proof

/-! ### Twin frames as words (R465) -/

/-- A twin frame. -/
structure Twin where
  kind : Nat
  variant : Nat
  st : Nat
  unit : Nat
  gen : Nat
  mac : Nat
  seq : Nat
  content : List Word
deriving DecidableEq, Repr

/-- The header and content of a twin frame's payload. -/
def twinOf (ws : List Word) : Twin :=
  let w := wd ws 0
  { kind := fld w 19 16, variant := fld w 15 12, st := fld w 10 8, unit := fld w 0 0, gen := (wd ws 1).toNat,
    mac := macOf (wd ws 2) (wd ws 3), seq := fld (wd ws 3) 15 0, content := ws.drop 4 }

namespace State

/-- The head of PQ_TIME, when it is a twin frame or beacon that has ended: its entry, frame and content. -/
def twinHeadFrame (s : State) : Option (PuntItem × Frame × Twin) :=
  match s.puntHead 0 (fun f => s.isBeacon (parseHdr false f.bytes) f.bytes) with
  | none => none
  | some (x, f) => some (x, f, twinOf (wordsOfBE (dropFcs (f.bytes.drop (parseHdr false f.bytes).pay))))

/-- A frame arrived on the twin port of a pair unit. -/
def onTwin (s : State) (f : Frame) : Bool := s.pcfg.en && decide (f.inPort = s.pcfg.twinPort)

/-- The sender is this unit's partner (R473). -/
def isPartner (s : State) (t : Twin) : Bool := s.pcfg.en && decide (t.mac = s.pcfg.mac) && decide (t.unit ≠ s.pcfg.unit)

/-- A partner's frame: its state and generation, the variant check of R459, and the twin link when it came by the twin port (R466). -/
def notePartner (s : State) (f : Frame) (t : Twin) : State :=
  let s := { s with prun := { s.prun with
    heardAt := s.clk.tick, activeAt := if t.kind = 0 ∧ t.st = 2 then s.clk.tick else s.prun.activeAt
    partnerSt := t.st, partnerGen := t.gen, mismatch := decide (t.variant ≠ (if s.isMi then 1 else 2)) } }
  let s := if s.onTwin f = true ∧ (s.port s.pcfg.twinPort).st = .up then s.twinHeard else s
  if t.st = 4 then s.switchReply false else s

/-- A twin frame of a KIND at the head of PQ_TIME, from the partner by the twin port: the frame, its content, and the state with it taken. A
frame of another sender is taken without effect. -/
def takeTwin (s : State) (kind : Nat) : Option (Frame × Twin) × State :=
  if s.tpUp = false then (none, s)
  else
    match s.twinHeadFrame with
    | none => (none, s)
    | some (x, f, t) =>
      if s.onTwin f = false ∨ t.kind ≠ kind then (none, s)
      else
        let s := s.consume x
        if f.badFcs = true ∨ s.isPartner t = false then (none, s) else (some (f, t), s.notePartner f t)

/-! ### Beacons (R473, R474, R478) -/

/-- What a BEACON of the partner does (R474). -/
def beaconActs (s : State) (t : Twin) : State :=
  match s.prun.st with
  | .joining =>
    if s.prun.mismatch then s
    else if t.st = 2 then (s.setGen t.gen).setUnit .standby 0
    else if t.st = 1 ∧ s.pcfg.unit = 0 then
      s.takeover ((if aheadOf 32 t.gen s.mram.pairGen then t.gen else s.mram.pairGen) + 1) 1
    else s
  | .active =>
    let equal := decide (t.gen = s.mram.pairGen)
    if t.st = 2 ∧ (aheadOf 32 t.gen s.mram.pairGen = true ∨ (equal = true ∧ s.pcfg.unit = 1)) then
      let (n, s) := s.drawNat
      let s := { s with prun := { s.prun with
        dualSeen := s.prun.dualSeen || equal, lastDual := if s.prun.twinUp then n % 2 ^ 32 else 0xFFFFFFFF } }
      s.standDown.switchReply true
    else s
  | _ => s

/-- The worker's filter table learns a unit's source address and generation (R478). -/
def pairTable (s : State) (sa : Nat) (t : Twin) : State :=
  let slot := match List.find? (fun (e : Nat × PairEnt) => decide (e.2.mac = t.mac)) s.prun.pairs with
    | some e => some e.1
    | none => Tab.freeKey 16 s.prun.pairs
  match slot with
  | none => s
  | some k =>
    let old := (Tab.find? s.prun.pairs k).getD { mac := t.mac, last := 0 }
    let e : PairEnt := if t.unit = 0 then { old with unit0 := some (sa, t.gen), last := s.clk.tick } else { old with unit1 := some (sa, t.gen), last := s.clk.tick }
    { s with prun := { s.prun with pairs := Tab.insert s.prun.pairs k e } }

/-- A beacon at the head of PQ_TIME is taken: the filter table learns from one that came by a network port, the pair unit acts on one of its
partner (R473, R474, R478). -/
def takeBeacon (s : State) (own : Bool) : State :=
  if s.tpUp = false then s
  else
    match s.twinHeadFrame with
    | none => s
    | some (x, f, t) =>
      let twin := s.onTwin f
      if (twin = true ∧ (own = false ∨ (t.kind ≠ 0 ∧ t.kind ≤ 5))) ∨ (twin = false ∧ own = true ∧ s.isPartner t = false) then s
      else
        let s := s.consume x
        if f.badFcs then s
        else
          let s := if twin = false ∧ s.pcfg.filter = true then s.pairTable (parseHdr false f.bytes).sa t else s
          if s.isPartner t = true ∧ t.kind = 0 then (s.notePartner f t).beaconActs t else s

end State

/-- BEACON_RECEIVED (R473, R474). -/
def beaconReceived (s : State) : State := s.takeBeacon true

/-- PAIR_BEACON_TAKEN (R478). -/
def pairBeaconTaken (s : State) : State := s.takeBeacon false

/-- PAIR_TABLE_FORGET: 1 s after its last beacon a pair is forgotten (R478). -/
def pairTableForget (k : Nat) (s : State) : State :=
  match Tab.find? s.prun.pairs (k % 16) with
  | some e =>
    if e.last + ticksPerSec ≤ s.clk.tick then { s with prun := { s.prun with pairs := Tab.erase s.prun.pairs (k % 16) } } else s
  | none => s

/-- PAIR_BEACON_SEND (R465). -/
def beaconSend (s : State) : State := s.beacon

/-- BEACON_LOSS: no ACTIVE beacon for TAKEOVER_DELAY (R473, R474). -/
def beaconLoss (s : State) : State :=
  if (s.prun.st = .standby ∨ s.prun.st = .failed) ∧ s.beaconLost = true then s.takeover (s.mram.pairGen + 1) 2 else s

/-- JOINING_TIMEOUT: no frame from the partner for TAKEOVER_DELAY (R474). -/
def joiningTimeout (s : State) : State :=
  if s.prun.st = .joining ∧ s.prun.heardAt + s.takeoverTicks ≤ s.clk.tick then
    ({ s with prun := { s.prun with mismatch := false, partnerSt := 7 } }).takeover (s.mram.pairGen + 1) 1
  else s

/-- TWIN_LINK_TIMEOUT: no twin frame for 1 ms (R466). -/
def twinTimeout (s : State) : State := if s.pcfg.en = true ∧ s.prun.twinAt + 1250000 ≤ s.clk.tick then s.twinLost else s

/-- HANDOVER_RECEIVED (R474, R479). -/
def handoverReceived (s : State) : State :=
  match s.takeTwin 5 with
  | (none, s) => s
  | (some _, s) => if s.prun.st = .standby then s.takeover (s.mram.pairGen + 1) 4 else s

/-! ### Time over the twin link (R465-R467) -/

/-- The times of eight time bases, in units of 2^-18 ns, from 24 words. -/
def eightTimes (ws : List Word) : List Int :=
  (List.range 8).map (fun n => ((timeOfWords (wd ws (3 * n)) (wd ws (3 * n + 1)) (wd ws (3 * n + 2)) / fracU : Nat) : Int))

/-- TWIN_TIME_SEND: the transmit times are written in flight; the receive times of the partner's last frame and its number follow (R465). -/
def twinTimeSend (s : State) : State :=
  if s.pcfg.en = false ∨ s.prun.st = .off ∨ s.start.power ≠ .run then s
  else
    let rx := match s.prun.twinRx with
      | some (q, _, t) => (t.flatMap (fun (x : Int) => timeWords (x * (fracU : Int)).toNat)) ++ [w32 q]
      | none => List.replicate 25 0
    s.twinSend 1 (List.replicate 24 0 ++ rx)

/-- D of a Sync of the active: minus theta_n interpolated to its transmit time (R467). -/
def State.syncD (s : State) (n : Nat) (at_ : Int) : Int :=
  let a := s.prun.thetaPrev.getD n (s.prun.theta.getD n 0)
  let b := s.prun.theta.getD n 0
  let ta := s.prun.thetaPrevAt.getD n 0
  let tb := s.prun.thetaAt.getD n 0
  let x := if s.prun.thetaPrev = [] ∨ tb ≤ ta then b else a + roundDiv ((b - a) * (at_ - ta)) (tb - ta).toNat
  Int.neg (State.fracPs x)

/-- The Syncs that waited for an exchange are compared (R467). -/
def State.compareSyncs (s : State) : State :=
  let l := s.prun.syncCmp
  let s := { s with prun := { s.prun with syncCmp := [] } }
  l.foldl (fun s e => if s.comparing then s.compared (1 + e.1) (.sync e.2.1) (s.syncD e.2.1 e.2.2) else s) s

/-- TWIN_TIME_RECEIVED: theta of each time base from the exchange (R292, R466). -/
def twinTimeReceived (s : State) : State :=
  match s.takeTwin 1 with
  | (none, s) => s
  | (some (f, t), s) =>
    let tx := eightTimes t.content
    let rx := (List.range 8).map (fun n => f.rx.frac n)
    let s := { s with prun := { s.prun with twinRx := some (t.seq, tx, rx) } }
    match s.prun.twinTx with
    | none => s
    | some (q, own) =>
      let back := (t.content.drop 24).take 24
      if q ≠ fld (wd t.content 48) 15 0 ∨ back.all (fun w => decide (w = 0)) = true then s
      else
        let theirs := eightTimes back
        let asym := roundDiv (s.pcfg.twinAsym * 262144) 1000
        let th := (List.range 8).map (fun n =>
          roundDiv ((theirs.getD n 0 - own.getD n 0) - (rx.getD n 0 - tx.getD n 0)) 2 + asym)
        ({ s with prun := { s.prun with
            thetaPrev := s.prun.theta, thetaPrevAt := s.prun.thetaAt, theta := th,
            thetaAt := List.zipWith (· + ·) rx th } }).compareSyncs

/-! ### Comparison, self-check and verdict (R467-R472) -/

namespace State

/-- Two digests of one window are compared (R469): a difference in two consecutive windows is counted and raises a dispute. -/
def matchDigest (s : State) (w : Nat) : State :=
  match s.prun.ownDigests.find? (fun e => decide (e.1 = w)), s.prun.partnerDigests.find? (fun e => decide (e.1 = w)) with
  | some a, some b =>
    let s := { s with prun := { s.prun with
      ownDigests := s.prun.ownDigests.filter (fun e => decide (w < e.1)), partnerDigests := s.prun.partnerDigests.filter (fun e => decide (w < e.1)) } }
    if a.2 = b.2 then { s with prun := { s.prun with digestRun := 0 } }
    else
      let n := s.prun.digestRun + 1
      let s := { s with prun := { s.prun with digestRun := n } }
      if 2 ≤ n then ({ s with prun := { s.prun with digestMismatch := inc16 s.prun.digestMismatch } }).raiseDispute .digest 0 else s
  | _, _ => s

end State

/-- DIGEST_WINDOW_END: the digest of the 1 ms window of TB0 that has ended is sent, and on the standby compared (R467, R468). -/
def digestWindowEnd (s : State) : State :=
  let ms := 10 ^ 6 * nsU
  let w := (s.tb 0).val / ms - 1
  let mine := s.prun.digest.filter (fun e => decide (e.1 = w))
  let bytes := (List.range 104).flatMap (fun p =>
    (mine.filter (fun e => decide (e.2.1 = p))).flatMap (fun e => bytesBE 1 p ++ bytesBE 13 e.2.2.1 ++ bytesBE 1 e.2.2.2))
  let s := { s with prun := { s.prun with digest := s.prun.digest.filter (fun e => decide (w < e.1)) } }
  if s.pcfg.en = false ∨ s.pcfg.cmpDigest = false ∨ s.prun.twinUp = false then s
  else if s.prun.st = .active then s.twinSend 2 [2, w32 (w / 2 ^ 32), w32 w, w32 (crc32 bytes), w32 mine.length]
  else if s.prun.st = .standby then
    let s := s.twinSend 2 [2, w32 (w / 2 ^ 32), w32 w, w32 (crc32 bytes), w32 mine.length]
    ({ s with prun := { s.prun with ownDigests := s.prun.ownDigests ++ [(w, crc32 bytes, mine.length)] } }).matchDigest w
  else s

/-- COMPARE_RECEIVED: a comparison of the active reaches the standby (R467). -/
def compareReceived (s : State) : State :=
  match s.takeTwin 2 with
  | (none, s) => s
  | (some (_, t), s) =>
    let c := t.content
    if s.comparing = false then s
    else if wd c 0 = 0 then
      let k := (wd c 1).toNat * 2 ^ 32 + (wd c 2).toNat
      let e := (k, fld (wd c 6) 2 0, ((timeOfWords (wd c 3) (wd c 4) (wd c 5) / fracU : Nat) : Int), bit (wd c 6) 8)
      if s.pcfg.cmpHam = false then s
      else ({ s with prun := { s.prun with hamCmp := (s.prun.hamCmp ++ [e]).drop (s.prun.hamCmp.length - 15) } }).matchHam k
    else if wd c 0 = 1 then
      let tag := wd c 5
      if s.pcfg.cmpSync = false ∨ bit tag 4 = true ∨ bit tag 3 = true then s
      else
        let at_ : Int := ((timeOfWords (wd c 2) (wd c 3) (wd c 4) / fracU : Nat) : Int)
        { s with prun := { s.prun with syncCmp := s.prun.syncCmp ++ [(fld (wd c 1) 31 16, fld tag 2 0, at_)] } }
    else if s.pcfg.cmpDigest then
      let w := (wd c 1).toNat * 2 ^ 32 + (wd c 2).toNat
      ({ s with prun := { s.prun with partnerDigests := s.prun.partnerDigests ++ [(w, (wd c 3).toNat, (wd c 4).toNat)] } }).matchDigest w
    else s

namespace State

/-- The quick self-check (R470). -/
def selfCheck (s : State) (signature : Bool) : Bool :=
  s.clk.xoPresent && s.clk.rootLock && !s.clk.xoLoss && s.clk.tpUp && !s.clk.tpFault
    && (decide (s.refs.st = .lockWide) || decide (s.refs.st = .lockNarrow) || decide (s.refs.st = .holdover)) && signature

/-- The mean of the witness samples in ps, when 16 are held (R471). -/
def witnessMean (s : State) : Option Int := if s.prun.witness.length = 16 then some (roundDiv s.prun.witness.sum 16) else none

/-- The time base the witness judges (R471). -/
def witnessTb (s : State) : Option Nat :=
  if s.pcfg.witness = 1 then (s.session? s.pcfg.witSid).map (fun x => x.cfg.tb) else if s.pcfg.witness = 2 then some 0 else none

/-- This unit's verdict in a dispute (R470, R471). -/
def ownVerdict (s : State) (d : Disputed) (signature : Bool) : Verdict :=
  let tb : Option Nat := match d with | .ham n => some n | .sync n => some n | .digest => none
  { pass := s.selfCheck signature, e := if tb.isSome = true ∧ tb = s.witnessTb then s.witnessMean else none }

/-- The row of the verdict table, counted from 1 (R472). -/
def verdictRow (s : State) (a b : Verdict) : Nat :=
  match a.pass, b.pass, a.e, b.e with
  | true, false, _, _ => 1
  | false, true, _, _ => 2
  | false, false, _, _ => 3
  | true, true, some x, some y =>
    if (s.pcfg.cmpThresh : Int) < 2 * ((x.natAbs : Int) - y.natAbs) then 4
    else if (s.pcfg.cmpThresh : Int) < 2 * ((y.natAbs : Int) - x.natAbs) then 5
    else 6
  | true, true, _, _ => 6

/-- Both verdicts are known: the table decides (R472, R474); a beacon loss of the same tick is the cause that counts (R479). -/
def judge (s : State) : State :=
  match s.prun.own, s.prun.partner with
  | some o, some p =>
    if s.prun.st ≠ .active ∧ s.prun.st ≠ .standby then s
    else
      let act := decide (s.prun.st = .active)
      let row := s.verdictRow (if act then o else p) (if act then p else o)
      let s := s.log .timing 0x0E03 (srcOf 12 0) (w32 row) 0 0
      let s := { s with prun := { s.prun with
        dispute := none, own := none, partner := none
        disagree := s.prun.disagree || decide (row = 3 ∨ row = 6)
        quietUntil := if row = 6 then s.clk.tick + ticksPerSec else s.prun.quietUntil
        faulty := if act then decide (row = 2 ∨ row = 4) else decide (row = 1 ∨ row = 3 ∨ row = 5) } }
      if act then s
      else if row = 2 ∨ row = 4 then s.takeover (s.mram.pairGen + 1) (if s.beaconLost then 2 else 3)
      else if row = 6 then s
      else s.setUnit .failed s.prun.lastCause
  | _, _ => s

/-- A dispute's subject in a VERDICT frame (its layout is the model's, DESIGN CHOICE, notes/assumptions/48.md). -/
def disputeCode (d : Disputed) : Nat := match d with | .ham n => 8 * n | .sync n => 8 * n + 1 | .digest => 2
def disputeOf (n : Nat) : Disputed := if n % 8 = 0 then .ham (n / 8) else if n % 8 = 1 then .sync (n / 8) else .digest

end State

/-- PAIR_SELF_CHECK_DONE: the quick self-check after a dispute ends, and a VERDICT leaves (R470). -/
def selfCheckDone (signature : Bool) (s : State) : State :=
  match s.prun.dispute, s.prun.own with
  | some d, none =>
    let v := s.ownVerdict d signature
    let s := { s with prun := { s.prun with own := some v, selfOk := v.pass, eOwn := v.e.getD s.prun.eOwn } }
    (s.twinSend 3 [pack [(0, v.pass.toNat), (1, v.e.isSome.toNat), (8, State.disputeCode d)], i32 (v.e.getD 0)]).judge
  | _, _ => s

/-- VERDICT_RECEIVED: the partner's verdict; at the active it is also how the dispute becomes known (R470, R472). -/
def verdictReceived (s : State) : State :=
  match s.takeTwin 3 with
  | (none, s) => s
  | (some (_, t), s) =>
    let w := wd t.content 0
    let e := sfld (wd t.content 1) 31 0
    let v : Verdict := { pass := bit w 0, e := if bit w 1 then some e else none }
    let s := if s.prun.dispute.isNone = true ∧ s.prun.st = .active then s.raiseDispute (State.disputeOf (fld w 15 8)) 0 else s
    if s.prun.dispute.isNone then s
    else
      let s := { s with prun := { s.prun with partner := some v, ePartner := v.e.getD s.prun.ePartner } }
      s.judge

/-! ### Mirrored commands (R463) -/

/-- A reply to a mirrored command comes back from the partner. -/
def State.mirrorReply (s : State) (pkt : List Word) : State :=
  let op := fld (wd pkt 0) 15 0
  let tag := fld (wd pkt 1) 31 16
  let r : Rpl := { status := fld (wd pkt 3) 31 16, detail := fld (wd pkt 3) 15 0, words := (pkt.drop 4).take (fld (wd pkt 1) 15 0) }
  let mine := fun (j : Job) => decide (j.ctx.op = op ∧ j.ctx.tag = tag) && j.ctx.mirrored
  match s.axg.jobs.find? (fun j => mine j && (match j.work with | .mirror _ => true | _ => false)) with
  | some { ctx := c, work := .mirror own } =>
    ({ s with axg := { s.axg with jobs := s.axg.jobs.erase { ctx := c, work := .mirror own } } }).mirrorDone c own r
  | _ => if s.axg.jobs.any mine then { s with twinRpl := s.twinRpl ++ [(op, tag, r)] } else s

/-! ### Commands (R480-R482) -/

/-- The words of PAIR.CONFIG (R480). -/
def pairCfgWords (p : PairCfg) (write : Bool) : List Word :=
  [pack [(31, write.toNat), (0, p.en.toNat), (1, p.unit), (2, p.cfgMirror.toNat), (3, p.filter.toNat), (4, p.cmpHam.toNat), (5, p.cmpSync.toNat),
     (6, p.cmpDigest.toNat), (8, p.twinPort), (16, p.witness)],
   w32 (p.mac / 2 ^ 16), pack [(16, p.mac % 2 ^ 16), (0, p.beaconVid)], pack [(0, p.cmpThresh), (16, p.cmpCount)],
   pack [(0, p.takeoverDelay), (16, p.witSid)], w32 p.witRef, i32 p.twinAsym] ++ maskWords p.cmpPorts

/-- PAIR.CONFIG as its parameters state it, clamped (R480). -/
def pairCfgOf (ws : List Word) (witRef : Nat) : PairCfg :=
  let w := wd ws 0
  { en := bit w 0, unit := fld w 1 1, cfgMirror := bit w 2, filter := bit w 3, cmpHam := bit w 4, cmpSync := bit w 5, cmpDigest := bit w 6,
    twinPort := clamp 8 31 (fld w 12 8), witness := min 2 (fld w 17 16), mac := macOf (wd ws 1) (wd ws 2),
    beaconVid := clamp 1 4094 (fld (wd ws 2) 11 0), cmpThresh := clamp 1 65535 (fld (wd ws 3) 15 0), cmpCount := clamp 1 255 (fld (wd ws 3) 23 16),
    takeoverDelay := clamp 5 1000 (fld (wd ws 4) 9 0), witSid := fld (wd ws 4) 25 16, witRef := witRef, twinAsym := sfld (wd ws 6) 31 0,
    cmpPorts := maskArg ws 7 }

namespace State

/-- PAIR_EN written 0: the unit becomes OFF, and its gates follow (R460, R474). -/
def pairLeave (s : State) (new : PairCfg) (was : Bool) : State :=
  if s.prun.st = .off then s
  else
    let s := { s with prun := { s.prun with partnerSt := 7, twinDown := false, mismatch := false, faulty := false } }
    let s := { s with pcfg := { new with en := true } }
    let s := s.setUnit .off 0
    let s := { s with pcfg := new }
    let s := if was then s else s.gateEdges
    s.switchReply false

/-- PAIR_EN written 1 while OFF: the unit joins (R460, R474). -/
def pairEnter (s : State) (new : PairCfg) (was : Bool) : State :=
  let s := { s with prun := { s.prun with twinDown := true } }
  let s := { s with pcfg := { new with en := true } }
  let s := s.setUnit .joining 0
  if was then s.gateEdges else s

/-- The link to the partner starts anew when its settings change (DEDUCED). -/
def pairRelink (s : State) (new : PairCfg) : State :=
  let old := s.pcfg
  if old.en = true ∧ (new.en = false ∨ new.twinPort ≠ old.twinPort ∨ new.mac ≠ old.mac ∨ new.unit ≠ old.unit) then s.twinLost else s

/-- The witness starts anew when its source changes (DEDUCED). -/
def pairWitness (s : State) (new : PairCfg) : State :=
  if new.witness = s.pcfg.witness ∧ new.witSid = s.pcfg.witSid ∧ new.witRef = s.pcfg.witRef then s
  else { s with prun := { s.prun with witness := [] } }

/-- A written PAIR.CONFIG takes effect (R474, R480). -/
def pairApply (s : State) (new : PairCfg) : State :=
  let s := (s.pairRelink new).pairWitness new
  let was := s.pairGateOpen
  let s := { s with pcfg := new }
  if new.en = false then s.pairLeave new was
  else if s.prun.st = .off then s.pairEnter new was
  else if s.prun.st = .failed then s.setUnit .joining 0
  else s

end State

/-- PAIR.CONFIG (R474, R480). -/
def bodyPairConfig : Body := fun c ws s =>
  let w := bit (wd ws 0) 31
  let s := if w then s.pairApply (pairCfgOf ws (refId false (fld (wd ws 5) 11 0))) else s
  s.ok c (pairCfgWords s.pcfg w)

/-- PAIR.SWITCH (R481). -/
def bodyPairSwitch : Body := fun c ws s =>
  let rep := fun (s : State) (done : Bool) => s.ok c [pack [(0, done.toNat)], w32 s.mram.pairGen]
  match s.prun.st with
  | .active =>
    if s.prun.twinUp = true ∧ s.prun.partnerSt = 3 then (s.twinSend 5 []).hold c .pairSwitch else rep s false
  | .standby => if s.prun.twinUp = true ∨ bit (wd ws 0) 0 = true then rep (s.takeover (s.mram.pairGen + 1) 4) true else rep s false
  | _ => rep s false

/-- PAIR.STATUS (R482). -/
def bodyPairStatus : Body := fun c ws s =>
  let r := s.prun
  let rep :=
    [pack [(0, unitCode r.st), (4, r.partnerSt), (8, r.twinUp.toNat), (9, s.comparing.toNat), (10, r.twinDown.toNat), (11, r.disagree.toNat),
       (12, r.diverge.toNat), (13, r.mismatch.toNat), (14, r.dualSeen.toNat), (15, r.selfOk.toNat), (16, r.lastCause)],
     w32 s.mram.pairGen, w32 r.partnerGen, i32 r.dHam, i32 r.dSync, i32 (State.fracPs (r.theta.getD 0 0)), i32 (s.witnessMean.getD r.eOwn), i32 r.ePartner,
     pack [(0, r.disputes), (16, r.takeovers)], pack [(0, r.digestMismatch), (16, min 0xFFFF r.twinDrops)], w32 r.filtered, w32 r.lastDual]
  let s := if bit (wd ws 0) 0 then
    { s with prun := { r with disagree := false, diverge := false, dualSeen := false, disputes := 0, takeovers := 0, digestMismatch := 0,
                              twinDrops := 0, filtered := 0 } } else s
  s.ok c rep

end Sys2Proof.Machine
end

