-- ==== Sys2Proof/Machine/Intake.lean ====
section
/-! DEFINITION. From a carrier to a command's body: the LEN and the body of every opcode, the command ring, the SPI command buffer, PQ_CMD,
mirrored commands and the start script (R51-R84, R91, R463, R630), and what waits for a plane or a segment (R39, R565). -/

namespace Sys2Proof.Machine

open Sys2Proof

/-! ### Opcodes (R91) -/

/-- Opcode, LEN and body of the groups 0x01 to 0x03. -/
def opTableA : List (Nat × LenRule × Body) :=
  [(0x0100, lenIs 0, bodySysNop), (0x0101, lenIs 0, bodySysIdent), (0x0102, lenIs 3, bodyAxgConfig), (0x0110, lenIs 1, bodyShutdown),
   (0x0111, lenIs 1, bodyRestart), (0x0112, lenIs 1, bodyBootSlot), (0x0113, lenIs 0, bodySysStatus),
   (0x0200, lenIs 3, bodyLaneConfig), (0x0201, lenIs 1, bodyLaneStatus), (0x0202, lenIs 1, bodyLaneTrain), (0x0203, lenIs 2, bodyLaneDoze),
   (0x0204, lenIs 2, bodyLaneSketch), (0x0205, lenIs 1, bodySketchRead), (0x0206, lenIs 2, bodyLoopback),
   (0x0220, lenIs 2, bodyPortConfig), (0x0221, lenIs 1, bodyPortStatus), (0x0222, lenIs 2, bodyPortAdmin), (0x0223, lenIs 4, bodyPortRing),
   (0x0224, lenIs 2, bodyNodeRead), (0x0240, lenIs 1, bodyBypassSet), (0x0241, lenIs 2, bodyBypassPolicy), (0x0242, lenIs 0, bodyBypassStatus),
   (0x0300, lenFdbAdd, bodyFdbAdd), (0x0301, lenFdbDel, bodyFdbDel), (0x0302, lenIs 2, bodyFdbRead), (0x0303, lenIs 2, bodyAgeing),
   (0x0304, lenEntries 5, bodyStreamSet), (0x0305, lenIs 2, bodyStreamRead), (0x0306, lenIs 10, bodyVlanSet), (0x0307, lenIs 3, bodyClassMap),
   (0x0308, lenIs 2, bodyCutMode), (0x0309, lenIs 6, bodyPuntRule), (0x0340, lenIs 2, bodyMinSet), (0x0341, lenIs 3, bodyPoolSet),
   (0x0342, lenIs 1, bodyOccupancy)]

/-- Opcode, LEN and body of the groups 0x04 to 0x07, which act on the timing plane (R31). -/
def opTableB : List (Nat × LenRule × Body) :=
  [(0x0400, lenIs 1, bodyTimeGet), (0x0401, lenIs 7, bodyTimeSet), (0x0402, lenIs 3, bodyAdjRate), (0x0403, lenIs 6, bodyTimeStep),
   (0x0404, lenIs 4, bodyTimeSlew), (0x0405, lenIs 1, bodyTimeEpoch), (0x0440, lenIs 9, bodySesCreate), (0x0441, lenIs 1, bodySesDelete),
   (0x0442, lenIs 1, bodySesRead), (0x0443, lenIs 1, bodySesStatus), (0x0444, lenIs 10, bodySesServo), (0x0445, lenIs 12, bodySesKey),
   (0x0446, lenIs 2, bodySesEsmc), (0x0500, lenIs 3, bodyMeasConfig), (0x0501, lenIs 4, bodyMeasStart), (0x0502, lenIs 1, bodyMeasStop),
   (0x0503, lenIs 1, bodyMeasRead), (0x0504, lenIs 2, bodyMeasStats), (0x0600, lenIs 4, bodyRefConfig), (0x0601, lenIs 3, bodyRefRank),
   (0x0602, lenIs 4, bodyRefSelect), (0x0603, lenIs 1, bodyRefStatus), (0x0604, lenIs 6, bodyRefBandwidth), (0x0605, lenIs 5, bodyRefHoldover),
   (0x0700, lenIs 10, bodyHamArm), (0x0701, lenIs 1, bodyHamDisarm), (0x0702, lenIs 2, bodyHamAlign), (0x0703, lenIs 1, bodyHamStatus),
   (0x0704, lenIs 6, bodyHamConv)]

/-- Opcode, LEN and body of the groups 0x08 to 0x10. -/
def opTableC : List (Nat × LenRule × Body) :=
  [(0x0800, lenIs 3, bodyCalConfig), (0x0801, lenIs 1, bodyCalRun), (0x0802, lenIs 1, bodyCalStatus), (0x0803, lenIs 3, bodyCalCalref),
   (0x0804, lenIs 0, bodyCalCommit), (0x0900, lenIs 2, bodyAnnealConfig), (0x0901, lenIs 1, bodyAnnealBlock), (0x0902, lenIs 1, bodyAnnealResult),
   (0x0A00, lenIs 3, bodyBudget), (0x0A01, lenIs 4, bodyHoldup), (0x0A02, lenIs 1, bodyReport), (0x0A03, lenIs 0, bodyCosts),
   (0x0B00, lenIs 2, bodyCrucibleRead), (0x0B01, lenIs 0, bodyCrucibleFlush), (0x0B02, lenIs 1, bodyCrucibleLatchRead),
   (0x0B03, lenIs 1, bodyCrucibleClear), (0x0C00, lenIs 3, bodyCntConfig), (0x0C01, lenIs 1, bodyCntRead), (0x0C02, lenCntWrite, bodyCntWrite),
   (0x0C03, lenIs 2, bodyBandwidth), (0x0C04, lenIs 1, bodyCntUser), (0x0D00, lenIs 10, bodyHierConfig), (0x0D01, lenIs 4, bodyEnroll),
   (0x0D02, lenIs 1, bodyRelease), (0x0D03, lenIs 2, bodyTableRead), (0x0D05, lenBroadcast, bodyBroadcast), (0x0D06, lenClosure, bodyClosure),
   (0x0D07, lenIs 1, bodyClosureRead), (0x0D08, lenHierStatus, bodyHierStatus), (0x0E00, lenIs 11, bodyPairConfig),
   (0x0E01, lenIs 1, bodyPairStatus), (0x0E02, lenIs 1, bodyPairSwitch), (0x0F00, lenLcSet, bodyLcSet), (0x0F01, lenIs 0, bodyLcStatus),
   (0x0F02, lenIs 9, bodyKeyLoad), (0x0F03, lenIs 1, bodySeqReset), (0x0F04, lenIs 0, bodyTamperStatus), (0x0F05, lenIs 0, bodyScanEnable),
   (0x1000, lenIs 3, bodyMemRead State.palByte), (0x1001, lenAtLeast 1, bodyMemWrite), (0x1002, lenAtLeast 2, bodyImageWrite),
   (0x1003, lenIs 3, bodyBgtest)]

/-- The LEN and the body of an opcode; an opcode outside the master table never comes to its body (R56). -/
def opEntry (op : Nat) : LenRule × Body :=
  match (opTableA ++ opTableB ++ opTableC).find? (fun e => decide (e.1 = op)) with
  | some (_, e) => e
  | none => (fun _ => none, fun c _ s => s.err c stUnknown 0)

namespace State

/-- A command packet of any opcode arrives. -/
def arrives (s : State) (op : Nat) (p : Pkt) : State := s.receive (opEntry op).1 (opEntry op).2 op p

/-- A packet is taken and executed by its opcode. -/
def dispatch (s : State) (op : Nat) (p : Pkt) : State := s.taken (opEntry op).1 (opEntry op).2 op p

/-! ### The command ring (R73-R75) -/

/-- The words of a packet, by its own header. -/
def pktWords (ws : List Word) : Nat := 4 + fld (wd ws 1) 15 0 + (if bit (wd ws 0) 18 then 4 else 0)

/-- Fetched slots are done with: the consumer index moves on. -/
def consumeSlots (s : State) (k : Nat) : State :=
  { s with axg := { s.axg with cmdCi := (s.axg.cmdCi + k) % 2 ^ s.axg.cringSize, cmdRing := s.axg.cmdRing.drop (16 * k) } }

/-- Fetched slots are taken in order: a skip word consumes the slots up to the ring's end, a packet that R55 discards its slots or, when its
header gives no length, one slot; a packet without room waits with all behind it. The fuel bounds the slots fetched. -/
def drainRing : Nat → State → State
  | 0, s => s
  | f + 1, s =>
    let ws := s.axg.cmdRing
    if ws = [] ∨ s.takes .pcie = false then s
    else if wd ws 0 = 0 then drainRing f (s.consumeSlots (2 ^ s.axg.cringSize - s.axg.cmdCi))
    else
      let k := ceilDiv (4 * pktWords ws) 64
      match parsePacket .pcie (ws.take (pktWords ws)) with
      | .badHdr => drainRing f (s.countBadHdr.consumeSlots 1)
      | .malformed => drainRing f (s.countMalformed.consumeSlots 1)
      | .reply _ => drainRing f (s.countBadHdr.consumeSlots k)
      | .cmd op p => if s.room op p then drainRing f ((s.consumeSlots k).dispatch op p) else s

/-- Take what the command ring's fetched slots hold. -/
def serveRing (s : State) : State := drainRing (s.axg.cmdRing.length / 16) s

/-- Slots from the consumer index up to a producer index. -/
def slotsTo (s : State) (pi' : Nat) : Nat :=
  let n := 2 ^ s.axg.cringSize
  (pi' % n + n - s.axg.cmdCi % n) % n

/-- The slots from the consumer index up to CMD_PI are fetched, with the words host memory holds in them. -/
def fetchRing (s : State) (pi' : Nat) (words : List Word) : State :=
  let n := 16 * s.slotsTo pi'
  let ws := (words ++ List.replicate (n - words.length) 0).take n
  ({ s with axg := { s.axg with cmdPi := pi' % 2 ^ s.axg.cringSize, cmdRing := ws } }).serveRing

end State

/-- CMD_PI (R75, R78): the doorbell, with the words of the slots from the one after those fetched up to the new index. -/
def cmdPiWrite (pi' : Nat) (words : List Word) (s : State) : State :=
  if s.start.pcieUp = false ∨ s.mpiOn = false ∨ s.start.power ≠ .run then s
  else s.fetchRing pi' (s.axg.cmdRing ++ words)

/-! ### SPI (R79, R80) -/

namespace State

/-- Packets in the SPI command buffer are taken in order. The fuel bounds their number. -/
def drainSpi : Nat → State → State
  | 0, s => s
  | f + 1, s =>
    match s.axg.spiBuf with
    | [] => s
    | ws :: t =>
      if s.mpiUp = false then s
      else
      let next := { s with axg := { s.axg with spiBuf := t } }
      match parsePacket .spi ws with
      | .badHdr => drainSpi f next.countBadHdr
      | .malformed => drainSpi f next.countMalformed
      | .reply _ => drainSpi f next.countBadHdr
      | .cmd op p => if s.takes .spi = true ∧ s.room op p = true then drainSpi f (next.dispatch op p) else s

/-- Take what the SPI command buffer holds. -/
def serveSpi (s : State) : State := drainSpi s.axg.spiBuf.length s

end State

/-- SPI_PUT (R79, R80, R663): the words that were clocked in before CS_N rose. -/
def spiPut (ws : List Word) (s : State) : State :=
  if s.spiAnswers = false then s
  else if s.cmdSpace = false then { s with axg := { s.axg with spiOvf := true } }
  else
    let n := pktCap ws
    ({ s with axg := { s.axg with spiBuf := s.axg.spiBuf ++ [ws.take n] } }).serveSpi
where
  /-- Words past the packet's end are not part of it. -/
  pktCap (ws : List Word) : Nat := max 4 (State.pktWords ws)

/-! ### PQ_CMD and the twin link (R24, R82, R463) -/

namespace State

/-- A change of the active's worker table or closure results, which a STANDBY or FAILED unit that is a manager holds, each entry in ENROLLING
(R2, R463). -/
def takeTold (s : State) (c : List Word) : State :=
  if (s.prun.st ≠ .standby ∧ s.prun.st ≠ .failed) ∨ s.isMi = false then s
  else if wd c 0 = 1 then { s with workers := Tab.insert s.workers ((wd c 1).toNat % 4096) (workerTold c) }
  else if wd c 0 = 2 then { s with workers := Tab.erase s.workers ((wd c 1).toNat % 4096) }
  else if wd c 0 = 3 then s.setRings (Tab.insert s.hier.rings (fld (wd c 1) 3 0) (ringTold c))
  else if wd c 0 = 4 then s.setRings (Tab.erase s.hier.rings (fld (wd c 1) 3 0))
  else s

/-- The oldest frame of PQ_CMD is taken, while firmware runs and has room for its command (R24, R55, R82, R663). A frame with a bad FCS is
taken without effect. -/
def servePqCmd (s : State) : State :=
  if s.start.power ≠ .run ∨ s.start.mpi ≠ .up then s
  else
    match s.puntHead 1 (fun _ => true) with
    | none => s
    | some (x, f) =>
      if f.badFcs then s.consume x
      else
        let h := parseHdr (s.hsrPort f.inPort) f.bytes
        let ws := wordsOfBE (dropFcs (f.bytes.drop h.pay))
        match parsePacket (.inband f.inPort h.sa h.tci) ws with
        | .badHdr => (s.consume x).countBadHdr
        | .malformed => (s.consume x).countMalformed
        | .reply pkt => replyTaken f.inPort h.sa pkt (s.consume x)
        | .cmd op p =>
          if s.room op p then
            let s := ({ s with axg := { s.axg with arrivedReq := some x.authReq } }).consume x
            let s := s.dispatch op p
            { s with axg := { s.axg with arrivedReq := none } }
          else s

end State

/-- CONFIG_RECEIVED (R463): a mirrored command is executed as the partner accepted it, or a mirrored command's reply comes back. -/
def configReceived (s : State) : State :=
  match s.takeTwin 4 with
  | (none, s) => s
  | (some (_, t), s) =>
    if (wd t.content 0).toNat < 16 then s.takeTold t.content
    else
    match parsePacket .twin t.content with
    | .cmd op p =>
      if s.pcfg.cfgMirror = true ∧ s.prun.st = .standby ∧ s.takes .twin = true ∧ unmirrored op = false ∧ Pkt.cls op p.words = .c then
        let c : Ctx := { via := .twin, op := op, tag := p.tag, srcId := p.srcId, respId := s.devId, bootEpoch := s.mram.bootEpoch }
        if opManager op = true ∧ s.isMi = false then s.err c stNotManager 0
        else
        match (opEntry op).1 p.words with
        | some d => s.err c stBadLength d
        | none => s.perform (opEntry op).2 c p.words
      else s
    | .reply ws => s.mirrorReply ws
    | _ => s

/-! ### Commands that waited for a plane or a segment (R39, R565) -/

namespace State

/-- Commands whose work satisfies a test leave the waiting and act, in arrival order. -/
def release (s : State) (f : Job → Option (List Word)) : State :=
  let l := s.axg.jobs.filterMap (fun (j : Job) => (f j).map (fun ws => (j.ctx, ws)))
  let s := { s with axg := { s.axg with jobs := s.axg.jobs.filter (fun (j : Job) => (f j).isNone) } }
  l.foldl (fun (s : State) (e : Ctx × List Word) => s.perform (opEntry e.1.op).2 e.1 e.2) s

/-- The oldest command that waits for the timing plane is applied, while the plane is in service and a slot of MBX_RPL is free (R33, R39). The
fuel bounds their number. -/
def applyMailbox : Nat → State → State
  | 0, s => s
  | n + 1, s =>
    if s.tpUp = false ∨ 64 ≤ s.rplSlots then s
    else
      match s.axg.jobs.find? (fun j => j.work.inMailbox) with
      | some { ctx := c, work := .mailbox ws } =>
        let s := { s with axg := { s.axg with jobs := s.axg.jobs.erase { ctx := c, work := .mailbox ws } } }
        applyMailbox n (s.performNow (opEntry c.op).2 c ws)
      | _ => s

/-- MBX_CMD entries apply whole and in order, at the start of a tick and when the timing plane returns (R33, R39). -/
def serveMailbox (s : State) : State := applyMailbox s.axg.jobs.length s

/-- The oldest command that waits behind others of its carrier and group none of which holds it back any more (R68); the first list holds the
ones before. -/
def freeBehind : List Job → List Job → Option (Ctx × List Word)
  | _, [] => none
  | before, j :: t =>
    match j.work with
    | .behind ws =>
      if before.any (fun b => b.work.holdsBack && sameCarrier b.ctx.via j.ctx.via && decide (b.ctx.op / 256 = j.ctx.op / 256)) then
        freeBehind (before ++ [j]) t
      else some (j.ctx, ws)
    | _ => freeBehind (before ++ [j]) t

/-- The oldest command that waited behind another of its carrier and group acts, once nothing before it holds it back (R68). The fuel bounds the
commands in progress. -/
def serveBehind : Nat → State → State
  | 0, s => s
  | n + 1, s =>
    match freeBehind [] s.axg.jobs with
    | some (c, ws) =>
      let s := { s with axg := { s.axg with jobs := s.axg.jobs.erase { ctx := c, work := .behind ws } } }
      serveBehind n (if timingOp c.op = true ∧ s.mbxOpen = false then s.hold c (.mailbox ws) else s.performNow (opEntry c.op).2 c ws)
    | none => s

/-- Commands that waited for a block's segment are served (R565). -/
def serveBlocked (s : State) (chan : Bool) (i : Nat) : State :=
  s.release (fun j => match j.work with
    | .blocked c k ws => if c = chan ∧ k = i ∧ (blockOf j.ctx.op ws).contains (c, k) = true then some ws else none
    | _ => none)

end State

/-- ANNEAL_SEGMENT_COMPLETE (R554-R556, R564, R565): a segment of a block anneal ends with its error count. -/
def blockSegmentEnd (chan : Bool) (i errors us : Nat) (s : State) : State :=
  match s.blockRun chan i with
  | none => s
  | some b => if b.running then ((s.blockSegment b errors us).serveBlocked chan i).blockNext chan i else s

/-! ### Admission (R488, R489) -/

/-- JOB_ADMITTED: where the head of the waiting queue is to be tested (R489) and may be admitted, its work begins (R488), and the next one is to be
tested; else it holds back those behind it until the next test. A Sketch scan, a deferred pass or a block anneal that can
no longer run leaves the queue at its turn, uncharged (R127, R426, R565). -/
def jobAdmitted (s : State) : State :=
  if s.start.power ≠ .run ∨ s.mpiUp = false ∨ s.led.test = false then s
  else
    match s.led.waiting with
    | [] => s
    | h :: t =>
      let without := { s with led := { s.led with waiting := t } }
      let begin_ := fun (k : State → State) => match s.admitHead with
        | some (_, s) => k s
        | none => { s with led := { s.led with test := false } }
      match h.what with
      | .calStep item origin =>
        if s.passHeld item then
          (if origin = 1 then without
           else if origin = 0 then ({ without with pal := { s.pal with rrWaiting := false, next := item + 1 } }).deferPass item
           else without.deferPass item)
        else begin_ (fun s => s.calAdmitted item origin)
      | .calCommit cmd => begin_ (fun s => s.commitAdmitted cmd)
      | .sketch l => if (s.lane l).step ≠ 7 ∧ h.code = 5 then without.sketchAdmitted l h.code else begin_ (fun s => s.sketchAdmitted l h.code)
      | .train l => begin_ (fun s => s.trainAdmitted l)
      | .annealSeg chan i =>
        (match s.blockStale chan i with
         | some b => without.endBlock b
         | none => begin_ (fun s => s.annealAdmitted chan i))
      | .bgRegion => begin_ State.startRegion
      | .flush => begin_ State.commandFlush
      | .imageWrite id => begin_ (fun s => s.writeAdmitted (.imageWrite id))
      | .bootSlot slot => begin_ (fun s => s.writeAdmitted (.bootSlot slot))

/-! ### The start script (R630) -/

namespace State

/-- The packets of a script execute in order until its end, or until one fails R55. The fuel bounds their number. -/
def runScript : Nat → Nat → List Word → State → State
  | 0, _, _, s => s
  | f + 1, idx, ws, s =>
    if ws = [] then { s with start := { s.start with scriptEnded := true } }
    else
      match parsePacket (.script idx) ws with
      | .cmd op p =>
        let s := { s with start := { s.start with scriptCmds := min 0xFFFF (idx + 1) } }
        runScript f (idx + 1) (ws.drop (pktWords ws)) (s.dispatch op { p with auth := false })
      | _ => { s with start := { s.start with scriptEnded := true, trunc := true } }

/-- Step 8: the script of the running slot is executed from its first command (R625, R630, R633). -/
def startScript (s : State) : State :=
  let m := s.fwSlot s.start.slot
  let ws := wordsOfBE (fwBytes m (fwField m 16) (fwField m 20))
  let s := { s with start := { s.start with
    scriptEnded := false, scriptAt := s.clk.tick, scriptCmds := 0, scriptErrs := 0, firstErr := 0xFFFF, firstErrStat := 0, trunc := false } }
  (runScript (ws.length + 1) 0 ws s).checkStartDone

end State

end Sys2Proof.Machine
end

