-- ==== Sys2Proof/Machine/Startup.lean ====
section
/-! DEFINITION. The timing plane leaving and returning to service, the management restart, the last gasp, the stop sequence, reset and the start
sequence (R36-R50, R443, R495-R502, R556, R622-R645, R660). -/

namespace Sys2Proof.Machine

open Sys2Proof

namespace State

/-! ### The timing plane (R39, R240, R660) -/

/-- What the timing plane held for a future time, or had in progress, when it leaves service: LATE with DETAIL 1 and a record (R660). -/
def endHeld (s : State) (j : Job) : State :=
  let drop := { s with axg := { s.axg with jobs := s.axg.jobs.erase j } }
  let late := fun (s : State) (src : Nat) (ws : List Word) =>
    (s.logLate .mgmt j.ctx src).complete j.ctx { status := stLate, detail := 1, words := ws }
  match j.work with
  | .timeSet n v _ => late drop (srcOf 4 n) (timeSetWords n true v (s.tb n).val)
  | .timeStep n off at_ => late drop (srcOf 4 n) (timeStepWords n true off at_)
  | .measStart _ _ _ => late drop (srcOf 0 0) (startWords 0 s.clk.tick)
  | .slew n off m =>
    let rem := match (s.tb n).slew with | some x => x.rem | none => 0
    late drop (srcOf 4 n) (slewReply n off m rem)
  | _ => s

/-- The timing plane leaves service (R39, R50, R365, R405, R431, R660). -/
def tpLeave (s : State) : State :=
  let s := { s with clk := { s.clk with tpUp := false, tpFault := true } }
  let s := s.axg.jobs.foldl endHeld s
  (((s.hamsOff).chansOff).holdSteering).setTb0 .fault

/-- A servo starts anew, its rate term 0 (R240). -/
def restartServo (v : Servo) : Servo :=
  { v with st := if v.st = .idle then .idle else .acquire, integ := 0, prop := 0, last := none, good := 0, bad := 0, stepOk := false, hist := [] }

end State

/-- TIMING_PLANE_FAULT (R39, R660). -/
def tpFaultStep (s : State) : State :=
  if s.clk.tpUp = false ∨ s.start.power ≠ .run then s else s.tpLeave.log .mgmt 0x0106 0 0 0 0

/-- TIMING_PLANE_RETURN (R39, R240, R365, R456). -/
def tpReturnStep (s : State) : State :=
  if s.clk.tpUp = true ∨ s.start.power ≠ .run ∨ s.clk.dpUp = false then s
  else
    let s := { s with
      clk := { s.clk with tpUp := true }
      tbs := []
      hst := { s.hst with snapPend := none, sbpHold := [] }
      prun := { s.prun with activeAt := s.clk.tick, heardAt := s.clk.tick, twinAt := s.clk.tick }
      refs := { s.refs with histValid := false }
      ptp := { s.ptp with servos := Tab.mapVal (fun _ (v : Servo) => State.restartServo v) s.ptp.servos } }
    (s.setTb0 .freeRun).serveMailbox

/-- XO_LOSS and ROOT_RELOCK act while the part runs (R45). -/
def xoLossRow (s : State) : State := if s.start.power = .run ∧ s.clk.rootLock = true then xoLossStep s else s
def rootRelockRow (ago : Nat) (s : State) : State := if s.start.power = .run ∧ s.clk.rootLock = false then rootRelock ago s else s

namespace State

/-! ### MRAM writes cut off (R497, R596) -/

/-- The MRAM write in progress stops after its current 64-byte block, an unstated number of which have been written; the others are not made
(R497, R596; free value). -/
def tearWrites (s : State) : State :=
  let head := s.mem.writes.head?
  let s := { s with mem := { s.mem with writes := [] } }
  match head with
  | some (.imageWrite id) =>
    (match s.findJob (fun w => decide (w.imageId = some id)) with
     | some { ctx := _, work := .imageWrite slot off _ data left } =>
       let last := off + 4 * data.length - 1
       let p := imageBytesOf off data (last / 4096 - off / 4096 + 1 - left)
       let (n, s) := s.drawNat
       s.setFwBytes slot p.1 (p.2.take (64 * (n % 65) - p.1 % 64))
     | _ => s)
  | some (.bootSlot slot) =>
    let (n, s) := s.drawNat
    if n.testBit 0 then s.setBootGen slot ((fwGen (s.fwSlot (1 - slot)) + 1) % 2 ^ 32) else s
  | _ => s

/-! ### The management restart (R37, R38, R443, R662) -/

/-- Frames of PQ_CMD and PQ_HOST are flushed, and counted as punt drops (R38). -/
def flushPunts (s : State) : State :=
  (s.puntItems 2).foldl (fun (s : State) x => (s.countPuntDrop 2).dropPunt x 0x402)
    ((s.puntItems 1).foldl (fun (s : State) x => (s.countPuntDrop 1).dropPunt x 0x402) s)

/-- What the timing and the data plane keep of the commands in progress over a management restart: the complete entries of MBX_CMD, what the timing
plane has begun or holds for a future time, and the counter operations in IQ_REG; no reply of them leaves any more (R33, R36, R38). -/
def keptJobs (s : State) : List Job :=
  let mbx := s.mbxCmd
  (s.axg.jobs.filter (fun j => j.work.onTiming || j.work.onCounters || mbx.contains j)).map (fun j => { j with ctx := { j.ctx with lost := true, mirrored := false } })

/-- Work of the management plane that its cut ends: commands in progress get no reply, jobs that wait are dropped, results of calibration steps
are discarded, a flush is torn and runs again if it was a fault flush (R38, R527, R549, R595, R662). -/
def cutWork (s : State) : State :=
  let s := s.tearWrites
  let again := match s.cru.flushing with | some i => decide (i.trigger = .fault) | none => false
  let s := s.tearFlush
  let s := { s with
    cru := { s.cru with flushDeferred := s.cru.flushDeferred || again || s.cru.flushWait.contains .fault, flushWait := [] }
    axg := { s.axg with
      jobs := s.keptJobs, partials := [], relays := [], tails := [], spiBuf := [], cmdRing := [], cmdCi := s.axg.wbCi, arrivedReq := none }
    buf := { s.buf with mbxRpl := [], regWait := [] }
    twinRpl := []
    led := { s.led with waiting := [] }
    pal := { s.pal with next := 0, rrWaiting := false, commitQ := [], commitCmd := false
                        steps := s.pal.steps.map (fun (c : CalStep) => { c with lost := true }) }
    mem := { s.mem with bg := (s.mem.bg.filter (fun b => b.step.isSome)).map (fun (b : BgTest) => { b with owner := none }) }
    sec := { s.sec with testing := none, blocks := [] }
    hst := { s.hst with insFetch := s.hst.insCi, insDescs := [], tap := .idcode }
    hier := { s.hier with reportTag := none, unanswered := 0, closure := none, bcasts := [] } }
  (List.range 96).foldl (fun (s : State) l => if (s.lane l).sketching then (s.modLane l (fun (x : Lane) => { x with sketching := false, scanLost := false })).dozeChanged l else s) s

/-- MPI is cut off (R19, R37, R38, R322). -/
def cutMpi (s : State) : State :=
  let s := s.flushPunts.cutWork
  { s with
    hcfg := s.mram.hierCfg.getD {}
    workers := restored false s.mram.workers
    clk := { s.clk with mgtRestarts := inc16 s.clk.mgtRestarts }
    start := { s.start with mpi := .down, pcieUp := false, watchdog := false, stop := none } }

end State

/-- WATCHDOG_FIRE (R37, R634). -/
def watchdogFire (s : State) : State :=
  if s.start.watchdog = false ∨ s.start.power ≠ .run ∨ (s.start.mpi ≠ .up ∧ s.start.mpi ≠ .hung) then s
  else
    let s := (List.range 4).foldl (fun (s : State) b => s.startClose b 2) s
    let s := s.log .mgmt 0x0102 0 (w32 s.clk.mgtRestarts) 0 0
    let s := if s.start.done then s else { s with start := { s.start with bootFails := s.start.bootFails + 1 } }
    s.cutMpi

namespace State

/-! ### Reset, parking and stopping (R502, R557, R624, R636) -/

/-- The part held out of RUN: what survives is MRAM, the vault, the fuse, what leaves the pins, and HELD of the bypass pairs (R624, R636). LAST_CAUSE
returns to 0, power or reset, whatever closed the pairs before (DESIGN CHOICE, notes/assumptions/66.md). -/
def inReset (s : State) (p : Power) : State :=
  { State.reset with
    pending := s.pending
    free := s.free
    out := s.out
    fused := s.fused
    tamper := s.tamper
    mram := s.mram
    sec := { fuse := s.sec.fuse }
    alarms := { tamper := s.tamper.latched && s.tamper.wiped, parked := decide (p = .parked) }
    clk := { xoPresent := s.clk.xoPresent }
    bypass := (List.range 4).foldl (fun t b => Tab.put bypassReset t b { held := (s.pair b).held }) []
    start := { power := p, resetN := s.start.resetN, pfailN := s.start.pfailN, podReleased := s.start.podReleased, perstN := s.start.perstN,
               cause := s.start.cause } }

/-- What a reset or a loss of supply in RUN leaves in MRAM: a torn image, a torn commit, part of a write (R526, R548, R596). -/
def tearAll (s : State) : State := if s.start.power = .run then (s.tearWrites.tearFlush).tearCommit else s

/-! ### The start sequence (R625-R632) -/

/-- Step 2: a tamper latched while the part was unpowered is handled before any key is read (R571, R626). -/
def vaultCheck (s : State) : State :=
  let t := s.tamper
  let causes := (List.range 5).filter (fun c => [t.t0, t.t1, t.vbatLoss, t.vGlitch, t.cGlitch].getD c false)
  match causes with
  | [] => s
  | c :: rest =>
    if t.wiped then s
    else
      let s := s.tamperSteps c
      let s := rest.foldl (fun (s : State) c => s.log .mgmt 0x0F01 0 (pack [(0, c)]) 0 0) s
      { s with start := { s.start with tamperStart := true } }

/-- Step 3: BOOT_EPOCH, RUN_H, the previous image, and the first records (R62, R548, R560, R561, R625). -/
def loadRecords (s : State) : State :=
  let s := (s.charge (jobFixed 11)).charge (jobFixed 11)
  let s := { s with mram := { s.mram with
    bootEpoch := min 0xFFFF (s.mram.bootEpoch + 1), runH := (s.mram.runH + 1) % 2 ^ 32, lgPrev := s.mram.gaspEnded, gaspEnded := false } }
  let prev := prevImage s.mram.images
  let st := imageState s.mram.images prev
  let s := { s with
    cru := { s.cru with prevSlot := prev, slot := if prev = some 0 then 1 else 0 }
    start := { s.start with prevImage := st } }
  let s := s.log .mgmt 0x0103 0 (pack [(0, s.mram.bootEpoch), (16, st)]) 0 0
  let report := fun (s : State) (test : Nat) (r : Option TestRec) =>
    match r with
    | some x => if x.reads = 3 then s.annealRecord 3 test x.completed 0 else s
    | none => s
  report (report s 0 s.mram.passRec) 1 s.mram.startRec

/-- The state a device's hierarchy configuration puts it in (R337). -/
def hierStart (h : HierCfg) : HierSt := if h.top then .top else if h.hasParent then .seeking else .detached

/-- The recovery state (R631). No slot runs: the running slot of SYS.IDENT and SYS.BOOT_SLOT reads 0 (DESIGN CHOICE, notes/assumptions/83.md). -/
def enterRecovery (s : State) : State :=
  { s with
    alarms := { s.alarms with recovery := true }
    start := { s.start with mpi := .recovery, kind := 2, slot := 0, version := 0, watchdog := false } }

/-- Steps 6 to 8: the firmware slot, the release of the planes, the hierarchy record, and the script (R322, R625, R629-R631, R633). -/
def finishStart (s : State) : State :=
  match s.preferred with
  | none => s.enterRecovery
  | some k =>
    let h := if s.mram.hierPersist then s.mram.hierCfg.getD {} else {}
    let s := { s with
      clk := { s.clk with dpUp := true, tpUp := true }
      hcfg := h
      hier := { s.hier with st := hierStart h }
      workers := restored true s.mram.workers
      mram := { s.mram with hierCfg := if s.mram.hierPersist then s.mram.hierCfg else none }
      start := { s.start with mpi := .up, slot := k, version := fwField (s.fwSlot k) 4, watchdog := true } }
    s.restoreRings.startScript

/-- The end of step 5: a full start test that FAILs holds the pairs closed and drives ALARM_N low (R562, R563). -/
def testDone (s : State) : State :=
  let s := { s with mram := { s.mram with nextFull := false } }
  let s := if s.sec.test.reads = 2 then
    (List.range 4).foldl (fun (s : State) b => s.modPair b (fun (x : Bypass) => { x with held := true }))
      { s with alarms := { s.alarms with testFail := true } }
    else s
  s.finishStart

/-- The start sequence from reset release (R625); a full start test whose segments are not all given is in progress afterwards. -/
def startUp (s : State) (cause : Nat) (m : StartMeas) : State :=
  let s := s.inReset .run
  let s := { s with
    alarms := { s.alarms with tamper := s.tamper.latched }
    clk := { s.clk with rootLock := true, xoPresent := true }
    led := { s.led with credit := 1000 * s.led.budget }
    start := { s.start with
      mpi := .starting, resetN := true, pfailN := true, cause := cause, lockUs := m.lockUs, testUs := m.testUs, scriptUs := m.startUs } }
  let s := (s.vaultCheck.loadRecords).palLoad m.temp
  if s.mram.quickOk then
    ({ s with sec := { s.sec with lastQuick := true }, start := { s.start with kind := 0, testUs := 0 } }).finishStart
  else
    let s := ({ s with start := { s.start with kind := 1 } }).beginTest .full
    let s := s.testSegments (m.fails.take 572)
    let s := { s with sec := { s.sec with test := { s.sec.test with duration := m.testUs } } }
    if s.sec.testing.isSome then s else (s.writeTest .full).testDone

/-- The stop sequence's end: the part enters STOPPED (R557). -/
def enterStopped (s : State) : State := s.inReset .stopped

end State

/-- RESET_RELEASE (R623, R625). -/
def resetRelease (m : StartMeas) (s : State) : State :=
  if (s.start.power = .held ∨ s.start.power = .waiting) ∧ s.start.podReleased = true then s.startUp s.start.cause m else s

/-- RESET_RELEASE_WAIT_ALARM (R623): RESET_N is high and another condition has been missing for more than 10 ms. -/
def releaseWaitAlarm (s : State) : State :=
  if s.start.power = .held ∨ s.start.power = .waiting then
    { s with start := { s.start with power := .waiting, resetN := true }, alarms := { s.alarms with waitRelease := true } }
  else s

/-- RESET_N_FALL (R624, R636): a test in progress ends, its record as last written (R574). -/
def resetFall (s : State) : State :=
  let s := { s with start := { s.start with resetN := false } }
  if s.start.power = .unpowered then s
  else
    let s := s.tearAll.inReset .held
    { s with start := { s.start with cause := 1 } }

/-- POWER_ON_RELEASE (R622). -/
def powerOnRelease (s : State) : State :=
  if s.start.power ≠ .unpowered then s
  else
    let s := { s with start := { s.start with podReleased := true } }
    let s := s.inReset (if s.start.resetN then .waiting else .held)
    { s with start := { s.start with cause := 0 } }

/-- MODULE_UNPOWERED (R622): in RUN too, where no last gasp has run, what was being written is torn and the pairs close by zero bias (R156). -/
def moduleUnpowered (s : State) : State :=
  if s.start.power = .unpowered then s
  else
    let s := s.tearAll
    let s := { s with start := { s.start with podReleased := false, perstN := true } }
    s.inReset .unpowered

/-- PARKED_RESUME (R502, R635): the conditions of reset release hold again. -/
def parkedResume (m : StartMeas) (s : State) : State :=
  if s.start.power = .parked ∧ s.start.resetN = true then s.startUp 3 m else s

/-! ### The last gasp (R495-R501) -/

namespace State

/-- The ports the last gasp may keep: the report port, then GASP_PORT, each outside every bypass pair (R497, R499). -/
def keepPorts (s : State) : List Nat :=
  let h := s.hcfg
  let report := if h.parentPort = 0x7F then s.hier.replyPort else h.parentPort
  [report, s.led.gaspPort].filter (fun p => decide (p < 104) && (portLanes p).all (fun l => decide (8 ≤ l)))

/-- The dying-gasp Worker Report (R328, R499). -/
def dyingReport (s : State) (ports : List Nat) : State :=
  match ports with
  | [] => s
  | p :: _ =>
    if s.hcfg.hasParent = false ∨ s.pairGateOpen = false then s
    else
      let h := s.hcfg
      let pkt := [hdrWord0 false false false false 0x0D08, pack [(16, s.hier.nextTag), (0, 8)], w32 h.parentId, w32 h.deviceId] ++ s.reportWords true
      let tci := if h.vlanEn then some (h.pcp * 2 ^ 13 + h.vid) else none
      s.emit (.frame p (withFcs (s.axgFrame p h.parentMac tci pkt).bytes) true)

/-- Step 1 at the egress: a frame in transmission on a keep port completes, any other ends with an invalidated FCS (R497). -/
def gaspEgress (s : State) (keep : List Nat) : State :=
  let s := keep.foldl (fun (s : State) p => frameTxEnd p none s) s
  (s.buf.copies.filter (fun c => decide (c.st = .sending))).foldl (fun (s : State) c => s.cutShort c 0) s

/-- A pair that was not closed closes at once, with its record: 3 in step 2 of the last gasp, 1 by zero bias (R156, R157, R173, R498). -/
def closeNow (s : State) (cause b : Nat) : State :=
  let x := s.pair b
  if x.st = .closed then s
  else
    let s := s.setPair b { x with st := .closed, lastCause := cause, closes := inc16 x.closes }
    s.log .mgmt 0x0201 (srcOf 3 b) (pack [(0, cause)]) 0 0

/-- Steps 3 and 4: the LAST_GASP record is the ring's newest, the ring is flushed with the summary, and a commit begun is completed (R498,
R524, R526, R545). -/
def gaspSave (s : State) (g : Gasp) : State :=
  let s := (s.tearWrites).tearFlush
  let dropped := s.cru.fifo.length
  let r := s.mkRec 0x0104 0 3 (pack [(0, g.pfail.toNat), (1, g.railFault.toNat), (2, g.rail % 8), (8, g.covered.toNat), (16, g.vHu % 2 ^ 16)])
    (w32 g.eUsable) (pack [(0, dropped % 2 ^ 16)])
  let s := { s with
    cru := ({ s.cru with fifo := [] }).store s.clk.tick r
    mram := { s.mram with gasp := some g, gaspEnded := true, lgCount := inc16 s.mram.lgCount } }
  let s := (s.beginFlush .gasp).endFlush
  match s.pal.commit with
  | some x => s.writeCommit x
  | none => s

/-- The summary of a last gasp at its trigger (R498). -/
def gaspNow (s : State) (pfail rail : Bool) (idx : Nat) : Gasp :=
  { pfail := pfail, railFault := rail, rail := idx, covered := s.led.covered, vHu := s.led.vHu, eUsable := s.led.eUsable, epoch := s.mram.bootEpoch }

/-- Keep ports that are UP (R499). -/
def keepUp (s : State) : List Nat := s.keepPorts.filter (fun p => decide ((s.port p).st = .up))

/-- Steps 1 and 2: no command in progress gets a reply, the egress stops, the pairs close (R497, R498). -/
def gaspShed (s : State) (keep : List Nat) : State :=
  let s := { s with axg := { s.axg with jobs := s.axg.jobs.filter (fun (j : Job) => j.work.imageId.isSome) } }
  (List.range 4).foldl (fun (s : State) b => s.closeNow 3 b) (s.gaspEgress keep)

/-- Steps 3 to 5, and the state after them; while MPI is cut off steps 3 and 4 are skipped (R498-R502). -/
def gaspEnd (s : State) (g : Gasp) (keep : List Nat) : State :=
  let s := (if s.start.mpi = .down then s else s.gaspSave g).dyingReport keep
  s.inReset (if s.start.resetN then .parked else .held)

/-- The last gasp, from its trigger to PARKED (R495-R502). -/
def lastGasp (s : State) (pfail rail : Bool) (idx : Nat) : State := (s.gaspShed s.keepUp).gaspEnd (s.gaspNow pfail rail idx) s.keepUp

end State

/-- PFAIL_N_LOW (R495, R496, R635). -/
def pfailLow (s : State) : State :=
  let s := { s with start := { s.start with pfailN := false } }
  if s.start.power = .run then s.lastGasp true false 0 else s

/-- INTERNAL_RAIL_FAULT on a metered rail (R495): VDD_IO out of its range also closes every pair by zero bias (R156, R646). -/
def railFault (rail : Nat) (s : State) : State :=
  if s.start.power ≠ .run then s
  else
    let s := if rail % 8 = 5 then (List.range 4).foldl (fun (s : State) b => s.closeNow 1 b) s else s
    s.lastGasp false true (rail % 8)

/-! ### Stop and restart (R556, R638) -/

namespace State

/-- Steps 3 to 5 of the stop sequence (R556): queues closed, ports DOWN, pairs closed with cause 6, the flush, the timing plane in reset, the
pass. -/
def stopPart (s : State) (noPass : Bool) (fails : List Bool) (us : Nat) : State :=
  let s := (s.tearWrites).dropJobs (fun _ => true)
  let s := { s with axg := { s.axg with jobs := [] }, start := { s.start with stop := none, watchdog := false } }
  let s := (List.range 104).foldl (fun (s : State) p => s.forceDown p) s
  let s := (List.range 4).foldl (fun (s : State) b => bypassClosed b (s.startClose b 6)) s
  let s := s.faultFlush.endFlush.endFlush
  let s := s.tpLeave
  if noPass then s.enterStopped
  else
    let s := s.beginTest .pass
    let s := s.testSegments (fails.take 316)
    let s := { s with sec := { s.sec with test := { s.sec.test with duration := us } } }
    if s.sec.testing.isSome then s else (s.writeTest .pass).enterStopped

end State

/-- SHUTDOWN_REPLY_LEFT (R556), with the verdicts of the pass's segments (true: failed) and its duration in us. -/
def shutdownReplyLeft (fails : List Bool) (us : Nat) (s : State) : State :=
  match s.start.stop with
  | some (.shutdown noPass) => if s.start.power = .run then s.stopPart noPass fails us else s
  | _ => s

/-- RESTART_REPLY_LEFT (R638): a restart of the part waits for reset release when a condition of R623 is missing. -/
def restartReplyLeft (m : StartMeas) (s : State) : State :=
  match s.start.stop with
  | some .restart =>
    if s.start.power ≠ .run then s
    else
      let s := s.tearAll.inReset .waiting
      let s := { s with start := { s.start with cause := 2 } }
      if s.clk.xoPresent = true ∧ s.start.pfailN = true then s.startUp 2 m else s
  | some .mgmtRestart => if s.start.power = .run then s.cutMpi else s
  | _ => s

/-- ANNEAL_SEGMENT_COMPLETE of the anneal pass or of the full start test (R554-R556, R625). -/
def testSegmentEnd (fail : Bool) (us : Nat) (s : State) : State :=
  match s.sec.testing with
  | none => s
  | some k =>
    let s := s.testSegment fail us
    if s.sec.testing.isSome then s
    else
      match k with
      | .pass => s.enterStopped
      | .full => s.testDone

/-- MPI_POWER_UP (R37, R443, R544, R633, R634): firmware runs again, from the other slot or as the recovery state after two firings before
START_DONE. -/
def mpiPowerUp (startUs : Nat) (s : State) : State :=
  if s.start.mpi ≠ .down ∨ s.start.power ≠ .run then s
  else
    let other := 1 - s.start.slot
    let two := decide (2 ≤ s.start.bootFails)
    if two = true ∧ (s.start.fallback = true ∨ fwValid (s.fwSlot other) = false) then
      let r := s.tearAll.inReset .run
      ({ r with
        cru := s.cru
        led := s.led
        alarms := { s.alarms with recovery := true }
        clk := { s.clk with dpUp := false, tpUp := false, tpFault := true }
        start := { s.start with done := false } }).enterRecovery
    else
      let s := if two then
        { s with start := { s.start with slot := other, version := fwField (s.fwSlot other) 4, fallback := true, bootFails := 0 } } else s
      let s := { s with
        start := { s.start with mpi := .up, watchdog := true, scriptUs := startUs }
        buf := { s.buf with mbxEvt := [], pqReg := [] } }
      let s := s.setHostRegs s.hst.copy
      let s := if s.cru.flushDeferred then ({ s with cru := { s.cru with flushDeferred := false } }).faultFlush else s
      if s.start.done then s else s.startScript

/-! ### PCIe (R443, R645) -/

/-- PCIE_LINK_UP (R443, R625, R645): with the words that host memory holds from the consumer index up to CMD_PI. -/
def pcieLinkUp (words : List Word) (s : State) : State :=
  if s.start.power ≠ .run ∨ s.start.perstN = false ∨ s.start.pcieUp = true ∨ (s.start.mpi ≠ .up ∧ s.start.mpi ≠ .recovery) then s
  else (({ s with start := { s.start with pcieUp := true } }).drainReplies).fetchRing s.axg.cmdPi words

/-- The reply of a command that came over PCIe will be discarded (R645). -/
def Ctx.muted (c : Ctx) : Ctx := match c.via with | .pcie => { c with mute := true } | _ => c

/-- Every command in progress, wherever it is kept, with its reply discarded if it came over PCIe (R645). -/
def State.mutePcie (s : State) : State :=
  { s with
    axg := { s.axg with
      jobs := s.axg.jobs.map (fun (j : Job) => { j with ctx := j.ctx.muted })
      relays := s.axg.relays.map (fun (r : Relay) => match r.back with | .carrier c => { r with back := .carrier c.muted } | _ => r) }
    hier := { s.hier with
      closure := s.hier.closure.map (fun (x : Closure) => { x with ctx := x.ctx.muted })
      bcasts := Tab.mapVal (fun _ (b : Bcast) => { b with ctx := b.ctx.muted }) s.hier.bcasts }
    mem := { s.mem with bg := s.mem.bg.map (fun (b : BgTest) => { b with owner := b.owner.map Ctx.muted }) } }

/-- PE_PERST_ASSERT (R645): the registers of R77 and R444 and the MSI-X table return to their reset values. -/
def perstAssert (s : State) : State :=
  let s := (s.mutePcie.setHostRegs {}).copyRegs
  { s with
    start := { s.start with perstN := false, pcieUp := false }
    axg := { s.axg with cmdPi := 0, cmdCi := 0, wbCi := 0, rplPi := 0, rplCi := 0, cmdRing := [], rplWait := [] }
    hst := { s.hst with puntPi := 0, puntCi := 0, insPi := 0, insFetch := 0, insCi := 0, insDescs := [], msixPend := 0 } }

/-- PE_PERST_RELEASE (R645). -/
def perstRelease (s : State) : State := { s with start := { s.start with perstN := true } }

end Sys2Proof.Machine
end

