-- ==== Sys2Proof/Machine/Clock.lean ====
section
/-! DEFINITION. One tick of CK_CORE (R41-R43): what happens in every tick whatever is commanded. -/

namespace Sys2Proof.Machine

open Sys2Proof

namespace State

/-- The timing plane's tick: the steering, the eight time bases, the scheduled actions that fall due, the comparisons and the phase loop at rest,
and the sixteen outputs' H (R41, R242, R246, R371, R372, R385). -/
def timingTick (s : State) : State :=
  if s.tpUp = false then s.tickSteer
  else (List.range 16).foldl tickHam (scheduledDue ((List.range 8).foldl tickTb s.tickSteer)).tickComparison.restPhase

/-- A tick begins for the counters, and the pipeline lanes' slots of it are sorted (R222, R609-R611). -/
def counterTick (s : State) : State :=
  let s := { s with cnt := { s.cnt with
    prog := Tab.keep (fun k c => decide (c ≠ cntReset k)) (Tab.mapVal (fun _ (c : Cnt) => { c with got := 0, was := c.ovf }) s.cnt.prog)
    td := Tab.keep (fun k t => decide (t ≠ tdReset k)) (Tab.mapVal (fun _ (t : Td) => { t with got := 0, was := t.ovf }) s.cnt.td) } }
  s.arriveTick.slotTick

/-- A tick ends for the counters: the states it saw are counted, and a read or a write takes its counter (R606, R609). -/
def counterEnd (s : State) : State :=
  ({ s with cnt := { s.cnt with prog := Tab.mapVal (fun _ c => s.tickCnt c) s.cnt.prog } }).counterJob

/-- The timers of the references' qualification (R357). -/
def qualTick (s : State) : State := s.refIds.foldl (fun s k => refWtrExpiry k (refQualExpiry k s)) s

/-- One output at a tick's end: its edges of this tick leave, an alignment they completed sets H, and the next boundary is committed once it is
64 ticks away (R389, R398, R401). -/
def hamTick (s : State) (k : Nat) : State :=
  hamCommit k (hamAlignComplete k ((List.range (s.ham k).committed.length).foldl (fun s _ => hamEmit k s) s))

/-- The misses of the children and the device's own report, while firmware runs (R323, R326). -/
def hierTick (s : State) : State :=
  if s.start.mpi = .up then workerReportSend ((s.workers.map Prod.fst).foldl (fun s k => childMiss k s) s) else s

/-- The timers whose start the state holds: HU_LOW, the event record's, and those of the pair unit and of the filter table (R466, R473, R474,
R478, R494, R539, R544). -/
def timersTick (s : State) : State :=
  let s := runHourly (latchTimer (ringTake (huLowTimer s)))
  if s.tpUp = false then s
  else (s.prun.pairs.map Prod.fst).foldl (fun s k => pairTableForget k s) (joiningTimeout (beaconLoss (twinTimeout s)))

/-- What a tick's end settles, after all that was taken in it: the timers, the evaluation its measurements did not bring, the outputs' edges, the
hierarchy's reports and misses, the island state it leaves, and the counters (R258, R323, R326, R357, R361, R389, R609). -/
def endTick (s : State) : State :=
  (if s.tpUp then (List.range 16).foldl hamTick s.qualTick.evaluateTick else s).hierTick.timersTick.noteIsland.counterEnd

/-- One tick: TICK rises, the planes move on, and packets that wait in the part are taken while there is room (R75, R82, R241). TICK stands
still in every state but RUN. -/
def clockTick (s : State) : State :=
  if s.start.power = .run then
    let s := s.endTick
    let s := (bandwidthEnd (windowBoundary { s with clk := { s.clk with tick := s.clk.tick + 1 } })).timingTick.serveMailbox.counterTick
    (State.serveBehind s.axg.jobs.length s).serveRing.serveSpi.servePqCmd
  else s

end State

end Sys2Proof.Machine
end

