-- ==== Sys2Proof/Machine/RowsAxger.lean ====
section
/-! DEFINITION. The meaning of each step: segments, relays, carriers and host access. -/

namespace Sys2Proof.Machine

open Sys2Proof

/-- AXG_SEGMENT (R69). -/
def execAxgSegment (op : Nat) (p : Pkt) (s : State) : Host.Outcome State Fault Refusal :=
  .next (if p.more then s.arrives op p else s)

/-- AXG_RELAY (R85). -/
def execAxgRelay (op : Nat) (p : Pkt) (s : State) : Host.Outcome State Fault Refusal :=
  .next (if s.relays p then s.arrives op p else s)

/-- AXG_RELAY_REPLY (R87). -/
def execAxgRelayReply (port sa : Nat) (pkt : List Word) (s : State) : Host.Outcome State Fault Refusal :=
  .next (onIdx 104 port (axgRelayReply port sa pkt) s)

/-- CMD_PI (R75). -/
def execCmdPi (pi : Nat) (words : List Word) (s : State) : Host.Outcome State Fault Refusal :=
  .next (cmdPiWrite pi words s)

/-- RPL_CI (R78). -/
def execRplCi (v : Nat) (s : State) : Host.Outcome State Fault Refusal :=
  .next (rplCiWrite v s)

/-- PUNT_PI (R446). -/
def execPuntPi (v : Nat) (s : State) : Host.Outcome State Fault Refusal :=
  .next (puntPiWrite v s)

/-- INS_PI (R447). -/
def execInsPi (v : Nat) (s : State) : Host.Outcome State Fault Refusal :=
  .next (insPiWrite v s)

/-- CLK_STATUS_W1C (R48). -/
def execClkStatusW1c (v : Word) (s : State) : Host.Outcome State Fault Refusal :=
  .next (hostClkW1c v s)

/-- PLANE_STATUS_W1C (R50). -/
def execPlaneStatusW1c (v : Word) (s : State) : Host.Outcome State Fault Refusal :=
  .next (hostPlaneW1c v s)

/-- REF_STATE_W1C (R369). -/
def execRefStateW1c (v : Word) (s : State) : Host.Outcome State Fault Refusal :=
  .next (hostRefW1c v s)

/-- AXG_ERR_READ (R95). -/
def execAxgErrRead (s : State) : Host.Outcome State Fault Refusal :=
  .next (hostAxgErrRead s)

/-- REGISTER_WRITE (R14). -/
def execRegisterWrite (off : Nat) (v : Word) (s : State) : Host.Outcome State Fault Refusal :=
  .next (registerWrite off v s)

/-- HOST_WINDOW_WRITE (R442). -/
def execHostWindowWrite (off : Nat) (bytes : List Byte) (s : State) : Host.Outcome State Fault Refusal :=
  .next (hostWindowWrite off bytes s)

/-- SPI_PUT (R80). -/
def execSpiPut (words : List Word) (s : State) : Host.Outcome State Fault Refusal :=
  .next (spiPut words s)

/-- SPI_GET (R81). -/
def execSpiGet (done : Bool) (s : State) : Host.Outcome State Fault Refusal :=
  .next (spiGet done s)

/-- SPI_STAT (R79). -/
def execSpiStat (s : State) : Host.Outcome State Fault Refusal :=
  .next (spiStat s)

/-- SBP_TIME_READ (R453). -/
def execSbpTimeRead (word : Nat) (s : State) : Host.Outcome State Fault Refusal :=
  .next (sbpTimeRead word s)

/-- SBP_SNAP_STATUS_READ (R455). -/
def execSbpSnapStatusRead (s : State) : Host.Outcome State Fault Refusal :=
  .next (snapStatusRead s)

/-- CNT_PAGE_READ (R615). -/
def execCntPageRead (k word : Nat) (s : State) : Host.Outcome State Fault Refusal :=
  .next (hostCntPageRead k word s)

/-- SBP_SNAP_EDGE (R454). -/
def execSbpSnapEdge (ago f8 : Nat) (s : State) : Host.Outcome State Fault Refusal :=
  .next (snapEdge ago f8 s)

/-- REG_OPERATION (R28). -/
def execRegOperation (s : State) : Host.Outcome State Fault Refusal :=
  .next (regOperation s)

/-- PUNT_DESCRIPTOR_FILL (R446). -/
def execPuntDescriptorFill (addr : Nat) (s : State) : Host.Outcome State Fault Refusal :=
  .next (puntFill addr s)

/-- INSERT_DESCRIPTOR_FETCH (R447). -/
def execInsertDescriptorFetch (words : List Word) (bytes : List Byte) (s : State) : Host.Outcome State Fault Refusal :=
  .next (insFetch words bytes s)

/-- INSERT_DESCRIPTOR_DONE (R448). -/
def execInsertDescriptorDone (s : State) : Host.Outcome State Fault Refusal :=
  .next (insDone s)

/-- PCIE_LINK_UP (R443). -/
def execPcieLinkUp (words : List Word) (s : State) : Host.Outcome State Fault Refusal :=
  .next (pcieLinkUp words s)

end Sys2Proof.Machine
end

