-- ==== Sys2Proof/Machine/RowsBlock.lean ====
section
/-! DEFINITION. The meaning of each step: calibration, self-test, the energy ledger, the event record and counters. -/

namespace Sys2Proof.Machine

open Sys2Proof

/-- CAL_CONFIG (R528). -/
def execCalConfig (p : Pkt) (s : State) : Host.Outcome State Fault Refusal :=
  .next (s.receive (lenIs 3) bodyCalConfig 0x0800 p)

/-- CAL_RUN (R529). -/
def execCalRun (p : Pkt) (s : State) : Host.Outcome State Fault Refusal :=
  .next (s.receive (lenIs 1) bodyCalRun 0x0801 p)

/-- CAL_STATUS (R530). -/
def execCalStatus (p : Pkt) (s : State) : Host.Outcome State Fault Refusal :=
  .next (s.receive (lenIs 1) bodyCalStatus 0x0802 p)

/-- CAL_CALREF (R531). -/
def execCalCalref (p : Pkt) (s : State) : Host.Outcome State Fault Refusal :=
  .next (s.receive (lenIs 3) bodyCalCalref 0x0803 p)

/-- CAL_COMMIT (R532). -/
def execCalCommit (p : Pkt) (s : State) : Host.Outcome State Fault Refusal :=
  .next (s.receive (lenIs 0) bodyCalCommit 0x0804 p)

/-- ANNEAL_CONFIG (R576). -/
def execAnnealConfig (p : Pkt) (s : State) : Host.Outcome State Fault Refusal :=
  .next (s.receive (lenIs 2) bodyAnnealConfig 0x0900 p)

/-- ANNEAL_BLOCK (R564). -/
def execAnnealBlock (p : Pkt) (s : State) : Host.Outcome State Fault Refusal :=
  .next (s.receive (lenIs 1) bodyAnnealBlock 0x0901 p)

/-- ANNEAL_RESULT (R578). -/
def execAnnealResult (p : Pkt) (s : State) : Host.Outcome State Fault Refusal :=
  .next (s.receive (lenIs 1) bodyAnnealResult 0x0902 p)

/-- BELLOWS_BUDGET (R503). -/
def execBellowsBudget (p : Pkt) (s : State) : Host.Outcome State Fault Refusal :=
  .next (s.receive (lenIs 3) bodyBudget 0x0A00 p)

/-- BELLOWS_HOLDUP (R504). -/
def execBellowsHoldup (p : Pkt) (s : State) : Host.Outcome State Fault Refusal :=
  .next (s.receive (lenIs 4) bodyHoldup 0x0A01 p)

/-- BELLOWS_REPORT (R505). -/
def execBellowsReport (p : Pkt) (s : State) : Host.Outcome State Fault Refusal :=
  .next (s.receive (lenIs 1) bodyReport 0x0A02 p)

/-- BELLOWS_COSTS (R506). -/
def execBellowsCosts (p : Pkt) (s : State) : Host.Outcome State Fault Refusal :=
  .next (s.receive (lenIs 0) bodyCosts 0x0A03 p)

/-- CRUCIBLE_READ (R550). -/
def execCrucibleRead (p : Pkt) (s : State) : Host.Outcome State Fault Refusal :=
  .next (s.receive (lenIs 2) bodyCrucibleRead 0x0B00 p)

/-- CRUCIBLE_FLUSH (R551). -/
def execCrucibleFlush (p : Pkt) (s : State) : Host.Outcome State Fault Refusal :=
  .next (s.receive (lenIs 0) bodyCrucibleFlush 0x0B01 p)

/-- CRUCIBLE_LATCH_READ (R553). -/
def execCrucibleLatchRead (p : Pkt) (s : State) : Host.Outcome State Fault Refusal :=
  .next (s.receive (lenIs 1) bodyCrucibleLatchRead 0x0B02 p)

/-- CRUCIBLE_CLEAR (R552). -/
def execCrucibleClear (p : Pkt) (s : State) : Host.Outcome State Fault Refusal :=
  .next (s.receive (lenIs 1) bodyCrucibleClear 0x0B03 p)

/-- CNT_CONFIG (R617). -/
def execCntConfig (p : Pkt) (s : State) : Host.Outcome State Fault Refusal :=
  .next (s.receive (lenIs 3) bodyCntConfig 0x0C00 p)

/-- CNT_READ (R618). -/
def execCntRead (p : Pkt) (s : State) : Host.Outcome State Fault Refusal :=
  .next (s.receive (lenIs 1) bodyCntRead 0x0C01 p)

/-- CNT_WRITE (R619). -/
def execCntWrite (p : Pkt) (s : State) : Host.Outcome State Fault Refusal :=
  .next (s.receive lenCntWrite bodyCntWrite 0x0C02 p)

/-- CNT_BANDWIDTH (R620). -/
def execCntBandwidth (p : Pkt) (s : State) : Host.Outcome State Fault Refusal :=
  .next (s.receive (lenIs 2) bodyBandwidth 0x0C03 p)

/-- CNT_USER (R621). -/
def execCntUser (p : Pkt) (s : State) : Host.Outcome State Fault Refusal :=
  .next (s.receive (lenIs 1) bodyCntUser 0x0C04 p)

/-- LEDGER_WINDOW_BOUNDARY (R487). -/
def execLedgerWindowBoundary (s : State) : Host.Outcome State Fault Refusal :=
  .next (s.whileRunning windowBoundary)

/-- METER_INTERVAL (R483). -/
def execMeterInterval (rails : List Nat) (s : State) : Host.Outcome State Fault Refusal :=
  .next (s.whileRunning (meterInterval rails))

/-- HOLDUP_MEAN (R493). -/
def execHoldupMean (pinUv : Nat) (s : State) : Host.Outcome State Fault Refusal :=
  .next (s.whileRunning (holdupMean pinUv))

/-- HU_LOW_TIMER (R494). -/
def execHuLowTimer (s : State) : Host.Outcome State Fault Refusal :=
  .next (s.whileRunning huLowTimer)

/-- JOB_ADMITTED (R488). -/
def execJobAdmitted (s : State) : Host.Outcome State Fault Refusal :=
  .next (jobAdmitted s)

/-- CAL_ROUND_ROBIN_STEP (R512). -/
def execCalRoundRobinStep (s : State) : Host.Outcome State Fault Refusal :=
  .next (calRoundRobin s)

/-- CAL_STEP_COMPLETE (R515). -/
def execCalStepComplete (item : Nat) (m : CalMeas) (s : State) : Host.Outcome State Fault Refusal :=
  .next (calStepComplete item m s)

/-- CAL_COMMIT_COMPLETE (R524). -/
def execCalCommitComplete (s : State) : Host.Outcome State Fault Refusal :=
  .next (calCommitComplete s)

/-- CRUCIBLE_RECORD_ARRIVAL (R540). -/
def execCrucibleRecordArrival (pl : Plane) (code source : Nat) (d5 d6 d7 : Word) (s : State) : Host.Outcome State Fault Refusal :=
  .next (recordArrival pl code source d5 d6 d7 s)

/-- CRUCIBLE_RING_TAKE (R542). -/
def execCrucibleRingTake (s : State) : Host.Outcome State Fault Refusal :=
  .next (ringTake s)

/-- CRUCIBLE_LATCH_FLUSH_TIMER (R544). -/
def execCrucibleLatchFlushTimer (s : State) : Host.Outcome State Fault Refusal :=
  .next (latchTimer s)

/-- CRUCIBLE_FLUSH_COMPLETE (R546). -/
def execCrucibleFlushComplete (s : State) : Host.Outcome State Fault Refusal :=
  .next (s.endFlush)

/-- ANNEAL_SEGMENT_COMPLETE (R554). -/
def execAnnealSegmentComplete (block : Option (Bool × Nat)) (errors us : Nat) (s : State) : Host.Outcome State Fault Refusal :=
  match block with
  | some (chan, i) => .next (blockSegmentEnd chan i errors us s)
  | none => .next (testSegmentEnd (decide (0 < errors)) us s)

/-- RUN_H_HOURLY (R561). -/
def execRunHHourly (s : State) : Host.Outcome State Fault Refusal :=
  .next (runHourly s)

/-- BANDWIDTH_WINDOW_END (R614). -/
def execBandwidthWindowEnd (s : State) : Host.Outcome State Fault Refusal :=
  .next (bandwidthEnd s)

/-- VALUE_STALE (R518). -/
def execDieTemperature (temp : Int) (s : State) : Host.Outcome State Fault Refusal :=
  .next (valueStale temp s)

end Sys2Proof.Machine
end

