-- ==== Sys2Proof/Machine/RowsForward.lean ====
section
/-! DEFINITION. The meaning of each step: forwarding and the shared buffer. -/

namespace Sys2Proof.Machine

open Sys2Proof

/-- FWD_FDB_ADD (R207). -/
def execFwdFdbAdd (p : Pkt) (s : State) : Host.Outcome State Fault Refusal :=
  .next (s.receive lenFdbAdd bodyFdbAdd 0x0300 p)

/-- FWD_FDB_DEL (R208). -/
def execFwdFdbDel (p : Pkt) (s : State) : Host.Outcome State Fault Refusal :=
  .next (s.receive lenFdbDel bodyFdbDel 0x0301 p)

/-- FWD_FDB_FLUSH (R208). -/
def execFwdFdbFlush (p : Pkt) (s : State) : Host.Outcome State Fault Refusal :=
  .next (s.receive lenFdbDel bodyFdbDel 0x0301 p)

/-- FWD_FDB_READ (R209). -/
def execFwdFdbRead (p : Pkt) (s : State) : Host.Outcome State Fault Refusal :=
  .next (s.receive (lenIs 2) bodyFdbRead 0x0302 p)

/-- FWD_AGEING (R210). -/
def execFwdAgeing (p : Pkt) (s : State) : Host.Outcome State Fault Refusal :=
  .next (s.receive (lenIs 2) bodyAgeing 0x0303 p)

/-- FWD_STREAM_SET (R211). -/
def execFwdStreamSet (p : Pkt) (s : State) : Host.Outcome State Fault Refusal :=
  .next (s.receive (lenEntries 5) bodyStreamSet 0x0304 p)

/-- FWD_STREAM_READ (R212). -/
def execFwdStreamRead (p : Pkt) (s : State) : Host.Outcome State Fault Refusal :=
  .next (s.receive (lenIs 2) bodyStreamRead 0x0305 p)

/-- FWD_VLAN_SET (R213). -/
def execFwdVlanSet (p : Pkt) (s : State) : Host.Outcome State Fault Refusal :=
  .next (s.receive (lenIs 10) bodyVlanSet 0x0306 p)

/-- FWD_CLASS_MAP (R214). -/
def execFwdClassMap (p : Pkt) (s : State) : Host.Outcome State Fault Refusal :=
  .next (s.receive (lenIs 3) bodyClassMap 0x0307 p)

/-- FWD_CUT_MODE (R215). -/
def execFwdCutMode (p : Pkt) (s : State) : Host.Outcome State Fault Refusal :=
  .next (s.receive (lenIs 2) bodyCutMode 0x0308 p)

/-- FWD_PUNT_RULE (R216). -/
def execFwdPuntRule (p : Pkt) (s : State) : Host.Outcome State Fault Refusal :=
  .next (s.receive (lenIs 6) bodyPuntRule 0x0309 p)

/-- BUF_MIN_SET (R235). -/
def execBufMinSet (p : Pkt) (s : State) : Host.Outcome State Fault Refusal :=
  .next (s.receive (lenIs 2) bodyMinSet 0x0340 p)

/-- BUF_POOL_SET (R236). -/
def execBufPoolSet (p : Pkt) (s : State) : Host.Outcome State Fault Refusal :=
  .next (s.receive (lenIs 3) bodyPoolSet 0x0341 p)

/-- BUF_OCCUPANCY (R237). -/
def execBufOccupancy (p : Pkt) (s : State) : Host.Outcome State Fault Refusal :=
  .next (s.receive (lenIs 1) bodyOccupancy 0x0342 p)

/-- FRAME_TRIGGER_BYTE (R193). -/
def execFrameTriggerByte (p : Nat) (bytes : List Byte) (ended : Option Bool) (r : Raw) (s : State) : Host.Outcome State Fault Refusal :=
  .next (onIdx 104 p (frameTrigger p bytes ended r) s)

/-- SPARK_MATCH (R198). -/
def execSparkMatch (p : Nat) (bytes : List Byte) (r : Raw) (s : State) : Host.Outcome State Fault Refusal :=
  .next (onIdx 104 p (sparkMatch p bytes r) s)

/-- SPARK_KEY_CHECK_FAIL (R201). -/
def execSparkKeyCheckFail (p : Nat) (bytes : List Byte) (s : State) : Host.Outcome State Fault Refusal :=
  .next (onIdx 104 p (sparkKeyFail p bytes) s)

/-- FRAME_LAST_BYTE (R227). -/
def execFrameLastByte (p : Nat) (bytes : List Byte) (ok : Bool) (under : List Nat) (s : State) : Host.Outcome State Fault Refusal :=
  .next (onIdx 104 p (frameLastByte p bytes ok under) s)

/-- FRAME_EGRESS_SELECT (R191). -/
def execFrameEgressSelect (p : Nat) (r : Raw) (s : State) : Host.Outcome State Fault Refusal :=
  .next (onIdx 104 p (egressSelect p r) s)

/-- FRAME_TX_END (R230). -/
def execFrameTxEnd (p : Nat) (diff : Option Int) (s : State) : Host.Outcome State Fault Refusal :=
  .next (onIdx 104 p (frameTxEnd p diff) s)

/-- FDB_AGE_SWEEP (R186). -/
def execFdbAgeSweep (s : State) : Host.Outcome State Fault Refusal :=
  .next (ageSweep s)

/-- INSERT_FRAME (R206). -/
def execInsertFrame (q : Nat) (s : State) : Host.Outcome State Fault Refusal :=
  .next (insertFrame q s)

end Sys2Proof.Machine
end

