-- ==== Sys2Proof/Machine/RowsHier.lean ====
section
/-! DEFINITION. The meaning of each step: the manager-worker hierarchy and redundant pairs. -/

namespace Sys2Proof.Machine

open Sys2Proof

/-- HIER_CONFIG (R344). -/
def execHierConfig (p : Pkt) (s : State) : Host.Outcome State Fault Refusal :=
  .next (s.receive (lenIs 10) bodyHierConfig 0x0D00 p)

/-- HIER_ENROLL (R318). -/
def execHierEnroll (p : Pkt) (s : State) : Host.Outcome State Fault Refusal :=
  .next (s.receive (lenIs 4) bodyEnroll 0x0D01 p)

/-- HIER_RELEASE (R346). -/
def execHierRelease (p : Pkt) (s : State) : Host.Outcome State Fault Refusal :=
  .next (s.receive (lenIs 1) bodyRelease 0x0D02 p)

/-- HIER_TABLE_READ (R347). -/
def execHierTableRead (p : Pkt) (s : State) : Host.Outcome State Fault Refusal :=
  .next (s.receive (lenIs 2) bodyTableRead 0x0D03 p)

/-- HIER_BROADCAST (R88). -/
def execHierBroadcast (p : Pkt) (s : State) : Host.Outcome State Fault Refusal :=
  .next (s.receive lenBroadcast bodyBroadcast 0x0D05 p)

/-- HIER_CLOSURE (R331). -/
def execHierClosure (p : Pkt) (s : State) : Host.Outcome State Fault Refusal :=
  .next (s.receive lenClosure bodyClosure 0x0D06 p)

/-- HIER_CLOSURE_READ (R349). -/
def execHierClosureRead (p : Pkt) (s : State) : Host.Outcome State Fault Refusal :=
  .next (s.receive (lenIs 1) bodyClosureRead 0x0D07 p)

/-- HIER_STATUS (R350). -/
def execHierStatus (p : Pkt) (s : State) : Host.Outcome State Fault Refusal :=
  .next (s.receive lenHierStatus bodyHierStatus 0x0D08 p)

/-- WORKER_REPORT (R325). -/
def execWorkerReport (p : Pkt) (s : State) : Host.Outcome State Fault Refusal :=
  .next (s.receive lenHierStatus bodyHierStatus 0x0D08 p)

/-- PAIR_CONFIG (R480). -/
def execPairConfig (p : Pkt) (s : State) : Host.Outcome State Fault Refusal :=
  .next (s.receive (lenIs 11) bodyPairConfig 0x0E00 p)

/-- PAIR_STATUS (R482). -/
def execPairStatus (p : Pkt) (s : State) : Host.Outcome State Fault Refusal :=
  .next (s.receive (lenIs 1) bodyPairStatus 0x0E01 p)

/-- PAIR_SWITCH (R481). -/
def execPairSwitch (p : Pkt) (s : State) : Host.Outcome State Fault Refusal :=
  .next (s.receive (lenIs 1) bodyPairSwitch 0x0E02 p)

/-- PAIR_BEACON_SEND (R465). -/
def execPairBeaconSend (s : State) : Host.Outcome State Fault Refusal :=
  .next (beaconSend s)

/-- TWIN_TIME_SEND (R465). -/
def execTwinTimeSend (s : State) : Host.Outcome State Fault Refusal :=
  .next (twinTimeSend s)

/-- BEACON_RECEIVED (R474). -/
def execBeaconReceived (s : State) : Host.Outcome State Fault Refusal :=
  .next (beaconReceived s)

/-- TWIN_TIME_RECEIVED (R466). -/
def execTwinTimeReceived (s : State) : Host.Outcome State Fault Refusal :=
  .next (twinTimeReceived s)

/-- COMPARE_RECEIVED (R467). -/
def execCompareReceived (s : State) : Host.Outcome State Fault Refusal :=
  .next (compareReceived s)

/-- DIGEST_WINDOW_END (R468). -/
def execDigestWindowEnd (s : State) : Host.Outcome State Fault Refusal :=
  .next (digestWindowEnd s)

/-- PAIR_SELF_CHECK_DONE (R470). -/
def execPairSelfCheckDone (signature : Bool) (s : State) : Host.Outcome State Fault Refusal :=
  .next (selfCheckDone signature s)

/-- VERDICT_RECEIVED (R472). -/
def execVerdictReceived (s : State) : Host.Outcome State Fault Refusal :=
  .next (verdictReceived s)

/-- CONFIG_RECEIVED (R463). -/
def execConfigReceived (s : State) : Host.Outcome State Fault Refusal :=
  .next (configReceived s)

/-- HANDOVER_RECEIVED (R474). -/
def execHandoverReceived (s : State) : Host.Outcome State Fault Refusal :=
  .next (handoverReceived s)

/-- TWIN_LINK_TIMEOUT (R466). -/
def execTwinLinkTimeout (s : State) : Host.Outcome State Fault Refusal :=
  .next (twinTimeout s)

/-- BEACON_LOSS (R473). -/
def execBeaconLoss (s : State) : Host.Outcome State Fault Refusal :=
  .next (beaconLoss s)

/-- JOINING_TIMEOUT (R474). -/
def execJoiningTimeout (s : State) : Host.Outcome State Fault Refusal :=
  .next (joiningTimeout s)

/-- PAIR_BEACON_TAKEN (R478). -/
def execPairBeaconTaken (s : State) : Host.Outcome State Fault Refusal :=
  .next (pairBeaconTaken s)

/-- PAIR_TABLE_FORGET (R478). -/
def execPairTableForget (k : Nat) (s : State) : Host.Outcome State Fault Refusal :=
  .next (onIdx 16 k (pairTableForget k) s)

/-- WORKER_REPORT_SEND (R323). -/
def execWorkerReportSend (s : State) : Host.Outcome State Fault Refusal :=
  .next (workerReportSend s)

/-- WORKER_REPORT_REPLY (R337). -/
def execWorkerReportReply (port sa : Nat) (pkt : List Word) (s : State) : Host.Outcome State Fault Refusal :=
  .next (onIdx 104 port (workerReportReply port sa pkt) s)

/-- CHILD_MISS (R326). -/
def execChildMiss (slot : Nat) (s : State) : Host.Outcome State Fault Refusal :=
  .next (childMiss slot s)

/-- CLOSURE_PROBE_SEND (R332). -/
def execClosureProbeSend (ccw : Bool) (s : State) : Host.Outcome State Fault Refusal :=
  .next (closureProbeSend ccw s)

/-- CLOSURE_PROBE_RETURN (R332). -/
def execClosureProbeReturn (s : State) : Host.Outcome State Fault Refusal :=
  .next (closureProbeReturn s)

end Sys2Proof.Machine
end

