-- ==== Sys2Proof/Machine/RowsLane.lean ====
section
/-! DEFINITION. The meaning of each step: lanes, doze and Sketch. -/

namespace Sys2Proof.Machine

open Sys2Proof

/-- LANE_CONFIG (R129). -/
def execLaneConfig (p : Pkt) (s : State) : Host.Outcome State Fault Refusal :=
  .next (s.receive (lenIs 3) bodyLaneConfig 0x0200 p)

/-- LANE_STATUS (R130). -/
def execLaneStatus (p : Pkt) (s : State) : Host.Outcome State Fault Refusal :=
  .next (s.receive (lenIs 1) bodyLaneStatus 0x0201 p)

/-- LANE_TRAIN (R131). -/
def execLaneTrain (p : Pkt) (s : State) : Host.Outcome State Fault Refusal :=
  .next (s.receive (lenIs 1) bodyLaneTrain 0x0202 p)

/-- LANE_DOZE (R132). -/
def execLaneDoze (p : Pkt) (s : State) : Host.Outcome State Fault Refusal :=
  .next (s.receive (lenIs 2) bodyLaneDoze 0x0203 p)

/-- LANE_SKETCH (R133). -/
def execLaneSketch (p : Pkt) (s : State) : Host.Outcome State Fault Refusal :=
  .next (s.receive (lenIs 2) bodyLaneSketch 0x0204 p)

/-- LANE_SKETCH_READ (R134). -/
def execLaneSketchRead (p : Pkt) (s : State) : Host.Outcome State Fault Refusal :=
  .next (s.receive (lenIs 1) bodySketchRead 0x0205 p)

/-- LANE_LOOPBACK (R135). -/
def execLaneLoopback (p : Pkt) (s : State) : Host.Outcome State Fault Refusal :=
  .next (s.receive (lenIs 2) bodyLoopback 0x0206 p)

/-- LANE_STEP_EXIT (R100). -/
def execLaneStepExit (l : Nat) (pol : Pol) (order : Nat) (s : State) : Host.Outcome State Fault Refusal :=
  .next (onIdx 96 l (laneStepExit l pol order) s)

/-- LANE_STEP_TIMEOUT (R100). -/
def execLaneStepTimeout (l : Nat) (s : State) : Host.Outcome State Fault Refusal :=
  .next (onIdx 96 l (laneStepTimeout l) s)

/-- LANE_SIGNAL_LOSS (R100). -/
def execLaneSignalLoss (l : Nat) (s : State) : Host.Outcome State Fault Refusal :=
  .next (onIdx 96 l (laneSignalLoss l) s)

/-- CL72_UPDATE_RECEIVED (R108). -/
def execCl72Update (l req marker : Nat) (s : State) : Host.Outcome State Fault Refusal :=
  .next (onIdx 96 l (cl72Update l req marker) s)

/-- CL72_STATUS_RECEIVED (R109). -/
def execCl72Report (l report marker : Nat) (fom : Int) (s : State) : Host.Outcome State Fault Refusal :=
  .next (onIdx 96 l (cl72Status l report marker fom) s)

/-- LANE_LOCK_LOSS (R110). -/
def execLaneLockLoss (l : Nat) (s : State) : Host.Outcome State Fault Refusal :=
  .next (onIdx 96 l (laneLockLoss l) s)

/-- BURST_ATTEMPT_END (R110). -/
def execBurstAttemptEnd (l : Nat) (ok : Bool) (s : State) : Host.Outcome State Fault Refusal :=
  .next (onIdx 96 l (burstEnd l ok) s)

/-- DOZE_IDLE_EXPIRED (R117). -/
def execDozeIdleExpired (l : Nat) (s : State) : Host.Outcome State Fault Refusal :=
  .next (onIdx 96 l (dozeIdleExpired l) s)

/-- DOZE_ENTRY_END (R117). -/
def execDozeEntryEnd (l : Nat) (s : State) : Host.Outcome State Fault Refusal :=
  .next (onIdx 96 l (dozeEntryEnd l) s)

/-- DOZE_WAKE_TRIGGER (R119). -/
def execDozeWakeTrigger (l : Nat) (s : State) : Host.Outcome State Fault Refusal :=
  .next (onIdx 96 l (dozeWake l) s)

/-- DOZE_EXIT_COMPLETE (R120). -/
def execDozeExitComplete (l : Nat) (s : State) : Host.Outcome State Fault Refusal :=
  .next (onIdx 96 l (dozeExitComplete l) s)

/-- DOZE_FLAGS_PERIODIC (R115). -/
def execDozeFlagsPeriodic (l : Nat) (s : State) : Host.Outcome State Fault Refusal :=
  .next (onIdx 96 l (dozeFlagsPeriodic l) s)

/-- DOZE_FLAGS_RECEIVED (R116). -/
def execDozeFlagsReceived (l : Nat) (ok : Bool) (s : State) : Host.Outcome State Fault Refusal :=
  .next (onIdx 96 l (dozeFlagsReceived l ok) s)

/-- DOZE_ENTER_RECEIVED (R117). -/
def execDozeEnterReceived (l : Nat) (s : State) : Host.Outcome State Fault Refusal :=
  .next (onIdx 96 l (dozeEnterReceived l) s)

/-- DOZE_BURST_RECEIVED (R119). -/
def execDozeBurstReceived (l : Nat) (s : State) : Host.Outcome State Fault Refusal :=
  .next (onIdx 96 l (dozeBurstReceived l) s)

/-- DOZE_BURST_MISSED (R121). -/
def execDozeBurstMissed (l : Nat) (regained : Bool) (s : State) : Host.Outcome State Fault Refusal :=
  .next (onIdx 96 l (dozeBurstMissed l regained) s)

/-- SKETCH_SCAN_END (R127). -/
def execSketchEnd (l : Nat) (rows : List EyeErr) (lost : Bool) (s : State) : Host.Outcome State Fault Refusal :=
  .next (onIdx 96 l (sketchScanEnd l rows lost) s)

/-- LPI_TRANSITION (R122). -/
def execLpiTransition (l : Nat) (tx on : Bool) (s : State) : Host.Outcome State Fault Refusal :=
  .next (onIdx 96 l (lpiTransition l tx on) s)

end Sys2Proof.Machine
end

