-- ==== Sys2Proof/Machine/RowsMeas.lean ====
section
/-! DEFINITION. The meaning of each step: event measurement and Hammer outputs. -/

namespace Sys2Proof.Machine

open Sys2Proof

/-- MEAS_CONFIG (R433). -/
def execMeasConfig (p : Pkt) (s : State) : Host.Outcome State Fault Refusal :=
  .next (s.receive (lenIs 3) bodyMeasConfig 0x0500 p)

/-- MEAS_START (R434). -/
def execMeasStart (p : Pkt) (s : State) : Host.Outcome State Fault Refusal :=
  .next (s.receive (lenIs 4) bodyMeasStart 0x0501 p)

/-- MEAS_STOP (R435). -/
def execMeasStop (p : Pkt) (s : State) : Host.Outcome State Fault Refusal :=
  .next (s.receive (lenIs 1) bodyMeasStop 0x0502 p)

/-- MEAS_READ (R436). -/
def execMeasRead (p : Pkt) (s : State) : Host.Outcome State Fault Refusal :=
  .next (s.receive (lenIs 1) bodyMeasRead 0x0503 p)

/-- MEAS_STATS (R437). -/
def execMeasStats (p : Pkt) (s : State) : Host.Outcome State Fault Refusal :=
  .next (s.receive (lenIs 2) bodyMeasStats 0x0504 p)

/-- HAM_ARM (R406). -/
def execHamArm (p : Pkt) (s : State) : Host.Outcome State Fault Refusal :=
  .next (s.receive (lenIs 10) bodyHamArm 0x0700 p)

/-- HAM_DISARM (R407). -/
def execHamDisarm (p : Pkt) (s : State) : Host.Outcome State Fault Refusal :=
  .next (s.receive (lenIs 1) bodyHamDisarm 0x0701 p)

/-- HAM_ALIGN (R408). -/
def execHamAlign (p : Pkt) (s : State) : Host.Outcome State Fault Refusal :=
  .next (s.receive (lenIs 2) bodyHamAlign 0x0702 p)

/-- HAM_STATUS (R409). -/
def execHamStatus (p : Pkt) (s : State) : Host.Outcome State Fault Refusal :=
  .next (s.receive (lenIs 1) bodyHamStatus 0x0703 p)

/-- HAM_CONV (R410). -/
def execHamConv (p : Pkt) (s : State) : Host.Outcome State Fault Refusal :=
  .next (s.receive (lenIs 6) bodyHamConv 0x0704 p)

/-- HAM_EDGE_COMMIT (R389). -/
def execHamEdgeCommit (k : Nat) (s : State) : Host.Outcome State Fault Refusal :=
  .next (onIdx 16 k (hamCommit k) s)

/-- HAM_EDGE_EMIT (R404). -/
def execHamEdgeEmit (k : Nat) (s : State) : Host.Outcome State Fault Refusal :=
  .next (onIdx 16 k (hamEmit k) s)

/-- HAM_ALIGN_COMPLETE (R401). -/
def execHamAlignComplete (k : Nat) (s : State) : Host.Outcome State Fault Refusal :=
  .next (onIdx 16 k (hamAlignComplete k) s)

/-- EVENT_EDGE (R415). -/
def execInputEdge (ch : Nat) (falling : Bool) (ago f8 : Nat) (s : State) : Host.Outcome State Fault Refusal :=
  .next (onIdx 28 ch (eventEdge ch falling ago f8) s)

end Sys2Proof.Machine
end

