-- ==== Sys2Proof/Machine/RowsPort.lean ====
section
/-! DEFINITION. The meaning of each step: ports, rings and bypass pairs. -/

namespace Sys2Proof.Machine

open Sys2Proof

/-- PORT_CONFIG (R166). -/
def execPortConfig (p : Pkt) (s : State) : Host.Outcome State Fault Refusal :=
  .next (s.receive (lenIs 2) bodyPortConfig 0x0220 p)

/-- PORT_STATUS (R167). -/
def execPortStatus (p : Pkt) (s : State) : Host.Outcome State Fault Refusal :=
  .next (s.receive (lenIs 1) bodyPortStatus 0x0221 p)

/-- PORT_ADMIN (R168). -/
def execPortAdmin (p : Pkt) (s : State) : Host.Outcome State Fault Refusal :=
  .next (s.receive (lenIs 2) bodyPortAdmin 0x0222 p)

/-- PORT_RING (R169). -/
def execPortRing (p : Pkt) (s : State) : Host.Outcome State Fault Refusal :=
  .next (s.receive (lenIs 4) bodyPortRing 0x0223 p)

/-- PORT_NODE_READ (R170). -/
def execPortNodeRead (p : Pkt) (s : State) : Host.Outcome State Fault Refusal :=
  .next (s.receive (lenIs 2) bodyNodeRead 0x0224 p)

/-- BYPASS_SET (R161). -/
def execBypassSet (p : Pkt) (s : State) : Host.Outcome State Fault Refusal :=
  .next (s.receive (lenIs 1) bodyBypassSet 0x0240 p)

/-- BYPASS_POLICY (R172). -/
def execBypassPolicy (p : Pkt) (s : State) : Host.Outcome State Fault Refusal :=
  .next (s.receive (lenIs 2) bodyBypassPolicy 0x0241 p)

/-- BYPASS_STATUS (R173). -/
def execBypassStatus (p : Pkt) (s : State) : Host.Outcome State Fault Refusal :=
  .next (s.receive (lenIs 0) bodyBypassStatus 0x0242 p)

/-- LINK_LOSS (R140). -/
def execLinkLost (p cause : Nat) (withDown early : Bool) (s : State) : Host.Outcome State Fault Refusal :=
  .next (onIdx 104 p (linkLoss p cause withDown early) s)

/-- LF_FILTER_EXPIRY (R142). -/
def execLfFilterExpiry (p : Nat) (s : State) : Host.Outcome State Fault Refusal :=
  .next (onIdx 104 p (lfFilterExpiry p) s)

/-- LINK_LOSS_CLEARED (R144). -/
def execLinkLossCleared (p : Nat) (s : State) : Host.Outcome State Fault Refusal :=
  .next (onIdx 104 p (linkLossCleared p) s)

/-- BYPASS_CLOSE_COMPLETE (R157). -/
def execBypassCloseComplete (b : Nat) (s : State) : Host.Outcome State Fault Refusal :=
  .next (onIdx 4 b (bypassClosed b) s)

/-- BYPASS_OPEN_COMPLETE (R160). -/
def execBypassOpenComplete (b : Nat) (s : State) : Host.Outcome State Fault Refusal :=
  .next (onIdx 4 b (bypassOpened b) s)

/-- BYPASS_POLICY_PROBE_START (R159). -/
def execBypassPolicyProbeStart (b : Nat) (s : State) : Host.Outcome State Fault Refusal :=
  .next (onIdx 4 b (probeStart b) s)

/-- OPEN_PROBE_EXPIRY (R159). -/
def execOpenProbeExpiry (b : Nat) (s : State) : Host.Outcome State Fault Refusal :=
  .next (onIdx 4 b (openProbeExpiry b) s)

/-- RETRY_GAP_EXPIRY (R159). -/
def execRetryGapExpiry (b : Nat) (s : State) : Host.Outcome State Fault Refusal :=
  .next (onIdx 4 b (retryGapExpiry b) s)

/-- SUPERVISION_SEND (R154). -/
def execSupervisionSend (k : Nat) (s : State) : Host.Outcome State Fault Refusal :=
  .next (onIdx 8 k (supervisionSend k) s)

/-- ENTRY_FORGET (R151). -/
def execEntryForget (slot : Nat) (s : State) : Host.Outcome State Fault Refusal :=
  .next (entryForget slot s)

/-- NODE_FORGET (R151). -/
def execNodeForget (slot : Nat) (s : State) : Host.Outcome State Fault Refusal :=
  .next (nodeForget slot s)

end Sys2Proof.Machine
end

