-- ==== Sys2Proof/Machine/RowsRef.lean ====
section
/-! DEFINITION. The meaning of each step: reference selection and holdover. -/

namespace Sys2Proof.Machine

open Sys2Proof

/-- REF_CONFIG (R378). -/
def execRefConfig (p : Pkt) (s : State) : Host.Outcome State Fault Refusal :=
  .next (s.receive (lenIs 4) bodyRefConfig 0x0600 p)

/-- REF_RANK (R379). -/
def execRefRank (p : Pkt) (s : State) : Host.Outcome State Fault Refusal :=
  .next (s.receive (lenIs 3) bodyRefRank 0x0601 p)

/-- REF_SELECT (R380). -/
def execRefSelect (p : Pkt) (s : State) : Host.Outcome State Fault Refusal :=
  .next (s.receive (lenIs 4) bodyRefSelect 0x0602 p)

/-- REF_STATUS (R381). -/
def execRefStatus (p : Pkt) (s : State) : Host.Outcome State Fault Refusal :=
  .next (s.receive (lenIs 1) bodyRefStatus 0x0603 p)

/-- REF_BANDWIDTH (R382). -/
def execRefBandwidth (p : Pkt) (s : State) : Host.Outcome State Fault Refusal :=
  .next (s.receive (lenIs 6) bodyRefBandwidth 0x0604 p)

/-- REF_HOLDOVER (R383). -/
def execRefHoldover (p : Pkt) (s : State) : Host.Outcome State Fault Refusal :=
  .next (s.receive (lenIs 5) bodyRefHoldover 0x0605 p)

/-- REF_SELECTION_EVAL (R361). -/
def execRefEvaluation (off : Int) (meas : List RefMeas) (s : State) : Host.Outcome State Fault Refusal :=
  .next (selectionEval off meas s)

/-- REF_CHECK_FAIL (R357). -/
def execRefCheckFail (k : Nat) (why : RefWhy) (s : State) : Host.Outcome State Fault Refusal :=
  .next (refCheckFail k why s)

/-- REF_CHECKS_PASS (R357). -/
def execRefChecksPass (k : Nat) (s : State) : Host.Outcome State Fault Refusal :=
  .next (refChecksPass k State.refCanPass s)

/-- REF_QUAL_TIME_EXPIRY (R357). -/
def execRefQualTimeExpiry (k : Nat) (s : State) : Host.Outcome State Fault Refusal :=
  .next (refQualExpiry k s)

/-- REF_WTR_EXPIRY (R357). -/
def execRefWtrExpiry (k : Nat) (s : State) : Host.Outcome State Fault Refusal :=
  .next (refWtrExpiry k s)

/-- SWITCH_MEASUREMENT_COMPLETE (R367). -/
def execSwitchMeasurementComplete (f : Int) (s : State) : Host.Outcome State Fault Refusal :=
  .next (switchComplete f s)

/-- LOOP_LOCK_DETECTED (R366). -/
def execLoopLocked (off : Int) (errs : List Int) (s : State) : Host.Outcome State Fault Refusal :=
  .next (lockDetected off errs s)

/-- LOOP_LOCK_LOST (R366). -/
def execLoopUnlocked (errs : List Int) (s : State) : Host.Outcome State Fault Refusal :=
  .next (lockLost errs s)

/-- BANDWIDTH_NARROW_STEP (R370). -/
def execBandwidthNarrowed (off : Int) (worst : Nat) (s : State) : Host.Outcome State Fault Refusal :=
  .next (narrowStep off worst s)

/-- HIST_VALID_SET (R374). -/
def execHistValidSet (f t : Int) (s : State) : Host.Outcome State Fault Refusal :=
  .next (histValidSet f t s)

/-- HOLDOVER_PREDICTION_UPDATE (R375). -/
def execHoldoverPredictionUpdate (die : Int) (ext : Option Int) (s : State) : Host.Outcome State Fault Refusal :=
  .next (predictionUpdate die ext s)

/-- HOLDOVER_FIT_SAMPLE (R375). -/
def execHoldoverFitSample (f t : Int) (s : State) : Host.Outcome State Fault Refusal :=
  .next (fitSample f t s)

end Sys2Proof.Machine
end

