-- ==== Sys2Proof/Machine/RowsSecurity.lean ====
section
/-! DEFINITION. The meaning of each step: life cycle, tamper and memories. -/

namespace Sys2Proof.Machine

open Sys2Proof

/-- SEC_LC_SET (R579). -/
def execSecLcSet (p : Pkt) (s : State) : Host.Outcome State Fault Refusal :=
  .next (s.receive lenLcSet bodyLcSet 0x0F00 p)

/-- SEC_LC_STATUS (R580). -/
def execSecLcStatus (p : Pkt) (s : State) : Host.Outcome State Fault Refusal :=
  .next (s.receive (lenIs 0) bodyLcStatus 0x0F01 p)

/-- SEC_KEY_LOAD (R570). -/
def execSecKeyLoad (p : Pkt) (s : State) : Host.Outcome State Fault Refusal :=
  .next (s.receive (lenIs 9) bodyKeyLoad 0x0F02 p)

/-- SEC_SEQ_RESET (R582). -/
def execSecSeqReset (p : Pkt) (s : State) : Host.Outcome State Fault Refusal :=
  .next (s.receive (lenIs 1) bodySeqReset 0x0F03 p)

/-- SEC_TAMPER_STATUS (R583). -/
def execSecTamperStatus (p : Pkt) (s : State) : Host.Outcome State Fault Refusal :=
  .next (s.receive (lenIs 0) bodyTamperStatus 0x0F04 p)

/-- SEC_SCAN_ENABLE (R573). -/
def execSecScanEnable (p : Pkt) (s : State) : Host.Outcome State Fault Refusal :=
  .next (s.receive (lenIs 0) bodyScanEnable 0x0F05 p)

/-- MEM_READ (R599). -/
def execMemRead (p : Pkt) (s : State) : Host.Outcome State Fault Refusal :=
  .next (s.receive (lenIs 3) (bodyMemRead State.palByte) 0x1000 p)

/-- MEM_WRITE (R600). -/
def execMemWrite (p : Pkt) (s : State) : Host.Outcome State Fault Refusal :=
  .next (s.receive (lenAtLeast 1) bodyMemWrite 0x1001 p)

/-- MEM_IMAGE_WRITE (R601). -/
def execMemImageWrite (p : Pkt) (s : State) : Host.Outcome State Fault Refusal :=
  .next (s.receive (lenAtLeast 2) bodyImageWrite 0x1002 p)

/-- MEM_BGTEST (R602). -/
def execMemBgtest (p : Pkt) (s : State) : Host.Outcome State Fault Refusal :=
  .next (s.receive (lenIs 3) bodyBgtest 0x1003 p)

/-- MEM_BGTEST_STOP (R602). -/
def execMemBgtestStop (p : Pkt) (s : State) : Host.Outcome State Fault Refusal :=
  .next (s.receive (lenIs 3) bodyBgtest 0x1003 p)

/-- BORROW_STEP_COMPLETE (R592). -/
def execBorrowStepComplete (failWords : Nat) (s : State) : Host.Outcome State Fault Refusal :=
  .next (borrowStep failWords s)

/-- MRAM_WRITE_COMPLETE (R601). -/
def execMramWriteComplete (s : State) : Host.Outcome State Fault Refusal :=
  .next (mramWriteComplete s)

/-- TAMPER_INPUT_HIGH (R571). -/
def execTamperInputHigh (input : Nat) (s : State) : Host.Outcome State Fault Refusal :=
  .next (onIdx 2 input (tamperInputHigh input) s)

end Sys2Proof.Machine
end

