-- ==== Sys2Proof/Machine/RowsSys.lean ====
section
/-! DEFINITION. The meaning of each step: the whole device and its power: groups 0x01 and the steps of start, reset and stop. -/

namespace Sys2Proof.Machine

open Sys2Proof

/-- SYS_NOP (R92). -/
def execSysNop (p : Pkt) (s : State) : Host.Outcome State Fault Refusal :=
  .next (s.receive (lenIs 0) bodySysNop 0x0100 p)

/-- SYS_IDENT (R93). -/
def execSysIdent (p : Pkt) (s : State) : Host.Outcome State Fault Refusal :=
  .next (s.receive (lenIs 0) bodySysIdent 0x0101 p)

/-- SYS_AXG_CONFIG (R94). -/
def execSysAxgConfig (p : Pkt) (s : State) : Host.Outcome State Fault Refusal :=
  .next (s.receive (lenIs 3) bodyAxgConfig 0x0102 p)

/-- SYS_SHUTDOWN (R556). -/
def execSysShutdown (p : Pkt) (s : State) : Host.Outcome State Fault Refusal :=
  .next (s.receive (lenIs 1) bodyShutdown 0x0110 p)

/-- SHUTDOWN_REPLY_LEFT (R556). -/
def execShutdownReplyLeft (fails : List Bool) (us : Nat) (s : State) : Host.Outcome State Fault Refusal :=
  .next (shutdownReplyLeft fails us s)

/-- SYS_RESTART (R638). -/
def execSysRestart (p : Pkt) (s : State) : Host.Outcome State Fault Refusal :=
  .next (s.receive (lenIs 1) bodyRestart 0x0111 p)

/-- RESTART_REPLY_LEFT (R638). -/
def execRestartReplyLeft (m : StartMeas) (s : State) : Host.Outcome State Fault Refusal :=
  .next (restartReplyLeft m s)

/-- SYS_BOOT_SLOT (R639). -/
def execSysBootSlot (p : Pkt) (s : State) : Host.Outcome State Fault Refusal :=
  .next (s.receive (lenIs 1) bodyBootSlot 0x0112 p)

/-- SYS_STATUS (R640). -/
def execSysStatus (p : Pkt) (s : State) : Host.Outcome State Fault Refusal :=
  .next (s.receive (lenIs 0) bodySysStatus 0x0113 p)

/-- POWER_ON_RELEASE (R622). -/
def execPowerOnRelease (s : State) : Host.Outcome State Fault Refusal :=
  .next (powerOnRelease s)

/-- RESET_N_FALL (R624). -/
def execResetNFall (s : State) : Host.Outcome State Fault Refusal :=
  .next (resetFall s)

/-- RESET_RELEASE (R625). -/
def execResetRelease (m : StartMeas) (s : State) : Host.Outcome State Fault Refusal :=
  .next (resetRelease m s)

/-- RESET_RELEASE_WAIT_ALARM (R623). -/
def execResetReleaseWaitAlarm (s : State) : Host.Outcome State Fault Refusal :=
  .next (releaseWaitAlarm s)

/-- PFAIL_N_LOW (R496). -/
def execPfailNLow (s : State) : Host.Outcome State Fault Refusal :=
  .next (pfailLow s)

/-- INTERNAL_RAIL_FAULT (R495). -/
def execInternalRailFault (rail : Nat) (s : State) : Host.Outcome State Fault Refusal :=
  .next (onIdx 8 rail (railFault rail) s)

/-- PARKED_RESUME (R502). -/
def execParkedResume (m : StartMeas) (s : State) : Host.Outcome State Fault Refusal :=
  .next (parkedResume m s)

/-- XO_LOSS (R45). -/
def execXoLoss (s : State) : Host.Outcome State Fault Refusal :=
  .next (xoLossRow s)

/-- ROOT_RELOCK (R45). -/
def execRootRelocked (ago : Nat) (s : State) : Host.Outcome State Fault Refusal :=
  .next (rootRelockRow ago s)

/-- TIMING_PLANE_FAULT (R660). -/
def execTimingPlaneFault (s : State) : Host.Outcome State Fault Refusal :=
  .next (tpFaultStep s)

/-- TIMING_PLANE_RETURN (R240). -/
def execTimingPlaneReturn (s : State) : Host.Outcome State Fault Refusal :=
  .next (tpReturnStep s)

/-- WATCHDOG_FIRE (R37). -/
def execWatchdogFire (s : State) : Host.Outcome State Fault Refusal :=
  .next (watchdogFire s)

/-- TAMPER_DETECTED (R571). -/
def execTamperDetected (cause : Nat) (s : State) : Host.Outcome State Fault Refusal :=
  .next (onIdx 5 cause (tamperDetected cause) s)

/-- PE_PERST_ASSERT (R645). -/
def execPePerstAssert (s : State) : Host.Outcome State Fault Refusal :=
  .next (perstAssert s)

/-- PE_PERST_RELEASE (R645). -/
def execPePerstRelease (s : State) : Host.Outcome State Fault Refusal :=
  .next (perstRelease s)

/-- JTAG_INSTRUCTION (R457). -/
def execJtagLoad (j : Jtag) (pads : List BPin) (s : State) : Host.Outcome State Fault Refusal :=
  .next (jtagInstruction j pads s)

/-- JTAG_TAP_RESET (R457). -/
def execJtagTapReset (s : State) : Host.Outcome State Fault Refusal :=
  .next (tapReset s)

/-- MODULE_UNPOWERED (R622). -/
def execModuleUnpowered (s : State) : Host.Outcome State Fault Refusal :=
  .next (moduleUnpowered s)

/-- VBAT_FALL (R571). -/
def execVbatFall (lost : Bool) (s : State) : Host.Outcome State Fault Refusal :=
  .next (vbatFall lost s)

/-- MPI_POWER_UP (R443). -/
def execMpiPowerUp (startUs : Nat) (s : State) : Host.Outcome State Fault Refusal :=
  .next (mpiPowerUp startUs s)

end Sys2Proof.Machine
end

