-- ==== Sys2Proof/Machine/RowsTime.lean ====
section
/-! DEFINITION. The meaning of each step: time bases and timing sessions. -/

namespace Sys2Proof.Machine

open Sys2Proof

/-- TIME_GET (R273). -/
def execTimeGet (p : Pkt) (s : State) : Host.Outcome State Fault Refusal :=
  .next (s.receive (lenIs 1) bodyTimeGet 0x0400 p)

/-- TIME_SET (R274). -/
def execTimeSet (p : Pkt) (s : State) : Host.Outcome State Fault Refusal :=
  .next (s.receive (lenIs 7) bodyTimeSet 0x0401 p)

/-- TIME_ADJ_RATE (R275). -/
def execTimeAdjRate (p : Pkt) (s : State) : Host.Outcome State Fault Refusal :=
  .next (s.receive (lenIs 3) bodyAdjRate 0x0402 p)

/-- TIME_STEP (R276). -/
def execTimeStep (p : Pkt) (s : State) : Host.Outcome State Fault Refusal :=
  .next (s.receive (lenIs 6) bodyTimeStep 0x0403 p)

/-- TIME_SLEW (R277). -/
def execTimeSlew (p : Pkt) (s : State) : Host.Outcome State Fault Refusal :=
  .next (s.receive (lenIs 4) bodyTimeSlew 0x0404 p)

/-- TIME_EPOCH (R278). -/
def execTimeEpoch (p : Pkt) (s : State) : Host.Outcome State Fault Refusal :=
  .next (s.receive (lenIs 1) bodyTimeEpoch 0x0405 p)

/-- SESSION_CREATE (R308). -/
def execSessionCreate (p : Pkt) (s : State) : Host.Outcome State Fault Refusal :=
  .next (s.receive (lenIs 9) bodySesCreate 0x0440 p)

/-- SESSION_DELETE (R309). -/
def execSessionDelete (p : Pkt) (s : State) : Host.Outcome State Fault Refusal :=
  .next (s.receive (lenIs 1) bodySesDelete 0x0441 p)

/-- SESSION_READ (R310). -/
def execSessionRead (p : Pkt) (s : State) : Host.Outcome State Fault Refusal :=
  .next (s.receive (lenIs 1) bodySesRead 0x0442 p)

/-- SESSION_STATUS (R311). -/
def execSessionStatus (p : Pkt) (s : State) : Host.Outcome State Fault Refusal :=
  .next (s.receive (lenIs 1) bodySesStatus 0x0443 p)

/-- SESSION_SERVO (R312). -/
def execSessionServo (p : Pkt) (s : State) : Host.Outcome State Fault Refusal :=
  .next (s.receive (lenIs 10) bodySesServo 0x0444 p)

/-- SESSION_KEY (R313). -/
def execSessionKey (p : Pkt) (s : State) : Host.Outcome State Fault Refusal :=
  .next (s.receive (lenIs 12) bodySesKey 0x0445 p)

/-- SESSION_ESMC (R314). -/
def execSessionEsmc (p : Pkt) (s : State) : Host.Outcome State Fault Refusal :=
  .next (s.receive (lenIs 2) bodySesEsmc 0x0446 p)

/-- SCHEDULED_ACTION_DUE (R246). -/
def execScheduledActionDue (s : State) : Host.Outcome State Fault Refusal :=
  .next (scheduledDue s)

/-- SLEW_COMPLETE (R247). -/
def execSlewComplete (n : Nat) (s : State) : Host.Outcome State Fault Refusal :=
  .next (onIdx 8 n (slewComplete n) s)

/-- PTP_MESSAGE_TAKEN (R286). -/
def execPtpMessageTaken (s : State) : Host.Outcome State Fault Refusal :=
  .next (ptpTaken s)

/-- PTP_PERIODIC_SEND (R287). -/
def execPtpPeriodicSend (sid kind : Nat) (s : State) : Host.Outcome State Fault Refusal :=
  .next (ptpSend sid kind s)

/-- ANNOUNCE_RECEIPT_TIMEOUT (R291). -/
def execAnnounceReceiptTimeout (sid : Nat) (s : State) : Host.Outcome State Fault Refusal :=
  .next (announceTimeout sid s)

/-- SYNC_LOSS (R291). -/
def execSyncLoss (sid : Nat) (s : State) : Host.Outcome State Fault Refusal :=
  .next (syncLoss sid s)

/-- BMCA_M3_WAIT_EXPIRY (R290). -/
def execBmcaM3WaitExpiry (sid : Nat) (s : State) : Host.Outcome State Fault Refusal :=
  .next (m3Expiry sid s)

/-- ESMC_PDU_SEND (R300). -/
def execEsmcPduSend (p : Nat) (s : State) : Host.Outcome State Fault Refusal :=
  .next (onIdx 104 p (esmcSend p) s)

/-- ESMC_PDU_RECEIVED (R300). -/
def execEsmcPduReceived (s : State) : Host.Outcome State Fault Refusal :=
  .next (esmcReceived s)

/-- ESMC_RX_TIMEOUT (R302). -/
def execEsmcRxTimeout (p : Nat) (s : State) : Host.Outcome State Fault Refusal :=
  .next (onIdx 104 p (esmcTimeout p) s)

end Sys2Proof.Machine
end

