-- ==== Sys2Proof/Machine/ShortForms.lean ====
section
/-! DEFINITION. Short forms: twelve rows, and their meanings, with the operands they had at this package's first freeze, by which the host's
record of exec's arms names them (Host/Slice0/DispatchArms.lean). Each is its row with the operands it has gained at a plain value; they add
nothing to the machine. -/

namespace Sys2Proof

/-- Edges are present again in this tick. -/
abbrev Instr.rootRelock : Instr := .rootRelocked 0

/-- No cell of the boundary register is held high by the board. -/
abbrev Instr.jtagInstruction (j : Jtag) : Instr := .jtagLoad j []

/-- Without a frame marker seen. -/
abbrev Instr.cl72UpdateReceived (l req : Nat) : Instr := .cl72Update l req 0

/-- Without a frame marker seen, the figure of merit 1 or 0. -/
abbrev Instr.cl72StatusReceived (l report : Nat) (own : Bool) : Instr := .cl72Report l report 0 own.toNat

/-- The rows of the coarse pass with those of the fine pass behind them. -/
abbrev Instr.sketchScanEnd (l : Nat) (rows fine : List EyeErr) (lost : Bool) : Instr := .sketchEnd l (rows ++ fine) lost

/-- A frame being received has passed its trigger byte. -/
abbrev Instr.linkLoss (p cause : Nat) (withDown : Bool) : Instr := .linkLost p cause withDown false

/-- The loop has come to ROOT_OFFSET 0. -/
abbrev Instr.refSelectionEval (meas : List RefMeas) : Instr := .refEvaluation 0 meas

/-- Without frequency errors. -/
abbrev Instr.loopLockDetected (off : Int) : Instr := .loopLocked off []
abbrev Instr.loopLockLost : Instr := .loopUnlocked []

/-- The dwell's errors were 0. -/
abbrev Instr.bandwidthNarrowStep (off : Int) : Instr := .bandwidthNarrowed off 0

/-- A rising edge. -/
abbrev Instr.eventEdge (ch ago f8 : Nat) : Instr := .inputEdge ch false ago f8

/-- The temperature says which stored values are STALE, of whatever item and rate. -/
abbrev Instr.valueStale (_item _rate : Nat) (_aged : Bool) (temp : Int) : Instr := .dieTemperature temp

end Sys2Proof

namespace Sys2Proof.Machine

open Sys2Proof

abbrev execRootRelock (s : State) : Host.Outcome State Fault Refusal := execRootRelocked 0 s
abbrev execJtagInstruction (j : Jtag) (s : State) : Host.Outcome State Fault Refusal := execJtagLoad j [] s
abbrev execCl72UpdateReceived (l req : Nat) (s : State) : Host.Outcome State Fault Refusal := execCl72Update l req 0 s
abbrev execCl72StatusReceived (l report : Nat) (own : Bool) (s : State) : Host.Outcome State Fault Refusal := execCl72Report l report 0 own.toNat s
abbrev execSketchScanEnd (l : Nat) (rows fine : List EyeErr) (lost : Bool) (s : State) : Host.Outcome State Fault Refusal :=
  execSketchEnd l (rows ++ fine) lost s
abbrev execLinkLoss (p cause : Nat) (withDown : Bool) (s : State) : Host.Outcome State Fault Refusal := execLinkLost p cause withDown false s
abbrev execRefSelectionEval (meas : List RefMeas) (s : State) : Host.Outcome State Fault Refusal := execRefEvaluation 0 meas s
abbrev execLoopLockDetected (off : Int) (s : State) : Host.Outcome State Fault Refusal := execLoopLocked off [] s
abbrev execLoopLockLost (s : State) : Host.Outcome State Fault Refusal := execLoopUnlocked [] s
abbrev execBandwidthNarrowStep (off : Int) (s : State) : Host.Outcome State Fault Refusal := execBandwidthNarrowed off 0 s
abbrev execEventEdge (ch ago f8 : Nat) (s : State) : Host.Outcome State Fault Refusal := execInputEdge ch false ago f8 s
abbrev execValueStale (_item _rate : Nat) (_aged : Bool) (temp : Int) (s : State) : Host.Outcome State Fault Refusal := execDieTemperature temp s

end Sys2Proof.Machine
end

