-- ==== Sys2Proof/Machine/Dispatch.lean ====
section
/-! DEFINITION. One arm per step. -/

namespace Sys2Proof.Machine

open Sys2Proof

/-- The effect of a step on everything but the queue. -/
def exec (i : Instr) (s : State) : Host.Outcome State Fault Refusal :=
  match i with
  | .sysNop p => Sys2Proof.Machine.execSysNop p s
  | .sysIdent p => Sys2Proof.Machine.execSysIdent p s
  | .sysAxgConfig p => Sys2Proof.Machine.execSysAxgConfig p s
  | .sysShutdown p => Sys2Proof.Machine.execSysShutdown p s
  | .shutdownReplyLeft fails us => Sys2Proof.Machine.execShutdownReplyLeft fails us s
  | .sysRestart p => Sys2Proof.Machine.execSysRestart p s
  | .restartReplyLeft m => Sys2Proof.Machine.execRestartReplyLeft m s
  | .sysBootSlot p => Sys2Proof.Machine.execSysBootSlot p s
  | .sysStatus p => Sys2Proof.Machine.execSysStatus p s
  | .laneConfig p => Sys2Proof.Machine.execLaneConfig p s
  | .laneStatus p => Sys2Proof.Machine.execLaneStatus p s
  | .laneTrain p => Sys2Proof.Machine.execLaneTrain p s
  | .laneDoze p => Sys2Proof.Machine.execLaneDoze p s
  | .laneSketch p => Sys2Proof.Machine.execLaneSketch p s
  | .laneSketchRead p => Sys2Proof.Machine.execLaneSketchRead p s
  | .laneLoopback p => Sys2Proof.Machine.execLaneLoopback p s
  | .portConfig p => Sys2Proof.Machine.execPortConfig p s
  | .portStatus p => Sys2Proof.Machine.execPortStatus p s
  | .portAdmin p => Sys2Proof.Machine.execPortAdmin p s
  | .portRing p => Sys2Proof.Machine.execPortRing p s
  | .portNodeRead p => Sys2Proof.Machine.execPortNodeRead p s
  | .bypassSet p => Sys2Proof.Machine.execBypassSet p s
  | .bypassPolicy p => Sys2Proof.Machine.execBypassPolicy p s
  | .bypassStatus p => Sys2Proof.Machine.execBypassStatus p s
  | .fwdFdbAdd p => Sys2Proof.Machine.execFwdFdbAdd p s
  | .fwdFdbDel p => Sys2Proof.Machine.execFwdFdbDel p s
  | .fwdFdbFlush p => Sys2Proof.Machine.execFwdFdbFlush p s
  | .fwdFdbRead p => Sys2Proof.Machine.execFwdFdbRead p s
  | .fwdAgeing p => Sys2Proof.Machine.execFwdAgeing p s
  | .fwdStreamSet p => Sys2Proof.Machine.execFwdStreamSet p s
  | .fwdStreamRead p => Sys2Proof.Machine.execFwdStreamRead p s
  | .fwdVlanSet p => Sys2Proof.Machine.execFwdVlanSet p s
  | .fwdClassMap p => Sys2Proof.Machine.execFwdClassMap p s
  | .fwdCutMode p => Sys2Proof.Machine.execFwdCutMode p s
  | .fwdPuntRule p => Sys2Proof.Machine.execFwdPuntRule p s
  | .bufMinSet p => Sys2Proof.Machine.execBufMinSet p s
  | .bufPoolSet p => Sys2Proof.Machine.execBufPoolSet p s
  | .bufOccupancy p => Sys2Proof.Machine.execBufOccupancy p s
  | .timeGet p => Sys2Proof.Machine.execTimeGet p s
  | .timeSet p => Sys2Proof.Machine.execTimeSet p s
  | .timeAdjRate p => Sys2Proof.Machine.execTimeAdjRate p s
  | .timeStep p => Sys2Proof.Machine.execTimeStep p s
  | .timeSlew p => Sys2Proof.Machine.execTimeSlew p s
  | .timeEpoch p => Sys2Proof.Machine.execTimeEpoch p s
  | .sessionCreate p => Sys2Proof.Machine.execSessionCreate p s
  | .sessionDelete p => Sys2Proof.Machine.execSessionDelete p s
  | .sessionRead p => Sys2Proof.Machine.execSessionRead p s
  | .sessionStatus p => Sys2Proof.Machine.execSessionStatus p s
  | .sessionServo p => Sys2Proof.Machine.execSessionServo p s
  | .sessionKey p => Sys2Proof.Machine.execSessionKey p s
  | .sessionEsmc p => Sys2Proof.Machine.execSessionEsmc p s
  | .measConfig p => Sys2Proof.Machine.execMeasConfig p s
  | .measStart p => Sys2Proof.Machine.execMeasStart p s
  | .measStop p => Sys2Proof.Machine.execMeasStop p s
  | .measRead p => Sys2Proof.Machine.execMeasRead p s
  | .measStats p => Sys2Proof.Machine.execMeasStats p s
  | .refConfig p => Sys2Proof.Machine.execRefConfig p s
  | .refRank p => Sys2Proof.Machine.execRefRank p s
  | .refSelect p => Sys2Proof.Machine.execRefSelect p s
  | .refStatus p => Sys2Proof.Machine.execRefStatus p s
  | .refBandwidth p => Sys2Proof.Machine.execRefBandwidth p s
  | .refHoldover p => Sys2Proof.Machine.execRefHoldover p s
  | .hamArm p => Sys2Proof.Machine.execHamArm p s
  | .hamDisarm p => Sys2Proof.Machine.execHamDisarm p s
  | .hamAlign p => Sys2Proof.Machine.execHamAlign p s
  | .hamStatus p => Sys2Proof.Machine.execHamStatus p s
  | .hamConv p => Sys2Proof.Machine.execHamConv p s
  | .calConfig p => Sys2Proof.Machine.execCalConfig p s
  | .calRun p => Sys2Proof.Machine.execCalRun p s
  | .calStatus p => Sys2Proof.Machine.execCalStatus p s
  | .calCalref p => Sys2Proof.Machine.execCalCalref p s
  | .calCommit p => Sys2Proof.Machine.execCalCommit p s
  | .annealConfig p => Sys2Proof.Machine.execAnnealConfig p s
  | .annealBlock p => Sys2Proof.Machine.execAnnealBlock p s
  | .annealResult p => Sys2Proof.Machine.execAnnealResult p s
  | .bellowsBudget p => Sys2Proof.Machine.execBellowsBudget p s
  | .bellowsHoldup p => Sys2Proof.Machine.execBellowsHoldup p s
  | .bellowsReport p => Sys2Proof.Machine.execBellowsReport p s
  | .bellowsCosts p => Sys2Proof.Machine.execBellowsCosts p s
  | .crucibleRead p => Sys2Proof.Machine.execCrucibleRead p s
  | .crucibleFlush p => Sys2Proof.Machine.execCrucibleFlush p s
  | .crucibleLatchRead p => Sys2Proof.Machine.execCrucibleLatchRead p s
  | .crucibleClear p => Sys2Proof.Machine.execCrucibleClear p s
  | .cntConfig p => Sys2Proof.Machine.execCntConfig p s
  | .cntRead p => Sys2Proof.Machine.execCntRead p s
  | .cntWrite p => Sys2Proof.Machine.execCntWrite p s
  | .cntBandwidth p => Sys2Proof.Machine.execCntBandwidth p s
  | .cntUser p => Sys2Proof.Machine.execCntUser p s
  | .hierConfig p => Sys2Proof.Machine.execHierConfig p s
  | .hierEnroll p => Sys2Proof.Machine.execHierEnroll p s
  | .hierRelease p => Sys2Proof.Machine.execHierRelease p s
  | .hierTableRead p => Sys2Proof.Machine.execHierTableRead p s
  | .hierBroadcast p => Sys2Proof.Machine.execHierBroadcast p s
  | .hierClosure p => Sys2Proof.Machine.execHierClosure p s
  | .hierClosureRead p => Sys2Proof.Machine.execHierClosureRead p s
  | .hierStatus p => Sys2Proof.Machine.execHierStatus p s
  | .workerReport p => Sys2Proof.Machine.execWorkerReport p s
  | .pairConfig p => Sys2Proof.Machine.execPairConfig p s
  | .pairStatus p => Sys2Proof.Machine.execPairStatus p s
  | .pairSwitch p => Sys2Proof.Machine.execPairSwitch p s
  | .secLcSet p => Sys2Proof.Machine.execSecLcSet p s
  | .secLcStatus p => Sys2Proof.Machine.execSecLcStatus p s
  | .secKeyLoad p => Sys2Proof.Machine.execSecKeyLoad p s
  | .secSeqReset p => Sys2Proof.Machine.execSecSeqReset p s
  | .secTamperStatus p => Sys2Proof.Machine.execSecTamperStatus p s
  | .secScanEnable p => Sys2Proof.Machine.execSecScanEnable p s
  | .memRead p => Sys2Proof.Machine.execMemRead p s
  | .memWrite p => Sys2Proof.Machine.execMemWrite p s
  | .memImageWrite p => Sys2Proof.Machine.execMemImageWrite p s
  | .memBgtest p => Sys2Proof.Machine.execMemBgtest p s
  | .memBgtestStop p => Sys2Proof.Machine.execMemBgtestStop p s
  | .axgSegment op p => Sys2Proof.Machine.execAxgSegment op p s
  | .axgRelay op p => Sys2Proof.Machine.execAxgRelay op p s
  | .axgRelayReply port sa pkt => Sys2Proof.Machine.execAxgRelayReply port sa pkt s
  | .cmdPi pi words => Sys2Proof.Machine.execCmdPi pi words s
  | .rplCi v => Sys2Proof.Machine.execRplCi v s
  | .puntPi v => Sys2Proof.Machine.execPuntPi v s
  | .insPi v => Sys2Proof.Machine.execInsPi v s
  | .clkStatusW1c v => Sys2Proof.Machine.execClkStatusW1c v s
  | .planeStatusW1c v => Sys2Proof.Machine.execPlaneStatusW1c v s
  | .refStateW1c v => Sys2Proof.Machine.execRefStateW1c v s
  | .axgErrRead => Sys2Proof.Machine.execAxgErrRead s
  | .registerWrite off v => Sys2Proof.Machine.execRegisterWrite off v s
  | .hostWindowWrite off bytes => Sys2Proof.Machine.execHostWindowWrite off bytes s
  | .spiPut words => Sys2Proof.Machine.execSpiPut words s
  | .spiGet done => Sys2Proof.Machine.execSpiGet done s
  | .spiStat => Sys2Proof.Machine.execSpiStat s
  | .sbpTimeRead word => Sys2Proof.Machine.execSbpTimeRead word s
  | .sbpSnapStatusRead => Sys2Proof.Machine.execSbpSnapStatusRead s
  | .cntPageRead k word => Sys2Proof.Machine.execCntPageRead k word s
  | .sbpSnapEdge ago f8 => Sys2Proof.Machine.execSbpSnapEdge ago f8 s
  | .powerOnRelease => Sys2Proof.Machine.execPowerOnRelease s
  | .resetNFall => Sys2Proof.Machine.execResetNFall s
  | .resetRelease m => Sys2Proof.Machine.execResetRelease m s
  | .resetReleaseWaitAlarm => Sys2Proof.Machine.execResetReleaseWaitAlarm s
  | .pfailNLow => Sys2Proof.Machine.execPfailNLow s
  | .internalRailFault rail => Sys2Proof.Machine.execInternalRailFault rail s
  | .parkedResume m => Sys2Proof.Machine.execParkedResume m s
  | .xoLoss => Sys2Proof.Machine.execXoLoss s
  | .rootRelocked ago => Sys2Proof.Machine.execRootRelocked ago s
  | .timingPlaneFault => Sys2Proof.Machine.execTimingPlaneFault s
  | .timingPlaneReturn => Sys2Proof.Machine.execTimingPlaneReturn s
  | .watchdogFire => Sys2Proof.Machine.execWatchdogFire s
  | .tamperDetected cause => Sys2Proof.Machine.execTamperDetected cause s
  | .pePerstAssert => Sys2Proof.Machine.execPePerstAssert s
  | .pePerstRelease => Sys2Proof.Machine.execPePerstRelease s
  | .jtagLoad j pads => Sys2Proof.Machine.execJtagLoad j pads s
  | .jtagTapReset => Sys2Proof.Machine.execJtagTapReset s
  | .laneStepExit l pol order => Sys2Proof.Machine.execLaneStepExit l pol order s
  | .laneStepTimeout l => Sys2Proof.Machine.execLaneStepTimeout l s
  | .laneSignalLoss l => Sys2Proof.Machine.execLaneSignalLoss l s
  | .cl72Update l req marker => Sys2Proof.Machine.execCl72Update l req marker s
  | .cl72Report l report marker fom => Sys2Proof.Machine.execCl72Report l report marker fom s
  | .laneLockLoss l => Sys2Proof.Machine.execLaneLockLoss l s
  | .burstAttemptEnd l ok => Sys2Proof.Machine.execBurstAttemptEnd l ok s
  | .dozeIdleExpired l => Sys2Proof.Machine.execDozeIdleExpired l s
  | .dozeEntryEnd l => Sys2Proof.Machine.execDozeEntryEnd l s
  | .dozeWakeTrigger l => Sys2Proof.Machine.execDozeWakeTrigger l s
  | .dozeExitComplete l => Sys2Proof.Machine.execDozeExitComplete l s
  | .dozeFlagsPeriodic l => Sys2Proof.Machine.execDozeFlagsPeriodic l s
  | .dozeFlagsReceived l ok => Sys2Proof.Machine.execDozeFlagsReceived l ok s
  | .dozeEnterReceived l => Sys2Proof.Machine.execDozeEnterReceived l s
  | .dozeBurstReceived l => Sys2Proof.Machine.execDozeBurstReceived l s
  | .dozeBurstMissed l regained => Sys2Proof.Machine.execDozeBurstMissed l regained s
  | .sketchEnd l rows lost => Sys2Proof.Machine.execSketchEnd l rows lost s
  | .linkLost p cause withDown early => Sys2Proof.Machine.execLinkLost p cause withDown early s
  | .lfFilterExpiry p => Sys2Proof.Machine.execLfFilterExpiry p s
  | .linkLossCleared p => Sys2Proof.Machine.execLinkLossCleared p s
  | .bypassCloseComplete b => Sys2Proof.Machine.execBypassCloseComplete b s
  | .bypassOpenComplete b => Sys2Proof.Machine.execBypassOpenComplete b s
  | .bypassPolicyProbeStart b => Sys2Proof.Machine.execBypassPolicyProbeStart b s
  | .openProbeExpiry b => Sys2Proof.Machine.execOpenProbeExpiry b s
  | .retryGapExpiry b => Sys2Proof.Machine.execRetryGapExpiry b s
  | .supervisionSend k => Sys2Proof.Machine.execSupervisionSend k s
  | .entryForget slot => Sys2Proof.Machine.execEntryForget slot s
  | .nodeForget slot => Sys2Proof.Machine.execNodeForget slot s
  | .frameTriggerByte p bytes ended r => Sys2Proof.Machine.execFrameTriggerByte p bytes ended r s
  | .sparkMatch p bytes r => Sys2Proof.Machine.execSparkMatch p bytes r s
  | .sparkKeyCheckFail p bytes => Sys2Proof.Machine.execSparkKeyCheckFail p bytes s
  | .frameLastByte p bytes ok under => Sys2Proof.Machine.execFrameLastByte p bytes ok under s
  | .frameEgressSelect p r => Sys2Proof.Machine.execFrameEgressSelect p r s
  | .frameTxEnd p diff => Sys2Proof.Machine.execFrameTxEnd p diff s
  | .fdbAgeSweep => Sys2Proof.Machine.execFdbAgeSweep s
  | .insertFrame q => Sys2Proof.Machine.execInsertFrame q s
  | .regOperation => Sys2Proof.Machine.execRegOperation s
  | .puntDescriptorFill addr => Sys2Proof.Machine.execPuntDescriptorFill addr s
  | .insertDescriptorFetch words bytes => Sys2Proof.Machine.execInsertDescriptorFetch words bytes s
  | .insertDescriptorDone => Sys2Proof.Machine.execInsertDescriptorDone s
  | .scheduledActionDue => Sys2Proof.Machine.execScheduledActionDue s
  | .slewComplete n => Sys2Proof.Machine.execSlewComplete n s
  | .ptpMessageTaken => Sys2Proof.Machine.execPtpMessageTaken s
  | .ptpPeriodicSend sid kind => Sys2Proof.Machine.execPtpPeriodicSend sid kind s
  | .announceReceiptTimeout sid => Sys2Proof.Machine.execAnnounceReceiptTimeout sid s
  | .syncLoss sid => Sys2Proof.Machine.execSyncLoss sid s
  | .bmcaM3WaitExpiry sid => Sys2Proof.Machine.execBmcaM3WaitExpiry sid s
  | .esmcPduSend p => Sys2Proof.Machine.execEsmcPduSend p s
  | .esmcPduReceived => Sys2Proof.Machine.execEsmcPduReceived s
  | .esmcRxTimeout p => Sys2Proof.Machine.execEsmcRxTimeout p s
  | .refEvaluation off meas => Sys2Proof.Machine.execRefEvaluation off meas s
  | .refCheckFail k why => Sys2Proof.Machine.execRefCheckFail k why s
  | .refChecksPass k => Sys2Proof.Machine.execRefChecksPass k s
  | .refQualTimeExpiry k => Sys2Proof.Machine.execRefQualTimeExpiry k s
  | .refWtrExpiry k => Sys2Proof.Machine.execRefWtrExpiry k s
  | .switchMeasurementComplete f => Sys2Proof.Machine.execSwitchMeasurementComplete f s
  | .loopLocked off errs => Sys2Proof.Machine.execLoopLocked off errs s
  | .loopUnlocked errs => Sys2Proof.Machine.execLoopUnlocked errs s
  | .bandwidthNarrowed off worst => Sys2Proof.Machine.execBandwidthNarrowed off worst s
  | .histValidSet f t => Sys2Proof.Machine.execHistValidSet f t s
  | .holdoverPredictionUpdate die ext => Sys2Proof.Machine.execHoldoverPredictionUpdate die ext s
  | .hamEdgeCommit k => Sys2Proof.Machine.execHamEdgeCommit k s
  | .hamEdgeEmit k => Sys2Proof.Machine.execHamEdgeEmit k s
  | .hamAlignComplete k => Sys2Proof.Machine.execHamAlignComplete k s
  | .inputEdge ch falling ago f8 => Sys2Proof.Machine.execInputEdge ch falling ago f8 s
  | .pairBeaconSend => Sys2Proof.Machine.execPairBeaconSend s
  | .twinTimeSend => Sys2Proof.Machine.execTwinTimeSend s
  | .beaconReceived => Sys2Proof.Machine.execBeaconReceived s
  | .twinTimeReceived => Sys2Proof.Machine.execTwinTimeReceived s
  | .compareReceived => Sys2Proof.Machine.execCompareReceived s
  | .digestWindowEnd => Sys2Proof.Machine.execDigestWindowEnd s
  | .pairSelfCheckDone signature => Sys2Proof.Machine.execPairSelfCheckDone signature s
  | .verdictReceived => Sys2Proof.Machine.execVerdictReceived s
  | .configReceived => Sys2Proof.Machine.execConfigReceived s
  | .handoverReceived => Sys2Proof.Machine.execHandoverReceived s
  | .twinLinkTimeout => Sys2Proof.Machine.execTwinLinkTimeout s
  | .beaconLoss => Sys2Proof.Machine.execBeaconLoss s
  | .joiningTimeout => Sys2Proof.Machine.execJoiningTimeout s
  | .pairBeaconTaken => Sys2Proof.Machine.execPairBeaconTaken s
  | .pairTableForget k => Sys2Proof.Machine.execPairTableForget k s
  | .workerReportSend => Sys2Proof.Machine.execWorkerReportSend s
  | .workerReportReply port sa pkt => Sys2Proof.Machine.execWorkerReportReply port sa pkt s
  | .childMiss slot => Sys2Proof.Machine.execChildMiss slot s
  | .closureProbeSend ccw => Sys2Proof.Machine.execClosureProbeSend ccw s
  | .closureProbeReturn => Sys2Proof.Machine.execClosureProbeReturn s
  | .ledgerWindowBoundary => Sys2Proof.Machine.execLedgerWindowBoundary s
  | .meterInterval rails => Sys2Proof.Machine.execMeterInterval rails s
  | .holdupMean pinUv => Sys2Proof.Machine.execHoldupMean pinUv s
  | .huLowTimer => Sys2Proof.Machine.execHuLowTimer s
  | .jobAdmitted => Sys2Proof.Machine.execJobAdmitted s
  | .calRoundRobinStep => Sys2Proof.Machine.execCalRoundRobinStep s
  | .calStepComplete item m => Sys2Proof.Machine.execCalStepComplete item m s
  | .calCommitComplete => Sys2Proof.Machine.execCalCommitComplete s
  | .crucibleRecordArrival pl code source d5 d6 d7 => Sys2Proof.Machine.execCrucibleRecordArrival pl code source d5 d6 d7 s
  | .crucibleRingTake => Sys2Proof.Machine.execCrucibleRingTake s
  | .crucibleLatchFlushTimer => Sys2Proof.Machine.execCrucibleLatchFlushTimer s
  | .crucibleFlushComplete => Sys2Proof.Machine.execCrucibleFlushComplete s
  | .annealSegmentComplete block errors us => Sys2Proof.Machine.execAnnealSegmentComplete block errors us s
  | .runHHourly => Sys2Proof.Machine.execRunHHourly s
  | .borrowStepComplete failWords => Sys2Proof.Machine.execBorrowStepComplete failWords s
  | .bandwidthWindowEnd => Sys2Proof.Machine.execBandwidthWindowEnd s
  | .moduleUnpowered => Sys2Proof.Machine.execModuleUnpowered s
  | .vbatFall lost => Sys2Proof.Machine.execVbatFall lost s
  | .mpiPowerUp startUs => Sys2Proof.Machine.execMpiPowerUp startUs s
  | .pcieLinkUp words => Sys2Proof.Machine.execPcieLinkUp words s
  | .mramWriteComplete => Sys2Proof.Machine.execMramWriteComplete s
  | .lpiTransition l tx on => Sys2Proof.Machine.execLpiTransition l tx on s
  | .dieTemperature temp => Sys2Proof.Machine.execDieTemperature temp s
  | .tamperInputHigh input => Sys2Proof.Machine.execTamperInputHigh input s
  | .holdoverFitSample f t => Sys2Proof.Machine.execHoldoverFitSample f t s

end Sys2Proof.Machine
end

