-- ==== Sys2Proof/Machine/Pins.lean ====
section
/-! DEFINITION. What the status outputs show (R81, R158, R341, R369, R462, R652). Each pin follows the state that drives it; ALARM_N is
`State.alarmLow` of Machine/Ops.lean and ISLAND_N `State.islandN` of Machine/Hier.lean. -/

namespace Sys2Proof.Machine

open Sys2Proof

namespace State

/-- BYPASS_CL[b] is high: the pair is CLOSED or CLOSING, or is opening and has not yet released its lanes (R157, R158, R160). -/
def bypassClHigh (s : State) (b : Nat) : Bool := s.pairHolds b

/-- PAIR_ACT is high: the unit is ACTIVE in a pair (R462). -/
def pairActHigh (s : State) : Bool := s.pcfg.en && decide (s.prun.st = UnitSt.active)

/-- REFSTATE[2:0]: 000 in reset, 111 while the timing plane is out of service, else TB0's state code (R369). -/
def refStatePins (s : State) : Nat := if s.start.resetN = false then 0 else if s.tpUp then tb0Code s.refs.st else 7

/-- SPI_IRQ_N is low while a reply waits in the SPI reply queue (R81). -/
def spiIrqLow (s : State) : Bool := !s.axg.spiQ.isEmpty

end State

end Sys2Proof.Machine
end

