-- ==== Sys2Proof/Safety.lean ====
section
/-! DEFINITION. The terms that statements use: the form of controller memory, when a command packet is accepted (R55, R56), the context in
which it then acts, and a run without a stop. -/

namespace Sys2Proof.Machine

open Sys2Proof

/-- The canonical form of controller memory: addresses strictly rising, no byte listed that an unlisted address reads as. -/
def Memory.wf (m : List Host.Cell) : Bool := Tab.wf byteReset m

/-- The form of memory and shadow is canonical, no byte of the secure region is held as ordinary memory, the shadow is 4 KiB, and a background
test keeps to the regions outside the secure one (R442, R585, R591, R594, R600). -/
def State.memOk (s : State) : Bool :=
  Memory.wf s.mem.bytes && s.mem.bytes.all (fun e => decide (e.1 < secureBase))
    && Memory.wf s.mem.shadow && s.mem.shadow.all (fun e => decide (e.1 < 4096))
    && s.mem.bg.all (fun b => decide (b.tested < b.count ∧ b.first + b.count ≤ 480))

/-- The shadow fits the step of the region it serves: it holds the region once that is copied and once it is copied back, and serves it between
(R592). -/
def Mem.borrowOk (m : Mem) : Bool :=
  match m.bg with
  | none => true
  | some b =>
    let r := b.first + b.tested
    match b.step with
    | none => true
    | some .copy => decide (m.inUse = none)
    | some .switch => decide (m.inUse = none ∧ m.shadow = (m.copyRegion r).shadow)
    | some .test => decide (m.inUse = some r)
    | some .restore => decide (m.inUse = some r)
    | some .release => decide (m.inUse = some r ∧ m.shadow = (m.copyRegion r).shadow)

/-- The part takes the packet, it is a whole command for this device that continues no partial one, it passes every check of R56 in its
order, it is not mirrored to a partner (R463), and it waits for no plane (R33, R39), no segment (R565) and no earlier command of its carrier and group (R68). -/
def State.accepts (s : State) (op : Nat) (len : LenRule) (p : Pkt) : Bool :=
  let a := s.segAuth op p
  let cls := Pkt.cls op p.words
  s.takes p.via && s.room op p && !s.relays p && !p.more && s.axg.partials.all (fun x => !Partial.continues op p x) && a.fail.isNone
    && opDefined op && (!opManager op || s.isMi) && (a.s.classCheck cls p.via p.auth).isNone && (a.s.lcCheck op p.words p.via).isNone
    && decide (p.words.length ≤ 1023) && (len p.words).isNone && !a.s.mirrors op cls p.via && (!timingOp op || s.mbxOpen)
    && !s.behindOne { via := p.via, op := op }
    && (a.s.runningBlock op p.words).isNone

/-- The state in which an accepted command acts: its number is in the replay table when it is authenticated (R62, R63), and where it is carried out
through IQ_REG, the register operations that wait there have acted before it (R28). -/
def State.accepted (s : State) (op : Nat) (p : Pkt) : State :=
  if dataOp op then (s.segAuth op p).s.drainReg else (s.segAuth op p).s

/-- The context of an accepted command: what its reply needs (R53, R61, R65). -/
def State.ctxOf (s : State) (op : Nat) (p : Pkt) : Ctx :=
  let a := s.segAuth op p
  { via := p.via, op := op, tag := p.tag, seq := p.seq, srcId := p.srcId, respId := s.devId, authed := p.auth, epoch := a.epoch,
    bootEpoch := s.mram.bootEpoch, key := if p.auth then a.key else 0, mirrored := false }

/-- The parts of the state, one for each field. -/
inductive Part where
  | pending | free | out | fused | tamper | mram | start | alarms | clk | axg
  | cru | led | sec | mem | lanes | form | ports | rings | nodes | nodeFull
  | bypass | fwd | buf | hst | cnt | tbs | hcfg | hier | workers | pcfg
  | prun | sesKeys | ptp | pal | refs | hams | chans | twinRpl
deriving DecidableEq, Repr

/-- Two states agree in a part. -/
def Part.same (q : Part) (s t : State) : Prop :=
  match q with
  | .pending => s.pending = t.pending
  | .free => s.free = t.free
  | .out => s.out = t.out
  | .fused => s.fused = t.fused
  | .tamper => s.tamper = t.tamper
  | .mram => s.mram = t.mram
  | .start => s.start = t.start
  | .alarms => s.alarms = t.alarms
  | .clk => s.clk = t.clk
  | .axg => s.axg = t.axg
  | .cru => s.cru = t.cru
  | .led => s.led = t.led
  | .sec => s.sec = t.sec
  | .mem => s.mem = t.mem
  | .lanes => s.lanes = t.lanes
  | .form => s.form = t.form
  | .ports => s.ports = t.ports
  | .rings => s.rings = t.rings
  | .nodes => s.nodes = t.nodes
  | .nodeFull => s.nodeFull = t.nodeFull
  | .bypass => s.bypass = t.bypass
  | .fwd => s.fwd = t.fwd
  | .buf => s.buf = t.buf
  | .hst => s.hst = t.hst
  | .cnt => s.cnt = t.cnt
  | .tbs => s.tbs = t.tbs
  | .hcfg => s.hcfg = t.hcfg
  | .hier => s.hier = t.hier
  | .workers => s.workers = t.workers
  | .pcfg => s.pcfg = t.pcfg
  | .prun => s.prun = t.prun
  | .sesKeys => s.sesKeys = t.sesKeys
  | .ptp => s.ptp = t.ptp
  | .pal => s.pal = t.pal
  | .refs => s.refs = t.refs
  | .hams => s.hams = t.hams
  | .chans => s.chans = t.chans
  | .twinRpl => s.twinRpl = t.twinRpl

/-- A state agrees with another in every part but the listed ones: the frame of what led from one to the other. -/
def State.keeps (t s : State) (l : List Part) : Prop := ∀ q, q ∉ l → q.same t s

/-- A step completes: it ends in a next state, of which something holds. -/
def Completes (i : Instr) (s : State) (P : State → Prop) : Prop := ∃ t, exec i s = .next t ∧ P t

/-- A command row completes (R53, R57): its reply, with status OK and these words, leaves the state given. -/
def Answers (i : Instr) (s : State) (op : Nat) (p : Pkt) (u : State) (r : List Word) : Prop := exec i s = .next (u.ok (s.ctxOf op p) r)

/-- The work of a HAM command that waits for its outputs. -/
def Work.forHam : Work → Bool
  | .hamDisarm _ _ => true
  | .hamAlign _ _ _ _ _ _ => true
  | _ => false

/-- A run never stops: no step of it ends in a fault or a refusal. -/
def NeverStops (s : State) : Prop := ∀ n, ∃ t, Host.Core.run Sys2Proof.core n s = .next t

end Sys2Proof.Machine
end

