-- ==== Sys2Proof/Certificates/Slice0/Obligations.lean ====
section
/-! DEFINITION. The statements about the part, taken from the numbered rules of spec/: one definition for each. A command row is stated for
the packets the part accepts (`State.accepts`); what does not appear in the state a statement gives is as it was. -/

open Sys2Proof Sys2Proof.Machine

/-- For every row c and state s, the step of s with c in front of its queue is exec of c on s with the queue as it was; on an empty queue a
step is one tick (the model's choice, log entry 1). Every step from every state ends in a next state (R51, R16, R12, R55, R66). -/
def Obligations.QueueStep : Prop :=
  (∀ (c : Instr) (s : State), step { s with pending := c :: s.pending } = exec c s) ∧
  (∀ s : State, s.pending = [] → step s = .next s.clockTick) ∧
  (∀ s : State, ∃ t, step s = .next t)

/-- In RUN, with no command in progress and no packet waiting, a step on an empty queue raises TICK by one; in every other power state it
changes nothing. In a tick the steering moves towards its target by at most 225 units of 2^-48, 1 ppm per ms, ROOT_CLAMP is set exactly at
+-100 ppm, and a time base without a slew, other than TB0, moves on by its rates. Where the spec leaves a point open, the clauses rest on
the model's reading or choice (log entries 1, 4) (R241, R242, R41, R48). -/
def Obligations.TickMoves : Prop :=
  (∀ s : State, s.pending = [] → s.start.power ≠ .run → step s = .next s) ∧
  (∀ s : State, s.pending = [] → s.start.power = .run → s.axg.cmdRing = [] → s.axg.spiBuf = [] → s.axg.jobs = [] →
    s.puntHead 1 (fun _ => true) = none → ∃ t, step s = .next t ∧ t.clk.tick = s.clk.tick + 1) ∧
  (∀ s : State, ∃ d : Int, d.natAbs ≤ 225 ∧ (d = s.clk.steerTo - s.clk.steer ∨ d = 225 ∧ 225 < s.clk.steerTo - s.clk.steer ∨
      d = -225 ∧ s.clk.steerTo - s.clk.steer < -225) ∧
    s.tickSteer = { s with clk := { s.clk with steer := s.clk.steer + d, rootClamp := decide ((s.clk.steer + d).natAbs = 28147497671) } }) ∧
  (∀ s : State, s.clk.tpUp = false → s.timingTick = s.tickSteer) ∧
  (∀ (s : State) (n : Nat), s.clk.tpUp = true → s.axg.jobs = [] → 0 < n → n < 8 → (s.tb n).slew = none →
    s.timingTick.tb n = (s.tb n).advance s.clk.tick)

/-- If controller memory is in its canonical form and holds no byte of the secure region, so it is after every step (R585, R442, R600). -/
def Obligations.MemoryKept : Prop :=
  ∀ s t : State, s.memOk = true → step s = .next t → t.memOk = true

/-- The state after reset has controller memory in its canonical form, with no byte of the secure region. Where the spec leaves a point open,
the clauses rest on the model's reading or choice (log entries 8, 9) (R585, R586). -/
def Obligations.MemoryAtReset : Prop :=
  State.reset.memOk = true

/-- From every state in DECOMMISSIONED in which no command key is loaded, every step leaves the part in DECOMMISSIONED with no command key
loaded (R566, R567, R570). -/
def Obligations.DecommissionedForGood : Prop :=
  ∀ s t : State, s.mram.lc = .decommissioned → s.mram.hostKey = none → s.mram.sysKey = none → step s = .next t →
    t.mram.lc = .decommissioned ∧ t.mram.hostKey = none ∧ t.mram.sysKey = none

/-- No step changes what is fixed at manufacture: VARIANT, MGT_MAC, and whether a word of the secure region is defective (R4, R93, R568). -/
def Obligations.FactoryValuesKept : Prop :=
  ∀ s t : State, step s = .next t → t.fused = s.fused

/-- The state in which an accepted command acts is the state before with, at most, a changed replay table and, where it is carried out through
IQ_REG, the register operations that waited there applied; an unauthenticated packet changes nothing else; an authenticated one becomes
its source's newest entry, and the entries of other sources stay as they were, in their order. A formed reply joins the replies for the
ring of a PCIe command, the SPI reply queue of an SPI command, or IQ_CMD as frames to the sender of an in-band one, and changes no other
part; a script command's reply only enters the start status; a discarded reply changes nothing. A reply of at most 1,023 words over SPI is
one packet of its header, its words and, when authenticated, four words of tag. Where the spec leaves a point open, the clauses rest on
the model's reading or choice (log entry 5) (R62, R63, R56, R28, R53, R65, R79, R83, R630). -/
def Obligations.AcceptedAndReply : Prop :=
  (∀ (s : State) (op : Nat) (p : Pkt), (s.accepted op p).keeps s [.axg, .clk, .hst, .buf] ∧
    (dataOp op = false ∨ (s.buf.iqReg = [] ∧ s.buf.regWait = []) →
      s.accepted op p = { s with axg := { s.axg with replay := (s.accepted op p).axg.replay } }) ∧
    (dataOp op = true → (s.accepted op p).buf = { s.buf with iqReg := [], regWait := [] })) ∧
  (∀ (s : State) (op : Nat) (p : Pkt), p.auth = false → dataOp op = false ∨ (s.buf.iqReg = [] ∧ s.buf.regWait = []) → s.accepted op p = s) ∧
  (∀ (s : State) (op : Nat) (p : Pkt), p.auth = true → (s.segAuth op p).fail = none →
    ∃ e : Replay, e.srcId = p.srcId ∧ e.lastSeq = p.seq ∧ e.own = decide (p.destId ≠ 0x3FFFF) ∧
      (s.accepted op p).axg.replay = s.axg.replay.filter (fun r => !Replay.isOf p r) ++ [e]) ∧
  (∀ (s : State) (c : Ctx) (r : Rpl), c.mute = true ∨ c.lost = true → s.sendReply c r = s) ∧
  (∀ (s : State) (c : Ctx) (r : Rpl), c.mute = false → c.lost = false → c.via = .pcie → (s.sendReply c r).keeps s [.axg, .hst, .out]) ∧
  (∀ (s : State) (c : Ctx) (r : Rpl), c.mute = false → c.lost = false → c.via = .spi →
    s.sendReply c r = { s with axg := { s.axg with spiQ := s.axg.spiQ ++ s.replyPackets c r } }) ∧
  (∀ (s : State) (c : Ctx) (r : Rpl) (port sa : Nat) (tci : Option Nat), c.mute = false → c.lost = false → c.via = .inband port sa tci →
    s.sendReply c r = { s with buf := { s.buf with iqCmd := s.buf.iqCmd ++ (s.replyPackets c r).map (s.axgFrame port sa tci) } }) ∧
  (∀ (s : State) (c : Ctx) (r : Rpl) (i : Nat), c.mute = false → c.lost = false → c.via = .script i → (s.sendReply c r).keeps s [.start]) ∧
  (∀ (s : State) (c : Ctx) (r : Rpl), c.via = .spi → c.authed = false → r.words.length ≤ 1023 → r.follow = [] →
    s.replyPackets c r = [[hdrWord0 true false false false c.op, pack [(16, c.tag % 2 ^ 16), (0, r.words.length)],
      pack [(18, c.seq % 256), (0, c.respId % 2 ^ 18)], pack [(16, r.status), (0, r.detail % 2 ^ 16)]] ++ r.words])

/-- A whole command whose tags verify is answered by the first check it fails, in the order: opcode, manager function, privilege class, life
cycle, length; a command that fails one changes nothing but by its reply and the count of a failed authentication. An authenticated packet
whose SEQ is the last accepted one of its source and destination form, or lies 128 or more ahead of it modulo 256, fails authentication,
and the replay table stays as it was. Where the spec leaves a point open, the clauses rest on the model's reading or choice (log entry 6)
(R56, R57, R64, R567, R63). -/
def Obligations.ChecksInOrder : Prop :=
  (∀ (s : State) (len : LenRule) (body : Body) (c : Ctx) (ws : List Word),
    (opDefined c.op = false → s.execute len body c ws = s.err c 0x0010 0) ∧
    (opDefined c.op = true → opManager c.op = true → s.isMi = false → s.execute len body c ws = s.err c 0x0070 0) ∧
    (opDefined c.op = true → (opManager c.op = true → s.isMi = true) →
      (∀ st d, s.classCheck (Pkt.cls c.op ws) c.via c.authed = some (st, d) →
        s.execute len body c ws =
          (if st = 0x0021 then { s with axg := { s.axg with authFails := min 0xFF (s.axg.authFails + 1) } } else s).err c st d) ∧
      (s.classCheck (Pkt.cls c.op ws) c.via c.authed = none →
        (∀ st d, s.lcCheck c.op ws c.via = some (st, d) → s.execute len body c ws = s.err c st d) ∧
        (s.lcCheck c.op ws c.via = none →
          (∀ d, len ws = some d → s.execute len body c ws = s.err c 0x0011 d) ∧
          (len ws = none → 1023 < ws.length → s.execute len body c ws = s.err c 0x0011 0))))) ∧
  (∀ (s : State) (op : Nat) (p : Pkt) (e : Replay), p.auth = true → s.axg.replay.find? (Replay.isOf p) = some e →
    ((p.seq + 256 - e.lastSeq) % 256 = 0 ∨ 127 < (p.seq + 256 - e.lastSeq) % 256) →
    (s.segAuth op p).fail.isSome = true ∧ (s.accepted op p).axg.replay = s.axg.replay)

/-- Accepted, SYS.IDENT replies with six words of identity and SYS.STATUS with eight, changing nothing; SYS.AXG_CONFIG with WRITE 1 replies
under the settings before it, then stores its clamped values, and with WRITE 0 stores none; SYS.BOOT_SLOT with WRITE 1 on a valid slot
waits for one job of code 11, and otherwise replies at once. Where the spec leaves a point open, the clauses rest on the model's reading
or choice (log entry 83). Completes: sysIdent, sysAxgConfig, sysBootSlot, sysStatus (R93, R94, R639, R640, R567, R70). -/
def Obligations.SysCommands : Prop :=
  (∀ s p, s.accepts 0x0101 (lenIs 0) p = true → Answers (.sysIdent p) s 0x0101 p (s.accepted 0x0101 p)
    [pack [(16, 0x9632), (12, if s.fused.mi then 1 else 2), (4, 0xB1)], w32 s.hcfg.deviceId, w32 (s.fused.mgtMac / 2 ^ 16),
     pack [(16, s.fused.mgtMac % 2 ^ 16), (0, s.mram.bootEpoch)], w32 s.start.version, pack [(0, lcCode s.mram.lc), (2, s.start.slot)]]) ∧
  (∀ s p, s.accepts 0x0102 (lenIs 3) p = true → bit (wd p.words 0) 31 = true →
    let a := s.accepted 0x0102 p
    let etype := clampEtype (fld (wd p.words 0) 15 0)
    let mtu := clamp 1500 9000 (fld (wd p.words 1) 13 0)
    let req := bit (wd p.words 2) 0 || decide (s.mram.lc = .operational)
    let t := a.ok (s.ctxOf 0x0102 p) [pack [(31, 1), (0, etype)], w32 mtu, pack [(0, req.toNat), (1, (bit (wd p.words 2) 1).toNat), (2, (bit (wd p.words 2) 2).toNat)]]
    exec (.sysAxgConfig p) s = .next { t with axg := { t.axg with
      etype := etype, mtu := mtu, authReq := req, inbandEn := bit (wd p.words 2) 1, groupEn := bit (wd p.words 2) 2 } }) ∧
  (∀ s p, s.accepts 0x0102 (lenIs 3) p = true → bit (wd p.words 0) 31 = false →
    let a := s.accepted 0x0102 p
    Answers (.sysAxgConfig p) s 0x0102 p a
      [pack [(31, 0), (0, a.axg.etype)], w32 a.axg.mtu, pack [(0, (a.axg.authReq || decide (s.mram.lc = .operational)).toNat), (1, a.axg.inbandEn.toNat), (2, a.axg.groupEn.toNat)]]) ∧
  (∀ s p, s.accepts 0x0113 (lenIs 0) p = true → ∃ r, Answers (.sysStatus p) s 0x0113 p (s.accepted 0x0113 p) r ∧ r.length = 8 ∧
    wd r 6 = w32 s.mram.bootEpoch ∧ wd r 7 = w32 s.mram.runH) ∧
  (∀ s p, s.accepts 0x0112 (lenIs 1) p = true → bit (wd p.words 0) 31 = true → fwValid (s.fwSlot (fld (wd p.words 0) 0 0)) = true →
    exec (.sysBootSlot p) s = .next (((s.accepted 0x0112 p).hold (s.ctxOf 0x0112 p) (.bootSlot (fld (wd p.words 0) 0 0) false)).queueJob 11 110
      (.bootSlot (fld (wd p.words 0) 0 0)))) ∧
  (∀ s p, s.accepts 0x0112 (lenIs 1) p = true → (bit (wd p.words 0) 31 = false ∨ fwValid (s.fwSlot (fld (wd p.words 0) 0 0)) = false) →
    ∃ r, Answers (.sysBootSlot p) s 0x0112 p (s.accepted 0x0112 p) r ∧ r.length = 3)

/-- Accepted, both end every block anneal and note what follows their reply. SYS.SHUTDOWN is charged one MRAM write, sets NEXT_FULL when
asked, writes an IN_PROGRESS anneal-pass record unless NO_PASS is 1, and replies with EXPECTED. The stop sequence without a pass, and the
one whose pass runs to its end, leave the part STOPPED; a restart of the part whose conditions of release hold is a start with cause 2,
and one whose conditions do not hold waits with cause 2. With no stop or restart noted the two rows change nothing. Where the spec leaves
a point open, the clauses rest on the model's reading or choice (log entries 8, 15, 51, 66). Completes: sysShutdown, shutdownReplyLeft,
sysRestart, restartReplyLeft (R556, R574, R575, R637, R638, R557, R624, R625). -/
def Obligations.StopAndRestart : Prop :=
  (∀ s p, s.accepts 0x0110 (lenIs 1) p = true →
    let b := ((s.accepted 0x0110 p).charge 110).endBlocks
    let noPass := bit (wd p.words 0) 0
    let next := bit (wd p.words 0) 1
    let rec_ : TestRec := { expected := 316, runH := b.mram.runH, epoch := b.mram.bootEpoch }
    Answers (.sysShutdown p) s 0x0110 p
      { b with
        mram := { b.mram with nextFull := b.mram.nextFull || next, passRec := if noPass then b.mram.passRec else some rec_ },
        start := { b.start with stop := some (.shutdown noPass) } }
      [pack [(0, noPass.toNat), (1, next.toNat)], w32 (if noPass then 0 else 316)]) ∧
  (∀ s p, s.accepts 0x0111 (lenIs 1) p = true →
    let b := (s.accepted 0x0111 p).endBlocks
    let scope := bit (wd p.words 0) 0
    Answers (.sysRestart p) s 0x0111 p
      { b with start := { b.start with stop := some (if scope then .mgmtRestart else .restart) } } [pack [(0, scope.toNat)]]) ∧
  (∀ (s : State) (us : Nat) (fails : List Bool), s.start.power = .run → s.start.stop = some (.shutdown true) →
    Completes (.shutdownReplyLeft fails us) s (fun t => t.start.power = .stopped ∧ t.start.stop = none ∧ t.axg.jobs = [] ∧ t.mem = {})) ∧
  (∀ (s : State) (us : Nat) (fails : List Bool), s.start.power = .run → s.start.stop = some (.shutdown false) → fails.length = 316 →
    Completes (.shutdownReplyLeft fails us) s (fun t => t.start.power = .stopped ∧ t.start.stop = none ∧
      ∃ r, t.mram.passRec = some r ∧ r.expected = 316 ∧ r.completed = 316 ∧ r.duration = us ∧
        (r.reads = 1 ∨ r.reads = 2) ∧ (fails = List.replicate 316 false → s.mem.retired = none → r.reads = 1))) ∧
  (∀ (s : State) (m : StartMeas), s.start.power = .run → s.start.stop = some .restart → s.clk.xoPresent = false ∨ s.start.pfailN = false →
    Completes (.restartReplyLeft m) s (fun t => t.start.power = .waiting ∧ t.start.cause = 2 ∧ t.axg.jobs = [] ∧ t.led.waiting = [])) ∧
  (∀ (s : State) (m : StartMeas), s.start.power = .run → s.start.stop = some .restart → s.clk.xoPresent = true → s.start.pfailN = true →
    let w := s.tearAll.inReset .waiting
    exec (.restartReplyLeft m) s = .next (({ w with start := { w.start with cause := 2 } }).startUp 2 m)) ∧
  (∀ (s : State) (us : Nat) (fails : List Bool) (m : StartMeas), s.start.stop = none →
    exec (.shutdownReplyLeft fails us) s = .next s ∧ exec (.restartReplyLeft m) s = .next s)

/-- RESET_N falling on a part with supply puts every register but what survives to its reset value, with the start cause 1; release of the
power-on detector and loss of supply do the same; the wait for release drives ALARM_N. Reset release, or the return of PFAIL_N in PARKED,
runs the start sequence. A quick start on a part with no valid firmware slot and no tamper latched adds one to BOOT_EPOCH and one hour to
RUN_H, and ends in the recovery state with ALARM_N low. Where the spec leaves a point open, the clauses rest on the model's reading or
choice (log entries 8, 15, 51, 55, 60, 83). Completes: powerOnRelease, resetNFall, resetRelease, resetReleaseWaitAlarm, parkedResume,
moduleUnpowered (R622, R623, R624, R636, R14, R502, R562, R625, R629, R631, R561, R62). -/
def Obligations.ResetAndStart : Prop :=
  (∀ s : State, s.start.power ≠ .unpowered → Completes .resetNFall s (fun t =>
    t.start.power = .held ∧ t.start.resetN = false ∧ t.start.cause = 1 ∧ t.pending = s.pending ∧ t.fused = s.fused ∧ t.tamper = s.tamper ∧
    t.keeps State.reset [.pending, .free, .out, .fused, .tamper, .mram, .sec, .alarms, .clk, .bypass, .start])) ∧
  (∀ s : State, s.start.power = .unpowered →
    exec .resetNFall s = .next { s with start := { s.start with resetN := false } }) ∧
  (∀ s : State, s.start.power = .unpowered → Completes .powerOnRelease s (fun t =>
    t.start.power = (if s.start.resetN then .waiting else .held) ∧ t.start.podReleased = true ∧ t.start.cause = 0 ∧ t.mram = s.mram ∧
    t.tamper = s.tamper ∧ t.keeps State.reset [.pending, .free, .out, .fused, .tamper, .mram, .sec, .alarms, .clk, .bypass, .start])) ∧
  (∀ s : State, s.start.power ≠ .run → s.start.power ≠ .unpowered → Completes .moduleUnpowered s (fun t =>
    t.start.power = .unpowered ∧ t.start.podReleased = false ∧ t.mram = s.mram ∧ t.tamper = s.tamper ∧
    t.keeps State.reset [.pending, .free, .out, .fused, .tamper, .mram, .sec, .alarms, .clk, .bypass, .start])) ∧
  (∀ s : State, s.start.power = .run → Completes .moduleUnpowered s (fun t =>
    t.start.power = .unpowered ∧ t.start.podReleased = false ∧ t.start.perstN = true ∧ t.tamper = s.tamper ∧
    (∀ b, b < 4 → (t.pair b).st = .closed ∧ (t.pair b).held = (s.pair b).held) ∧
    t.keeps State.reset [.pending, .free, .out, .fused, .tamper, .mram, .sec, .alarms, .clk, .bypass, .start])) ∧
  (∀ s : State, s.start.power = .held ∨ s.start.power = .waiting →
    exec .resetReleaseWaitAlarm s = .next
      { s with start := { s.start with power := .waiting, resetN := true }, alarms := { s.alarms with waitRelease := true } }) ∧
  (∀ (s : State) (m : StartMeas), s.start.power = .held ∨ s.start.power = .waiting → s.start.podReleased = true →
    exec (.resetRelease m) s = .next (s.startUp s.start.cause m)) ∧
  (∀ (s : State) (m : StartMeas), s.start.power = .parked → s.start.resetN = true → exec (.parkedResume m) s = .next (s.startUp 3 m)) ∧
  (∀ (s : State) (m : StartMeas) (cause : Nat), s.preferred = none → s.tamper.latched = false →
    (({ s.mram with runH := (s.mram.runH + 1) % 2 ^ 32 } : Mram)).quickOk = true →
    let t := s.startUp cause m
    t.start.power = .run ∧ t.start.mpi = .recovery ∧ t.start.kind = 2 ∧ t.start.cause = cause ∧ t.alarms.recovery = true ∧
    t.mram.bootEpoch = min 0xFFFF (s.mram.bootEpoch + 1) ∧ t.mram.runH = (s.mram.runH + 1) % 2 ^ 32 ∧ t.sec.lastQuick = true)

/-- In RUN, PFAIL_N low or an internal rail fault runs the last gasp to its end: the part is PARKED, or held while RESET_N is low, with
ALARM_N low and no command in progress; unless MPI is cut off, MRAM keeps the summary of the last gasp and LG_COUNT rises by one. Where
the spec leaves a point open, the clauses rest on the model's reading or choice (log entry 13). Completes: pfailNLow, internalRailFault
(R495, R497, R498, R501, R502, R505). -/
def Obligations.LastGasp : Prop :=
  (∀ s : State, s.start.power = .run → Completes .pfailNLow s (fun t =>
    t.start.power = (if s.start.resetN then .parked else .held) ∧ t.start.pfailN = false ∧ t.axg.jobs = [] ∧ t.alarms.parked = s.start.resetN ∧
    (s.start.mpi = .down → t.mram = s.mram) ∧
    (s.start.mpi ≠ .down → t.mram.gasp = some (Gasp.mk true false 0 s.led.covered s.led.vHu s.led.eUsable s.mram.bootEpoch) ∧ t.mram.lgCount = inc16 s.mram.lgCount ∧ t.mram.gaspEnded = true))) ∧
  (∀ (s : State) (rail : Nat), rail < 8 → s.start.power = .run → Completes (.internalRailFault rail) s (fun t =>
    t.start.power = (if s.start.resetN then .parked else .held) ∧ t.axg.jobs = [] ∧ t.alarms.parked = s.start.resetN ∧
    (s.start.mpi = .down → t.mram = s.mram) ∧
    (s.start.mpi ≠ .down → t.mram.gasp = some (Gasp.mk false true rail s.led.covered s.led.vHu s.led.eUsable s.mram.bootEpoch) ∧ t.mram.lgCount = inc16 s.mram.lgCount))) ∧
  (∀ s : State, s.start.power ≠ .run → exec .pfailNLow s = .next { s with start := { s.start with pfailN := false } }) ∧
  (∀ (s : State) (rail : Nat), s.start.power ≠ .run → exec (.internalRailFault rail) s = .next s)

/-- In RUN: when XO_IN stops, the steering holds, XO_LOSS is set, TB0 is in FAULT and ALARM_N is low; when the root locks again, XO_LOSS's
alarm ends and TB0 leaves FAULT for HOLDOVER after at most 1 s with a valid history, else for FREE-RUN. A timing-plane fault takes every
output to IDLE and every channel to OFF with TB0 in FAULT; on the return every time base stands at its reset value and TB0 is in FREE-RUN.
In every other power state the four rows change nothing. Where the spec leaves a point open, the clauses rest on the model's reading or
choice (log entries 53, 76, 82). Completes: xoLoss, rootRelocked, timingPlaneFault, timingPlaneReturn (R45, R48, R365, R39, R50, R660,
R240, R404, R431). -/
def Obligations.RootAndPlanes : Prop :=
  (∀ s : State, s.start.power = .run → s.clk.rootLock = true → Completes .xoLoss s (fun t =>
    t.clk.xoPresent = false ∧ t.clk.rootLock = false ∧ t.clk.xoLoss = true ∧ t.clk.steer = s.clk.steer ∧ t.clk.steerTo = s.clk.steer ∧
    t.refs.st = .fault ∧ t.alarmLow = true ∧ t.keeps s [.clk, .alarms, .refs, .tbs, .cru, .buf])) ∧
  (∀ (s : State) (ago : Nat), s.start.power = .run → s.clk.rootLock = false → 12500000 ≤ ago → Completes (.rootRelocked ago) s (fun t =>
    t.clk.xoPresent = true ∧ t.clk.rootLock = true ∧ t.clk.xoLoss = s.clk.xoLoss ∧ t.alarms = { s.alarms with xo := false } ∧
    (s.refs.st = .fault → s.clk.tpUp = true →
      t.refs.st = if s.refs.histValid = true ∧ s.clk.tick ≤ s.refs.faultSince + 1250000000 + ago then .holdover else .freeRun) ∧
    (s.refs.st ≠ .fault ∨ s.clk.tpUp = false → t.refs = s.refs) ∧ t.keeps s [.clk, .alarms, .refs, .tbs, .cru, .buf])) ∧
  (∀ s : State, s.start.power = .run → s.clk.tpUp = true → Completes .timingPlaneFault s (fun t =>
    t.clk.tpUp = false ∧ t.clk.tpFault = true ∧ t.refStatePins = (if t.start.resetN then 7 else 0) ∧ t.refs.st = .fault ∧ t.hams = [] ∧
    (∀ ch, ch < 28 → (t.chan ch).st = .off ∧ (t.chan ch).queue = [] ∧ (t.chan ch).stat = none) ∧ t.clk.steerTo = t.clk.steer ∧
    t.mem.bytes = s.mem.bytes ∧ t.mram = s.mram)) ∧
  (∀ s : State, s.start.power = .run → s.clk.tpUp = false → s.clk.dpUp = true → s.axg.jobs.all (fun j => !j.work.inMailbox) = true →
    Completes .timingPlaneReturn s (fun t =>
      t.clk.tpUp = true ∧ (∀ n, n < 8 → { t.tb n with past := [] } = ({} : TBase)) ∧ t.refs.st = .freeRun ∧ t.refs.histValid = false ∧ t.hst.snapPend = none ∧ t.hst.sbpHold = [] ∧
      (∀ e ∈ t.ptp.servos, e.2.st = .idle ∨ e.2.st = .acquire) ∧ t.keeps s [.clk, .tbs, .hst, .prun, .refs, .ptp, .cru, .buf])) ∧
  (∀ (s : State) (ago : Nat), s.start.power ≠ .run → exec .xoLoss s = .next s ∧ exec (.rootRelocked ago) s = .next s ∧ exec .timingPlaneFault s = .next s ∧
    exec .timingPlaneReturn s = .next s)

/-- After a timing-plane fault in RUN no command waits for a future time, a slew, outputs or a statistics run: each TIME.SET, TIME.STEP,
MEAS.START, TIME.SLEW, HAM.DISARM, HAM.ALIGN and MEAS.STATS in progress has completed, while commands in MBX_CMD stay. Where the spec
leaves a point open, the clauses rest on the model's reading or choice (log entries 4, 53). Completes: timingPlaneFault (R660, R39, R431,
R404). -/
def Obligations.HeldTimeEnds : Prop :=
  (∀ s : State, s.start.power = .run → s.clk.tpUp = true → Completes .timingPlaneFault s (fun t =>
    (∀ j ∈ t.axg.jobs, match j.work with
      | .timeSet _ _ _ | .timeStep _ _ _ | .measStart _ _ _ | .slew _ _ _ | .hamDisarm _ _ | .hamAlign _ _ _ _ _ _ => False
      | .stats ch _ => 28 ≤ ch
      | _ => True) ∧
    (∀ j ∈ s.axg.jobs, ∀ ws, j.work = .mailbox ws → j ∈ t.axg.jobs)))

/-- When the watchdog fires, and when the reply of a SYS.RESTART of the management plane has left, MPI is cut off: commands in progress,
partial commands and waiting jobs end, PCIe is down and MGT_RESTARTS rises by one. When MPI returns after the start script had finished,
firmware runs again and takes the events that waited; two firings before START_DONE with no other valid slot end in the recovery state.
PE_PERST_N low takes PCIe down, returns the registers of R77 and R444, the MSI-X table and every ring index to their reset values, and
marks the replies of PCIe commands in progress to be discarded, changing nothing else; when it is high the link comes up while firmware or
the boot ROM runs. Where the spec leaves a point open, the clauses rest on the model's reading or choice (log entries 5, 52). Completes:
restartReplyLeft, watchdogFire, pePerstAssert, pePerstRelease, mpiPowerUp, pcieLinkUp (R37, R38, R443, R634, R638, R631, R645, R625). -/
def Obligations.RestartAndPcie : Prop :=
  (∀ s : State, s.start.power = .run → s.start.watchdog = true → s.start.mpi = .up ∨ s.start.mpi = .hung → Completes .watchdogFire s (fun t =>
    t.start.mpi = .down ∧ t.start.pcieUp = false ∧ t.start.watchdog = false ∧ t.clk.mgtRestarts = inc16 s.clk.mgtRestarts ∧
    (∀ j ∈ t.axg.jobs, j.ctx.lost = true ∧ (j.work.onTiming = true ∨ j.work.onCounters = true ∨ j.work.inMailbox = true)) ∧ t.axg.partials = [] ∧ t.axg.relays = [] ∧ t.led.waiting = [] ∧ t.cru.flushing = none ∧
    (s.start.scriptEnded = false → s.start.done = false → t.start.bootFails = s.start.bootFails + 1) ∧ t.mem.bytes = s.mem.bytes)) ∧
  (∀ (s : State) (m : StartMeas), s.start.power = .run → s.start.stop = some .mgmtRestart → Completes (.restartReplyLeft m) s (fun t =>
    t.start.mpi = .down ∧ t.start.pcieUp = false ∧ t.clk.mgtRestarts = inc16 s.clk.mgtRestarts ∧ t.start.stop = none ∧
    (∀ j ∈ s.axg.jobs, j.work.onTiming = true → { j with ctx := { j.ctx with lost := true, mirrored := false } } ∈ t.axg.jobs) ∧
    (∀ j ∈ t.axg.jobs, j.ctx.lost = true ∧ (j.work.onTiming = true ∨ j.work.onCounters = true ∨ j.work.inMailbox = true)) ∧
    t.tbs = s.tbs ∧ t.hams = s.hams ∧ t.chans = s.chans ∧ t.ports = s.ports ∧ t.fwd = s.fwd)) ∧
  (∀ (s : State) (us : Nat), s.start.power = .run → s.start.mpi = .down → s.start.bootFails < 2 → s.start.done = true →
    s.cru.flushDeferred = false →
    exec (.mpiPowerUp us) s = .next (({ s with
      start := { s.start with mpi := .up, watchdog := true, scriptUs := us }, buf := { s.buf with mbxEvt := [], pqReg := [] } }).setHostRegs
        s.hst.copy)) ∧
  (∀ (s : State) (us : Nat), s.start.power = .run → s.start.mpi = .down → 2 ≤ s.start.bootFails →
    (s.start.fallback = true ∨ fwValid (s.fwSlot (1 - s.start.slot)) = false) → Completes (.mpiPowerUp us) s (fun t =>
      t.start.power = .run ∧ t.start.mpi = .recovery ∧ t.alarms.recovery = true ∧ t.clk.dpUp = false ∧ t.clk.tpUp = false ∧ t.axg.jobs = [])) ∧
  (∀ (s : State) (us : Nat), s.start.mpi ≠ .down ∨ s.start.power ≠ .run → exec (.mpiPowerUp us) s = .next s) ∧
  (∀ s : State, s.start.watchdog = false ∨ s.start.power ≠ .run → exec .watchdogFire s = .next s) ∧
  (∀ s : State, Completes .pePerstAssert s (fun t =>
    t.start = { s.start with perstN := false, pcieUp := false } ∧
    (t.axg.cringBase, t.axg.cringSize, t.axg.rringBase, t.axg.rringSize, t.axg.axgWb) = (0, 6, 0, 6, 0) ∧
    (t.axg.axgVec, t.axg.axgVecEn, t.axg.cmdPi, t.axg.cmdCi, t.axg.rplPi, t.axg.rplCi) = (0, false, 0, 0, 0, 0) ∧
    (t.hst.pringBase, t.hst.pringSize, t.hst.pbufSize, t.hst.iringBase, t.hst.iringSize) = (0, 6, 2048, 0, 6) ∧
    (t.hst.puntPi, t.hst.puntCi, t.hst.insPi, t.hst.insCi, t.hst.msix, t.hst.msixPend) = (0, 0, 0, 0, [], 0) ∧
    t.axg.jobs.map Job.work = s.axg.jobs.map Job.work ∧ (∀ j ∈ t.axg.jobs, j.ctx.via = .pcie → j.ctx.mute = true) ∧
    t.mem.bytes = s.mem.bytes ∧ t.keeps s [.start, .axg, .hst, .hier, .mem, .buf])) ∧
  (∀ s : State, exec .pePerstRelease s = .next { s with start := { s.start with perstN := true } }) ∧
  (∀ s : State, s.start.power = .run → s.start.perstN = true → s.start.pcieUp = false → s.start.mpi = .up ∨ s.start.mpi = .recovery →
    s.axg.rplWait = [] → s.axg.cmdPi = s.axg.cmdCi → s.axg.cmdPi < 2 ^ s.axg.cringSize →
    exec (.pcieLinkUp []) s = .next { s with
      start := { s.start with pcieUp := true }, axg := { s.axg with cmdRing := [] } }) ∧
  (∀ (s : State) (ws : List Word), s.start.power ≠ .run ∨ s.start.perstN = false ∨ s.start.pcieUp = true ∨ (s.start.mpi ≠ .up ∧ s.start.mpi ≠ .recovery) →
    exec (.pcieLinkUp ws) s = .next s)

/-- A cause that can be raised latches its bit and counts; in a running part the replay table, the session keys, both command keys and
BOOT_EPOCH are destroyed at once, PROVISIONED and OPERATIONAL become MANUFACTURE and ALARM_N is low. An input raises its cause again only
once it has been high. A fall of VBAT below 1.8 V sets VBAT_LOW; below 1.6 V the vault's state is lost. With supply, IDCODE selects the
identification register and SAMPLE is always decoded; SCAN_ACCESS is decoded only when scan is armed or the part is DECOMMISSIONED, the
other boundary instructions only while RESET_N is low, and every code not decoded is BYPASS. A TAP reset selects IDCODE. Where the spec
leaves a point open, the clauses rest on the model's reading or choice (log entries 12, 41). Completes: tamperDetected, jtagLoad,
jtagTapReset, vbatFall, tamperInputHigh (R571, R572, R568, R566, R457, R573). -/
def Obligations.TamperAndTap : Prop :=
  (∀ (s : State) (c : Nat), c < 2 → s.start.power = .run → s.tamper.vbatLost = false →
    (if c = 0 then s.tamper.armed0 else s.tamper.armed1) = true → Completes (.tamperDetected c) s (fun t =>
      t.tamper.latched = true ∧ t.tamper.count = inc8 s.tamper.count ∧ t.tamper.wiped = true ∧
      (if c = 0 then t.tamper.t0 = true ∧ t.tamper.armed0 = false else t.tamper.t1 = true ∧ t.tamper.armed1 = false) ∧
      t.mram.hostKey = none ∧ t.mram.sysKey = none ∧ t.mram.bootEpoch = 0 ∧ t.sesKeys = [] ∧ t.axg.replay = [] ∧ t.alarmLow = true ∧
      t.mram.lc = (if s.mram.lc = .decommissioned then .decommissioned else .manufacture) ∧
      t.keeps s [.tamper, .mram, .sesKeys, .axg, .sec, .alarms, .cru])) ∧
  (∀ (s : State) (c : Nat), c = 3 ∨ c = 4 → s.start.power = .run → Completes (.tamperDetected c) s (fun t =>
      t.tamper.latched = true ∧ t.tamper.wiped = true ∧ t.mram.hostKey = none ∧ t.mram.sysKey = none ∧ t.alarmLow = true)) ∧
  (∀ s : State, s.start.power ≠ .run → s.tamper.vbatLost = true → exec (.tamperDetected 2) s = .next { s with tamper :=
      { s.tamper with vbatLoss := true, vbatLost := false, vbatLow := false, count := 1, wiped := false } }) ∧
  (∀ (s : State) (c : Nat), c < 2 → s.tamper.vbatLost = true → exec (.tamperDetected c) s = .next s) ∧
  (∀ s : State, s.tamper.vbatLost = false →
    exec (.tamperInputHigh 0) s = .next { s with tamper := { s.tamper with armed0 := true } } ∧
    exec (.tamperInputHigh 1) s = .next { s with tamper := { s.tamper with armed1 := true } }) ∧
  (∀ s : State, exec (.vbatFall false) s = .next { s with tamper := { s.tamper with vbatLow := true } } ∧
    exec (.vbatFall true) s = .next { s with tamper := { vbatLow := true, vbatLost := true } }) ∧
  (∀ (s : State) (pads : List BPin), s.start.power ≠ .unpowered →
    exec (.jtagLoad .idcode pads) s = .next { s with hst := { s.hst with tap := .idcode }, out := s.out ++ [.read [0x196329E3]] } ∧
    exec (.jtagLoad .sample pads) s = .next { s with hst := { s.hst with tap := .sample, bsr := s.sampled pads } } ∧
    exec (.jtagLoad .other pads) s = .next { s with hst := { s.hst with tap := .bypass } } ∧
    exec (.jtagLoad .bypass pads) s = .next { s with hst := { s.hst with tap := .bypass } } ∧
    exec (.jtagLoad .scanAccess pads) s = .next { s with hst := { s.hst with
      tap := if s.sec.scanArmed = true ∨ s.mram.lc = .decommissioned then .scanAccess else .bypass } }) ∧
  (∀ (s : State) (i : Jtag) (pads : List BPin), s.start.power ≠ .unpowered →
    i = .extest ∨ i = .clamp ∨ i = .highz ∨ i = .extestPulse ∨ i = .extestTrain →
    (s.start.resetN = true → exec (.jtagLoad i pads) s = .next { s with hst := { s.hst with tap := .bypass } }) ∧
    (s.start.resetN = false → exec (.jtagLoad i pads) s = .next { s with hst := { s.hst with
      tap := i, bsr := if i = .clamp ∨ i = .highz then s.hst.bsr else s.sampled pads } })) ∧
  (∀ (s : State) (i : Jtag) (pads : List BPin), s.start.power = .unpowered → exec (.jtagLoad i pads) s = .next s) ∧
  (∀ s : State, exec .jtagTapReset s = .next { s with hst := { s.hst with tap := .idcode } })

/-- Accepted: a key load of a new key stores it, empties the replay table and returns BOOT_EPOCH to 0, except while WIPE_FAIL is set, and a
life-cycle change wipes, then stores the keys it carries, takes the new state and clears the tamper latch; a sequence reset drops one
source's entries or all; a scan enable replies first, then wipes and arms; the two status reads change nothing. Where the spec leaves a
point open, the clauses rest on the model's reading or choice (log entry 12). Completes: secLcSet, secLcStatus, secKeyLoad,
secTamperStatus, secScanEnable (R570, R581, R568, R566, R579, R583, R580, R573, R584). -/
def Obligations.SecurityCommands : Prop :=
  (∀ s p, s.accepts 0x0F02 (lenIs 9) p = true → bit (wd p.words 0) 0 = false → keyOf ((p.words.drop 1).take 8) ≠ 0 → s.sec.wipeFail = false →
    s.mram.hostKey ≠ some (keyOf ((p.words.drop 1).take 8)) →
    let a := s.accepted 0x0F02 p
    let u := { a with
      mram := { a.mram with hostKey := some (keyOf ((p.words.drop 1).take 8)), bootEpoch := 0 }, axg := { a.axg with replay := [] } }
    Answers (.secKeyLoad p) s 0x0F02 p u [pack [(0, 1), (1, s.mram.sysKey.isSome.toNat), (16, 0)]]) ∧
  (∀ s p, s.accepts 0x0F02 (lenIs 9) p = true → s.sec.wipeFail = true →
    ∃ r, Answers (.secKeyLoad p) s 0x0F02 p (s.accepted 0x0F02 p) r ∧ r.length = 1) ∧
  (∀ s p, s.accepts 0x0F00 lenLcSet p = true → fld (wd p.words 0) 31 16 = 0x4C43 → s.fused.secureDefect = false → s.sec.wipeFail = false →
    fld (wd p.words 0) 1 0 = 1 → Completes (.secLcSet p) s (fun t =>
      t.mram.lc = .provisioned ∧ t.mram.hostKey = some (keyOf ((p.words.drop 1).take 8)) ∧
      t.mram.sysKey = some (keyOf ((p.words.drop 9).take 8)) ∧ t.mram.bootEpoch = 0 ∧ t.sesKeys = [] ∧ t.axg.replay = [] ∧
      t.tamper.latched = false)) ∧
  (∀ s p, s.accepts 0x0F00 lenLcSet p = true → fld (wd p.words 0) 31 16 = 0x4C43 → fld (wd p.words 0) 1 0 = 3 →
    Completes (.secLcSet p) s (fun t => t.mram.lc = .decommissioned ∧ t.mram.hostKey = none ∧ t.mram.sysKey = none ∧ t.sec.fuse = true)) ∧
  (∀ s p, s.accepts 0x0F00 lenLcSet p = true → fld (wd p.words 0) 31 16 ≠ 0x4C43 →
    Answers (.secLcSet p) s 0x0F00 p (s.accepted 0x0F00 p) [pack [(0, lcCode s.mram.lc), (2, lcCode s.mram.lc), (4, 0), (5, 0)]]) ∧
  (∀ s p, s.accepts 0x0F05 (lenIs 0) p = true → Completes (.secScanEnable p) s (fun t =>
    t.sec.scanArmed = (!s.sec.wipeFail && !s.fused.secureDefect) ∧ t.mram.hostKey = none ∧ t.mram.sysKey = none ∧ t.sesKeys = [] ∧
    t.mram.lc = .manufacture)) ∧
  (∀ s p, s.accepts 0x0F01 (lenIs 0) p = true → ∃ r, Answers (.secLcStatus p) s 0x0F01 p (s.accepted 0x0F01 p) r ∧ r.length = 2 ∧
    fld (wd r 0) 1 0 = lcCode s.mram.lc ∧ wd r 1 = w32 s.mram.bootEpoch) ∧
  (∀ s p, s.accepts 0x0F04 (lenIs 0) p = true → ∃ r, Answers (.secTamperStatus p) s 0x0F04 p (s.accepted 0x0F04 p) r ∧ r.length = 1 ∧
    bit (wd r 0) 0 = s.tamper.t0 ∧ bit (wd r 0) 1 = s.tamper.t1 ∧ bit (wd r 0) 5 = s.tamper.wiped)

/-- A segment with MORE = 1 that this part takes is kept as the newest partial command: after the words of the command it continues when it
has its source, opcode, TAG and destination, alone otherwise; the partial commands of other sources stay, but for the oldest one when 64
others are held; only the replay table may change beside. A row whose packet has MORE = 0 changes nothing. A packet for another DEVICE_ID
that a manager takes leaves in band to the child whose range holds it, with a relay record; it is answered NOT_MANAGER by a device without
manager functions, UNREACHABLE when no child covers the destination or the child is absent, and DENIED with DETAIL 3 for the host's
SRC_ID. A refused command in segments has its one reply at its last segment. Where the spec leaves a point open, the clauses rest on the
model's reading or choice (log entries 5, 45). Completes: axgSegment, axgRelay (R69, R56, R63, R85, R86, R87, R329, R57, R65). -/
def Obligations.SegmentsAndRelay : Prop :=
  (∀ (s : State) (op : Nat) (p : Pkt), p.more = true → s.takes p.via = true → s.room op p = true → s.relays p = false →
    Completes (.axgSegment op p) s (fun t => t.keeps s [.axg] ∧
      let rest := s.axg.partials.filter (fun x => decide (x.srcId ≠ p.srcId))
      let mine := s.axg.partials.find? (fun x => decide (x.srcId = p.srcId))
      ∃ x : Partial, x.srcId = p.srcId ∧ x.op = op ∧ x.tag = p.tag ∧ x.destId = p.destId ∧
        t.axg.partials = (if mine = none ∧ 64 ≤ rest.length then rest.drop 1 else rest) ++ [x] ∧
        (∀ o, mine = some o → Partial.continues op p o = true → x.words = o.words ++ p.words ∧ t.axg.reasmDrop = s.axg.reasmDrop) ∧
        (∀ o, mine = some o → Partial.continues op p o = false → x.words = p.words ∧ t.axg.reasmDrop = inc8 s.axg.reasmDrop) ∧
        (mine = none → x.words = p.words ∧ t.axg.reasmDrop = if 64 ≤ rest.length then inc8 s.axg.reasmDrop else s.axg.reasmDrop))) ∧
  (∀ (s : State) (op : Nat) (p : Pkt), p.more = false → exec (.axgSegment op p) s = .next s) ∧
  (∀ (s : State) (op : Nat) (p : Pkt) (k : Nat) (w : Worker), s.relays p = true → s.takes p.via = true → s.room op p = true → s.isMi = true →
    s.axg.relays.find? (Relay.continues op p) = none → s.axg.tails.find? (RelayTail.continues op p) = none →
    s.inRange p.destId = true → s.childFor p.destId = some (k, w) → w.pres ≠ .absent → p.srcId ≠ 0x3FFFF → s.pairGateOpen = true →
    exec (.axgRelay op p) s = .next { s with
      axg := { s.axg with relays := s.axg.relays ++ [{ tag := p.tag, srcId := p.srcId, child := w.childId, mac := w.mac, back := .carrier (s.plainCtx op p), op := op, destId := p.destId, more := p.more }] }
      buf := { s.buf with iqCmd := s.buf.iqCmd ++ (s.linkPackets (relayWords op p)).map (s.axgFrame w.port w.mac w.tci) } }) ∧
  (∀ (s : State) (op : Nat) (p : Pkt), s.relays p = true → s.takes p.via = true → s.room op p = true →
    s.axg.relays.find? (Relay.continues op p) = none → s.axg.tails.find? (RelayTail.continues op p) = none →
    (p.more = false →
      (s.isMi = false → exec (.axgRelay op p) s = .next (s.err (s.plainCtx op p) 0x0070 0)) ∧
      (s.isMi = true → s.inRange p.destId = false ∨ s.childFor p.destId = none →
        exec (.axgRelay op p) s = .next (s.err (s.plainCtx op p) 0x0040 1)) ∧
      (∀ k w, s.isMi = true → s.inRange p.destId = true → s.childFor p.destId = some (k, w) → w.pres = .absent →
        exec (.axgRelay op p) s = .next (s.err (s.plainCtx op p) 0x0040 2)) ∧
      (∀ k w, s.isMi = true → s.inRange p.destId = true → s.childFor p.destId = some (k, w) → w.pres ≠ .absent → p.srcId = 0x3FFFF →
        exec (.axgRelay op p) s = .next (s.err (s.plainCtx op p) 0x0020 3))) ∧
    (∀ st d, p.more = true → s.relayCheck p = .inl (st, d) → exec (.axgRelay op p) s = .next { s with axg := { s.axg with
      tails := addTail { srcId := p.srcId, op := op, tag := p.tag, destId := p.destId, owed := some (st, d) } s.axg.tails } })) ∧
  (∀ (s : State) (op : Nat) (p : Pkt) (x : RelayTail) (st d : Nat), s.relays p = true → s.takes p.via = true → s.room op p = true →
    s.axg.relays.find? (Relay.continues op p) = none → s.axg.tails.find? (RelayTail.continues op p) = some x → x.owed = some (st, d) →
    exec (.axgRelay op p) s = .next (if p.more then s
      else ({ s with axg := { s.axg with tails := s.axg.tails.erase x } }).err (s.plainCtx op p) st d)) ∧
  (∀ (s : State) (op : Nat) (p : Pkt), s.relays p = false → exec (.axgRelay op p) s = .next s)

/-- With the link up, a command ring write fetches the slots up to the new index: a packet that fits one slot is dispatched by its opcode and
its slot consumed, a header that is no AXG header counts BAD_HDR, and a packet without room waits; the other three doorbells store their
index modulo the ring's size. With the link down none has an effect. While the part runs with its management plane, a status read returns
CMD_SPACE, RPL_READY and SPI_OVF and clears SPI_OVF; a get returns the head of the reply queue, which leaves it only when wholly clocked
out; a put without space sets SPI_OVF, and a put with space hands a packet that fits to its opcode at once. Otherwise the port does not
answer. Where the spec leaves a point open, the clauses rest on the model's reading or choice (log entries 5, 40). Completes: cmdPi,
rplCi, puntPi, insPi, spiPut, spiGet, spiStat (R75, R78, R445, R55, R67, R79, R80, R81, R663). -/
def Obligations.DoorbellsAndSpi : Prop :=
  (∀ (s : State) (pi : Nat) (ws : List Word) (op : Nat) (p : Pkt), s.start.pcieUp = true → s.start.power = .run →
    s.start.mpi = .up ∨ s.start.mpi = .recovery → s.axg.cmdRing = [] → s.slotsTo pi = 1 → ws.length = 16 → wd ws 0 ≠ 0 →
    State.pktWords ws ≤ 16 → parsePacket .pcie (ws.take (State.pktWords ws)) = .cmd op p →
    let f := { s with axg := { s.axg with cmdPi := pi % 2 ^ s.axg.cringSize, cmdRing := ws } }
    exec (.cmdPi pi ws) s = .next (if s.room op p then (f.consumeSlots 1).dispatch op p else f)) ∧
  (∀ (s : State) (pi : Nat) (ws : List Word), s.start.pcieUp = true → s.start.power = .run → s.start.mpi = .up →
    s.axg.cmdRing = [] → s.slotsTo pi = 1 → ws.length = 16 → fld (wd ws 0) 31 24 ≠ 0xA7 → wd ws 0 ≠ 0 →
    exec (.cmdPi pi ws) s = .next { s with axg := { s.axg with
      cmdPi := pi % 2 ^ s.axg.cringSize, cmdRing := [], cmdCi := (s.axg.cmdCi + 1) % 2 ^ s.axg.cringSize, badHdr := inc8 s.axg.badHdr } }) ∧
  (∀ (s : State) (v : Nat), s.start.pcieUp = true → s.axg.rplWait = [] →
    exec (.rplCi v) s = .next { s with axg := { s.axg with rplCi := v % 2 ^ s.axg.rringSize } }) ∧
  (∀ (s : State) (v : Nat), s.start.pcieUp = true →
    exec (.puntPi v) s = .next { s with hst := { s.hst with puntPi := v % 2 ^ s.hst.pringSize } } ∧
    exec (.insPi v) s = .next { s with hst := { s.hst with insPi := v % 2 ^ s.hst.iringSize } }) ∧
  (∀ (s : State) (v : Nat) (ws : List Word), s.start.pcieUp = false →
    exec (.cmdPi v ws) s = .next s ∧ exec (.rplCi v) s = .next s ∧ exec (.puntPi v) s = .next s ∧ exec (.insPi v) s = .next s) ∧
  (∀ s : State, s.spiAnswers = true → exec .spiStat s = .next { s with
    axg := { s.axg with spiOvf := false }
    out := s.out ++ [.read [pack [(0, s.cmdSpace.toNat), (1, (!s.axg.spiQ.isEmpty).toNat), (2, s.axg.spiOvf.toNat)]]] }) ∧
  (∀ (s : State) (pkt : List Word) (t : List (List Word)), s.spiAnswers = true → s.axg.spiQ = pkt :: t →
    exec (.spiGet true) s = .next { s with axg := { s.axg with spiQ := t }, out := s.out ++ [.read pkt] } ∧
    exec (.spiGet false) s = .next { s with out := s.out ++ [.read pkt] }) ∧
  (∀ (s : State) (d : Bool), s.spiAnswers = true → s.axg.spiQ = [] → exec (.spiGet d) s = .next { s with out := s.out ++ [.read [0]] }) ∧
  (∀ (s : State) (ws : List Word), s.spiAnswers = true → s.cmdSpace = false →
    exec (.spiPut ws) s = .next { s with axg := { s.axg with spiOvf := true } }) ∧
  (∀ (s : State) (ws : List Word) (op : Nat) (p : Pkt), s.spiAnswers = true → s.cmdSpace = true → s.axg.spiBuf = [] → s.takes .spi = true →
    parsePacket .spi (ws.take (max 4 (State.pktWords ws))) = .cmd op p → s.room op p = true →
    exec (.spiPut ws) s = .next (s.dispatch op p)) ∧
  (∀ (s : State) (ws : List Word) (d : Bool), s.spiAnswers = false →
    exec (.spiPut ws) s = .next s ∧ exec (.spiGet d) s = .next s ∧ exec .spiStat s = .next s)

/-- With the link up: writing 1 to XO_LOSS or REF_DISAGREE clears it; a PLANE_STATUS write waits in IQ_REG and clears its bits when the data
plane applies it; a read of AXG_ERR returns its four counts and clears them; a register write stores its clamped value and sends it on to
the copy in DPI, and a write to any other offset is ignored; unmasking a pending MSI-X vector signals it. With the link down no host
access has an effect. Where the spec leaves a point open, the clauses rest on the model's reading or choice (log entries 57, 82).
Completes: clkStatusW1c, planeStatusW1c, refStateW1c, axgErrRead, registerWrite, regOperation (R48, R369, R50, R28, R29, R95, R14, R77,
R443, R444, R438, R441). -/
def Obligations.HostRegisters : Prop :=
  (∀ (s : State) (v : Word), s.start.pcieUp = true →
    exec (.clkStatusW1c v) s = .next { s with clk := { s.clk with xoLoss := s.clk.xoLoss && !bit v 29 } } ∧
    exec (.refStateW1c v) s = .next { s with refs := { s.refs with disagree := s.refs.disagree && !bit v 31 } }) ∧
  (∀ (s : State) (v : Word), s.start.pcieUp = true →
    exec (.planeStatusW1c v) s = .next (if s.buf.regWait = [] ∧ s.buf.pqReg.length + s.buf.iqReg.length < 1024
      then { s with buf := { s.buf with iqReg := s.buf.iqReg ++ [.planeW1C v] } }
      else { s with buf := { s.buf with regWait := s.buf.regWait ++ [.planeW1C v] } })) ∧
  (∀ (s : State) (v : Word) (l : List RegOp), s.buf.regWait = [] → s.buf.iqReg = .planeW1C v :: l → exec .regOperation s = .next { s with
    clk := { s.clk with
      tpFault := s.clk.tpFault && !bit v 29, mbxEvtLost := s.clk.mbxEvtLost && !bit v 28, pqRegEvtLost := s.clk.pqRegEvtLost && !bit v 27 }
    buf := { s.buf with iqReg := l } }) ∧
  (∀ (s : State) (r : HostRegs) (l : List RegOp), s.buf.regWait = [] → s.buf.iqReg = .copy r :: l →
    exec .regOperation s = .next { s with hst := { s.hst with copy := r }, buf := { s.buf with iqReg := l } }) ∧
  (∀ s : State, s.buf.iqReg = [] → s.buf.regWait = [] → exec .regOperation s = .next s) ∧
  (∀ s : State, s.start.pcieUp = true → exec .axgErrRead s = .next { s with
    axg := { s.axg with badHdr := 0, malformed := 0, authFails := 0, reasmDrop := 0 }
    out := s.out ++ [.read [pack [(24, s.axg.badHdr), (16, s.axg.malformed), (8, s.axg.authFails), (0, s.axg.reasmDrop)]]] }) ∧
  (∀ (s : State) (v : Word), s.start.pcieUp = true →
    exec (.registerWrite 0x60 v) s = .next (({ s with axg := { s.axg with axgWb := s.axg.axgWb / 2 ^ 32 * 2 ^ 32 + v.toNat / 8 * 8 } }).copyRegs) ∧
    exec (.registerWrite 0x64 v) s = .next (({ s with axg := { s.axg with axgWb := v.toNat * 2 ^ 32 + s.axg.axgWb % 2 ^ 32 } }).copyRegs) ∧
    exec (.registerWrite 0x68 v) s = .next (({ s with axg := { s.axg with axgVec := min 63 (fld v 10 0), axgVecEn := bit v 31 } }).copyRegs) ∧
    exec (.registerWrite 0x8C v) s = .next (({ s with hst := { s.hst with pbufSize := clamp 2048 16384 (fld v 14 0 / 64 * 64) } }).copyRegs) ∧
    exec (.registerWrite 0xA8 v) s = .next (({ s with hst := { s.hst with puntVec := min 63 (fld v 10 0), puntVecEn := bit v 31 } }).copyRegs)) ∧
  (∀ (s : State) (v : Word), s.start.pcieUp = true → Completes (.registerWrite 0x48 v) s (fun t =>
    t.axg.cringSize = clamp 6 16 (fld v 4 0) ∧ t.keeps s [.axg, .buf] ∧
    (clamp 6 16 (fld v 4 0) ≠ s.axg.cringSize → t.axg.cmdRing = [] ∧ t.axg.cmdCi = t.axg.cmdPi ∧ t.axg.cmdPi = s.axg.cmdPi % 2 ^ t.axg.cringSize))) ∧
  (∀ (s : State) (vec : Nat), s.start.pcieUp = true → vec < 64 → s.hst.msixPend.testBit vec = true → Completes (.registerWrite (0x3000C + 16 * vec) 0) s (fun t =>
    t.out = s.out ++ [.msix vec] ∧ t.hst.msixPend.testBit vec = false ∧ t.keeps s [.hst, .out, .buf])) ∧
  (∀ (s : State) (off : Nat) (v : Word), s.start.pcieUp = true → 0xB0 ≤ off → off < 0x30000 ∨ 0x30400 ≤ off ∨ off % 4 ≠ 0 →
    exec (.registerWrite off v) s = .next s) ∧
  (∀ (s : State) (off : Nat) (v : Word), s.start.pcieUp = false →
    exec (.registerWrite off v) s = .next s ∧ exec (.clkStatusW1c v) s = .next s ∧ exec (.refStateW1c v) s = .next s ∧
    exec (.planeStatusW1c v) s = .next s ∧ exec .axgErrRead s = .next s)

/-- With RESET_N high and the timing plane in service: word 4n returns the seconds of time base n two ticks earlier and fills the three words
after it from the same tick; words 59 and 60 are that tick's count; word 61 is REF_STATE; a read of SNAP_STATUS moves the pending capture
into the snap words. With the timing plane out of service the time words read 0 and word 61 reads 7; in reset no word is returned. A read
of the counter page returns the counter and holds its other words. Where the spec leaves a point open, the clauses rest on the model's
reading or choice (log entry 40). Completes: sbpTimeRead, sbpSnapStatusRead, cntPageRead, sbpSnapEdge (R452, R453, R455, R456, R454, R369,
R615). -/
def Obligations.ShosibinPort : Prop :=
  (∀ (s : State) (n : Nat), n < 8 → s.start.resetN = true → s.clk.tpUp = true → Completes (.sbpTimeRead (4 * n)) s (fun t =>
    let x := (s.tb n).pastAt s.clk.tick (s.clk.tick - 2)
    let v := if x.val < nominalU x.at_ - nominalU (s.clk.tick - 2) then 0 else x.valueAt (s.clk.tick - 2)
    t.out = s.out ++ [.read [wd (timeWords v) 0]] ∧ t.keeps s [.hst, .out] ∧
    (Tab.sorted s.hst.sbpHold = true →
      Tab.get wordReset t.hst.sbpHold (4 * n + 1) = wd (timeWords v) 1 ∧ Tab.get wordReset t.hst.sbpHold (4 * n + 2) = wd (timeWords v) 2))) ∧
  (∀ s : State, s.start.resetN = true → s.clk.tpUp = true →
    exec (.sbpTimeRead 59) s = .next { s with
      hst := { s.hst with sbpHold := Tab.put wordReset s.hst.sbpHold 60 (w32 (s.clk.tick - 2)) }
      out := s.out ++ [.read [w32 ((s.clk.tick - 2) / 2 ^ 32)]] }) ∧
  (∀ s : State, s.start.resetN = true → s.clk.tpUp = true →
    exec (.sbpTimeRead 61) s = .next { s with out := s.out ++ [.read [s.refState]] } ∧
    exec (.sbpTimeRead 60) s = .next { s with out := s.out ++ [.read [Tab.get wordReset s.hst.sbpHold 60]] } ∧
    exec (.sbpTimeRead 62) s = .next { s with out := s.out ++ [.read [0x5B1D0001]] }) ∧
  (∀ (s : State) (w : Nat), w < 64 → s.start.resetN = true → s.clk.tpUp = false →
    exec (.sbpTimeRead w) s = .next { s with out := s.out ++ [.read [if w = 61 then 7 else 0]] }) ∧
  (∀ (s : State) (w : Nat), s.start.resetN = false → exec (.sbpTimeRead w) s = .next s) ∧
  (∀ s : State, s.clk.tpUp = true → s.hst.snapPend = none → exec .sbpSnapStatusRead s = .next { s with
    hst := { s.hst with snapOverrun := 0, snapMissed := 0 }, out := s.out ++ [.read [pack [(8, s.hst.snapOverrun), (0, s.hst.snapMissed)]]] }) ∧
  (∀ (s : State) (ws : List Word) (u c : Bool), s.clk.tpUp = true → s.hst.snapPend = some (ws, u, c) → Completes .sbpSnapStatusRead s (fun t =>
    t.hst.snapPend = none ∧ t.hst.snapOverrun = 0 ∧ t.hst.snapMissed = 0 ∧ t.keeps s [.hst, .out])) ∧
  (∀ (s : State) (ago f8 : Nat), s.clk.tpUp = true → s.hst.snapLast = none → Completes (.sbpSnapEdge ago f8) s (fun t =>
    t.keeps s [.hst] ∧ t.hst.snapMissed = s.hst.snapMissed ∧
    t.hst.snapOverrun = (if s.hst.snapPend.isSome then inc8 s.hst.snapOverrun else s.hst.snapOverrun) ∧
    ∃ x, t.hst.snapPend = some x ∧ x.1.length = 26)) ∧
  (∀ (s : State) (k : Nat), s.start.pcieUp = true → s.cnt.user = true → k < 208 → Completes (.cntPageRead k 0) s (fun t =>
    t.keeps s [.cnt, .out, .clk, .hst, .buf] ∧ t.out = s.out ++ [.read [w32 (s.cntValue k).1]] ∧
    (s.buf.iqReg = [] → s.buf.regWait = [] → t.keeps s [.cnt, .out]))) ∧
  (∀ (s : State) (k w : Nat), s.start.pcieUp = true → s.cnt.user = false ∨ 208 ≤ k →
    exec (.cntPageRead k w) s = .next { s.drainReg with out := s.out ++ [.read [0]] })

/-- The head of PQ_HOST goes into the next posted buffer: its bytes up to the buffer's size, then its descriptor, and the consumer index moves
on. An insert descriptor before INS_PI is fetched with its frame into IQ_HOST, or, when its frame is too long for its port, completes as
dropped; the oldest descriptor completes once its frame has left, with DONE set and its stamp when it asked for one. Where the spec leaves
a point open, the clauses rest on the model's reading or choice (log entries 40, 41). Completes: puntDescriptorFill,
insertDescriptorFetch, insertDescriptorDone (R446, R447, R448, R449). -/
def Obligations.HostRings : Prop :=
  (∀ (s : State) (addr : Nat) (x : PuntItem) (f : Frame), s.start.pcieUp = true → s.hst.puntCi ≠ s.hst.puntPi →
    s.puntHead 2 (fun _ => true) = some (x, f) → s.hst.puntVecEn = false → Completes (.puntDescriptorFill addr) s (fun t =>
      t.hst.puntCi = (s.hst.puntCi + 1) % 2 ^ s.hst.pringSize ∧ t.buf.punted = s.buf.punted.erase x ∧
      t.mem.bytes = s.mem.bytes ∧
      ∃ o, t.out = s.out ++ .hostWrite addr (f.bytes.take s.hst.pbufSize) :: o ∧ o.length = 3)) ∧
  (∀ (s : State) (addr : Nat), s.start.pcieUp = false ∨ s.hst.puntCi = s.hst.puntPi ∨ s.puntHead 2 (fun _ => true) = none →
    exec (.puntDescriptorFill addr) s = .next s) ∧
  (∀ (s : State) (ws : List Word) (bs : List Byte), s.start.pcieUp = true → s.hst.insFetch ≠ s.hst.insPi → s.buf.iqHost.length < 4096 →
    bit (wd ws 2) 16 = true → Completes (.insertDescriptorFetch ws bs) s (fun t => t.keeps s [.hst, .buf] ∧
      t.hst.insFetch = (s.hst.insFetch + 1) % 2 ^ s.hst.iringSize ∧
      ∃ i : Ins, t.buf = { s.buf with iqHost := s.buf.iqHost ++ [i] } ∧ i.bytes = padTo (fld (wd ws 2) 13 0) bs ∧ i.lookup = true ∧
        i.cls = min 8 (fld (wd ws 2) 20 17) ∧ i.insIdx = some s.hst.insFetch)) ∧
  (∀ (s : State) (ws : List Word) (bs : List Byte), s.start.pcieUp = true → s.hst.insFetch ≠ s.hst.insPi → s.buf.iqHost.length < 4096 →
    bit (wd ws 2) 16 = false → (s.port (min 103 (fld (wd ws 2) 30 24))).maxFrame < fld (wd ws 2) 13 0 + 4 →
    Completes (.insertDescriptorFetch ws bs) s (fun t => t.keeps s [.hst] ∧
      ∃ d : InsDesc, t.hst.insDescs = s.hst.insDescs ++ [d] ∧ d.idx = s.hst.insFetch ∧ d.ready = true ∧ d.dropped = true)) ∧
  (∀ (s : State) (d : InsDesc) (l : List InsDesc), s.start.pcieUp = true → s.hst.insDescs = d :: l → d.ready = true → d.stamp = none →
    s.hst.insVecEn = false → exec .insertDescriptorDone s = .next { s with
      hst := { s.hst with insDescs := l, insCi := (d.idx + 1) % 2 ^ s.hst.iringSize }
      out := s.out ++ [.hostWrite (s.hst.iringBase + 32 * d.idx + 12)
          (wordBytesLE [(d.word3 &&& 0x3FFFFFFF) ||| pack [(30, d.dropped.toNat), (31, 1)]]),
        .hostWrite s.hst.dmaWb (bytesLE 4 s.hst.puntCi ++ bytesLE 4 ((d.idx + 1) % 2 ^ s.hst.iringSize))] }) ∧
  (∀ s : State, s.hst.insDescs = [] ∨ s.start.pcieUp = false → exec .insertDescriptorDone s = .next s)

/-- Accepted: MEM.WRITE stores its words, least significant byte first, below the secure region, and no other byte changes; MEM.READ of
controller memory returns the bytes of each word and changes nothing; MEM.IMAGE_WRITE with data waits for one job of code 11 for each 4
KiB unit it touches; MEM.BGTEST begins a test whose regions each wait for a job of code 10, and its STOP form notes the stop. A write
through the window that lies in controller memory, with the link up in RUN, stores its bytes at the addresses below the secure region, one
by one, and leaves every other byte; a byte of the secure region reads 0 before and after. A write outside the window, or with the link
down, stores nothing. Where the spec leaves a point open, the clauses rest on the model's reading or choice (log entry 9). Completes:
memRead, memWrite, memImageWrite, memBgtest, memBgtestStop, hostWindowWrite (R599, R600, R601, R602, R442, R485, R585). -/
def Obligations.MemoryCommands : Prop :=
  (∀ s p, s.accepts 0x1001 (lenAtLeast 1) p = true → s.memOk = true →
    let off := fld (wd p.words 0) 20 0 / 4 * 4
    let n := min (p.words.length - 1) ((0x1E0000 - off) / 4)
    ∃ u, Answers (.memWrite p) s 0x1001 p u [w32 off, w32 n] ∧ u.keeps (s.accepted 0x1001 p) [.mem] ∧ u.memOk = true ∧
      u.mem = { s.mem with bytes := u.mem.bytes, shadow := u.mem.shadow } ∧
      ∀ a, u.memByte a = if off ≤ a ∧ a < off + 4 * n then (wordBytesLE (p.words.drop 1)).getD (a - off) 0 else s.memByte a) ∧
  (∀ s p, s.accepts 0x1000 (lenIs 3) p = true → bit (wd p.words 0) 0 = false →
    let off := min (fld (wd p.words 1) 22 0 / 4 * 4) 0x1FFFFC
    let n := min (min 1022 (fld (wd p.words 2) 9 0)) ((0x200000 - off) / 4)
    ∃ r, Answers (.memRead p) s 0x1000 p (s.accepted 0x1000 p) r ∧ r.length = n + 1 ∧ wd r 0 = w32 off ∧
      ∀ j, j < n → wd r (j + 1) = w32 (ofBytesLE ((List.range 4).map (fun i => s.memByte (off + 4 * j + i))))) ∧
  (∀ s p, s.accepts 0x1000 (lenIs 3) p = true → bit (wd p.words 0) 0 = true →
    ∃ r, Answers (.memRead p) s 0x1000 p (s.accepted 0x1000 p) r ∧ wd r 0 = w32 (min (fld (wd p.words 1) 22 0 / 4 * 4) 0x7FFFFC)) ∧
  (∀ s p, s.accepts 0x1002 (lenAtLeast 2) p = true → 2 < p.words.length → Completes (.memImageWrite p) s (fun t =>
    t.mram = s.mram ∧ t.axg.jobs.length = s.axg.jobs.length + 1 ∧ t.led.waiting.length = s.led.waiting.length +
      (let off := min 1572860 (fld (wd p.words 1) 20 0) / 4 * 4
       let n := min (p.words.length - 2) ((0x180000 - off) / 4)
       (off + 4 * n - 1) / 4096 - off / 4096 + 1) ∧ t.keeps s [.axg, .led, .buf])) ∧
  (∀ s p, s.accepts 0x1002 (lenAtLeast 2) p = true → p.words.length = 2 →
    Answers (.memImageWrite p) s 0x1002 p (s.accepted 0x1002 p)
      [w32 (fld (wd p.words 0) 0 0), w32 (min 1572860 (fld (wd p.words 1) 20 0) / 4 * 4), 0]) ∧
  (∀ s p, s.accepts 0x1003 (lenIs 3) p = true → bit (wd p.words 0) 0 = false → s.mem.bg = none → s.mem.retired = none →
    let first := min 479 (fld (wd p.words 1) 8 0)
    let count := min (fld (wd p.words 2) 9 0) (480 - first)
    count ≠ 0 → exec (.memBgtest p) s = .next
      (({ s.accepted 0x1003 p with mem := { s.mem with
        bg := some { first := first, count := count, owner := some (s.ctxOf 0x1003 p) } } }).queueJob 10 60 .bgRegion)) ∧
  (∀ s p, s.accepts 0x1003 (lenIs 3) p = true → bit (wd p.words 0) 0 = true →
    Answers (.memBgtestStop p) s 0x1003 p
      { s.accepted 0x1003 p with mem := { s.mem with bg := s.mem.bg.map (fun (b : BgTest) => { b with stop := true }) } }
      [pack [(17, s.mem.retired.isSome.toNat), (18, 0)], 0x1FF, 0]) ∧
  (∀ (s : State) (off : Nat) (bs : List Byte), s.memOk = true → s.start.power = .run → s.start.pcieUp = true → off + bs.length ≤ 0x200000 →
    Completes (.hostWindowWrite off bs) s (fun t => t.keeps s [.mem] ∧ t.mem = { s.mem with bytes := t.mem.bytes, shadow := t.mem.shadow } ∧ t.memOk = true ∧
      ∀ a, t.memByte a = if 0x1E0000 ≤ a then 0 else if off ≤ a ∧ a < off + bs.length then bs.getD (a - off) 0 else s.memByte a)) ∧
  (∀ (s : State) (off : Nat) (bs : List Byte), s.start.power ≠ .run ∨ s.start.pcieUp = false ∨ 0x200000 < off + bs.length →
    exec (.hostWindowWrite off bs) s = .next s)

/-- A borrowed region goes from COPY, which copies it into the shadow, to SWITCH, from which the shadow serves it, TEST, which leaves it 0,
RESTORE, which copies the shadow back, and RELEASE, which zeroes the shadow; a region whose test finds failing words is retired and ends
the test; after RELEASE the test ends when its count is reached or it was stopped, and else the next region waits for its job. From a
state whose shadow fits the step of the region it serves, every byte of controller memory reads as before each step, and the shadow fits
the next. The oldest MRAM write in progress ends when its write completes, and controller memory stays. Completes: borrowStepComplete,
mramWriteComplete (R592, R593, R602, R596, R601, R639). -/
def Obligations.MemoryEvents : Prop :=
  (∀ (s : State) (b : BgTest), s.mem.bg = some b →
    let r := b.first + b.tested
    let m := s.mem
    (b.step = some .copy → exec (.borrowStepComplete 0) s = .next { s with mem := { m with
      shadow := (m.bytes.filter (fun e => decide (e.1 / 4096 = r))).map (fun e => (e.1 % 4096, e.2)), bg := some { b with step := some .switch } } }) ∧
    (b.step = some .switch → exec (.borrowStepComplete 0) s = .next { s with mem := { m with
      inUse := some r, bg := some { b with step := some .test } } }) ∧
    (b.step = some .test → exec (.borrowStepComplete 0) s = .next { s with mem := { m with
      bytes := m.bytes.filter (fun e => decide (e.1 / 4096 ≠ r)), bg := some { b with step := some .restore } } }) ∧
    (b.step = some .restore → exec (.borrowStepComplete 0) s = .next { s with mem := { m with
      bytes := m.bytes.filter (fun e => decide (e.1 / 4096 < r)) ++ m.shadow.map (fun e => (4096 * r + e.1, e.2)) ++
        m.bytes.filter (fun e => decide (r < e.1 / 4096)), bg := some { b with step := some .release } } }) ∧
    (b.step = some .release → b.stop = false → b.owner.isSome = true → b.tested + 1 < b.count →
      exec (.borrowStepComplete 0) s = .next (({ s with mem := { m with inUse := none, shadow := []
                                                                        bg := some { b with tested := b.tested + 1, step := none } } }).queueJob
        10 60 .bgRegion))) ∧
  (∀ (s : State) (n : Nat), s.memOk = true → s.mem.borrowOk = true → Completes (.borrowStepComplete n) s (fun t =>
    t.memOk = true ∧ t.mem.borrowOk = true ∧ ∀ a, t.memByte a = s.memByte a)) ∧
  (∀ (s : State) (b : BgTest) (n : Nat), s.mem.bg = some b → b.step = some .test → 0 < n → Completes (.borrowStepComplete n) s (fun t =>
    t.mem.retired = some (b.first + b.tested) ∧ t.mem.inUse = s.mem.inUse ∧ t.mem.shadow = s.mem.shadow)) ∧
  (∀ (s : State) (n : Nat), s.mem.bg = none → exec (.borrowStepComplete n) s = .next s) ∧
  (∀ s : State, s.mem.writes = [] → exec .mramWriteComplete s = .next s) ∧
  (∀ (s : State) (x : JobFor) (l : List JobFor), s.mem.writes = x :: l → Completes .mramWriteComplete s (fun t =>
    t.mem.writes = l ∧ t.mem.bytes = s.mem.bytes))

/-- Accepted, BELLOWS.BUDGET with WRITE 1 stores its clamped values, and a change of LEDGER_EN has the head of the queue tested;
BELLOWS.HOLDUP with WRITE 1 stores its clamped values for the next mean, and HU_EN 0 clears HU_LOW at once; neither changes another part,
and without WRITE they store nothing; BELLOWS.REPORT replies with 26 words and, with CLEAR, returns the peaks to 0; BELLOWS.COSTS replies
with the twelve rows of the job table and changes nothing. Where the spec leaves a point open, the clauses rest on the model's reading or
choice (log entry 11). Completes: bellowsBudget, bellowsHoldup, bellowsReport, bellowsCosts (R503, R504, R505, R506, R494, R70). -/
def Obligations.LedgerCommands : Prop :=
  (∀ s p, s.accepts 0x0A00 (lenIs 3) p = true → bit (wd p.words 0) 31 = true →
    let ws := p.words
    let u := { s.accepted 0x0A00 p with led := { s.led with
      budget := clamp 1 100000 (fld (wd ws 1) 16 0), enable := bit (wd ws 1) 31, window := clamp 10 10000 (fld (wd ws 2) 13 0)
      test := s.led.test || decide (bit (wd ws 1) 31 ≠ s.led.enable) } }
    Answers (.bellowsBudget p) s 0x0A00 p u [pack [(31, 1)], pack [(0, u.led.budget), (31, u.led.enable.toNat)], w32 u.led.window]) ∧
  (∀ s p, s.accepts 0x0A00 (lenIs 3) p = true → bit (wd p.words 0) 31 = false →
    Answers (.bellowsBudget p) s 0x0A00 p (s.accepted 0x0A00 p)
      [pack [(31, 0)], pack [(0, s.led.budget), (31, s.led.enable.toNat)], w32 s.led.window]) ∧
  (∀ s p, s.accepts 0x0A01 (lenIs 4) p = true → bit (wd p.words 0) 31 = true →
    let ws := p.words
    let h : HuCfg := { en := bit (wd ws 0) 0, eff := clamp 50 100 (fld (wd ws 0) 14 8), cap := clamp 10 1000000 (fld (wd ws 1) 19 0), vmin := clamp 1000 60000 (fld (wd ws 2) 15 0), ratio := clamp 100 10000 (fld (wd ws 2) 29 16), load := min 50000 (fld (wd ws 3) 15 0), gaspPort := if fld (wd ws 3) 22 16 < 104 then fld (wd ws 3) 22 16 else 0x7F }
    ∃ r, r.length = 4 ∧ Answers (.bellowsHoldup p) s 0x0A01 p { s.accepted 0x0A01 p with
      led := { s.led with huNext := some h, huLow := s.led.huLow && h.en }, alarms := { s.alarms with huLow := s.led.huLow && h.en } } r) ∧
  (∀ s p, s.accepts 0x0A01 (lenIs 4) p = true → bit (wd p.words 0) 31 = false → s.alarms.huLow = s.led.huLow → (s.led.huLow = true → s.led.hu.en = true) →
    ∃ r, r.length = 4 ∧ Answers (.bellowsHoldup p) s 0x0A01 p (s.accepted 0x0A01 p) r) ∧
  (∀ s p, s.accepts 0x0A02 (lenIs 1) p = true → ∃ r, r.length = 10 + s.led.eRail.length + s.led.pPeak.length ∧
    wd r 1 = i32 s.led.credit ∧ wd r 3 = w32 s.led.eUsable ∧
    (bit (wd p.words 0) 0 = false → Answers (.bellowsReport p) s 0x0A02 p (s.accepted 0x0A02 p) r) ∧
    (bit (wd p.words 0) 0 = true → Answers (.bellowsReport p) s 0x0A02 p
      { s.accepted 0x0A02 p with led := { s.led with pPeak := List.replicate 8 0 } } r)) ∧
  (∀ s p, s.accepts 0x0A03 (lenIs 0) p = true → ∃ r, Answers (.bellowsCosts p) s 0x0A03 p (s.accepted 0x0A03 p) r ∧ r.length = 25 ∧ wd r 0 = 12)

/-- In RUN: at a window's end the credit becomes the budget plus any debt, the window's rail energies are kept, BUDGET and WINDOW come into
force and the head of the queue is tested; a metering interval adds each rail's energy, once, and keeps each peak; a mean at the pin
brings the written hold-up values into force and gives V, E_usable and COVERED, HU_LOW ends with COVERED, and a return of COVERED has the
head tested; 1 s without COVERED sets HU_LOW and ALARM_N. The head of the queue is admitted and charged only when it is to be tested and
the ledger allows it; else it holds back those behind it. Outside RUN, and while the management plane is not up, nothing is admitted. When
the ledger is enforced and a step of JOB_ADMITTED charges the head of the queue, the job's cost was within the credit, or the job costs
more than the whole budget and the credit stood at the budget; the credit falls by exactly the cost. Where the spec leaves a point open,
the clauses rest on the model's reading or choice (log entries 7, 11). Completes: ledgerWindowBoundary, meterInterval, holdupMean,
huLowTimer, jobAdmitted (R483, R484, R487, R488, R489, R491, R492, R493, R494, R504). -/
def Obligations.LedgerEvents : Prop :=
  (∀ s : State, s.start.power = .run → s.led.windowEnd ≤ s.clk.tick → exec .ledgerWindowBoundary s = .next { s with led := { s.led with
    credit := (1000 * s.led.budget : Nat) + min s.led.credit 0, budgetNow := s.led.budget, windowNow := s.led.window, windowStart := s.led.windowEnd
    test := true, eRail := s.led.eAcc, eAcc := List.replicate 8 0 } }) ∧
  (∀ s : State, s.clk.tick < s.led.windowEnd → exec .ledgerWindowBoundary s = .next s) ∧
  (∀ (s : State) (rails : List Nat), s.start.power = .run → s.clk.tick % 1250000 = 0 → s.led.meterTick < s.clk.tick →
    let r := (List.range 8).map (fun i => rails.getD i 0)
    exec (.meterInterval rails) s = .next { s with led := { s.led with
      eAcc := List.zipWith (· + ·) s.led.eAcc r, pPeak := List.zipWith max s.led.pPeak r, eTotal := (s.led.eTotal + r.sum) % 2 ^ 64
      meterTick := s.clk.tick } }) ∧
  (∀ (s : State) (rails : List Nat), s.clk.tick % 1250000 ≠ 0 ∨ s.clk.tick ≤ s.led.meterTick → exec (.meterInterval rails) s = .next s) ∧
  (∀ (s : State) (uv : Nat), s.start.power = .run → Completes (.holdupMean uv) s (fun t =>
    t.keeps s [.led, .alarms] ∧ t.led.huNext = none ∧ t.led.hu = s.led.hu ∧
    t.led.samples = min 1250000 uv :: s.led.samples.take 15 ∧
    t.led.vHu = (2 * t.led.samples.sum * s.led.hu.ratio + 100000 * t.led.samples.length) / (200000 * max 1 t.led.samples.length) ∧
    (t.led.covered = true ↔ s.led.hu.en = true ∧ t.led.enough = true) ∧
    (t.led.covered = true → t.led.huLow = false ∧ t.alarms.huLow = false) ∧ (t.led.covered = false → t.led.huLow = s.led.huLow) ∧
    t.led.test = (s.led.test || (t.led.covered && !s.led.covered)) ∧
    (t.led.covered = false → s.led.hu.en = true → t.led.uncovered = some (s.led.uncovered.getD s.clk.tick)) ∧
    t.led.waiting = s.led.waiting ∧ t.led.credit = s.led.credit)) ∧
  (∀ (s : State) (t0 : Nat), s.start.power = .run → s.led.huEn = true → s.led.huNext = none → s.led.covered = false → s.led.huLow = false →
    s.led.uncovered = some t0 → t0 + ticksPerSec ≤ s.clk.tick → Completes .huLowTimer s (fun t =>
      t.led.huLow = true ∧ t.alarms.huLow = true ∧ t.alarmLow = true ∧
      t.cru = s.cru.arrive s.clk.tick (s.mkRec 0x0A01 0 2 (w32 s.led.vHu) (w32 s.led.eUsable) 0) ∧ t.keeps s [.led, .alarms, .cru])) ∧
  (∀ s : State, s.led.huEn = false ∨ s.led.covered = true ∨ s.led.huLow = true ∨ s.led.uncovered = none → exec .huLowTimer s = .next s) ∧
  (∀ (s : State) (j : LedJob) (l : List LedJob), s.start.power = .run → s.start.mpi = .up → s.led.test = true → s.led.waiting = j :: l →
    s.led.mayAdmit j.cost = false → j.what = .bgRegion ∨ j.what = .flush →
    exec .jobAdmitted s = .next { s with led := { s.led with test := false } }) ∧
  (∀ (s : State) (c : Nat) (l : List LedJob) (slot : Nat), s.start.power = .run → s.start.mpi = .up → s.led.test = true →
    s.led.waiting = { code := 11, cost := c, what := .bootSlot slot } :: l → s.led.mayAdmit c = true →
    exec .jobAdmitted s = .next { s with
      led := { s.led with waiting := l, credit := s.led.credit - c, admitted := inc16 s.led.admitted }
      mem := { s.mem with writes := s.mem.writes ++ [.bootSlot slot] } }) ∧
  (∀ (s : State) (c : Nat) (l : List LedJob) (cmd : Bool), s.start.power = .run → s.start.mpi = .up → s.led.test = true → s.pal.commit = none →
    s.led.waiting = { code := 4, cost := c, what := .calCommit cmd } :: l → s.led.mayAdmit c = true →
    Completes .jobAdmitted s (fun t => t.led.waiting = l ∧ t.led.credit = s.led.credit - c ∧ t.pal.commit = some s.palSnapshot ∧
      t.keeps s [.led, .pal])) ∧
  (∀ s : State, s.led.test = false ∨ s.led.waiting = [] ∨ s.mpiUp = false → exec .jobAdmitted s = .next s) ∧
  (∀ s : State, s.start.power ≠ .run → exec .jobAdmitted s = .next s ∧ exec .ledgerWindowBoundary s = .next s ∧
    exec .huLowTimer s = .next s ∧ (∀ l, exec (.meterInterval l) s = .next s) ∧ (∀ n, exec (.holdupMean n) s = .next s)) ∧
  (∀ (l : Led) (s t : State) (j : LedJob), s.led = l → s.admitHead = some (j, t) → l.enable = true →
    ((j.cost : Int) ≤ l.credit ∨ (1000 * l.budgetNow < j.cost ∧ l.credit = (1000 * l.budgetNow : Nat))) ∧
    (l.huEn = true → l.covered = true) ∧ t.led.credit = l.credit - j.cost ∧ l.waiting = j :: t.led.waiting ∧ t.keeps s [.led])

/-- Accepted, CRUCIBLE.READ and CRUCIBLE.LATCH_READ return TOTAL and the records asked for, oldest first, changing nothing; CRUCIBLE.FLUSH
waits for one job of code 11; CRUCIBLE.CLEAR of the ring makes no earlier record readable and of the latch re-arms it, and then writes its
record. Completes: crucibleRead, crucibleFlush, crucibleLatchRead, crucibleClear (R550, R551, R552, R553, R542, R543). -/
def Obligations.RecordCommands : Prop :=
  (∀ s p, s.accepts 0x0B00 (lenIs 2) p = true → ∃ r, Answers (.crucibleRead p) s 0x0B00 p (s.accepted 0x0B00 p) r ∧
    (fld (wd p.words 0) 1 0 = 0 → wd r 0 = w32 s.cru.total ∧
      wd r 1 = w32 (max (wd p.words 1).toNat (oldestOf s.cru.total s.cru.base s.cru.ring.length)))) ∧
  (∀ s p, s.accepts 0x0B02 (lenIs 1) p = true → ∃ r, Answers (.crucibleLatchRead p) s 0x0B02 p (s.accepted 0x0B02 p) r ∧
    (fld (wd p.words 0) 1 0 = 0 → (s.cru.latchSt = .armed → wd r 1 = 0xFFFFFFFF) ∧ (s.cru.latchSt ≠ .armed → wd r 1 = w32 s.cru.latchFirst))) ∧
  (∀ s p, s.accepts 0x0B01 (lenIs 0) p = true →
    exec (.crucibleFlush p) s = .next (((s.accepted 0x0B01 p).hold (s.ctxOf 0x0B01 p) (.flush 0)).queueJob 11 3630 .flush)) ∧
  (∀ s p, s.accepts 0x0B03 (lenIs 1) p = true → s.cru.lossCount = 0 → ∃ u, Answers (.crucibleClear p) s 0x0B03 p u [pack [(0, fld (wd p.words 0) 1 0)]] ∧
    u.keeps (s.accepted 0x0B03 p) [.cru] ∧ u.cru.total = s.cru.total ∧
    (bit (wd p.words 0) 0 = true → u.cru.base = s.cru.total ∧ u.cru.fifo.length = 1 ∧ u.cru.ring = s.cru.ring) ∧
    (bit (wd p.words 0) 0 = false → u.cru.base = s.cru.base) ∧
    (bit (wd p.words 0) 1 = true → u.cru.latchSt = .armed ∧ u.cru.latch = [] ∧ u.cru.latchFlushDue = false) ∧
    (bit (wd p.words 0) 1 = false → u.cru.latchSt = s.cru.latchSt))

/-- In RUN a record of a listed code that is not coalesced joins the FIFO while it has room, and is dropped and counted otherwise; the ring
takes the FIFO's oldest record with the next number, at most one in 32 ticks, and a record of SEV 3 starts the latch's filling; while a
flush runs the ring takes none. The latch timer flushes a fill once, 10 ms after it began. A code outside the list, or any record outside
RUN, has no effect. When the trailer of a flush is written its image is COMPLETE in the slot of this run; commands it served reply, and
with no other flush waiting none runs. With no flush running the row changes nothing. Where the spec leaves a point open, the clauses rest
on the model's reading or choice (log entry 57). Completes: crucibleRecordArrival, crucibleRingTake, crucibleLatchFlushTimer,
crucibleFlushComplete (R540, R541, R542, R543, R544, R545, R538, R546, R549, R551). -/
def Obligations.RecordIntake : Prop :=
  (∀ (s : State) (code src : Nat) (a b c : Word), s.start.power = .run → recordCodes.contains code = true → src < 65536 →
    s.cru.recent.find? (fun e => decide (e.1 = code ∧ e.2.1 = src)) = none → s.cru.fifo.length < 256 →
    Completes (.crucibleRecordArrival .mgmt code src a b c) s (fun t => t.keeps s [.cru] ∧
      ∃ r : Rec, t.cru.fifo = s.cru.fifo ++ [r] ∧ r.code = code ∧ r.source = src ∧ r.time = (s.tb 0).val ∧ r.repeat_ = 0 ∧
        (r.d5, r.d6, r.d7) = (a, b, c) ∧ t.cru.ring = s.cru.ring ∧ t.cru.lossCount = s.cru.lossCount)) ∧
  (∀ (s : State) (code src : Nat) (a b c : Word), s.start.power = .run → recordCodes.contains code = true → src < 65536 →
    s.cru.recent.find? (fun e => decide (e.1 = code ∧ e.2.1 = src)) = none → s.cru.fifo.length = 256 →
    Completes (.crucibleRecordArrival .mgmt code src a b c) s (fun t => t.keeps s [.cru] ∧
      t.cru.fifo = s.cru.fifo ∧ t.cru.lossCount = inc32 s.cru.lossCount)) ∧
  (∀ (s : State) (pl : Plane) (code src : Nat) (a b c : Word), s.start.power ≠ .run ∨ recordCodes.contains code = false →
    exec (.crucibleRecordArrival pl code src a b c) s = .next s) ∧
  (∀ (s : State) (r : Rec) (l : List Rec), s.cru.flushing = none → s.cru.nextTake ≤ s.clk.tick → s.cru.fifo = r :: l → s.cru.lossCount = 0 →
    s.cru.latchSt = .armed → r.sev ≠ 3 → exec .crucibleRingTake s = .next { s with cru := { s.cru with
      fifo := l, nextTake := s.clk.tick + 32, ring := r :: s.cru.ring.take 4095, total := (s.cru.total + 1) % 2 ^ 32 } }) ∧
  (∀ (s : State) (r : Rec) (l : List Rec), s.cru.flushing = none → s.cru.nextTake ≤ s.clk.tick → s.cru.fifo = r :: l → s.cru.lossCount = 0 →
    s.cru.latchSt = .armed → s.cru.latch = [] → r.sev = 3 → Completes .crucibleRingTake s (fun t => t.keeps s [.cru] ∧ t.cru.latchSt = .filling ∧
      t.cru.latchFirst = s.cru.total ∧ t.cru.latch = [{ r with latched := true }] ∧ t.cru.latchFlushDue = true ∧ t.cru.latchTick = s.clk.tick)) ∧
  (∀ s : State, s.cru.flushing.isSome = true ∨ s.clk.tick < s.cru.nextTake ∨ s.cru.fifo = [] → exec .crucibleRingTake s = .next s) ∧
  (∀ s : State, s.cru.latchFlushDue = true → s.cru.latchTick + 12500000 ≤ s.clk.tick → s.start.mpi = .up → s.cru.flushing = none → Completes .crucibleLatchFlushTimer s (fun t =>
    t.cru.latchFlushDue = false ∧ t.cru.flushing.isSome = true ∧ t.led.credit = s.led.credit - 3630 ∧ t.mram.flushSeq = s.mram.flushSeq % 256 + 1 + (if s.mram.flushSeq % 256 = 255 then 1 else 0) - (if s.mram.flushSeq % 256 = 255 then 256 else 0))) ∧
  (∀ s : State, s.cru.latchFlushDue = false ∨ s.clk.tick < s.cru.latchTick + 12500000 → exec .crucibleLatchFlushTimer s = .next s) ∧
  (∀ (s : State) (img : Image), s.cru.flushing = some img → s.cru.flushWait = [] → Completes .crucibleFlushComplete s (fun t =>
    t.cru.flushing = none ∧ t.cru.nextTake = s.clk.tick + 32 ∧ Tab.find? t.mram.images s.cru.slot = some { img with complete := true } ∧
    (∀ j ∈ t.axg.jobs, j.work ≠ .flush 2) ∧ t.mem.bytes = s.mem.bytes)) ∧
  (∀ s : State, s.cru.flushing = none → exec .crucibleFlushComplete s = .next s)

/-- Accepted: CNT.CONFIG with WRITE 1 selects the event, mode and instance of a counter, whose value and overflow flag stay; CNT.READ and
CNT.WRITE of one counter or more go on counter by counter, and reply at once without one; the counter whose turn it is, alone, is read
(with CLEAR_OVF its overflow flag clears) or takes the written value plus what the tick has counted; CNT.BANDWIDTH and CNT.USER store what
they carry. At the end of a bandwidth window every port's counts are latched and a new window begins; the row changes nothing in the tick
the window began. Where the spec leaves a point open, the clauses rest on the model's reading or choice (log entries 54, 81). Completes:
cntConfig, cntRead, cntWrite, cntBandwidth, cntUser, bandwidthWindowEnd (R614, R617, R618, R619, R620, R621, R609). -/
def Obligations.CounterCommands : Prop :=
  (∀ s p, s.accepts 0x0C00 (lenIs 3) p = true → bit (wd p.words 0) 31 = true → Tab.sorted s.cnt.prog = true →
    let k := fld (wd p.words 0) 6 0
    let e := if evCodes.contains (fld (wd p.words 1) 11 0) then fld (wd p.words 1) 11 0 else 0
    ∃ u r, Answers (.cntConfig p) s 0x0C00 p u r ∧ r.length = 3 ∧ u.keeps (s.accepted 0x0C00 p) [.cnt] ∧ (u.prog k).event = e ∧
      (u.prog k).enable = bit (wd p.words 1) 16 ∧ (u.prog k).level = bit (wd p.words 1) 15 ∧ (u.prog k).inst = evInst e (fld (wd p.words 2) 6 0) ∧
      (u.prog k).value = (s.prog k).value ∧ (u.prog k).ovf = (s.prog k).ovf ∧ ∀ j, j ≠ k → u.prog j = s.prog j) ∧
  (∀ s p, s.accepts 0x0C01 (lenIs 1) p = true →
    let first := min 207 (fld (wd p.words 0) 7 0)
    let n := min (min 208 (fld (wd p.words 0) 15 8)) (208 - first)
    let clr := bit (wd p.words 0) 16
    (n = 0 → Answers (.cntRead p) s 0x0C01 p (s.accepted 0x0C01 p) [pack [(0, first), (16, clr.toNat)]]) ∧
    (n ≠ 0 → exec (.cntRead p) s = .next ((s.accepted 0x0C01 p).hold (s.ctxOf 0x0C01 p) (.cntRead first n clr n [])))) ∧
  (∀ s p, s.accepts 0x0C02 lenCntWrite p = true →
    let first := min 191 (fld (wd p.words 0) 7 0)
    let n := min (min 192 (fld (wd p.words 0) 15 8)) (192 - first)
    (n = 0 → Answers (.cntWrite p) s 0x0C02 p (s.accepted 0x0C02 p) [pack [(0, first)]]) ∧
    (n ≠ 0 → exec (.cntWrite p) s = .next ((s.accepted 0x0C02 p).hold (s.ctxOf 0x0C02 p)
      (.cntWrite first n ((List.range n).map (fun i => (wd p.words (1 + 2 * i), wd p.words (2 + 2 * i)))) [])))) ∧
  (∀ (s : State) (c : Ctx) (first n left : Nat) (clr : Bool) (acc : List Word) (l : List Job), s.axg.jobs = ⟨c, .cntRead first n clr (left + 2) acc⟩ :: l →
    left + 2 ≤ n → s.counterJob.axg.jobs = ⟨c, .cntRead first n clr (left + 1) (acc ++ s.cntWords (first + (n - (left + 2))) s.clk.tick)⟩ :: l ∧
      (clr = false → s.counterJob.keeps s [.axg])) ∧
  (∀ (s : State) (c : Ctx) (k : Nat) (a b : Word) (l : List Job), s.axg.jobs = ⟨c, .cntWrite k 1 [(a, b)] []⟩ :: l → k < 128 → Tab.sorted s.cnt.prog = true →
    let v := fld a 15 0 * 2 ^ 32 + b.toNat + (s.prog k).got
    ∃ u : State, s.counterJob = ({ u with axg := { s.axg with jobs := l } }).complete c (okRpl (pack [(0, k), (8, 1)] :: u.cntWords k s.clk.tick)) ∧ u.keeps s [.cnt] ∧
      u.prog k = { s.prog k with value := v % 2 ^ 48, ovf := ((s.prog k).was && !bit a 31) || decide (2 ^ 48 ≤ v) } ∧ ∀ j, j ≠ k → u.prog j = s.prog j) ∧
  (∀ s p, s.accepts 0x0C03 (lenIs 2) p = true → bit (wd p.words 0) 31 = true →
    let ms := clamp 1 10000 (fld (wd p.words 0) 13 0)
    ∃ r, Answers (.cntBandwidth p) s 0x0C03 p
      { s.accepted 0x0C03 p with cnt := { s.cnt with windowMs := ms, changed := s.cnt.changed || decide (ms ≠ s.cnt.windowMs), valid := s.cnt.valid && decide (ms = s.cnt.windowMs) } } r ∧
      r.length = 4 + 6 * min (min 104 (fld (wd p.words 1) 14 8)) (104 - min 103 (fld (wd p.words 1) 6 0))) ∧
  (∀ s p, s.accepts 0x0C04 (lenIs 1) p = true → bit (wd p.words 0) 31 = true →
    Answers (.cntUser p) s 0x0C04 p { s.accepted 0x0C04 p with cnt := { s.cnt with user := bit (wd p.words 0) 0 } }
      [pack [(31, 1), (0, (bit (wd p.words 0) 0).toNat)]]) ∧
  (∀ s : State, s.cnt.changed = false → s.cnt.winStart < s.clk.tick → s.clk.tick % (1250000 * s.cnt.windowNow) = 0 →
    exec .bandwidthWindowEnd s = .next { s with cnt := { s.cnt with
      last := s.cnt.acc, lastStart := s.cnt.winStart, lastEnd := s.clk.tick, acc := [], winStart := s.clk.tick, valid := true } }) ∧
  (∀ s : State, s.cnt.changed = true → s.cnt.winStart < s.clk.tick → s.clk.tick % (1250000 * s.cnt.windowMs) = 0 →
    Completes .bandwidthWindowEnd s (fun t => t.keeps s [.cnt] ∧ t.cnt.acc = [] ∧ t.cnt.winStart = s.clk.tick ∧ t.cnt.windowNow = s.cnt.windowMs ∧
      t.cnt.changed = false ∧ t.cnt.valid = s.cnt.valid)) ∧
  (∀ s : State, s.clk.tick ≤ s.cnt.winStart → exec .bandwidthWindowEnd s = .next s)

/-- Accepted: CAL.CONFIG with WRITE 1 stores its clamped values; CAL.RUN of an item that is not eligible is REJECTED with DETAIL 1 and changes
nothing, and of an eligible one that CAL_HOLD does not defer waits for its job; CAL.STATUS replies with four words and three for each item
asked for; CAL.CALREF with WRITE 1 stores its values; CAL.COMMIT waits for a job of code 4. Where the spec leaves a point open, the
clauses rest on the model's reading or choice (log entries 50, 55). Completes: calConfig, calRun, calStatus, calCalref, calCommit (R528,
R529, R530, R531, R532, R514). -/
def Obligations.CalibrationCommands : Prop :=
  (∀ s p, s.accepts 0x0800 (lenIs 3) p = true → bit (wd p.words 0) 31 = true →
    let ws := p.words
    let v := wd ws 0
    let q := { s.pal with
      rrEn := bit v 0, autoCommit := bit v 1, laneEn := bit v 4, convEn := bit v 5, hamEn := bit v 6, refinEn := bit v 7,
      stepGap := clamp 1 10000 (fld (wd ws 1) 13 0), commitDelta := clamp 1 255 (fld (wd ws 1) 23 16),
      staleAge := clamp 10 3600 (fld (wd ws 2) 11 0), staleTemp := clamp 1 20 (fld (wd ws 2) 20 16) }
    ∃ r, Answers (.calConfig p) s 0x0800 p { s.accepted 0x0800 p with pal := q } r ∧ r.length = 3) ∧
  (∀ s p, s.accepts 0x0801 (lenIs 1) p = true → s.calEligible (min 245 (fld (wd p.words 0) 8 0)) = false →
    exec (.calRun p) s = .next ((s.accepted 0x0801 p).complete (s.ctxOf 0x0801 p)
      { status := 0x0050, detail := 1, words := s.calEntry (min 245 (fld (wd p.words 0) 8 0)) })) ∧
  (∀ s p, s.accepts 0x0801 (lenIs 1) p = true →
    let item := min 245 (fld (wd p.words 0) 8 0)
    s.calEligible item = true → s.passHeld item = false →
    exec (.calRun p) s = .next (((s.accepted 0x0801 p).hold (s.ctxOf 0x0801 p) (.calRun item)).queueJob (calCode item) (jobFixed (calCode item))
      (.calStep item 1))) ∧
  (∀ s p, s.accepts 0x0802 (lenIs 1) p = true → ∃ r, Answers (.calStatus p) s 0x0802 p (s.accepted 0x0802 p) r ∧
    r.length = 4 + 3 * min (fld (wd p.words 0) 24 16) (246 - min 245 (fld (wd p.words 0) 8 0)) ∧ wd r 1 = w32 s.pal.gen ∧ wd r 3 = i32 s.palK) ∧
  (∀ s p, s.accepts 0x0803 (lenIs 3) p = true → bit (wd p.words 0) 31 = true → s.pal.steps.find? (fun (x : CalStep) => decide (x.item = 245)) = none →
    ∃ r, Answers (.calCalref p) s 0x0803 p { s.accepted 0x0803 p with
        free := s.free + 1, pal := { s.pal with calrefEn := bit (wd p.words 0) 0, tauCab := min 10000000 (wd p.words 1).toNat, uCab := fld (wd p.words 2) 15 0 } } r ∧
      r.length = 4) ∧
  (∀ s p, s.accepts 0x0804 (lenIs 0) p = true →
    exec (.calCommit p) s = .next (((s.accepted 0x0804 p).hold (s.ctxOf 0x0804 p) .calCommit).queueJob 4 420 (.calCommit true)))

/-- A step whose lane item is no longer eligible ends REJECTED with reason 1 and counted, leaving every stored value; one a management restart
discarded ends without effect; a first result within its limits is the value in force with its temperature and age 0; a commit that
completes is the generation in force in the other slot; a measured die temperature makes STALE the values taken more than STALE_TEMP away
from it, and age makes STALE those older than STALE_AGE; the round-robin asks for at most one job at a time, and none while it is
disabled. A step on an item under test, or on the timing plane while that is out of service, waits. Where the spec leaves a point open,
the clauses rest on the model's reading or choice (log entries 28, 49, 50). Completes: calRoundRobinStep, calStepComplete, dieTemperature,
calCommitComplete (R509, R512, R513, R515, R517, R518, R524, R565, R39). -/
def Obligations.CalibrationEvents : Prop :=
  (∀ (s : State) (item : Nat) (m : CalMeas) (c : CalStep), s.pal.steps.find? (fun (c : CalStep) => decide (c.item = item)) = some c →
    item < 96 → s.calBlocked item = false → s.calEligible item = false → c.lost = false → c.byRun = false → Completes (.calStepComplete item m) s (fun t =>
      t.pal.vals = s.pal.vals ∧ Tab.find? t.pal.reasons item = some 1 ∧ t.pal.steps = s.pal.steps.erase c ∧
      Tab.find? t.pal.rejects item = some (satAdd 0xFFF ((Tab.find? s.pal.rejects item).getD 0) 1) ∧ t.pal.dieTemp = m.temp ∧ t.keeps s [.pal, .cru, .buf, .clk])) ∧
  (∀ (s : State) (item : Nat) (m : CalMeas) (c : CalStep), s.pal.steps.find? (fun (c : CalStep) => decide (c.item = item)) = some c →
    s.calBlocked item = false → (item < 192 ∨ s.tpUp = true) → c.lost = true → exec (.calStepComplete item m) s = .next { s with pal := { s.pal with
      steps := s.pal.steps.erase c, dieTemp := m.temp } }) ∧
  (∀ (s : State) (item : Nat) (m : CalMeas) (c : CalStep), s.pal.steps.find? (fun (c : CalStep) => decide (c.item = item)) = some c →
    item < 96 → s.calBlocked item = false → s.calEligible item = true → c.lost = false → c.byRun = false → m.off.natAbs ≤ 20000 → m.sd ≤ 10000 →
    Tab.find? s.pal.vals (8 * item + c.rate) = none →
    (State.calValue m s.palK - Config.palFactory item c.rate).natAbs ≤ 300 → Completes (.calStepComplete item m) s (fun t =>
      (∃ v, Tab.find? t.pal.vals (8 * item + c.rate) = some v ∧ v.value = State.calValue m s.palK ∧ v.temp = m.temp ∧ v.since = s.clk.tick) ∧
      (∀ k, k ≠ 8 * item + c.rate → Tab.find? t.pal.vals k = Tab.find? s.pal.vals k) ∧ t.pal.rejects = s.pal.rejects)) ∧
  (∀ (s : State) (item : Nat) (m : CalMeas), (∀ c ∈ s.pal.steps, c.item ≠ item) ∨ s.calBlocked item = true ∨ (192 ≤ item ∧ s.tpUp = false) →
    exec (.calStepComplete item m) s = .next s) ∧
  (∀ (s : State) (x : PalSlot), s.pal.commit = some x → s.pal.commitQ = [] → Completes .calCommitComplete s (fun t =>
    t.pal.gen = x.gen ∧ t.pal.slot = 1 - s.pal.slot ∧ t.pal.commit = none ∧ Tab.find? t.mram.palette (1 - s.pal.slot) = some x)) ∧
  (∀ s : State, s.pal.commit = none → exec .calCommitComplete s = .next s) ∧
  (∀ (s : State) (temp : Int), Completes (.dieTemperature temp) s (fun t => t = { s with pal := { s.pal with dieTemp := temp } } ∧
    ∀ v : PalVal, s.pal.staleAge < s.palAge v ∨ 16 * s.pal.staleTemp < (temp - v.temp).natAbs → t.palStale v = true)) ∧
  (∀ s : State, s.start.power = .run → s.start.mpi = .up → s.pal.rrDue ≤ s.clk.tick → s.pal.rrEn = true → s.pal.rrWaiting = false → Completes .calRoundRobinStep s (fun t =>
    t.pal.rrWaiting = false ∨ (t.pal.rrWaiting = true ∧ t.pal.next < 246 ∧ s.calEligible t.pal.next = true))) ∧
  (∀ s : State, s.start.power = .run → s.start.mpi = .up → s.pal.rrDue ≤ s.clk.tick → s.pal.rrEn = true → s.pal.rrWaiting = false → s.pal.next < 192 →
    s.calEligible s.pal.next = true → exec .calRoundRobinStep s = .next
      (({ s with pal := { s.pal with rrWaiting := true } }).queueJob (calCode s.pal.next) (jobFixed (calCode s.pal.next)) (.calStep s.pal.next 0))) ∧
  (∀ s : State, s.pal.rrEn = false ∨ s.pal.rrWaiting = true ∨ s.clk.tick < s.pal.rrDue → exec .calRoundRobinStep s = .next s)

/-- Accepted: ANNEAL.CONFIG with WRITE 1 stores NEXT_FULL and QUICK_AGE; ANNEAL.RESULT replies with eight words, INCOMPLETE when its record
reads so, changing nothing; ANNEAL.BLOCK on an idle block with no anneal in progress waits for a job of code 9. A segment of the pass that
ends counts as completed, failed when its verdict is; each hour of running adds one to RUN_H. Where the spec leaves a point open, the
clauses rest on the model's reading or choice (log entries 15, 51). Completes: annealConfig, annealBlock, annealResult,
annealSegmentComplete, runHHourly (R554, R555, R564, R576, R577, R578, R561, R559). -/
def Obligations.AnnealRows : Prop :=
  (∀ s p, s.accepts 0x0900 (lenIs 2) p = true → bit (wd p.words 0) 31 = true →
    let n := bit (wd p.words 0) 0
    let q := min 8760 (fld (wd p.words 1) 13 0)
    Answers (.annealConfig p) s 0x0900 p { s.accepted 0x0900 p with mram := { s.mram with nextFull := n, quickAge := q } }
      [pack [(31, 1), (0, n.toNat)], w32 q, w32 s.mram.runH]) ∧
  (∀ s p, s.accepts 0x0902 (lenIs 1) p = true → fld (wd p.words 0) 1 0 = 0 → readsOf s.mram.passRec ≠ 3 →
    ∃ r, Answers (.annealResult p) s 0x0902 p (s.accepted 0x0902 p) r ∧ r.length = 8 ∧ fld (wd r 0) 1 0 = readsOf s.mram.passRec) ∧
  (∀ s p x, s.accepts 0x0902 (lenIs 1) p = true → fld (wd p.words 0) 1 0 = 0 → s.mram.passRec = some x → x.reads = 3 →
    ∃ r, exec (.annealResult p) s = .next ((s.accepted 0x0902 p).complete (s.ctxOf 0x0902 p)
      { status := 0x0051, detail := min 0xFFFF x.completed, words := r }) ∧ r.length = 8) ∧
  (∀ s p, s.accepts 0x0901 (lenIs 1) p = true →
    let chan := bit (wd p.words 0) 0
    let i := min (if chan then 27 else 95) (fld (wd p.words 0) 14 8)
    s.blockIdle chan i = true → s.blockRun chan i = none → Completes (.annealBlock p) s (fun t =>
      t.axg.jobs = s.axg.jobs ++ [{ ctx := s.ctxOf 0x0901 p, work := .anneal chan i }] ∧
      (∃ b, t.sec.blocks = s.sec.blocks ++ [b] ∧ b.chan = chan ∧ b.index = i ∧ b.completed = 0 ∧ b.running = false ∧
        b.expected = (if chan then 2 else 4)) ∧
      t.led.waiting = insertJob { code := 9, cost := 2500, what := .annealSeg chan i } s.led.waiting ∧ t.led.test = true ∧ t.keeps s [.axg, .sec, .led])) ∧
  (∀ (s : State) (errors us : Nat), s.sec.testing = some .pass → s.sec.test.completed + 1 < s.sec.test.expected → s.mem.retired = none →
    Completes (.annealSegmentComplete none errors us) s (fun t => t.sec.testing = some .pass ∧ t.sec.test.completed = s.sec.test.completed + 1 ∧
      t.sec.test.nFail = s.sec.test.nFail + (if 0 < errors then 1 else 0) ∧ t.keeps s [.sec, .led, .mram])) ∧
  (∀ (s : State) (errors us : Nat), s.sec.testing = none → exec (.annealSegmentComplete none errors us) s = .next s) ∧
  (∀ s : State, s.start.power = .run → s.sec.hours < s.clk.tick / (45 * 10 ^ 11) → exec .runHHourly s = .next { s with
    led := { s.led with credit := s.led.credit - 110 }, mram := { s.mram with runH := (s.mram.runH + 1) % 2 ^ 32 }, sec := { s.sec with hours := s.sec.hours + 1 } }) ∧
  (∀ s : State, s.start.power ≠ .run ∨ s.clk.tick / (45 * 10 ^ 11) ≤ s.sec.hours → exec .runHHourly s = .next s)

/-- Accepted: TIME.GET returns TICK and the values asked for and TIME.EPOCH its four words, changing nothing; TIME.SET and TIME.STEP without
AT act on the one time base they name (UNSET cleared, STEP_COUNT up by one), with AT at or before the present value they are LATE with a
record and no effect, and with a later AT they wait; TIME.ADJ_RATE stores the clamped rate; TIME.SLEW of an offset starts a slew and waits
for its end. When the time base of the one command that waits for it has reached its time, a scheduled TIME.SET acts and replies; nothing
acts while none is due or the timing plane is out of service. A slew of which nothing is left to add ends, and its TIME.SLEW has replied;
one with a remainder goes on. Where the spec leaves a point open, the clauses rest on the model's reading or choice (log entries 16, 22).
Completes: timeGet, timeSet, timeAdjRate, timeStep, timeSlew, timeEpoch, scheduledActionDue, slewComplete (R273, R274, R275, R276, R277,
R278, R245, R246, R247). -/
def Obligations.TimeCommands : Prop :=
  (∀ s p, s.accepts 0x0400 (lenIs 1) p = true → ∃ r, Answers (.timeGet p) s 0x0400 p (s.accepted 0x0400 p) r ∧
    r.length = (if bit (wd p.words 0) 8 then 34 else 6) ∧ wd r 0 = w32 (s.clk.tick / 2 ^ 32) ∧ wd r 1 = w32 s.clk.tick ∧
    (bit (wd p.words 0) 8 = false → (r.drop 2).take 3 = timeWords (s.tb (tbArg (wd p.words 0))).val)) ∧
  (∀ s p, s.accepts 0x0401 (lenIs 7) p = true → bit (wd p.words 0) 8 = false → (s.tb (tbArg (wd p.words 0))).slew = none →
    let n := tbArg (wd p.words 0)
    ∃ u, Answers (.timeSet p) s 0x0401 p u (timeSetWords n false (timeArg p.words 1) (s.tb n).val) ∧
      u.tb n = ({ s.tb n with val := timeArg p.words 1, unset := false, stepCount := ((s.tb n).stepCount + 1) % 65536 }).since (s.tb n) s.clk.tick s.clk.tick ∧
      (∀ m, m ≠ n → u.tb m = s.tb m) ∧ u.keeps (s.accepted 0x0401 p) [.tbs, .ptp]) ∧
  (∀ s p, s.accepts 0x0401 (lenIs 7) p = true → bit (wd p.words 0) 8 = true →
    let n := tbArg (wd p.words 0)
    let a := s.accepted 0x0401 p
    let c := s.ctxOf 0x0401 p
    (timeArg p.words 4 ≤ (s.tb n).val → exec (.timeSet p) s = .next
      ((a.log .timing 0x0107 (srcOf 4 n) (pack [(0, 0x0401), (16, p.tag)]) 0 0).complete c
        { status := 0x0060, detail := 0, words := timeSetWords n true (timeArg p.words 1) (s.tb n).val })) ∧
    ((s.tb n).val < timeArg p.words 4 → exec (.timeSet p) s = .next (a.hold c (.timeSet n (timeArg p.words 1) (timeArg p.words 4))))) ∧
  (∀ s p, s.accepts 0x0402 (lenIs 3) p = true → bit (wd p.words 0) 31 = true →
    let n := fld (wd p.words 0) 2 0
    ∃ u r, Answers (.timeAdjRate p) s 0x0402 p u r ∧ r.length = 5 ∧
      u.tb n = ({ s.tb n with rateCmd := clampZ (-500000000000) 500000000000 (s64Arg p.words 1) }).since (s.tb n) s.clk.tick s.clk.tick ∧ (∀ m, m ≠ n → u.tb m = s.tb m) ∧
      u.keeps (s.accepted 0x0402 p) [.tbs]) ∧
  (∀ s p, s.accepts 0x0403 (lenIs 6) p = true → bit (wd p.words 0) 8 = false → (s.tb (tbArg (wd p.words 0))).slew = none →
    let n := tbArg (wd p.words 0)
    ∃ u r, Answers (.timeStep p) s 0x0403 p u r ∧ r.length = 6 ∧
      u.tb n = ({ s.tb n with val := stepTo (s.tb n).val (s64Arg p.words 1 * (fracU : Nat)), unset := false,
                              stepCount := ((s.tb n).stepCount + 1) % 65536 }).since (s.tb n) s.clk.tick s.clk.tick ∧
      (∀ m, m ≠ n → u.tb m = s.tb m) ∧ u.keeps (s.accepted 0x0403 p) [.tbs, .ptp]) ∧
  (∀ s p, s.accepts 0x0403 (lenIs 6) p = true → bit (wd p.words 0) 8 = true →
    let n := tbArg (wd p.words 0)
    (s.tb n).val < timeArg p.words 3 →
    exec (.timeStep p) s = .next ((s.accepted 0x0403 p).hold (s.ctxOf 0x0403 p) (.timeStep n (s64Arg p.words 1) (timeArg p.words 3)))) ∧
  (∀ s p, s.accepts 0x0404 (lenIs 4) p = true → s64Arg p.words 1 ≠ 0 → (s.tb (tbArg (wd p.words 0))).slew = none →
    let n := tbArg (wd p.words 0)
    let m := clamp 1000 500000000 (wd p.words 3).toNat
    exec (.timeSlew p) s = .next (((s.accepted 0x0404 p).modTb n (fun t => { t with
      slew := some { rem := s64Arg p.words 1 * (fracU : Nat), max := m } })).hold (s.ctxOf 0x0404 p) (.slew n (s64Arg p.words 1) m))) ∧
  (∀ s p, s.accepts 0x0405 (lenIs 1) p = true → ∃ r, Answers (.timeEpoch p) s 0x0405 p (s.accepted 0x0405 p) r ∧ r.length = 4 ∧
    wd r 3 = w32 (s.tb (tbArg (wd p.words 0))).stepCount) ∧
  (∀ (s : State) (c : Ctx) (n v at_ : Nat), s.clk.tpUp = true → s.axg.jobs = [{ ctx := c, work := .timeSet n v at_ }] → at_ ≤ (s.tb n).val →
    c.mirrored = false → (s.tb n).slew = none → Completes .scheduledActionDue s (fun t =>
      t.axg.jobs = [] ∧ t.tb n = ({ s.tb n with val := v, unset := false, stepCount := ((s.tb n).stepCount + 1) % 65536 }).since (s.tb n) s.clk.tick s.clk.tick ∧
      ∀ m, m ≠ n → t.tb m = s.tb m)) ∧
  (∀ s : State, s.clk.tpUp = false ∨ (∀ j ∈ s.axg.jobs, s.due j.work = false) → exec .scheduledActionDue s = .next s) ∧
  (∀ (s : State) (n : Nat) (x : Slew), n < 8 → (s.tb n).slew = some x → x.rem = 0 → (∀ j ∈ s.axg.jobs, j.ctx.mirrored = false) →
    Completes (.slewComplete n) s (fun t =>
      t.tb n = ({ s.tb n with slew := none }).since (s.tb n) s.clk.tick s.clk.tick ∧ (∀ m, m ≠ n → t.tb m = s.tb m) ∧
      ∀ j ∈ t.axg.jobs, ∀ o m, j.work ≠ .slew n o m)) ∧
  (∀ (s : State) (n : Nat) (x : Slew), (s.tb n).slew = some x → x.rem ≠ 0 → exec (.slewComplete n) s = .next s) ∧
  (∀ (s : State) (n : Nat), (s.tb n).slew = none ∨ 8 ≤ n → exec (.slewComplete n) s = .next s)

/-- The sum of a time base's three rate terms is clamped to 10^-3 either way, and one tick of a time base with no slew moves it on by 0.8 ns,
to within one part in 1,000 and the carried remainder, and changes none of its other fields. Where the spec leaves a point open, the
clauses rest on the model's reading or choice (log entries 22, 23) (R243, R242, R247). -/
def Obligations.RateBounded : Prop :=
  (∀ t : TBase, (t.rateTotal).natAbs ≤ 1000000000000) ∧
  (∀ (t : TBase) (k : Nat), t.slew = none → 0 ≤ t.carry → t.carry < rateDen → t.val + 2 * nsU ≤ tbWrap →
    let u := t.advance k
    1000 * (u.val - t.val) ≤ 1001 * tickU k + 1000 ∧ 999 * tickU k ≤ 1000 * (u.val - t.val) + 1000 ∧ t.val ≤ u.val ∧ 0 ≤ u.carry ∧ u.carry < rateDen ∧
    u = { t with val := u.val, carry := u.carry })

/-- Accepted: REF.STATUS replies with eight words and REF.RANK, REF.SELECT, REF.BANDWIDTH and REF.HOLDOVER without WRITE change nothing; with
WRITE 1 each stores its clamped fields; REF.CONFIG of a REFIN with WRITE 1 stores its configuration and takes the reference out of OFF, or
to OFF when it disables it. Where the spec leaves a point open, the clauses rest on the model's reading or choice (log entries 34, 78).
Completes: refConfig, refRank, refSelect, refStatus, refBandwidth, refHoldover (R378, R379, R380, R381, R382, R383, R357, R371, R70). -/
def Obligations.ReferenceCommands : Prop :=
  (∀ s p, s.accepts 0x0600 (lenIs 4) p = true → bit (wd p.words 0) 31 = true → fld (wd p.words 0) 11 0 < 8 → Tab.sorted s.refs.cfg = true →
    Tab.sorted s.refs.runs = true → s.refs.st ≠ .switching →
    let k := fld (wd p.words 0) 11 0
    ∃ u r, Answers (.refConfig p) s 0x0600 p u r ∧ r.length = 4 ∧ u.refCfg k = s.refCfgOf k p.words ∧
      (∀ j, j ≠ k → u.refCfg j = s.refCfg j ∧ u.refRun j = s.refRun j) ∧ u.keeps (s.accepted 0x0600 p) [.refs] ∧
      (bit (wd p.words 1) 0 = false → (u.refRun k).q = .off) ∧
      (bit (wd p.words 1) 0 = true → (s.refRun k).q = .off → (u.refRun k).q = .disqualified) ∧
      (bit (wd p.words 1) 0 = true → (s.refRun k).q ≠ .off → u.refRun k = s.refRun k)) ∧
  (∀ s p, s.accepts 0x0601 (lenIs 3) p = true → bit (wd p.words 0) 31 = true → Tab.sorted s.refs.ranks = true →
    let k := refId false (fld (wd p.words 0) 11 0)
    ∃ u r, Answers (.refRank p) s 0x0601 p u r ∧ r.length = 3 ∧ u.keeps (s.accepted 0x0601 p) [.refs] ∧
      (u.refRank k).rank = clamp 1 15 (fld (wd p.words 1) 3 0) ∧ (u.refRank k).qualTime = clamp 1 3600 (fld (wd p.words 1) 27 16) ∧
      (u.refRank k).wtrTime = min 3600 (fld (wd p.words 2) 11 0) ∧ ∀ j, j ≠ k → u.refRank j = s.refRank j) ∧
  (∀ s p, s.accepts 0x0602 (lenIs 4) p = true → bit (wd p.words 0) 31 = true → s.refs.runs = [] →
    ∃ r, Answers (.refSelect p) s 0x0602 p { s.accepted 0x0602 p with refs := { s.refs with
        mode := min 2 (fld (wd p.words 1) 1 0), revertive := bit (wd p.words 1) 2, forceRef := refId false (fld (wd p.words 1) 27 16),
        pullRange := clamp 1000 100000 (fld (wd p.words 2) 16 0), qualLimit := clamp 1 65535 (fld (wd p.words 3) 15 0) } } r ∧ r.length = 4) ∧
  (∀ s p, s.accepts 0x0603 (lenIs 1) p = true → ∃ r, Answers (.refStatus p) s 0x0603 p (s.accepted 0x0603 p) r ∧ r.length = 8 ∧ wd r 0 = s.refState) ∧
  (∀ s p, s.accepts 0x0604 (lenIs 6) p = true → bit (wd p.words 0) 31 = true → s.refs.st ≠ .lockWide → s.refs.st ≠ .lockNarrow →
    ∃ r, Answers (.refBandwidth p) s 0x0604 p { s.accepted 0x0604 p with refs := { s.refs with
        trackBw := clamp 50 100000 (fld (wd p.words 1) 16 0), damping := clamp 500 10000 (fld (wd p.words 2) 13 0),
        phaseBw := clamp 1 10000 (fld (wd p.words 3) 13 0), phaseSlew := clamp 1 500000 (fld (wd p.words 4) 18 0),
        stepThresh := min 1000000000 (fld (wd p.words 5) 29 0) } } r ∧ r.length = 6) ∧
  (∀ s p, s.accepts 0x0605 (lenIs 5) p = true → bit (wd p.words 0) 31 = true → ∃ u r, Answers (.refHoldover p) s 0x0605 p u r ∧ r.length = 8 ∧
    u.keeps (s.accepted 0x0605 p) [.refs] ∧ u.refs.learn = bit (wd p.words 0) 30 ∧ u.refs.histWin = clamp 16 65535 (fld (wd p.words 1) 15 0) ∧
    u.refs.histGuard = fld (wd p.words 1) 23 16 ∧ u.refs.tempSel = bit (wd p.words 1) 24 ∧ u.refs.st = s.refs.st ∧ u.refs.sel = s.refs.sel ∧
    (bit (wd p.words 0) 30 = false → u.refs.c1 = sfld (wd p.words 2) 31 0 ∧ u.refs.c2 = sfld (wd p.words 3) 31 0 ∧ u.refs.age = sfld (wd p.words 4) 31 0) ∧
    (bit (wd p.words 0) 29 = true → u.refs.histValid = false)) ∧
  (∀ s p, bit (wd p.words 0) 31 = false →
    (s.accepts 0x0601 (lenIs 3) p = true → ∃ r, Answers (.refRank p) s 0x0601 p (s.accepted 0x0601 p) r) ∧
    (s.accepts 0x0604 (lenIs 6) p = true → ∃ r, Answers (.refBandwidth p) s 0x0604 p (s.accepted 0x0604 p) r) ∧
    (s.accepts 0x0605 (lenIs 5) p = true → ∃ r, Answers (.refHoldover p) s 0x0605 p (s.accepted 0x0605 p) r))

/-- A disqualified reference whose checks pass begins QUALIFYING; at the end of its qualifying time it is in WTR when it had been disqualified
since it was enabled, and QUALIFIED otherwise; at the end of WTR it is QUALIFIED; a failed check (a missing or a stray edge of a REFIN, a
lane that is not usable, a quality level of DNU, a session that is no SLAVE, a frequency beyond PULL_RANGE) takes it from any of the three
to DISQUALIFIED, with its cause and count. A timer that has not run out, and each row in another state, changes nothing. A switch whose
measurement window is over hands over to LOCK-NARROW within 100 ppb and to ACQUIRE beyond; 16 comparison periods within 100 ppb leave
ACQUIRE, 16 beyond 1,000 ppb return to it; each narrowing step after a full dwell divides the bandwidth by at most 4 and ends in
LOCK-NARROW at the tracking bandwidth, and an error outside the band restarts the dwell; the history becomes valid after its span, a
holdover prediction steers and a fit sample is learned only in their states. Each row in another state, and a window that is not over,
changes nothing. Where the spec leaves a point open, the clauses rest on the model's reading or choice (log entries 23, 24, 76, 77).
Completes: refCheckFail, refChecksPass, refQualTimeExpiry, refWtrExpiry, switchMeasurementComplete, loopLocked, loopUnlocked,
bandwidthNarrowed, histValidSet, holdoverPredictionUpdate, holdoverFitSample (R357, R356, R381, R365, R366, R367, R370, R374, R375). -/
def Obligations.ReferencesAndLoop : Prop :=
  (∀ (s : State) (k : Nat), Tab.sorted s.refs.runs = true → (s.refRun k).q = .disqualified → s.refCanPass k = true → Completes (.refChecksPass k) s (fun t =>
    t.refRun k = { s.refRun k with q := .qualifying, since := s.clk.tick } ∧ (∀ j, j ≠ k → t.refRun j = s.refRun j) ∧ t.keeps s [.refs])) ∧
  (∀ (s : State) (k : Nat), Tab.sorted s.refs.runs = true → (s.refRun k).q = .qualifying → (s.refRun k).since < s.clk.tick →
    (s.refRun k).since + (s.refRank k).qualTime * 1250000000 ≤ s.clk.tick → Completes (.refQualTimeExpiry k) s (fun t =>
      t.refRun k = { s.refRun k with q := if (s.refRun k).everDisq then .wtr else .qualified, since := s.clk.tick } ∧
      (∀ j, j ≠ k → t.refRun j = s.refRun j) ∧ t.keeps s [.refs])) ∧
  (∀ (s : State) (k : Nat), Tab.sorted s.refs.runs = true → (s.refRun k).q = .wtr → (s.refRun k).since < s.clk.tick →
    (s.refRun k).since + (s.refRank k).wtrTime * 1250000000 ≤ s.clk.tick → Completes (.refWtrExpiry k) s (fun t =>
      t.refRun k = { s.refRun k with q := .qualified } ∧ (∀ j, j ≠ k → t.refRun j = s.refRun j) ∧ t.keeps s [.refs])) ∧
  (∀ (s : State) (k c : Nat) (why : RefWhy), Tab.sorted s.refs.runs = true → s.refs.st ≠ .switching →
    (s.refRun k).q = .qualifying ∨ (s.refRun k).q = .wtr ∨ (s.refRun k).q = .qualified →
    (k < 8 ∧ (s.refCfg k).pps = true ∧ c = 1 ∧ why = .gap 1500000000001) ∨ (k < 8 ∧ (s.refCfg k).pps = true ∧ c = 6 ∧ why = .strays [1000001, -1000001, 1000001])
      ∨ (8 ≤ k ∧ k < 16 ∧ s.laneUsable (s.refCfg k).lane = false ∧ c = 3 ∧ why = .state)
      ∨ (8 ≤ k ∧ k < 16 ∧ s.laneUsable (s.refCfg k).lane = true ∧ (s.esmc (s.portOfLane (s.refCfg k).lane)).rxQl = 0xF ∧ c = 4 ∧ why = .state)
      ∨ (0x400 ≤ k ∧ s.packetRef k = none ∧ c = 5 ∧ why = .state) → Completes (.refCheckFail k why) s (fun t =>
      t.refRun k = { s.refRun k with q := .disqualified, cause := c, everDisq := true, disqCount := inc16 (s.refRun k).disqCount } ∧
      (∀ j, j ≠ k → t.refRun j = s.refRun j) ∧ t.refs.st = s.refs.st ∧ t.refs.sel = s.refs.sel ∧ t.keeps s [.refs, .cru, .buf, .clk])) ∧
  (∀ (s : State) (k : Nat) (f : Int), k < 0x400 → Tab.sorted s.refs.runs = true → s.refs.st ≠ .switching → (s.refRun k).q = .qualified →
    (∀ j ∈ s.refIds, j ≠ k → s.outOfPull j = false) → -(2 ^ 31) ≤ f → f < 2 ^ 31 → 1000 * s.refs.pullRange < f.natAbs → Completes (.refCheckFail k (.freq f)) s (fun t =>
      t.refRun k = { s.refRun k with q := .disqualified, cause := 2, everDisq := true, disqCount := inc16 (s.refRun k).disqCount, freqOff := f } ∧
      (∀ j, j ≠ k → t.refRun j = s.refRun j))) ∧
  (∀ (s : State) (k : Nat), (s.refRun k).q = .off → exec (.refChecksPass k) s = .next s ∧ exec (.refQualTimeExpiry k) s = .next s ∧
    exec (.refWtrExpiry k) s = .next s ∧ ∀ w, (∀ f, w ≠ .freq f) → exec (.refCheckFail k w) s = .next s) ∧
  (∀ (s : State) (k : Nat), s.clk.tick ≤ (s.refRun k).since → exec (.refQualTimeExpiry k) s = .next s ∧ exec (.refWtrExpiry k) s = .next s) ∧
  (∀ (s : State) (f : Int), s.refs.st = .switching → s.refs.sel < 0x400 → s.carriesTime s.refs.sel = false → s.refs.switchSince + 12500000 ≤ s.clk.tick →
    Completes (.switchMeasurementComplete f) s (fun t =>
      t.refs.st = (if (f - roundDiv (s.clk.steerTo * 10 ^ 12) (2 ^ 48)).natAbs ≤ 100000 then .lockNarrow else .acquire) ∧ t.refs.sel = s.refs.sel ∧
      t.clk.steerTo = clampZ (-28147497671) 28147497671 (State.steerOf f) ∧ t.clk.steer = s.clk.steer ∧
      t.keeps s [.refs, .clk, .tbs, .cru, .buf])) ∧
  (∀ (s : State) (f : Int), s.refs.st ≠ .switching ∨ (0x400 ≤ s.refs.sel ∧ s.refs.switchSeen < 4) ∨
      (s.refs.sel < 0x400 ∧ s.carriesTime s.refs.sel = true ∧ s.refs.switchSeen < 2) → exec (.switchMeasurementComplete f) s = .next s) ∧
  (∀ (s : State) (off : Int) (errs : List Int), s.refs.st = .acquire → 16 ≤ errs.length → (∀ e ∈ errs.take 16, e.natAbs ≤ 100000) →
    Completes (.loopLocked off errs) s (fun t =>
      t.refs.st = (if s.trackBwNow < s.acqBw then .lockWide else .lockNarrow) ∧
      t.refs.bwNow = 65536 * (if s.trackBwNow < s.acqBw then s.acqBw else s.trackBwNow) ∧
      t.clk.steerTo = clampZ (-28147497671) 28147497671 (State.steerOf off) ∧ t.keeps s [.refs, .clk, .tbs, .cru, .buf])) ∧
  (∀ (s : State) (off : Int) (errs : List Int), s.refs.st ≠ .acquire ∨ errs.length < 16 ∨ (∃ e ∈ errs.take 16, 100000 < e.natAbs) →
    exec (.loopLocked off errs) s = .next s) ∧
  (∀ (s : State) (errs : List Int), s.refs.st = .lockWide ∨ s.refs.st = .lockNarrow → 16 ≤ errs.length → (∀ e ∈ errs.take 16, 1000000 < e.natAbs) →
    Completes (.loopUnlocked errs) s (fun t => t.refs.st = .acquire ∧ t.refs.bwNow = s.acqBw * 65536 ∧ t.refs.sel = s.refs.sel)) ∧
  (∀ (s : State) (errs : List Int), (s.refs.st ≠ .lockWide ∧ s.refs.st ≠ .lockNarrow) ∨ errs.length < 16 ∨ (∃ e ∈ errs.take 16, e.natAbs ≤ 1000000) →
    exec (.loopUnlocked errs) s = .next s) ∧
  (∀ (s : State) (off : Int) (worst : Nat), s.refs.st = .lockWide → worst ≤ 100000 →
    2 * 65536 * 1000 * 1250000000 ≤ (s.clk.tick - s.refs.dwellSince) * s.refs.bwNow → Completes (.bandwidthNarrowed off worst) s (fun t =>
      t.refs.bwNow = max (s.trackBwNow * 65536) (s.refs.bwNow / 4) ∧
      t.refs.st = (if s.refs.bwNow / 4 ≤ s.trackBwNow * 65536 then .lockNarrow else .lockWide))) ∧
  (∀ (s : State) (off : Int) (worst : Nat), s.refs.st = .lockWide → 100000 < worst →
    exec (.bandwidthNarrowed off worst) s = .next { s with refs := { s.refs with dwellSince := s.clk.tick } }) ∧
  (∀ (s : State) (off : Int) (worst : Nat), s.refs.st ≠ .lockWide → exec (.bandwidthNarrowed off worst) s = .next s) ∧
  (∀ (s : State) (f c : Int), s.refs.st = .lockNarrow →
    s.refs.narrowSince + (s.refs.histWin + s.refs.histGuard) * 1250000000 ≤ s.clk.tick → Completes (.histValidSet f c) s (fun t =>
      t.refs.histValid = true ∧ t.refs.fH = f ∧ t.refs.tH = c ∧ t.refs.st = s.refs.st ∧ t.keeps s [.refs])) ∧
  (∀ (s : State) (f c : Int), s.clk.tick < s.refs.narrowSince + (s.refs.histWin + s.refs.histGuard) * 1250000000 → exec (.histValidSet f c) s = .next s) ∧
  (∀ (s : State) (f c : Int), s.refs.st ≠ .lockNarrow → exec (.histValidSet f c) s = .next s ∧ exec (.holdoverFitSample f c) s = .next s) ∧
  (∀ (s : State) (die : Int) (ext : Option Int), Completes (.holdoverPredictionUpdate die ext) s (fun t =>
    t.refs = { s.refs with temp := if s.refs.tempSel then ext.getD die else die, tempFallback := s.refs.tempSel && ext.isNone } ∧
    (s.refs.st ≠ .holdover → s.refs.st ≠ .switching → t.clk = s.clk) ∧
    (s.refs.st = .holdover → t.clk.steer = s.clk.steer ∧ t.clk.steerTo = clampZ (-28147497671) 28147497671
      (roundDiv (s.prediction15 t.refs.temp * 2 ^ 48) (10 ^ 15))) ∧ t.keeps s [.refs, .clk])) ∧
  (∀ (s : State) (f c : Int), s.refs.st = .lockNarrow → s.refs.learn = true → s.refs.fits.length + 1 < 1440 → Completes (.holdoverFitSample f c) s (fun t =>
    t.refs.fits = (f, c, s.clk.tick) :: s.refs.fits ∧ t.refs.age = s.refs.age ∧ t.keeps s [.refs]))

/-- One evaluation is made at each TICK that is a multiple of 1,250,000. It makes no selection while TB0 is in SWITCHING or FAULT; in MODE 2,
or in MODE 1 with FORCE_REF neither QUALIFIED nor in WTR, TB0 leaves ACQUIRE and the locked states for HOLDOVER when the history is valid
and for FREE-RUN otherwise; in MODE 0 with no dispute and the current selection no candidate, the one candidate of best rank is selected.
Where the spec leaves a point open, the clauses rest on the model's reading or choice (log entries 24, 76). Completes: refEvaluation
(R359, R360, R361, R362, R365). -/
def Obligations.Selection : Prop :=
  (∀ (s : State) (off : Int), s.clk.tpUp = true → s.refs.st = .switching ∨ s.refs.st = .fault → s.refs.runs = [] → s.clk.tick % 1250000 = 0 →
    exec (.refEvaluation off []) s = .next { s with refs := { s.refs with evalTick := some s.clk.tick } }) ∧
  (∀ (s : State) (off : Int), s.clk.tpUp = true → (∀ k ∈ s.refIds, s.outOfPull k = false) → s.phaseActs = false →
    s.clk.tick % 1250000 ≠ 0 ∨ s.refs.evalTick = some s.clk.tick → exec (.refEvaluation off []) s = .next s) ∧
  (∀ (s : State) (off : Int), s.clk.tpUp = true → (∀ k ∈ s.refIds, s.outOfPull k = false) → s.clk.tick % 1250000 = 0 → s.refs.evalTick ≠ some s.clk.tick →
    s.refs.mode = 2 ∨ (s.refs.mode = 1 ∧ (s.refRun s.refs.forceRef).q ≠ .qualified ∧ (s.refRun s.refs.forceRef).q ≠ .wtr) →
    s.refs.st = .acquire ∨ s.refs.st = .lockWide ∨ s.refs.st = .lockNarrow → Completes (.refEvaluation off []) s (fun t =>
      t.refs.st = (if s.refs.histValid then .holdover else .freeRun) ∧ t.refs.sel = 0xFFF ∧ t.clk.steer = s.clk.steer)) ∧
  (∀ (s : State) (off : Int) (b : Nat), s.clk.tpUp = true → (∀ k ∈ s.refIds, s.outOfPull k = false) → s.clk.tick % 1250000 = 0 →
    s.refs.evalTick ≠ some s.clk.tick → s.refs.mode = 0 → s.refs.st = .freeRun →
    s.refs.sel = 0xFFF → (∀ e ∈ s.refs.runs, e.2.outvoted = none) → b ≠ 0xFFF → b ∈ s.candidates → 0xFFF ∉ s.candidates →
    (∀ k ∈ s.candidates, k ≠ b → (s.refRank b).rank < (s.refRank k).rank) → Completes (.refEvaluation off []) s (fun t =>
      t.refs.sel = b ∧ t.refs.st = .acquire ∧ t.refs.disputed = false)) ∧
  (∀ (s : State) (off : Int) (m : List RefMeas), s.clk.tpUp = false → exec (.refEvaluation off m) s = .next s)

/-- Accepted: MEAS.CONFIG of a channel with no run stores its configuration with WRITE 1; MEAS.START without AT starts every selected channel
that is READY or RUNNING, at a past time is LATE, at a later one waits; MEAS.STOP takes every selected RUNNING channel to READY; MEAS.READ
returns and removes the oldest results and clears MISSED and LOST; MEAS.STATS waits for its run. An edge on an OFF channel, of the
direction the channel does not select, of before its start, or with the timing plane out of service, has no effect; one the prescaler does
not pass is only counted there; the first edge of a running STAMP channel that serves no other channel takes the next index and stores one
result of four words; an edge too close to the last captured one only counts as missed and is refused. Where the spec leaves a point open,
the clauses rest on the model's reading or choice (log entry 42). Completes: measConfig, measStart, measStop, measRead, measStats,
inputEdge (R431, R433, R434, R435, R436, R437, R413, R415, R416, R417, R423, R429). -/
def Obligations.Channels : Prop :=
  (∀ s p, s.accepts 0x0500 (lenIs 3) p = true → bit (wd p.words 0) 31 = true → Tab.sorted s.chans = true →
    let ch := chArg (wd p.words 0)
    (s.chan ch).stat = none → (∀ k, k < 28 → (s.chan k).deferred = false) → s.axg.jobs.all (fun j => match j.work with | .calRun _ => false | _ => true) = true →
    ∃ u r, Answers (.measConfig p) s 0x0500 p u r ∧ r.length = 3 ∧ u.keeps (s.accepted 0x0500 p) [.chans] ∧
      (u.chan ch).enable = bit (wd p.words 1) 0 ∧ (u.chan ch).edge = bit (wd p.words 1) 1 ∧ (u.chan ch).tb = fld (wd p.words 1) 6 4 ∧
      (u.chan ch).st = (if bit (wd p.words 1) 0 then .ready else .off) ∧ (u.chan ch).prescale = clamp 1 4096 (fld (wd p.words 2) 12 0) ∧
      (bit (wd p.words 1) 0 = false → (u.chan ch).queue = []) ∧ ∀ k, k ≠ ch → u.chan k = s.chan k) ∧
  (∀ s p, s.accepts 0x0501 (lenIs 4) p = true → bit (wd p.words 0) 31 = false → Tab.sorted s.chans = true →
    ∃ u r, Answers (.measStart p) s 0x0501 p u r ∧ r.length = 3 ∧ u.keeps (s.accepted 0x0501 p) [.chans] ∧
      ∀ k, k < 28 → u.chan k = if (fld (wd p.words 0) 27 0).testBit k ∧ (s.chan k).st ≠ .off then (s.chan k).begin_ s.clk.tick else s.chan k) ∧
  (∀ s p, s.accepts 0x0501 (lenIs 4) p = true → bit (wd p.words 0) 31 = true → (s.tb 0).val < timeArg p.words 1 →
    exec (.measStart p) s = .next ((s.accepted 0x0501 p).hold (s.ctxOf 0x0501 p) (.measStart (fld (wd p.words 0) 27 0) 0 (timeArg p.words 1)))) ∧
  (∀ s p, s.accepts 0x0501 (lenIs 4) p = true → bit (wd p.words 0) 31 = true → timeArg p.words 1 ≤ (s.tb 0).val →
    exec (.measStart p) s = .next (((s.accepted 0x0501 p).log .timing 0x0107 0 (pack [(0, 0x0501), (16, p.tag)]) 0 0).complete (s.ctxOf 0x0501 p)
      { status := 0x0060, detail := 0, words := [0, w32 (s.clk.tick / 2 ^ 32), w32 s.clk.tick] })) ∧
  (∀ s p, s.accepts 0x0502 (lenIs 1) p = true → Tab.sorted s.chans = true → (∀ k, k < 28 → (s.chan k).stat = none) →
    ∃ u, Answers (.measStop p) s 0x0502 p u
        [w32 (maskOf ((maskBits 28 (wd p.words 0).toNat).filter (fun k => decide ((s.chan k).st = ChSt.running))))] ∧
      ∀ k, k < 28 → (u.chan k).st = if (wd p.words 0).getLsbD k = true ∧ (s.chan k).st = .running then .ready else (s.chan k).st) ∧
  (∀ s p, s.accepts 0x0503 (lenIs 1) p = true → Tab.sorted s.chans = true →
    let ch := chArg (wd p.words 0)
    let n := min (min 4096 (fld (wd p.words 0) 28 16)) (s.chan ch).queue.length
    ∃ u, Answers (.measRead p) s 0x0503 p u
        ([pack [(0, n), (16, (s.chan ch).queue.length - n), (30, chStCode (s.chan ch).st)], pack [(0, (s.chan ch).lost), (16, (s.chan ch).missed)]]
          ++ ((s.chan ch).queue.take n).flatten) ∧
      u.keeps (s.accepted 0x0503 p) [.chans] ∧ u.chan ch = { s.chan ch with queue := (s.chan ch).queue.drop n, lost := 0, missed := 0 } ∧
      ∀ k, k ≠ ch → u.chan k = s.chan k) ∧
  (∀ s p, s.accepts 0x0504 (lenIs 2) p = true → (s.chan (chArg (wd p.words 0))).stat.isSome = true →
    exec (.measStats p) s = .next ((s.accepted 0x0504 p).hold (s.ctxOf 0x0504 p) (.stats (chArg (wd p.words 0)) (wd p.words 1).toNat))) ∧
  (∀ (s : State) (ch ago f8 : Nat) (fal : Bool), 28 ≤ ch ∨ s.clk.tpUp = false ∨ (s.chan ch).st = .off ∨ fal ≠ (s.chan ch).edge ∨ s.clk.tick - ago < (s.chan ch).begun →
    exec (.inputEdge ch fal ago f8) s = .next s) ∧
  (∀ (s : State) (ch ago f8 : Nat), ch < 28 → s.clk.tpUp = true → (s.chan ch).st ≠ .off → (s.chan ch).begun ≤ s.clk.tick - ago → (s.chan ch).pre ≠ 0 →
    exec (.inputEdge ch (s.chan ch).edge ago f8) s = .next (s.setChan ch { s.chan ch with
      pre := ((s.chan ch).pre + 1) % max 1 (s.chan ch).prescale })) ∧
  (∀ (s : State) (ch ago f8 : Nat), ch < 28 → s.clk.tpUp = true → Tab.sorted s.chans = true → (s.chan ch).st = .running → (s.chan ch).mode = 0 →
    (s.chan ch).begun ≤ s.clk.tick - ago → (s.chan ch).pre = 0 → (s.chan ch).lastCap = none → (s.chan ch).stat = none → (s.chan ch).prev = none → s.stopsFor ch = [] → (s.chan ch).queueEn = true →
    (s.chan ch).queue.length < 4096 → Completes (.inputEdge ch (s.chan ch).edge ago f8) s (fun t => t.keeps s [.chans] ∧ (t.chan ch).k = (s.chan ch).k + 1 ∧
      (∃ e, (t.chan ch).queue = (s.chan ch).queue ++ [e] ∧ e.length = 4) ∧ (t.chan ch).missed = (s.chan ch).missed ∧
      ∀ k, k ≠ ch → t.chan k = s.chan k)) ∧
  (∀ (s : State) (ch ago f8 : Nat), ch < 28 → s.clk.tpUp = true → Tab.sorted s.chans = true → (s.chan ch).st = .running → (s.chan ch).mode = 0 →
    (s.chan ch).begun ≤ s.clk.tick - ago → (s.chan ch).pre = 0 → s.stopsFor ch = [] → (s.chan ch).lastCap = some (s.clk.tick - ago, min 6399 f8) → Completes (.inputEdge ch (s.chan ch).edge ago f8) s (fun t =>
      t.keeps s [.chans] ∧ (t.chan ch).missed = inc16 (s.chan ch).missed ∧ (t.chan ch).queue = (s.chan ch).queue ∧
      (t.chan ch).k = (s.chan ch).k + 1 ∧ (t.chan ch).gap = true))

/-- Accepted, with no other HAM command waiting: HAM.ARM of a one-shot before the earliest permitted edge is LATE and leaves every output as
it was, and otherwise arms the output and replies with its first edge; HAM.CONV arms it with its samples per second; HAM.DISARM replies at
once when the selected outputs are IDLE and waits for one whose committed edges are still to come; HAM.ALIGN that selects no armed or
running periodic output replies with none, and a slewing one on an output that is off its time base waits; HAM.STATUS changes nothing.
Where the spec leaves a point open, the clauses rest on the model's reading or choice (log entry 43). Completes: hamArm, hamDisarm,
hamAlign, hamStatus, hamConv (R393, R394, R397, R400, R402, R403, R404, R406, R407, R408, R409, R410). -/
def Obligations.HammerCommands : Prop :=
  (∀ s p, s.accepts 0x0700 (lenIs 10) p = true →
    let k := fld (wd p.words 0) 3 0
    let x := hamOfWords p.words
    x.mode = .oneShot → x.start < s.earliest k x.tb (s.tb x.tb).rateTotal →
    exec (.hamArm p) s = .next (((s.accepted 0x0700 p).log .timing 0x0107 (srcOf 7 k) (pack [(0, 0x0700), (16, p.tag)]) 0 0).complete
      (s.ctxOf 0x0700 p) { status := 0x0060, detail := 0, words := x.armWords k ++ timeWords (s.tb x.tb).val ++ [0] })) ∧
  (∀ s p, s.accepts 0x0700 (lenIs 10) p = true → s.axg.jobs.all (fun j => !j.work.forHam) = true →
    let k := fld (wd p.words 0) 3 0
    let x := hamOfWords p.words
    s.ham k = {} → x.mode = .oneShot → s.earliest k x.tb (s.tb x.tb).rateTotal ≤ x.start →
    ∃ u, Answers (.hamArm p) s 0x0700 p u (x.armWords k ++ timeWords x.start ++ [0]) ∧ u.keeps (s.accepted 0x0700 p) [.hams] ∧
      u.ham k = { x with st := .armed, next := some 0 } ∧ ∀ j, j ≠ k → u.ham j = s.ham j) ∧
  (∀ s p, s.accepts 0x0704 (lenIs 6) p = true → s.axg.jobs.all (fun j => !j.work.forHam) = true → s.ham (fld (wd p.words 0) 3 0) = {} →
    let k := fld (wd p.words 0) 3 0
    ∃ u r, Answers (.hamConv p) s 0x0704 p u r ∧ r.length = 10 ∧ u.keeps (s.accepted 0x0704 p) [.hams] ∧ (u.ham k).st = .armed ∧
      (u.ham k).mode = .conv ∧ (u.ham k).nPerSec = clamp 1 10000000 (fld (wd p.words 1) 23 0) ∧ (u.ham k).tb = fld (wd p.words 0) 6 4 ∧
      (u.ham k).h = (s.tb (fld (wd p.words 0) 6 4)).val ∧ ∀ j, j ≠ k → u.ham j = s.ham j) ∧
  (∀ s p, s.accepts 0x0701 (lenIs 1) p = true → s.axg.jobs.all (fun j => !j.work.forHam) = true →
    (∀ k, k < 16 → (wd p.words 0).getLsbD k = true → (s.ham k).st = .idle) → Answers (.hamDisarm p) s 0x0701 p (s.accepted 0x0701 p) [0]) ∧
  (∀ s p k, s.accepts 0x0701 (lenIs 1) p = true → s.axg.jobs.all (fun j => !j.work.forHam) = true → k < 16 → wd p.words 0 = w32 (2 ^ k) →
    (s.ham k).st ≠ .idle → (s.ham k).align = none → (s.ham k).committed ≠ [] →
    exec (.hamDisarm p) s = .next (((s.accepted 0x0701 p).setHam k { s.ham k with disarming := true, next := none }).hold (s.ctxOf 0x0701 p)
      (.hamDisarm (2 ^ k) (2 ^ k)))) ∧
  (∀ s p, s.accepts 0x0702 (lenIs 2) p = true → s.axg.jobs.all (fun j => !j.work.forHam) = true →
    (∀ k, k < 16 → (wd p.words 0).getLsbD k = true → (s.ham k).mode = .oneShot ∨ (s.ham k).st = .idle ∨ (s.ham k).st = .done) →
    ∃ r, Answers (.hamAlign p) s 0x0702 p (s.accepted 0x0702 p) r ∧ r.length = 3 ∧ wd r 1 = w32 (clamp 1 500000 (fld (wd p.words 1) 18 0)) ∧ wd r 2 = 0) ∧
  (∀ s p k, s.accepts 0x0702 (lenIs 2) p = true → s.axg.jobs.all (fun j => !j.work.forHam) = true → k < 16 → fld (wd p.words 0) 15 0 = 2 ^ k →
    bit (wd p.words 0) 16 = true → (s.ham k).st = .running → (s.ham k).mode = .periodic → (s.ham k).disarming = false → (s.ham k).align = none →
    (s.ham k).h ≠ (s.tb (s.ham k).tb).val → Completes (.hamAlign p) s (fun t =>
      (t.ham k).align = some (.slew (clamp 1 500000 (fld (wd p.words 1) 18 0))) ∧ (t.ham k).h = (s.ham k).h ∧
      t.axg.jobs.length = s.axg.jobs.length + 1 ∧ t.keeps s [.hams, .axg])) ∧
  (∀ s p, s.accepts 0x0703 (lenIs 1) p = true → ∃ r, Answers (.hamStatus p) s 0x0703 p (s.accepted 0x0703 p) r ∧ r.length = 12)

/-- A one-shot within 64 ticks of its start commits its two edges, once; before that nothing is committed. The oldest committed edge leaves in
its tick, setting the output's level, and no edge leaves earlier. A slewing alignment is complete once the output time equals its time
base. Each row on an output with nothing to do changes nothing. Where the spec leaves a point open, the clauses rest on the model's
reading or choice (log entries 43, 46). Completes: hamEdgeCommit, hamEdgeEmit, hamAlignComplete (R389, R390, R393, R401, R402, R404,
R399). -/
def Obligations.HammerEdges : Prop :=
  (∀ (s : State) (k : Nat), k < 16 → s.clk.tpUp = true → Tab.sorted s.hams = true → (s.ham k).mode = .oneShot → (s.ham k).frame = false →
    (s.ham k).disarming = false → (s.ham k).align = none → (s.ham k).next = some 0 →
    (s.ham k).start ≤ ((s.tb (s.ham k).tb).val : Int) + scaleRho (s.tb (s.ham k).tb).rateTotal commitU → (s.tb (s.ham k).tb).val ≤ (s.ham k).start →
    Completes (.hamEdgeCommit k) s (fun t => t.keeps s [.hams] ∧ (t.ham k).next = none ∧
      (∃ a b, (t.ham k).committed = (s.ham k).committed ++ [a, b] ∧ a.level = some true ∧ b.level = some false ∧ s.clk.tick ≤ a.tick ∧ a.tick ≤ b.tick) ∧
      ∀ j, j ≠ k → t.ham j = s.ham j)) ∧
  (∀ (s : State) (k : Nat), k < 16 → s.clk.tpUp = false ∨ (s.ham k).disarming = true ∨ (s.ham k).next = none ∨
    ((s.ham k).mode = .oneShot ∧ ((s.tb (s.ham k).tb).val : Int) + scaleRho (s.tb (s.ham k).tb).rateTotal commitU < (s.ham k).start) →
    exec (.hamEdgeCommit k) s = .next s) ∧
  (∀ (s : State) (k : Nat) (e : HamEdge) (l : List HamEdge) (v : Bool), k < 16 → s.clk.tpUp = true → Tab.sorted s.hams = true →
    (s.ham k).committed = e :: l → e.tick ≤ s.clk.tick → e.boundary = none → e.level = some v → e.stop = false → (s.ham k).disarming = false →
    Completes (.hamEdgeEmit k) s (fun t => t.keeps s [.hams, .out] ∧ t.ham k = { s.ham k with committed := l, active := v } ∧
      ((s.ham k).active = v ∨ s.pairGateOpen = false → t.out = s.out) ∧
      ((s.ham k).active ≠ v → s.pairGateOpen = true → t.out.length = s.out.length + 1))) ∧
  (∀ (s : State) (k : Nat), k < 16 → s.clk.tpUp = false ∨ (s.ham k).committed = [] ∨
    (∃ e, (s.ham k).committed.head? = some e ∧ s.clk.tick < e.tick) → exec (.hamEdgeEmit k) s = .next s) ∧
  (∀ (s : State) (k ppb : Nat), k < 16 → Tab.sorted s.hams = true → (s.ham k).align = some (.slew ppb) → s.axg.jobs.all (fun j => !j.work.forHam) = true →
    (s.ham k).h = (s.tb (s.ham k).tb).val →
    Completes (.hamAlignComplete k) s (fun t => t.keeps s [.hams] ∧ t.ham k = { s.ham k with align := none } ∧ ∀ j, j ≠ k → t.ham j = s.ham j)) ∧
  (∀ (s : State) (k ppb : Nat), k < 16 → (s.ham k).align = some (.slew ppb) → (s.ham k).h ≠ (s.tb (s.ham k).tb).val →
    exec (.hamAlignComplete k) s = .next s) ∧
  (∀ (s : State) (k : Nat), k < 16 → (s.ham k).align = none → exec (.hamAlignComplete k) s = .next s)

/-- Accepted: SESSION.CREATE of a free SID on a port that is not UP makes an entry that is DOWN and no other, and of an entry that would clash
or whose port does not exist makes none and says why; SESSION.DELETE of one SID removes it and no other; SESSION.READ, SESSION.STATUS, and
SESSION.SERVO and SESSION.KEY without WRITE change nothing; with WRITE 1 SESSION.SERVO stores the clamped parameters, SESSION.KEY loads
one slot or empties it, and SESSION.ESMC stores what the port sends. Where the spec leaves a point open, the clauses rest on the model's
reading or choice (log entry 31). Completes: sessionCreate, sessionDelete, sessionRead, sessionStatus, sessionServo, sessionKey,
sessionEsmc (R308, R309, R310, R311, R312, R313, R314, R279, R281, R282, R291). -/
def Obligations.SessionCommands : Prop :=
  (∀ s p, s.accepts 0x0440 (lenIs 9) p = true →
    let sid := fld (wd p.words 0) 9 0
    let e := sesCfgOf p.words
    let a := s.accepted 0x0440 p
    ((s.createReason sid e ≠ 0 ∨ s.portExists e.port = false) →
      Answers (.sessionCreate p) s 0x0440 p a (e.toWords sid false ++ [pack [(0, 0), (1, 0), (2, s.createReason sid e)]])) ∧
    (s.createReason sid e = 0 → s.portExists e.port = true → s.session? sid = none → (s.port e.port).st ≠ .up →
      ∃ u, Answers (.sessionCreate p) s 0x0440 p u (e.toWords sid false ++ [pack [(0, 1), (1, 0), (2, 0)]]) ∧
        u.session? sid = some { cfg := e } ∧ (∀ k, k ≠ sid → u.session? k = s.session? k) ∧ u.keeps a [.ptp, .tbs])) ∧
  (∀ s p, s.accepts 0x0441 (lenIs 1) p = true → bit (wd p.words 0) 24 = false → bit (wd p.words 0) 25 = false → Tab.sorted s.ptp.sessions = true →
    let sid := fld (wd p.words 0) 9 0
    (s.session? sid = none → Answers (.sessionDelete p) s 0x0441 p (s.accepted 0x0441 p) [0]) ∧
    (s.session? sid ≠ none → ∃ u, Answers (.sessionDelete p) s 0x0441 p u [1] ∧ u.session? sid = none ∧ ∀ k, k ≠ sid → u.session? k = s.session? k)) ∧
  (∀ s p, s.accepts 0x0442 (lenIs 1) p = true → Answers (.sessionRead p) s 0x0442 p (s.accepted 0x0442 p)
    (match s.session? (fld (wd p.words 0) 9 0) with
     | some x => x.cfg.toWords (fld (wd p.words 0) 9 0) true
     | none => w32 (fld (wd p.words 0) 9 0) :: List.replicate 8 0)) ∧
  (∀ s p, s.accepts 0x0443 (lenIs 1) p = true → ∃ r, Answers (.sessionStatus p) s 0x0443 p (s.accepted 0x0443 p) r ∧ r.length = 16) ∧
  (∀ s p, s.accepts 0x0444 (lenIs 10) p = true →
    let n := tbArg (wd p.words 0)
    (bit (wd p.words 0) 31 = false → ∃ r, Answers (.sessionServo p) s 0x0444 p (s.accepted 0x0444 p) r ∧ r.length = 11) ∧
    (bit (wd p.words 0) 31 = true → Tab.sorted s.ptp.insts = true → ∃ u r, Answers (.sessionServo p) s 0x0444 p u r ∧ r.length = 11 ∧
      u.inst n = instOf n p.words (s.inst n) ∧ (∀ m, m ≠ n → u.inst m = s.inst m) ∧ u.keeps (s.accepted 0x0444 p) [.ptp])) ∧
  (∀ s p, s.accepts 0x0445 (lenIs 12) p = true →
    let k := fld (wd p.words 0) 7 0
    (bit (wd p.words 0) 31 = false → ∃ r, Answers (.sessionKey p) s 0x0445 p (s.accepted 0x0445 p) r ∧ r.length = 5) ∧
    (bit (wd p.words 0) 31 = true → Tab.sorted s.sesKeys = true → ∃ u r, Answers (.sessionKey p) s 0x0445 p u r ∧ r.length = 5 ∧
      u.keeps (s.accepted 0x0445 p) [.ptp, .sesKeys] ∧ (∀ j, j ≠ k → Tab.find? u.sesKeys j = Tab.find? s.sesKeys j) ∧
      (fld (wd p.words 1) 1 0 = 0 → Tab.find? u.sesKeys k = none) ∧
      (fld (wd p.words 1) 1 0 ≠ 0 → ∃ e, Tab.find? u.sesKeys k = some e ∧ e.alg = min 2 (fld (wd p.words 1) 1 0) ∧
        e.keyId = (wd p.words 2).toNat ∧ e.salt = (wd p.words 3).toNat ∧ e.key = keyOf ((p.words.drop 4).take 8) ∧ e.seqNo = 0))) ∧
  (∀ s p, s.accepts 0x0446 (lenIs 2) p = true → Tab.sorted s.ptp.esmc = true →
    let k := min 103 (fld (wd p.words 0) 6 0)
    let w := wd p.words 1
    ∃ u r, Answers (.sessionEsmc p) s 0x0446 p u r ∧ r.length = 3 ∧ u.keeps (s.accepted 0x0446 p) [.ptp] ∧
      u.esmc k = (if bit (wd p.words 0) 31 = true ∧ s.portExists k = true then
        { s.esmc k with en := bit w 0, opt := bit w 1, ext := bit w 2, force := bit w 3, txQl := fld w 7 4, txEssm := fld w 15 8 }
        else s.esmc k) ∧ ∀ j, j ≠ k → u.esmc j = s.esmc j)

/-- A MASTER session's Sync enters IQ_TIME for its port and class, marked for rewriting, and is numbered and counted. The oldest PTP message
of PQ_TIME that no session takes is consumed; a two-step Sync from the parent of an UNCALIBRATED or SLAVE session is consumed, counted and
waits for its Follow_Up. An ESMC PDU is sent from a port that may send, and a received one gives the port its quality level; after 5 s
without one the port's level has failed. With nothing to send or take each row changes nothing. A lost Sync takes an UNCALIBRATED or SLAVE
session to LISTENING and is counted; so does the announce receipt timeout of a fixed SLAVE session that hears no other master; a session
that waited under M3 becomes MASTER at the end of its wait, unless its instance has become slave-only. A session in another state, or that
does not exist, is left as it was. Where the spec leaves a point open, the clauses rest on the model's reading or choice (log entries 17,
18, 31, 75). Completes: ptpMessageTaken, ptpPeriodicSend, announceReceiptTimeout, syncLoss, bmcaM3WaitExpiry, esmcPduSend,
esmcPduReceived, esmcRxTimeout (R284, R286, R287, R292, R300, R302, R24, R283, R290, R291). -/
def Obligations.SessionMessages : Prop :=
  (∀ (s : State) (sid : Nat) (x : Session), s.session? sid = some x → s.tpUp = true → x.run.st = .master → x.run.m3 = false → x.cfg.auth = 0 →
    s.ringRole x.cfg.port = none → s.pairGateOpen = true → s.buf.iqTime.length < 2048 → Completes (.ptpPeriodicSend sid 1) s (fun t =>
      (∃ b, t.buf = { s.buf with iqTime := s.buf.iqTime ++ [{ bytes := b, port := x.cfg.port, cls := x.cfg.cls, mark := .session sid (s.termsOf x) }] }) ∧
      t.session? sid = some { x with run := { x.run with seqSync := (x.run.seqSync + 1) % 65536, txMsgs := inc32 x.run.txMsgs } } ∧
      (∀ k, k ≠ sid → t.session? k = s.session? k) ∧ t.keeps s [.buf, .ptp])) ∧
  (∀ (s : State) (sid kind : Nat) (x : Session), s.session? sid = some x → kind < 2 → x.run.st ≠ .master ∨ s.tpUp = false →
    exec (.ptpPeriodicSend sid kind) s = .next s) ∧
  (∀ (s : State) (sid kind : Nat), s.session? sid = none → exec (.ptpPeriodicSend sid kind) s = .next s) ∧
  (∀ s : State, s.tpUp = false ∨ s.puntHead 0 (fun f => (s.frameMsg f).isSome) = none → exec .ptpMessageTaken s = .next s) ∧
  (∀ (s : State) (it : PuntItem) (f : Frame) (tr : Nat) (m : Msg), s.tpUp = true → s.puntHead 0 (fun f => (s.frameMsg f).isSome) = some (it, f) →
    s.frameMsg f = some (tr, m) → s.takerOf f.inPort tr m = none → exec .ptpMessageTaken s = .next (s.consume it)) ∧
  (∀ (s : State) (it : PuntItem) (f : Frame) (tr sid : Nat) (m : Msg) (x : Session), s.tpUp = true →
    s.puntHead 0 (fun f => (s.frameMsg f).isSome) = some (it, f) → f.badFcs = false → s.frameMsg f = some (tr, m) →
    s.takerOf f.inPort tr m = some sid → s.session? sid = some x → x.cfg.auth = 0 → m.typ = 0 → m.twoStep = true →
    x.run.st = .uncalibrated ∨ x.run.st = .slave → x.run.fromParent m = true → Completes .ptpMessageTaken s (fun t =>
      t.keeps (s.consume it) [.ptp] ∧ t.session? sid = some { x with run := { x.run with
        rxMsgs := inc32 x.run.rxMsgs, logSyncRx := m.logInt,
        sync := some { seq := m.seq, t1 := m.stampAt 34, t2 := s.planeTime x f.rx (-x.cfg.ingress), corr := m.corr, waiting := true,
                       coarse := f.rx.isCoarse, uncal := f.rx.uncal } } } ∧
      ∀ k, k ≠ sid → t.session? k = s.session? k)) ∧
  (∀ (s : State) (k : Nat), k < 104 → (s.esmc k).en = true → s.tpUp = true → s.portExists k = true → s.pairGateOpen = true →
    s.buf.iqTime.length < 2048 → Tab.sorted s.ptp.esmc = true → Completes (.esmcPduSend k) s (fun t => t.keeps s [.buf, .ptp] ∧
      (∃ b, t.buf = { s.buf with iqTime := s.buf.iqTime ++ [{ bytes := b, port := k, cls := 7 }] }) ∧
      t.esmc k = { s.esmc k with lastTx := some ((s.qlOf k).ssm, (s.qlOf k).essm) } ∧ ∀ j, j ≠ k → t.esmc j = s.esmc j)) ∧
  (∀ (s : State) (k : Nat), (s.esmc k).en = false ∨ s.tpUp = false ∨ s.portExists k = false → exec (.esmcPduSend k) s = .next s) ∧
  (∀ s : State, s.tpUp = false ∨ s.puntHead 0 (fun f => isEsmc f.bytes) = none → exec .esmcPduReceived s = .next s) ∧
  (∀ (s : State) (it : PuntItem) (f : Frame), s.tpUp = true → s.puntHead 0 (fun f => isEsmc f.bytes) = some (it, f) → f.badFcs = false →
    ∀ o, esmcTlv (dropFcs f.bytes) 1 512 ((parseHdr false f.bytes).pay + 10) = some o →
    let q := beAt (dropFcs f.bytes) (o + 3) 1 % 16
    q ≠ 15 → Completes .esmcPduReceived s (fun t => t.keeps (s.consume it) [.ptp] ∧ (t.esmc f.inPort).rxQl = q ∧ (t.esmc f.inPort).rxValid = true ∧
      (t.esmc f.inPort).failed = false ∧ (t.esmc f.inPort).rxPdus = inc16 (s.esmc f.inPort).rxPdus ∧ ∀ j, j ≠ f.inPort → t.esmc j = s.esmc j)) ∧
  (∀ (s : State) (k : Nat), k < 104 → Completes (.esmcRxTimeout k) s (fun t =>
    t.esmc k = { s.esmc k with failed := true, rxValid := false } ∧ (∀ j, j ≠ k → t.esmc j = s.esmc j) ∧
    t.keeps s [.ptp, .refs, .clk, .tbs, .cru, .buf])) ∧
  (∀ (s : State) (sid : Nat) (x : Session), s.session? sid = some x → x.run.st = .uncalibrated ∨ x.run.st = .slave →
    Completes (.syncLoss sid) s (fun t => (∃ y, t.session? sid = some y ∧ y.cfg = x.cfg ∧ y.run.st = .listening ∧ y.run.parent = none ∧
      y.run.syncLoss = inc16 x.run.syncLoss) ∧ (∀ k, k ≠ sid → t.session? k = s.session? k) ∧ t.keeps s [.ptp, .refs, .clk, .tbs, .cru, .buf])) ∧
  (∀ (s : State) (sid : Nat), (∀ x, s.session? sid = some x → x.run.st ≠ .uncalibrated ∧ x.run.st ≠ .slave) → exec (.syncLoss sid) s = .next s) ∧
  (∀ (s : State) (sid : Nat) (x : Session) (f : Foreign), s.session? sid = some x → x.cfg.role = 1 → x.run.st = .uncalibrated ∨ x.run.st = .slave →
    x.run.parent = some f → (∀ g ∈ x.run.foreigns, g.ds.sender = f.ds.sender ∧ g.ds.senderPort = f.ds.senderPort) →
    Completes (.announceReceiptTimeout sid) s (fun t => (∃ y, t.session? sid = some y ∧ y.cfg = x.cfg ∧ y.run.st = .listening ∧
      y.run.parent = none ∧ y.run.foreigns = [] ∧ y.run.syncLoss = x.run.syncLoss) ∧ (∀ k, k ≠ sid → t.session? k = s.session? k) ∧
      t.keeps s [.ptp, .refs, .clk, .tbs, .cru, .buf])) ∧
  (∀ (s : State) (sid : Nat), (∀ x, s.session? sid = some x → x.cfg.role = 0 ∨ x.cfg.role = 3 ∨ x.run.st = .down ∨ x.run.st = .master) →
    exec (.announceReceiptTimeout sid) s = .next s) ∧
  (∀ (s : State) (sid : Nat) (x : Session), s.session? sid = some x → x.run.m3 = true → x.run.st ≠ .down → (s.inst x.cfg.tb).slaveOnly = false →
    Completes (.bmcaM3WaitExpiry sid) s (fun t => (∃ y, t.session? sid = some y ∧ y.cfg = x.cfg ∧ y.run.st = .master ∧ y.run.m3 = false) ∧
      ∀ k, k ≠ sid → t.session? k = s.session? k)) ∧
  (∀ (s : State) (sid : Nat) (x : Session), s.session? sid = some x → x.run.m3 = true → x.run.st ≠ .down → (s.inst x.cfg.tb).slaveOnly = true →
    Completes (.bmcaM3WaitExpiry sid) s (fun t => t.session? sid = some { x with run := { x.run with m3 := false } } ∧
      (∀ k, k ≠ sid → t.session? k = s.session? k) ∧ t.keeps s [.ptp])) ∧
  (∀ (s : State) (sid : Nat), (∀ x, s.session? sid = some x → x.run.m3 = false ∨ x.run.st = .down) → exec (.bmcaM3WaitExpiry sid) s = .next s)

/-- Accepted: PAIR.STATUS replies with twelve words and clears what CLEAR names; PAIR.CONFIG without WRITE changes nothing, and with WRITE 1
stores the clamped configuration, goes OFF with PAIR_EN 0, joins from OFF and FAILED, and stays in any other state; PAIR.SWITCH sends
HANDOVER and waits on an ACTIVE unit whose partner is STANDBY over a live twin link, takes over on a STANDBY unit that may, and otherwise
replies with SWITCHED 0. Where the spec leaves a point open, the clauses rest on the model's reading or choice (log entry 47). Completes:
pairConfig, pairStatus, pairSwitch (R474, R480, R481, R482). -/
def Obligations.PairCommands : Prop :=
  (∀ s p, s.accepts 0x0E01 (lenIs 1) p = true → ∃ r, r.length = 12 ∧ wd r 1 = w32 s.mram.pairGen ∧
    (bit (wd p.words 0) 0 = false → Answers (.pairStatus p) s 0x0E01 p (s.accepted 0x0E01 p) r) ∧
    (bit (wd p.words 0) 0 = true → Answers (.pairStatus p) s 0x0E01 p { s.accepted 0x0E01 p with prun := { s.prun with
      disagree := false, diverge := false, dualSeen := false, disputes := 0, takeovers := 0, digestMismatch := 0, twinDrops := 0, filtered := 0 } } r)) ∧
  (∀ s p, s.accepts 0x0E00 (lenIs 11) p = true →
    let n := pairCfgOf p.words (refId false (fld (wd p.words 5) 11 0))
    (bit (wd p.words 0) 31 = false → Answers (.pairConfig p) s 0x0E00 p (s.accepted 0x0E00 p) (pairCfgWords s.pcfg false)) ∧
    (bit (wd p.words 0) 31 = true → ∃ u, Answers (.pairConfig p) s 0x0E00 p u (pairCfgWords n true) ∧ u.pcfg = n ∧
      u.prun.st = (if n.en = false then .off else if s.prun.st = .off ∨ s.prun.st = .failed then .joining else s.prun.st) ∧
      u.mram = s.mram)) ∧
  (∀ s p, s.accepts 0x0E02 (lenIs 1) p = true →
    let a := s.accepted 0x0E02 p
    (s.prun.st ≠ .active → s.prun.st ≠ .standby → Answers (.pairSwitch p) s 0x0E02 p a [pack [(0, 0)], w32 s.mram.pairGen]) ∧
    (s.prun.st = .active → s.prun.twinUp = true → s.prun.partnerSt = 3 →
      exec (.pairSwitch p) s = .next ((a.twinSend 5 []).hold (s.ctxOf 0x0E02 p) .pairSwitch)) ∧
    (s.prun.st = .active → s.prun.twinUp = false ∨ s.prun.partnerSt ≠ 3 → Answers (.pairSwitch p) s 0x0E02 p a [pack [(0, 0)], w32 s.mram.pairGen]) ∧
    (s.prun.st = .standby → s.prun.twinUp = false → bit (wd p.words 0) 0 = false →
      Answers (.pairSwitch p) s 0x0E02 p a [pack [(0, 0)], w32 s.mram.pairGen]) ∧
    (s.prun.st = .standby → s.prun.twinUp = true ∨ bit (wd p.words 0) 0 = true → ∃ u, u.mram.pairGen = (s.mram.pairGen + 1) % 2 ^ 32 ∧
      Answers (.pairSwitch p) s 0x0E02 p u [pack [(0, 1)], w32 u.mram.pairGen] ∧ u.prun.st = .active ∧ u.prun.lastCause = 4 ∧
      u.prun.takeovers = inc16 s.prun.takeovers ∧ u.keeps a [.prun, .mram, .led, .out, .cru, .buf, .clk, .free]))

/-- TAKEOVER_DELAY without a beacon of an ACTIVE partner on a STANDBY or FAILED unit, or without a frame of the partner on a JOINING one, and
a HANDOVER at a STANDBY unit make it ACTIVE under the next PAIR_GEN, each with its cause; a BEACON of an ACTIVE partner makes a JOINING
unit STANDBY under the partner's PAIR_GEN, and one of a higher PAIR_GEN makes an ACTIVE unit stand down, to FAILED when the last verdict
named it faulty; a self-check that fails on a STANDBY unit whose partner passed takes it to FAILED. In every other state each row leaves
the state of the unit as it was. Where the spec leaves a point open, the clauses rest on the model's reading or choice (log entries 47,
48). Completes: beaconReceived, pairSelfCheckDone, verdictReceived, handoverReceived, beaconLoss, joiningTimeout, pairBeaconTaken,
pairTableForget (R470, R472, R473, R474, R478, R466). -/
def Obligations.PairStates : Prop :=
  (∀ s : State, s.prun.st = .standby ∨ s.prun.st = .failed → s.prun.activeAt + s.pcfg.takeoverDelay * 125000 ≤ s.clk.tick → Completes .beaconLoss s (fun t => t.prun.st = .active ∧ t.prun.lastCause = 2 ∧
    t.mram.pairGen = (s.mram.pairGen + 1) % 2 ^ 32 ∧ t.prun.takeovers = inc16 s.prun.takeovers ∧
    t.keeps s [.prun, .mram, .led, .out, .cru, .buf, .clk, .free])) ∧
  (∀ s : State, (s.prun.st ≠ .standby ∧ s.prun.st ≠ .failed) ∨ s.clk.tick < s.prun.activeAt + s.pcfg.takeoverDelay * 125000 → exec .beaconLoss s = .next s) ∧
  (∀ s : State, s.prun.st = .joining → s.prun.heardAt + s.pcfg.takeoverDelay * 125000 ≤ s.clk.tick → Completes .joiningTimeout s (fun t => t.prun.st = .active ∧ t.prun.lastCause = 1 ∧
    t.mram.pairGen = (s.mram.pairGen + 1) % 2 ^ 32 ∧ t.prun.takeovers = inc16 s.prun.takeovers)) ∧
  (∀ s : State, s.prun.st ≠ .joining ∨ s.clk.tick < s.prun.heardAt + s.pcfg.takeoverDelay * 125000 → exec .joiningTimeout s = .next s) ∧
  (∀ (s u : State) (f : Frame) (t : Twin), s.takeTwin 5 = (some (f, t), u) → Completes .handoverReceived s (fun v =>
    (u.prun.st = .standby → v.prun.st = .active ∧ v.prun.lastCause = 4 ∧ v.mram.pairGen = (u.mram.pairGen + 1) % 2 ^ 32) ∧
    (u.prun.st ≠ .standby → v = u))) ∧
  (∀ s u : State, s.takeTwin 5 = (none, u) → exec .handoverReceived s = .next u) ∧
  (∀ (s : State) (x : PuntItem) (f : Frame) (t : Twin), s.tpUp = true → s.twinHeadFrame = some (x, f, t) → s.onTwin f = true → f.badFcs = false →
    s.isPartner t = true → t.kind = 0 → t.st = 2 →
    (s.prun.st = .joining → t.variant = (if s.isMi then 1 else 2) → Completes .beaconReceived s (fun v => v.prun.st = .standby ∧
      v.mram.pairGen = t.gen % 2 ^ 32 ∧ v.prun.partnerSt = 2 ∧ v.prun.partnerGen = t.gen ∧ v.prun.takeovers = s.prun.takeovers)) ∧
    (s.prun.st = .active → aheadOf 32 t.gen s.mram.pairGen = true → Completes .beaconReceived s (fun v =>
      v.prun.st = (if s.prun.faulty then .failed else .standby) ∧ v.mram.pairGen = s.mram.pairGen ∧ v.prun.dualSeen = (s.prun.dualSeen || decide (t.gen = s.mram.pairGen))))) ∧
  (∀ s : State, s.tpUp = false ∨ s.twinHeadFrame = none → exec .beaconReceived s = .next s ∧ exec .pairBeaconTaken s = .next s) ∧
  (∀ (s : State) (x : PuntItem) (f : Frame) (t : Twin), s.tpUp = true → s.twinHeadFrame = some (x, f, t) → s.pcfg.en = false → s.pcfg.filter = true →
    f.badFcs = false → s.prun.pairs = [] → Completes .pairBeaconTaken s (fun v => v.keeps (s.consume x) [.prun] ∧ v.prun.pairs =
      [(0, if t.unit = 0 then { mac := t.mac, unit0 := some ((parseHdr false f.bytes).sa, t.gen), last := s.clk.tick }
           else { mac := t.mac, unit1 := some ((parseHdr false f.bytes).sa, t.gen), last := s.clk.tick })])) ∧
  (∀ (s : State) (k : Nat) (e : PairEnt), k < 16 → Tab.find? s.prun.pairs k = some e → e.last + 1250000000 ≤ s.clk.tick →
    exec (.pairTableForget k) s = .next { s with prun := { s.prun with pairs := Tab.erase s.prun.pairs k } }) ∧
  (∀ (s : State) (k : Nat), (∀ e, Tab.find? s.prun.pairs k = some e → s.clk.tick < e.last + 1250000000) → exec (.pairTableForget k) s = .next s) ∧
  (∀ (s : State) (d : Disputed) (sig : Bool), s.prun.dispute = some d → s.prun.own = none → s.prun.partner = none →
    Completes (.pairSelfCheckDone sig) s (fun t => t.prun.own = some (s.ownVerdict d sig) ∧ t.prun.selfOk = (s.ownVerdict d sig).pass ∧ t.prun.eOwn = (s.ownVerdict d sig).e.getD s.prun.eOwn ∧ t.prun.dispute = some d ∧ t.prun.st = s.prun.st ∧
      t.keeps s [.prun, .buf])) ∧
  (∀ (s : State) (d : Disputed) (v : Verdict), s.prun.dispute = some d → s.prun.own = none → s.prun.partner = some v → v.pass = true →
    s.prun.st = .standby → Completes (.pairSelfCheckDone false) s (fun t => t.prun.st = .failed ∧ t.prun.dispute = none ∧
      t.mram = s.mram ∧ t.prun.takeovers = s.prun.takeovers)) ∧
  (∀ (s : State) (sig : Bool), s.prun.dispute = none ∨ s.prun.own ≠ none → exec (.pairSelfCheckDone sig) s = .next s) ∧
  (∀ (s u : State) (f : Frame) (t : Twin), s.takeTwin 3 = (some (f, t), u) →
    (u.prun.dispute = none → u.prun.st ≠ .active → exec .verdictReceived s = .next u) ∧
    (∀ d, u.prun.dispute = some d → u.prun.own = none → Completes .verdictReceived s (fun v => v.keeps u [.prun] ∧ v.prun.st = u.prun.st ∧
      v.prun.partner = some { pass := bit (wd t.content 0) 0, e := if bit (wd t.content 0) 1 then some (sfld (wd t.content 1) 31 0) else none }))) ∧
  (∀ s u : State, s.takeTwin 3 = (none, u) → exec .verdictReceived s = .next u)

/-- A unit that takes part sends its BEACON on the twin port and on BEACON_VID, and its TWIN_TIME on the twin port, through IQ_TIME. A
TWIN_TIME exchange gives theta of each time base by the arithmetic of R292. A comparison waits for its counterpart, a mirrored command is
executed as the active accepted it, and a told change enters the worker table. 1 ms without a twin frame takes the twin link down and
abandons a dispute. Where nothing is to be sent or taken, each row changes nothing else. Where the spec leaves a point open, the clauses
rest on the model's reading or choice (log entries 47, 48). Completes: pairBeaconSend, twinTimeSend, twinTimeReceived, compareReceived,
digestWindowEnd, configReceived, twinLinkTimeout (R292, R463, R465, R466, R467, R468, R27). -/
def Obligations.PairFrames : Prop :=
  (∀ s : State, s.prun.st ≠ .off → s.start.power = .run → s.tpUp = true → s.buf.iqTime.length + 1 < 2048 → Completes .pairBeaconSend s (fun t =>
    t.keeps s [.buf, .prun] ∧ t.prun.st = s.prun.st ∧ ∃ a b, t.buf = { s.buf with iqTime := s.buf.iqTime ++
      [{ bytes := a, port := s.pcfg.twinPort, cls := 8, mark := .twin }, { bytes := b, lookup := true, cls := 7, vid := s.pcfg.beaconVid }] })) ∧
  (∀ s : State, s.prun.st = .off ∨ s.start.power ≠ .run → exec .pairBeaconSend s = .next s ∧ exec .twinTimeSend s = .next s) ∧
  (∀ s : State, s.pcfg.en = true → s.prun.st ≠ .off → s.start.power = .run → s.tpUp = true → s.buf.iqTime.length < 2048 →
    Completes .twinTimeSend s (fun t => t.keeps s [.buf, .prun] ∧ t.prun.st = s.prun.st ∧ ∃ a, t.buf = { s.buf with iqTime := s.buf.iqTime ++
      [{ bytes := a, port := s.pcfg.twinPort, cls := 8, mark := .twin }] })) ∧
  (∀ s u : State, (s.takeTwin 1 = (none, u) → exec .twinTimeReceived s = .next u) ∧ (s.takeTwin 2 = (none, u) → exec .compareReceived s = .next u) ∧
    (s.takeTwin 4 = (none, u) → exec .configReceived s = .next u)) ∧
  (∀ (s u : State) (f : Frame) (t : Twin), s.takeTwin 1 = (some (f, t), u) → u.prun.twinTx = none → exec .twinTimeReceived s = .next { u with
    prun := { u.prun with twinRx := some (t.seq, eightTimes t.content, (List.range 8).map (fun n => f.rx.frac n)) } }) ∧
  (∀ (s u : State) (f : Frame) (t : Twin) (own : List Int), s.takeTwin 1 = (some (f, t), u) →
    u.prun.twinTx = some (fld (wd t.content 48) 15 0, own) → ((t.content.drop 24).take 24).all (fun w => decide (w = 0)) = false → u.prun.syncCmp = [] →
    Completes .twinTimeReceived s (fun v => v.keeps u [.prun] ∧ v.prun.thetaPrev = u.prun.theta ∧ v.prun.st = u.prun.st ∧
      v.prun.theta = (List.range 8).map (fun n =>
        roundDiv (((eightTimes ((t.content.drop 24).take 24)).getD n 0 - own.getD n 0) - (f.rx.frac n - (eightTimes t.content).getD n 0)) 2
          + roundDiv (u.pcfg.twinAsym * 262144) 1000))) ∧
  (∀ (s u : State) (f : Frame) (t : Twin), s.takeTwin 2 = (some (f, t), u) →
    (u.comparing = false → exec .compareReceived s = .next u) ∧
    (u.comparing = true → wd t.content 0 = 0 → u.pcfg.cmpHam = true → u.prun.hamCmp = [] → u.prun.ham0 = [] →
      let c := t.content
      exec .compareReceived s = .next { u with prun := { u.prun with hamCmp := [((wd c 1).toNat * 2 ^ 32 + (wd c 2).toNat, fld (wd c 6) 2 0,
        ((timeOfWords (wd c 3) (wd c 4) (wd c 5) / fracU : Nat) : Int), bit (wd c 6) 8)] } })) ∧
  (∀ s : State, s.pcfg.en = false ∨ s.pcfg.cmpDigest = false ∨ s.prun.twinUp = false → exec .digestWindowEnd s = .next { s with prun := { s.prun with
    digest := s.prun.digest.filter (fun e => decide ((s.tb 0).val / (10 ^ 6 * nsU) - 1 < e.1)) } }) ∧
  (∀ s : State, s.pcfg.en = true → s.pcfg.cmpDigest = true → s.prun.twinUp = true → s.prun.st = .active → s.tpUp = true →
    s.buf.iqTime.length < 2048 → Completes .digestWindowEnd s (fun t => t.keeps s [.buf, .prun] ∧ t.prun.st = .active ∧
      (∃ a, t.buf = { s.buf with iqTime := s.buf.iqTime ++ [{ bytes := a, port := s.pcfg.twinPort, cls := 8, mark := .twin }] }) ∧
      t.prun.digest = s.prun.digest.filter (fun e => decide ((s.tb 0).val / (10 ^ 6 * nsU) - 1 < e.1)))) ∧
  (∀ (s u : State) (f : Frame) (t : Twin), s.takeTwin 4 = (some (f, t), u) →
    (wd t.content 0 = 2 → u.isMi = true → u.prun.st = .standby ∨ u.prun.st = .failed →
      exec .configReceived s = .next { u with workers := Tab.erase u.workers ((wd t.content 1).toNat % 4096) }) ∧
    (∀ op p, 16 ≤ (wd t.content 0).toNat → parsePacket .twin t.content = .cmd op p → u.pcfg.cfgMirror = true → u.prun.st = .standby →
      u.takes .twin = true → unmirrored op = false → opManager op = false ∨ u.isMi = true → Pkt.cls op p.words = .c → ((opEntry op).1 p.words).isNone = true →
      exec .configReceived s = .next (u.perform (opEntry op).2
        { via := .twin, op := op, tag := p.tag, srcId := p.srcId, respId := u.devId, bootEpoch := u.mram.bootEpoch } p.words))) ∧
  (∀ s : State, s.pcfg.en = true → s.prun.twinUp = true → s.prun.twinAt + 1250000 ≤ s.clk.tick → Completes .twinLinkTimeout s (fun t => t.prun.twinUp = false ∧ t.prun.twinDown = true ∧
    t.prun.dispute = none ∧ t.prun.st = s.prun.st ∧ t.pcfg = s.pcfg ∧ t.mram = s.mram)) ∧
  (∀ s : State, s.pcfg.en = false ∨ s.prun.twinUp = false ∨ s.clk.tick < s.prun.twinAt + 1250000 → exec .twinLinkTimeout s = .next s)

/-- Accepted: HIER.CONFIG without WRITE and TUNE, HIER.TABLE_READ, HIER.CLOSURE_READ and HIER.STATUS change nothing; HIER.CONFIG with WRITE 1
stores the clamped identity and moves the hierarchy state; HIER.ENROLL says why an entry cannot stand, and otherwise adds it and waits for
the child; HIER.RELEASE removes an entry; a Worker Report of a child updates its entry, one of no child is answered not accepted, and a
part without the manager functions answers every one NOT_MANAGER. Where the spec leaves a point open, the clauses rest on the model's
reading or choice (log entries 44, 45, 79). Completes: hierConfig, hierEnroll, hierRelease, hierTableRead, hierClosureRead, hierStatus,
workerReport (R2, R318, R320, R322, R325, R326, R337, R344, R345, R346, R347, R350). -/
def Obligations.HierCommands : Prop :=
  (∀ s p, s.accepts 0x0D00 (lenIs 10) p = true →
    let a := s.accepted 0x0D00 p
    (bit (wd p.words 0) 31 = false → bit (wd p.words 0) 29 = false →
      Answers (.hierConfig p) s 0x0D00 p a (State.hierCfgWords s.hcfg false s.mram.hierPersist false)) ∧
    (bit (wd p.words 0) 31 = true → bit (wd p.words 0) 29 = false → ∃ u, Answers (.hierConfig p) s 0x0D00 p u
      (State.hierCfgWords u.hcfg true (bit (wd p.words 0) 30) false) ∧ u.hcfg = s.hierIdentity p.words ∧ u.mram.hierCfg = some u.hcfg ∧
      u.mram.workers = s.workers ∧ u.keeps a [.hcfg, .hier, .mram, .led] ∧
      (u.hcfg.top = true → u.hier.st = .top ∧ u.hier.epoch = 0) ∧ (u.hcfg.top = false → u.hcfg.hasParent = false → u.hier.st = .detached) ∧
      (u.hcfg.top = false → u.hcfg.hasParent = true → s.hier.st = .detached ∨ s.hier.st = .top → u.hier.st = .seeking))) ∧
  (∀ s p, s.accepts 0x0D01 (lenIs 4) p = true →
    let ws := p.words
    let id := min 0x3FFFE (fld (wd ws 0) 17 0)
    let kind := min 1 (fld (wd ws 0) 19 18)
    let w : Worker := { childId := id, subHi := if kind = 0 then id else clamp id 0x3FFFE (fld (wd ws 3) 29 12), mac := macOf (wd ws 1) (wd ws 2),
                        port := min 103 (fld (wd ws 2) 6 0), vid := clamp 1 4094 (fld (wd ws 3) 11 0), vlanEn := bit (wd ws 2) 11,
                        pcp := fld (wd ws 2) 10 8, kind := kind }
    (s.enrollReason w ≠ 0 → ∃ r, Answers (.hierEnroll p) s 0x0D01 p (s.accepted 0x0D01 p) r ∧ r.length = 5 ∧
      wd r 4 = pack [(0, 0), (1, s.enrollReason w)]) ∧
    (s.enrollReason w = 0 → bit (wd ws 0) 20 = false → Completes (.hierEnroll p) s (fun t =>
      t.keeps s [.workers, .mram, .led, .prun, .buf, .axg, .cru] ∧ ((∀ e, s.childOf id = some e → e.2.pres ≠ .absent) → t.cru = s.cru) ∧ t.mram.workers = t.workers ∧ t.axg.jobs.length = s.axg.jobs.length + 1 ∧
      t.workers = Tab.insert s.workers (match s.childOf id with | some e => e.1 | none => (Tab.freeKey 4096 s.workers).getD 0) w))) ∧
  (∀ s p, s.accepts 0x0D02 (lenIs 1) p = true →
    let id := fld (wd p.words 0) 17 0
    (s.childOf id = none → Answers (.hierRelease p) s 0x0D02 p (s.accepted 0x0D02 p) [0]) ∧
    (∀ e, s.childOf id = some e → bit (wd p.words 0) 20 = false → s.axg.relays.all (fun r => decide (r.child ≠ id)) = true → s.hier.bcasts = [] →
      s.axg.jobs.all (fun j => match j.work with | .enroll _ _ => false | _ => true) = true → ∃ u, Answers (.hierRelease p) s 0x0D02 p u [1] ∧
        u.workers = Tab.erase s.workers e.1 ∧ u.mram.workers = u.workers ∧ u.keeps (s.accepted 0x0D02 p) [.workers, .mram, .led, .prun, .buf, .cru] ∧ (e.2.pres ≠ .absent → u.cru = s.cru))) ∧
  (∀ s p, s.accepts 0x0D03 (lenIs 2) p = true →
    let first := fld (wd p.words 0) 11 0
    let n := min (fld (wd p.words 1) 12 0) (4096 - first)
    let l := s.workers.filter (fun e => decide (first ≤ e.1 ∧ e.1 < first + n))
    ∃ r, Answers (.hierTableRead p) s 0x0D03 p (s.accepted 0x0D03 p) r ∧ r.length = 1 + 8 * l.length ∧
      wd r 0 = pack [(0, l.length), (16, (l.filter (fun e => decide (e.2.pres = Pres.absent))).length)]) ∧
  (∀ s p, s.accepts 0x0D07 (lenIs 1) p = true → Answers (.hierClosureRead p) s 0x0D07 p (s.accepted 0x0D07 p)
    (match Tab.find? s.hier.rings (fld (wd p.words 0) 3 0) with
     | some r => closureWords (fld (wd p.words 0) 3 0) r.n r.gen r.e r.k r.retCw r.retCcw r.res
     | none => closureWords (fld (wd p.words 0) 3 0) 0 0 0 0 0 0 [])) ∧
  (∀ s p, s.accepts 0x0D08 lenHierStatus p = true → bit (wd p.words 0) 31 = false → ∃ r,
    Answers (.hierStatus p) s 0x0D08 p (s.accepted 0x0D08 p) r ∧ r.length = 8) ∧
  (∀ s p port sa tci, s.accepts 0x0D08 lenHierStatus p = true → bit (wd p.words 0) 31 = true → p.via = .inband port sa tci →
    let a := s.accepted 0x0D08 p
    (s.isMi = false → exec (.workerReport p) s = .next (a.err (s.ctxOf 0x0D08 p) 0x0070 0)) ∧
    (s.isMi = true → s.childOf p.srcId = none → Answers (.workerReport p) s 0x0D08 p a (s.reportReply false [])) ∧
    (∀ k w, s.isMi = true → s.childOf p.srcId = some (k, w) → w.mac = sa → bit (wd p.words 0) 30 = false → w.pres = .present → s.hier.closure = none →
      s.axg.jobs.all (fun j => match j.work with | .enroll _ _ => false | _ => true) = true →
      Answers (.workerReport p) s 0x0D08 p { a with workers := Tab.insert s.workers k { w with
          report := p.words.drop 1, variant := fld (wd p.words 0) 19 16, port := port, lastTick := some s.clk.tick, misses := 0, dying := false,
          kind := if fld (wd p.words 0) 19 16 = 2 then 0 else w.kind, subHi := if fld (wd p.words 0) 19 16 = 2 then w.childId else w.subHi } }
        (s.reportReply true (s.residualsFor w.childId))))

/-- An accepted HIER.BROADCAST to no target replies at once with an empty summary; to one ABSENT child it reports that child UNREACHABLE with
DETAIL 2; to one child that is not ABSENT it sends a packet under a relay record and waits. An accepted HIER.CLOSURE that can run starts
its run; one that cannot is REJECTED with REASON 1 and the residuals stay. Each probe of a run is numbered, sent out of the run's port and
counted, and a returning one gives its loop sum. Where the spec leaves a point open, the clauses rest on the model's reading or choice
(log entries 29, 44). Completes: hierBroadcast, hierClosure, closureProbeSend, closureProbeReturn (R88, R89, R330, R331, R332, R334, R348,
R87). -/
def Obligations.BroadcastAndClosure : Prop :=
  (∀ s p, s.accepts 0x0D05 lenBroadcast p = true → fld (wd p.words 0) 15 0 = 0 → s.hier.bcasts = [] → s.axg.relays.length < 1024 →
    let a := s.accepted 0x0D05 p
    let h := { s.hier with nextBcast := s.hier.nextBcast + 1 }
    (s.workers = [] → Answers (.hierBroadcast p) s 0x0D05 p { a with hier := h } [0, 0]) ∧
    (∀ k w, s.workers = [(k, w)] → w.pres = .absent → Answers (.hierBroadcast p) s 0x0D05 p { a with hier := h }
      [pack [(16, 0), (0, 1)], pack [(16, 1), (0, 0)], w32 w.childId, pack [(16, 0x0040), (0, 2)]]) ∧
    (∀ k w, s.workers = [(k, w)] → w.pres ≠ .absent → s.pairGateOpen = true → Completes (.hierBroadcast p) s (fun t =>
      t.keeps a [.hier, .axg, .buf] ∧ (∃ r, t.axg = { a.axg with relays := s.axg.relays ++ [r] } ∧ r.child = w.childId ∧
        r.back = .broadcast s.hier.nextBcast) ∧ (∃ b, t.hier = { h with bcasts := [(s.hier.nextBcast, b)] } ∧ b.waiting = [w.childId] ∧ b.unsent = []) ∧
      ∃ l, t.buf = { s.buf with iqCmd := s.buf.iqCmd ++ l }))) ∧
  (∀ s p, s.accepts 0x0D06 lenClosure p = true → s.hier.closure = none →
    s.axg.jobs.all (fun j => match j.work with | .closure _ => false | _ => true) = true →
    let a := s.accepted 0x0D06 p
    let c := s.ctxOf 0x0D06 p
    let r := closureOf c p.words
    (s.closureReady r = true → s.hier.rings = [] → exec (.hierClosure p) s = .next { a with hier := { s.hier with closure := some r }, mram := { s.mram with rings := [] } }) ∧
    (s.closureReady r = false → exec (.hierClosure p) s = .next (State.complete { a with free := s.free + 2 } c {
        status := 0x0050, detail := 1, words := closureWords r.ring r.links.length (s.ringGen r.ring) (Config.freeInt s.free) (Config.freeInt (s.free + 1)) 0 0
          (s.storedRes r.ring r.links.length) }))) ∧
  (∀ (s : State) (ccw : Bool) (r : Closure), s.hier.closure = some r → s.tpUp = true → s.closureReady r = true → s.buf.iqTime.length < 2048 →
    let q := if ccw then (r.links.getLast?.map Link.inPort).getD 0 else (r.links.head?.map Link.outPort).getD 0
    (if ccw then r.sentCcw else r.sentCw) < 4 * r.probes → Completes (.closureProbeSend ccw) s (fun t => t.keeps s [.hier, .buf] ∧
      (∃ r', t.hier = { s.hier with closure := some r' } ∧ r'.seq = (r.seq + 1) % 65536 ∧ r'.sentCw = r.sentCw + (!ccw).toNat ∧
        r'.sentCcw = r.sentCcw + ccw.toNat ∧ r'.sumCw = r.sumCw ∧ r'.sumCcw = r.sumCcw) ∧
      ∃ b, t.buf = { s.buf with iqTime := s.buf.iqTime ++ [{ bytes := b, port := q, cls := 7, mark := .probe ccw.toNat }] })) ∧
  (∀ (s : State) (ccw : Bool), s.hier.closure = none ∨ s.tpUp = false → exec (.closureProbeSend ccw) s = .next s) ∧
  (∀ s : State, s.buf.punted = [] → exec .closureProbeReturn s = .next s) ∧
  (∀ (s : State) (it : PuntItem) (f : Frame) (tr q : Nat) (m : Msg) (r : Closure) (tx : Int), s.hier.closure = some r →
    s.puntHead 0 s.isReturn = some (it, f) →
    f.badFcs = false → s.frameMsg f = some (tr, m) → r.flying.find? (fun x => decide (x.1 = m.seq)) = some (q, 0, some tx) →
    r.sumCcw.length < r.probes → Completes .closureProbeReturn s (fun t => t.keeps (s.consume it) [.hier] ∧ t.hier = { s.hier with closure := some { r with
      flying := r.flying.filter (fun x => decide (x.1 ≠ q)),
      sumCw := ((f.rx.frac 0 - s.latOf ((r.links.getLast?.map Link.sid).getD 0) true) - (tx + s.latOf r.mgrSid false) - 4 * m.corr) :: r.sumCw } }))

/-- At its report tick a part with a parent sends one report under the next TAG; the ISLAND_MISS-th unanswered one takes a JOINED manager to
ISLAND and a JOINED worker to SEEKING. An accepted answer takes SEEKING to JOINED; a reply that answers no report, or no relay record, is
discarded and counted in BAD_HDR; a relayed command's last reply goes back by the carrier of its record, which it frees. A miss of a
PRESENT child counts 25 ms + k x 125 ms after its last report, and the third makes it ABSENT, with a record. Where the spec leaves a point
open, the clauses rest on the model's reading or choice (log entry 45). Completes: axgRelayReply, workerReportSend, workerReportReply,
childMiss (R55, R87, R323, R324, R326, R337, R338). -/
def Obligations.ReportsAndPresence : Prop :=
  (∀ s : State, s.hcfg.hasParent = false ∨ s.start.mpi ≠ .up ∨ s.start.power ≠ .run ∨ s.pairGateOpen = false ∨
      ((s.clk.tick : Int) - (s.devId % 4096 * 38146 : Nat)) % 156250000 ≠ 0 ∨ s.hier.reportTick = some s.clk.tick → exec .workerReportSend s = .next s) ∧
  (∀ s : State, s.hcfg.hasParent = true → s.start.mpi = .up → s.start.power = .run → s.pairGateOpen = true →
    ((s.clk.tick : Int) - (s.devId % 4096 * 38146 : Nat)) % 156250000 = 0 → s.hier.reportTick ≠ some s.clk.tick →
    (s.hier.reportTag = none ∨ s.hier.unanswered + 1 < s.hcfg.islandMiss → Completes .workerReportSend s (fun t => t.keeps s [.hier, .buf] ∧
      t.hier = { s.hier with
        reportTag := some s.hier.nextTag, nextTag := (s.hier.nextTag + 1) % 65536, reported := true, reportTick := some s.clk.tick,
        unanswered := if s.hier.reportTag = none then s.hier.unanswered else min 0xFFFF (s.hier.unanswered + 1) } ∧
      t.buf.iqCmd.length = s.buf.iqCmd.length + 1)) ∧
    (s.hier.reportTag ≠ none → s.hcfg.islandMiss ≤ s.hier.unanswered + 1 → s.hier.st = .joined → Completes .workerReportSend s (fun t =>
      t.hier.st = (if s.isManager then .island else .seeking) ∧ t.hier.reportTag = some s.hier.nextTag ∧ t.hier.parentIsland = false ∧
      (s.isManager = true → t.hier.epoch = (if (s.hier.epoch + 1) % 256 = 0 then 1 else (s.hier.epoch + 1) % 256) ∧ t.hier.islandSince = s.clk.tick)))) ∧
  (∀ (s : State) (port sa : Nat) (pkt w : List Word), port < 104 → s.takes (.inband port sa none) = true →
    parsePacket (.inband port sa none) pkt = .reply w →
    (sa ≠ s.hcfg.parentMac ∨ s.hier.reportTag ≠ some (fld (wd pkt 1) 31 16) → exec (.workerReportReply port sa pkt) s = .next s.countBadHdr) ∧
    (sa = s.hcfg.parentMac → s.hier.reportTag = some (fld (wd pkt 1) 31 16) → State.replyFits pkt = true → s.hier.st = .seeking →
      bit (wd ((pkt.drop 4).take (fld (wd pkt 1) 15 0)) 0) 0 = true → Completes (.workerReportReply port sa pkt) s (fun t => t.keeps s [.hier] ∧
        t.hier.st = .joined ∧ t.hier.reportTag = none ∧ t.hier.unanswered = 0 ∧ t.hier.replyPort = port ∧
        t.hier.epoch = fld (wd ((pkt.drop 4).take (fld (wd pkt 1) 15 0)) 0) 15 8)) ∧
    (s.relayFor sa pkt = none → exec (.axgRelayReply port sa pkt) s = .next s.countBadHdr) ∧
    (∀ r c, s.relayFor sa pkt = some r → State.replyFits pkt = true → bit (wd pkt 0) 16 = false → r.back = .carrier c → c.via = .spi → c.mute = false →
      s.hier.bcasts = [] → exec (.axgRelayReply port sa pkt) s = .next { s with axg := { s.axg with
        relays := s.axg.relays.erase r, spiQ := s.axg.spiQ ++ [(wd pkt 0 ||| pack [(17, 1)]) :: pkt.drop 1] } })) ∧
  (∀ (s : State) (port sa : Nat) (pkt : List Word), s.takes (.inband port sa none) = false →
    exec (.workerReportReply port sa pkt) s = .next s ∧ exec (.axgRelayReply port sa pkt) s = .next s) ∧
  (∀ (s : State) (k : Nat), (∀ w, Tab.find? s.workers k = some w → w.pres ≠ .present ∨ s.clk.tick < w.lastTick.getD 0 + 31250000 + (w.misses + 1) * 156250000) →
    exec (.childMiss k) s = .next s) ∧
  (∀ (s : State) (k : Nat) (w : Worker), Tab.find? s.workers k = some w → w.pres = .present → w.misses < 2 →
    w.lastTick.getD 0 + 31250000 + (w.misses + 1) * 156250000 ≤ s.clk.tick →
    exec (.childMiss k) s = .next { s with workers := Tab.insert s.workers k { w with misses := w.misses + 1 } }) ∧
  (∀ (s : State) (k : Nat) (w : Worker), Tab.find? s.workers k = some w → w.pres = .present → 2 ≤ w.misses →
    w.lastTick.getD 0 + 31250000 + (w.misses + 1) * 156250000 ≤ s.clk.tick →
    s.axg.relays.all (fun r => decide (r.child ≠ w.childId)) = true → s.hier.bcasts = [] → s.hier.closure = none →
    Completes (.childMiss k) s (fun t => t.keeps s [.workers, .cru] ∧
      t.workers = Tab.insert s.workers k { w with misses := 3, pres := .absent, dying := false }))

/-- Accepted: LANE.CONFIG and LANE.DOZE without WRITE, and LANE.SKETCH_READ, change nothing; LANE.CONFIG with WRITE 1 stores the clamped
settings of its lane and no other, and a change of RATE or ENABLE restarts the lane at step 1 or leaves it at step 0; LANE.STATUS only
moves the count of code errors; LANE.TRAIN waits for one job of code 7; LANE.SKETCH on a lane in step 7 waits for its scan and on any
other ends at once with STAT 3; LANE.DOZE and LANE.LOOPBACK with WRITE 1 store their settings, and a loopback mode takes the port out of
UP. Where the spec leaves a point open, the clauses rest on the model's reading or choice (log entries 25, 27). Completes: laneConfig,
laneStatus, laneTrain, laneDoze, laneSketch, laneSketchRead, laneLoopback (R129, R130, R131, R132, R133, R134, R135, R108, R127, R128,
R145). -/
def Obligations.LaneCommands : Prop :=
  (∀ s p, s.accepts 0x0200 (lenIs 3) p = true → bit (wd p.words 0) 31 = false → ∃ r,
    Answers (.laneConfig p) s 0x0200 p (s.accepted 0x0200 p) r ∧ r.length = 3) ∧
  (∀ s p, s.accepts 0x0200 (lenIs 3) p = true → bit (wd p.words 0) 31 = true → Tab.sorted s.lanes = true →
    let l := laneArg (wd p.words 0)
    let a := wd p.words 1
    let x := s.lane l
    let te := bit a 8 && decide (clampRate l (fld a 2 0) (s.inTq l) = 3 ∨ clampRate l (fld a 2 0) (s.inTq l) = 4)
    let rate := clampRate l (fld a 2 0) (s.inTq l)
    ∃ u r, Answers (.laneConfig p) s 0x0200 p u r ∧ r.length = 3 ∧
      (rate = x.rate → bit a 4 = x.enable → u.keeps (s.accepted 0x0200 p) [.lanes, .out] ∧ u.lane l = { x with
        txInvert := bit a 5, rxPolAuto := bit a 6, rxInvert := bit a 7, trainEn := te, txReverse := bit a 9, medium := min 2 (fld a 11 10),
        cfgTaps := clampTaps (wd p.words 2), taps := if te then x.taps else clampTaps (wd p.words 2),
        rxInverted := if bit a 6 then x.rxInverted else bit a 7,
        lpiTx := (u.lane l).lpiTx, doze := (u.lane l).doze, flagsSent := (u.lane l).flagsSent }) ∧
      (rate ≠ x.rate ∨ bit a 4 ≠ x.enable → (u.lane l).enable = bit a 4 ∧ (u.lane l).step = (if bit a 4 then 1 else 0) ∧ (u.lane l).rate = rate ∧
        (u.lane l).cdrLock = false ∧ (u.lane l).cfgTaps = clampTaps (wd p.words 2)) ∧
      ∀ k, k ≠ l → u.lane k = s.lane k) ∧
  (∀ w : Word, (clampTaps w).pre ≤ 15 ∧ (clampTaps w).post ≤ 31 ∧ (clampTaps w).pre + (clampTaps w).main + (clampTaps w).post ≤ 63) ∧
  (∀ s p, s.accepts 0x0201 (lenIs 1) p = true → Tab.sorted s.lanes = true → ∃ u r, Answers (.laneStatus p) s 0x0201 p u r ∧ r.length = 5 ∧
    u.keeps (s.accepted 0x0201 p) [.lanes, .free] ∧ ∀ k, u.lane k = { s.lane k with codeErrors := (u.lane k).codeErrors }) ∧
  (∀ s p, s.accepts 0x0202 (lenIs 1) p = true →
    let l := laneArg (wd p.words 0)
    exec (.laneTrain p) s = .next (((s.accepted 0x0202 p).hold (s.ctxOf 0x0202 p) (.laneTrain l (bit (wd p.words 0) 8) false)).queueJob 7 1800 (.train l))) ∧
  (∀ s p, s.accepts 0x0203 (lenIs 2) p = true →
    let l := laneArg (wd p.words 0)
    let a := wd p.words 1
    (bit (wd p.words 0) 31 = false → ∃ r, Answers (.laneDoze p) s 0x0203 p (s.accepted 0x0203 p) r ∧ r.length = 2) ∧
    (bit (wd p.words 0) 31 = true → Tab.sorted s.lanes = true → ∃ u r, Answers (.laneDoze p) s 0x0203 p u r ∧ r.length = 2 ∧
      u.keeps (s.accepted 0x0203 p) [.lanes, .out] ∧ (∀ k, k ≠ l → u.lane k = s.lane k) ∧ u.lane l = { s.lane l with
        dozeEn := bit a 0, lpiEn := bit a 1, dozeIdle := clamp 1 65535 (fld a 31 16), lpiTx := (u.lane l).lpiTx, doze := (u.lane l).doze,
        flagsSent := (u.lane l).flagsSent } ∧
      ((u.lane l).lpiTx = true → (s.lane l).lpiTx = true ∧ bit a 1 = true) ∧
      ((s.lane l).step = 7 → bit a 0 = false → (u.lane l).doze ≠ .dozing))) ∧
  (∀ s p, s.accepts 0x0204 (lenIs 2) p = true →
    let l := laneArg (wd p.words 0)
    let d := clamp 20 42 (fld (wd p.words 1) 5 0)
    let a := s.accepted 0x0204 p
    s.axg.jobs.all (fun j => !isSketch l j.work) = true → s.led.waiting.all (fun j => decide (j.what ≠ JobFor.sketch l)) = true →
    (s.lane l).sketching = false →
    ((s.lane l).step = 7 → exec (.laneSketch p) s = .next ((a.hold (s.ctxOf 0x0204 p) (.sketch l d)).queueJob 5
      (scanCost (s.lane l).rate (8385 * 2 ^ 20)) (.sketch l))) ∧
    ((s.lane l).step ≠ 7 →
      let x := { s.lane l with eye := { stat := 3, dwell := d, deepest := deepestOf d } }
      Answers (.laneSketch p) s 0x0204 p (a.setLane l x) (eyeHead x 0 0))) ∧
  (∀ s p, s.accepts 0x0205 (lenIs 1) p = true →
    let first := min 128 (fld (wd p.words 0) 15 8)
    let n := min (min 129 (fld (wd p.words 0) 23 16)) (129 - first)
    ∃ r, Answers (.laneSketchRead p) s 0x0205 p (s.accepted 0x0205 p) r ∧ r.length = 3 + 2 * n ∧
      r.take 3 = eyeHead (s.lane (laneArg (wd p.words 0))) first n) ∧
  (∀ s p, s.accepts 0x0206 (lenIs 2) p = true → bit (wd p.words 0) 31 = true → Tab.sorted s.lanes = true → Tab.sorted s.ports = true →
    let l := laneArg (wd p.words 0)
    let m := fld (wd p.words 1) 1 0
    ∃ u r, Answers (.laneLoopback p) s 0x0206 p u r ∧ r.length = 3 ∧ (∀ k, k ≠ l → u.lane k = s.lane k) ∧
      (u.lane l) = { s.lane l with loopMode := m, prbsErrors := (u.lane l).prbsErrors } ∧ (m ≠ 3 → (u.lane l).prbsErrors = 0) ∧
      (m ≠ 0 → (u.port (s.portOfLane l)).st ≠ .up))

/-- Each exit condition takes an enabled lane to its next step: PLL lock to 2, a signal to 3 unless its bypass pair holds the lane, CDR lock
to 4 when it trains and to 5 when not, training to 5, block lock to 7 outside a TQ port. A limit or a lost signal takes it back, a lane in
step 7 that loses lock goes to step 3 and makes up to three burst attempts. Steps 0 and 7 have no exit. In training a request moves each
tap by at most one and never past its limits or the sum of 63; each report is answered by the own receiver with its next request until it
has settled, and training ends when both receivers are ready. Polarity is taken from the training marker or the first 64 blocks when
RX_POL_AUTO is 1 and is RX_INVERT when it is 0. Other lanes are left alone. Where the spec leaves a point open, the clauses rest on the
model's reading or choice (log entries 25, 26, 62, 84). Completes: laneStepExit, laneStepTimeout, laneSignalLoss, cl72Update, cl72Report,
laneLockLoss, burstAttemptEnd (R100, R101, R104, R105, R106, R107, R108, R109, R110, R111, R485). -/
def Obligations.LaneBringUp : Prop :=
  (∀ (s : State) (l o : Nat) (v : Pol), l < 96 → (s.lane l).enable = false ∨ (s.lane l).step = 0 ∨ (s.lane l).step = 7 →
    exec (.laneStepExit l v o) s = .next s) ∧
  (∀ (s : State) (l o : Nat) (v : Pol), l < 96 → (s.lane l).enable = true → Tab.sorted s.lanes = true →
    ((s.lane l).step = 1 → Completes (.laneStepExit l v o) s (fun t => t.keeps s [.lanes, .buf, .clk, .cru] ∧ (t.lane l).step = 2 ∧
      (t.lane l).pllLock = true ∧ (t.lane l).enable = true ∧ (t.lane l).rate = (s.lane l).rate ∧ ∀ k, k ≠ l → t.lane k = s.lane k)) ∧
    ((s.lane l).step = 2 → s.laneHeld l = true → exec (.laneStepExit l v o) s = .next s) ∧
    ((s.lane l).step = 2 → s.laneHeld l = false → Completes (.laneStepExit l v o) s (fun t => t.keeps s [.lanes, .buf, .clk, .cru] ∧
      (t.lane l).step = 3 ∧ (t.lane l).signal = true ∧ ∀ k, k ≠ l → t.lane k = s.lane k)) ∧
    ((s.lane l).step = 3 → (s.lane l).burst = false → (s.lane l).trains = false → Completes (.laneStepExit l v o) s (fun t =>
      t.keeps s [.lanes, .buf, .clk, .cru] ∧ (t.lane l).step = 5 ∧ (t.lane l).cdrLock = true ∧ (t.lane l).taps = (s.lane l).cfgTaps ∧
      ∀ k, k ≠ l → t.lane k = s.lane k)) ∧
    ((s.lane l).step = 3 → (s.lane l).burst = false → (s.lane l).trains = true →
      s.axg.jobs.all (fun j => match j.work with | .laneTrain _ _ _ => false | _ => true) = true → s.driverIdle l = false → Completes (.laneStepExit l v o) s (fun t =>
        t.keeps s [.lanes, .buf, .clk, .cru, .led, .out] ∧ (t.lane l).step = 4 ∧ (t.lane l).cdrLock = true ∧ (t.lane l).rxReady = false ∧
        t.led.credit = s.led.credit - 1800 ∧ t.out = s.out ++ [.cl72Request l (if (s.lane l).preset then 2 ^ 13 else 2 ^ 12)])) ∧
    ((s.lane l).step = 4 → Completes (.laneStepExit l v o) s (fun t => t.keeps s [.lanes, .buf, .clk, .cru] ∧ (t.lane l).step = 5 ∧
      (t.lane l).trained = true ∧ (t.lane l).rxReady = true ∧ (t.lane l).rxInverted = ((s.lane l).polarity v).rxInverted)) ∧
    ((s.lane l).step = 5 → s.inTq l = false → Completes (.laneStepExit l v o) s (fun t => (t.lane l).step = 7 ∧ (t.lane l).blockLock = true ∧
      (t.lane l).codeErrors = 0 ∧ ∀ k, k ≠ l → t.lane k = s.lane k))) ∧
  (∀ (x : Lane) (p : Pol), x.rxPolAuto = false → (x.polarity p).rxInverted = x.rxInvert) ∧
  (∀ (x : Lane), x.rxPolAuto = true → x.step = 4 → (x.polarity (.marker 0x0000FFFF)).rxInverted = true ∧
    (x.polarity (.marker 0xFFFF0000)).rxInverted = false) ∧
  (∀ (x : Lane) (n : Nat), x.rxPolAuto = true → x.step = 5 → 2 ≤ x.rate → x.trains = false →
    (x.polarity (.blocks n)).rxInverted = decide (48 < n)) ∧
  (∀ (s : State) (l : Nat), l < 96 → (s.lane l).enable = false → exec (.laneStepTimeout l) s = .next s) ∧
  (∀ (s : State) (l : Nat), l < 96 → (s.lane l).enable = true → (s.lane l).solo = false → s.inTq l = false → Tab.sorted s.lanes = true →
    ((s.lane l).step = 1 → Completes (.laneStepTimeout l) s (fun t => t.keeps s [.buf, .clk, .cru])) ∧
    ((s.lane l).step = 3 → (s.lane l).burst = false → Completes (.laneStepTimeout l) s (fun t => (t.lane l).step = 2 ∧ (t.lane l).cdrLock = false ∧
      ∀ k, k ≠ l → t.lane k = s.lane k)) ∧
    ((s.lane l).step = 5 → Completes (.laneStepTimeout l) s (fun t => (t.lane l).step = 3 ∧ (t.lane l).blockLock = false ∧
      ∀ k, k ≠ l → t.lane k = s.lane k))) ∧
  (∀ (s : State) (l : Nat), l < 96 →
    ((s.lane l).burst = true → exec (.laneSignalLoss l) s = .next (s.setLane l { s.lane l with signal := false })) ∧
    ((s.lane l).burst = false → (s.lane l).step < 3 ∨ ((s.lane l).step = 7 ∧ ((s.lane l).rxDoze = true ∨ (s.lane l).lpiRx = true)) →
      exec (.laneSignalLoss l) s = .next s) ∧
    ((s.lane l).burst = false → (s.lane l).step = 7 → (s.lane l).rxDoze = false → (s.lane l).lpiRx = false → s.inTq l = false →
      Tab.sorted s.lanes = true → Completes (.laneSignalLoss l) s (fun t => (t.lane l).step = 3 ∧ (t.lane l).signal = false ∧ (t.lane l).burst = true ∧
        (t.lane l).lockLosses = inc8 (s.lane l).lockLosses ∧ ∀ k, k ≠ l → t.lane k = s.lane k))) ∧
  (∀ (s : State) (l : Nat), l < 96 → (s.lane l).burst = false → 3 ≤ (s.lane l).step → (s.lane l).step < 6 → (s.lane l).enable = true →
    Tab.sorted s.lanes = true → Completes (.laneSignalLoss l) s (fun t => (t.lane l).step = 2 ∧ (t.lane l).signal = false ∧
      ∀ k, k ≠ l → t.lane k = s.lane k)) ∧
  (∀ (s : State) (l : Nat), l < 96 → (s.lane l).step ≠ 7 → exec (.laneLockLoss l) s = .next s) ∧
  (∀ (s : State) (l : Nat), l < 96 → (s.lane l).step = 7 → s.inTq l = false → Tab.sorted s.lanes = true → Completes (.laneLockLoss l) s (fun t =>
    (t.lane l).step = 3 ∧ (t.lane l).burst = true ∧ (t.lane l).attempts = 0 ∧ (t.lane l).lockLosses = inc8 (s.lane l).lockLosses ∧
    (t.lane l).blockLock = false ∧ ∀ k, k ≠ l → t.lane k = s.lane k)) ∧
  (∀ (s : State) (l : Nat) (ok : Bool), l < 96 → (s.lane l).burst = false → exec (.burstAttemptEnd l ok) s = .next s) ∧
  (∀ (s : State) (l : Nat), l < 96 → (s.lane l).burst = true → s.inTq l = false → Tab.sorted s.lanes = true →
    Completes (.burstAttemptEnd l true) s (fun t => (t.lane l).step = 7 ∧ (t.lane l).burst = false ∧ (t.lane l).cdrLock = true ∧ (t.lane l).blockLock = true ∧
      ∀ k, k ≠ l → t.lane k = s.lane k) ∧
    ((s.lane l).attempts + 1 < 3 → exec (.burstAttemptEnd l false) s =
      .next ((s.setLane l { s.lane l with attempts := (s.lane l).attempts + 1 }).charge 60)) ∧
    (2 ≤ (s.lane l).attempts → Completes (.burstAttemptEnd l false) s (fun t => (t.lane l).burst = false ∧ (t.lane l).step ≤ 2 ∧
      (t.lane l).retrainFails = inc8 (s.lane l).retrainFails ∧ ∀ k, k ≠ l → t.lane k = s.lane k))) ∧
  (∀ (s : State) (l q m : Nat) (f : Int), l < 96 → (s.lane l).step ≠ 4 →
    exec (.cl72Update l q m) s = .next s ∧ exec (.cl72Report l q m f) s = .next s) ∧
  (∀ (s : State) (l q m : Nat), l < 96 → (s.lane l).step = 4 → s.driverIdle l = false →
    let x := (s.lane l).polarity (.marker m)
    (q.testBit 13 = true → exec (.cl72Update l q m) s =
      .next ((s.setLane l { x with taps := { pre := 0, main := 63, post := 0 } }).emit (.cl72Status l (x.rxReady.toNat * 2 ^ 15 + 0x15)))) ∧
    (q.testBit 13 = false → q.testBit 12 = true → exec (.cl72Update l q m) s =
      .next ((s.setLane l { x with taps := x.cfgTaps }).emit (.cl72Status l (x.rxReady.toNat * 2 ^ 15 + 0x15)))) ∧
    (q.testBit 13 = false → q.testBit 12 = false → x.taps.pre ≤ 15 → x.taps.main ≤ 63 → x.taps.post ≤ 31 → x.taps.sumOk = true →
      ∃ y n, exec (.cl72Update l q m) s = .next ((s.setLane l { x with taps := y }).emit (.cl72Status l n)) ∧ y.sumOk = true ∧ y.pre ≤ 15 ∧
        y.main ≤ 63 ∧ y.post ≤ 31 ∧ y.pre ≤ x.taps.pre + 1 ∧ x.taps.pre ≤ y.pre + 1 ∧ y.main ≤ x.taps.main + 1 ∧ x.taps.main ≤ y.main + 1 ∧
        y.post ≤ x.taps.post + 1 ∧ x.taps.post ≤ y.post + 1 ∧ (q % 64 = 0 → y = x.taps))) ∧
  (∀ (s : State) (l q m : Nat) (f : Int), l < 96 → (s.lane l).step = 4 →
    let x := (s.lane l).polarity (.marker m)
    let y := { x with foms := (x.foms ++ [f]).drop (x.foms.length - 16) }
    (x.rxReady = true → q.testBit 15 = false → exec (.cl72Report l q m f) s = .next (s.setLane l x)) ∧
    (x.rxReady = false → y.settled = false → s.driverIdle l = false → ∃ n, n < 64 ∧ exec (.cl72Report l q m f) s =
      .next (({ s.setLane l { y with reqs := y.reqs + 1 } with free := s.free + 1 } : State).emit (.cl72Request l n))) ∧
    (x.rxReady = false → y.settled = true → q.testBit 15 = false → s.driverIdle l = false → exec (.cl72Report l q m f) s =
      .next ((s.setLane l { y with rxReady := true }).emit (.cl72Status l 0x8000))) ∧
    ((x.rxReady || y.settled) = true → q.testBit 15 = true → Tab.sorted s.lanes = true → Completes (.cl72Report l q m f) s (fun t =>
      t.keeps s [.lanes, .out, .buf, .clk, .cru] ∧ (t.lane l).step = 5 ∧ (t.lane l).trained = true ∧ ∀ k, k ≠ l → t.lane k = s.lane k)))

/-- An idle lane that may doze begins entry with three ENTER sets, is dozing at its end unless a trigger arose, exits on a trigger with a
burst and is awake again at the end of the exit; flags leave only from an awake lane in step 7; a received DOZE_OK, ENTER set, burst or
missed burst sets the receive side; LPI is sent only where it may be. The end of a scan stores its result. Where its lane is not in the
state for it each row changes nothing. Where the spec leaves a point open, the clauses rest on the model's reading or choice (log entries
25, 63). Completes: dozeIdleExpired, dozeEntryEnd, dozeWakeTrigger, dozeExitComplete, dozeFlagsPeriodic, dozeFlagsReceived,
dozeEnterReceived, dozeBurstReceived, dozeBurstMissed, sketchEnd, lpiTransition (R114, R115, R116, R117, R118, R119, R120, R121, R122,
R125, R127, R133). -/
def Obligations.LaneDoze : Prop :=
  (∀ (s : State) (l : Nat), l < 96 → (s.lane l).doze = .awake → s.dozeAllowed l = true → (s.lane l).partnerDozeOk = true → s.refHold l = false →
    s.egressWaiting l = false → s.driverIdle l = false → exec (.dozeIdleExpired l) s =
      .next ((s.setLane l { s.lane l with doze := .entering }).emits [.ordered l 0xD50200, .ordered l 0xD50200, .ordered l 0xD50200])) ∧
  (∀ (s : State) (l : Nat), l < 96 → (s.lane l).doze ≠ .awake ∨ s.dozeAllowed l = false ∨ (s.lane l).partnerDozeOk = false ∨ s.refHold l = true ∨
    s.egressWaiting l = true ∨ s.driverIdle l = true → exec (.dozeIdleExpired l) s = .next s) ∧
  (∀ (s : State) (l : Nat), l < 96 → (s.lane l).doze = .entering → Tab.sorted s.lanes = true →
    (s.wakeTrigger l = false → exec (.dozeEntryEnd l) s = .next (s.setLane l { s.lane l with doze := .dozing, txDoze := true })) ∧
    (s.wakeTrigger l = true → s.driverIdle l = false → Completes (.dozeEntryEnd l) s (fun t => t.keeps s [.lanes, .out] ∧ t.out = s.out ++ [.ordered l 0] ∧
      t.lane l = { s.lane l with doze := .exiting, txDoze := true } ∧ ∀ k, k ≠ l → t.lane k = s.lane k))) ∧
  (∀ (s : State) (l : Nat), l < 96 → (s.lane l).doze ≠ .entering → exec (.dozeEntryEnd l) s = .next s) ∧
  (∀ (s : State) (l : Nat), l < 96 → s.wakeTrigger l = true → (s.lane l).doze = .dozing → s.driverIdle l = false →
    exec (.dozeWakeTrigger l) s = .next ((s.setLane l { s.lane l with doze := .exiting }).emit (.ordered l 0))) ∧
  (∀ (s : State) (l : Nat), l < 96 → s.wakeTrigger l = false ∨ (s.lane l).doze ≠ .dozing → exec (.dozeWakeTrigger l) s = .next s) ∧
  (∀ (s : State) (l : Nat), l < 96 → (s.lane l).doze = .exiting → Tab.sorted s.lanes = true → Completes (.dozeExitComplete l) s (fun t =>
    t.keeps s [.lanes, .out] ∧ t.lane l = { s.lane l with doze := .awake, txDoze := false, flagsSent := (t.lane l).flagsSent, lpiTx := (t.lane l).lpiTx } ∧
    ∀ k, k ≠ l → t.lane k = s.lane k)) ∧
  (∀ (s : State) (l : Nat), l < 96 → (s.lane l).doze ≠ .exiting → exec (.dozeExitComplete l) s = .next s) ∧
  (∀ (s : State) (l : Nat), l < 96 → (s.lane l).dozeEn = true → (s.lane l).step = 7 → (s.lane l).doze = .awake → s.driverIdle l = false →
    exec (.dozeFlagsPeriodic l) s =
    .next ((s.setLane l { s.lane l with flagsSent := some (s.dozeOk l) }).emit (.ordered l (0xD50100 + (s.dozeOk l).toNat)))) ∧
  (∀ (s : State) (l : Nat), l < 96 → (s.lane l).dozeEn = false ∨ (s.lane l).step ≠ 7 ∨ (s.lane l).doze ≠ .awake ∨ s.driverIdle l = true →
    exec (.dozeFlagsPeriodic l) s = .next s) ∧
  (∀ (s : State) (l : Nat) (b : Bool), l < 96 → (s.lane l).step ≠ 7 →
    exec (.dozeFlagsReceived l b) s = .next s ∧ exec (.dozeEnterReceived l) s = .next s) ∧
  (∀ (s : State) (l : Nat), l < 96 → (s.lane l).step = 7 → Tab.sorted s.lanes = true → Completes (.dozeFlagsReceived l true) s (fun t =>
    t.keeps s [.lanes, .out] ∧ (t.lane l) = { s.lane l with
      chotonPartner := true, partnerDozeOk := true, lpiTx := (t.lane l).lpiTx, doze := (t.lane l).doze, flagsSent := (t.lane l).flagsSent } ∧ ((s.lane l).dozeEn = true → (t.lane l).lpiTx = false) ∧
    ∀ k, k ≠ l → t.lane k = s.lane k)) ∧
  (∀ (s : State) (l : Nat), l < 96 → (s.lane l).step = 7 → Tab.sorted s.lanes = true →
    Completes (.dozeFlagsReceived l false) s (fun t => t.keeps s [.lanes, .out] ∧ (t.lane l).partnerDozeOk = false ∧ (t.lane l).doze ≠ .dozing) ∧
    Completes (.dozeEnterReceived l) s (fun t => t.lane l = { s.lane l with rxDoze := true } ∧ (∀ k, k ≠ l → t.lane k = s.lane k) ∧
      t.keeps s [.lanes, .refs, .clk, .tbs, .cru, .buf])) ∧
  (∀ (s : State) (l : Nat), l < 96 → exec (.dozeBurstReceived l) s = .next (s.setLane l { s.lane l with rxDoze := false })) ∧
  (∀ (s : State) (l : Nat) (b : Bool), l < 96 → (s.lane l).rxDoze = false → exec (.dozeBurstMissed l b) s = .next s) ∧
  (∀ (s : State) (l : Nat), l < 96 → (s.lane l).rxDoze = true → exec (.dozeBurstMissed l true) s =
    .next (s.setLane l { s.lane l with rxDoze := false, dozeExitErr := inc16 (s.lane l).dozeExitErr })) ∧
  (∀ (s : State) (l : Nat) (b : Bool), l < 96 → exec (.lpiTransition l false b) s = .next (s.setLane l { s.lane l with
      lpiRx := b, coarseRx := if (s.lane l).lpiRx = true ∧ b = false then s.clk.tick + 2500 else (s.lane l).coarseRx }) ∧
    (∃ n, exec (.lpiTransition l true b) s = .next (s.setLane l { s.lane l with lpiTx := b && s.lpiMay l, coarseTx := n })) ∧
    ((s.lane l).lpiEn = false ∨ (s.lane l).medium = 0 ∨ (s.lane l).step ≠ 7 ∨ s.inTq l = true ∨ s.refHold l = true ∨
      ((s.lane l).dozeEn = true ∧ (s.lane l).chotonPartner = true) → s.lpiMay l = false)) ∧
  (∀ (s : State) (l : Nat) (rows : List EyeErr) (lost : Bool), l < 96 →
    s.findJob (isSketch l) = none ∨ (s.lane l).sketching = false → exec (.sketchEnd l rows lost) s = .next s) ∧
  (∀ (s : State) (l d : Nat) (c : Ctx) (rows : List EyeErr) (lost : Bool), l < 96 → Tab.sorted s.lanes = true →
    s.axg.jobs = [{ ctx := c, work := .sketch l d }] → c.mirrored = false → (s.lane l).sketching = true → Completes (.sketchEnd l rows lost) s (fun t =>
      t.axg.jobs = [] ∧ (t.lane l).sketching = false ∧ (t.lane l).eye.stat = (if lost = true ∨ (s.lane l).scanLost = true then 2 else 1) ∧
      (t.lane l).eye.dwell = d ∧ (t.lane l).eye.deepest = deepestOf d ∧
      (t.lane l).eye.finePoints = ((rows.take 129).map (fun r => pointsOf r d)).sum ∧ (t.lane l).eye.rows.length = 129 ∧ ∀ k, k ≠ l → t.lane k = s.lane k))

/-- Accepted: PORT.CONFIG, PORT.ADMIN and PORT.RING without WRITE, and PORT.NODE_READ, change nothing; PORT.CONFIG with WRITE 1 stores the
clamped FEC and MAX_FRAME of an existing port, and a TQ port written FORM 1 comes to exist, its four lanes restarted at RATE 4, and ends
to exist written FORM 0; PORT.ADMIN stores ENABLE and the filter time, and a port disabled is DISABLED; PORT.RING stores an instance's
roles, which are existing ports no other instance holds, with an effective mode that has its roles, and a change of them clears the
instance's nodes; PORT.STATUS replies with nine words. Where the spec leaves a point open, the clauses rest on the model's reading or
choice (log entries 21, 27, 32, 64). Completes: portConfig, portStatus, portAdmin, portRing, portNodeRead (R137, R138, R147, R145, R166,
R167, R168, R169, R170). -/
def Obligations.PortCommands : Prop :=
  (∀ s p, bit (wd p.words 0) 31 = false →
    (s.accepts 0x0220 (lenIs 2) p = true → ∃ r, Answers (.portConfig p) s 0x0220 p (s.accepted 0x0220 p) r ∧ r.length = 2) ∧
    (s.accepts 0x0222 (lenIs 2) p = true → ∃ r, Answers (.portAdmin p) s 0x0222 p (s.accepted 0x0222 p) r ∧ r.length = 2) ∧
    (s.accepts 0x0223 (lenIs 4) p = true → ∃ r, Answers (.portRing p) s 0x0223 p (s.accepted 0x0223 p) r ∧ r.length = 4)) ∧
  (∀ s p, s.accepts 0x0220 (lenIs 2) p = true → bit (wd p.words 0) 31 = true → Tab.sorted s.ports = true → Tab.sorted s.lanes = true →
    let q := portArg (wd p.words 0)
    let a := wd p.words 1
    (s.portExists q = true → (96 ≤ q → bit a 2 = true) → ∃ u r, Answers (.portConfig p) s 0x0220 p u r ∧ r.length = 2 ∧
      (u.port q).fecMode = s.clampFec q (fld a 1 0) ∧ (u.port q).maxFrame = clamp 1518 10240 (fld a 29 16) ∧ u.form = s.form ∧
      ∀ k, k ≠ q → (u.port k).fecMode = (s.port k).fecMode ∧ (u.port k).maxFrame = (s.port k).maxFrame) ∧
    (s.portExists q = true → 96 ≤ q → bit a 2 = false → ∃ u r, Answers (.portConfig p) s 0x0220 p u r ∧ r.length = 2 ∧ u.formed (q - 96) = false ∧
      ∀ j, j ≠ q - 96 → u.formed j = s.formed j) ∧
    (s.portExists q = false → (96 ≤ q → bit a 2 = false) → ∃ r, Answers (.portConfig p) s 0x0220 p (s.accepted 0x0220 p) r ∧ r.length = 2) ∧
    (96 ≤ q → bit a 2 = true → s.formed (q - 96) = false → ∃ u r, Answers (.portConfig p) s 0x0220 p u r ∧ r.length = 2 ∧ u.formed (q - 96) = true ∧
      (∀ j, j ≠ q - 96 → u.formed j = s.formed j) ∧ ∀ l ∈ portLanes q, (u.lane l).rate = 4 ∧ (u.lane l).step = (if (s.lane l).enable then 1 else 0))) ∧
  (∀ s p, s.accepts 0x0221 (lenIs 1) p = true → Tab.sorted s.ports = true → ∃ u r, Answers (.portStatus p) s 0x0221 p u r ∧ r.length = 9 ∧
    u.keeps (s.accepted 0x0221 p) [.ports, .free] ∧
    ∀ k, u.port k = { s.port k with fecCorrected := (u.port k).fecCorrected, fecUncorrected := (u.port k).fecUncorrected }) ∧
  (∀ s p, s.accepts 0x0222 (lenIs 2) p = true → bit (wd p.words 0) 31 = true → s.portExists (portArg (wd p.words 0)) = true → Tab.sorted s.ports = true →
    let q := portArg (wd p.words 0)
    let a := wd p.words 1
    ∃ u r, Answers (.portAdmin p) s 0x0222 p u r ∧ r.length = 2 ∧ (u.port q).enable = bit a 0 ∧ (u.port q).lfFilter = min 1000 (fld a 25 16) ∧
      (bit a 0 = false → (u.port q).st = .disabled) ∧ (Tab.sorted s.lanes = true → ∀ k, k ∉ portLanes q → u.lane k = s.lane k) ∧
      ∀ k, k ≠ q → u.port k = s.port k) ∧
  (∀ s p, s.accepts 0x0223 (lenIs 4) p = true → bit (wd p.words 0) 31 = true → Tab.sorted s.rings = true →
    let k := fld (wd p.words 0) 2 0
    let a := wd p.words 1
    let pa := s.ringPort k (fld a 14 8) []
    let pb := s.ringPort k (fld a 22 16) [pa]
    let il := s.ringPort k (fld a 30 24) [pa, pb]
    ∃ u r, Answers (.portRing p) s 0x0223 p u r ∧ r.length = 4 ∧ u.keeps (s.accepted 0x0223 p) [.rings, .nodes] ∧ (∀ j, j ≠ k → u.ring j = s.ring j) ∧
      (u.ring k).portA = pa ∧ (u.ring k).portB = pb ∧ (u.ring k).interlink = il ∧
      (u.ring k).mode = (if pa = 0x7F ∨ pb = 0x7F ∨ (fld a 1 0 = 3 ∧ il = 0x7F) then 0 else fld a 1 0) ∧ (u.ring k).lanId = fld a 2 2 ∧
      (u.ring k).entryForget = clamp 10 10000 (fld (wd p.words 2) 15 0) ∧ (u.ring k).nodeForget = clamp 1 3600 (fld (wd p.words 2) 31 16) ∧
      (u.ring k).supInterval = clamp 100 10000 (fld (wd p.words 3) 15 0) ∧ (u.ring k).supAddr = fld (wd p.words 3) 23 16 ∧
      ((s.ring k).mode = (u.ring k).mode ∧ (s.ring k).portA = pa ∧ (s.ring k).portB = pb ∧ (s.ring k).interlink = il →
        u.nodes = s.nodes ∧ (u.ring k).seq = (s.ring k).seq) ∧
      ((s.ring k).mode ≠ (u.ring k).mode ∨ (s.ring k).portA ≠ pa ∨ (s.ring k).portB ≠ pb ∨ (s.ring k).interlink ≠ il →
        (u.ring k).seq = 0 ∧ ∀ e ∈ u.nodes, e ∈ s.nodes ∧ e.2.ring ≠ k)) ∧
  (∀ (s : State) (k q : Nat) (l : List Nat), s.ringPort k q l = 0x7F ∨ (s.portExists (s.ringPort k q l) = true ∧ s.ringPort k q l ∉ l ∧
    ∀ j, j < 8 → j ≠ k → (s.ring j).portA ≠ s.ringPort k q l ∧ (s.ring j).portB ≠ s.ringPort k q l ∧ (s.ring j).interlink ≠ s.ringPort k q l)) ∧
  (∀ s p, s.accepts 0x0224 (lenIs 2) p = true →
    let first := fld (wd p.words 0) 13 0
    let n := min (min 16384 (fld (wd p.words 1) 14 0)) (16384 - first)
    ∃ r, Answers (.portNodeRead p) s 0x0224 p (s.accepted 0x0224 p) r ∧ wd r 1 = w32 s.nodeFull ∧
      r.length = 2 + 4 * (s.nodes.filter (fun e => decide (first ≤ e.1 ∧ e.1 < first + n))).length)

/-- A fault on an UP port starts its filter, or takes it DOWN at once with LF_FILTER 0, and is counted; the filter's end takes it DOWN; a loss
cleared in the filter returns it to UP. A close ends CLOSED with its record and count, an open releases the lanes, a probe that fails
closes with cause 5, and the retry wait ends in a new probe when the policy may act. An instance that runs sends a supervision frame out
of each of its ports. Node entries are cleared and freed. Each row in another state changes nothing. Accepted, with no other command for
the pair: BYPASS.SET of the state a pair is in replies at once; CLOSE on an OPEN pair begins a close and OPEN on a CLOSED one an open, and
the command waits for its end; each holds the pair as commanded, and one that meets the other transition waits for its end. BYPASS.POLICY
replies at once, with WRITE 1 storing its clamped values and ending HELD. BYPASS.STATUS replies with the four pairs' words and changes
nothing. Where the spec leaves a point open, the clauses rest on the model's reading or choice (log entries 27, 30, 33, 64, 65, 66).
Completes: bypassSet, bypassPolicy, bypassStatus, linkLost, lfFilterExpiry, linkLossCleared, bypassCloseComplete, bypassOpenComplete,
bypassPolicyProbeStart, openProbeExpiry, retryGapExpiry, supervisionSend, entryForget, nodeForget (R140, R141, R142, R144, R146, R151,
R154, R157, R159, R160, R171, R172). -/
def Obligations.LinksAndPairs : Prop :=
  (∀ (s : State) (p c : Nat) (b e : Bool), p < 104 → Tab.sorted s.ports = true → s.portExists p = true → (s.port p).enable = true → s.bypassed p = false →
    (s.port p).st = .up → c < 2 → Completes (.linkLost p c b e) s (fun t => (t.port p).st = (if (s.port p).lfFilter = 0 then .down else .filter) ∧
      (t.port p).lfEvents = inc16 (s.port p).lfEvents ∧ (t.port p).localFault = ((s.port p).localFault || decide (c = 0)) ∧
      (t.port p).remoteFault = ((s.port p).remoteFault || decide (c = 1)) ∧ t.lanes = s.lanes ∧ ∀ q, q ≠ p → t.port q = s.port q)) ∧
  (∀ (s : State) (p c : Nat) (e : Bool), p < 104 → Tab.sorted s.ports = true → (s.port p).st ≠ .up → (s.port p).st ≠ .filter →
    Completes (.linkLost p c true e) s (fun t => t.keeps s [.ports, .out] ∧ (t.port p).rxTrunc = (if e then inc16 (s.port p).rxTrunc else (s.port p).rxTrunc) ∧ (t.port p).lfEvents = inc16 (s.port p).lfEvents ∧
      (t.port p).st = (s.port p).st ∧ ∀ q, q ≠ p → t.port q = s.port q)) ∧
  (∀ (s : State) (p : Nat), p < 104 → (s.port p).st ≠ .filter → exec (.lfFilterExpiry p) s = .next s) ∧
  (∀ (s : State) (p : Nat), p < 104 → (s.port p).st = .filter → Tab.sorted s.ports = true → Completes (.lfFilterExpiry p) s (fun t =>
    (t.port p).st = .down ∧ (t.port p).lfRecovered = (s.port p).lfRecovered ∧ ∀ q, q ≠ p → t.port q = s.port q)) ∧
  (∀ (s : State) (p : Nat), p < 104 → Tab.sorted s.ports = true → s.portExists p = true → (s.port p).enable = true → s.bypassed p = false →
    (s.port p).st = .filter → (portLanes p).all (fun l => decide ((s.lane l).step = 7) && decide ((s.lane l).loopMode = 0)) = true →
    Completes (.linkLossCleared p) s (fun t => (t.port p).st = .up ∧ (t.port p).lfRecovered = inc16 (s.port p).lfRecovered ∧
      (t.port p).localFault = false ∧ (t.port p).remoteFault = false ∧ ∀ q, q ≠ p → t.port q = s.port q)) ∧
  (∀ (s : State) (b : Nat), b < 4 →
    ((s.pair b).st ≠ .closing → exec (.bypassCloseComplete b) s = .next s) ∧
    ((s.pair b).st ≠ .opening → (s.pair b).st ≠ .probing ∨ (s.pair b).released = true → exec (.bypassOpenComplete b) s = .next s) ∧
    (s.policyMay b = false ∨ (s.pair b).retrying = true → exec (.bypassPolicyProbeStart b) s = .next s) ∧
    ((s.pair b).st ≠ .probing ∨ (s.pair b).released = false → exec (.openProbeExpiry b) s = .next s) ∧
    ((s.pair b).retrying = false → exec (.retryGapExpiry b) s = .next s)) ∧
  (∀ (s : State) (b : Nat), b < 4 → Tab.sorted s.bypass = true → s.axg.jobs = [] →
    ((s.pair b).st = .closing → Completes (.bypassCloseComplete b) s (fun t => t.keeps s [.bypass, .cru] ∧ (∀ k, k ≠ b → t.pair k = s.pair k) ∧
      t.cru = s.cru.arrive s.clk.tick (s.mkRec 0x0201 (srcOf 3 b) (sevOf 0x0201) (pack [(0, (s.pair b).lastCause)]) 0 0) ∧
      t.pair b = { s.pair b with st := .closed, closes := inc16 (s.pair b).closes, retrying := (s.pair b).auto && decide ((s.pair b).lastCause = 5) })) ∧
    ((s.pair b).st = .opening → Completes (.bypassOpenComplete b) s (fun t => (t.pair b).st = .opened ∧ (t.pair b).released = true ∧ t.lanes = s.lanes)) ∧
    (s.policyMay b = true → (s.pair b).retrying = false → Completes (.bypassPolicyProbeStart b) s (fun t => t.keeps s [.bypass] ∧
      t.pair b = { s.pair b with st := .probing, released := false, retrying := false } ∧ ∀ k, k ≠ b → t.pair k = s.pair k)) ∧
    ((s.pair b).st = .probing → (s.pair b).released = true → Completes (.openProbeExpiry b) s (fun t => (t.pair b).st = .closing ∧
      (t.pair b).lastCause = 5 ∧ (t.pair b).probeFails = inc8 (s.pair b).probeFails)) ∧
    ((s.pair b).retrying = true → Completes (.retryGapExpiry b) s (fun t => t.keeps s [.bypass] ∧ (t.pair b).retrying = false ∧
      (t.pair b).st = (if s.policyMay b then .probing else (s.pair b).st) ∧ ∀ k, k ≠ b → t.pair k = s.pair k))) ∧
  (∀ (s : State) (k : Nat), k < 8 → s.dpUp = false ∨ (s.ring k).mode = 0 → exec (.supervisionSend k) s = .next s) ∧
  (∀ (s : State) (k : Nat), k < 8 → s.dpUp = true → (s.ring k).mode ≠ 0 → Tab.sorted s.rings = true → Completes (.supervisionSend k) s (fun t =>
    t.keeps s [.rings, .buf] ∧ t.ring k = { s.ring k with seq := ((s.ring k).seq + 1) % 65536 } ∧ (∀ j, j ≠ k → t.ring j = s.ring j) ∧
    ∃ l, t.buf = { s.buf with iqCmd := s.buf.iqCmd ++ l } ∧
      l.map Ins.port = [(s.ring k).portA, (s.ring k).portB] ++ (if (s.ring k).mode = 3 then [(s.ring k).interlink] else []))) ∧
  (∀ (s : State) (k : Nat), exec (.nodeForget k) s = .next { s with nodes := Tab.erase s.nodes k }) ∧
  (∀ (s : State) (k : Nat), Completes (.entryForget k) s (fun t => t.keeps s [.nodes] ∧ (∀ j, j ≠ k → Tab.find? t.nodes j = Tab.find? s.nodes j) ∧
    Tab.find? t.nodes k = (Tab.find? s.nodes k).map (fun n => { n with win := 0, cleared := true }))) ∧
  (∀ s p, s.accepts 0x0240 (lenIs 1) p = true → Tab.sorted s.bypass = true →
    let b := fld (wd p.words 0) 1 0
    s.axg.jobs.all (fun j => match j.work with | .bypass _ _ _ => false | .policy _ _ _ => false | _ => true) = true →
    let a := s.accepted 0x0240 p
    (bit (wd p.words 0) 8 = true → (s.pair b).st = .closed → ∃ u, Answers (.bypassSet p) s 0x0240 p u [u.pairWord b] ∧ u.keeps a [.bypass] ∧
      u.pair b = { s.pair b with held := true, retrying := false } ∧ ∀ k, k ≠ b → u.pair k = s.pair k) ∧
    (bit (wd p.words 0) 8 = false → (s.pair b).st = .opened → ∃ u, Answers (.bypassSet p) s 0x0240 p u [u.pairWord b] ∧ u.keeps a [.bypass] ∧
      u.pair b = { s.pair b with held := false } ∧ ∀ k, k ≠ b → u.pair k = s.pair k) ∧
    (bit (wd p.words 0) 8 = false → (s.pair b).st = .closed → Completes (.bypassSet p) s (fun t => t.keeps a [.bypass, .axg] ∧
      t.axg.jobs = s.axg.jobs ++ [{ ctx := s.ctxOf 0x0240 p, work := .bypass b false true }] ∧
      t.pair b = { s.pair b with st := .opening, held := false, released := false, retrying := false } ∧ ∀ k, k ≠ b → t.pair k = s.pair k)) ∧
    (bit (wd p.words 0) 8 = true → (s.pair b).st = .opened → Completes (.bypassSet p) s (fun t =>
      (t.pair b).st = .closing ∧ (t.pair b).held = true ∧ (t.pair b).lastCause = 4 ∧ (t.pair b).closes = (s.pair b).closes ∧
      ∀ k, k ≠ b → (t.pair k).st = (s.pair k).st)) ∧
    (bit (wd p.words 0) 8 = true → (s.pair b).st = .opening → exec (.bypassSet p) s = .next (a.hold (s.ctxOf 0x0240 p) (.bypass b true false))) ∧
    (bit (wd p.words 0) 8 = false → (s.pair b).st = .closing → exec (.bypassSet p) s = .next (a.hold (s.ctxOf 0x0240 p) (.bypass b false false)))) ∧
  (∀ s p, s.accepts 0x0241 (lenIs 2) p = true → Tab.sorted s.bypass = true →
    let b := fld (wd p.words 0) 1 0
    let a := wd p.words 1
    s.axg.jobs.all (fun j => match j.work with | .bypass _ _ _ => false | .policy _ _ _ => false | _ => true) = true →
    (bit (wd p.words 0) 31 = false → Answers (.bypassPolicy p) s 0x0241 p (s.accepted 0x0241 p) (s.policyWords b false)) ∧
    (bit (wd p.words 0) 31 = true → ∃ u, Answers (.bypassPolicy p) s 0x0241 p u (u.policyWords b true) ∧ u.keeps (s.accepted 0x0241 p) [.bypass] ∧
      u.pair b = { s.pair b with auto := bit a 0, openProbe := clamp 1 1000 (fld a 15 4), retryGap := clamp 1 3600 (fld a 31 16), held := false,
                                 retrying := (s.pair b).retrying && bit a 0 } ∧ ∀ k, k ≠ b → u.pair k = s.pair k)) ∧
  (∀ s p, s.accepts 0x0242 (lenIs 0) p = true → Answers (.bypassStatus p) s 0x0242 p (s.accepted 0x0242 p) ((List.range 4).map s.pairWord))

/-- Accepted: one key of FWD.FDB_ADD replaces the entry of its key, takes the place found for a new one, or is refused when there is none; one
group is stored; FWD.FDB_DEL and its flush form remove exactly the entries they name; FWD.STREAM_SET stores one entry in the slot of its
key or a free way, and deletes one by its key; the read commands change nothing; FWD.AGEING stores its clamped values. Where the spec
leaves a point open, the clauses rest on the model's reading or choice (log entries 35, 69). Completes: fwdFdbAdd, fwdFdbDel, fwdFdbFlush,
fwdFdbRead, fwdAgeing, fwdStreamSet, fwdStreamRead (R182, R183, R187, R190, R207, R208, R209, R210, R211, R212). -/
def Obligations.TableCommands : Prop :=
  (∀ s p, s.accepts 0x0300 lenFdbAdd p = true → fld (wd p.words 0) 15 0 = 1 →
    let ws := p.words
    let a := s.accepted 0x0300 p
    let e : Fdb := { mac := macOf (wd ws 1) (wd ws 2), fid := fld (wd ws 2) 11 0, dest := destOf (fld (wd ws 3) 12 0), static := bit (wd ws 3) 16,
                     hit := (Config.freeNat s.free).testBit 0 }
    (bit (wd ws 0) 31 = true → Answers (.fwdFdbAdd p) s 0x0300 p { a with fwd := { s.fwd with
      groups := Tab.insert s.fwd.groups (fld (wd ws 1) 11 0) (maskArg ws 2) } } [pack [(0, 1), (16, 0)], 1]) ∧
    (∀ k old, bit (wd ws 0) 31 = false → s.fdbFind e.mac e.fid = some (k, old) → Answers (.fwdFdbAdd p) s 0x0300 p
      { a with free := s.free + 1, fwd := { s.fwd with fdb := Tab.insert s.fwd.fdb k e } } [pack [(0, 1), (16, 0)], 1]) ∧
    (∀ t, bit (wd ws 0) 31 = false → s.fdbFind e.mac e.fid = none → fdbPlace s.fwd.fdb e = some t → Answers (.fwdFdbAdd p) s 0x0300 p
      { a with free := s.free + 1, fwd := { s.fwd with fdb := t } } [pack [(0, 1), (16, 0)], 1]) ∧
    (bit (wd ws 0) 31 = false → s.fdbFind e.mac e.fid = none → fdbPlace s.fwd.fdb e = none → Answers (.fwdFdbAdd p) s 0x0300 p
      { a with free := s.free + 1 } [pack [(0, 0), (16, 1)], 0])) ∧
  (∀ (t : Tab Fdb) (e : Fdb) (w : Nat), w < 4 → Tab.find? t (fdbSlot w e.mac e.fid) = none →
    (∀ v, v < w → Tab.find? t (fdbSlot v e.mac e.fid) ≠ none) → fdbPlace t e = some (Tab.insert t (fdbSlot w e.mac e.fid) e)) ∧
  (∀ s p, s.accepts 0x0301 lenFdbDel p = true →
    let ws := p.words
    (bit (wd ws 0) 31 = false → ∃ u, Answers (.fwdFdbDel p) s 0x0301 p u [w32 (s.fwd.fdb.length - u.fwd.fdb.length)] ∧
      u.keeps (s.accepted 0x0301 p) [.fwd] ∧ u.fwd.fdb = s.fwd.fdb.filter (fun e => !((List.range (fld (wd ws 0) 15 0)).any (fun i =>
        decide (e.2.mac = macOf (wd ws (1 + 2 * i)) (wd ws (2 + 2 * i)) ∧ e.2.fid = fld (wd ws (2 + 2 * i)) 11 0)))) ∧
      u.fwd = { s.fwd with fdb := u.fwd.fdb }) ∧
    (bit (wd ws 0) 31 = true → ∃ u, Answers (.fwdFdbFlush p) s 0x0301 p u [w32 (s.fwd.fdb.length - u.fwd.fdb.length)] ∧
      u.keeps (s.accepted 0x0301 p) [.fwd] ∧ u.fwd = { s.fwd with fdb := u.fwd.fdb } ∧ ∀ e, e ∈ u.fwd.fdb ↔ e ∈ s.fwd.fdb ∧
        ¬((portOrNone (fld (wd ws 1) 6 0) = 0x7F ∨ e.2.dest = portOrNone (fld (wd ws 1) 6 0)) ∧
          (bit (wd ws 1) 28 = true ∨ e.2.fid = fld (wd ws 1) 27 16) ∧ (bit (wd ws 1) 29 = true ∨ e.2.static = false)))) ∧
  (∀ s p, s.accepts 0x0302 (lenIs 2) p = true →
    let grp := bit (wd p.words 0) 31
    let top := if grp then 4096 else 131072
    let first := min (fld (wd p.words 0) 16 0) top
    let n := min (fld (wd p.words 1) 17 0) (top - first)
    ∃ r, Answers (.fwdFdbRead p) s 0x0302 p (s.accepted 0x0302 p) r ∧
      (grp = true → r.length = 1 + 5 * (s.fwd.groups.filter (fun e => decide (first ≤ e.1 ∧ e.1 < first + n))).length) ∧
      (grp = false → r.length = 1 + 4 * (s.fwd.fdb.filter (fun e => decide (first ≤ e.1 ∧ e.1 < first + n))).length)) ∧
  (∀ s p, s.accepts 0x0303 (lenIs 2) p = true →
    let w := bit (wd p.words 0) 31
    ∃ u r, Answers (.fwdAgeing p) s 0x0303 p u r ∧ r.length = 6 ∧ u.keeps (s.accepted 0x0303 p) [.fwd] ∧ u.fwd = (if w then { s.fwd with
      ageTime := clamp 10 1000000 (fld (wd p.words 1) 19 0), ageEn := bit (wd p.words 1) 31 } else s.fwd)) ∧
  (∀ s p, s.accepts 0x0304 (lenEntries 5) p = true → fld (wd p.words 0) 15 0 = 1 →
    let a := s.accepted 0x0304 p
    let e := streamOf p.words 1
    let same := List.find? (fun (x : Nat × Stream) => x.2.sameKey e) s.fwd.streams
    let e' := { e with spark := e.spark && !(List.any s.fwd.streams (fun x => x.2.spark && decide (x.2.da = e.da) && !(x.2.sameKey e))) }
    let put := fun (k : Nat) => { a with fwd := { s.fwd with streams := Tab.insert s.fwd.streams k e' } }
    let yes := fun (e : Stream) (k : Nat) => pack [(0, 1), (16, 0)] :: streamWords e k true
    (∀ k x, bit (wd p.words 0) 31 = false → same = some (k, x) → Answers (.fwdStreamSet p) s 0x0304 p (put k) (yes e' k)) ∧
    (∀ k, bit (wd p.words 0) 31 = false → same = none → streamFree s.fwd.streams e.da = some k →
      Answers (.fwdStreamSet p) s 0x0304 p (put k) (yes e' k)) ∧
    (bit (wd p.words 0) 31 = false → same = none → streamFree s.fwd.streams e.da = none →
      Answers (.fwdStreamSet p) s 0x0304 p a (pack [(0, 0), (16, 1)] :: streamWords e' 0 false)) ∧
    (∀ k x, bit (wd p.words 0) 31 = true → same = some (k, x) → Answers (.fwdStreamSet p) s 0x0304 p
      { a with fwd := { s.fwd with streams := Tab.erase s.fwd.streams k } } (yes e k)) ∧
    (bit (wd p.words 0) 31 = true → same = none →
      Answers (.fwdStreamSet p) s 0x0304 p a (pack [(0, 0), (16, 1)] :: streamWords e 0 false))) ∧
  (∀ s p, s.accepts 0x0305 (lenIs 2) p = true →
    let first := fld (wd p.words 0) 14 0
    let n := min (fld (wd p.words 1) 15 0) (32768 - first)
    ∃ r, Answers (.fwdStreamRead p) s 0x0305 p (s.accepted 0x0305 p) r ∧
      r.length = 1 + 5 * (s.fwd.streams.filter (fun e => decide (first ≤ e.1 ∧ e.1 < first + n))).length)

/-- Accepted, without WRITE each of FWD.VLAN_SET, FWD.CLASS_MAP, FWD.CUT_MODE, FWD.PUNT_RULE, BUF.MIN_SET and BUF.POOL_SET changes nothing;
with WRITE 1 each stores its clamped values in the entry it names and no other, a port's only where the port exists; the minimum and the
pool size are clamped so that minima and pool take at most 190,208 cells together. BUF.OCCUPANCY replies with 6 or 24 words and sets the
peak to the present use. Where the spec leaves a point open, the clauses rest on the model's reading or choice (log entries 20, 21, 67).
Completes: fwdVlanSet, fwdClassMap, fwdCutMode, fwdPuntRule, bufMinSet, bufPoolSet, bufOccupancy (R213, R214, R215, R216, R221, R223,
R235, R236, R237). -/
def Obligations.RuleAndBufferCommands : Prop :=
  (∀ s p, bit (wd p.words 0) 31 = false →
    (s.accepts 0x0306 (lenIs 10) p = true → ∃ r, Answers (.fwdVlanSet p) s 0x0306 p (s.accepted 0x0306 p) r ∧ r.length = 10) ∧
    (s.accepts 0x0307 (lenIs 3) p = true → ∃ r, Answers (.fwdClassMap p) s 0x0307 p (s.accepted 0x0307 p) r ∧ r.length = 3) ∧
    (s.accepts 0x0308 (lenIs 2) p = true → ∃ r, Answers (.fwdCutMode p) s 0x0308 p (s.accepted 0x0308 p) r ∧ r.length = 2) ∧
    (s.accepts 0x0309 (lenIs 6) p = true → ∃ r, Answers (.fwdPuntRule p) s 0x0309 p (s.accepted 0x0309 p) r ∧ r.length = 6) ∧
    (s.accepts 0x0340 (lenIs 2) p = true → ∃ r, Answers (.bufMinSet p) s 0x0340 p (s.accepted 0x0340 p) r ∧ r.length = 3) ∧
    (s.accepts 0x0341 (lenIs 3) p = true → ∃ r, Answers (.bufPoolSet p) s 0x0341 p (s.accepted 0x0341 p) r ∧ r.length = 3)) ∧
  (∀ s p, s.accepts 0x0306 (lenIs 10) p = true → bit (wd p.words 0) 31 = true → Tab.sorted s.fwd.vlans = true →
    let v := clamp 1 4094 (fld (wd p.words 0) 11 0)
    let a := wd p.words 1
    ∃ u r, Answers (.fwdVlanSet p) s 0x0306 p u r ∧ r.length = 10 ∧ u.keeps (s.accepted 0x0306 p) [.fwd] ∧ u.vlan v =
      { fid := fld a 11 0, valid := bit a 16, learn := bit a 17, member := maskArg p.words 2, untag := maskArg p.words 6 } ∧
      (∀ k, k ≠ v → u.vlan k = s.vlan k) ∧ u.fwd = { s.fwd with vlans := u.fwd.vlans }) ∧
  (∀ s p, s.accepts 0x0307 (lenIs 3) p = true → bit (wd p.words 0) 31 = true → s.portExists (portArg (wd p.words 0)) = true → Tab.sorted s.ports = true →
    let q := portArg (wd p.words 0)
    let a := wd p.words 1
    ∃ u r, Answers (.fwdClassMap p) s 0x0307 p u r ∧ r.length = 3 ∧ u.keeps (s.accepted 0x0307 p) [.ports] ∧ (∀ k, k ≠ q → u.port k = s.port k) ∧
      u.port q = { s.port q with pvid := clamp 1 4094 (fld a 11 0), defPcp := fld a 14 12, pcpMap := fld (wd p.words 2) 23 0 }) ∧
  (∀ s p, s.accepts 0x0308 (lenIs 2) p = true → bit (wd p.words 0) 31 = true → s.portExists (portArg (wd p.words 0)) = true → Tab.sorted s.ports = true →
    let q := portArg (wd p.words 0)
    ∃ u, Answers (.fwdCutMode p) s 0x0308 p u [pack [(31, 1), (0, q)], w32 (fld (wd p.words 1) 7 0)] ∧ u.keeps (s.accepted 0x0308 p) [.ports] ∧
      u.port q = { s.port q with cut := fld (wd p.words 1) 7 0 } ∧ ∀ k, k ≠ q → u.port k = s.port k) ∧
  (∀ s p, s.accepts 0x0309 (lenIs 6) p = true → bit (wd p.words 0) 31 = true → Tab.sorted s.fwd.punts = true →
    let k := fld (wd p.words 0) 5 0
    let a := wd p.words 1
    ∃ u r, Answers (.fwdPuntRule p) s 0x0309 p u r ∧ r.length = 6 ∧ u.keeps (s.accepted 0x0309 p) [.fwd] ∧ u.puntRule k =
      { action := fld a 1 0, inPort := portOrNone (fld a 14 8), daAny := bit a 16, etypeAny := bit a 17, protoAny := bit a 18, dportAny := bit a 19,
        da := macOf (wd p.words 2) (wd p.words 3), etype := fld (wd p.words 3) 15 0, proto := fld (wd p.words 4) 7 0,
        dport := fld (wd p.words 4) 31 16, hits := 0 } ∧
      (∀ j, j ≠ k → u.puntRule j = s.puntRule j) ∧ u.fwd = { s.fwd with punts := u.fwd.punts }) ∧
  (∀ s p, s.accepts 0x0340 (lenIs 2) p = true → bit (wd p.words 0) 31 = true → bit (wd p.words 0) 30 = false →
    s.portExists (min 103 (fld (wd p.words 0) 6 0)) = true → Tab.sorted s.buf.mins = true →
    let q := min 103 (fld (wd p.words 0) 6 0)
    let j := min 8 (fld (wd p.words 0) 11 8)
    ∃ u r, Answers (.bufMinSet p) s 0x0340 p u r ∧ r.length = 3 ∧ u.keeps (s.accepted 0x0340 p) [.buf] ∧
      u.minOf q j = min (min 16384 (fld (wd p.words 1) 15 0)) (190208 - s.buf.poolSize - (s.minSum - s.minOf q j)) ∧
      (∀ x y, y < 9 → (x, y) ≠ (q, j) → u.minOf x y = s.minOf x y) ∧ u.buf.poolSize = s.buf.poolSize ∧ u.buf.copies = s.buf.copies) ∧
  (∀ s p, s.accepts 0x0341 (lenIs 3) p = true → bit (wd p.words 0) 31 = true →
    let b := s.accepted 0x0341 p
    ∃ r, Answers (.bufPoolSet p) s 0x0341 p { b with buf := { b.buf with
      poolSize := min (fld (wd p.words 0) 17 0) (190208 - s.minSum), alpha := (wd p.words 1).toNat, alphaSpark := fld (wd p.words 2) 3 0 } } r ∧
      r.length = 3) ∧
  (∀ s p, s.accepts 0x0342 (lenIs 1) p = true →
    let b := s.accepted 0x0342 p
    ∃ r, Answers (.bufOccupancy p) s 0x0342 p { b with buf := { b.buf with poolPeak := s.poolUsed } } r ∧ wd r 1 = w32 s.poolUsed ∧ wd r 2 = w32 s.buf.poolPeak ∧
    r.length = (if fld (wd p.words 0) 6 0 < 104 then 24 else 6))

/-- A port that is not UP, or not in service, takes no frame. A frame that ends below 64 bytes is counted as a runt and leaves nothing behind;
a whole frame outside the spark class leaves copies only for ports other than its own, each queued, and a spark match leaves such copies
in the spark queue that cut through. A spark frame whose key fails, and a decided frame whose FCS proves bad, lose every copy and no other
frame loses one. A DIRECT insert frame leaves its queue and is admitted or refused on its one port; ageing removes the dynamic entries not
hit. Where the spec leaves a point open, the clauses rest on the model's reading or choice (log entries 20, 36, 37, 38, 70, 71, 72, 73).
Completes: frameTriggerByte, sparkMatch, sparkKeyCheckFail, frameLastByte, fdbAgeSweep, insertFrame (R139, R142, R177, R186, R192, R193,
R196, R198, R201, R206, R224, R225). -/
def Obligations.FramesIn : Prop :=
  (∀ (s : State) (p : Nat) (b : List Byte) (e : Option Bool) (r : Raw), s.receives p = false →
    exec (.frameTriggerByte p b e r) s = .next s ∧ exec (.sparkMatch p b r) s = .next s) ∧
  (∀ (s : State) (p : Nat) (b : List Byte) (ok : Bool) (l : List Nat), s.arriving p = none →
    exec (.frameLastByte p b ok l) s = .next s ∧ exec (.sparkKeyCheckFail p b) s = .next s) ∧
  (∀ (s : State) (p : Nat) (b : List Byte) (ok : Bool) (r : Raw), p < 104 → s.receives p = true → s.arriving p = none → s.sparkFind p b = none →
    (∀ f ∈ s.buf.frames, f.id < s.buf.nextId) → (∀ c ∈ s.buf.copies, c.frame < s.buf.nextId) → (∀ x ∈ s.buf.punted, x.frame < s.buf.nextId) →
    (∀ e ∈ s.buf.paths, e.2.frame < s.buf.nextId) → Completes (.frameTriggerByte p b (some ok) r) s (fun t => t.buf.nextId = s.buf.nextId + 1 ∧
      (∃ l, t.buf.copies = s.buf.copies ++ l ∧ ∀ c ∈ l, c.frame = s.buf.nextId ∧ c.port ≠ p ∧ c.st = .queued) ∧
      (b.length < 64 → Tab.sorted s.ports = true → t.buf = { s.buf with nextId := s.buf.nextId + 1 } ∧ t.keeps s [.buf, .ports, .cnt] ∧
        t.port p = { s.port p with runt := inc16 (s.port p).runt } ∧ ∀ q, q ≠ p → t.port q = s.port q))) ∧
  (∀ (s : State) (p : Nat) (b : List Byte) (r : Raw), p < 104 → s.arriving p ≠ none ∨ s.sparkFind p b = none → exec (.sparkMatch p b r) s = .next s) ∧
  (∀ (s : State) (p : Nat) (b : List Byte) (r : Raw) (e : Stream), p < 104 → s.receives p = true → s.arriving p = none → s.sparkFind p b = some e →
    (∀ c ∈ s.buf.copies, c.frame < s.buf.nextId) → Completes (.sparkMatch p b r) s (fun t => t.buf.nextId = s.buf.nextId + 1 ∧
      ∃ l, t.buf.copies = s.buf.copies ++ l ∧ ∀ c ∈ l, c.frame = s.buf.nextId ∧ c.port ≠ p ∧ c.st = .queued ∧ c.queue = 8 ∧ c.cut = true)) ∧
  (∀ (s : State) (p : Nat) (b : List Byte) (f : Frame) (v : SparkView), p < 104 → s.arriving p = some f → f.spark = some v → f.punted = false →
    (State.sparkKeyOk v p (parseHdr f.hsrIn b) = true → exec (.sparkKeyCheckFail p b) s = .next s) ∧
    (State.sparkKeyOk v p (parseHdr f.hsrIn b) = false → Completes (.sparkKeyCheckFail p b) s (fun t =>
      t.buf.copies = s.buf.copies.filter (fun c => decide (c.frame ≠ f.id)) ∧ t.keeps s [.buf, .cnt, .out, .free]))) ∧
  (∀ (s : State) (p : Nat) (b : List Byte) (f : Frame) (l : List Nat), p < 104 → s.arriving p = some f → s.frame? f.id = some f → f.decided = true →
    f.spark = none → 64 ≤ b.length → b.length ≤ (s.port p).maxFrame → Completes (.frameLastByte p b false l) s (fun t =>
      t.buf.copies = s.buf.copies.filter (fun c => decide (c.frame ≠ f.id)) ∧ t.keeps s [.buf, .cnt, .out, .free])) ∧
  (∀ (s : State) (q : Nat), s.dpUp = false ∨ s.popInsert q = none → exec (.insertFrame q) s = .next s) ∧
  (∀ (s : State) (i : Ins) (l : List Ins), s.dpUp = true → s.buf.iqTime = i :: l → i.lookup = false → s.takesEgress (min 103 i.port) = true →
    (∀ f ∈ s.buf.frames, f.id < s.buf.nextId) → (∀ c ∈ s.buf.copies, c.frame < s.buf.nextId) → (∀ x ∈ s.buf.punted, x.frame < s.buf.nextId) →
    let p := min 103 i.port
    let n := cellsOf (withFcs (padFrame i.bytes)).length
    Completes (.insertFrame 0) s (fun t => t.keeps s [.buf, .cnt, .hst] ∧ t.buf.iqTime = l ∧ t.buf.nextId = s.buf.nextId + 1 ∧
      (s.admits p (min 8 i.cls) n = true → t.buf.admitDrops = s.buf.admitDrops ∧ t.buf.copies = s.buf.copies ++ [{
        frame := s.buf.nextId, port := p, queue := min 8 i.cls, charge := n, st := .queued, mark := i.mark, insIdx := i.insIdx }]) ∧
      (s.admits p (min 8 i.cls) n = false → t.buf.copies = s.buf.copies ∧ t.admitDropsOf p (min 8 i.cls) = inc32 (s.admitDropsOf p (min 8 i.cls))))) ∧
  (∀ s : State, s.fwd.ageEn = false → exec .fdbAgeSweep s = .next s) ∧
  (∀ s : State, s.fwd.ageEn = true → Completes .fdbAgeSweep s (fun t => t.keeps s [.fwd] ∧ t.fwd = { s.fwd with fdb := t.fwd.fdb } ∧
    ∀ k e, (k, e) ∈ t.fwd.fdb ↔ ((k, e) ∈ s.fwd.fdb ∧ e.static = true) ∨ (e.static = false ∧ e.hit = false ∧ (k, { e with hit := true }) ∈ s.fwd.fdb)))

/-- An egress that is free on an UP port whose lanes are awake selects the oldest waiting copy of the spark queue, then of classes 7 down to
0, and sends it, with a transmit stamp while the timing plane is in service; otherwise nothing is selected. A copy whose last segment is
read leaves as one frame, its reference is released, and a frame still arriving is not ended by it. Where the spec leaves a point open,
the clauses rest on the model's reading or choice (log entries 20, 25). Completes: frameEgressSelect, frameTxEnd (R191, R230, R197, R119). -/
def Obligations.FramesOut : Prop :=
  (∀ (s : State) (p : Nat) (r : Raw), p < 104 → s.dpUp = false ∨ (s.port p).st ≠ .up ∨ s.portExists p = false ∨
    s.buf.copies.any (fun c => decide (c.port = p) && decide (c.st = CopySt.sending)) = true ∨
    (portLanes p).any (fun l => decide ((s.lane l).doze ≠ .awake)) = true ∨ s.nextCopy p = none → exec (.frameEgressSelect p r) s = .next s) ∧
  (∀ (s : State) (p : Nat) (r : Raw) (c : Copy), p < 104 → s.dpUp = true → (s.port p).st = .up → s.portExists p = true →
    s.buf.copies.any (fun c => decide (c.port = p) && decide (c.st = CopySt.sending)) = false →
    (portLanes p).any (fun l => decide ((s.lane l).doze ≠ .awake)) = false → s.nextCopy p = some c → c.mark = .none →
    exec (.frameEgressSelect p r) s = .next (s.setCopy c { c with
      st := .sending,
      txStamp := if s.tpUp then
        some (s.txStamp (State.rawOn p r) (egressTicks (s.lane ((portLanes p).headD 0)).rate (decide (96 ≤ p)) (s.fecOf p))) else none, missed := false, rates := (List.range 8).map (fun n => (s.tb n).rateTotal) })) ∧
  (∀ (s : State) (p : Nat) (c : Copy), s.nextCopy p = some c → c ∈ s.buf.copies ∧ c.port = p ∧ c.st = .queued ∧
    ∀ d ∈ s.buf.copies, d.port = p → d.st = .queued → d.queue ≤ 8 → d.queue ≤ c.queue) ∧
  (∀ (s : State) (p : Nat) (o : Option Int), p < 104 →
    s.buf.copies.find? (fun c => decide (c.port = p) && decide (c.st = CopySt.sending)) = none → exec (.frameTxEnd p o) s = .next s) ∧
  (∀ (s : State) (p : Nat) (o : Option Int) (c : Copy) (f : Frame), p < 104 →
    s.buf.copies.find? (fun c => decide (c.port = p) && decide (c.st = CopySt.sending)) = some c → s.frame? c.frame = some f →
    (f.ended = false → exec (.frameTxEnd p o) s = .next s) ∧
    (f.ended = true → c.mark = .none → o = none → c.insIdx = none → Completes (.frameTxEnd p o) s (fun t => t.keeps s [.out, .buf, .cnt] ∧
      (∃ b, t.out = s.out ++ [.frame p b (!c.missed)]) ∧ t.buf.copies = s.buf.copies.erase c)))

/-- SYS.NOP takes LEN 0: accepted, it has no effect and replies OK with LEN 0; with another LEN it is answered BAD_LENGTH with the LEN it
takes. Completes: sysNop (R92). -/
def Obligations.NopAnswers : Prop :=
  (∀ s p, s.accepts 0x0100 (lenIs 0) p = true → p.words = [] ∧ Answers (.sysNop p) s 0x0100 p (s.accepted 0x0100 p) []) ∧
  (∀ s p, s.accepts 0x0100 (fun _ => none) p = true → p.words ≠ [] →
    exec (.sysNop p) s = .next ((s.accepted 0x0100 p).err (s.ctxOf 0x0100 p) 0x0011 0))

/-- SEC.SEQ_RESET takes one word: accepted, it frees the replay entries of SRC_ID, or every entry with ALL 1, frees no other, and replies with
their number. Completes: secSeqReset (R582). -/
def Obligations.SeqReset : Prop :=
  ∀ s p, s.accepts 0x0F03 (lenIs 1) p = true →
    let a := s.accepted 0x0F03 p
    p.words.length = 1 ∧ ∃ u, Answers (.secSeqReset p) s 0x0F03 p u [w32 (a.axg.replay.length - u.axg.replay.length)] ∧
      u = { a with axg := { a.axg with replay := u.axg.replay } } ∧
      (bit (wd p.words 0) 24 = true → u.axg.replay = []) ∧
      (bit (wd p.words 0) 24 = false → u.axg.replay = a.axg.replay.filter (fun r => decide (r.srcId ≠ fld (wd p.words 0) 17 0)))

/-- A copy with charge n for queue (p, q) is admitted when Q + n is within MIN, or when U + D is within POOL_SIZE and Q + n - MIN within the
threshold of the rest of the pool (the threshold factor as its 4-bit code in integers, R226); admitted, Q rises by n and U by D; otherwise
it is dropped and counted in ADMIT_DROPS of its queue and no other (R225). -/
def Obligations.AdmissionTest : Prop :=
  ∀ (s : State) (c : Copy), c.queue < 9 →
    let n := c.charge
    let q := s.qOf c.port c.queue
    let m := s.minOf c.port c.queue
    let d := q + n - max q m
    let k := s.alphaOf c.queue
    let ok := q + n ≤ m ∨ (k ≠ 0 ∧ s.poolUsed + d ≤ s.buf.poolSize ∧ (q + n - m) * 256 ≤ 2 ^ k * (s.buf.poolSize - s.poolUsed))
    (ok → (s.admitCopy c).buf.copies = s.buf.copies ++ [c] ∧ (s.admitCopy c).qOf c.port c.queue = q + n ∧ (s.admitCopy c).poolUsed = s.poolUsed + d ∧
      (∀ x y, (x, y) ≠ (c.port, c.queue) → (s.admitCopy c).qOf x y = s.qOf x y) ∧ (s.admitCopy c).buf.admitDrops = s.buf.admitDrops) ∧
    (¬ok → (s.admitCopy c).buf.copies = s.buf.copies ∧ (s.admitCopy c).poolUsed = s.poolUsed ∧ (Tab.sorted s.buf.admitDrops = true →
      (s.admitCopy c).admitDropsOf c.port c.queue = inc32 (s.admitDropsOf c.port c.queue) ∧
      ∀ x y, y < 9 → (x, y) ≠ (c.port, c.queue) → (s.admitCopy c).admitDropsOf x y = s.admitDropsOf x y))
end

