-- ==== Sys2Proof/Laws/Accept.lean ====
section
/-! SUPPORT. What the front of every command does once: an accepted packet's body acts, in one context, on one state. -/

namespace Sys2Proof.Machine

open Sys2Proof

theorem authCheck_frame (s : State) (op : Nat) (p : Pkt) :
    (s.authCheck op p).s = { s with axg := { s.axg with replay := (s.authCheck op p).s.axg.replay } } := by
  unfold State.authCheck
  dsimp only
  repeat' (first | rfl | split)

/-- Checking a packet changes the replay table alone (R63). -/
theorem segAuth_frame (s : State) (op : Nat) (p : Pkt) :
    (s.segAuth op p).s = { s with axg := { s.axg with replay := (s.segAuth op p).s.axg.replay } } := by
  unfold State.segAuth
  split
  · exact authCheck_frame s op p
  · rfl

theorem segAuth_partials (s : State) (op : Nat) (p : Pkt) : (s.segAuth op p).s.axg.partials = s.axg.partials := by
  rw [segAuth_frame]

/-- What the register operations that wait can change: the flags of PLANE_STATUS and the copy of the host's registers (R443). -/
theorem applyReg_frame (l : List RegOp) (s : State) :
    ∃ a b c d, l.foldl State.applyReg s =
      { s with clk := { s.clk with tpFault := a, mbxEvtLost := b, pqRegEvtLost := c }, hst := { s.hst with copy := d } } := by
  induction l generalizing s with
  | nil => exact ⟨_, _, _, _, rfl⟩
  | cons o t ih =>
    obtain ⟨a, b, c, d, h⟩ := ih (s.applyReg o)
    rw [List.foldl_cons, h]
    cases o <;> exact ⟨_, _, _, _, rfl⟩

theorem drainReg_frame (s : State) :
    ∃ a b c d, s.drainReg =
      { s with
        clk := { s.clk with tpFault := a, mbxEvtLost := b, pqRegEvtLost := c }
        hst := { s.hst with copy := d }
        buf := { s.buf with iqReg := [], regWait := [] } } := by
  obtain ⟨a, b, c, d, h⟩ := applyReg_frame (s.buf.iqReg ++ s.buf.regWait) { s with buf := { s.buf with iqReg := [], regWait := [] } }
  exact ⟨a, b, c, d, h⟩

/-- What acceptance changes: the replay table and what the register operations before a data-plane command change. -/
theorem accepted_frame (s : State) (op : Nat) (p : Pkt) :
    ∃ r a b c d i w, s.accepted op p =
      { s with
        axg := { s.axg with replay := r }
        clk := { s.clk with tpFault := a, mbxEvtLost := b, pqRegEvtLost := c }
        hst := { s.hst with copy := d }
        buf := { s.buf with iqReg := i, regWait := w } } := by
  unfold State.accepted
  split
  · obtain ⟨a, b, c, d, h⟩ := drainReg_frame (s.segAuth op p).s
    rw [h, segAuth_frame]
    exact ⟨_, _, _, _, _, _, _, rfl⟩
  · rw [segAuth_frame]
    exact ⟨_, _, _, _, _, _, _, rfl⟩

/-- Past every check a command's body acts (R56). -/
theorem execute_body {s : State} {len : LenRule} {c : Ctx} {ws : List Word} (body : Body) (hd : opDefined c.op = true)
    (hm : opManager c.op = true → s.isMi = true) (hc : s.classCheck (Pkt.cls c.op ws) c.via c.authed = none)
    (hl : s.lcCheck c.op ws c.via = none) (hn : ws.length ≤ 1023) (hlen : len ws = none)
    (hmir : s.mirrors c.op (Pkt.cls c.op ws) c.via = false) (ht : timingOp c.op = true → s.mbxOpen = true) (hbeh : s.behindOne c = false)
    (hb : s.runningBlock c.op ws = none) :
    s.execute len body c ws = body c ws (if dataOp c.op then s.drainReg else s) := by
  have h1 : ¬ (opManager c.op = true ∧ s.isMi = false) := fun ⟨a, b⟩ => by simp [hm a] at b
  have h2 : ¬ (timingOp c.op = true ∧ s.mbxOpen = false) := fun ⟨a, b⟩ => by simp [ht a] at b
  have h3 : ¬ 1023 < ws.length := by omega
  simp only [State.execute, State.perform, State.performNow, hd, if_neg h1, if_neg h2, if_neg h3, hc, hl, hlen, hmir, hb, hbeh,
    Bool.false_eq_true, Bool.true_eq_false, if_false]

/-- An accepted packet is performed by its body. -/
theorem receive_accepted {s : State} {len : LenRule} {op : Nat} {p : Pkt} (body : Body) (h : s.accepts op len p = true) :
    s.receive len body op p = body (s.ctxOf op p) p.words (s.accepted op p) := by
  simp only [State.accepts, Bool.and_eq_true, decide_eq_true_eq, Bool.not_eq_true', Option.isNone_iff_eq_none, List.all_eq_true] at h
  obtain ⟨⟨⟨⟨⟨⟨⟨⟨⟨⟨⟨⟨⟨⟨⟨h1, h2⟩, h3⟩, h4⟩, h5⟩, h6⟩, h7⟩, h8⟩, h9⟩, h10⟩, h11⟩, h12⟩, h13⟩, h14⟩, h15⟩, h16⟩ := h
  have hf := segAuth_frame s op p
  have hmine : s.axg.partials.find? (Partial.continues op p) = none := by
    simp only [List.find?_eq_none]; intro x hx; simp [h5 x hx]
  have hfilt : (s.segAuth op p).s.axg.partials.filter (fun x => !Partial.continues op p x) = (s.segAuth op p).s.axg.partials := by
    rw [segAuth_partials, List.filter_eq_self]; intro x hx; simp [h5 x hx]
  have hmi : (s.segAuth op p).s.isMi = s.isMi := by rw [hf]; rfl
  have hjobs : (s.segAuth op p).s.axg.jobs = s.axg.jobs := by rw [hf]
  have hopen : (s.segAuth op p).s.mbxOpen = s.mbxOpen := by rw [hf]; rfl
  have hj : (joinSegment none op p (s.segAuth op p)).fail = none := by simp [joinSegment, h6]
  have hctx : (s.segAuth op p).s.devId = s.devId ∧ (s.segAuth op p).s.mram.bootEpoch = s.mram.bootEpoch := by
    rw [hf]; exact ⟨rfl, rfl⟩
  have hacc : s.accept len body op p = (s.segAuth op p).s.execute len body (s.ctxOf op p) p.words := by
    simp only [State.accept, hmine, hj, hfilt]
    simp only [State.devId] at hctx
    simp [joinSegment, State.ctxOf, State.devId, hctx.1, hctx.2, h6]
  rw [State.receive, if_pos ⟨h1, h2⟩, State.taken, if_neg (by simp [h3]), if_neg (by simp [h4]), hacc]
  have hm : opManager op = true → s.isMi = true := fun a => by simpa [a] using h8
  have ht : timingOp op = true → s.mbxOpen = true := fun a => by simpa [a] using h14
  have hbeh : (s.segAuth op p).s.behindOne (s.ctxOf op p) = false := by
    rw [State.behindOne, hjobs]
    exact h15
  exact execute_body body h7 (fun a => by rw [hmi]; exact hm a) h9 h10 h11 h12 h13 (fun a => by rw [hopen]; exact ht a) hbeh h16

/-! ### What acceptance leaves as it was: everything but the replay table and what the waiting register operations change -/

@[simp] theorem State.accepted_pending (s : State) (op : Nat) (p : Pkt) : (s.accepted op p).pending = s.pending := by
  obtain ⟨_, _, _, _, _, _, _, h⟩ := accepted_frame s op p; rw [h]
@[simp] theorem State.accepted_free (s : State) (op : Nat) (p : Pkt) : (s.accepted op p).free = s.free := by
  obtain ⟨_, _, _, _, _, _, _, h⟩ := accepted_frame s op p; rw [h]
@[simp] theorem State.accepted_out (s : State) (op : Nat) (p : Pkt) : (s.accepted op p).out = s.out := by
  obtain ⟨_, _, _, _, _, _, _, h⟩ := accepted_frame s op p; rw [h]
@[simp] theorem State.accepted_fused (s : State) (op : Nat) (p : Pkt) : (s.accepted op p).fused = s.fused := by
  obtain ⟨_, _, _, _, _, _, _, h⟩ := accepted_frame s op p; rw [h]
@[simp] theorem State.accepted_tamper (s : State) (op : Nat) (p : Pkt) : (s.accepted op p).tamper = s.tamper := by
  obtain ⟨_, _, _, _, _, _, _, h⟩ := accepted_frame s op p; rw [h]
@[simp] theorem State.accepted_mram (s : State) (op : Nat) (p : Pkt) : (s.accepted op p).mram = s.mram := by
  obtain ⟨_, _, _, _, _, _, _, h⟩ := accepted_frame s op p; rw [h]
@[simp] theorem State.accepted_start (s : State) (op : Nat) (p : Pkt) : (s.accepted op p).start = s.start := by
  obtain ⟨_, _, _, _, _, _, _, h⟩ := accepted_frame s op p; rw [h]
@[simp] theorem State.accepted_alarms (s : State) (op : Nat) (p : Pkt) : (s.accepted op p).alarms = s.alarms := by
  obtain ⟨_, _, _, _, _, _, _, h⟩ := accepted_frame s op p; rw [h]
@[simp] theorem State.accepted_cru (s : State) (op : Nat) (p : Pkt) : (s.accepted op p).cru = s.cru := by
  obtain ⟨_, _, _, _, _, _, _, h⟩ := accepted_frame s op p; rw [h]
@[simp] theorem State.accepted_led (s : State) (op : Nat) (p : Pkt) : (s.accepted op p).led = s.led := by
  obtain ⟨_, _, _, _, _, _, _, h⟩ := accepted_frame s op p; rw [h]
@[simp] theorem State.accepted_sec (s : State) (op : Nat) (p : Pkt) : (s.accepted op p).sec = s.sec := by
  obtain ⟨_, _, _, _, _, _, _, h⟩ := accepted_frame s op p; rw [h]
@[simp] theorem State.accepted_mem (s : State) (op : Nat) (p : Pkt) : (s.accepted op p).mem = s.mem := by
  obtain ⟨_, _, _, _, _, _, _, h⟩ := accepted_frame s op p; rw [h]
@[simp] theorem State.accepted_lanes (s : State) (op : Nat) (p : Pkt) : (s.accepted op p).lanes = s.lanes := by
  obtain ⟨_, _, _, _, _, _, _, h⟩ := accepted_frame s op p; rw [h]
@[simp] theorem State.accepted_form (s : State) (op : Nat) (p : Pkt) : (s.accepted op p).form = s.form := by
  obtain ⟨_, _, _, _, _, _, _, h⟩ := accepted_frame s op p; rw [h]
@[simp] theorem State.accepted_ports (s : State) (op : Nat) (p : Pkt) : (s.accepted op p).ports = s.ports := by
  obtain ⟨_, _, _, _, _, _, _, h⟩ := accepted_frame s op p; rw [h]
@[simp] theorem State.accepted_rings (s : State) (op : Nat) (p : Pkt) : (s.accepted op p).rings = s.rings := by
  obtain ⟨_, _, _, _, _, _, _, h⟩ := accepted_frame s op p; rw [h]
@[simp] theorem State.accepted_nodes (s : State) (op : Nat) (p : Pkt) : (s.accepted op p).nodes = s.nodes := by
  obtain ⟨_, _, _, _, _, _, _, h⟩ := accepted_frame s op p; rw [h]
@[simp] theorem State.accepted_nodeFull (s : State) (op : Nat) (p : Pkt) : (s.accepted op p).nodeFull = s.nodeFull := by
  obtain ⟨_, _, _, _, _, _, _, h⟩ := accepted_frame s op p; rw [h]
@[simp] theorem State.accepted_bypass (s : State) (op : Nat) (p : Pkt) : (s.accepted op p).bypass = s.bypass := by
  obtain ⟨_, _, _, _, _, _, _, h⟩ := accepted_frame s op p; rw [h]
@[simp] theorem State.accepted_fwd (s : State) (op : Nat) (p : Pkt) : (s.accepted op p).fwd = s.fwd := by
  obtain ⟨_, _, _, _, _, _, _, h⟩ := accepted_frame s op p; rw [h]
@[simp] theorem State.accepted_cnt (s : State) (op : Nat) (p : Pkt) : (s.accepted op p).cnt = s.cnt := by
  obtain ⟨_, _, _, _, _, _, _, h⟩ := accepted_frame s op p; rw [h]
@[simp] theorem State.accepted_tbs (s : State) (op : Nat) (p : Pkt) : (s.accepted op p).tbs = s.tbs := by
  obtain ⟨_, _, _, _, _, _, _, h⟩ := accepted_frame s op p; rw [h]
@[simp] theorem State.accepted_hcfg (s : State) (op : Nat) (p : Pkt) : (s.accepted op p).hcfg = s.hcfg := by
  obtain ⟨_, _, _, _, _, _, _, h⟩ := accepted_frame s op p; rw [h]
@[simp] theorem State.accepted_hier (s : State) (op : Nat) (p : Pkt) : (s.accepted op p).hier = s.hier := by
  obtain ⟨_, _, _, _, _, _, _, h⟩ := accepted_frame s op p; rw [h]
@[simp] theorem State.accepted_workers (s : State) (op : Nat) (p : Pkt) : (s.accepted op p).workers = s.workers := by
  obtain ⟨_, _, _, _, _, _, _, h⟩ := accepted_frame s op p; rw [h]
@[simp] theorem State.accepted_pcfg (s : State) (op : Nat) (p : Pkt) : (s.accepted op p).pcfg = s.pcfg := by
  obtain ⟨_, _, _, _, _, _, _, h⟩ := accepted_frame s op p; rw [h]
@[simp] theorem State.accepted_prun (s : State) (op : Nat) (p : Pkt) : (s.accepted op p).prun = s.prun := by
  obtain ⟨_, _, _, _, _, _, _, h⟩ := accepted_frame s op p; rw [h]
@[simp] theorem State.accepted_sesKeys (s : State) (op : Nat) (p : Pkt) : (s.accepted op p).sesKeys = s.sesKeys := by
  obtain ⟨_, _, _, _, _, _, _, h⟩ := accepted_frame s op p; rw [h]
@[simp] theorem State.accepted_ptp (s : State) (op : Nat) (p : Pkt) : (s.accepted op p).ptp = s.ptp := by
  obtain ⟨_, _, _, _, _, _, _, h⟩ := accepted_frame s op p; rw [h]
@[simp] theorem State.accepted_pal (s : State) (op : Nat) (p : Pkt) : (s.accepted op p).pal = s.pal := by
  obtain ⟨_, _, _, _, _, _, _, h⟩ := accepted_frame s op p; rw [h]
@[simp] theorem State.accepted_refs (s : State) (op : Nat) (p : Pkt) : (s.accepted op p).refs = s.refs := by
  obtain ⟨_, _, _, _, _, _, _, h⟩ := accepted_frame s op p; rw [h]
@[simp] theorem State.accepted_hams (s : State) (op : Nat) (p : Pkt) : (s.accepted op p).hams = s.hams := by
  obtain ⟨_, _, _, _, _, _, _, h⟩ := accepted_frame s op p; rw [h]
@[simp] theorem State.accepted_chans (s : State) (op : Nat) (p : Pkt) : (s.accepted op p).chans = s.chans := by
  obtain ⟨_, _, _, _, _, _, _, h⟩ := accepted_frame s op p; rw [h]
@[simp] theorem State.accepted_twinRpl (s : State) (op : Nat) (p : Pkt) : (s.accepted op p).twinRpl = s.twinRpl := by
  obtain ⟨_, _, _, _, _, _, _, h⟩ := accepted_frame s op p; rw [h]
@[simp] theorem State.accepted_clk_tick (s : State) (op : Nat) (p : Pkt) : (s.accepted op p).clk.tick = s.clk.tick := by
  obtain ⟨_, _, _, _, _, _, _, h⟩ := accepted_frame s op p; rw [h]
@[simp] theorem State.accepted_clk_rootLock (s : State) (op : Nat) (p : Pkt) : (s.accepted op p).clk.rootLock = s.clk.rootLock := by
  obtain ⟨_, _, _, _, _, _, _, h⟩ := accepted_frame s op p; rw [h]
@[simp] theorem State.accepted_clk_xoPresent (s : State) (op : Nat) (p : Pkt) : (s.accepted op p).clk.xoPresent = s.clk.xoPresent := by
  obtain ⟨_, _, _, _, _, _, _, h⟩ := accepted_frame s op p; rw [h]
@[simp] theorem State.accepted_clk_xoLoss (s : State) (op : Nat) (p : Pkt) : (s.accepted op p).clk.xoLoss = s.clk.xoLoss := by
  obtain ⟨_, _, _, _, _, _, _, h⟩ := accepted_frame s op p; rw [h]
@[simp] theorem State.accepted_clk_rootClamp (s : State) (op : Nat) (p : Pkt) : (s.accepted op p).clk.rootClamp = s.clk.rootClamp := by
  obtain ⟨_, _, _, _, _, _, _, h⟩ := accepted_frame s op p; rw [h]
@[simp] theorem State.accepted_clk_steer (s : State) (op : Nat) (p : Pkt) : (s.accepted op p).clk.steer = s.clk.steer := by
  obtain ⟨_, _, _, _, _, _, _, h⟩ := accepted_frame s op p; rw [h]
@[simp] theorem State.accepted_clk_steerTo (s : State) (op : Nat) (p : Pkt) : (s.accepted op p).clk.steerTo = s.clk.steerTo := by
  obtain ⟨_, _, _, _, _, _, _, h⟩ := accepted_frame s op p; rw [h]
@[simp] theorem State.accepted_clk_tpUp (s : State) (op : Nat) (p : Pkt) : (s.accepted op p).clk.tpUp = s.clk.tpUp := by
  obtain ⟨_, _, _, _, _, _, _, h⟩ := accepted_frame s op p; rw [h]
@[simp] theorem State.accepted_clk_dpUp (s : State) (op : Nat) (p : Pkt) : (s.accepted op p).clk.dpUp = s.clk.dpUp := by
  obtain ⟨_, _, _, _, _, _, _, h⟩ := accepted_frame s op p; rw [h]
@[simp] theorem State.accepted_clk_mgtRestarts (s : State) (op : Nat) (p : Pkt) : (s.accepted op p).clk.mgtRestarts = s.clk.mgtRestarts := by
  obtain ⟨_, _, _, _, _, _, _, h⟩ := accepted_frame s op p; rw [h]
@[simp] theorem State.accepted_hst_pringBase (s : State) (op : Nat) (p : Pkt) : (s.accepted op p).hst.pringBase = s.hst.pringBase := by
  obtain ⟨_, _, _, _, _, _, _, h⟩ := accepted_frame s op p; rw [h]
@[simp] theorem State.accepted_hst_pringSize (s : State) (op : Nat) (p : Pkt) : (s.accepted op p).hst.pringSize = s.hst.pringSize := by
  obtain ⟨_, _, _, _, _, _, _, h⟩ := accepted_frame s op p; rw [h]
@[simp] theorem State.accepted_hst_pbufSize (s : State) (op : Nat) (p : Pkt) : (s.accepted op p).hst.pbufSize = s.hst.pbufSize := by
  obtain ⟨_, _, _, _, _, _, _, h⟩ := accepted_frame s op p; rw [h]
@[simp] theorem State.accepted_hst_iringBase (s : State) (op : Nat) (p : Pkt) : (s.accepted op p).hst.iringBase = s.hst.iringBase := by
  obtain ⟨_, _, _, _, _, _, _, h⟩ := accepted_frame s op p; rw [h]
@[simp] theorem State.accepted_hst_iringSize (s : State) (op : Nat) (p : Pkt) : (s.accepted op p).hst.iringSize = s.hst.iringSize := by
  obtain ⟨_, _, _, _, _, _, _, h⟩ := accepted_frame s op p; rw [h]
@[simp] theorem State.accepted_hst_dmaWb (s : State) (op : Nat) (p : Pkt) : (s.accepted op p).hst.dmaWb = s.hst.dmaWb := by
  obtain ⟨_, _, _, _, _, _, _, h⟩ := accepted_frame s op p; rw [h]
@[simp] theorem State.accepted_hst_puntVec (s : State) (op : Nat) (p : Pkt) : (s.accepted op p).hst.puntVec = s.hst.puntVec := by
  obtain ⟨_, _, _, _, _, _, _, h⟩ := accepted_frame s op p; rw [h]
@[simp] theorem State.accepted_hst_puntVecEn (s : State) (op : Nat) (p : Pkt) : (s.accepted op p).hst.puntVecEn = s.hst.puntVecEn := by
  obtain ⟨_, _, _, _, _, _, _, h⟩ := accepted_frame s op p; rw [h]
@[simp] theorem State.accepted_hst_insVec (s : State) (op : Nat) (p : Pkt) : (s.accepted op p).hst.insVec = s.hst.insVec := by
  obtain ⟨_, _, _, _, _, _, _, h⟩ := accepted_frame s op p; rw [h]
@[simp] theorem State.accepted_hst_insVecEn (s : State) (op : Nat) (p : Pkt) : (s.accepted op p).hst.insVecEn = s.hst.insVecEn := by
  obtain ⟨_, _, _, _, _, _, _, h⟩ := accepted_frame s op p; rw [h]
@[simp] theorem State.accepted_hst_puntPi (s : State) (op : Nat) (p : Pkt) : (s.accepted op p).hst.puntPi = s.hst.puntPi := by
  obtain ⟨_, _, _, _, _, _, _, h⟩ := accepted_frame s op p; rw [h]
@[simp] theorem State.accepted_hst_puntCi (s : State) (op : Nat) (p : Pkt) : (s.accepted op p).hst.puntCi = s.hst.puntCi := by
  obtain ⟨_, _, _, _, _, _, _, h⟩ := accepted_frame s op p; rw [h]
@[simp] theorem State.accepted_hst_insPi (s : State) (op : Nat) (p : Pkt) : (s.accepted op p).hst.insPi = s.hst.insPi := by
  obtain ⟨_, _, _, _, _, _, _, h⟩ := accepted_frame s op p; rw [h]
@[simp] theorem State.accepted_hst_insFetch (s : State) (op : Nat) (p : Pkt) : (s.accepted op p).hst.insFetch = s.hst.insFetch := by
  obtain ⟨_, _, _, _, _, _, _, h⟩ := accepted_frame s op p; rw [h]
@[simp] theorem State.accepted_hst_insCi (s : State) (op : Nat) (p : Pkt) : (s.accepted op p).hst.insCi = s.hst.insCi := by
  obtain ⟨_, _, _, _, _, _, _, h⟩ := accepted_frame s op p; rw [h]
@[simp] theorem State.accepted_hst_insDescs (s : State) (op : Nat) (p : Pkt) : (s.accepted op p).hst.insDescs = s.hst.insDescs := by
  obtain ⟨_, _, _, _, _, _, _, h⟩ := accepted_frame s op p; rw [h]
@[simp] theorem State.accepted_hst_msix (s : State) (op : Nat) (p : Pkt) : (s.accepted op p).hst.msix = s.hst.msix := by
  obtain ⟨_, _, _, _, _, _, _, h⟩ := accepted_frame s op p; rw [h]
@[simp] theorem State.accepted_hst_msixPend (s : State) (op : Nat) (p : Pkt) : (s.accepted op p).hst.msixPend = s.hst.msixPend := by
  obtain ⟨_, _, _, _, _, _, _, h⟩ := accepted_frame s op p; rw [h]
@[simp] theorem State.accepted_hst_sbpHold (s : State) (op : Nat) (p : Pkt) : (s.accepted op p).hst.sbpHold = s.hst.sbpHold := by
  obtain ⟨_, _, _, _, _, _, _, h⟩ := accepted_frame s op p; rw [h]
@[simp] theorem State.accepted_hst_snapWords (s : State) (op : Nat) (p : Pkt) : (s.accepted op p).hst.snapWords = s.hst.snapWords := by
  obtain ⟨_, _, _, _, _, _, _, h⟩ := accepted_frame s op p; rw [h]
@[simp] theorem State.accepted_hst_snapPend (s : State) (op : Nat) (p : Pkt) : (s.accepted op p).hst.snapPend = s.hst.snapPend := by
  obtain ⟨_, _, _, _, _, _, _, h⟩ := accepted_frame s op p; rw [h]
@[simp] theorem State.accepted_hst_snapOverrun (s : State) (op : Nat) (p : Pkt) : (s.accepted op p).hst.snapOverrun = s.hst.snapOverrun := by
  obtain ⟨_, _, _, _, _, _, _, h⟩ := accepted_frame s op p; rw [h]
@[simp] theorem State.accepted_hst_snapMissed (s : State) (op : Nat) (p : Pkt) : (s.accepted op p).hst.snapMissed = s.hst.snapMissed := by
  obtain ⟨_, _, _, _, _, _, _, h⟩ := accepted_frame s op p; rw [h]
@[simp] theorem State.accepted_hst_snapLast (s : State) (op : Nat) (p : Pkt) : (s.accepted op p).hst.snapLast = s.hst.snapLast := by
  obtain ⟨_, _, _, _, _, _, _, h⟩ := accepted_frame s op p; rw [h]
@[simp] theorem State.accepted_hst_tap (s : State) (op : Nat) (p : Pkt) : (s.accepted op p).hst.tap = s.hst.tap := by
  obtain ⟨_, _, _, _, _, _, _, h⟩ := accepted_frame s op p; rw [h]
@[simp] theorem State.accepted_hst_bsr (s : State) (op : Nat) (p : Pkt) : (s.accepted op p).hst.bsr = s.hst.bsr := by
  obtain ⟨_, _, _, _, _, _, _, h⟩ := accepted_frame s op p; rw [h]
@[simp] theorem State.accepted_buf_poolSize (s : State) (op : Nat) (p : Pkt) : (s.accepted op p).buf.poolSize = s.buf.poolSize := by
  obtain ⟨_, _, _, _, _, _, _, h⟩ := accepted_frame s op p; rw [h]
@[simp] theorem State.accepted_buf_alpha (s : State) (op : Nat) (p : Pkt) : (s.accepted op p).buf.alpha = s.buf.alpha := by
  obtain ⟨_, _, _, _, _, _, _, h⟩ := accepted_frame s op p; rw [h]
@[simp] theorem State.accepted_buf_alphaSpark (s : State) (op : Nat) (p : Pkt) : (s.accepted op p).buf.alphaSpark = s.buf.alphaSpark := by
  obtain ⟨_, _, _, _, _, _, _, h⟩ := accepted_frame s op p; rw [h]
@[simp] theorem State.accepted_buf_poolPeak (s : State) (op : Nat) (p : Pkt) : (s.accepted op p).buf.poolPeak = s.buf.poolPeak := by
  obtain ⟨_, _, _, _, _, _, _, h⟩ := accepted_frame s op p; rw [h]
@[simp] theorem State.accepted_buf_mins (s : State) (op : Nat) (p : Pkt) : (s.accepted op p).buf.mins = s.buf.mins := by
  obtain ⟨_, _, _, _, _, _, _, h⟩ := accepted_frame s op p; rw [h]
@[simp] theorem State.accepted_buf_admitDrops (s : State) (op : Nat) (p : Pkt) : (s.accepted op p).buf.admitDrops = s.buf.admitDrops := by
  obtain ⟨_, _, _, _, _, _, _, h⟩ := accepted_frame s op p; rw [h]
@[simp] theorem State.accepted_buf_frames (s : State) (op : Nat) (p : Pkt) : (s.accepted op p).buf.frames = s.buf.frames := by
  obtain ⟨_, _, _, _, _, _, _, h⟩ := accepted_frame s op p; rw [h]
@[simp] theorem State.accepted_buf_copies (s : State) (op : Nat) (p : Pkt) : (s.accepted op p).buf.copies = s.buf.copies := by
  obtain ⟨_, _, _, _, _, _, _, h⟩ := accepted_frame s op p; rw [h]
@[simp] theorem State.accepted_buf_punted (s : State) (op : Nat) (p : Pkt) : (s.accepted op p).buf.punted = s.buf.punted := by
  obtain ⟨_, _, _, _, _, _, _, h⟩ := accepted_frame s op p; rw [h]
@[simp] theorem State.accepted_buf_nextId (s : State) (op : Nat) (p : Pkt) : (s.accepted op p).buf.nextId = s.buf.nextId := by
  obtain ⟨_, _, _, _, _, _, _, h⟩ := accepted_frame s op p; rw [h]
@[simp] theorem State.accepted_buf_iqTime (s : State) (op : Nat) (p : Pkt) : (s.accepted op p).buf.iqTime = s.buf.iqTime := by
  obtain ⟨_, _, _, _, _, _, _, h⟩ := accepted_frame s op p; rw [h]
@[simp] theorem State.accepted_buf_iqCmd (s : State) (op : Nat) (p : Pkt) : (s.accepted op p).buf.iqCmd = s.buf.iqCmd := by
  obtain ⟨_, _, _, _, _, _, _, h⟩ := accepted_frame s op p; rw [h]
@[simp] theorem State.accepted_buf_iqHost (s : State) (op : Nat) (p : Pkt) : (s.accepted op p).buf.iqHost = s.buf.iqHost := by
  obtain ⟨_, _, _, _, _, _, _, h⟩ := accepted_frame s op p; rw [h]
@[simp] theorem State.accepted_buf_paths (s : State) (op : Nat) (p : Pkt) : (s.accepted op p).buf.paths = s.buf.paths := by
  obtain ⟨_, _, _, _, _, _, _, h⟩ := accepted_frame s op p; rw [h]
@[simp] theorem State.accepted_buf_pqReg (s : State) (op : Nat) (p : Pkt) : (s.accepted op p).buf.pqReg = s.buf.pqReg := by
  obtain ⟨_, _, _, _, _, _, _, h⟩ := accepted_frame s op p; rw [h]
@[simp] theorem State.accepted_buf_mbxEvt (s : State) (op : Nat) (p : Pkt) : (s.accepted op p).buf.mbxEvt = s.buf.mbxEvt := by
  obtain ⟨_, _, _, _, _, _, _, h⟩ := accepted_frame s op p; rw [h]
@[simp] theorem State.accepted_buf_mbxEvtDrops (s : State) (op : Nat) (p : Pkt) : (s.accepted op p).buf.mbxEvtDrops = s.buf.mbxEvtDrops := by
  obtain ⟨_, _, _, _, _, _, _, h⟩ := accepted_frame s op p; rw [h]
@[simp] theorem State.accepted_buf_mbxRpl (s : State) (op : Nat) (p : Pkt) : (s.accepted op p).buf.mbxRpl = s.buf.mbxRpl := by
  obtain ⟨_, _, _, _, _, _, _, h⟩ := accepted_frame s op p; rw [h]
@[simp] theorem State.accepted_axg_badHdr (s : State) (op : Nat) (p : Pkt) : (s.accepted op p).axg.badHdr = s.axg.badHdr := by
  obtain ⟨_, _, _, _, _, _, _, h⟩ := accepted_frame s op p; rw [h]
@[simp] theorem State.accepted_axg_malformed (s : State) (op : Nat) (p : Pkt) : (s.accepted op p).axg.malformed = s.axg.malformed := by
  obtain ⟨_, _, _, _, _, _, _, h⟩ := accepted_frame s op p; rw [h]
@[simp] theorem State.accepted_axg_authFails (s : State) (op : Nat) (p : Pkt) : (s.accepted op p).axg.authFails = s.axg.authFails := by
  obtain ⟨_, _, _, _, _, _, _, h⟩ := accepted_frame s op p; rw [h]
@[simp] theorem State.accepted_axg_reasmDrop (s : State) (op : Nat) (p : Pkt) : (s.accepted op p).axg.reasmDrop = s.axg.reasmDrop := by
  obtain ⟨_, _, _, _, _, _, _, h⟩ := accepted_frame s op p; rw [h]
@[simp] theorem State.accepted_axg_etype (s : State) (op : Nat) (p : Pkt) : (s.accepted op p).axg.etype = s.axg.etype := by
  obtain ⟨_, _, _, _, _, _, _, h⟩ := accepted_frame s op p; rw [h]
@[simp] theorem State.accepted_axg_mtu (s : State) (op : Nat) (p : Pkt) : (s.accepted op p).axg.mtu = s.axg.mtu := by
  obtain ⟨_, _, _, _, _, _, _, h⟩ := accepted_frame s op p; rw [h]
@[simp] theorem State.accepted_axg_authReq (s : State) (op : Nat) (p : Pkt) : (s.accepted op p).axg.authReq = s.axg.authReq := by
  obtain ⟨_, _, _, _, _, _, _, h⟩ := accepted_frame s op p; rw [h]
@[simp] theorem State.accepted_axg_inbandEn (s : State) (op : Nat) (p : Pkt) : (s.accepted op p).axg.inbandEn = s.axg.inbandEn := by
  obtain ⟨_, _, _, _, _, _, _, h⟩ := accepted_frame s op p; rw [h]
@[simp] theorem State.accepted_axg_groupEn (s : State) (op : Nat) (p : Pkt) : (s.accepted op p).axg.groupEn = s.axg.groupEn := by
  obtain ⟨_, _, _, _, _, _, _, h⟩ := accepted_frame s op p; rw [h]
@[simp] theorem State.accepted_axg_cringBase (s : State) (op : Nat) (p : Pkt) : (s.accepted op p).axg.cringBase = s.axg.cringBase := by
  obtain ⟨_, _, _, _, _, _, _, h⟩ := accepted_frame s op p; rw [h]
@[simp] theorem State.accepted_axg_cringSize (s : State) (op : Nat) (p : Pkt) : (s.accepted op p).axg.cringSize = s.axg.cringSize := by
  obtain ⟨_, _, _, _, _, _, _, h⟩ := accepted_frame s op p; rw [h]
@[simp] theorem State.accepted_axg_rringBase (s : State) (op : Nat) (p : Pkt) : (s.accepted op p).axg.rringBase = s.axg.rringBase := by
  obtain ⟨_, _, _, _, _, _, _, h⟩ := accepted_frame s op p; rw [h]
@[simp] theorem State.accepted_axg_rringSize (s : State) (op : Nat) (p : Pkt) : (s.accepted op p).axg.rringSize = s.axg.rringSize := by
  obtain ⟨_, _, _, _, _, _, _, h⟩ := accepted_frame s op p; rw [h]
@[simp] theorem State.accepted_axg_axgWb (s : State) (op : Nat) (p : Pkt) : (s.accepted op p).axg.axgWb = s.axg.axgWb := by
  obtain ⟨_, _, _, _, _, _, _, h⟩ := accepted_frame s op p; rw [h]
@[simp] theorem State.accepted_axg_axgVec (s : State) (op : Nat) (p : Pkt) : (s.accepted op p).axg.axgVec = s.axg.axgVec := by
  obtain ⟨_, _, _, _, _, _, _, h⟩ := accepted_frame s op p; rw [h]
@[simp] theorem State.accepted_axg_axgVecEn (s : State) (op : Nat) (p : Pkt) : (s.accepted op p).axg.axgVecEn = s.axg.axgVecEn := by
  obtain ⟨_, _, _, _, _, _, _, h⟩ := accepted_frame s op p; rw [h]
@[simp] theorem State.accepted_axg_cmdPi (s : State) (op : Nat) (p : Pkt) : (s.accepted op p).axg.cmdPi = s.axg.cmdPi := by
  obtain ⟨_, _, _, _, _, _, _, h⟩ := accepted_frame s op p; rw [h]
@[simp] theorem State.accepted_axg_cmdCi (s : State) (op : Nat) (p : Pkt) : (s.accepted op p).axg.cmdCi = s.axg.cmdCi := by
  obtain ⟨_, _, _, _, _, _, _, h⟩ := accepted_frame s op p; rw [h]
@[simp] theorem State.accepted_axg_rplPi (s : State) (op : Nat) (p : Pkt) : (s.accepted op p).axg.rplPi = s.axg.rplPi := by
  obtain ⟨_, _, _, _, _, _, _, h⟩ := accepted_frame s op p; rw [h]
@[simp] theorem State.accepted_axg_rplCi (s : State) (op : Nat) (p : Pkt) : (s.accepted op p).axg.rplCi = s.axg.rplCi := by
  obtain ⟨_, _, _, _, _, _, _, h⟩ := accepted_frame s op p; rw [h]
@[simp] theorem State.accepted_axg_wbCi (s : State) (op : Nat) (p : Pkt) : (s.accepted op p).axg.wbCi = s.axg.wbCi := by
  obtain ⟨_, _, _, _, _, _, _, h⟩ := accepted_frame s op p; rw [h]
@[simp] theorem State.accepted_axg_cmdRing (s : State) (op : Nat) (p : Pkt) : (s.accepted op p).axg.cmdRing = s.axg.cmdRing := by
  obtain ⟨_, _, _, _, _, _, _, h⟩ := accepted_frame s op p; rw [h]
@[simp] theorem State.accepted_axg_rplWait (s : State) (op : Nat) (p : Pkt) : (s.accepted op p).axg.rplWait = s.axg.rplWait := by
  obtain ⟨_, _, _, _, _, _, _, h⟩ := accepted_frame s op p; rw [h]
@[simp] theorem State.accepted_axg_spiQ (s : State) (op : Nat) (p : Pkt) : (s.accepted op p).axg.spiQ = s.axg.spiQ := by
  obtain ⟨_, _, _, _, _, _, _, h⟩ := accepted_frame s op p; rw [h]
@[simp] theorem State.accepted_axg_spiOvf (s : State) (op : Nat) (p : Pkt) : (s.accepted op p).axg.spiOvf = s.axg.spiOvf := by
  obtain ⟨_, _, _, _, _, _, _, h⟩ := accepted_frame s op p; rw [h]
@[simp] theorem State.accepted_axg_spiBuf (s : State) (op : Nat) (p : Pkt) : (s.accepted op p).axg.spiBuf = s.axg.spiBuf := by
  obtain ⟨_, _, _, _, _, _, _, h⟩ := accepted_frame s op p; rw [h]
@[simp] theorem State.accepted_axg_partials (s : State) (op : Nat) (p : Pkt) : (s.accepted op p).axg.partials = s.axg.partials := by
  obtain ⟨_, _, _, _, _, _, _, h⟩ := accepted_frame s op p; rw [h]
@[simp] theorem State.accepted_axg_jobs (s : State) (op : Nat) (p : Pkt) : (s.accepted op p).axg.jobs = s.axg.jobs := by
  obtain ⟨_, _, _, _, _, _, _, h⟩ := accepted_frame s op p; rw [h]
@[simp] theorem State.accepted_axg_relays (s : State) (op : Nat) (p : Pkt) : (s.accepted op p).axg.relays = s.axg.relays := by
  obtain ⟨_, _, _, _, _, _, _, h⟩ := accepted_frame s op p; rw [h]
@[simp] theorem State.accepted_axg_tails (s : State) (op : Nat) (p : Pkt) : (s.accepted op p).axg.tails = s.axg.tails := by
  obtain ⟨_, _, _, _, _, _, _, h⟩ := accepted_frame s op p; rw [h]
@[simp] theorem State.accepted_axg_arrivedReq (s : State) (op : Nat) (p : Pkt) : (s.accepted op p).axg.arrivedReq = s.axg.arrivedReq := by
  obtain ⟨_, _, _, _, _, _, _, h⟩ := accepted_frame s op p; rw [h]

end Sys2Proof.Machine
end

