-- ==== Sys2Proof/Laws/Tab.lean ====
section
/-! SUPPORT. Sparse tables: what a key reads as after an insert, an erase or a put, and that each keeps the canonical form. -/

namespace Sys2Proof.Machine

open Sys2Proof

variable {α : Type}

/-! ### Insert: no order is needed -/

@[simp] theorem Tab.find?_insert_self (t : Tab α) (k : Nat) (x : α) : Tab.find? (Tab.insert t k x) k = some x := by
  induction t with
  | nil => simp [Tab.insert, Tab.find?]
  | cons e t ih =>
    obtain ⟨a, v⟩ := e
    simp only [Tab.insert]
    split
    · simp [Tab.find?]
    · split
      · simp [Tab.find?]
      · rename_i h _; simp [Tab.find?, h, ih]

theorem Tab.find?_insert_ne (t : Tab α) {k j : Nat} (x : α) (h : j ≠ k) : Tab.find? (Tab.insert t k x) j = Tab.find? t j := by
  induction t with
  | nil => simp [Tab.insert, Tab.find?, Ne.symm h]
  | cons e t ih =>
    obtain ⟨a, v⟩ := e
    simp only [Tab.insert]
    split
    · rename_i ha; subst ha; simp [Tab.find?, Ne.symm h]
    · split
      · simp [Tab.find?, Ne.symm h]
      · simp only [Tab.find?, ih]

@[simp] theorem Tab.get_insert_self (d : Nat → α) (t : Tab α) (k : Nat) (x : α) : Tab.get d (Tab.insert t k x) k = x := by
  simp [Tab.get]

theorem Tab.get_insert_ne (d : Nat → α) (t : Tab α) {k j : Nat} (x : α) (h : j ≠ k) : Tab.get d (Tab.insert t k x) j = Tab.get d t j := by
  simp [Tab.get, Tab.find?_insert_ne t x h]

theorem Tab.insert_insert (t : Tab α) (k : Nat) (x y : α) : Tab.insert (Tab.insert t k x) k y = Tab.insert t k y := by
  induction t with
  | nil => simp [Tab.insert]
  | cons e t ih =>
    obtain ⟨a, v⟩ := e
    simp only [Tab.insert]
    split
    · rename_i h; subst h; simp [Tab.insert]
    · split
      · simp [Tab.insert]
      · rename_i h1 h2; simp [Tab.insert, h1, h2, ih]

/-! ### Order -/

theorem Tab.sorted_cons {a : Nat} {v : α} {t : Tab α} :
    Tab.sorted ((a, v) :: t) = true ↔ (∀ e ∈ t, a < e.1) ∧ Tab.sorted t = true := by
  induction t generalizing a v with
  | nil => simp [Tab.sorted]
  | cons e t ih =>
    obtain ⟨b, w⟩ := e
    simp only [Tab.sorted, Bool.and_eq_true, decide_eq_true_eq, List.mem_cons, forall_eq_or_imp]
    constructor
    · rintro ⟨h1, h2⟩
      exact ⟨⟨h1, fun e he => lt_trans h1 ((ih.1 h2).1 e he)⟩, h2⟩
    · rintro ⟨⟨h1, _⟩, h3⟩
      exact ⟨h1, h3⟩

theorem Tab.find?_none_of_lt {t : Tab α} {k : Nat} (h : ∀ e ∈ t, k < e.1) : Tab.find? t k = none := by
  induction t with
  | nil => rfl
  | cons e t ih =>
    obtain ⟨a, v⟩ := e
    simp only [List.mem_cons, forall_eq_or_imp] at h
    simp [Tab.find?, Nat.ne_of_gt h.1, ih h.2]

theorem Tab.mem_insert {t : Tab α} {k : Nat} {x : α} {e : Nat × α} (h : e ∈ Tab.insert t k x) : e = (k, x) ∨ e ∈ t := by
  induction t with
  | nil => simpa [Tab.insert] using h
  | cons f t ih =>
    obtain ⟨a, v⟩ := f
    simp only [Tab.insert] at h
    split at h
    · simp only [List.mem_cons] at h ⊢; tauto
    · split at h
      · simpa using h
      · simp only [List.mem_cons] at h ⊢
        rcases h with h | h
        · exact .inr (.inl h)
        · rcases ih h with h | h <;> tauto

theorem Tab.mem_erase {t : Tab α} {k : Nat} {e : Nat × α} (h : e ∈ Tab.erase t k) : e ∈ t := by
  induction t with
  | nil => simpa [Tab.erase] using h
  | cons f t ih =>
    obtain ⟨a, v⟩ := f
    simp only [Tab.erase] at h
    split at h
    · simp [h]
    · split at h
      · exact h
      · simp only [List.mem_cons] at h ⊢
        exact h.imp id ih

theorem Tab.sorted_insert {t : Tab α} (k : Nat) (x : α) (h : Tab.sorted t = true) : Tab.sorted (Tab.insert t k x) = true := by
  induction t with
  | nil => rfl
  | cons e t ih =>
    obtain ⟨a, v⟩ := e
    rw [Tab.sorted_cons] at h
    simp only [Tab.insert]
    split
    · rename_i ha; subst ha; exact Tab.sorted_cons.2 h
    · split
      · rename_i hk
        refine Tab.sorted_cons.2 ⟨?_, Tab.sorted_cons.2 h⟩
        simp only [List.mem_cons, forall_eq_or_imp]
        exact ⟨hk, fun e he => lt_trans hk (h.1 e he)⟩
      · refine Tab.sorted_cons.2 ⟨fun e he => ?_, ih h.2⟩
        rcases Tab.mem_insert he with rfl | he
        · simp only; omega
        · exact h.1 e he

theorem Tab.sorted_erase {t : Tab α} (k : Nat) (h : Tab.sorted t = true) : Tab.sorted (Tab.erase t k) = true := by
  induction t with
  | nil => rfl
  | cons e t ih =>
    obtain ⟨a, v⟩ := e
    have h' := Tab.sorted_cons.1 h
    simp only [Tab.erase]
    split
    · exact h'.2
    · split
      · exact h
      · exact Tab.sorted_cons.2 ⟨fun e he => h'.1 e (Tab.mem_erase he), ih h'.2⟩

theorem Tab.find?_erase_self {t : Tab α} (k : Nat) (h : Tab.sorted t = true) : Tab.find? (Tab.erase t k) k = none := by
  induction t with
  | nil => rfl
  | cons e t ih =>
    obtain ⟨a, v⟩ := e
    have h' := Tab.sorted_cons.1 h
    simp only [Tab.erase]
    split
    · rename_i ha; subst ha; exact Tab.find?_none_of_lt h'.1
    · split
      · rename_i hk
        refine Tab.find?_none_of_lt (fun e he => ?_)
        simp only [List.mem_cons] at he
        rcases he with rfl | he
        · exact hk
        · exact lt_trans hk (h'.1 e he)
      · rename_i hak _; simp [Tab.find?, hak, ih h'.2]

theorem Tab.find?_erase_ne (t : Tab α) {k j : Nat} (h : j ≠ k) : Tab.find? (Tab.erase t k) j = Tab.find? t j := by
  induction t with
  | nil => rfl
  | cons e t ih =>
    obtain ⟨a, v⟩ := e
    simp only [Tab.erase]
    split
    · rename_i ha; subst ha; simp [Tab.find?, Ne.symm h]
    · split
      · rfl
      · simp only [Tab.find?, ih]

/-! ### Put -/

variable [DecidableEq α]

theorem Tab.get_put_ne (d : Nat → α) (t : Tab α) {k j : Nat} (x : α) (h : j ≠ k) : Tab.get d (Tab.put d t k x) j = Tab.get d t j := by
  unfold Tab.put Tab.get
  split
  · rw [Tab.find?_erase_ne t h]
  · rw [Tab.find?_insert_ne t x h]

theorem Tab.get_put_self (d : Nat → α) {t : Tab α} (k : Nat) (x : α) (h : Tab.sorted t = true) : Tab.get d (Tab.put d t k x) k = x := by
  unfold Tab.put
  split
  · rename_i hx; simp [Tab.get, Tab.find?_erase_self k h, hx]
  · simp

/-- Without order, a value other than the default reads back. -/
theorem Tab.get_put_self_of_ne (d : Nat → α) (t : Tab α) (k : Nat) {x : α} (h : x ≠ d k) : Tab.get d (Tab.put d t k x) k = x := by
  simp [Tab.put, h]

theorem Tab.sorted_put {d : Nat → α} {t : Tab α} (k : Nat) (x : α) (h : Tab.sorted t = true) : Tab.sorted (Tab.put d t k x) = true := by
  unfold Tab.put
  split
  · exact Tab.sorted_erase k h
  · exact Tab.sorted_insert k x h

/-- A put keeps the canonical form. -/
theorem Tab.wf_put {d : Nat → α} {t : Tab α} (k : Nat) (x : α) (h : Tab.wf d t = true) : Tab.wf d (Tab.put d t k x) = true := by
  simp only [Tab.wf, Bool.and_eq_true, List.all_eq_true, decide_eq_true_eq] at h ⊢
  refine ⟨Tab.sorted_put k x h.1, fun e he => ?_⟩
  unfold Tab.put at he
  split at he
  · exact h.2 e (Tab.mem_erase he)
  · rename_i hx
    rcases Tab.mem_insert he with rfl | he
    · exact hx
    · exact h.2 e he

theorem Tab.mem_put {d : Nat → α} {t : Tab α} {k : Nat} {x : α} {e : Nat × α} (h : e ∈ Tab.put d t k x) : e = (k, x) ∨ e ∈ t := by
  unfold Tab.put at h
  split at h
  · exact .inr (Tab.mem_erase h)
  · exact Tab.mem_insert h

end Sys2Proof.Machine
end

