-- ==== Sys2Proof/Laws/Memory.lean ====
section
/-! SUPPORT. Controller memory and its shadow (R585, R592): every operation on them keeps their canonical form, a read after a write gives what
was written, and a write leaves every other byte alone. -/

namespace Sys2Proof.Machine

open Sys2Proof

/-! ### Sparse bytes below a bound -/

/-- Cells in canonical form, all below a bound. -/
def Cells (n : Nat) (m : List Host.Cell) : Prop := Memory.wf m = true ∧ ∀ e ∈ m, e.1 < n

theorem Cells.nil (n : Nat) : Cells n [] := ⟨rfl, by simp⟩

theorem Cells.put {n : Nat} {m : List Host.Cell} (h : Cells n m) {k : Nat} (hk : k < n) (x : Byte) : Cells n (Tab.put byteReset m k x) := by
  refine ⟨Tab.wf_put k x h.1, fun e he => ?_⟩
  rcases Tab.mem_put he with rfl | he
  · exact hk
  · exact h.2 e he

/-- Rising keys, said of any two entries in order. -/
theorem Tab.sorted_iff {α : Type} (t : Tab α) : Tab.sorted t = true ↔ t.Pairwise (fun a b => a.1 < b.1) := by
  induction t with
  | nil => simp [Tab.sorted]
  | cons x t ih => obtain ⟨a, v⟩ := x; rw [Tab.sorted_cons, List.pairwise_cons, ih]

theorem Cells.iff {n : Nat} {m : List Host.Cell} :
    Cells n m ↔ m.Pairwise (fun a b => a.1 < b.1) ∧ (∀ e ∈ m, e.2 ≠ 0) ∧ ∀ e ∈ m, e.1 < n := by
  simp only [Cells, Memory.wf, Tab.wf, Bool.and_eq_true, List.all_eq_true, decide_eq_true_eq, Tab.sorted_iff, and_assoc]
  rfl

theorem Cells.filter {n : Nat} {m : List Host.Cell} (h : Cells n m) (p : Host.Cell → Bool) : Cells n (m.filter p) := by
  rw [Cells.iff] at h ⊢
  exact ⟨h.1.filter p, fun e he => h.2.1 e (List.mem_filter.1 he).1, fun e he => h.2.2 e (List.mem_filter.1 he).1⟩

/-- A region's cells moved to another place, in order. -/
theorem Cells.shift {n k : Nat} {m : List Host.Cell} (h : Cells n m) (f : Nat → Nat) (hf : ∀ a ∈ m, ∀ b ∈ m, a.1 < b.1 → f a.1 < f b.1)
    (hk : ∀ a ∈ m, f a.1 < k) : Cells k (m.map (fun e => (f e.1, e.2))) := by
  rw [Cells.iff] at h ⊢
  refine ⟨?_, ?_, ?_⟩
  · rw [List.pairwise_map]
    exact h.1.imp_of_mem (fun ha hb hab => hf _ ha _ hb hab)
  · intro e he
    obtain ⟨a, ha, rfl⟩ := List.mem_map.1 he
    exact h.2.1 a ha
  · intro e he
    obtain ⟨a, ha, rfl⟩ := List.mem_map.1 he
    exact hk a ha

theorem Cells.append {n : Nat} {a b : List Host.Cell} (ha : Cells n a) (hb : Cells n b) (h : ∀ x ∈ a, ∀ y ∈ b, x.1 < y.1) : Cells n (a ++ b) := by
  rw [Cells.iff] at *
  refine ⟨List.pairwise_append.2 ⟨ha.1, hb.1, h⟩, ?_, ?_⟩ <;> intro e he <;> rcases List.mem_append.1 he with he | he
  · exact ha.2.1 e he
  · exact hb.2.1 e he
  · exact ha.2.2 e he
  · exact hb.2.2 e he

/-! ### Memory and shadow -/

/-- The form of memory and of the shadow. -/
def Mem.form (m : Mem) : Prop := Cells secureBase m.bytes ∧ Cells 4096 m.shadow

/-- The form that statements ask for, part by part. -/
theorem State.memOk_iff (s : State) :
    s.memOk = true ↔ s.mem.form ∧ ∀ b, s.mem.bg = some b → b.tested < b.count ∧ b.first + b.count ≤ 480 := by
  simp only [State.memOk, Mem.form, Cells, Bool.and_eq_true, List.all_eq_true, decide_eq_true_eq, Option.all_eq_true, and_assoc]

/-- The engine copies a region into the shadow (R592). -/
theorem Mem.form_copyRegion {m : Mem} (h : m.form) (r : Nat) : (m.copyRegion r).form := by
  refine ⟨h.1, (h.1.filter _).shift (fun a => a % 4096) ?_ (fun a _ => Nat.mod_lt _ (by decide))⟩
  intro a ha b hb hab
  simp only [List.mem_filter, decide_eq_true_eq] at ha hb
  simp only [memRegion] at ha hb
  show a.1 % 4096 < b.1 % 4096
  omega

/-- Its test leaves a region 0 (R593). -/
theorem Mem.form_testRegion {m : Mem} (h : m.form) (r : Nat) : (m.testRegion r).form := ⟨h.1.filter _, h.2⟩

/-- A region outside the secure one takes the shadow's content back (R592). -/
theorem Mem.form_restoreRegion {m : Mem} (h : m.form) {r : Nat} (hr : r < 480) : (m.restoreRegion r).form := by
  have hs : ∀ e ∈ m.shadow, e.1 < 4096 := h.2.2
  refine ⟨((h.1.filter _).append (h.2.shift (fun a => 4096 * r + a) (fun a _ b _ hab => by omega) (fun a ha => ?_)) ?_).append (h.1.filter _) ?_, h.2⟩
  · have := hs a ha; simp only [secureBase]; omega
  · intro x hx y hy
    obtain ⟨z, hz, rfl⟩ := List.mem_map.1 hy
    simp only [List.mem_filter, decide_eq_true_eq] at hx
    have h2 := hx.2
    simp only [memRegion] at h2
    show x.1 < 4096 * r + z.1
    omega
  · intro x hx y hy
    simp only [List.mem_filter, decide_eq_true_eq] at hy
    have h2 := hy.2
    simp only [memRegion] at h2
    rcases List.mem_append.1 hx with hx | hx
    · simp only [List.mem_filter, decide_eq_true_eq] at hx; simp only [memRegion] at hx; omega
    · obtain ⟨z, hz, rfl⟩ := List.mem_map.1 hx
      have := hs z hz
      show 4096 * r + z.1 < y.1
      omega

/-! ### Writes -/

/-- A byte written changes memory and shadow alone. -/
theorem State.setMemByte_only (s : State) (a : Nat) (b : Byte) :
    ∃ bytes shadow, s.setMemByte a b = { s with mem := { s.mem with bytes := bytes, shadow := shadow } } := by
  unfold State.setMemByte
  split
  · exact ⟨_, _, rfl⟩
  · dsimp only
    split <;> split <;> exact ⟨_, _, rfl⟩

theorem State.setMemBytes_only (s : State) (a : Nat) (bs : List Byte) :
    ∃ bytes shadow, s.setMemBytes a bs = { s with mem := { s.mem with bytes := bytes, shadow := shadow } } := by
  induction bs generalizing s a with
  | nil => exact ⟨_, _, rfl⟩
  | cons b t ih =>
    obtain ⟨x, y, h⟩ := s.setMemByte_only a b
    obtain ⟨x', y', h'⟩ := ih (s.setMemByte a b) (a + 1)
    exact ⟨x', y', by rw [State.setMemBytes, h', h]⟩

theorem State.setMemByte_form {s : State} (h : s.mem.form) (a : Nat) (b : Byte) : (s.setMemByte a b).mem.form := by
  unfold State.setMemByte
  split
  · exact h
  · rename_i ha
    have hs : Cells 4096 (Tab.put byteReset s.mem.shadow (a % 4096) b) := h.2.put (Nat.mod_lt _ (by decide)) b
    have hb : Cells secureBase (Tab.put byteReset s.mem.bytes a b) := h.1.put (by omega) b
    dsimp only
    split <;> split
    exacts [⟨hb, hs⟩, ⟨hb, h.2⟩, ⟨h.1, hs⟩, h]

theorem State.setMemBytes_form {s : State} (h : s.mem.form) (a : Nat) (bs : List Byte) : (s.setMemBytes a bs).mem.form := by
  induction bs generalizing s a with
  | nil => exact h
  | cons b t ih => exact ih (State.setMemByte_form h a b) (a + 1)

/-- A write keeps the form of memory. -/
theorem State.setMemBytes_memOk {s : State} (h : s.memOk = true) (a : Nat) (bs : List Byte) : (s.setMemBytes a bs).memOk = true := by
  rw [State.memOk_iff] at h ⊢
  refine ⟨State.setMemBytes_form h.1 a bs, ?_⟩
  obtain ⟨x, y, e⟩ := s.setMemBytes_only a bs
  rw [e]
  exact h.2

/-- So does a write through the host window (R442). -/
theorem hostWindowWrite_memOk {s : State} (h : s.memOk = true) (off : Nat) (bs : List Byte) : (hostWindowWrite off bs s).memOk = true := by
  unfold hostWindowWrite
  split
  · exact State.setMemBytes_memOk h off bs
  · exact h

/-- A firmware slot's byte written keeps the slot's cells in form (R597, R600). -/
theorem State.setFwByte_form {s : State} (h : Cells 0x180000 s.mram.fwA ∧ Cells 0x180000 s.mram.fwB) (slot a : Nat) (b : Byte) :
    Cells 0x180000 (s.setFwByte slot a b).mram.fwA ∧ Cells 0x180000 (s.setFwByte slot a b).mram.fwB := by
  unfold State.setFwByte
  split
  · exact h
  · rename_i ha
    split
    · exact ⟨h.1.put (by omega) b, h.2⟩
    · exact ⟨h.1, h.2.put (by omega) b⟩

/-! ### Reads after writes -/

theorem get_put_byte_self {m : List Host.Cell} (h : Memory.wf m = true) (k : Nat) (x : Byte) : Tab.get byteReset (Tab.put byteReset m k x) k = x := by
  simp only [Memory.wf, Tab.wf, Bool.and_eq_true] at h
  exact Tab.get_put_self _ k x h.1

/-- A byte outside the secure region reads as it was written (R592). -/
theorem State.memByte_setMemByte_self {s : State} (h : s.mem.form) {a : Nat} (ha : a < secureBase) (b : Byte) : (s.setMemByte a b).memByte a = b := by
  have h0 : ¬ secureBase ≤ a := by omega
  unfold State.memByte State.setMemByte
  rw [if_neg h0]
  simp only [if_neg h0]
  cases hs : s.mem.shadowed a <;> cases hd : s.mem.doubled a <;>
    simp [hd, Mem.shadowed] at * <;> simp [hs, get_put_byte_self h.1.1, get_put_byte_self h.2.1]

/-- Every other byte reads as before, where the region that a write goes to twice is not served from another region's shadow (R592). -/
theorem State.memByte_setMemByte_ne (s : State) {a c : Nat} (hc : c ≠ a) (b : Byte)
    (hd : s.mem.doubled a = true → s.mem.inUse = none ∨ s.mem.shadowed a = true) : (s.setMemByte a b).memByte c = s.memByte c := by
  unfold State.memByte State.setMemByte
  by_cases h0 : secureBase ≤ a
  · rw [if_pos h0]
  rw [if_neg h0]
  by_cases h1 : secureBase ≤ c
  · rw [if_pos h1, if_pos h1]
  rw [if_neg h1, if_neg h1]
  have key : s.mem.shadowed c = true → (s.mem.shadowed a || s.mem.doubled a) = true → c % 4096 ≠ a % 4096 := by
    intro h2 h3
    simp only [Mem.shadowed, decide_eq_true_eq] at h2
    have h4 : s.mem.inUse = some (memRegion a) := by
      cases hs : s.mem.shadowed a with
      | true => simpa [Mem.shadowed] using hs
      | false =>
        rw [hs, Bool.false_or] at h3
        rcases hd h3 with h | h
        · rw [h] at h2; cases h2
        · rw [hs] at h; cases h
    rw [h4] at h2
    have h5 : a / 4096 = c / 4096 := by simpa [memRegion] using h2
    omega
  dsimp only
  cases hs : s.mem.shadowed a || s.mem.doubled a <;> cases hx : !s.mem.shadowed a || s.mem.doubled a <;> cases h2 : s.mem.shadowed c <;>
    simp only [Mem.shadowed, if_true, if_false, Bool.false_eq_true] at * <;>
    simp_all [Tab.get_put_ne]

end Sys2Proof.Machine
end

