-- ==== Sys2Proof/Laws/State.lean ====
section
/-! SUPPORT. What each field of the state is after each plain update of it: one lemma for each field and update. -/

namespace Sys2Proof.Machine

open Sys2Proof

@[simp] theorem State.setLane_pending (s : State) (k : Nat) (l : Lane) : (s.setLane k l).pending = s.pending := rfl
@[simp] theorem State.setLane_free (s : State) (k : Nat) (l : Lane) : (s.setLane k l).free = s.free := rfl
@[simp] theorem State.setLane_out (s : State) (k : Nat) (l : Lane) : (s.setLane k l).out = s.out := rfl
@[simp] theorem State.setLane_fused (s : State) (k : Nat) (l : Lane) : (s.setLane k l).fused = s.fused := rfl
@[simp] theorem State.setLane_tamper (s : State) (k : Nat) (l : Lane) : (s.setLane k l).tamper = s.tamper := rfl
@[simp] theorem State.setLane_mram (s : State) (k : Nat) (l : Lane) : (s.setLane k l).mram = s.mram := rfl
@[simp] theorem State.setLane_start (s : State) (k : Nat) (l : Lane) : (s.setLane k l).start = s.start := rfl
@[simp] theorem State.setLane_alarms (s : State) (k : Nat) (l : Lane) : (s.setLane k l).alarms = s.alarms := rfl
@[simp] theorem State.setLane_clk (s : State) (k : Nat) (l : Lane) : (s.setLane k l).clk = s.clk := rfl
@[simp] theorem State.setLane_axg (s : State) (k : Nat) (l : Lane) : (s.setLane k l).axg = s.axg := rfl
@[simp] theorem State.setLane_cru (s : State) (k : Nat) (l : Lane) : (s.setLane k l).cru = s.cru := rfl
@[simp] theorem State.setLane_led (s : State) (k : Nat) (l : Lane) : (s.setLane k l).led = s.led := rfl
@[simp] theorem State.setLane_sec (s : State) (k : Nat) (l : Lane) : (s.setLane k l).sec = s.sec := rfl
@[simp] theorem State.setLane_mem (s : State) (k : Nat) (l : Lane) : (s.setLane k l).mem = s.mem := rfl
@[simp] theorem State.setLane_lanes (s : State) (k : Nat) (l : Lane) : (s.setLane k l).lanes = Tab.put laneReset s.lanes k l := rfl
@[simp] theorem State.setLane_form (s : State) (k : Nat) (l : Lane) : (s.setLane k l).form = s.form := rfl
@[simp] theorem State.setLane_ports (s : State) (k : Nat) (l : Lane) : (s.setLane k l).ports = s.ports := rfl
@[simp] theorem State.setLane_rings (s : State) (k : Nat) (l : Lane) : (s.setLane k l).rings = s.rings := rfl
@[simp] theorem State.setLane_nodes (s : State) (k : Nat) (l : Lane) : (s.setLane k l).nodes = s.nodes := rfl
@[simp] theorem State.setLane_nodeFull (s : State) (k : Nat) (l : Lane) : (s.setLane k l).nodeFull = s.nodeFull := rfl
@[simp] theorem State.setLane_bypass (s : State) (k : Nat) (l : Lane) : (s.setLane k l).bypass = s.bypass := rfl
@[simp] theorem State.setLane_fwd (s : State) (k : Nat) (l : Lane) : (s.setLane k l).fwd = s.fwd := rfl
@[simp] theorem State.setLane_buf (s : State) (k : Nat) (l : Lane) : (s.setLane k l).buf = s.buf := rfl
@[simp] theorem State.setLane_hst (s : State) (k : Nat) (l : Lane) : (s.setLane k l).hst = s.hst := rfl
@[simp] theorem State.setLane_cnt (s : State) (k : Nat) (l : Lane) : (s.setLane k l).cnt = s.cnt := rfl
@[simp] theorem State.setLane_tbs (s : State) (k : Nat) (l : Lane) : (s.setLane k l).tbs = s.tbs := rfl
@[simp] theorem State.setLane_hcfg (s : State) (k : Nat) (l : Lane) : (s.setLane k l).hcfg = s.hcfg := rfl
@[simp] theorem State.setLane_hier (s : State) (k : Nat) (l : Lane) : (s.setLane k l).hier = s.hier := rfl
@[simp] theorem State.setLane_workers (s : State) (k : Nat) (l : Lane) : (s.setLane k l).workers = s.workers := rfl
@[simp] theorem State.setLane_pcfg (s : State) (k : Nat) (l : Lane) : (s.setLane k l).pcfg = s.pcfg := rfl
@[simp] theorem State.setLane_prun (s : State) (k : Nat) (l : Lane) : (s.setLane k l).prun = s.prun := rfl
@[simp] theorem State.setLane_sesKeys (s : State) (k : Nat) (l : Lane) : (s.setLane k l).sesKeys = s.sesKeys := rfl
@[simp] theorem State.setLane_ptp (s : State) (k : Nat) (l : Lane) : (s.setLane k l).ptp = s.ptp := rfl
@[simp] theorem State.setLane_pal (s : State) (k : Nat) (l : Lane) : (s.setLane k l).pal = s.pal := rfl
@[simp] theorem State.setLane_refs (s : State) (k : Nat) (l : Lane) : (s.setLane k l).refs = s.refs := rfl
@[simp] theorem State.setLane_hams (s : State) (k : Nat) (l : Lane) : (s.setLane k l).hams = s.hams := rfl
@[simp] theorem State.setLane_chans (s : State) (k : Nat) (l : Lane) : (s.setLane k l).chans = s.chans := rfl
@[simp] theorem State.setLane_twinRpl (s : State) (k : Nat) (l : Lane) : (s.setLane k l).twinRpl = s.twinRpl := rfl

@[simp] theorem State.setPort_pending (s : State) (k : Nat) (p : Port) : (s.setPort k p).pending = s.pending := rfl
@[simp] theorem State.setPort_free (s : State) (k : Nat) (p : Port) : (s.setPort k p).free = s.free := rfl
@[simp] theorem State.setPort_out (s : State) (k : Nat) (p : Port) : (s.setPort k p).out = s.out := rfl
@[simp] theorem State.setPort_fused (s : State) (k : Nat) (p : Port) : (s.setPort k p).fused = s.fused := rfl
@[simp] theorem State.setPort_tamper (s : State) (k : Nat) (p : Port) : (s.setPort k p).tamper = s.tamper := rfl
@[simp] theorem State.setPort_mram (s : State) (k : Nat) (p : Port) : (s.setPort k p).mram = s.mram := rfl
@[simp] theorem State.setPort_start (s : State) (k : Nat) (p : Port) : (s.setPort k p).start = s.start := rfl
@[simp] theorem State.setPort_alarms (s : State) (k : Nat) (p : Port) : (s.setPort k p).alarms = s.alarms := rfl
@[simp] theorem State.setPort_clk (s : State) (k : Nat) (p : Port) : (s.setPort k p).clk = s.clk := rfl
@[simp] theorem State.setPort_axg (s : State) (k : Nat) (p : Port) : (s.setPort k p).axg = s.axg := rfl
@[simp] theorem State.setPort_cru (s : State) (k : Nat) (p : Port) : (s.setPort k p).cru = s.cru := rfl
@[simp] theorem State.setPort_led (s : State) (k : Nat) (p : Port) : (s.setPort k p).led = s.led := rfl
@[simp] theorem State.setPort_sec (s : State) (k : Nat) (p : Port) : (s.setPort k p).sec = s.sec := rfl
@[simp] theorem State.setPort_mem (s : State) (k : Nat) (p : Port) : (s.setPort k p).mem = s.mem := rfl
@[simp] theorem State.setPort_lanes (s : State) (k : Nat) (p : Port) : (s.setPort k p).lanes = s.lanes := rfl
@[simp] theorem State.setPort_form (s : State) (k : Nat) (p : Port) : (s.setPort k p).form = s.form := rfl
@[simp] theorem State.setPort_ports (s : State) (k : Nat) (p : Port) : (s.setPort k p).ports = Tab.put portReset s.ports k p := rfl
@[simp] theorem State.setPort_rings (s : State) (k : Nat) (p : Port) : (s.setPort k p).rings = s.rings := rfl
@[simp] theorem State.setPort_nodes (s : State) (k : Nat) (p : Port) : (s.setPort k p).nodes = s.nodes := rfl
@[simp] theorem State.setPort_nodeFull (s : State) (k : Nat) (p : Port) : (s.setPort k p).nodeFull = s.nodeFull := rfl
@[simp] theorem State.setPort_bypass (s : State) (k : Nat) (p : Port) : (s.setPort k p).bypass = s.bypass := rfl
@[simp] theorem State.setPort_fwd (s : State) (k : Nat) (p : Port) : (s.setPort k p).fwd = s.fwd := rfl
@[simp] theorem State.setPort_buf (s : State) (k : Nat) (p : Port) : (s.setPort k p).buf = s.buf := rfl
@[simp] theorem State.setPort_hst (s : State) (k : Nat) (p : Port) : (s.setPort k p).hst = s.hst := rfl
@[simp] theorem State.setPort_cnt (s : State) (k : Nat) (p : Port) : (s.setPort k p).cnt = s.cnt := rfl
@[simp] theorem State.setPort_tbs (s : State) (k : Nat) (p : Port) : (s.setPort k p).tbs = s.tbs := rfl
@[simp] theorem State.setPort_hcfg (s : State) (k : Nat) (p : Port) : (s.setPort k p).hcfg = s.hcfg := rfl
@[simp] theorem State.setPort_hier (s : State) (k : Nat) (p : Port) : (s.setPort k p).hier = s.hier := rfl
@[simp] theorem State.setPort_workers (s : State) (k : Nat) (p : Port) : (s.setPort k p).workers = s.workers := rfl
@[simp] theorem State.setPort_pcfg (s : State) (k : Nat) (p : Port) : (s.setPort k p).pcfg = s.pcfg := rfl
@[simp] theorem State.setPort_prun (s : State) (k : Nat) (p : Port) : (s.setPort k p).prun = s.prun := rfl
@[simp] theorem State.setPort_sesKeys (s : State) (k : Nat) (p : Port) : (s.setPort k p).sesKeys = s.sesKeys := rfl
@[simp] theorem State.setPort_ptp (s : State) (k : Nat) (p : Port) : (s.setPort k p).ptp = s.ptp := rfl
@[simp] theorem State.setPort_pal (s : State) (k : Nat) (p : Port) : (s.setPort k p).pal = s.pal := rfl
@[simp] theorem State.setPort_refs (s : State) (k : Nat) (p : Port) : (s.setPort k p).refs = s.refs := rfl
@[simp] theorem State.setPort_hams (s : State) (k : Nat) (p : Port) : (s.setPort k p).hams = s.hams := rfl
@[simp] theorem State.setPort_chans (s : State) (k : Nat) (p : Port) : (s.setPort k p).chans = s.chans := rfl
@[simp] theorem State.setPort_twinRpl (s : State) (k : Nat) (p : Port) : (s.setPort k p).twinRpl = s.twinRpl := rfl

@[simp] theorem State.setRing_pending (s : State) (k : Nat) (r : Ring) : (s.setRing k r).pending = s.pending := rfl
@[simp] theorem State.setRing_free (s : State) (k : Nat) (r : Ring) : (s.setRing k r).free = s.free := rfl
@[simp] theorem State.setRing_out (s : State) (k : Nat) (r : Ring) : (s.setRing k r).out = s.out := rfl
@[simp] theorem State.setRing_fused (s : State) (k : Nat) (r : Ring) : (s.setRing k r).fused = s.fused := rfl
@[simp] theorem State.setRing_tamper (s : State) (k : Nat) (r : Ring) : (s.setRing k r).tamper = s.tamper := rfl
@[simp] theorem State.setRing_mram (s : State) (k : Nat) (r : Ring) : (s.setRing k r).mram = s.mram := rfl
@[simp] theorem State.setRing_start (s : State) (k : Nat) (r : Ring) : (s.setRing k r).start = s.start := rfl
@[simp] theorem State.setRing_alarms (s : State) (k : Nat) (r : Ring) : (s.setRing k r).alarms = s.alarms := rfl
@[simp] theorem State.setRing_clk (s : State) (k : Nat) (r : Ring) : (s.setRing k r).clk = s.clk := rfl
@[simp] theorem State.setRing_axg (s : State) (k : Nat) (r : Ring) : (s.setRing k r).axg = s.axg := rfl
@[simp] theorem State.setRing_cru (s : State) (k : Nat) (r : Ring) : (s.setRing k r).cru = s.cru := rfl
@[simp] theorem State.setRing_led (s : State) (k : Nat) (r : Ring) : (s.setRing k r).led = s.led := rfl
@[simp] theorem State.setRing_sec (s : State) (k : Nat) (r : Ring) : (s.setRing k r).sec = s.sec := rfl
@[simp] theorem State.setRing_mem (s : State) (k : Nat) (r : Ring) : (s.setRing k r).mem = s.mem := rfl
@[simp] theorem State.setRing_lanes (s : State) (k : Nat) (r : Ring) : (s.setRing k r).lanes = s.lanes := rfl
@[simp] theorem State.setRing_form (s : State) (k : Nat) (r : Ring) : (s.setRing k r).form = s.form := rfl
@[simp] theorem State.setRing_ports (s : State) (k : Nat) (r : Ring) : (s.setRing k r).ports = s.ports := rfl
@[simp] theorem State.setRing_rings (s : State) (k : Nat) (r : Ring) : (s.setRing k r).rings = Tab.put ringReset s.rings k r := rfl
@[simp] theorem State.setRing_nodes (s : State) (k : Nat) (r : Ring) : (s.setRing k r).nodes = s.nodes := rfl
@[simp] theorem State.setRing_nodeFull (s : State) (k : Nat) (r : Ring) : (s.setRing k r).nodeFull = s.nodeFull := rfl
@[simp] theorem State.setRing_bypass (s : State) (k : Nat) (r : Ring) : (s.setRing k r).bypass = s.bypass := rfl
@[simp] theorem State.setRing_fwd (s : State) (k : Nat) (r : Ring) : (s.setRing k r).fwd = s.fwd := rfl
@[simp] theorem State.setRing_buf (s : State) (k : Nat) (r : Ring) : (s.setRing k r).buf = s.buf := rfl
@[simp] theorem State.setRing_hst (s : State) (k : Nat) (r : Ring) : (s.setRing k r).hst = s.hst := rfl
@[simp] theorem State.setRing_cnt (s : State) (k : Nat) (r : Ring) : (s.setRing k r).cnt = s.cnt := rfl
@[simp] theorem State.setRing_tbs (s : State) (k : Nat) (r : Ring) : (s.setRing k r).tbs = s.tbs := rfl
@[simp] theorem State.setRing_hcfg (s : State) (k : Nat) (r : Ring) : (s.setRing k r).hcfg = s.hcfg := rfl
@[simp] theorem State.setRing_hier (s : State) (k : Nat) (r : Ring) : (s.setRing k r).hier = s.hier := rfl
@[simp] theorem State.setRing_workers (s : State) (k : Nat) (r : Ring) : (s.setRing k r).workers = s.workers := rfl
@[simp] theorem State.setRing_pcfg (s : State) (k : Nat) (r : Ring) : (s.setRing k r).pcfg = s.pcfg := rfl
@[simp] theorem State.setRing_prun (s : State) (k : Nat) (r : Ring) : (s.setRing k r).prun = s.prun := rfl
@[simp] theorem State.setRing_sesKeys (s : State) (k : Nat) (r : Ring) : (s.setRing k r).sesKeys = s.sesKeys := rfl
@[simp] theorem State.setRing_ptp (s : State) (k : Nat) (r : Ring) : (s.setRing k r).ptp = s.ptp := rfl
@[simp] theorem State.setRing_pal (s : State) (k : Nat) (r : Ring) : (s.setRing k r).pal = s.pal := rfl
@[simp] theorem State.setRing_refs (s : State) (k : Nat) (r : Ring) : (s.setRing k r).refs = s.refs := rfl
@[simp] theorem State.setRing_hams (s : State) (k : Nat) (r : Ring) : (s.setRing k r).hams = s.hams := rfl
@[simp] theorem State.setRing_chans (s : State) (k : Nat) (r : Ring) : (s.setRing k r).chans = s.chans := rfl
@[simp] theorem State.setRing_twinRpl (s : State) (k : Nat) (r : Ring) : (s.setRing k r).twinRpl = s.twinRpl := rfl

@[simp] theorem State.setPair_pending (s : State) (k : Nat) (b : Bypass) : (s.setPair k b).pending = s.pending := rfl
@[simp] theorem State.setPair_free (s : State) (k : Nat) (b : Bypass) : (s.setPair k b).free = s.free := rfl
@[simp] theorem State.setPair_out (s : State) (k : Nat) (b : Bypass) : (s.setPair k b).out = s.out := rfl
@[simp] theorem State.setPair_fused (s : State) (k : Nat) (b : Bypass) : (s.setPair k b).fused = s.fused := rfl
@[simp] theorem State.setPair_tamper (s : State) (k : Nat) (b : Bypass) : (s.setPair k b).tamper = s.tamper := rfl
@[simp] theorem State.setPair_mram (s : State) (k : Nat) (b : Bypass) : (s.setPair k b).mram = s.mram := rfl
@[simp] theorem State.setPair_start (s : State) (k : Nat) (b : Bypass) : (s.setPair k b).start = s.start := rfl
@[simp] theorem State.setPair_alarms (s : State) (k : Nat) (b : Bypass) : (s.setPair k b).alarms = s.alarms := rfl
@[simp] theorem State.setPair_clk (s : State) (k : Nat) (b : Bypass) : (s.setPair k b).clk = s.clk := rfl
@[simp] theorem State.setPair_axg (s : State) (k : Nat) (b : Bypass) : (s.setPair k b).axg = s.axg := rfl
@[simp] theorem State.setPair_cru (s : State) (k : Nat) (b : Bypass) : (s.setPair k b).cru = s.cru := rfl
@[simp] theorem State.setPair_led (s : State) (k : Nat) (b : Bypass) : (s.setPair k b).led = s.led := rfl
@[simp] theorem State.setPair_sec (s : State) (k : Nat) (b : Bypass) : (s.setPair k b).sec = s.sec := rfl
@[simp] theorem State.setPair_mem (s : State) (k : Nat) (b : Bypass) : (s.setPair k b).mem = s.mem := rfl
@[simp] theorem State.setPair_lanes (s : State) (k : Nat) (b : Bypass) : (s.setPair k b).lanes = s.lanes := rfl
@[simp] theorem State.setPair_form (s : State) (k : Nat) (b : Bypass) : (s.setPair k b).form = s.form := rfl
@[simp] theorem State.setPair_ports (s : State) (k : Nat) (b : Bypass) : (s.setPair k b).ports = s.ports := rfl
@[simp] theorem State.setPair_rings (s : State) (k : Nat) (b : Bypass) : (s.setPair k b).rings = s.rings := rfl
@[simp] theorem State.setPair_nodes (s : State) (k : Nat) (b : Bypass) : (s.setPair k b).nodes = s.nodes := rfl
@[simp] theorem State.setPair_nodeFull (s : State) (k : Nat) (b : Bypass) : (s.setPair k b).nodeFull = s.nodeFull := rfl
@[simp] theorem State.setPair_bypass (s : State) (k : Nat) (b : Bypass) : (s.setPair k b).bypass = Tab.put bypassReset s.bypass k b := rfl
@[simp] theorem State.setPair_fwd (s : State) (k : Nat) (b : Bypass) : (s.setPair k b).fwd = s.fwd := rfl
@[simp] theorem State.setPair_buf (s : State) (k : Nat) (b : Bypass) : (s.setPair k b).buf = s.buf := rfl
@[simp] theorem State.setPair_hst (s : State) (k : Nat) (b : Bypass) : (s.setPair k b).hst = s.hst := rfl
@[simp] theorem State.setPair_cnt (s : State) (k : Nat) (b : Bypass) : (s.setPair k b).cnt = s.cnt := rfl
@[simp] theorem State.setPair_tbs (s : State) (k : Nat) (b : Bypass) : (s.setPair k b).tbs = s.tbs := rfl
@[simp] theorem State.setPair_hcfg (s : State) (k : Nat) (b : Bypass) : (s.setPair k b).hcfg = s.hcfg := rfl
@[simp] theorem State.setPair_hier (s : State) (k : Nat) (b : Bypass) : (s.setPair k b).hier = s.hier := rfl
@[simp] theorem State.setPair_workers (s : State) (k : Nat) (b : Bypass) : (s.setPair k b).workers = s.workers := rfl
@[simp] theorem State.setPair_pcfg (s : State) (k : Nat) (b : Bypass) : (s.setPair k b).pcfg = s.pcfg := rfl
@[simp] theorem State.setPair_prun (s : State) (k : Nat) (b : Bypass) : (s.setPair k b).prun = s.prun := rfl
@[simp] theorem State.setPair_sesKeys (s : State) (k : Nat) (b : Bypass) : (s.setPair k b).sesKeys = s.sesKeys := rfl
@[simp] theorem State.setPair_ptp (s : State) (k : Nat) (b : Bypass) : (s.setPair k b).ptp = s.ptp := rfl
@[simp] theorem State.setPair_pal (s : State) (k : Nat) (b : Bypass) : (s.setPair k b).pal = s.pal := rfl
@[simp] theorem State.setPair_refs (s : State) (k : Nat) (b : Bypass) : (s.setPair k b).refs = s.refs := rfl
@[simp] theorem State.setPair_hams (s : State) (k : Nat) (b : Bypass) : (s.setPair k b).hams = s.hams := rfl
@[simp] theorem State.setPair_chans (s : State) (k : Nat) (b : Bypass) : (s.setPair k b).chans = s.chans := rfl
@[simp] theorem State.setPair_twinRpl (s : State) (k : Nat) (b : Bypass) : (s.setPair k b).twinRpl = s.twinRpl := rfl

@[simp] theorem State.setTb_pending (s : State) (k : Nat) (t : TBase) : (s.setTb k t).pending = s.pending := rfl
@[simp] theorem State.setTb_free (s : State) (k : Nat) (t : TBase) : (s.setTb k t).free = s.free := rfl
@[simp] theorem State.setTb_out (s : State) (k : Nat) (t : TBase) : (s.setTb k t).out = s.out := rfl
@[simp] theorem State.setTb_fused (s : State) (k : Nat) (t : TBase) : (s.setTb k t).fused = s.fused := rfl
@[simp] theorem State.setTb_tamper (s : State) (k : Nat) (t : TBase) : (s.setTb k t).tamper = s.tamper := rfl
@[simp] theorem State.setTb_mram (s : State) (k : Nat) (t : TBase) : (s.setTb k t).mram = s.mram := rfl
@[simp] theorem State.setTb_start (s : State) (k : Nat) (t : TBase) : (s.setTb k t).start = s.start := rfl
@[simp] theorem State.setTb_alarms (s : State) (k : Nat) (t : TBase) : (s.setTb k t).alarms = s.alarms := rfl
@[simp] theorem State.setTb_clk (s : State) (k : Nat) (t : TBase) : (s.setTb k t).clk = s.clk := rfl
@[simp] theorem State.setTb_axg (s : State) (k : Nat) (t : TBase) : (s.setTb k t).axg = s.axg := rfl
@[simp] theorem State.setTb_cru (s : State) (k : Nat) (t : TBase) : (s.setTb k t).cru = s.cru := rfl
@[simp] theorem State.setTb_led (s : State) (k : Nat) (t : TBase) : (s.setTb k t).led = s.led := rfl
@[simp] theorem State.setTb_sec (s : State) (k : Nat) (t : TBase) : (s.setTb k t).sec = s.sec := rfl
@[simp] theorem State.setTb_mem (s : State) (k : Nat) (t : TBase) : (s.setTb k t).mem = s.mem := rfl
@[simp] theorem State.setTb_lanes (s : State) (k : Nat) (t : TBase) : (s.setTb k t).lanes = s.lanes := rfl
@[simp] theorem State.setTb_form (s : State) (k : Nat) (t : TBase) : (s.setTb k t).form = s.form := rfl
@[simp] theorem State.setTb_ports (s : State) (k : Nat) (t : TBase) : (s.setTb k t).ports = s.ports := rfl
@[simp] theorem State.setTb_rings (s : State) (k : Nat) (t : TBase) : (s.setTb k t).rings = s.rings := rfl
@[simp] theorem State.setTb_nodes (s : State) (k : Nat) (t : TBase) : (s.setTb k t).nodes = s.nodes := rfl
@[simp] theorem State.setTb_nodeFull (s : State) (k : Nat) (t : TBase) : (s.setTb k t).nodeFull = s.nodeFull := rfl
@[simp] theorem State.setTb_bypass (s : State) (k : Nat) (t : TBase) : (s.setTb k t).bypass = s.bypass := rfl
@[simp] theorem State.setTb_fwd (s : State) (k : Nat) (t : TBase) : (s.setTb k t).fwd = s.fwd := rfl
@[simp] theorem State.setTb_buf (s : State) (k : Nat) (t : TBase) : (s.setTb k t).buf = s.buf := rfl
@[simp] theorem State.setTb_hst (s : State) (k : Nat) (t : TBase) : (s.setTb k t).hst = s.hst := rfl
@[simp] theorem State.setTb_cnt (s : State) (k : Nat) (t : TBase) : (s.setTb k t).cnt = s.cnt := rfl
@[simp] theorem State.setTb_tbs (s : State) (k : Nat) (t : TBase) : (s.setTb k t).tbs = Tab.put tbReset s.tbs k t := rfl
@[simp] theorem State.setTb_hcfg (s : State) (k : Nat) (t : TBase) : (s.setTb k t).hcfg = s.hcfg := rfl
@[simp] theorem State.setTb_hier (s : State) (k : Nat) (t : TBase) : (s.setTb k t).hier = s.hier := rfl
@[simp] theorem State.setTb_workers (s : State) (k : Nat) (t : TBase) : (s.setTb k t).workers = s.workers := rfl
@[simp] theorem State.setTb_pcfg (s : State) (k : Nat) (t : TBase) : (s.setTb k t).pcfg = s.pcfg := rfl
@[simp] theorem State.setTb_prun (s : State) (k : Nat) (t : TBase) : (s.setTb k t).prun = s.prun := rfl
@[simp] theorem State.setTb_sesKeys (s : State) (k : Nat) (t : TBase) : (s.setTb k t).sesKeys = s.sesKeys := rfl
@[simp] theorem State.setTb_ptp (s : State) (k : Nat) (t : TBase) : (s.setTb k t).ptp = s.ptp := rfl
@[simp] theorem State.setTb_pal (s : State) (k : Nat) (t : TBase) : (s.setTb k t).pal = s.pal := rfl
@[simp] theorem State.setTb_refs (s : State) (k : Nat) (t : TBase) : (s.setTb k t).refs = s.refs := rfl
@[simp] theorem State.setTb_hams (s : State) (k : Nat) (t : TBase) : (s.setTb k t).hams = s.hams := rfl
@[simp] theorem State.setTb_chans (s : State) (k : Nat) (t : TBase) : (s.setTb k t).chans = s.chans := rfl
@[simp] theorem State.setTb_twinRpl (s : State) (k : Nat) (t : TBase) : (s.setTb k t).twinRpl = s.twinRpl := rfl

@[simp] theorem State.emit_pending (s : State) (o : Output) : (s.emit o).pending = s.pending := rfl
@[simp] theorem State.emit_free (s : State) (o : Output) : (s.emit o).free = s.free := rfl
@[simp] theorem State.emit_out (s : State) (o : Output) : (s.emit o).out = s.out ++ [o] := rfl
@[simp] theorem State.emit_fused (s : State) (o : Output) : (s.emit o).fused = s.fused := rfl
@[simp] theorem State.emit_tamper (s : State) (o : Output) : (s.emit o).tamper = s.tamper := rfl
@[simp] theorem State.emit_mram (s : State) (o : Output) : (s.emit o).mram = s.mram := rfl
@[simp] theorem State.emit_start (s : State) (o : Output) : (s.emit o).start = s.start := rfl
@[simp] theorem State.emit_alarms (s : State) (o : Output) : (s.emit o).alarms = s.alarms := rfl
@[simp] theorem State.emit_clk (s : State) (o : Output) : (s.emit o).clk = s.clk := rfl
@[simp] theorem State.emit_axg (s : State) (o : Output) : (s.emit o).axg = s.axg := rfl
@[simp] theorem State.emit_cru (s : State) (o : Output) : (s.emit o).cru = s.cru := rfl
@[simp] theorem State.emit_led (s : State) (o : Output) : (s.emit o).led = s.led := rfl
@[simp] theorem State.emit_sec (s : State) (o : Output) : (s.emit o).sec = s.sec := rfl
@[simp] theorem State.emit_mem (s : State) (o : Output) : (s.emit o).mem = s.mem := rfl
@[simp] theorem State.emit_lanes (s : State) (o : Output) : (s.emit o).lanes = s.lanes := rfl
@[simp] theorem State.emit_form (s : State) (o : Output) : (s.emit o).form = s.form := rfl
@[simp] theorem State.emit_ports (s : State) (o : Output) : (s.emit o).ports = s.ports := rfl
@[simp] theorem State.emit_rings (s : State) (o : Output) : (s.emit o).rings = s.rings := rfl
@[simp] theorem State.emit_nodes (s : State) (o : Output) : (s.emit o).nodes = s.nodes := rfl
@[simp] theorem State.emit_nodeFull (s : State) (o : Output) : (s.emit o).nodeFull = s.nodeFull := rfl
@[simp] theorem State.emit_bypass (s : State) (o : Output) : (s.emit o).bypass = s.bypass := rfl
@[simp] theorem State.emit_fwd (s : State) (o : Output) : (s.emit o).fwd = s.fwd := rfl
@[simp] theorem State.emit_buf (s : State) (o : Output) : (s.emit o).buf = s.buf := rfl
@[simp] theorem State.emit_hst (s : State) (o : Output) : (s.emit o).hst = s.hst := rfl
@[simp] theorem State.emit_cnt (s : State) (o : Output) : (s.emit o).cnt = s.cnt := rfl
@[simp] theorem State.emit_tbs (s : State) (o : Output) : (s.emit o).tbs = s.tbs := rfl
@[simp] theorem State.emit_hcfg (s : State) (o : Output) : (s.emit o).hcfg = s.hcfg := rfl
@[simp] theorem State.emit_hier (s : State) (o : Output) : (s.emit o).hier = s.hier := rfl
@[simp] theorem State.emit_workers (s : State) (o : Output) : (s.emit o).workers = s.workers := rfl
@[simp] theorem State.emit_pcfg (s : State) (o : Output) : (s.emit o).pcfg = s.pcfg := rfl
@[simp] theorem State.emit_prun (s : State) (o : Output) : (s.emit o).prun = s.prun := rfl
@[simp] theorem State.emit_sesKeys (s : State) (o : Output) : (s.emit o).sesKeys = s.sesKeys := rfl
@[simp] theorem State.emit_ptp (s : State) (o : Output) : (s.emit o).ptp = s.ptp := rfl
@[simp] theorem State.emit_pal (s : State) (o : Output) : (s.emit o).pal = s.pal := rfl
@[simp] theorem State.emit_refs (s : State) (o : Output) : (s.emit o).refs = s.refs := rfl
@[simp] theorem State.emit_hams (s : State) (o : Output) : (s.emit o).hams = s.hams := rfl
@[simp] theorem State.emit_chans (s : State) (o : Output) : (s.emit o).chans = s.chans := rfl
@[simp] theorem State.emit_twinRpl (s : State) (o : Output) : (s.emit o).twinRpl = s.twinRpl := rfl

@[simp] theorem State.emits_pending (s : State) (os : List Output) : (s.emits os).pending = s.pending := rfl
@[simp] theorem State.emits_free (s : State) (os : List Output) : (s.emits os).free = s.free := rfl
@[simp] theorem State.emits_out (s : State) (os : List Output) : (s.emits os).out = s.out ++ os := rfl
@[simp] theorem State.emits_fused (s : State) (os : List Output) : (s.emits os).fused = s.fused := rfl
@[simp] theorem State.emits_tamper (s : State) (os : List Output) : (s.emits os).tamper = s.tamper := rfl
@[simp] theorem State.emits_mram (s : State) (os : List Output) : (s.emits os).mram = s.mram := rfl
@[simp] theorem State.emits_start (s : State) (os : List Output) : (s.emits os).start = s.start := rfl
@[simp] theorem State.emits_alarms (s : State) (os : List Output) : (s.emits os).alarms = s.alarms := rfl
@[simp] theorem State.emits_clk (s : State) (os : List Output) : (s.emits os).clk = s.clk := rfl
@[simp] theorem State.emits_axg (s : State) (os : List Output) : (s.emits os).axg = s.axg := rfl
@[simp] theorem State.emits_cru (s : State) (os : List Output) : (s.emits os).cru = s.cru := rfl
@[simp] theorem State.emits_led (s : State) (os : List Output) : (s.emits os).led = s.led := rfl
@[simp] theorem State.emits_sec (s : State) (os : List Output) : (s.emits os).sec = s.sec := rfl
@[simp] theorem State.emits_mem (s : State) (os : List Output) : (s.emits os).mem = s.mem := rfl
@[simp] theorem State.emits_lanes (s : State) (os : List Output) : (s.emits os).lanes = s.lanes := rfl
@[simp] theorem State.emits_form (s : State) (os : List Output) : (s.emits os).form = s.form := rfl
@[simp] theorem State.emits_ports (s : State) (os : List Output) : (s.emits os).ports = s.ports := rfl
@[simp] theorem State.emits_rings (s : State) (os : List Output) : (s.emits os).rings = s.rings := rfl
@[simp] theorem State.emits_nodes (s : State) (os : List Output) : (s.emits os).nodes = s.nodes := rfl
@[simp] theorem State.emits_nodeFull (s : State) (os : List Output) : (s.emits os).nodeFull = s.nodeFull := rfl
@[simp] theorem State.emits_bypass (s : State) (os : List Output) : (s.emits os).bypass = s.bypass := rfl
@[simp] theorem State.emits_fwd (s : State) (os : List Output) : (s.emits os).fwd = s.fwd := rfl
@[simp] theorem State.emits_buf (s : State) (os : List Output) : (s.emits os).buf = s.buf := rfl
@[simp] theorem State.emits_hst (s : State) (os : List Output) : (s.emits os).hst = s.hst := rfl
@[simp] theorem State.emits_cnt (s : State) (os : List Output) : (s.emits os).cnt = s.cnt := rfl
@[simp] theorem State.emits_tbs (s : State) (os : List Output) : (s.emits os).tbs = s.tbs := rfl
@[simp] theorem State.emits_hcfg (s : State) (os : List Output) : (s.emits os).hcfg = s.hcfg := rfl
@[simp] theorem State.emits_hier (s : State) (os : List Output) : (s.emits os).hier = s.hier := rfl
@[simp] theorem State.emits_workers (s : State) (os : List Output) : (s.emits os).workers = s.workers := rfl
@[simp] theorem State.emits_pcfg (s : State) (os : List Output) : (s.emits os).pcfg = s.pcfg := rfl
@[simp] theorem State.emits_prun (s : State) (os : List Output) : (s.emits os).prun = s.prun := rfl
@[simp] theorem State.emits_sesKeys (s : State) (os : List Output) : (s.emits os).sesKeys = s.sesKeys := rfl
@[simp] theorem State.emits_ptp (s : State) (os : List Output) : (s.emits os).ptp = s.ptp := rfl
@[simp] theorem State.emits_pal (s : State) (os : List Output) : (s.emits os).pal = s.pal := rfl
@[simp] theorem State.emits_refs (s : State) (os : List Output) : (s.emits os).refs = s.refs := rfl
@[simp] theorem State.emits_hams (s : State) (os : List Output) : (s.emits os).hams = s.hams := rfl
@[simp] theorem State.emits_chans (s : State) (os : List Output) : (s.emits os).chans = s.chans := rfl
@[simp] theorem State.emits_twinRpl (s : State) (os : List Output) : (s.emits os).twinRpl = s.twinRpl := rfl

@[simp] theorem State.charge_pending (s : State) (k : Nat) : (s.charge k).pending = s.pending := rfl
@[simp] theorem State.charge_free (s : State) (k : Nat) : (s.charge k).free = s.free := rfl
@[simp] theorem State.charge_out (s : State) (k : Nat) : (s.charge k).out = s.out := rfl
@[simp] theorem State.charge_fused (s : State) (k : Nat) : (s.charge k).fused = s.fused := rfl
@[simp] theorem State.charge_tamper (s : State) (k : Nat) : (s.charge k).tamper = s.tamper := rfl
@[simp] theorem State.charge_mram (s : State) (k : Nat) : (s.charge k).mram = s.mram := rfl
@[simp] theorem State.charge_start (s : State) (k : Nat) : (s.charge k).start = s.start := rfl
@[simp] theorem State.charge_alarms (s : State) (k : Nat) : (s.charge k).alarms = s.alarms := rfl
@[simp] theorem State.charge_clk (s : State) (k : Nat) : (s.charge k).clk = s.clk := rfl
@[simp] theorem State.charge_axg (s : State) (k : Nat) : (s.charge k).axg = s.axg := rfl
@[simp] theorem State.charge_cru (s : State) (k : Nat) : (s.charge k).cru = s.cru := rfl
@[simp] theorem State.charge_led (s : State) (k : Nat) : (s.charge k).led = { s.led with credit := s.led.credit - k } := rfl
@[simp] theorem State.charge_sec (s : State) (k : Nat) : (s.charge k).sec = s.sec := rfl
@[simp] theorem State.charge_mem (s : State) (k : Nat) : (s.charge k).mem = s.mem := rfl
@[simp] theorem State.charge_lanes (s : State) (k : Nat) : (s.charge k).lanes = s.lanes := rfl
@[simp] theorem State.charge_form (s : State) (k : Nat) : (s.charge k).form = s.form := rfl
@[simp] theorem State.charge_ports (s : State) (k : Nat) : (s.charge k).ports = s.ports := rfl
@[simp] theorem State.charge_rings (s : State) (k : Nat) : (s.charge k).rings = s.rings := rfl
@[simp] theorem State.charge_nodes (s : State) (k : Nat) : (s.charge k).nodes = s.nodes := rfl
@[simp] theorem State.charge_nodeFull (s : State) (k : Nat) : (s.charge k).nodeFull = s.nodeFull := rfl
@[simp] theorem State.charge_bypass (s : State) (k : Nat) : (s.charge k).bypass = s.bypass := rfl
@[simp] theorem State.charge_fwd (s : State) (k : Nat) : (s.charge k).fwd = s.fwd := rfl
@[simp] theorem State.charge_buf (s : State) (k : Nat) : (s.charge k).buf = s.buf := rfl
@[simp] theorem State.charge_hst (s : State) (k : Nat) : (s.charge k).hst = s.hst := rfl
@[simp] theorem State.charge_cnt (s : State) (k : Nat) : (s.charge k).cnt = s.cnt := rfl
@[simp] theorem State.charge_tbs (s : State) (k : Nat) : (s.charge k).tbs = s.tbs := rfl
@[simp] theorem State.charge_hcfg (s : State) (k : Nat) : (s.charge k).hcfg = s.hcfg := rfl
@[simp] theorem State.charge_hier (s : State) (k : Nat) : (s.charge k).hier = s.hier := rfl
@[simp] theorem State.charge_workers (s : State) (k : Nat) : (s.charge k).workers = s.workers := rfl
@[simp] theorem State.charge_pcfg (s : State) (k : Nat) : (s.charge k).pcfg = s.pcfg := rfl
@[simp] theorem State.charge_prun (s : State) (k : Nat) : (s.charge k).prun = s.prun := rfl
@[simp] theorem State.charge_sesKeys (s : State) (k : Nat) : (s.charge k).sesKeys = s.sesKeys := rfl
@[simp] theorem State.charge_ptp (s : State) (k : Nat) : (s.charge k).ptp = s.ptp := rfl
@[simp] theorem State.charge_pal (s : State) (k : Nat) : (s.charge k).pal = s.pal := rfl
@[simp] theorem State.charge_refs (s : State) (k : Nat) : (s.charge k).refs = s.refs := rfl
@[simp] theorem State.charge_hams (s : State) (k : Nat) : (s.charge k).hams = s.hams := rfl
@[simp] theorem State.charge_chans (s : State) (k : Nat) : (s.charge k).chans = s.chans := rfl
@[simp] theorem State.charge_twinRpl (s : State) (k : Nat) : (s.charge k).twinRpl = s.twinRpl := rfl

@[simp] theorem State.queueJob_pending (s : State) (code cost : Nat) (what : JobFor) : (s.queueJob code cost what).pending = s.pending := rfl
@[simp] theorem State.queueJob_free (s : State) (code cost : Nat) (what : JobFor) : (s.queueJob code cost what).free = s.free := rfl
@[simp] theorem State.queueJob_out (s : State) (code cost : Nat) (what : JobFor) : (s.queueJob code cost what).out = s.out := rfl
@[simp] theorem State.queueJob_fused (s : State) (code cost : Nat) (what : JobFor) : (s.queueJob code cost what).fused = s.fused := rfl
@[simp] theorem State.queueJob_tamper (s : State) (code cost : Nat) (what : JobFor) : (s.queueJob code cost what).tamper = s.tamper := rfl
@[simp] theorem State.queueJob_mram (s : State) (code cost : Nat) (what : JobFor) : (s.queueJob code cost what).mram = s.mram := rfl
@[simp] theorem State.queueJob_start (s : State) (code cost : Nat) (what : JobFor) : (s.queueJob code cost what).start = s.start := rfl
@[simp] theorem State.queueJob_alarms (s : State) (code cost : Nat) (what : JobFor) : (s.queueJob code cost what).alarms = s.alarms := rfl
@[simp] theorem State.queueJob_clk (s : State) (code cost : Nat) (what : JobFor) : (s.queueJob code cost what).clk = s.clk := rfl
@[simp] theorem State.queueJob_axg (s : State) (code cost : Nat) (what : JobFor) : (s.queueJob code cost what).axg = s.axg := rfl
@[simp] theorem State.queueJob_cru (s : State) (code cost : Nat) (what : JobFor) : (s.queueJob code cost what).cru = s.cru := rfl
@[simp] theorem State.queueJob_led (s : State) (code cost : Nat) (what : JobFor) : (s.queueJob code cost what).led = { s.led with waiting := insertJob { code := code, cost := cost, what := what } s.led.waiting, test := true } := rfl
@[simp] theorem State.queueJob_sec (s : State) (code cost : Nat) (what : JobFor) : (s.queueJob code cost what).sec = s.sec := rfl
@[simp] theorem State.queueJob_mem (s : State) (code cost : Nat) (what : JobFor) : (s.queueJob code cost what).mem = s.mem := rfl
@[simp] theorem State.queueJob_lanes (s : State) (code cost : Nat) (what : JobFor) : (s.queueJob code cost what).lanes = s.lanes := rfl
@[simp] theorem State.queueJob_form (s : State) (code cost : Nat) (what : JobFor) : (s.queueJob code cost what).form = s.form := rfl
@[simp] theorem State.queueJob_ports (s : State) (code cost : Nat) (what : JobFor) : (s.queueJob code cost what).ports = s.ports := rfl
@[simp] theorem State.queueJob_rings (s : State) (code cost : Nat) (what : JobFor) : (s.queueJob code cost what).rings = s.rings := rfl
@[simp] theorem State.queueJob_nodes (s : State) (code cost : Nat) (what : JobFor) : (s.queueJob code cost what).nodes = s.nodes := rfl
@[simp] theorem State.queueJob_nodeFull (s : State) (code cost : Nat) (what : JobFor) : (s.queueJob code cost what).nodeFull = s.nodeFull := rfl
@[simp] theorem State.queueJob_bypass (s : State) (code cost : Nat) (what : JobFor) : (s.queueJob code cost what).bypass = s.bypass := rfl
@[simp] theorem State.queueJob_fwd (s : State) (code cost : Nat) (what : JobFor) : (s.queueJob code cost what).fwd = s.fwd := rfl
@[simp] theorem State.queueJob_buf (s : State) (code cost : Nat) (what : JobFor) : (s.queueJob code cost what).buf = s.buf := rfl
@[simp] theorem State.queueJob_hst (s : State) (code cost : Nat) (what : JobFor) : (s.queueJob code cost what).hst = s.hst := rfl
@[simp] theorem State.queueJob_cnt (s : State) (code cost : Nat) (what : JobFor) : (s.queueJob code cost what).cnt = s.cnt := rfl
@[simp] theorem State.queueJob_tbs (s : State) (code cost : Nat) (what : JobFor) : (s.queueJob code cost what).tbs = s.tbs := rfl
@[simp] theorem State.queueJob_hcfg (s : State) (code cost : Nat) (what : JobFor) : (s.queueJob code cost what).hcfg = s.hcfg := rfl
@[simp] theorem State.queueJob_hier (s : State) (code cost : Nat) (what : JobFor) : (s.queueJob code cost what).hier = s.hier := rfl
@[simp] theorem State.queueJob_workers (s : State) (code cost : Nat) (what : JobFor) : (s.queueJob code cost what).workers = s.workers := rfl
@[simp] theorem State.queueJob_pcfg (s : State) (code cost : Nat) (what : JobFor) : (s.queueJob code cost what).pcfg = s.pcfg := rfl
@[simp] theorem State.queueJob_prun (s : State) (code cost : Nat) (what : JobFor) : (s.queueJob code cost what).prun = s.prun := rfl
@[simp] theorem State.queueJob_sesKeys (s : State) (code cost : Nat) (what : JobFor) : (s.queueJob code cost what).sesKeys = s.sesKeys := rfl
@[simp] theorem State.queueJob_ptp (s : State) (code cost : Nat) (what : JobFor) : (s.queueJob code cost what).ptp = s.ptp := rfl
@[simp] theorem State.queueJob_pal (s : State) (code cost : Nat) (what : JobFor) : (s.queueJob code cost what).pal = s.pal := rfl
@[simp] theorem State.queueJob_refs (s : State) (code cost : Nat) (what : JobFor) : (s.queueJob code cost what).refs = s.refs := rfl
@[simp] theorem State.queueJob_hams (s : State) (code cost : Nat) (what : JobFor) : (s.queueJob code cost what).hams = s.hams := rfl
@[simp] theorem State.queueJob_chans (s : State) (code cost : Nat) (what : JobFor) : (s.queueJob code cost what).chans = s.chans := rfl
@[simp] theorem State.queueJob_twinRpl (s : State) (code cost : Nat) (what : JobFor) : (s.queueJob code cost what).twinRpl = s.twinRpl := rfl

@[simp] theorem State.dropJobs_pending (s : State) (p : JobFor → Bool) : (s.dropJobs p).pending = s.pending := rfl
@[simp] theorem State.dropJobs_free (s : State) (p : JobFor → Bool) : (s.dropJobs p).free = s.free := rfl
@[simp] theorem State.dropJobs_out (s : State) (p : JobFor → Bool) : (s.dropJobs p).out = s.out := rfl
@[simp] theorem State.dropJobs_fused (s : State) (p : JobFor → Bool) : (s.dropJobs p).fused = s.fused := rfl
@[simp] theorem State.dropJobs_tamper (s : State) (p : JobFor → Bool) : (s.dropJobs p).tamper = s.tamper := rfl
@[simp] theorem State.dropJobs_mram (s : State) (p : JobFor → Bool) : (s.dropJobs p).mram = s.mram := rfl
@[simp] theorem State.dropJobs_start (s : State) (p : JobFor → Bool) : (s.dropJobs p).start = s.start := rfl
@[simp] theorem State.dropJobs_alarms (s : State) (p : JobFor → Bool) : (s.dropJobs p).alarms = s.alarms := rfl
@[simp] theorem State.dropJobs_clk (s : State) (p : JobFor → Bool) : (s.dropJobs p).clk = s.clk := rfl
@[simp] theorem State.dropJobs_axg (s : State) (p : JobFor → Bool) : (s.dropJobs p).axg = s.axg := rfl
@[simp] theorem State.dropJobs_cru (s : State) (p : JobFor → Bool) : (s.dropJobs p).cru = s.cru := rfl
@[simp] theorem State.dropJobs_led (s : State) (p : JobFor → Bool) : (s.dropJobs p).led = { s.led with waiting := s.led.waiting.filter (fun j => !p j.what) } := rfl
@[simp] theorem State.dropJobs_sec (s : State) (p : JobFor → Bool) : (s.dropJobs p).sec = s.sec := rfl
@[simp] theorem State.dropJobs_mem (s : State) (p : JobFor → Bool) : (s.dropJobs p).mem = s.mem := rfl
@[simp] theorem State.dropJobs_lanes (s : State) (p : JobFor → Bool) : (s.dropJobs p).lanes = s.lanes := rfl
@[simp] theorem State.dropJobs_form (s : State) (p : JobFor → Bool) : (s.dropJobs p).form = s.form := rfl
@[simp] theorem State.dropJobs_ports (s : State) (p : JobFor → Bool) : (s.dropJobs p).ports = s.ports := rfl
@[simp] theorem State.dropJobs_rings (s : State) (p : JobFor → Bool) : (s.dropJobs p).rings = s.rings := rfl
@[simp] theorem State.dropJobs_nodes (s : State) (p : JobFor → Bool) : (s.dropJobs p).nodes = s.nodes := rfl
@[simp] theorem State.dropJobs_nodeFull (s : State) (p : JobFor → Bool) : (s.dropJobs p).nodeFull = s.nodeFull := rfl
@[simp] theorem State.dropJobs_bypass (s : State) (p : JobFor → Bool) : (s.dropJobs p).bypass = s.bypass := rfl
@[simp] theorem State.dropJobs_fwd (s : State) (p : JobFor → Bool) : (s.dropJobs p).fwd = s.fwd := rfl
@[simp] theorem State.dropJobs_buf (s : State) (p : JobFor → Bool) : (s.dropJobs p).buf = s.buf := rfl
@[simp] theorem State.dropJobs_hst (s : State) (p : JobFor → Bool) : (s.dropJobs p).hst = s.hst := rfl
@[simp] theorem State.dropJobs_cnt (s : State) (p : JobFor → Bool) : (s.dropJobs p).cnt = s.cnt := rfl
@[simp] theorem State.dropJobs_tbs (s : State) (p : JobFor → Bool) : (s.dropJobs p).tbs = s.tbs := rfl
@[simp] theorem State.dropJobs_hcfg (s : State) (p : JobFor → Bool) : (s.dropJobs p).hcfg = s.hcfg := rfl
@[simp] theorem State.dropJobs_hier (s : State) (p : JobFor → Bool) : (s.dropJobs p).hier = s.hier := rfl
@[simp] theorem State.dropJobs_workers (s : State) (p : JobFor → Bool) : (s.dropJobs p).workers = s.workers := rfl
@[simp] theorem State.dropJobs_pcfg (s : State) (p : JobFor → Bool) : (s.dropJobs p).pcfg = s.pcfg := rfl
@[simp] theorem State.dropJobs_prun (s : State) (p : JobFor → Bool) : (s.dropJobs p).prun = s.prun := rfl
@[simp] theorem State.dropJobs_sesKeys (s : State) (p : JobFor → Bool) : (s.dropJobs p).sesKeys = s.sesKeys := rfl
@[simp] theorem State.dropJobs_ptp (s : State) (p : JobFor → Bool) : (s.dropJobs p).ptp = s.ptp := rfl
@[simp] theorem State.dropJobs_pal (s : State) (p : JobFor → Bool) : (s.dropJobs p).pal = s.pal := rfl
@[simp] theorem State.dropJobs_refs (s : State) (p : JobFor → Bool) : (s.dropJobs p).refs = s.refs := rfl
@[simp] theorem State.dropJobs_hams (s : State) (p : JobFor → Bool) : (s.dropJobs p).hams = s.hams := rfl
@[simp] theorem State.dropJobs_chans (s : State) (p : JobFor → Bool) : (s.dropJobs p).chans = s.chans := rfl
@[simp] theorem State.dropJobs_twinRpl (s : State) (p : JobFor → Bool) : (s.dropJobs p).twinRpl = s.twinRpl := rfl

@[simp] theorem State.hold_pending (s : State) (c : Ctx) (w : Work) : (s.hold c w).pending = s.pending := rfl
@[simp] theorem State.hold_free (s : State) (c : Ctx) (w : Work) : (s.hold c w).free = s.free := rfl
@[simp] theorem State.hold_out (s : State) (c : Ctx) (w : Work) : (s.hold c w).out = s.out := rfl
@[simp] theorem State.hold_fused (s : State) (c : Ctx) (w : Work) : (s.hold c w).fused = s.fused := rfl
@[simp] theorem State.hold_tamper (s : State) (c : Ctx) (w : Work) : (s.hold c w).tamper = s.tamper := rfl
@[simp] theorem State.hold_mram (s : State) (c : Ctx) (w : Work) : (s.hold c w).mram = s.mram := rfl
@[simp] theorem State.hold_start (s : State) (c : Ctx) (w : Work) : (s.hold c w).start = s.start := rfl
@[simp] theorem State.hold_alarms (s : State) (c : Ctx) (w : Work) : (s.hold c w).alarms = s.alarms := rfl
@[simp] theorem State.hold_clk (s : State) (c : Ctx) (w : Work) : (s.hold c w).clk = s.clk := rfl
@[simp] theorem State.hold_axg (s : State) (c : Ctx) (w : Work) : (s.hold c w).axg = { s.axg with jobs := s.axg.jobs ++ [{ ctx := c, work := w }] } := rfl
@[simp] theorem State.hold_cru (s : State) (c : Ctx) (w : Work) : (s.hold c w).cru = s.cru := rfl
@[simp] theorem State.hold_led (s : State) (c : Ctx) (w : Work) : (s.hold c w).led = s.led := rfl
@[simp] theorem State.hold_sec (s : State) (c : Ctx) (w : Work) : (s.hold c w).sec = s.sec := rfl
@[simp] theorem State.hold_mem (s : State) (c : Ctx) (w : Work) : (s.hold c w).mem = s.mem := rfl
@[simp] theorem State.hold_lanes (s : State) (c : Ctx) (w : Work) : (s.hold c w).lanes = s.lanes := rfl
@[simp] theorem State.hold_form (s : State) (c : Ctx) (w : Work) : (s.hold c w).form = s.form := rfl
@[simp] theorem State.hold_ports (s : State) (c : Ctx) (w : Work) : (s.hold c w).ports = s.ports := rfl
@[simp] theorem State.hold_rings (s : State) (c : Ctx) (w : Work) : (s.hold c w).rings = s.rings := rfl
@[simp] theorem State.hold_nodes (s : State) (c : Ctx) (w : Work) : (s.hold c w).nodes = s.nodes := rfl
@[simp] theorem State.hold_nodeFull (s : State) (c : Ctx) (w : Work) : (s.hold c w).nodeFull = s.nodeFull := rfl
@[simp] theorem State.hold_bypass (s : State) (c : Ctx) (w : Work) : (s.hold c w).bypass = s.bypass := rfl
@[simp] theorem State.hold_fwd (s : State) (c : Ctx) (w : Work) : (s.hold c w).fwd = s.fwd := rfl
@[simp] theorem State.hold_buf (s : State) (c : Ctx) (w : Work) : (s.hold c w).buf = s.buf := rfl
@[simp] theorem State.hold_hst (s : State) (c : Ctx) (w : Work) : (s.hold c w).hst = s.hst := rfl
@[simp] theorem State.hold_cnt (s : State) (c : Ctx) (w : Work) : (s.hold c w).cnt = s.cnt := rfl
@[simp] theorem State.hold_tbs (s : State) (c : Ctx) (w : Work) : (s.hold c w).tbs = s.tbs := rfl
@[simp] theorem State.hold_hcfg (s : State) (c : Ctx) (w : Work) : (s.hold c w).hcfg = s.hcfg := rfl
@[simp] theorem State.hold_hier (s : State) (c : Ctx) (w : Work) : (s.hold c w).hier = s.hier := rfl
@[simp] theorem State.hold_workers (s : State) (c : Ctx) (w : Work) : (s.hold c w).workers = s.workers := rfl
@[simp] theorem State.hold_pcfg (s : State) (c : Ctx) (w : Work) : (s.hold c w).pcfg = s.pcfg := rfl
@[simp] theorem State.hold_prun (s : State) (c : Ctx) (w : Work) : (s.hold c w).prun = s.prun := rfl
@[simp] theorem State.hold_sesKeys (s : State) (c : Ctx) (w : Work) : (s.hold c w).sesKeys = s.sesKeys := rfl
@[simp] theorem State.hold_ptp (s : State) (c : Ctx) (w : Work) : (s.hold c w).ptp = s.ptp := rfl
@[simp] theorem State.hold_pal (s : State) (c : Ctx) (w : Work) : (s.hold c w).pal = s.pal := rfl
@[simp] theorem State.hold_refs (s : State) (c : Ctx) (w : Work) : (s.hold c w).refs = s.refs := rfl
@[simp] theorem State.hold_hams (s : State) (c : Ctx) (w : Work) : (s.hold c w).hams = s.hams := rfl
@[simp] theorem State.hold_chans (s : State) (c : Ctx) (w : Work) : (s.hold c w).chans = s.chans := rfl
@[simp] theorem State.hold_twinRpl (s : State) (c : Ctx) (w : Work) : (s.hold c w).twinRpl = s.twinRpl := rfl

@[simp] theorem State.setHam_pending (s : State) (k : Nat) (x : Ham) : (s.setHam k x).pending = s.pending := rfl
@[simp] theorem State.setHam_free (s : State) (k : Nat) (x : Ham) : (s.setHam k x).free = s.free := rfl
@[simp] theorem State.setHam_out (s : State) (k : Nat) (x : Ham) : (s.setHam k x).out = s.out := rfl
@[simp] theorem State.setHam_fused (s : State) (k : Nat) (x : Ham) : (s.setHam k x).fused = s.fused := rfl
@[simp] theorem State.setHam_tamper (s : State) (k : Nat) (x : Ham) : (s.setHam k x).tamper = s.tamper := rfl
@[simp] theorem State.setHam_mram (s : State) (k : Nat) (x : Ham) : (s.setHam k x).mram = s.mram := rfl
@[simp] theorem State.setHam_start (s : State) (k : Nat) (x : Ham) : (s.setHam k x).start = s.start := rfl
@[simp] theorem State.setHam_alarms (s : State) (k : Nat) (x : Ham) : (s.setHam k x).alarms = s.alarms := rfl
@[simp] theorem State.setHam_clk (s : State) (k : Nat) (x : Ham) : (s.setHam k x).clk = s.clk := rfl
@[simp] theorem State.setHam_axg (s : State) (k : Nat) (x : Ham) : (s.setHam k x).axg = s.axg := rfl
@[simp] theorem State.setHam_cru (s : State) (k : Nat) (x : Ham) : (s.setHam k x).cru = s.cru := rfl
@[simp] theorem State.setHam_led (s : State) (k : Nat) (x : Ham) : (s.setHam k x).led = s.led := rfl
@[simp] theorem State.setHam_sec (s : State) (k : Nat) (x : Ham) : (s.setHam k x).sec = s.sec := rfl
@[simp] theorem State.setHam_mem (s : State) (k : Nat) (x : Ham) : (s.setHam k x).mem = s.mem := rfl
@[simp] theorem State.setHam_lanes (s : State) (k : Nat) (x : Ham) : (s.setHam k x).lanes = s.lanes := rfl
@[simp] theorem State.setHam_form (s : State) (k : Nat) (x : Ham) : (s.setHam k x).form = s.form := rfl
@[simp] theorem State.setHam_ports (s : State) (k : Nat) (x : Ham) : (s.setHam k x).ports = s.ports := rfl
@[simp] theorem State.setHam_rings (s : State) (k : Nat) (x : Ham) : (s.setHam k x).rings = s.rings := rfl
@[simp] theorem State.setHam_nodes (s : State) (k : Nat) (x : Ham) : (s.setHam k x).nodes = s.nodes := rfl
@[simp] theorem State.setHam_nodeFull (s : State) (k : Nat) (x : Ham) : (s.setHam k x).nodeFull = s.nodeFull := rfl
@[simp] theorem State.setHam_bypass (s : State) (k : Nat) (x : Ham) : (s.setHam k x).bypass = s.bypass := rfl
@[simp] theorem State.setHam_fwd (s : State) (k : Nat) (x : Ham) : (s.setHam k x).fwd = s.fwd := rfl
@[simp] theorem State.setHam_buf (s : State) (k : Nat) (x : Ham) : (s.setHam k x).buf = s.buf := rfl
@[simp] theorem State.setHam_hst (s : State) (k : Nat) (x : Ham) : (s.setHam k x).hst = s.hst := rfl
@[simp] theorem State.setHam_cnt (s : State) (k : Nat) (x : Ham) : (s.setHam k x).cnt = s.cnt := rfl
@[simp] theorem State.setHam_tbs (s : State) (k : Nat) (x : Ham) : (s.setHam k x).tbs = s.tbs := rfl
@[simp] theorem State.setHam_hcfg (s : State) (k : Nat) (x : Ham) : (s.setHam k x).hcfg = s.hcfg := rfl
@[simp] theorem State.setHam_hier (s : State) (k : Nat) (x : Ham) : (s.setHam k x).hier = s.hier := rfl
@[simp] theorem State.setHam_workers (s : State) (k : Nat) (x : Ham) : (s.setHam k x).workers = s.workers := rfl
@[simp] theorem State.setHam_pcfg (s : State) (k : Nat) (x : Ham) : (s.setHam k x).pcfg = s.pcfg := rfl
@[simp] theorem State.setHam_prun (s : State) (k : Nat) (x : Ham) : (s.setHam k x).prun = s.prun := rfl
@[simp] theorem State.setHam_sesKeys (s : State) (k : Nat) (x : Ham) : (s.setHam k x).sesKeys = s.sesKeys := rfl
@[simp] theorem State.setHam_ptp (s : State) (k : Nat) (x : Ham) : (s.setHam k x).ptp = s.ptp := rfl
@[simp] theorem State.setHam_pal (s : State) (k : Nat) (x : Ham) : (s.setHam k x).pal = s.pal := rfl
@[simp] theorem State.setHam_refs (s : State) (k : Nat) (x : Ham) : (s.setHam k x).refs = s.refs := rfl
@[simp] theorem State.setHam_hams (s : State) (k : Nat) (x : Ham) : (s.setHam k x).hams = Tab.put hamReset s.hams k x := rfl
@[simp] theorem State.setHam_chans (s : State) (k : Nat) (x : Ham) : (s.setHam k x).chans = s.chans := rfl
@[simp] theorem State.setHam_twinRpl (s : State) (k : Nat) (x : Ham) : (s.setHam k x).twinRpl = s.twinRpl := rfl

@[simp] theorem State.setChan_pending (s : State) (k : Nat) (x : Chan) : (s.setChan k x).pending = s.pending := rfl
@[simp] theorem State.setChan_free (s : State) (k : Nat) (x : Chan) : (s.setChan k x).free = s.free := rfl
@[simp] theorem State.setChan_out (s : State) (k : Nat) (x : Chan) : (s.setChan k x).out = s.out := rfl
@[simp] theorem State.setChan_fused (s : State) (k : Nat) (x : Chan) : (s.setChan k x).fused = s.fused := rfl
@[simp] theorem State.setChan_tamper (s : State) (k : Nat) (x : Chan) : (s.setChan k x).tamper = s.tamper := rfl
@[simp] theorem State.setChan_mram (s : State) (k : Nat) (x : Chan) : (s.setChan k x).mram = s.mram := rfl
@[simp] theorem State.setChan_start (s : State) (k : Nat) (x : Chan) : (s.setChan k x).start = s.start := rfl
@[simp] theorem State.setChan_alarms (s : State) (k : Nat) (x : Chan) : (s.setChan k x).alarms = s.alarms := rfl
@[simp] theorem State.setChan_clk (s : State) (k : Nat) (x : Chan) : (s.setChan k x).clk = s.clk := rfl
@[simp] theorem State.setChan_axg (s : State) (k : Nat) (x : Chan) : (s.setChan k x).axg = s.axg := rfl
@[simp] theorem State.setChan_cru (s : State) (k : Nat) (x : Chan) : (s.setChan k x).cru = s.cru := rfl
@[simp] theorem State.setChan_led (s : State) (k : Nat) (x : Chan) : (s.setChan k x).led = s.led := rfl
@[simp] theorem State.setChan_sec (s : State) (k : Nat) (x : Chan) : (s.setChan k x).sec = s.sec := rfl
@[simp] theorem State.setChan_mem (s : State) (k : Nat) (x : Chan) : (s.setChan k x).mem = s.mem := rfl
@[simp] theorem State.setChan_lanes (s : State) (k : Nat) (x : Chan) : (s.setChan k x).lanes = s.lanes := rfl
@[simp] theorem State.setChan_form (s : State) (k : Nat) (x : Chan) : (s.setChan k x).form = s.form := rfl
@[simp] theorem State.setChan_ports (s : State) (k : Nat) (x : Chan) : (s.setChan k x).ports = s.ports := rfl
@[simp] theorem State.setChan_rings (s : State) (k : Nat) (x : Chan) : (s.setChan k x).rings = s.rings := rfl
@[simp] theorem State.setChan_nodes (s : State) (k : Nat) (x : Chan) : (s.setChan k x).nodes = s.nodes := rfl
@[simp] theorem State.setChan_nodeFull (s : State) (k : Nat) (x : Chan) : (s.setChan k x).nodeFull = s.nodeFull := rfl
@[simp] theorem State.setChan_bypass (s : State) (k : Nat) (x : Chan) : (s.setChan k x).bypass = s.bypass := rfl
@[simp] theorem State.setChan_fwd (s : State) (k : Nat) (x : Chan) : (s.setChan k x).fwd = s.fwd := rfl
@[simp] theorem State.setChan_buf (s : State) (k : Nat) (x : Chan) : (s.setChan k x).buf = s.buf := rfl
@[simp] theorem State.setChan_hst (s : State) (k : Nat) (x : Chan) : (s.setChan k x).hst = s.hst := rfl
@[simp] theorem State.setChan_cnt (s : State) (k : Nat) (x : Chan) : (s.setChan k x).cnt = s.cnt := rfl
@[simp] theorem State.setChan_tbs (s : State) (k : Nat) (x : Chan) : (s.setChan k x).tbs = s.tbs := rfl
@[simp] theorem State.setChan_hcfg (s : State) (k : Nat) (x : Chan) : (s.setChan k x).hcfg = s.hcfg := rfl
@[simp] theorem State.setChan_hier (s : State) (k : Nat) (x : Chan) : (s.setChan k x).hier = s.hier := rfl
@[simp] theorem State.setChan_workers (s : State) (k : Nat) (x : Chan) : (s.setChan k x).workers = s.workers := rfl
@[simp] theorem State.setChan_pcfg (s : State) (k : Nat) (x : Chan) : (s.setChan k x).pcfg = s.pcfg := rfl
@[simp] theorem State.setChan_prun (s : State) (k : Nat) (x : Chan) : (s.setChan k x).prun = s.prun := rfl
@[simp] theorem State.setChan_sesKeys (s : State) (k : Nat) (x : Chan) : (s.setChan k x).sesKeys = s.sesKeys := rfl
@[simp] theorem State.setChan_ptp (s : State) (k : Nat) (x : Chan) : (s.setChan k x).ptp = s.ptp := rfl
@[simp] theorem State.setChan_pal (s : State) (k : Nat) (x : Chan) : (s.setChan k x).pal = s.pal := rfl
@[simp] theorem State.setChan_refs (s : State) (k : Nat) (x : Chan) : (s.setChan k x).refs = s.refs := rfl
@[simp] theorem State.setChan_hams (s : State) (k : Nat) (x : Chan) : (s.setChan k x).hams = s.hams := rfl
@[simp] theorem State.setChan_chans (s : State) (k : Nat) (x : Chan) : (s.setChan k x).chans = Tab.put chanReset s.chans k x := rfl
@[simp] theorem State.setChan_twinRpl (s : State) (k : Nat) (x : Chan) : (s.setChan k x).twinRpl = s.twinRpl := rfl

@[simp] theorem State.setSession_pending (s : State) (sid : Nat) (x : Session) : (s.setSession sid x).pending = s.pending := rfl
@[simp] theorem State.setSession_free (s : State) (sid : Nat) (x : Session) : (s.setSession sid x).free = s.free := rfl
@[simp] theorem State.setSession_out (s : State) (sid : Nat) (x : Session) : (s.setSession sid x).out = s.out := rfl
@[simp] theorem State.setSession_fused (s : State) (sid : Nat) (x : Session) : (s.setSession sid x).fused = s.fused := rfl
@[simp] theorem State.setSession_tamper (s : State) (sid : Nat) (x : Session) : (s.setSession sid x).tamper = s.tamper := rfl
@[simp] theorem State.setSession_mram (s : State) (sid : Nat) (x : Session) : (s.setSession sid x).mram = s.mram := rfl
@[simp] theorem State.setSession_start (s : State) (sid : Nat) (x : Session) : (s.setSession sid x).start = s.start := rfl
@[simp] theorem State.setSession_alarms (s : State) (sid : Nat) (x : Session) : (s.setSession sid x).alarms = s.alarms := rfl
@[simp] theorem State.setSession_clk (s : State) (sid : Nat) (x : Session) : (s.setSession sid x).clk = s.clk := rfl
@[simp] theorem State.setSession_axg (s : State) (sid : Nat) (x : Session) : (s.setSession sid x).axg = s.axg := rfl
@[simp] theorem State.setSession_cru (s : State) (sid : Nat) (x : Session) : (s.setSession sid x).cru = s.cru := rfl
@[simp] theorem State.setSession_led (s : State) (sid : Nat) (x : Session) : (s.setSession sid x).led = s.led := rfl
@[simp] theorem State.setSession_sec (s : State) (sid : Nat) (x : Session) : (s.setSession sid x).sec = s.sec := rfl
@[simp] theorem State.setSession_mem (s : State) (sid : Nat) (x : Session) : (s.setSession sid x).mem = s.mem := rfl
@[simp] theorem State.setSession_lanes (s : State) (sid : Nat) (x : Session) : (s.setSession sid x).lanes = s.lanes := rfl
@[simp] theorem State.setSession_form (s : State) (sid : Nat) (x : Session) : (s.setSession sid x).form = s.form := rfl
@[simp] theorem State.setSession_ports (s : State) (sid : Nat) (x : Session) : (s.setSession sid x).ports = s.ports := rfl
@[simp] theorem State.setSession_rings (s : State) (sid : Nat) (x : Session) : (s.setSession sid x).rings = s.rings := rfl
@[simp] theorem State.setSession_nodes (s : State) (sid : Nat) (x : Session) : (s.setSession sid x).nodes = s.nodes := rfl
@[simp] theorem State.setSession_nodeFull (s : State) (sid : Nat) (x : Session) : (s.setSession sid x).nodeFull = s.nodeFull := rfl
@[simp] theorem State.setSession_bypass (s : State) (sid : Nat) (x : Session) : (s.setSession sid x).bypass = s.bypass := rfl
@[simp] theorem State.setSession_fwd (s : State) (sid : Nat) (x : Session) : (s.setSession sid x).fwd = s.fwd := rfl
@[simp] theorem State.setSession_buf (s : State) (sid : Nat) (x : Session) : (s.setSession sid x).buf = s.buf := rfl
@[simp] theorem State.setSession_hst (s : State) (sid : Nat) (x : Session) : (s.setSession sid x).hst = s.hst := rfl
@[simp] theorem State.setSession_cnt (s : State) (sid : Nat) (x : Session) : (s.setSession sid x).cnt = s.cnt := rfl
@[simp] theorem State.setSession_tbs (s : State) (sid : Nat) (x : Session) : (s.setSession sid x).tbs = s.tbs := rfl
@[simp] theorem State.setSession_hcfg (s : State) (sid : Nat) (x : Session) : (s.setSession sid x).hcfg = s.hcfg := rfl
@[simp] theorem State.setSession_hier (s : State) (sid : Nat) (x : Session) : (s.setSession sid x).hier = s.hier := rfl
@[simp] theorem State.setSession_workers (s : State) (sid : Nat) (x : Session) : (s.setSession sid x).workers = s.workers := rfl
@[simp] theorem State.setSession_pcfg (s : State) (sid : Nat) (x : Session) : (s.setSession sid x).pcfg = s.pcfg := rfl
@[simp] theorem State.setSession_prun (s : State) (sid : Nat) (x : Session) : (s.setSession sid x).prun = s.prun := rfl
@[simp] theorem State.setSession_sesKeys (s : State) (sid : Nat) (x : Session) : (s.setSession sid x).sesKeys = s.sesKeys := rfl
@[simp] theorem State.setSession_ptp (s : State) (sid : Nat) (x : Session) : (s.setSession sid x).ptp = { s.ptp with sessions := Tab.insert s.ptp.sessions sid x } := rfl
@[simp] theorem State.setSession_pal (s : State) (sid : Nat) (x : Session) : (s.setSession sid x).pal = s.pal := rfl
@[simp] theorem State.setSession_refs (s : State) (sid : Nat) (x : Session) : (s.setSession sid x).refs = s.refs := rfl
@[simp] theorem State.setSession_hams (s : State) (sid : Nat) (x : Session) : (s.setSession sid x).hams = s.hams := rfl
@[simp] theorem State.setSession_chans (s : State) (sid : Nat) (x : Session) : (s.setSession sid x).chans = s.chans := rfl
@[simp] theorem State.setSession_twinRpl (s : State) (sid : Nat) (x : Session) : (s.setSession sid x).twinRpl = s.twinRpl := rfl

@[simp] theorem State.setServo_pending (s : State) (n : Nat) (v : Servo) : (s.setServo n v).pending = s.pending := rfl
@[simp] theorem State.setServo_free (s : State) (n : Nat) (v : Servo) : (s.setServo n v).free = s.free := rfl
@[simp] theorem State.setServo_out (s : State) (n : Nat) (v : Servo) : (s.setServo n v).out = s.out := rfl
@[simp] theorem State.setServo_fused (s : State) (n : Nat) (v : Servo) : (s.setServo n v).fused = s.fused := rfl
@[simp] theorem State.setServo_tamper (s : State) (n : Nat) (v : Servo) : (s.setServo n v).tamper = s.tamper := rfl
@[simp] theorem State.setServo_mram (s : State) (n : Nat) (v : Servo) : (s.setServo n v).mram = s.mram := rfl
@[simp] theorem State.setServo_start (s : State) (n : Nat) (v : Servo) : (s.setServo n v).start = s.start := rfl
@[simp] theorem State.setServo_alarms (s : State) (n : Nat) (v : Servo) : (s.setServo n v).alarms = s.alarms := rfl
@[simp] theorem State.setServo_clk (s : State) (n : Nat) (v : Servo) : (s.setServo n v).clk = s.clk := rfl
@[simp] theorem State.setServo_axg (s : State) (n : Nat) (v : Servo) : (s.setServo n v).axg = s.axg := rfl
@[simp] theorem State.setServo_cru (s : State) (n : Nat) (v : Servo) : (s.setServo n v).cru = s.cru := rfl
@[simp] theorem State.setServo_led (s : State) (n : Nat) (v : Servo) : (s.setServo n v).led = s.led := rfl
@[simp] theorem State.setServo_sec (s : State) (n : Nat) (v : Servo) : (s.setServo n v).sec = s.sec := rfl
@[simp] theorem State.setServo_mem (s : State) (n : Nat) (v : Servo) : (s.setServo n v).mem = s.mem := rfl
@[simp] theorem State.setServo_lanes (s : State) (n : Nat) (v : Servo) : (s.setServo n v).lanes = s.lanes := rfl
@[simp] theorem State.setServo_form (s : State) (n : Nat) (v : Servo) : (s.setServo n v).form = s.form := rfl
@[simp] theorem State.setServo_ports (s : State) (n : Nat) (v : Servo) : (s.setServo n v).ports = s.ports := rfl
@[simp] theorem State.setServo_rings (s : State) (n : Nat) (v : Servo) : (s.setServo n v).rings = s.rings := rfl
@[simp] theorem State.setServo_nodes (s : State) (n : Nat) (v : Servo) : (s.setServo n v).nodes = s.nodes := rfl
@[simp] theorem State.setServo_nodeFull (s : State) (n : Nat) (v : Servo) : (s.setServo n v).nodeFull = s.nodeFull := rfl
@[simp] theorem State.setServo_bypass (s : State) (n : Nat) (v : Servo) : (s.setServo n v).bypass = s.bypass := rfl
@[simp] theorem State.setServo_fwd (s : State) (n : Nat) (v : Servo) : (s.setServo n v).fwd = s.fwd := rfl
@[simp] theorem State.setServo_buf (s : State) (n : Nat) (v : Servo) : (s.setServo n v).buf = s.buf := rfl
@[simp] theorem State.setServo_hst (s : State) (n : Nat) (v : Servo) : (s.setServo n v).hst = s.hst := rfl
@[simp] theorem State.setServo_cnt (s : State) (n : Nat) (v : Servo) : (s.setServo n v).cnt = s.cnt := rfl
@[simp] theorem State.setServo_tbs (s : State) (n : Nat) (v : Servo) : (s.setServo n v).tbs = s.tbs := rfl
@[simp] theorem State.setServo_hcfg (s : State) (n : Nat) (v : Servo) : (s.setServo n v).hcfg = s.hcfg := rfl
@[simp] theorem State.setServo_hier (s : State) (n : Nat) (v : Servo) : (s.setServo n v).hier = s.hier := rfl
@[simp] theorem State.setServo_workers (s : State) (n : Nat) (v : Servo) : (s.setServo n v).workers = s.workers := rfl
@[simp] theorem State.setServo_pcfg (s : State) (n : Nat) (v : Servo) : (s.setServo n v).pcfg = s.pcfg := rfl
@[simp] theorem State.setServo_prun (s : State) (n : Nat) (v : Servo) : (s.setServo n v).prun = s.prun := rfl
@[simp] theorem State.setServo_sesKeys (s : State) (n : Nat) (v : Servo) : (s.setServo n v).sesKeys = s.sesKeys := rfl
@[simp] theorem State.setServo_ptp (s : State) (n : Nat) (v : Servo) : (s.setServo n v).ptp = { s.ptp with servos := Tab.put servoReset s.ptp.servos n v } := rfl
@[simp] theorem State.setServo_pal (s : State) (n : Nat) (v : Servo) : (s.setServo n v).pal = s.pal := rfl
@[simp] theorem State.setServo_refs (s : State) (n : Nat) (v : Servo) : (s.setServo n v).refs = s.refs := rfl
@[simp] theorem State.setServo_hams (s : State) (n : Nat) (v : Servo) : (s.setServo n v).hams = s.hams := rfl
@[simp] theorem State.setServo_chans (s : State) (n : Nat) (v : Servo) : (s.setServo n v).chans = s.chans := rfl
@[simp] theorem State.setServo_twinRpl (s : State) (n : Nat) (v : Servo) : (s.setServo n v).twinRpl = s.twinRpl := rfl

@[simp] theorem State.setEsmc_pending (s : State) (p : Nat) (e : Esmc) : (s.setEsmc p e).pending = s.pending := rfl
@[simp] theorem State.setEsmc_free (s : State) (p : Nat) (e : Esmc) : (s.setEsmc p e).free = s.free := rfl
@[simp] theorem State.setEsmc_out (s : State) (p : Nat) (e : Esmc) : (s.setEsmc p e).out = s.out := rfl
@[simp] theorem State.setEsmc_fused (s : State) (p : Nat) (e : Esmc) : (s.setEsmc p e).fused = s.fused := rfl
@[simp] theorem State.setEsmc_tamper (s : State) (p : Nat) (e : Esmc) : (s.setEsmc p e).tamper = s.tamper := rfl
@[simp] theorem State.setEsmc_mram (s : State) (p : Nat) (e : Esmc) : (s.setEsmc p e).mram = s.mram := rfl
@[simp] theorem State.setEsmc_start (s : State) (p : Nat) (e : Esmc) : (s.setEsmc p e).start = s.start := rfl
@[simp] theorem State.setEsmc_alarms (s : State) (p : Nat) (e : Esmc) : (s.setEsmc p e).alarms = s.alarms := rfl
@[simp] theorem State.setEsmc_clk (s : State) (p : Nat) (e : Esmc) : (s.setEsmc p e).clk = s.clk := rfl
@[simp] theorem State.setEsmc_axg (s : State) (p : Nat) (e : Esmc) : (s.setEsmc p e).axg = s.axg := rfl
@[simp] theorem State.setEsmc_cru (s : State) (p : Nat) (e : Esmc) : (s.setEsmc p e).cru = s.cru := rfl
@[simp] theorem State.setEsmc_led (s : State) (p : Nat) (e : Esmc) : (s.setEsmc p e).led = s.led := rfl
@[simp] theorem State.setEsmc_sec (s : State) (p : Nat) (e : Esmc) : (s.setEsmc p e).sec = s.sec := rfl
@[simp] theorem State.setEsmc_mem (s : State) (p : Nat) (e : Esmc) : (s.setEsmc p e).mem = s.mem := rfl
@[simp] theorem State.setEsmc_lanes (s : State) (p : Nat) (e : Esmc) : (s.setEsmc p e).lanes = s.lanes := rfl
@[simp] theorem State.setEsmc_form (s : State) (p : Nat) (e : Esmc) : (s.setEsmc p e).form = s.form := rfl
@[simp] theorem State.setEsmc_ports (s : State) (p : Nat) (e : Esmc) : (s.setEsmc p e).ports = s.ports := rfl
@[simp] theorem State.setEsmc_rings (s : State) (p : Nat) (e : Esmc) : (s.setEsmc p e).rings = s.rings := rfl
@[simp] theorem State.setEsmc_nodes (s : State) (p : Nat) (e : Esmc) : (s.setEsmc p e).nodes = s.nodes := rfl
@[simp] theorem State.setEsmc_nodeFull (s : State) (p : Nat) (e : Esmc) : (s.setEsmc p e).nodeFull = s.nodeFull := rfl
@[simp] theorem State.setEsmc_bypass (s : State) (p : Nat) (e : Esmc) : (s.setEsmc p e).bypass = s.bypass := rfl
@[simp] theorem State.setEsmc_fwd (s : State) (p : Nat) (e : Esmc) : (s.setEsmc p e).fwd = s.fwd := rfl
@[simp] theorem State.setEsmc_buf (s : State) (p : Nat) (e : Esmc) : (s.setEsmc p e).buf = s.buf := rfl
@[simp] theorem State.setEsmc_hst (s : State) (p : Nat) (e : Esmc) : (s.setEsmc p e).hst = s.hst := rfl
@[simp] theorem State.setEsmc_cnt (s : State) (p : Nat) (e : Esmc) : (s.setEsmc p e).cnt = s.cnt := rfl
@[simp] theorem State.setEsmc_tbs (s : State) (p : Nat) (e : Esmc) : (s.setEsmc p e).tbs = s.tbs := rfl
@[simp] theorem State.setEsmc_hcfg (s : State) (p : Nat) (e : Esmc) : (s.setEsmc p e).hcfg = s.hcfg := rfl
@[simp] theorem State.setEsmc_hier (s : State) (p : Nat) (e : Esmc) : (s.setEsmc p e).hier = s.hier := rfl
@[simp] theorem State.setEsmc_workers (s : State) (p : Nat) (e : Esmc) : (s.setEsmc p e).workers = s.workers := rfl
@[simp] theorem State.setEsmc_pcfg (s : State) (p : Nat) (e : Esmc) : (s.setEsmc p e).pcfg = s.pcfg := rfl
@[simp] theorem State.setEsmc_prun (s : State) (p : Nat) (e : Esmc) : (s.setEsmc p e).prun = s.prun := rfl
@[simp] theorem State.setEsmc_sesKeys (s : State) (p : Nat) (e : Esmc) : (s.setEsmc p e).sesKeys = s.sesKeys := rfl
@[simp] theorem State.setEsmc_ptp (s : State) (p : Nat) (e : Esmc) : (s.setEsmc p e).ptp = { s.ptp with esmc := Tab.put esmcReset s.ptp.esmc p e } := rfl
@[simp] theorem State.setEsmc_pal (s : State) (p : Nat) (e : Esmc) : (s.setEsmc p e).pal = s.pal := rfl
@[simp] theorem State.setEsmc_refs (s : State) (p : Nat) (e : Esmc) : (s.setEsmc p e).refs = s.refs := rfl
@[simp] theorem State.setEsmc_hams (s : State) (p : Nat) (e : Esmc) : (s.setEsmc p e).hams = s.hams := rfl
@[simp] theorem State.setEsmc_chans (s : State) (p : Nat) (e : Esmc) : (s.setEsmc p e).chans = s.chans := rfl
@[simp] theorem State.setEsmc_twinRpl (s : State) (p : Nat) (e : Esmc) : (s.setEsmc p e).twinRpl = s.twinRpl := rfl

@[simp] theorem State.setRefRun_pending (s : State) (k : Nat) (r : RefRun) : (s.setRefRun k r).pending = s.pending := rfl
@[simp] theorem State.setRefRun_free (s : State) (k : Nat) (r : RefRun) : (s.setRefRun k r).free = s.free := rfl
@[simp] theorem State.setRefRun_out (s : State) (k : Nat) (r : RefRun) : (s.setRefRun k r).out = s.out := rfl
@[simp] theorem State.setRefRun_fused (s : State) (k : Nat) (r : RefRun) : (s.setRefRun k r).fused = s.fused := rfl
@[simp] theorem State.setRefRun_tamper (s : State) (k : Nat) (r : RefRun) : (s.setRefRun k r).tamper = s.tamper := rfl
@[simp] theorem State.setRefRun_mram (s : State) (k : Nat) (r : RefRun) : (s.setRefRun k r).mram = s.mram := rfl
@[simp] theorem State.setRefRun_start (s : State) (k : Nat) (r : RefRun) : (s.setRefRun k r).start = s.start := rfl
@[simp] theorem State.setRefRun_alarms (s : State) (k : Nat) (r : RefRun) : (s.setRefRun k r).alarms = s.alarms := rfl
@[simp] theorem State.setRefRun_clk (s : State) (k : Nat) (r : RefRun) : (s.setRefRun k r).clk = s.clk := rfl
@[simp] theorem State.setRefRun_axg (s : State) (k : Nat) (r : RefRun) : (s.setRefRun k r).axg = s.axg := rfl
@[simp] theorem State.setRefRun_cru (s : State) (k : Nat) (r : RefRun) : (s.setRefRun k r).cru = s.cru := rfl
@[simp] theorem State.setRefRun_led (s : State) (k : Nat) (r : RefRun) : (s.setRefRun k r).led = s.led := rfl
@[simp] theorem State.setRefRun_sec (s : State) (k : Nat) (r : RefRun) : (s.setRefRun k r).sec = s.sec := rfl
@[simp] theorem State.setRefRun_mem (s : State) (k : Nat) (r : RefRun) : (s.setRefRun k r).mem = s.mem := rfl
@[simp] theorem State.setRefRun_lanes (s : State) (k : Nat) (r : RefRun) : (s.setRefRun k r).lanes = s.lanes := rfl
@[simp] theorem State.setRefRun_form (s : State) (k : Nat) (r : RefRun) : (s.setRefRun k r).form = s.form := rfl
@[simp] theorem State.setRefRun_ports (s : State) (k : Nat) (r : RefRun) : (s.setRefRun k r).ports = s.ports := rfl
@[simp] theorem State.setRefRun_rings (s : State) (k : Nat) (r : RefRun) : (s.setRefRun k r).rings = s.rings := rfl
@[simp] theorem State.setRefRun_nodes (s : State) (k : Nat) (r : RefRun) : (s.setRefRun k r).nodes = s.nodes := rfl
@[simp] theorem State.setRefRun_nodeFull (s : State) (k : Nat) (r : RefRun) : (s.setRefRun k r).nodeFull = s.nodeFull := rfl
@[simp] theorem State.setRefRun_bypass (s : State) (k : Nat) (r : RefRun) : (s.setRefRun k r).bypass = s.bypass := rfl
@[simp] theorem State.setRefRun_fwd (s : State) (k : Nat) (r : RefRun) : (s.setRefRun k r).fwd = s.fwd := rfl
@[simp] theorem State.setRefRun_buf (s : State) (k : Nat) (r : RefRun) : (s.setRefRun k r).buf = s.buf := rfl
@[simp] theorem State.setRefRun_hst (s : State) (k : Nat) (r : RefRun) : (s.setRefRun k r).hst = s.hst := rfl
@[simp] theorem State.setRefRun_cnt (s : State) (k : Nat) (r : RefRun) : (s.setRefRun k r).cnt = s.cnt := rfl
@[simp] theorem State.setRefRun_tbs (s : State) (k : Nat) (r : RefRun) : (s.setRefRun k r).tbs = s.tbs := rfl
@[simp] theorem State.setRefRun_hcfg (s : State) (k : Nat) (r : RefRun) : (s.setRefRun k r).hcfg = s.hcfg := rfl
@[simp] theorem State.setRefRun_hier (s : State) (k : Nat) (r : RefRun) : (s.setRefRun k r).hier = s.hier := rfl
@[simp] theorem State.setRefRun_workers (s : State) (k : Nat) (r : RefRun) : (s.setRefRun k r).workers = s.workers := rfl
@[simp] theorem State.setRefRun_pcfg (s : State) (k : Nat) (r : RefRun) : (s.setRefRun k r).pcfg = s.pcfg := rfl
@[simp] theorem State.setRefRun_prun (s : State) (k : Nat) (r : RefRun) : (s.setRefRun k r).prun = s.prun := rfl
@[simp] theorem State.setRefRun_sesKeys (s : State) (k : Nat) (r : RefRun) : (s.setRefRun k r).sesKeys = s.sesKeys := rfl
@[simp] theorem State.setRefRun_ptp (s : State) (k : Nat) (r : RefRun) : (s.setRefRun k r).ptp = s.ptp := rfl
@[simp] theorem State.setRefRun_pal (s : State) (k : Nat) (r : RefRun) : (s.setRefRun k r).pal = s.pal := rfl
@[simp] theorem State.setRefRun_refs (s : State) (k : Nat) (r : RefRun) : (s.setRefRun k r).refs = { s.refs with runs := Tab.put refRunReset s.refs.runs k r } := rfl
@[simp] theorem State.setRefRun_hams (s : State) (k : Nat) (r : RefRun) : (s.setRefRun k r).hams = s.hams := rfl
@[simp] theorem State.setRefRun_chans (s : State) (k : Nat) (r : RefRun) : (s.setRefRun k r).chans = s.chans := rfl
@[simp] theorem State.setRefRun_twinRpl (s : State) (k : Nat) (r : RefRun) : (s.setRefRun k r).twinRpl = s.twinRpl := rfl

@[simp] theorem State.setProg_pending (s : State) (k : Nat) (c : Cnt) : (s.setProg k c).pending = s.pending := rfl
@[simp] theorem State.setProg_free (s : State) (k : Nat) (c : Cnt) : (s.setProg k c).free = s.free := rfl
@[simp] theorem State.setProg_out (s : State) (k : Nat) (c : Cnt) : (s.setProg k c).out = s.out := rfl
@[simp] theorem State.setProg_fused (s : State) (k : Nat) (c : Cnt) : (s.setProg k c).fused = s.fused := rfl
@[simp] theorem State.setProg_tamper (s : State) (k : Nat) (c : Cnt) : (s.setProg k c).tamper = s.tamper := rfl
@[simp] theorem State.setProg_mram (s : State) (k : Nat) (c : Cnt) : (s.setProg k c).mram = s.mram := rfl
@[simp] theorem State.setProg_start (s : State) (k : Nat) (c : Cnt) : (s.setProg k c).start = s.start := rfl
@[simp] theorem State.setProg_alarms (s : State) (k : Nat) (c : Cnt) : (s.setProg k c).alarms = s.alarms := rfl
@[simp] theorem State.setProg_clk (s : State) (k : Nat) (c : Cnt) : (s.setProg k c).clk = s.clk := rfl
@[simp] theorem State.setProg_axg (s : State) (k : Nat) (c : Cnt) : (s.setProg k c).axg = s.axg := rfl
@[simp] theorem State.setProg_cru (s : State) (k : Nat) (c : Cnt) : (s.setProg k c).cru = s.cru := rfl
@[simp] theorem State.setProg_led (s : State) (k : Nat) (c : Cnt) : (s.setProg k c).led = s.led := rfl
@[simp] theorem State.setProg_sec (s : State) (k : Nat) (c : Cnt) : (s.setProg k c).sec = s.sec := rfl
@[simp] theorem State.setProg_mem (s : State) (k : Nat) (c : Cnt) : (s.setProg k c).mem = s.mem := rfl
@[simp] theorem State.setProg_lanes (s : State) (k : Nat) (c : Cnt) : (s.setProg k c).lanes = s.lanes := rfl
@[simp] theorem State.setProg_form (s : State) (k : Nat) (c : Cnt) : (s.setProg k c).form = s.form := rfl
@[simp] theorem State.setProg_ports (s : State) (k : Nat) (c : Cnt) : (s.setProg k c).ports = s.ports := rfl
@[simp] theorem State.setProg_rings (s : State) (k : Nat) (c : Cnt) : (s.setProg k c).rings = s.rings := rfl
@[simp] theorem State.setProg_nodes (s : State) (k : Nat) (c : Cnt) : (s.setProg k c).nodes = s.nodes := rfl
@[simp] theorem State.setProg_nodeFull (s : State) (k : Nat) (c : Cnt) : (s.setProg k c).nodeFull = s.nodeFull := rfl
@[simp] theorem State.setProg_bypass (s : State) (k : Nat) (c : Cnt) : (s.setProg k c).bypass = s.bypass := rfl
@[simp] theorem State.setProg_fwd (s : State) (k : Nat) (c : Cnt) : (s.setProg k c).fwd = s.fwd := rfl
@[simp] theorem State.setProg_buf (s : State) (k : Nat) (c : Cnt) : (s.setProg k c).buf = s.buf := rfl
@[simp] theorem State.setProg_hst (s : State) (k : Nat) (c : Cnt) : (s.setProg k c).hst = s.hst := rfl
@[simp] theorem State.setProg_cnt (s : State) (k : Nat) (c : Cnt) : (s.setProg k c).cnt = { s.cnt with prog := Tab.put cntReset s.cnt.prog k c } := rfl
@[simp] theorem State.setProg_tbs (s : State) (k : Nat) (c : Cnt) : (s.setProg k c).tbs = s.tbs := rfl
@[simp] theorem State.setProg_hcfg (s : State) (k : Nat) (c : Cnt) : (s.setProg k c).hcfg = s.hcfg := rfl
@[simp] theorem State.setProg_hier (s : State) (k : Nat) (c : Cnt) : (s.setProg k c).hier = s.hier := rfl
@[simp] theorem State.setProg_workers (s : State) (k : Nat) (c : Cnt) : (s.setProg k c).workers = s.workers := rfl
@[simp] theorem State.setProg_pcfg (s : State) (k : Nat) (c : Cnt) : (s.setProg k c).pcfg = s.pcfg := rfl
@[simp] theorem State.setProg_prun (s : State) (k : Nat) (c : Cnt) : (s.setProg k c).prun = s.prun := rfl
@[simp] theorem State.setProg_sesKeys (s : State) (k : Nat) (c : Cnt) : (s.setProg k c).sesKeys = s.sesKeys := rfl
@[simp] theorem State.setProg_ptp (s : State) (k : Nat) (c : Cnt) : (s.setProg k c).ptp = s.ptp := rfl
@[simp] theorem State.setProg_pal (s : State) (k : Nat) (c : Cnt) : (s.setProg k c).pal = s.pal := rfl
@[simp] theorem State.setProg_refs (s : State) (k : Nat) (c : Cnt) : (s.setProg k c).refs = s.refs := rfl
@[simp] theorem State.setProg_hams (s : State) (k : Nat) (c : Cnt) : (s.setProg k c).hams = s.hams := rfl
@[simp] theorem State.setProg_chans (s : State) (k : Nat) (c : Cnt) : (s.setProg k c).chans = s.chans := rfl
@[simp] theorem State.setProg_twinRpl (s : State) (k : Nat) (c : Cnt) : (s.setProg k c).twinRpl = s.twinRpl := rfl

@[simp] theorem State.setTd_pending (s : State) (k : Nat) (t : Td) : (s.setTd k t).pending = s.pending := rfl
@[simp] theorem State.setTd_free (s : State) (k : Nat) (t : Td) : (s.setTd k t).free = s.free := rfl
@[simp] theorem State.setTd_out (s : State) (k : Nat) (t : Td) : (s.setTd k t).out = s.out := rfl
@[simp] theorem State.setTd_fused (s : State) (k : Nat) (t : Td) : (s.setTd k t).fused = s.fused := rfl
@[simp] theorem State.setTd_tamper (s : State) (k : Nat) (t : Td) : (s.setTd k t).tamper = s.tamper := rfl
@[simp] theorem State.setTd_mram (s : State) (k : Nat) (t : Td) : (s.setTd k t).mram = s.mram := rfl
@[simp] theorem State.setTd_start (s : State) (k : Nat) (t : Td) : (s.setTd k t).start = s.start := rfl
@[simp] theorem State.setTd_alarms (s : State) (k : Nat) (t : Td) : (s.setTd k t).alarms = s.alarms := rfl
@[simp] theorem State.setTd_clk (s : State) (k : Nat) (t : Td) : (s.setTd k t).clk = s.clk := rfl
@[simp] theorem State.setTd_axg (s : State) (k : Nat) (t : Td) : (s.setTd k t).axg = s.axg := rfl
@[simp] theorem State.setTd_cru (s : State) (k : Nat) (t : Td) : (s.setTd k t).cru = s.cru := rfl
@[simp] theorem State.setTd_led (s : State) (k : Nat) (t : Td) : (s.setTd k t).led = s.led := rfl
@[simp] theorem State.setTd_sec (s : State) (k : Nat) (t : Td) : (s.setTd k t).sec = s.sec := rfl
@[simp] theorem State.setTd_mem (s : State) (k : Nat) (t : Td) : (s.setTd k t).mem = s.mem := rfl
@[simp] theorem State.setTd_lanes (s : State) (k : Nat) (t : Td) : (s.setTd k t).lanes = s.lanes := rfl
@[simp] theorem State.setTd_form (s : State) (k : Nat) (t : Td) : (s.setTd k t).form = s.form := rfl
@[simp] theorem State.setTd_ports (s : State) (k : Nat) (t : Td) : (s.setTd k t).ports = s.ports := rfl
@[simp] theorem State.setTd_rings (s : State) (k : Nat) (t : Td) : (s.setTd k t).rings = s.rings := rfl
@[simp] theorem State.setTd_nodes (s : State) (k : Nat) (t : Td) : (s.setTd k t).nodes = s.nodes := rfl
@[simp] theorem State.setTd_nodeFull (s : State) (k : Nat) (t : Td) : (s.setTd k t).nodeFull = s.nodeFull := rfl
@[simp] theorem State.setTd_bypass (s : State) (k : Nat) (t : Td) : (s.setTd k t).bypass = s.bypass := rfl
@[simp] theorem State.setTd_fwd (s : State) (k : Nat) (t : Td) : (s.setTd k t).fwd = s.fwd := rfl
@[simp] theorem State.setTd_buf (s : State) (k : Nat) (t : Td) : (s.setTd k t).buf = s.buf := rfl
@[simp] theorem State.setTd_hst (s : State) (k : Nat) (t : Td) : (s.setTd k t).hst = s.hst := rfl
@[simp] theorem State.setTd_cnt (s : State) (k : Nat) (t : Td) : (s.setTd k t).cnt = { s.cnt with td := Tab.put tdReset s.cnt.td k t } := rfl
@[simp] theorem State.setTd_tbs (s : State) (k : Nat) (t : Td) : (s.setTd k t).tbs = s.tbs := rfl
@[simp] theorem State.setTd_hcfg (s : State) (k : Nat) (t : Td) : (s.setTd k t).hcfg = s.hcfg := rfl
@[simp] theorem State.setTd_hier (s : State) (k : Nat) (t : Td) : (s.setTd k t).hier = s.hier := rfl
@[simp] theorem State.setTd_workers (s : State) (k : Nat) (t : Td) : (s.setTd k t).workers = s.workers := rfl
@[simp] theorem State.setTd_pcfg (s : State) (k : Nat) (t : Td) : (s.setTd k t).pcfg = s.pcfg := rfl
@[simp] theorem State.setTd_prun (s : State) (k : Nat) (t : Td) : (s.setTd k t).prun = s.prun := rfl
@[simp] theorem State.setTd_sesKeys (s : State) (k : Nat) (t : Td) : (s.setTd k t).sesKeys = s.sesKeys := rfl
@[simp] theorem State.setTd_ptp (s : State) (k : Nat) (t : Td) : (s.setTd k t).ptp = s.ptp := rfl
@[simp] theorem State.setTd_pal (s : State) (k : Nat) (t : Td) : (s.setTd k t).pal = s.pal := rfl
@[simp] theorem State.setTd_refs (s : State) (k : Nat) (t : Td) : (s.setTd k t).refs = s.refs := rfl
@[simp] theorem State.setTd_hams (s : State) (k : Nat) (t : Td) : (s.setTd k t).hams = s.hams := rfl
@[simp] theorem State.setTd_chans (s : State) (k : Nat) (t : Td) : (s.setTd k t).chans = s.chans := rfl
@[simp] theorem State.setTd_twinRpl (s : State) (k : Nat) (t : Td) : (s.setTd k t).twinRpl = s.twinRpl := rfl

@[simp] theorem State.setFdb_pending (s : State) (t : Tab Fdb) : (s.setFdb t).pending = s.pending := rfl
@[simp] theorem State.setFdb_free (s : State) (t : Tab Fdb) : (s.setFdb t).free = s.free := rfl
@[simp] theorem State.setFdb_out (s : State) (t : Tab Fdb) : (s.setFdb t).out = s.out := rfl
@[simp] theorem State.setFdb_fused (s : State) (t : Tab Fdb) : (s.setFdb t).fused = s.fused := rfl
@[simp] theorem State.setFdb_tamper (s : State) (t : Tab Fdb) : (s.setFdb t).tamper = s.tamper := rfl
@[simp] theorem State.setFdb_mram (s : State) (t : Tab Fdb) : (s.setFdb t).mram = s.mram := rfl
@[simp] theorem State.setFdb_start (s : State) (t : Tab Fdb) : (s.setFdb t).start = s.start := rfl
@[simp] theorem State.setFdb_alarms (s : State) (t : Tab Fdb) : (s.setFdb t).alarms = s.alarms := rfl
@[simp] theorem State.setFdb_clk (s : State) (t : Tab Fdb) : (s.setFdb t).clk = s.clk := rfl
@[simp] theorem State.setFdb_axg (s : State) (t : Tab Fdb) : (s.setFdb t).axg = s.axg := rfl
@[simp] theorem State.setFdb_cru (s : State) (t : Tab Fdb) : (s.setFdb t).cru = s.cru := rfl
@[simp] theorem State.setFdb_led (s : State) (t : Tab Fdb) : (s.setFdb t).led = s.led := rfl
@[simp] theorem State.setFdb_sec (s : State) (t : Tab Fdb) : (s.setFdb t).sec = s.sec := rfl
@[simp] theorem State.setFdb_mem (s : State) (t : Tab Fdb) : (s.setFdb t).mem = s.mem := rfl
@[simp] theorem State.setFdb_lanes (s : State) (t : Tab Fdb) : (s.setFdb t).lanes = s.lanes := rfl
@[simp] theorem State.setFdb_form (s : State) (t : Tab Fdb) : (s.setFdb t).form = s.form := rfl
@[simp] theorem State.setFdb_ports (s : State) (t : Tab Fdb) : (s.setFdb t).ports = s.ports := rfl
@[simp] theorem State.setFdb_rings (s : State) (t : Tab Fdb) : (s.setFdb t).rings = s.rings := rfl
@[simp] theorem State.setFdb_nodes (s : State) (t : Tab Fdb) : (s.setFdb t).nodes = s.nodes := rfl
@[simp] theorem State.setFdb_nodeFull (s : State) (t : Tab Fdb) : (s.setFdb t).nodeFull = s.nodeFull := rfl
@[simp] theorem State.setFdb_bypass (s : State) (t : Tab Fdb) : (s.setFdb t).bypass = s.bypass := rfl
@[simp] theorem State.setFdb_fwd (s : State) (t : Tab Fdb) : (s.setFdb t).fwd = { s.fwd with fdb := t } := rfl
@[simp] theorem State.setFdb_buf (s : State) (t : Tab Fdb) : (s.setFdb t).buf = s.buf := rfl
@[simp] theorem State.setFdb_hst (s : State) (t : Tab Fdb) : (s.setFdb t).hst = s.hst := rfl
@[simp] theorem State.setFdb_cnt (s : State) (t : Tab Fdb) : (s.setFdb t).cnt = s.cnt := rfl
@[simp] theorem State.setFdb_tbs (s : State) (t : Tab Fdb) : (s.setFdb t).tbs = s.tbs := rfl
@[simp] theorem State.setFdb_hcfg (s : State) (t : Tab Fdb) : (s.setFdb t).hcfg = s.hcfg := rfl
@[simp] theorem State.setFdb_hier (s : State) (t : Tab Fdb) : (s.setFdb t).hier = s.hier := rfl
@[simp] theorem State.setFdb_workers (s : State) (t : Tab Fdb) : (s.setFdb t).workers = s.workers := rfl
@[simp] theorem State.setFdb_pcfg (s : State) (t : Tab Fdb) : (s.setFdb t).pcfg = s.pcfg := rfl
@[simp] theorem State.setFdb_prun (s : State) (t : Tab Fdb) : (s.setFdb t).prun = s.prun := rfl
@[simp] theorem State.setFdb_sesKeys (s : State) (t : Tab Fdb) : (s.setFdb t).sesKeys = s.sesKeys := rfl
@[simp] theorem State.setFdb_ptp (s : State) (t : Tab Fdb) : (s.setFdb t).ptp = s.ptp := rfl
@[simp] theorem State.setFdb_pal (s : State) (t : Tab Fdb) : (s.setFdb t).pal = s.pal := rfl
@[simp] theorem State.setFdb_refs (s : State) (t : Tab Fdb) : (s.setFdb t).refs = s.refs := rfl
@[simp] theorem State.setFdb_hams (s : State) (t : Tab Fdb) : (s.setFdb t).hams = s.hams := rfl
@[simp] theorem State.setFdb_chans (s : State) (t : Tab Fdb) : (s.setFdb t).chans = s.chans := rfl
@[simp] theorem State.setFdb_twinRpl (s : State) (t : Tab Fdb) : (s.setFdb t).twinRpl = s.twinRpl := rfl

@[simp] theorem State.setMin_pending (s : State) (p q m : Nat) : (s.setMin p q m).pending = s.pending := rfl
@[simp] theorem State.setMin_free (s : State) (p q m : Nat) : (s.setMin p q m).free = s.free := rfl
@[simp] theorem State.setMin_out (s : State) (p q m : Nat) : (s.setMin p q m).out = s.out := rfl
@[simp] theorem State.setMin_fused (s : State) (p q m : Nat) : (s.setMin p q m).fused = s.fused := rfl
@[simp] theorem State.setMin_tamper (s : State) (p q m : Nat) : (s.setMin p q m).tamper = s.tamper := rfl
@[simp] theorem State.setMin_mram (s : State) (p q m : Nat) : (s.setMin p q m).mram = s.mram := rfl
@[simp] theorem State.setMin_start (s : State) (p q m : Nat) : (s.setMin p q m).start = s.start := rfl
@[simp] theorem State.setMin_alarms (s : State) (p q m : Nat) : (s.setMin p q m).alarms = s.alarms := rfl
@[simp] theorem State.setMin_clk (s : State) (p q m : Nat) : (s.setMin p q m).clk = s.clk := rfl
@[simp] theorem State.setMin_axg (s : State) (p q m : Nat) : (s.setMin p q m).axg = s.axg := rfl
@[simp] theorem State.setMin_cru (s : State) (p q m : Nat) : (s.setMin p q m).cru = s.cru := rfl
@[simp] theorem State.setMin_led (s : State) (p q m : Nat) : (s.setMin p q m).led = s.led := rfl
@[simp] theorem State.setMin_sec (s : State) (p q m : Nat) : (s.setMin p q m).sec = s.sec := rfl
@[simp] theorem State.setMin_mem (s : State) (p q m : Nat) : (s.setMin p q m).mem = s.mem := rfl
@[simp] theorem State.setMin_lanes (s : State) (p q m : Nat) : (s.setMin p q m).lanes = s.lanes := rfl
@[simp] theorem State.setMin_form (s : State) (p q m : Nat) : (s.setMin p q m).form = s.form := rfl
@[simp] theorem State.setMin_ports (s : State) (p q m : Nat) : (s.setMin p q m).ports = s.ports := rfl
@[simp] theorem State.setMin_rings (s : State) (p q m : Nat) : (s.setMin p q m).rings = s.rings := rfl
@[simp] theorem State.setMin_nodes (s : State) (p q m : Nat) : (s.setMin p q m).nodes = s.nodes := rfl
@[simp] theorem State.setMin_nodeFull (s : State) (p q m : Nat) : (s.setMin p q m).nodeFull = s.nodeFull := rfl
@[simp] theorem State.setMin_bypass (s : State) (p q m : Nat) : (s.setMin p q m).bypass = s.bypass := rfl
@[simp] theorem State.setMin_fwd (s : State) (p q m : Nat) : (s.setMin p q m).fwd = s.fwd := rfl
@[simp] theorem State.setMin_buf (s : State) (p q m : Nat) : (s.setMin p q m).buf = { s.buf with mins := Tab.put minReset s.buf.mins (9 * p + q) m } := rfl
@[simp] theorem State.setMin_hst (s : State) (p q m : Nat) : (s.setMin p q m).hst = s.hst := rfl
@[simp] theorem State.setMin_cnt (s : State) (p q m : Nat) : (s.setMin p q m).cnt = s.cnt := rfl
@[simp] theorem State.setMin_tbs (s : State) (p q m : Nat) : (s.setMin p q m).tbs = s.tbs := rfl
@[simp] theorem State.setMin_hcfg (s : State) (p q m : Nat) : (s.setMin p q m).hcfg = s.hcfg := rfl
@[simp] theorem State.setMin_hier (s : State) (p q m : Nat) : (s.setMin p q m).hier = s.hier := rfl
@[simp] theorem State.setMin_workers (s : State) (p q m : Nat) : (s.setMin p q m).workers = s.workers := rfl
@[simp] theorem State.setMin_pcfg (s : State) (p q m : Nat) : (s.setMin p q m).pcfg = s.pcfg := rfl
@[simp] theorem State.setMin_prun (s : State) (p q m : Nat) : (s.setMin p q m).prun = s.prun := rfl
@[simp] theorem State.setMin_sesKeys (s : State) (p q m : Nat) : (s.setMin p q m).sesKeys = s.sesKeys := rfl
@[simp] theorem State.setMin_ptp (s : State) (p q m : Nat) : (s.setMin p q m).ptp = s.ptp := rfl
@[simp] theorem State.setMin_pal (s : State) (p q m : Nat) : (s.setMin p q m).pal = s.pal := rfl
@[simp] theorem State.setMin_refs (s : State) (p q m : Nat) : (s.setMin p q m).refs = s.refs := rfl
@[simp] theorem State.setMin_hams (s : State) (p q m : Nat) : (s.setMin p q m).hams = s.hams := rfl
@[simp] theorem State.setMin_chans (s : State) (p q m : Nat) : (s.setMin p q m).chans = s.chans := rfl
@[simp] theorem State.setMin_twinRpl (s : State) (p q m : Nat) : (s.setMin p q m).twinRpl = s.twinRpl := rfl

end Sys2Proof.Machine
end

