-- ==== Sys2Proof/Laws/Ops.lean ====
section
/-! SUPPORT. What the operations that every family shares can do, said once: a record, a reply, the completion of a command. -/

namespace Sys2Proof.Machine

open Sys2Proof

/-! ### Records (R29, R35, R533-R549) -/

/-- What raising a record can change: the event record, the two queues an event may wait in, and their LOST flags. -/
def Logged (t s : State) : Prop :=
  ∃ cru mbx lost reg regLost drops, t = { s with
    cru := cru
    clk := { s.clk with mbxEvtLost := lost, pqRegEvtLost := regLost }
    buf := { s.buf with mbxEvt := mbx, pqReg := reg, mbxEvtDrops := drops } }

theorem State.queueEvent_logged (s : State) (pl : Plane) (r : Option Rec) : Logged (s.queueEvent pl r) s := by
  unfold State.queueEvent
  cases pl <;> cases r <;> dsimp only <;> (repeat' split) <;> exact ⟨_, _, _, _, _, _, rfl⟩

theorem State.log_logged (s : State) (pl : Plane) (code source : Nat) (d5 d6 d7 : Word) : Logged (s.log pl code source d5 d6 d7) s :=
  s.queueEvent_logged _ _

theorem State.logSev_logged (s : State) (pl : Plane) (sev code source : Nat) (d5 d6 : Word) : Logged (s.logSev pl sev code source d5 d6) s :=
  s.queueEvent_logged _ _

/-- The management plane's records enter the event record at once and change nothing else. -/
theorem State.log_mgmt (s : State) (code source : Nat) (d5 d6 d7 : Word) :
    s.log .mgmt code source d5 d6 d7 = { s with cru := s.cru.arrive s.clk.tick (s.mkRec code source (sevOf code) d5 d6 d7) } := rfl

/-- While firmware runs, every plane's records do so, the data plane's while PQ_REG has a slot for an event. -/
theorem State.log_up (s : State) (pl : Plane) (code source : Nat) (d5 d6 d7 : Word) (h : s.mpiUp = true)
    (hr : pl = .data → s.regSlot = true) : s.log pl code source d5 d6 d7 = { s with cru := s.cru.arrive s.clk.tick (s.mkRec code source (sevOf code) d5 d6 d7) } := by
  cases pl
  · rfl
  · simp [State.log, State.queueEvent, h]
  · simp [State.log, State.queueEvent, h, hr rfl]

/-! ### Replies (R53, R65, R76, R79, R83, R463, R630) -/

/-- What sending a reply can change: the reply ring's index and waiting list, the SPI reply queue, host memory and MSI-X, the two insert
queues of management and timing frames, MBX_RPL while firmware hangs, a script's status and a twin frame's number. -/
def Replied (t s : State) : Prop :=
  ∃ pi ci wait spi out pend cmd tim rpl start seqs, t = { s with
    axg := { s.axg with rplPi := pi, wbCi := ci, rplWait := wait, spiQ := spi }
    out := out
    hst := { s.hst with msixPend := pend }
    buf := { s.buf with iqCmd := cmd, iqTime := tim, mbxRpl := rpl }
    start := start
    prun := { s.prun with seqs := seqs } } ∧
    (start.power, start.mpi, start.resetN, start.pfailN, start.podReleased, start.perstN, start.pcieUp, start.cause, start.kind) =
      (s.start.power, s.start.mpi, s.start.resetN, s.start.pfailN, s.start.podReleased, s.start.perstN, s.start.pcieUp, s.start.cause, s.start.kind) ∧
    (start.fallback, start.trunc, start.scriptEnded, start.scriptAt, start.prevImage, start.tamperStart, start.lockUs, start.testUs, start.scriptUs) =
      (s.start.fallback, s.start.trunc, s.start.scriptEnded, s.start.scriptAt, s.start.prevImage, s.start.tamperStart, s.start.lockUs,
        s.start.testUs, s.start.scriptUs) ∧
    (start.scriptCmds, start.slot, start.version, start.watchdog, start.stop) =
      (s.start.scriptCmds, s.start.slot, s.start.version, s.start.watchdog, s.start.stop)

theorem Replied.refl (s : State) : Replied s s := ⟨_, _, _, _, _, _, _, _, _, _, _, rfl, rfl, rfl, rfl⟩

theorem Replied.trans {s t u : State} (h : Replied u t) (k : Replied t s) : Replied u s := by
  obtain ⟨_, _, _, _, _, _, _, _, _, _, _, rfl, a, b, c⟩ := k
  obtain ⟨_, _, _, _, _, _, _, _, _, _, _, rfl, a', b', c'⟩ := h
  exact ⟨_, _, _, _, _, _, _, _, _, _, _, rfl, a'.trans a, b'.trans b, c'.trans c⟩

theorem State.signal_replied (s : State) (vec : Nat) : Replied (s.signal vec) s := by
  unfold State.signal
  split <;> exact ⟨_, _, _, _, _, _, _, _, _, _, _, rfl, rfl, rfl, rfl⟩

theorem State.signal_if_replied {s t : State} (c : Prop) [Decidable c] (vec : Nat) (h : Replied t s) :
    Replied (if c then t.signal vec else t) s := by
  split
  · exact (signal_replied _ _).trans h
  · exact h

theorem State.ringReply_replied {s t : State} {pkt : List Word} (h : s.ringReply pkt = some t) : Replied t s := by
  simp only [State.ringReply, Option.ite_none_right_eq_some, Option.some.injEq] at h
  obtain ⟨-, rfl⟩ := h
  refine signal_if_replied _ _ ?_
  exact ⟨_, _, _, _, _, _, _, _, _, _, _, rfl, rfl, rfl, rfl⟩

theorem drainReplies_replied (n : Nat) (s : State) : Replied (drainReplies n s) s := by
  induction n generalizing s with
  | zero => exact .refl s
  | succ n ih =>
    unfold drainReplies
    split
    · exact .refl s
    · split
      · rename_i h
        refine (ih _).trans (Replied.trans ?_ (State.ringReply_replied h))
        exact ⟨_, _, _, _, _, _, _, _, _, _, _, rfl, rfl, rfl, rfl⟩
      · exact .refl s

theorem State.scriptStatus_replied (s : State) (i st : Nat) : Replied (s.scriptStatus i st) s := by
  unfold State.scriptStatus
  split
  · exact .refl s
  · exact ⟨_, _, _, _, _, _, _, _, _, _, _, rfl, rfl, rfl, rfl⟩

theorem State.checkStartDone_replied (s : State) : Replied s.checkStartDone s := by
  unfold State.checkStartDone
  split
  · exact ⟨_, _, _, _, _, _, _, _, _, _, _, rfl, rfl, rfl, rfl⟩
  · exact .refl s

theorem State.twinSend_replied (s : State) (kind : Nat) (ws : List Word) : Replied (s.twinSend kind ws) s := by
  unfold State.twinSend State.twinSeq State.putTime
  dsimp only
  split <;> exact ⟨_, _, _, _, _, _, _, _, _, _, _, rfl, rfl, rfl, rfl⟩

/-- A reply changes nothing beyond what `Replied` names. -/
theorem State.sendReply_replied (s : State) (c : Ctx) (r : Rpl) : Replied (s.sendReply c r) s := by
  unfold State.sendReply
  split
  · exact .refl s
  · split
    · refine Replied.trans (drainReplies_replied _ _) ?_
      exact ⟨_, _, _, _, _, _, _, _, _, _, _, rfl, rfl, rfl, rfl⟩
    · exact ⟨_, _, _, _, _, _, _, _, _, _, _, rfl, rfl, rfl, rfl⟩
    · exact ⟨_, _, _, _, _, _, _, _, _, _, _, rfl, rfl, rfl, rfl⟩
    · exact (checkStartDone_replied _).trans (scriptStatus_replied _ _ _)
    · exact twinSend_replied _ _ _

/-- A command that this unit does not mirror completes by its reply alone. -/
theorem State.complete_replied (s : State) {c : Ctx} (r : Rpl) (h : c.mirrored = false) : Replied (s.complete c r) s := by
  unfold State.complete
  split
  · exact .refl s
  · split
    · exact ⟨_, _, _, _, _, _, _, _, _, _, _, rfl, rfl, rfl, rfl⟩
    · rw [h]
      exact sendReply_replied _ _ _

theorem State.ctxOf_mirrored (s : State) (op : Nat) (p : Pkt) : (s.ctxOf op p).mirrored = false := rfl

/-- The reply of a command row. -/
theorem State.ok_replied (s t : State) (op : Nat) (p : Pkt) (ws : List Word) : Replied (t.ok (s.ctxOf op p) ws) t := by
  exact complete_replied _ _ (ctxOf_mirrored s op p)

theorem State.err_replied (s t : State) (op : Nat) (p : Pkt) (st d : Nat) : Replied (t.err (s.ctxOf op p) st d) t := by
  exact complete_replied _ _ (ctxOf_mirrored s op p)

/-! ### What stays after a record or a reply -/

@[simp] theorem State.log_pending (s : State) (pl : Plane) (code source : Nat) (d5 d6 d7 : Word) : (s.log pl code source d5 d6 d7).pending = s.pending := by
  obtain ⟨_, _, _, _, _, _, h⟩ := s.log_logged pl code source d5 d6 d7; rw [h]
@[simp] theorem State.log_free (s : State) (pl : Plane) (code source : Nat) (d5 d6 d7 : Word) : (s.log pl code source d5 d6 d7).free = s.free := by
  obtain ⟨_, _, _, _, _, _, h⟩ := s.log_logged pl code source d5 d6 d7; rw [h]
@[simp] theorem State.log_out (s : State) (pl : Plane) (code source : Nat) (d5 d6 d7 : Word) : (s.log pl code source d5 d6 d7).out = s.out := by
  obtain ⟨_, _, _, _, _, _, h⟩ := s.log_logged pl code source d5 d6 d7; rw [h]
@[simp] theorem State.log_fused (s : State) (pl : Plane) (code source : Nat) (d5 d6 d7 : Word) : (s.log pl code source d5 d6 d7).fused = s.fused := by
  obtain ⟨_, _, _, _, _, _, h⟩ := s.log_logged pl code source d5 d6 d7; rw [h]
@[simp] theorem State.log_tamper (s : State) (pl : Plane) (code source : Nat) (d5 d6 d7 : Word) : (s.log pl code source d5 d6 d7).tamper = s.tamper := by
  obtain ⟨_, _, _, _, _, _, h⟩ := s.log_logged pl code source d5 d6 d7; rw [h]
@[simp] theorem State.log_mram (s : State) (pl : Plane) (code source : Nat) (d5 d6 d7 : Word) : (s.log pl code source d5 d6 d7).mram = s.mram := by
  obtain ⟨_, _, _, _, _, _, h⟩ := s.log_logged pl code source d5 d6 d7; rw [h]
@[simp] theorem State.log_start (s : State) (pl : Plane) (code source : Nat) (d5 d6 d7 : Word) : (s.log pl code source d5 d6 d7).start = s.start := by
  obtain ⟨_, _, _, _, _, _, h⟩ := s.log_logged pl code source d5 d6 d7; rw [h]
@[simp] theorem State.log_alarms (s : State) (pl : Plane) (code source : Nat) (d5 d6 d7 : Word) : (s.log pl code source d5 d6 d7).alarms = s.alarms := by
  obtain ⟨_, _, _, _, _, _, h⟩ := s.log_logged pl code source d5 d6 d7; rw [h]
@[simp] theorem State.log_clk_tick (s : State) (pl : Plane) (code source : Nat) (d5 d6 d7 : Word) : (s.log pl code source d5 d6 d7).clk.tick = s.clk.tick := by
  obtain ⟨_, _, _, _, _, _, h⟩ := s.log_logged pl code source d5 d6 d7; rw [h]
@[simp] theorem State.log_clk_rootLock (s : State) (pl : Plane) (code source : Nat) (d5 d6 d7 : Word) : (s.log pl code source d5 d6 d7).clk.rootLock = s.clk.rootLock := by
  obtain ⟨_, _, _, _, _, _, h⟩ := s.log_logged pl code source d5 d6 d7; rw [h]
@[simp] theorem State.log_clk_xoPresent (s : State) (pl : Plane) (code source : Nat) (d5 d6 d7 : Word) : (s.log pl code source d5 d6 d7).clk.xoPresent = s.clk.xoPresent := by
  obtain ⟨_, _, _, _, _, _, h⟩ := s.log_logged pl code source d5 d6 d7; rw [h]
@[simp] theorem State.log_clk_xoLoss (s : State) (pl : Plane) (code source : Nat) (d5 d6 d7 : Word) : (s.log pl code source d5 d6 d7).clk.xoLoss = s.clk.xoLoss := by
  obtain ⟨_, _, _, _, _, _, h⟩ := s.log_logged pl code source d5 d6 d7; rw [h]
@[simp] theorem State.log_clk_rootClamp (s : State) (pl : Plane) (code source : Nat) (d5 d6 d7 : Word) : (s.log pl code source d5 d6 d7).clk.rootClamp = s.clk.rootClamp := by
  obtain ⟨_, _, _, _, _, _, h⟩ := s.log_logged pl code source d5 d6 d7; rw [h]
@[simp] theorem State.log_clk_steer (s : State) (pl : Plane) (code source : Nat) (d5 d6 d7 : Word) : (s.log pl code source d5 d6 d7).clk.steer = s.clk.steer := by
  obtain ⟨_, _, _, _, _, _, h⟩ := s.log_logged pl code source d5 d6 d7; rw [h]
@[simp] theorem State.log_clk_steerTo (s : State) (pl : Plane) (code source : Nat) (d5 d6 d7 : Word) : (s.log pl code source d5 d6 d7).clk.steerTo = s.clk.steerTo := by
  obtain ⟨_, _, _, _, _, _, h⟩ := s.log_logged pl code source d5 d6 d7; rw [h]
@[simp] theorem State.log_clk_tpUp (s : State) (pl : Plane) (code source : Nat) (d5 d6 d7 : Word) : (s.log pl code source d5 d6 d7).clk.tpUp = s.clk.tpUp := by
  obtain ⟨_, _, _, _, _, _, h⟩ := s.log_logged pl code source d5 d6 d7; rw [h]
@[simp] theorem State.log_clk_dpUp (s : State) (pl : Plane) (code source : Nat) (d5 d6 d7 : Word) : (s.log pl code source d5 d6 d7).clk.dpUp = s.clk.dpUp := by
  obtain ⟨_, _, _, _, _, _, h⟩ := s.log_logged pl code source d5 d6 d7; rw [h]
@[simp] theorem State.log_clk_tpFault (s : State) (pl : Plane) (code source : Nat) (d5 d6 d7 : Word) : (s.log pl code source d5 d6 d7).clk.tpFault = s.clk.tpFault := by
  obtain ⟨_, _, _, _, _, _, h⟩ := s.log_logged pl code source d5 d6 d7; rw [h]
@[simp] theorem State.log_clk_mgtRestarts (s : State) (pl : Plane) (code source : Nat) (d5 d6 d7 : Word) : (s.log pl code source d5 d6 d7).clk.mgtRestarts = s.clk.mgtRestarts := by
  obtain ⟨_, _, _, _, _, _, h⟩ := s.log_logged pl code source d5 d6 d7; rw [h]
@[simp] theorem State.log_axg (s : State) (pl : Plane) (code source : Nat) (d5 d6 d7 : Word) : (s.log pl code source d5 d6 d7).axg = s.axg := by
  obtain ⟨_, _, _, _, _, _, h⟩ := s.log_logged pl code source d5 d6 d7; rw [h]
@[simp] theorem State.log_led (s : State) (pl : Plane) (code source : Nat) (d5 d6 d7 : Word) : (s.log pl code source d5 d6 d7).led = s.led := by
  obtain ⟨_, _, _, _, _, _, h⟩ := s.log_logged pl code source d5 d6 d7; rw [h]
@[simp] theorem State.log_sec (s : State) (pl : Plane) (code source : Nat) (d5 d6 d7 : Word) : (s.log pl code source d5 d6 d7).sec = s.sec := by
  obtain ⟨_, _, _, _, _, _, h⟩ := s.log_logged pl code source d5 d6 d7; rw [h]
@[simp] theorem State.log_mem (s : State) (pl : Plane) (code source : Nat) (d5 d6 d7 : Word) : (s.log pl code source d5 d6 d7).mem = s.mem := by
  obtain ⟨_, _, _, _, _, _, h⟩ := s.log_logged pl code source d5 d6 d7; rw [h]
@[simp] theorem State.log_lanes (s : State) (pl : Plane) (code source : Nat) (d5 d6 d7 : Word) : (s.log pl code source d5 d6 d7).lanes = s.lanes := by
  obtain ⟨_, _, _, _, _, _, h⟩ := s.log_logged pl code source d5 d6 d7; rw [h]
@[simp] theorem State.log_form (s : State) (pl : Plane) (code source : Nat) (d5 d6 d7 : Word) : (s.log pl code source d5 d6 d7).form = s.form := by
  obtain ⟨_, _, _, _, _, _, h⟩ := s.log_logged pl code source d5 d6 d7; rw [h]
@[simp] theorem State.log_ports (s : State) (pl : Plane) (code source : Nat) (d5 d6 d7 : Word) : (s.log pl code source d5 d6 d7).ports = s.ports := by
  obtain ⟨_, _, _, _, _, _, h⟩ := s.log_logged pl code source d5 d6 d7; rw [h]
@[simp] theorem State.log_rings (s : State) (pl : Plane) (code source : Nat) (d5 d6 d7 : Word) : (s.log pl code source d5 d6 d7).rings = s.rings := by
  obtain ⟨_, _, _, _, _, _, h⟩ := s.log_logged pl code source d5 d6 d7; rw [h]
@[simp] theorem State.log_nodes (s : State) (pl : Plane) (code source : Nat) (d5 d6 d7 : Word) : (s.log pl code source d5 d6 d7).nodes = s.nodes := by
  obtain ⟨_, _, _, _, _, _, h⟩ := s.log_logged pl code source d5 d6 d7; rw [h]
@[simp] theorem State.log_nodeFull (s : State) (pl : Plane) (code source : Nat) (d5 d6 d7 : Word) : (s.log pl code source d5 d6 d7).nodeFull = s.nodeFull := by
  obtain ⟨_, _, _, _, _, _, h⟩ := s.log_logged pl code source d5 d6 d7; rw [h]
@[simp] theorem State.log_bypass (s : State) (pl : Plane) (code source : Nat) (d5 d6 d7 : Word) : (s.log pl code source d5 d6 d7).bypass = s.bypass := by
  obtain ⟨_, _, _, _, _, _, h⟩ := s.log_logged pl code source d5 d6 d7; rw [h]
@[simp] theorem State.log_fwd (s : State) (pl : Plane) (code source : Nat) (d5 d6 d7 : Word) : (s.log pl code source d5 d6 d7).fwd = s.fwd := by
  obtain ⟨_, _, _, _, _, _, h⟩ := s.log_logged pl code source d5 d6 d7; rw [h]
@[simp] theorem State.log_buf_poolSize (s : State) (pl : Plane) (code source : Nat) (d5 d6 d7 : Word) : (s.log pl code source d5 d6 d7).buf.poolSize = s.buf.poolSize := by
  obtain ⟨_, _, _, _, _, _, h⟩ := s.log_logged pl code source d5 d6 d7; rw [h]
@[simp] theorem State.log_buf_alpha (s : State) (pl : Plane) (code source : Nat) (d5 d6 d7 : Word) : (s.log pl code source d5 d6 d7).buf.alpha = s.buf.alpha := by
  obtain ⟨_, _, _, _, _, _, h⟩ := s.log_logged pl code source d5 d6 d7; rw [h]
@[simp] theorem State.log_buf_alphaSpark (s : State) (pl : Plane) (code source : Nat) (d5 d6 d7 : Word) : (s.log pl code source d5 d6 d7).buf.alphaSpark = s.buf.alphaSpark := by
  obtain ⟨_, _, _, _, _, _, h⟩ := s.log_logged pl code source d5 d6 d7; rw [h]
@[simp] theorem State.log_buf_poolPeak (s : State) (pl : Plane) (code source : Nat) (d5 d6 d7 : Word) : (s.log pl code source d5 d6 d7).buf.poolPeak = s.buf.poolPeak := by
  obtain ⟨_, _, _, _, _, _, h⟩ := s.log_logged pl code source d5 d6 d7; rw [h]
@[simp] theorem State.log_buf_mins (s : State) (pl : Plane) (code source : Nat) (d5 d6 d7 : Word) : (s.log pl code source d5 d6 d7).buf.mins = s.buf.mins := by
  obtain ⟨_, _, _, _, _, _, h⟩ := s.log_logged pl code source d5 d6 d7; rw [h]
@[simp] theorem State.log_buf_admitDrops (s : State) (pl : Plane) (code source : Nat) (d5 d6 d7 : Word) : (s.log pl code source d5 d6 d7).buf.admitDrops = s.buf.admitDrops := by
  obtain ⟨_, _, _, _, _, _, h⟩ := s.log_logged pl code source d5 d6 d7; rw [h]
@[simp] theorem State.log_buf_frames (s : State) (pl : Plane) (code source : Nat) (d5 d6 d7 : Word) : (s.log pl code source d5 d6 d7).buf.frames = s.buf.frames := by
  obtain ⟨_, _, _, _, _, _, h⟩ := s.log_logged pl code source d5 d6 d7; rw [h]
@[simp] theorem State.log_buf_copies (s : State) (pl : Plane) (code source : Nat) (d5 d6 d7 : Word) : (s.log pl code source d5 d6 d7).buf.copies = s.buf.copies := by
  obtain ⟨_, _, _, _, _, _, h⟩ := s.log_logged pl code source d5 d6 d7; rw [h]
@[simp] theorem State.log_buf_punted (s : State) (pl : Plane) (code source : Nat) (d5 d6 d7 : Word) : (s.log pl code source d5 d6 d7).buf.punted = s.buf.punted := by
  obtain ⟨_, _, _, _, _, _, h⟩ := s.log_logged pl code source d5 d6 d7; rw [h]
@[simp] theorem State.log_buf_nextId (s : State) (pl : Plane) (code source : Nat) (d5 d6 d7 : Word) : (s.log pl code source d5 d6 d7).buf.nextId = s.buf.nextId := by
  obtain ⟨_, _, _, _, _, _, h⟩ := s.log_logged pl code source d5 d6 d7; rw [h]
@[simp] theorem State.log_buf_iqTime (s : State) (pl : Plane) (code source : Nat) (d5 d6 d7 : Word) : (s.log pl code source d5 d6 d7).buf.iqTime = s.buf.iqTime := by
  obtain ⟨_, _, _, _, _, _, h⟩ := s.log_logged pl code source d5 d6 d7; rw [h]
@[simp] theorem State.log_buf_iqCmd (s : State) (pl : Plane) (code source : Nat) (d5 d6 d7 : Word) : (s.log pl code source d5 d6 d7).buf.iqCmd = s.buf.iqCmd := by
  obtain ⟨_, _, _, _, _, _, h⟩ := s.log_logged pl code source d5 d6 d7; rw [h]
@[simp] theorem State.log_buf_iqHost (s : State) (pl : Plane) (code source : Nat) (d5 d6 d7 : Word) : (s.log pl code source d5 d6 d7).buf.iqHost = s.buf.iqHost := by
  obtain ⟨_, _, _, _, _, _, h⟩ := s.log_logged pl code source d5 d6 d7; rw [h]
@[simp] theorem State.log_buf_paths (s : State) (pl : Plane) (code source : Nat) (d5 d6 d7 : Word) : (s.log pl code source d5 d6 d7).buf.paths = s.buf.paths := by
  obtain ⟨_, _, _, _, _, _, h⟩ := s.log_logged pl code source d5 d6 d7; rw [h]
@[simp] theorem State.log_buf_iqReg (s : State) (pl : Plane) (code source : Nat) (d5 d6 d7 : Word) : (s.log pl code source d5 d6 d7).buf.iqReg = s.buf.iqReg := by
  obtain ⟨_, _, _, _, _, _, h⟩ := s.log_logged pl code source d5 d6 d7; rw [h]
@[simp] theorem State.log_buf_regWait (s : State) (pl : Plane) (code source : Nat) (d5 d6 d7 : Word) : (s.log pl code source d5 d6 d7).buf.regWait = s.buf.regWait := by
  obtain ⟨_, _, _, _, _, _, h⟩ := s.log_logged pl code source d5 d6 d7; rw [h]
@[simp] theorem State.log_buf_mbxRpl (s : State) (pl : Plane) (code source : Nat) (d5 d6 d7 : Word) : (s.log pl code source d5 d6 d7).buf.mbxRpl = s.buf.mbxRpl := by
  obtain ⟨_, _, _, _, _, _, h⟩ := s.log_logged pl code source d5 d6 d7; rw [h]
@[simp] theorem State.log_hst (s : State) (pl : Plane) (code source : Nat) (d5 d6 d7 : Word) : (s.log pl code source d5 d6 d7).hst = s.hst := by
  obtain ⟨_, _, _, _, _, _, h⟩ := s.log_logged pl code source d5 d6 d7; rw [h]
@[simp] theorem State.log_cnt (s : State) (pl : Plane) (code source : Nat) (d5 d6 d7 : Word) : (s.log pl code source d5 d6 d7).cnt = s.cnt := by
  obtain ⟨_, _, _, _, _, _, h⟩ := s.log_logged pl code source d5 d6 d7; rw [h]
@[simp] theorem State.log_tbs (s : State) (pl : Plane) (code source : Nat) (d5 d6 d7 : Word) : (s.log pl code source d5 d6 d7).tbs = s.tbs := by
  obtain ⟨_, _, _, _, _, _, h⟩ := s.log_logged pl code source d5 d6 d7; rw [h]
@[simp] theorem State.log_hcfg (s : State) (pl : Plane) (code source : Nat) (d5 d6 d7 : Word) : (s.log pl code source d5 d6 d7).hcfg = s.hcfg := by
  obtain ⟨_, _, _, _, _, _, h⟩ := s.log_logged pl code source d5 d6 d7; rw [h]
@[simp] theorem State.log_hier (s : State) (pl : Plane) (code source : Nat) (d5 d6 d7 : Word) : (s.log pl code source d5 d6 d7).hier = s.hier := by
  obtain ⟨_, _, _, _, _, _, h⟩ := s.log_logged pl code source d5 d6 d7; rw [h]
@[simp] theorem State.log_workers (s : State) (pl : Plane) (code source : Nat) (d5 d6 d7 : Word) : (s.log pl code source d5 d6 d7).workers = s.workers := by
  obtain ⟨_, _, _, _, _, _, h⟩ := s.log_logged pl code source d5 d6 d7; rw [h]
@[simp] theorem State.log_pcfg (s : State) (pl : Plane) (code source : Nat) (d5 d6 d7 : Word) : (s.log pl code source d5 d6 d7).pcfg = s.pcfg := by
  obtain ⟨_, _, _, _, _, _, h⟩ := s.log_logged pl code source d5 d6 d7; rw [h]
@[simp] theorem State.log_prun (s : State) (pl : Plane) (code source : Nat) (d5 d6 d7 : Word) : (s.log pl code source d5 d6 d7).prun = s.prun := by
  obtain ⟨_, _, _, _, _, _, h⟩ := s.log_logged pl code source d5 d6 d7; rw [h]
@[simp] theorem State.log_sesKeys (s : State) (pl : Plane) (code source : Nat) (d5 d6 d7 : Word) : (s.log pl code source d5 d6 d7).sesKeys = s.sesKeys := by
  obtain ⟨_, _, _, _, _, _, h⟩ := s.log_logged pl code source d5 d6 d7; rw [h]
@[simp] theorem State.log_ptp (s : State) (pl : Plane) (code source : Nat) (d5 d6 d7 : Word) : (s.log pl code source d5 d6 d7).ptp = s.ptp := by
  obtain ⟨_, _, _, _, _, _, h⟩ := s.log_logged pl code source d5 d6 d7; rw [h]
@[simp] theorem State.log_pal (s : State) (pl : Plane) (code source : Nat) (d5 d6 d7 : Word) : (s.log pl code source d5 d6 d7).pal = s.pal := by
  obtain ⟨_, _, _, _, _, _, h⟩ := s.log_logged pl code source d5 d6 d7; rw [h]
@[simp] theorem State.log_refs (s : State) (pl : Plane) (code source : Nat) (d5 d6 d7 : Word) : (s.log pl code source d5 d6 d7).refs = s.refs := by
  obtain ⟨_, _, _, _, _, _, h⟩ := s.log_logged pl code source d5 d6 d7; rw [h]
@[simp] theorem State.log_hams (s : State) (pl : Plane) (code source : Nat) (d5 d6 d7 : Word) : (s.log pl code source d5 d6 d7).hams = s.hams := by
  obtain ⟨_, _, _, _, _, _, h⟩ := s.log_logged pl code source d5 d6 d7; rw [h]
@[simp] theorem State.log_chans (s : State) (pl : Plane) (code source : Nat) (d5 d6 d7 : Word) : (s.log pl code source d5 d6 d7).chans = s.chans := by
  obtain ⟨_, _, _, _, _, _, h⟩ := s.log_logged pl code source d5 d6 d7; rw [h]
@[simp] theorem State.log_twinRpl (s : State) (pl : Plane) (code source : Nat) (d5 d6 d7 : Word) : (s.log pl code source d5 d6 d7).twinRpl = s.twinRpl := by
  obtain ⟨_, _, _, _, _, _, h⟩ := s.log_logged pl code source d5 d6 d7; rw [h]
@[simp] theorem State.logSev_pending (s : State) (pl : Plane) (sev code source : Nat) (d5 d6 : Word) : (s.logSev pl sev code source d5 d6).pending = s.pending := by
  obtain ⟨_, _, _, _, _, _, h⟩ := s.logSev_logged pl sev code source d5 d6; rw [h]
@[simp] theorem State.logSev_free (s : State) (pl : Plane) (sev code source : Nat) (d5 d6 : Word) : (s.logSev pl sev code source d5 d6).free = s.free := by
  obtain ⟨_, _, _, _, _, _, h⟩ := s.logSev_logged pl sev code source d5 d6; rw [h]
@[simp] theorem State.logSev_out (s : State) (pl : Plane) (sev code source : Nat) (d5 d6 : Word) : (s.logSev pl sev code source d5 d6).out = s.out := by
  obtain ⟨_, _, _, _, _, _, h⟩ := s.logSev_logged pl sev code source d5 d6; rw [h]
@[simp] theorem State.logSev_fused (s : State) (pl : Plane) (sev code source : Nat) (d5 d6 : Word) : (s.logSev pl sev code source d5 d6).fused = s.fused := by
  obtain ⟨_, _, _, _, _, _, h⟩ := s.logSev_logged pl sev code source d5 d6; rw [h]
@[simp] theorem State.logSev_tamper (s : State) (pl : Plane) (sev code source : Nat) (d5 d6 : Word) : (s.logSev pl sev code source d5 d6).tamper = s.tamper := by
  obtain ⟨_, _, _, _, _, _, h⟩ := s.logSev_logged pl sev code source d5 d6; rw [h]
@[simp] theorem State.logSev_mram (s : State) (pl : Plane) (sev code source : Nat) (d5 d6 : Word) : (s.logSev pl sev code source d5 d6).mram = s.mram := by
  obtain ⟨_, _, _, _, _, _, h⟩ := s.logSev_logged pl sev code source d5 d6; rw [h]
@[simp] theorem State.logSev_start (s : State) (pl : Plane) (sev code source : Nat) (d5 d6 : Word) : (s.logSev pl sev code source d5 d6).start = s.start := by
  obtain ⟨_, _, _, _, _, _, h⟩ := s.logSev_logged pl sev code source d5 d6; rw [h]
@[simp] theorem State.logSev_alarms (s : State) (pl : Plane) (sev code source : Nat) (d5 d6 : Word) : (s.logSev pl sev code source d5 d6).alarms = s.alarms := by
  obtain ⟨_, _, _, _, _, _, h⟩ := s.logSev_logged pl sev code source d5 d6; rw [h]
@[simp] theorem State.logSev_clk_tick (s : State) (pl : Plane) (sev code source : Nat) (d5 d6 : Word) : (s.logSev pl sev code source d5 d6).clk.tick = s.clk.tick := by
  obtain ⟨_, _, _, _, _, _, h⟩ := s.logSev_logged pl sev code source d5 d6; rw [h]
@[simp] theorem State.logSev_clk_rootLock (s : State) (pl : Plane) (sev code source : Nat) (d5 d6 : Word) : (s.logSev pl sev code source d5 d6).clk.rootLock = s.clk.rootLock := by
  obtain ⟨_, _, _, _, _, _, h⟩ := s.logSev_logged pl sev code source d5 d6; rw [h]
@[simp] theorem State.logSev_clk_xoPresent (s : State) (pl : Plane) (sev code source : Nat) (d5 d6 : Word) : (s.logSev pl sev code source d5 d6).clk.xoPresent = s.clk.xoPresent := by
  obtain ⟨_, _, _, _, _, _, h⟩ := s.logSev_logged pl sev code source d5 d6; rw [h]
@[simp] theorem State.logSev_clk_xoLoss (s : State) (pl : Plane) (sev code source : Nat) (d5 d6 : Word) : (s.logSev pl sev code source d5 d6).clk.xoLoss = s.clk.xoLoss := by
  obtain ⟨_, _, _, _, _, _, h⟩ := s.logSev_logged pl sev code source d5 d6; rw [h]
@[simp] theorem State.logSev_clk_rootClamp (s : State) (pl : Plane) (sev code source : Nat) (d5 d6 : Word) : (s.logSev pl sev code source d5 d6).clk.rootClamp = s.clk.rootClamp := by
  obtain ⟨_, _, _, _, _, _, h⟩ := s.logSev_logged pl sev code source d5 d6; rw [h]
@[simp] theorem State.logSev_clk_steer (s : State) (pl : Plane) (sev code source : Nat) (d5 d6 : Word) : (s.logSev pl sev code source d5 d6).clk.steer = s.clk.steer := by
  obtain ⟨_, _, _, _, _, _, h⟩ := s.logSev_logged pl sev code source d5 d6; rw [h]
@[simp] theorem State.logSev_clk_steerTo (s : State) (pl : Plane) (sev code source : Nat) (d5 d6 : Word) : (s.logSev pl sev code source d5 d6).clk.steerTo = s.clk.steerTo := by
  obtain ⟨_, _, _, _, _, _, h⟩ := s.logSev_logged pl sev code source d5 d6; rw [h]
@[simp] theorem State.logSev_clk_tpUp (s : State) (pl : Plane) (sev code source : Nat) (d5 d6 : Word) : (s.logSev pl sev code source d5 d6).clk.tpUp = s.clk.tpUp := by
  obtain ⟨_, _, _, _, _, _, h⟩ := s.logSev_logged pl sev code source d5 d6; rw [h]
@[simp] theorem State.logSev_clk_dpUp (s : State) (pl : Plane) (sev code source : Nat) (d5 d6 : Word) : (s.logSev pl sev code source d5 d6).clk.dpUp = s.clk.dpUp := by
  obtain ⟨_, _, _, _, _, _, h⟩ := s.logSev_logged pl sev code source d5 d6; rw [h]
@[simp] theorem State.logSev_clk_tpFault (s : State) (pl : Plane) (sev code source : Nat) (d5 d6 : Word) : (s.logSev pl sev code source d5 d6).clk.tpFault = s.clk.tpFault := by
  obtain ⟨_, _, _, _, _, _, h⟩ := s.logSev_logged pl sev code source d5 d6; rw [h]
@[simp] theorem State.logSev_clk_mgtRestarts (s : State) (pl : Plane) (sev code source : Nat) (d5 d6 : Word) : (s.logSev pl sev code source d5 d6).clk.mgtRestarts = s.clk.mgtRestarts := by
  obtain ⟨_, _, _, _, _, _, h⟩ := s.logSev_logged pl sev code source d5 d6; rw [h]
@[simp] theorem State.logSev_axg (s : State) (pl : Plane) (sev code source : Nat) (d5 d6 : Word) : (s.logSev pl sev code source d5 d6).axg = s.axg := by
  obtain ⟨_, _, _, _, _, _, h⟩ := s.logSev_logged pl sev code source d5 d6; rw [h]
@[simp] theorem State.logSev_led (s : State) (pl : Plane) (sev code source : Nat) (d5 d6 : Word) : (s.logSev pl sev code source d5 d6).led = s.led := by
  obtain ⟨_, _, _, _, _, _, h⟩ := s.logSev_logged pl sev code source d5 d6; rw [h]
@[simp] theorem State.logSev_sec (s : State) (pl : Plane) (sev code source : Nat) (d5 d6 : Word) : (s.logSev pl sev code source d5 d6).sec = s.sec := by
  obtain ⟨_, _, _, _, _, _, h⟩ := s.logSev_logged pl sev code source d5 d6; rw [h]
@[simp] theorem State.logSev_mem (s : State) (pl : Plane) (sev code source : Nat) (d5 d6 : Word) : (s.logSev pl sev code source d5 d6).mem = s.mem := by
  obtain ⟨_, _, _, _, _, _, h⟩ := s.logSev_logged pl sev code source d5 d6; rw [h]
@[simp] theorem State.logSev_lanes (s : State) (pl : Plane) (sev code source : Nat) (d5 d6 : Word) : (s.logSev pl sev code source d5 d6).lanes = s.lanes := by
  obtain ⟨_, _, _, _, _, _, h⟩ := s.logSev_logged pl sev code source d5 d6; rw [h]
@[simp] theorem State.logSev_form (s : State) (pl : Plane) (sev code source : Nat) (d5 d6 : Word) : (s.logSev pl sev code source d5 d6).form = s.form := by
  obtain ⟨_, _, _, _, _, _, h⟩ := s.logSev_logged pl sev code source d5 d6; rw [h]
@[simp] theorem State.logSev_ports (s : State) (pl : Plane) (sev code source : Nat) (d5 d6 : Word) : (s.logSev pl sev code source d5 d6).ports = s.ports := by
  obtain ⟨_, _, _, _, _, _, h⟩ := s.logSev_logged pl sev code source d5 d6; rw [h]
@[simp] theorem State.logSev_rings (s : State) (pl : Plane) (sev code source : Nat) (d5 d6 : Word) : (s.logSev pl sev code source d5 d6).rings = s.rings := by
  obtain ⟨_, _, _, _, _, _, h⟩ := s.logSev_logged pl sev code source d5 d6; rw [h]
@[simp] theorem State.logSev_nodes (s : State) (pl : Plane) (sev code source : Nat) (d5 d6 : Word) : (s.logSev pl sev code source d5 d6).nodes = s.nodes := by
  obtain ⟨_, _, _, _, _, _, h⟩ := s.logSev_logged pl sev code source d5 d6; rw [h]
@[simp] theorem State.logSev_nodeFull (s : State) (pl : Plane) (sev code source : Nat) (d5 d6 : Word) : (s.logSev pl sev code source d5 d6).nodeFull = s.nodeFull := by
  obtain ⟨_, _, _, _, _, _, h⟩ := s.logSev_logged pl sev code source d5 d6; rw [h]
@[simp] theorem State.logSev_bypass (s : State) (pl : Plane) (sev code source : Nat) (d5 d6 : Word) : (s.logSev pl sev code source d5 d6).bypass = s.bypass := by
  obtain ⟨_, _, _, _, _, _, h⟩ := s.logSev_logged pl sev code source d5 d6; rw [h]
@[simp] theorem State.logSev_fwd (s : State) (pl : Plane) (sev code source : Nat) (d5 d6 : Word) : (s.logSev pl sev code source d5 d6).fwd = s.fwd := by
  obtain ⟨_, _, _, _, _, _, h⟩ := s.logSev_logged pl sev code source d5 d6; rw [h]
@[simp] theorem State.logSev_buf_poolSize (s : State) (pl : Plane) (sev code source : Nat) (d5 d6 : Word) : (s.logSev pl sev code source d5 d6).buf.poolSize = s.buf.poolSize := by
  obtain ⟨_, _, _, _, _, _, h⟩ := s.logSev_logged pl sev code source d5 d6; rw [h]
@[simp] theorem State.logSev_buf_alpha (s : State) (pl : Plane) (sev code source : Nat) (d5 d6 : Word) : (s.logSev pl sev code source d5 d6).buf.alpha = s.buf.alpha := by
  obtain ⟨_, _, _, _, _, _, h⟩ := s.logSev_logged pl sev code source d5 d6; rw [h]
@[simp] theorem State.logSev_buf_alphaSpark (s : State) (pl : Plane) (sev code source : Nat) (d5 d6 : Word) : (s.logSev pl sev code source d5 d6).buf.alphaSpark = s.buf.alphaSpark := by
  obtain ⟨_, _, _, _, _, _, h⟩ := s.logSev_logged pl sev code source d5 d6; rw [h]
@[simp] theorem State.logSev_buf_poolPeak (s : State) (pl : Plane) (sev code source : Nat) (d5 d6 : Word) : (s.logSev pl sev code source d5 d6).buf.poolPeak = s.buf.poolPeak := by
  obtain ⟨_, _, _, _, _, _, h⟩ := s.logSev_logged pl sev code source d5 d6; rw [h]
@[simp] theorem State.logSev_buf_mins (s : State) (pl : Plane) (sev code source : Nat) (d5 d6 : Word) : (s.logSev pl sev code source d5 d6).buf.mins = s.buf.mins := by
  obtain ⟨_, _, _, _, _, _, h⟩ := s.logSev_logged pl sev code source d5 d6; rw [h]
@[simp] theorem State.logSev_buf_admitDrops (s : State) (pl : Plane) (sev code source : Nat) (d5 d6 : Word) : (s.logSev pl sev code source d5 d6).buf.admitDrops = s.buf.admitDrops := by
  obtain ⟨_, _, _, _, _, _, h⟩ := s.logSev_logged pl sev code source d5 d6; rw [h]
@[simp] theorem State.logSev_buf_frames (s : State) (pl : Plane) (sev code source : Nat) (d5 d6 : Word) : (s.logSev pl sev code source d5 d6).buf.frames = s.buf.frames := by
  obtain ⟨_, _, _, _, _, _, h⟩ := s.logSev_logged pl sev code source d5 d6; rw [h]
@[simp] theorem State.logSev_buf_copies (s : State) (pl : Plane) (sev code source : Nat) (d5 d6 : Word) : (s.logSev pl sev code source d5 d6).buf.copies = s.buf.copies := by
  obtain ⟨_, _, _, _, _, _, h⟩ := s.logSev_logged pl sev code source d5 d6; rw [h]
@[simp] theorem State.logSev_buf_punted (s : State) (pl : Plane) (sev code source : Nat) (d5 d6 : Word) : (s.logSev pl sev code source d5 d6).buf.punted = s.buf.punted := by
  obtain ⟨_, _, _, _, _, _, h⟩ := s.logSev_logged pl sev code source d5 d6; rw [h]
@[simp] theorem State.logSev_buf_nextId (s : State) (pl : Plane) (sev code source : Nat) (d5 d6 : Word) : (s.logSev pl sev code source d5 d6).buf.nextId = s.buf.nextId := by
  obtain ⟨_, _, _, _, _, _, h⟩ := s.logSev_logged pl sev code source d5 d6; rw [h]
@[simp] theorem State.logSev_buf_iqTime (s : State) (pl : Plane) (sev code source : Nat) (d5 d6 : Word) : (s.logSev pl sev code source d5 d6).buf.iqTime = s.buf.iqTime := by
  obtain ⟨_, _, _, _, _, _, h⟩ := s.logSev_logged pl sev code source d5 d6; rw [h]
@[simp] theorem State.logSev_buf_iqCmd (s : State) (pl : Plane) (sev code source : Nat) (d5 d6 : Word) : (s.logSev pl sev code source d5 d6).buf.iqCmd = s.buf.iqCmd := by
  obtain ⟨_, _, _, _, _, _, h⟩ := s.logSev_logged pl sev code source d5 d6; rw [h]
@[simp] theorem State.logSev_buf_iqHost (s : State) (pl : Plane) (sev code source : Nat) (d5 d6 : Word) : (s.logSev pl sev code source d5 d6).buf.iqHost = s.buf.iqHost := by
  obtain ⟨_, _, _, _, _, _, h⟩ := s.logSev_logged pl sev code source d5 d6; rw [h]
@[simp] theorem State.logSev_buf_paths (s : State) (pl : Plane) (sev code source : Nat) (d5 d6 : Word) : (s.logSev pl sev code source d5 d6).buf.paths = s.buf.paths := by
  obtain ⟨_, _, _, _, _, _, h⟩ := s.logSev_logged pl sev code source d5 d6; rw [h]
@[simp] theorem State.logSev_buf_iqReg (s : State) (pl : Plane) (sev code source : Nat) (d5 d6 : Word) : (s.logSev pl sev code source d5 d6).buf.iqReg = s.buf.iqReg := by
  obtain ⟨_, _, _, _, _, _, h⟩ := s.logSev_logged pl sev code source d5 d6; rw [h]
@[simp] theorem State.logSev_buf_regWait (s : State) (pl : Plane) (sev code source : Nat) (d5 d6 : Word) : (s.logSev pl sev code source d5 d6).buf.regWait = s.buf.regWait := by
  obtain ⟨_, _, _, _, _, _, h⟩ := s.logSev_logged pl sev code source d5 d6; rw [h]
@[simp] theorem State.logSev_buf_mbxRpl (s : State) (pl : Plane) (sev code source : Nat) (d5 d6 : Word) : (s.logSev pl sev code source d5 d6).buf.mbxRpl = s.buf.mbxRpl := by
  obtain ⟨_, _, _, _, _, _, h⟩ := s.logSev_logged pl sev code source d5 d6; rw [h]
@[simp] theorem State.logSev_hst (s : State) (pl : Plane) (sev code source : Nat) (d5 d6 : Word) : (s.logSev pl sev code source d5 d6).hst = s.hst := by
  obtain ⟨_, _, _, _, _, _, h⟩ := s.logSev_logged pl sev code source d5 d6; rw [h]
@[simp] theorem State.logSev_cnt (s : State) (pl : Plane) (sev code source : Nat) (d5 d6 : Word) : (s.logSev pl sev code source d5 d6).cnt = s.cnt := by
  obtain ⟨_, _, _, _, _, _, h⟩ := s.logSev_logged pl sev code source d5 d6; rw [h]
@[simp] theorem State.logSev_tbs (s : State) (pl : Plane) (sev code source : Nat) (d5 d6 : Word) : (s.logSev pl sev code source d5 d6).tbs = s.tbs := by
  obtain ⟨_, _, _, _, _, _, h⟩ := s.logSev_logged pl sev code source d5 d6; rw [h]
@[simp] theorem State.logSev_hcfg (s : State) (pl : Plane) (sev code source : Nat) (d5 d6 : Word) : (s.logSev pl sev code source d5 d6).hcfg = s.hcfg := by
  obtain ⟨_, _, _, _, _, _, h⟩ := s.logSev_logged pl sev code source d5 d6; rw [h]
@[simp] theorem State.logSev_hier (s : State) (pl : Plane) (sev code source : Nat) (d5 d6 : Word) : (s.logSev pl sev code source d5 d6).hier = s.hier := by
  obtain ⟨_, _, _, _, _, _, h⟩ := s.logSev_logged pl sev code source d5 d6; rw [h]
@[simp] theorem State.logSev_workers (s : State) (pl : Plane) (sev code source : Nat) (d5 d6 : Word) : (s.logSev pl sev code source d5 d6).workers = s.workers := by
  obtain ⟨_, _, _, _, _, _, h⟩ := s.logSev_logged pl sev code source d5 d6; rw [h]
@[simp] theorem State.logSev_pcfg (s : State) (pl : Plane) (sev code source : Nat) (d5 d6 : Word) : (s.logSev pl sev code source d5 d6).pcfg = s.pcfg := by
  obtain ⟨_, _, _, _, _, _, h⟩ := s.logSev_logged pl sev code source d5 d6; rw [h]
@[simp] theorem State.logSev_prun (s : State) (pl : Plane) (sev code source : Nat) (d5 d6 : Word) : (s.logSev pl sev code source d5 d6).prun = s.prun := by
  obtain ⟨_, _, _, _, _, _, h⟩ := s.logSev_logged pl sev code source d5 d6; rw [h]
@[simp] theorem State.logSev_sesKeys (s : State) (pl : Plane) (sev code source : Nat) (d5 d6 : Word) : (s.logSev pl sev code source d5 d6).sesKeys = s.sesKeys := by
  obtain ⟨_, _, _, _, _, _, h⟩ := s.logSev_logged pl sev code source d5 d6; rw [h]
@[simp] theorem State.logSev_ptp (s : State) (pl : Plane) (sev code source : Nat) (d5 d6 : Word) : (s.logSev pl sev code source d5 d6).ptp = s.ptp := by
  obtain ⟨_, _, _, _, _, _, h⟩ := s.logSev_logged pl sev code source d5 d6; rw [h]
@[simp] theorem State.logSev_pal (s : State) (pl : Plane) (sev code source : Nat) (d5 d6 : Word) : (s.logSev pl sev code source d5 d6).pal = s.pal := by
  obtain ⟨_, _, _, _, _, _, h⟩ := s.logSev_logged pl sev code source d5 d6; rw [h]
@[simp] theorem State.logSev_refs (s : State) (pl : Plane) (sev code source : Nat) (d5 d6 : Word) : (s.logSev pl sev code source d5 d6).refs = s.refs := by
  obtain ⟨_, _, _, _, _, _, h⟩ := s.logSev_logged pl sev code source d5 d6; rw [h]
@[simp] theorem State.logSev_hams (s : State) (pl : Plane) (sev code source : Nat) (d5 d6 : Word) : (s.logSev pl sev code source d5 d6).hams = s.hams := by
  obtain ⟨_, _, _, _, _, _, h⟩ := s.logSev_logged pl sev code source d5 d6; rw [h]
@[simp] theorem State.logSev_chans (s : State) (pl : Plane) (sev code source : Nat) (d5 d6 : Word) : (s.logSev pl sev code source d5 d6).chans = s.chans := by
  obtain ⟨_, _, _, _, _, _, h⟩ := s.logSev_logged pl sev code source d5 d6; rw [h]
@[simp] theorem State.logSev_twinRpl (s : State) (pl : Plane) (sev code source : Nat) (d5 d6 : Word) : (s.logSev pl sev code source d5 d6).twinRpl = s.twinRpl := by
  obtain ⟨_, _, _, _, _, _, h⟩ := s.logSev_logged pl sev code source d5 d6; rw [h]
@[simp] theorem State.ok_pending (s t : State) (op : Nat) (p : Pkt) (ws : List Word) : (t.ok (s.ctxOf op p) ws).pending = t.pending := by
  obtain ⟨_, _, _, _, _, _, _, _, _, _, _, h, a, b, c⟩ := s.ok_replied t op p ws; rw [h]
@[simp] theorem State.ok_free (s t : State) (op : Nat) (p : Pkt) (ws : List Word) : (t.ok (s.ctxOf op p) ws).free = t.free := by
  obtain ⟨_, _, _, _, _, _, _, _, _, _, _, h, a, b, c⟩ := s.ok_replied t op p ws; rw [h]
@[simp] theorem State.ok_fused (s t : State) (op : Nat) (p : Pkt) (ws : List Word) : (t.ok (s.ctxOf op p) ws).fused = t.fused := by
  obtain ⟨_, _, _, _, _, _, _, _, _, _, _, h, a, b, c⟩ := s.ok_replied t op p ws; rw [h]
@[simp] theorem State.ok_tamper (s t : State) (op : Nat) (p : Pkt) (ws : List Word) : (t.ok (s.ctxOf op p) ws).tamper = t.tamper := by
  obtain ⟨_, _, _, _, _, _, _, _, _, _, _, h, a, b, c⟩ := s.ok_replied t op p ws; rw [h]
@[simp] theorem State.ok_mram (s t : State) (op : Nat) (p : Pkt) (ws : List Word) : (t.ok (s.ctxOf op p) ws).mram = t.mram := by
  obtain ⟨_, _, _, _, _, _, _, _, _, _, _, h, a, b, c⟩ := s.ok_replied t op p ws; rw [h]
@[simp] theorem State.ok_alarms (s t : State) (op : Nat) (p : Pkt) (ws : List Word) : (t.ok (s.ctxOf op p) ws).alarms = t.alarms := by
  obtain ⟨_, _, _, _, _, _, _, _, _, _, _, h, a, b, c⟩ := s.ok_replied t op p ws; rw [h]
@[simp] theorem State.ok_clk (s t : State) (op : Nat) (p : Pkt) (ws : List Word) : (t.ok (s.ctxOf op p) ws).clk = t.clk := by
  obtain ⟨_, _, _, _, _, _, _, _, _, _, _, h, a, b, c⟩ := s.ok_replied t op p ws; rw [h]
@[simp] theorem State.ok_axg_badHdr (s t : State) (op : Nat) (p : Pkt) (ws : List Word) : (t.ok (s.ctxOf op p) ws).axg.badHdr = t.axg.badHdr := by
  obtain ⟨_, _, _, _, _, _, _, _, _, _, _, h, a, b, c⟩ := s.ok_replied t op p ws; rw [h]
@[simp] theorem State.ok_axg_malformed (s t : State) (op : Nat) (p : Pkt) (ws : List Word) : (t.ok (s.ctxOf op p) ws).axg.malformed = t.axg.malformed := by
  obtain ⟨_, _, _, _, _, _, _, _, _, _, _, h, a, b, c⟩ := s.ok_replied t op p ws; rw [h]
@[simp] theorem State.ok_axg_authFails (s t : State) (op : Nat) (p : Pkt) (ws : List Word) : (t.ok (s.ctxOf op p) ws).axg.authFails = t.axg.authFails := by
  obtain ⟨_, _, _, _, _, _, _, _, _, _, _, h, a, b, c⟩ := s.ok_replied t op p ws; rw [h]
@[simp] theorem State.ok_axg_reasmDrop (s t : State) (op : Nat) (p : Pkt) (ws : List Word) : (t.ok (s.ctxOf op p) ws).axg.reasmDrop = t.axg.reasmDrop := by
  obtain ⟨_, _, _, _, _, _, _, _, _, _, _, h, a, b, c⟩ := s.ok_replied t op p ws; rw [h]
@[simp] theorem State.ok_axg_etype (s t : State) (op : Nat) (p : Pkt) (ws : List Word) : (t.ok (s.ctxOf op p) ws).axg.etype = t.axg.etype := by
  obtain ⟨_, _, _, _, _, _, _, _, _, _, _, h, a, b, c⟩ := s.ok_replied t op p ws; rw [h]
@[simp] theorem State.ok_axg_mtu (s t : State) (op : Nat) (p : Pkt) (ws : List Word) : (t.ok (s.ctxOf op p) ws).axg.mtu = t.axg.mtu := by
  obtain ⟨_, _, _, _, _, _, _, _, _, _, _, h, a, b, c⟩ := s.ok_replied t op p ws; rw [h]
@[simp] theorem State.ok_axg_authReq (s t : State) (op : Nat) (p : Pkt) (ws : List Word) : (t.ok (s.ctxOf op p) ws).axg.authReq = t.axg.authReq := by
  obtain ⟨_, _, _, _, _, _, _, _, _, _, _, h, a, b, c⟩ := s.ok_replied t op p ws; rw [h]
@[simp] theorem State.ok_axg_inbandEn (s t : State) (op : Nat) (p : Pkt) (ws : List Word) : (t.ok (s.ctxOf op p) ws).axg.inbandEn = t.axg.inbandEn := by
  obtain ⟨_, _, _, _, _, _, _, _, _, _, _, h, a, b, c⟩ := s.ok_replied t op p ws; rw [h]
@[simp] theorem State.ok_axg_groupEn (s t : State) (op : Nat) (p : Pkt) (ws : List Word) : (t.ok (s.ctxOf op p) ws).axg.groupEn = t.axg.groupEn := by
  obtain ⟨_, _, _, _, _, _, _, _, _, _, _, h, a, b, c⟩ := s.ok_replied t op p ws; rw [h]
@[simp] theorem State.ok_axg_cringBase (s t : State) (op : Nat) (p : Pkt) (ws : List Word) : (t.ok (s.ctxOf op p) ws).axg.cringBase = t.axg.cringBase := by
  obtain ⟨_, _, _, _, _, _, _, _, _, _, _, h, a, b, c⟩ := s.ok_replied t op p ws; rw [h]
@[simp] theorem State.ok_axg_cringSize (s t : State) (op : Nat) (p : Pkt) (ws : List Word) : (t.ok (s.ctxOf op p) ws).axg.cringSize = t.axg.cringSize := by
  obtain ⟨_, _, _, _, _, _, _, _, _, _, _, h, a, b, c⟩ := s.ok_replied t op p ws; rw [h]
@[simp] theorem State.ok_axg_rringBase (s t : State) (op : Nat) (p : Pkt) (ws : List Word) : (t.ok (s.ctxOf op p) ws).axg.rringBase = t.axg.rringBase := by
  obtain ⟨_, _, _, _, _, _, _, _, _, _, _, h, a, b, c⟩ := s.ok_replied t op p ws; rw [h]
@[simp] theorem State.ok_axg_rringSize (s t : State) (op : Nat) (p : Pkt) (ws : List Word) : (t.ok (s.ctxOf op p) ws).axg.rringSize = t.axg.rringSize := by
  obtain ⟨_, _, _, _, _, _, _, _, _, _, _, h, a, b, c⟩ := s.ok_replied t op p ws; rw [h]
@[simp] theorem State.ok_axg_axgWb (s t : State) (op : Nat) (p : Pkt) (ws : List Word) : (t.ok (s.ctxOf op p) ws).axg.axgWb = t.axg.axgWb := by
  obtain ⟨_, _, _, _, _, _, _, _, _, _, _, h, a, b, c⟩ := s.ok_replied t op p ws; rw [h]
@[simp] theorem State.ok_axg_axgVec (s t : State) (op : Nat) (p : Pkt) (ws : List Word) : (t.ok (s.ctxOf op p) ws).axg.axgVec = t.axg.axgVec := by
  obtain ⟨_, _, _, _, _, _, _, _, _, _, _, h, a, b, c⟩ := s.ok_replied t op p ws; rw [h]
@[simp] theorem State.ok_axg_axgVecEn (s t : State) (op : Nat) (p : Pkt) (ws : List Word) : (t.ok (s.ctxOf op p) ws).axg.axgVecEn = t.axg.axgVecEn := by
  obtain ⟨_, _, _, _, _, _, _, _, _, _, _, h, a, b, c⟩ := s.ok_replied t op p ws; rw [h]
@[simp] theorem State.ok_axg_cmdPi (s t : State) (op : Nat) (p : Pkt) (ws : List Word) : (t.ok (s.ctxOf op p) ws).axg.cmdPi = t.axg.cmdPi := by
  obtain ⟨_, _, _, _, _, _, _, _, _, _, _, h, a, b, c⟩ := s.ok_replied t op p ws; rw [h]
@[simp] theorem State.ok_axg_cmdCi (s t : State) (op : Nat) (p : Pkt) (ws : List Word) : (t.ok (s.ctxOf op p) ws).axg.cmdCi = t.axg.cmdCi := by
  obtain ⟨_, _, _, _, _, _, _, _, _, _, _, h, a, b, c⟩ := s.ok_replied t op p ws; rw [h]
@[simp] theorem State.ok_axg_rplCi (s t : State) (op : Nat) (p : Pkt) (ws : List Word) : (t.ok (s.ctxOf op p) ws).axg.rplCi = t.axg.rplCi := by
  obtain ⟨_, _, _, _, _, _, _, _, _, _, _, h, a, b, c⟩ := s.ok_replied t op p ws; rw [h]
@[simp] theorem State.ok_axg_cmdRing (s t : State) (op : Nat) (p : Pkt) (ws : List Word) : (t.ok (s.ctxOf op p) ws).axg.cmdRing = t.axg.cmdRing := by
  obtain ⟨_, _, _, _, _, _, _, _, _, _, _, h, a, b, c⟩ := s.ok_replied t op p ws; rw [h]
@[simp] theorem State.ok_axg_spiOvf (s t : State) (op : Nat) (p : Pkt) (ws : List Word) : (t.ok (s.ctxOf op p) ws).axg.spiOvf = t.axg.spiOvf := by
  obtain ⟨_, _, _, _, _, _, _, _, _, _, _, h, a, b, c⟩ := s.ok_replied t op p ws; rw [h]
@[simp] theorem State.ok_axg_spiBuf (s t : State) (op : Nat) (p : Pkt) (ws : List Word) : (t.ok (s.ctxOf op p) ws).axg.spiBuf = t.axg.spiBuf := by
  obtain ⟨_, _, _, _, _, _, _, _, _, _, _, h, a, b, c⟩ := s.ok_replied t op p ws; rw [h]
@[simp] theorem State.ok_axg_replay (s t : State) (op : Nat) (p : Pkt) (ws : List Word) : (t.ok (s.ctxOf op p) ws).axg.replay = t.axg.replay := by
  obtain ⟨_, _, _, _, _, _, _, _, _, _, _, h, a, b, c⟩ := s.ok_replied t op p ws; rw [h]
@[simp] theorem State.ok_axg_partials (s t : State) (op : Nat) (p : Pkt) (ws : List Word) : (t.ok (s.ctxOf op p) ws).axg.partials = t.axg.partials := by
  obtain ⟨_, _, _, _, _, _, _, _, _, _, _, h, a, b, c⟩ := s.ok_replied t op p ws; rw [h]
@[simp] theorem State.ok_axg_jobs (s t : State) (op : Nat) (p : Pkt) (ws : List Word) : (t.ok (s.ctxOf op p) ws).axg.jobs = t.axg.jobs := by
  obtain ⟨_, _, _, _, _, _, _, _, _, _, _, h, a, b, c⟩ := s.ok_replied t op p ws; rw [h]
@[simp] theorem State.ok_axg_relays (s t : State) (op : Nat) (p : Pkt) (ws : List Word) : (t.ok (s.ctxOf op p) ws).axg.relays = t.axg.relays := by
  obtain ⟨_, _, _, _, _, _, _, _, _, _, _, h, a, b, c⟩ := s.ok_replied t op p ws; rw [h]
@[simp] theorem State.ok_axg_tails (s t : State) (op : Nat) (p : Pkt) (ws : List Word) : (t.ok (s.ctxOf op p) ws).axg.tails = t.axg.tails := by
  obtain ⟨_, _, _, _, _, _, _, _, _, _, _, h, a, b, c⟩ := s.ok_replied t op p ws; rw [h]
@[simp] theorem State.ok_axg_arrivedReq (s t : State) (op : Nat) (p : Pkt) (ws : List Word) : (t.ok (s.ctxOf op p) ws).axg.arrivedReq = t.axg.arrivedReq := by
  obtain ⟨_, _, _, _, _, _, _, _, _, _, _, h, a, b, c⟩ := s.ok_replied t op p ws; rw [h]
@[simp] theorem State.ok_cru (s t : State) (op : Nat) (p : Pkt) (ws : List Word) : (t.ok (s.ctxOf op p) ws).cru = t.cru := by
  obtain ⟨_, _, _, _, _, _, _, _, _, _, _, h, a, b, c⟩ := s.ok_replied t op p ws; rw [h]
@[simp] theorem State.ok_led (s t : State) (op : Nat) (p : Pkt) (ws : List Word) : (t.ok (s.ctxOf op p) ws).led = t.led := by
  obtain ⟨_, _, _, _, _, _, _, _, _, _, _, h, a, b, c⟩ := s.ok_replied t op p ws; rw [h]
@[simp] theorem State.ok_sec (s t : State) (op : Nat) (p : Pkt) (ws : List Word) : (t.ok (s.ctxOf op p) ws).sec = t.sec := by
  obtain ⟨_, _, _, _, _, _, _, _, _, _, _, h, a, b, c⟩ := s.ok_replied t op p ws; rw [h]
@[simp] theorem State.ok_mem (s t : State) (op : Nat) (p : Pkt) (ws : List Word) : (t.ok (s.ctxOf op p) ws).mem = t.mem := by
  obtain ⟨_, _, _, _, _, _, _, _, _, _, _, h, a, b, c⟩ := s.ok_replied t op p ws; rw [h]
@[simp] theorem State.ok_lanes (s t : State) (op : Nat) (p : Pkt) (ws : List Word) : (t.ok (s.ctxOf op p) ws).lanes = t.lanes := by
  obtain ⟨_, _, _, _, _, _, _, _, _, _, _, h, a, b, c⟩ := s.ok_replied t op p ws; rw [h]
@[simp] theorem State.ok_form (s t : State) (op : Nat) (p : Pkt) (ws : List Word) : (t.ok (s.ctxOf op p) ws).form = t.form := by
  obtain ⟨_, _, _, _, _, _, _, _, _, _, _, h, a, b, c⟩ := s.ok_replied t op p ws; rw [h]
@[simp] theorem State.ok_ports (s t : State) (op : Nat) (p : Pkt) (ws : List Word) : (t.ok (s.ctxOf op p) ws).ports = t.ports := by
  obtain ⟨_, _, _, _, _, _, _, _, _, _, _, h, a, b, c⟩ := s.ok_replied t op p ws; rw [h]
@[simp] theorem State.ok_rings (s t : State) (op : Nat) (p : Pkt) (ws : List Word) : (t.ok (s.ctxOf op p) ws).rings = t.rings := by
  obtain ⟨_, _, _, _, _, _, _, _, _, _, _, h, a, b, c⟩ := s.ok_replied t op p ws; rw [h]
@[simp] theorem State.ok_nodes (s t : State) (op : Nat) (p : Pkt) (ws : List Word) : (t.ok (s.ctxOf op p) ws).nodes = t.nodes := by
  obtain ⟨_, _, _, _, _, _, _, _, _, _, _, h, a, b, c⟩ := s.ok_replied t op p ws; rw [h]
@[simp] theorem State.ok_nodeFull (s t : State) (op : Nat) (p : Pkt) (ws : List Word) : (t.ok (s.ctxOf op p) ws).nodeFull = t.nodeFull := by
  obtain ⟨_, _, _, _, _, _, _, _, _, _, _, h, a, b, c⟩ := s.ok_replied t op p ws; rw [h]
@[simp] theorem State.ok_bypass (s t : State) (op : Nat) (p : Pkt) (ws : List Word) : (t.ok (s.ctxOf op p) ws).bypass = t.bypass := by
  obtain ⟨_, _, _, _, _, _, _, _, _, _, _, h, a, b, c⟩ := s.ok_replied t op p ws; rw [h]
@[simp] theorem State.ok_fwd (s t : State) (op : Nat) (p : Pkt) (ws : List Word) : (t.ok (s.ctxOf op p) ws).fwd = t.fwd := by
  obtain ⟨_, _, _, _, _, _, _, _, _, _, _, h, a, b, c⟩ := s.ok_replied t op p ws; rw [h]
@[simp] theorem State.ok_buf_poolSize (s t : State) (op : Nat) (p : Pkt) (ws : List Word) : (t.ok (s.ctxOf op p) ws).buf.poolSize = t.buf.poolSize := by
  obtain ⟨_, _, _, _, _, _, _, _, _, _, _, h, a, b, c⟩ := s.ok_replied t op p ws; rw [h]
@[simp] theorem State.ok_buf_alpha (s t : State) (op : Nat) (p : Pkt) (ws : List Word) : (t.ok (s.ctxOf op p) ws).buf.alpha = t.buf.alpha := by
  obtain ⟨_, _, _, _, _, _, _, _, _, _, _, h, a, b, c⟩ := s.ok_replied t op p ws; rw [h]
@[simp] theorem State.ok_buf_alphaSpark (s t : State) (op : Nat) (p : Pkt) (ws : List Word) : (t.ok (s.ctxOf op p) ws).buf.alphaSpark = t.buf.alphaSpark := by
  obtain ⟨_, _, _, _, _, _, _, _, _, _, _, h, a, b, c⟩ := s.ok_replied t op p ws; rw [h]
@[simp] theorem State.ok_buf_poolPeak (s t : State) (op : Nat) (p : Pkt) (ws : List Word) : (t.ok (s.ctxOf op p) ws).buf.poolPeak = t.buf.poolPeak := by
  obtain ⟨_, _, _, _, _, _, _, _, _, _, _, h, a, b, c⟩ := s.ok_replied t op p ws; rw [h]
@[simp] theorem State.ok_buf_mins (s t : State) (op : Nat) (p : Pkt) (ws : List Word) : (t.ok (s.ctxOf op p) ws).buf.mins = t.buf.mins := by
  obtain ⟨_, _, _, _, _, _, _, _, _, _, _, h, a, b, c⟩ := s.ok_replied t op p ws; rw [h]
@[simp] theorem State.ok_buf_admitDrops (s t : State) (op : Nat) (p : Pkt) (ws : List Word) : (t.ok (s.ctxOf op p) ws).buf.admitDrops = t.buf.admitDrops := by
  obtain ⟨_, _, _, _, _, _, _, _, _, _, _, h, a, b, c⟩ := s.ok_replied t op p ws; rw [h]
@[simp] theorem State.ok_buf_frames (s t : State) (op : Nat) (p : Pkt) (ws : List Word) : (t.ok (s.ctxOf op p) ws).buf.frames = t.buf.frames := by
  obtain ⟨_, _, _, _, _, _, _, _, _, _, _, h, a, b, c⟩ := s.ok_replied t op p ws; rw [h]
@[simp] theorem State.ok_buf_copies (s t : State) (op : Nat) (p : Pkt) (ws : List Word) : (t.ok (s.ctxOf op p) ws).buf.copies = t.buf.copies := by
  obtain ⟨_, _, _, _, _, _, _, _, _, _, _, h, a, b, c⟩ := s.ok_replied t op p ws; rw [h]
@[simp] theorem State.ok_buf_punted (s t : State) (op : Nat) (p : Pkt) (ws : List Word) : (t.ok (s.ctxOf op p) ws).buf.punted = t.buf.punted := by
  obtain ⟨_, _, _, _, _, _, _, _, _, _, _, h, a, b, c⟩ := s.ok_replied t op p ws; rw [h]
@[simp] theorem State.ok_buf_nextId (s t : State) (op : Nat) (p : Pkt) (ws : List Word) : (t.ok (s.ctxOf op p) ws).buf.nextId = t.buf.nextId := by
  obtain ⟨_, _, _, _, _, _, _, _, _, _, _, h, a, b, c⟩ := s.ok_replied t op p ws; rw [h]
@[simp] theorem State.ok_buf_iqHost (s t : State) (op : Nat) (p : Pkt) (ws : List Word) : (t.ok (s.ctxOf op p) ws).buf.iqHost = t.buf.iqHost := by
  obtain ⟨_, _, _, _, _, _, _, _, _, _, _, h, a, b, c⟩ := s.ok_replied t op p ws; rw [h]
@[simp] theorem State.ok_buf_paths (s t : State) (op : Nat) (p : Pkt) (ws : List Word) : (t.ok (s.ctxOf op p) ws).buf.paths = t.buf.paths := by
  obtain ⟨_, _, _, _, _, _, _, _, _, _, _, h, a, b, c⟩ := s.ok_replied t op p ws; rw [h]
@[simp] theorem State.ok_buf_iqReg (s t : State) (op : Nat) (p : Pkt) (ws : List Word) : (t.ok (s.ctxOf op p) ws).buf.iqReg = t.buf.iqReg := by
  obtain ⟨_, _, _, _, _, _, _, _, _, _, _, h, a, b, c⟩ := s.ok_replied t op p ws; rw [h]
@[simp] theorem State.ok_buf_regWait (s t : State) (op : Nat) (p : Pkt) (ws : List Word) : (t.ok (s.ctxOf op p) ws).buf.regWait = t.buf.regWait := by
  obtain ⟨_, _, _, _, _, _, _, _, _, _, _, h, a, b, c⟩ := s.ok_replied t op p ws; rw [h]
@[simp] theorem State.ok_buf_pqReg (s t : State) (op : Nat) (p : Pkt) (ws : List Word) : (t.ok (s.ctxOf op p) ws).buf.pqReg = t.buf.pqReg := by
  obtain ⟨_, _, _, _, _, _, _, _, _, _, _, h, a, b, c⟩ := s.ok_replied t op p ws; rw [h]
@[simp] theorem State.ok_buf_mbxEvt (s t : State) (op : Nat) (p : Pkt) (ws : List Word) : (t.ok (s.ctxOf op p) ws).buf.mbxEvt = t.buf.mbxEvt := by
  obtain ⟨_, _, _, _, _, _, _, _, _, _, _, h, a, b, c⟩ := s.ok_replied t op p ws; rw [h]
@[simp] theorem State.ok_buf_mbxEvtDrops (s t : State) (op : Nat) (p : Pkt) (ws : List Word) : (t.ok (s.ctxOf op p) ws).buf.mbxEvtDrops = t.buf.mbxEvtDrops := by
  obtain ⟨_, _, _, _, _, _, _, _, _, _, _, h, a, b, c⟩ := s.ok_replied t op p ws; rw [h]
@[simp] theorem State.ok_hst_pringBase (s t : State) (op : Nat) (p : Pkt) (ws : List Word) : (t.ok (s.ctxOf op p) ws).hst.pringBase = t.hst.pringBase := by
  obtain ⟨_, _, _, _, _, _, _, _, _, _, _, h, a, b, c⟩ := s.ok_replied t op p ws; rw [h]
@[simp] theorem State.ok_hst_pringSize (s t : State) (op : Nat) (p : Pkt) (ws : List Word) : (t.ok (s.ctxOf op p) ws).hst.pringSize = t.hst.pringSize := by
  obtain ⟨_, _, _, _, _, _, _, _, _, _, _, h, a, b, c⟩ := s.ok_replied t op p ws; rw [h]
@[simp] theorem State.ok_hst_pbufSize (s t : State) (op : Nat) (p : Pkt) (ws : List Word) : (t.ok (s.ctxOf op p) ws).hst.pbufSize = t.hst.pbufSize := by
  obtain ⟨_, _, _, _, _, _, _, _, _, _, _, h, a, b, c⟩ := s.ok_replied t op p ws; rw [h]
@[simp] theorem State.ok_hst_iringBase (s t : State) (op : Nat) (p : Pkt) (ws : List Word) : (t.ok (s.ctxOf op p) ws).hst.iringBase = t.hst.iringBase := by
  obtain ⟨_, _, _, _, _, _, _, _, _, _, _, h, a, b, c⟩ := s.ok_replied t op p ws; rw [h]
@[simp] theorem State.ok_hst_iringSize (s t : State) (op : Nat) (p : Pkt) (ws : List Word) : (t.ok (s.ctxOf op p) ws).hst.iringSize = t.hst.iringSize := by
  obtain ⟨_, _, _, _, _, _, _, _, _, _, _, h, a, b, c⟩ := s.ok_replied t op p ws; rw [h]
@[simp] theorem State.ok_hst_dmaWb (s t : State) (op : Nat) (p : Pkt) (ws : List Word) : (t.ok (s.ctxOf op p) ws).hst.dmaWb = t.hst.dmaWb := by
  obtain ⟨_, _, _, _, _, _, _, _, _, _, _, h, a, b, c⟩ := s.ok_replied t op p ws; rw [h]
@[simp] theorem State.ok_hst_puntVec (s t : State) (op : Nat) (p : Pkt) (ws : List Word) : (t.ok (s.ctxOf op p) ws).hst.puntVec = t.hst.puntVec := by
  obtain ⟨_, _, _, _, _, _, _, _, _, _, _, h, a, b, c⟩ := s.ok_replied t op p ws; rw [h]
@[simp] theorem State.ok_hst_puntVecEn (s t : State) (op : Nat) (p : Pkt) (ws : List Word) : (t.ok (s.ctxOf op p) ws).hst.puntVecEn = t.hst.puntVecEn := by
  obtain ⟨_, _, _, _, _, _, _, _, _, _, _, h, a, b, c⟩ := s.ok_replied t op p ws; rw [h]
@[simp] theorem State.ok_hst_insVec (s t : State) (op : Nat) (p : Pkt) (ws : List Word) : (t.ok (s.ctxOf op p) ws).hst.insVec = t.hst.insVec := by
  obtain ⟨_, _, _, _, _, _, _, _, _, _, _, h, a, b, c⟩ := s.ok_replied t op p ws; rw [h]
@[simp] theorem State.ok_hst_insVecEn (s t : State) (op : Nat) (p : Pkt) (ws : List Word) : (t.ok (s.ctxOf op p) ws).hst.insVecEn = t.hst.insVecEn := by
  obtain ⟨_, _, _, _, _, _, _, _, _, _, _, h, a, b, c⟩ := s.ok_replied t op p ws; rw [h]
@[simp] theorem State.ok_hst_puntPi (s t : State) (op : Nat) (p : Pkt) (ws : List Word) : (t.ok (s.ctxOf op p) ws).hst.puntPi = t.hst.puntPi := by
  obtain ⟨_, _, _, _, _, _, _, _, _, _, _, h, a, b, c⟩ := s.ok_replied t op p ws; rw [h]
@[simp] theorem State.ok_hst_puntCi (s t : State) (op : Nat) (p : Pkt) (ws : List Word) : (t.ok (s.ctxOf op p) ws).hst.puntCi = t.hst.puntCi := by
  obtain ⟨_, _, _, _, _, _, _, _, _, _, _, h, a, b, c⟩ := s.ok_replied t op p ws; rw [h]
@[simp] theorem State.ok_hst_insPi (s t : State) (op : Nat) (p : Pkt) (ws : List Word) : (t.ok (s.ctxOf op p) ws).hst.insPi = t.hst.insPi := by
  obtain ⟨_, _, _, _, _, _, _, _, _, _, _, h, a, b, c⟩ := s.ok_replied t op p ws; rw [h]
@[simp] theorem State.ok_hst_insFetch (s t : State) (op : Nat) (p : Pkt) (ws : List Word) : (t.ok (s.ctxOf op p) ws).hst.insFetch = t.hst.insFetch := by
  obtain ⟨_, _, _, _, _, _, _, _, _, _, _, h, a, b, c⟩ := s.ok_replied t op p ws; rw [h]
@[simp] theorem State.ok_hst_insCi (s t : State) (op : Nat) (p : Pkt) (ws : List Word) : (t.ok (s.ctxOf op p) ws).hst.insCi = t.hst.insCi := by
  obtain ⟨_, _, _, _, _, _, _, _, _, _, _, h, a, b, c⟩ := s.ok_replied t op p ws; rw [h]
@[simp] theorem State.ok_hst_insDescs (s t : State) (op : Nat) (p : Pkt) (ws : List Word) : (t.ok (s.ctxOf op p) ws).hst.insDescs = t.hst.insDescs := by
  obtain ⟨_, _, _, _, _, _, _, _, _, _, _, h, a, b, c⟩ := s.ok_replied t op p ws; rw [h]
@[simp] theorem State.ok_hst_msix (s t : State) (op : Nat) (p : Pkt) (ws : List Word) : (t.ok (s.ctxOf op p) ws).hst.msix = t.hst.msix := by
  obtain ⟨_, _, _, _, _, _, _, _, _, _, _, h, a, b, c⟩ := s.ok_replied t op p ws; rw [h]
@[simp] theorem State.ok_hst_copy (s t : State) (op : Nat) (p : Pkt) (ws : List Word) : (t.ok (s.ctxOf op p) ws).hst.copy = t.hst.copy := by
  obtain ⟨_, _, _, _, _, _, _, _, _, _, _, h, a, b, c⟩ := s.ok_replied t op p ws; rw [h]
@[simp] theorem State.ok_hst_sbpHold (s t : State) (op : Nat) (p : Pkt) (ws : List Word) : (t.ok (s.ctxOf op p) ws).hst.sbpHold = t.hst.sbpHold := by
  obtain ⟨_, _, _, _, _, _, _, _, _, _, _, h, a, b, c⟩ := s.ok_replied t op p ws; rw [h]
@[simp] theorem State.ok_hst_snapWords (s t : State) (op : Nat) (p : Pkt) (ws : List Word) : (t.ok (s.ctxOf op p) ws).hst.snapWords = t.hst.snapWords := by
  obtain ⟨_, _, _, _, _, _, _, _, _, _, _, h, a, b, c⟩ := s.ok_replied t op p ws; rw [h]
@[simp] theorem State.ok_hst_snapPend (s t : State) (op : Nat) (p : Pkt) (ws : List Word) : (t.ok (s.ctxOf op p) ws).hst.snapPend = t.hst.snapPend := by
  obtain ⟨_, _, _, _, _, _, _, _, _, _, _, h, a, b, c⟩ := s.ok_replied t op p ws; rw [h]
@[simp] theorem State.ok_hst_snapOverrun (s t : State) (op : Nat) (p : Pkt) (ws : List Word) : (t.ok (s.ctxOf op p) ws).hst.snapOverrun = t.hst.snapOverrun := by
  obtain ⟨_, _, _, _, _, _, _, _, _, _, _, h, a, b, c⟩ := s.ok_replied t op p ws; rw [h]
@[simp] theorem State.ok_hst_snapMissed (s t : State) (op : Nat) (p : Pkt) (ws : List Word) : (t.ok (s.ctxOf op p) ws).hst.snapMissed = t.hst.snapMissed := by
  obtain ⟨_, _, _, _, _, _, _, _, _, _, _, h, a, b, c⟩ := s.ok_replied t op p ws; rw [h]
@[simp] theorem State.ok_hst_snapLast (s t : State) (op : Nat) (p : Pkt) (ws : List Word) : (t.ok (s.ctxOf op p) ws).hst.snapLast = t.hst.snapLast := by
  obtain ⟨_, _, _, _, _, _, _, _, _, _, _, h, a, b, c⟩ := s.ok_replied t op p ws; rw [h]
@[simp] theorem State.ok_hst_tap (s t : State) (op : Nat) (p : Pkt) (ws : List Word) : (t.ok (s.ctxOf op p) ws).hst.tap = t.hst.tap := by
  obtain ⟨_, _, _, _, _, _, _, _, _, _, _, h, a, b, c⟩ := s.ok_replied t op p ws; rw [h]
@[simp] theorem State.ok_hst_bsr (s t : State) (op : Nat) (p : Pkt) (ws : List Word) : (t.ok (s.ctxOf op p) ws).hst.bsr = t.hst.bsr := by
  obtain ⟨_, _, _, _, _, _, _, _, _, _, _, h, a, b, c⟩ := s.ok_replied t op p ws; rw [h]
@[simp] theorem State.ok_cnt (s t : State) (op : Nat) (p : Pkt) (ws : List Word) : (t.ok (s.ctxOf op p) ws).cnt = t.cnt := by
  obtain ⟨_, _, _, _, _, _, _, _, _, _, _, h, a, b, c⟩ := s.ok_replied t op p ws; rw [h]
@[simp] theorem State.ok_tbs (s t : State) (op : Nat) (p : Pkt) (ws : List Word) : (t.ok (s.ctxOf op p) ws).tbs = t.tbs := by
  obtain ⟨_, _, _, _, _, _, _, _, _, _, _, h, a, b, c⟩ := s.ok_replied t op p ws; rw [h]
@[simp] theorem State.ok_hcfg (s t : State) (op : Nat) (p : Pkt) (ws : List Word) : (t.ok (s.ctxOf op p) ws).hcfg = t.hcfg := by
  obtain ⟨_, _, _, _, _, _, _, _, _, _, _, h, a, b, c⟩ := s.ok_replied t op p ws; rw [h]
@[simp] theorem State.ok_hier (s t : State) (op : Nat) (p : Pkt) (ws : List Word) : (t.ok (s.ctxOf op p) ws).hier = t.hier := by
  obtain ⟨_, _, _, _, _, _, _, _, _, _, _, h, a, b, c⟩ := s.ok_replied t op p ws; rw [h]
@[simp] theorem State.ok_workers (s t : State) (op : Nat) (p : Pkt) (ws : List Word) : (t.ok (s.ctxOf op p) ws).workers = t.workers := by
  obtain ⟨_, _, _, _, _, _, _, _, _, _, _, h, a, b, c⟩ := s.ok_replied t op p ws; rw [h]
@[simp] theorem State.ok_pcfg (s t : State) (op : Nat) (p : Pkt) (ws : List Word) : (t.ok (s.ctxOf op p) ws).pcfg = t.pcfg := by
  obtain ⟨_, _, _, _, _, _, _, _, _, _, _, h, a, b, c⟩ := s.ok_replied t op p ws; rw [h]
@[simp] theorem State.ok_prun_st (s t : State) (op : Nat) (p : Pkt) (ws : List Word) : (t.ok (s.ctxOf op p) ws).prun.st = t.prun.st := by
  obtain ⟨_, _, _, _, _, _, _, _, _, _, _, h, a, b, c⟩ := s.ok_replied t op p ws; rw [h]
@[simp] theorem State.ok_prun_twinUp (s t : State) (op : Nat) (p : Pkt) (ws : List Word) : (t.ok (s.ctxOf op p) ws).prun.twinUp = t.prun.twinUp := by
  obtain ⟨_, _, _, _, _, _, _, _, _, _, _, h, a, b, c⟩ := s.ok_replied t op p ws; rw [h]
@[simp] theorem State.ok_prun_partnerSt (s t : State) (op : Nat) (p : Pkt) (ws : List Word) : (t.ok (s.ctxOf op p) ws).prun.partnerSt = t.prun.partnerSt := by
  obtain ⟨_, _, _, _, _, _, _, _, _, _, _, h, a, b, c⟩ := s.ok_replied t op p ws; rw [h]
@[simp] theorem State.ok_prun_partnerGen (s t : State) (op : Nat) (p : Pkt) (ws : List Word) : (t.ok (s.ctxOf op p) ws).prun.partnerGen = t.prun.partnerGen := by
  obtain ⟨_, _, _, _, _, _, _, _, _, _, _, h, a, b, c⟩ := s.ok_replied t op p ws; rw [h]
@[simp] theorem State.ok_prun_twinDown (s t : State) (op : Nat) (p : Pkt) (ws : List Word) : (t.ok (s.ctxOf op p) ws).prun.twinDown = t.prun.twinDown := by
  obtain ⟨_, _, _, _, _, _, _, _, _, _, _, h, a, b, c⟩ := s.ok_replied t op p ws; rw [h]
@[simp] theorem State.ok_prun_disagree (s t : State) (op : Nat) (p : Pkt) (ws : List Word) : (t.ok (s.ctxOf op p) ws).prun.disagree = t.prun.disagree := by
  obtain ⟨_, _, _, _, _, _, _, _, _, _, _, h, a, b, c⟩ := s.ok_replied t op p ws; rw [h]
@[simp] theorem State.ok_prun_diverge (s t : State) (op : Nat) (p : Pkt) (ws : List Word) : (t.ok (s.ctxOf op p) ws).prun.diverge = t.prun.diverge := by
  obtain ⟨_, _, _, _, _, _, _, _, _, _, _, h, a, b, c⟩ := s.ok_replied t op p ws; rw [h]
@[simp] theorem State.ok_prun_mismatch (s t : State) (op : Nat) (p : Pkt) (ws : List Word) : (t.ok (s.ctxOf op p) ws).prun.mismatch = t.prun.mismatch := by
  obtain ⟨_, _, _, _, _, _, _, _, _, _, _, h, a, b, c⟩ := s.ok_replied t op p ws; rw [h]
@[simp] theorem State.ok_prun_dualSeen (s t : State) (op : Nat) (p : Pkt) (ws : List Word) : (t.ok (s.ctxOf op p) ws).prun.dualSeen = t.prun.dualSeen := by
  obtain ⟨_, _, _, _, _, _, _, _, _, _, _, h, a, b, c⟩ := s.ok_replied t op p ws; rw [h]
@[simp] theorem State.ok_prun_selfOk (s t : State) (op : Nat) (p : Pkt) (ws : List Word) : (t.ok (s.ctxOf op p) ws).prun.selfOk = t.prun.selfOk := by
  obtain ⟨_, _, _, _, _, _, _, _, _, _, _, h, a, b, c⟩ := s.ok_replied t op p ws; rw [h]
@[simp] theorem State.ok_prun_lastCause (s t : State) (op : Nat) (p : Pkt) (ws : List Word) : (t.ok (s.ctxOf op p) ws).prun.lastCause = t.prun.lastCause := by
  obtain ⟨_, _, _, _, _, _, _, _, _, _, _, h, a, b, c⟩ := s.ok_replied t op p ws; rw [h]
@[simp] theorem State.ok_prun_dHam (s t : State) (op : Nat) (p : Pkt) (ws : List Word) : (t.ok (s.ctxOf op p) ws).prun.dHam = t.prun.dHam := by
  obtain ⟨_, _, _, _, _, _, _, _, _, _, _, h, a, b, c⟩ := s.ok_replied t op p ws; rw [h]
@[simp] theorem State.ok_prun_dSync (s t : State) (op : Nat) (p : Pkt) (ws : List Word) : (t.ok (s.ctxOf op p) ws).prun.dSync = t.prun.dSync := by
  obtain ⟨_, _, _, _, _, _, _, _, _, _, _, h, a, b, c⟩ := s.ok_replied t op p ws; rw [h]
@[simp] theorem State.ok_prun_theta (s t : State) (op : Nat) (p : Pkt) (ws : List Word) : (t.ok (s.ctxOf op p) ws).prun.theta = t.prun.theta := by
  obtain ⟨_, _, _, _, _, _, _, _, _, _, _, h, a, b, c⟩ := s.ok_replied t op p ws; rw [h]
@[simp] theorem State.ok_prun_thetaAt (s t : State) (op : Nat) (p : Pkt) (ws : List Word) : (t.ok (s.ctxOf op p) ws).prun.thetaAt = t.prun.thetaAt := by
  obtain ⟨_, _, _, _, _, _, _, _, _, _, _, h, a, b, c⟩ := s.ok_replied t op p ws; rw [h]
@[simp] theorem State.ok_prun_thetaPrev (s t : State) (op : Nat) (p : Pkt) (ws : List Word) : (t.ok (s.ctxOf op p) ws).prun.thetaPrev = t.prun.thetaPrev := by
  obtain ⟨_, _, _, _, _, _, _, _, _, _, _, h, a, b, c⟩ := s.ok_replied t op p ws; rw [h]
@[simp] theorem State.ok_prun_thetaPrevAt (s t : State) (op : Nat) (p : Pkt) (ws : List Word) : (t.ok (s.ctxOf op p) ws).prun.thetaPrevAt = t.prun.thetaPrevAt := by
  obtain ⟨_, _, _, _, _, _, _, _, _, _, _, h, a, b, c⟩ := s.ok_replied t op p ws; rw [h]
@[simp] theorem State.ok_prun_syncCmp (s t : State) (op : Nat) (p : Pkt) (ws : List Word) : (t.ok (s.ctxOf op p) ws).prun.syncCmp = t.prun.syncCmp := by
  obtain ⟨_, _, _, _, _, _, _, _, _, _, _, h, a, b, c⟩ := s.ok_replied t op p ws; rw [h]
@[simp] theorem State.ok_prun_eOwn (s t : State) (op : Nat) (p : Pkt) (ws : List Word) : (t.ok (s.ctxOf op p) ws).prun.eOwn = t.prun.eOwn := by
  obtain ⟨_, _, _, _, _, _, _, _, _, _, _, h, a, b, c⟩ := s.ok_replied t op p ws; rw [h]
@[simp] theorem State.ok_prun_ePartner (s t : State) (op : Nat) (p : Pkt) (ws : List Word) : (t.ok (s.ctxOf op p) ws).prun.ePartner = t.prun.ePartner := by
  obtain ⟨_, _, _, _, _, _, _, _, _, _, _, h, a, b, c⟩ := s.ok_replied t op p ws; rw [h]
@[simp] theorem State.ok_prun_disputes (s t : State) (op : Nat) (p : Pkt) (ws : List Word) : (t.ok (s.ctxOf op p) ws).prun.disputes = t.prun.disputes := by
  obtain ⟨_, _, _, _, _, _, _, _, _, _, _, h, a, b, c⟩ := s.ok_replied t op p ws; rw [h]
@[simp] theorem State.ok_prun_takeovers (s t : State) (op : Nat) (p : Pkt) (ws : List Word) : (t.ok (s.ctxOf op p) ws).prun.takeovers = t.prun.takeovers := by
  obtain ⟨_, _, _, _, _, _, _, _, _, _, _, h, a, b, c⟩ := s.ok_replied t op p ws; rw [h]
@[simp] theorem State.ok_prun_digestMismatch (s t : State) (op : Nat) (p : Pkt) (ws : List Word) : (t.ok (s.ctxOf op p) ws).prun.digestMismatch = t.prun.digestMismatch := by
  obtain ⟨_, _, _, _, _, _, _, _, _, _, _, h, a, b, c⟩ := s.ok_replied t op p ws; rw [h]
@[simp] theorem State.ok_prun_twinDrops (s t : State) (op : Nat) (p : Pkt) (ws : List Word) : (t.ok (s.ctxOf op p) ws).prun.twinDrops = t.prun.twinDrops := by
  obtain ⟨_, _, _, _, _, _, _, _, _, _, _, h, a, b, c⟩ := s.ok_replied t op p ws; rw [h]
@[simp] theorem State.ok_prun_filtered (s t : State) (op : Nat) (p : Pkt) (ws : List Word) : (t.ok (s.ctxOf op p) ws).prun.filtered = t.prun.filtered := by
  obtain ⟨_, _, _, _, _, _, _, _, _, _, _, h, a, b, c⟩ := s.ok_replied t op p ws; rw [h]
@[simp] theorem State.ok_prun_lastDual (s t : State) (op : Nat) (p : Pkt) (ws : List Word) : (t.ok (s.ctxOf op p) ws).prun.lastDual = t.prun.lastDual := by
  obtain ⟨_, _, _, _, _, _, _, _, _, _, _, h, a, b, c⟩ := s.ok_replied t op p ws; rw [h]
@[simp] theorem State.ok_prun_beyond (s t : State) (op : Nat) (p : Pkt) (ws : List Word) : (t.ok (s.ctxOf op p) ws).prun.beyond = t.prun.beyond := by
  obtain ⟨_, _, _, _, _, _, _, _, _, _, _, h, a, b, c⟩ := s.ok_replied t op p ws; rw [h]
@[simp] theorem State.ok_prun_digestRun (s t : State) (op : Nat) (p : Pkt) (ws : List Word) : (t.ok (s.ctxOf op p) ws).prun.digestRun = t.prun.digestRun := by
  obtain ⟨_, _, _, _, _, _, _, _, _, _, _, h, a, b, c⟩ := s.ok_replied t op p ws; rw [h]
@[simp] theorem State.ok_prun_dispute (s t : State) (op : Nat) (p : Pkt) (ws : List Word) : (t.ok (s.ctxOf op p) ws).prun.dispute = t.prun.dispute := by
  obtain ⟨_, _, _, _, _, _, _, _, _, _, _, h, a, b, c⟩ := s.ok_replied t op p ws; rw [h]
@[simp] theorem State.ok_prun_own (s t : State) (op : Nat) (p : Pkt) (ws : List Word) : (t.ok (s.ctxOf op p) ws).prun.own = t.prun.own := by
  obtain ⟨_, _, _, _, _, _, _, _, _, _, _, h, a, b, c⟩ := s.ok_replied t op p ws; rw [h]
@[simp] theorem State.ok_prun_partner (s t : State) (op : Nat) (p : Pkt) (ws : List Word) : (t.ok (s.ctxOf op p) ws).prun.partner = t.prun.partner := by
  obtain ⟨_, _, _, _, _, _, _, _, _, _, _, h, a, b, c⟩ := s.ok_replied t op p ws; rw [h]
@[simp] theorem State.ok_prun_quietUntil (s t : State) (op : Nat) (p : Pkt) (ws : List Word) : (t.ok (s.ctxOf op p) ws).prun.quietUntil = t.prun.quietUntil := by
  obtain ⟨_, _, _, _, _, _, _, _, _, _, _, h, a, b, c⟩ := s.ok_replied t op p ws; rw [h]
@[simp] theorem State.ok_prun_faulty (s t : State) (op : Nat) (p : Pkt) (ws : List Word) : (t.ok (s.ctxOf op p) ws).prun.faulty = t.prun.faulty := by
  obtain ⟨_, _, _, _, _, _, _, _, _, _, _, h, a, b, c⟩ := s.ok_replied t op p ws; rw [h]
@[simp] theorem State.ok_prun_witness (s t : State) (op : Nat) (p : Pkt) (ws : List Word) : (t.ok (s.ctxOf op p) ws).prun.witness = t.prun.witness := by
  obtain ⟨_, _, _, _, _, _, _, _, _, _, _, h, a, b, c⟩ := s.ok_replied t op p ws; rw [h]
@[simp] theorem State.ok_prun_twinRx (s t : State) (op : Nat) (p : Pkt) (ws : List Word) : (t.ok (s.ctxOf op p) ws).prun.twinRx = t.prun.twinRx := by
  obtain ⟨_, _, _, _, _, _, _, _, _, _, _, h, a, b, c⟩ := s.ok_replied t op p ws; rw [h]
@[simp] theorem State.ok_prun_twinTx (s t : State) (op : Nat) (p : Pkt) (ws : List Word) : (t.ok (s.ctxOf op p) ws).prun.twinTx = t.prun.twinTx := by
  obtain ⟨_, _, _, _, _, _, _, _, _, _, _, h, a, b, c⟩ := s.ok_replied t op p ws; rw [h]
@[simp] theorem State.ok_prun_ham0 (s t : State) (op : Nat) (p : Pkt) (ws : List Word) : (t.ok (s.ctxOf op p) ws).prun.ham0 = t.prun.ham0 := by
  obtain ⟨_, _, _, _, _, _, _, _, _, _, _, h, a, b, c⟩ := s.ok_replied t op p ws; rw [h]
@[simp] theorem State.ok_prun_hamCmp (s t : State) (op : Nat) (p : Pkt) (ws : List Word) : (t.ok (s.ctxOf op p) ws).prun.hamCmp = t.prun.hamCmp := by
  obtain ⟨_, _, _, _, _, _, _, _, _, _, _, h, a, b, c⟩ := s.ok_replied t op p ws; rw [h]
@[simp] theorem State.ok_prun_digest (s t : State) (op : Nat) (p : Pkt) (ws : List Word) : (t.ok (s.ctxOf op p) ws).prun.digest = t.prun.digest := by
  obtain ⟨_, _, _, _, _, _, _, _, _, _, _, h, a, b, c⟩ := s.ok_replied t op p ws; rw [h]
@[simp] theorem State.ok_prun_ownDigests (s t : State) (op : Nat) (p : Pkt) (ws : List Word) : (t.ok (s.ctxOf op p) ws).prun.ownDigests = t.prun.ownDigests := by
  obtain ⟨_, _, _, _, _, _, _, _, _, _, _, h, a, b, c⟩ := s.ok_replied t op p ws; rw [h]
@[simp] theorem State.ok_prun_partnerDigests (s t : State) (op : Nat) (p : Pkt) (ws : List Word) : (t.ok (s.ctxOf op p) ws).prun.partnerDigests = t.prun.partnerDigests := by
  obtain ⟨_, _, _, _, _, _, _, _, _, _, _, h, a, b, c⟩ := s.ok_replied t op p ws; rw [h]
@[simp] theorem State.ok_prun_activeAt (s t : State) (op : Nat) (p : Pkt) (ws : List Word) : (t.ok (s.ctxOf op p) ws).prun.activeAt = t.prun.activeAt := by
  obtain ⟨_, _, _, _, _, _, _, _, _, _, _, h, a, b, c⟩ := s.ok_replied t op p ws; rw [h]
@[simp] theorem State.ok_prun_heardAt (s t : State) (op : Nat) (p : Pkt) (ws : List Word) : (t.ok (s.ctxOf op p) ws).prun.heardAt = t.prun.heardAt := by
  obtain ⟨_, _, _, _, _, _, _, _, _, _, _, h, a, b, c⟩ := s.ok_replied t op p ws; rw [h]
@[simp] theorem State.ok_prun_twinAt (s t : State) (op : Nat) (p : Pkt) (ws : List Word) : (t.ok (s.ctxOf op p) ws).prun.twinAt = t.prun.twinAt := by
  obtain ⟨_, _, _, _, _, _, _, _, _, _, _, h, a, b, c⟩ := s.ok_replied t op p ws; rw [h]
@[simp] theorem State.ok_prun_pairs (s t : State) (op : Nat) (p : Pkt) (ws : List Word) : (t.ok (s.ctxOf op p) ws).prun.pairs = t.prun.pairs := by
  obtain ⟨_, _, _, _, _, _, _, _, _, _, _, h, a, b, c⟩ := s.ok_replied t op p ws; rw [h]
@[simp] theorem State.ok_sesKeys (s t : State) (op : Nat) (p : Pkt) (ws : List Word) : (t.ok (s.ctxOf op p) ws).sesKeys = t.sesKeys := by
  obtain ⟨_, _, _, _, _, _, _, _, _, _, _, h, a, b, c⟩ := s.ok_replied t op p ws; rw [h]
@[simp] theorem State.ok_ptp (s t : State) (op : Nat) (p : Pkt) (ws : List Word) : (t.ok (s.ctxOf op p) ws).ptp = t.ptp := by
  obtain ⟨_, _, _, _, _, _, _, _, _, _, _, h, a, b, c⟩ := s.ok_replied t op p ws; rw [h]
@[simp] theorem State.ok_pal (s t : State) (op : Nat) (p : Pkt) (ws : List Word) : (t.ok (s.ctxOf op p) ws).pal = t.pal := by
  obtain ⟨_, _, _, _, _, _, _, _, _, _, _, h, a, b, c⟩ := s.ok_replied t op p ws; rw [h]
@[simp] theorem State.ok_refs (s t : State) (op : Nat) (p : Pkt) (ws : List Word) : (t.ok (s.ctxOf op p) ws).refs = t.refs := by
  obtain ⟨_, _, _, _, _, _, _, _, _, _, _, h, a, b, c⟩ := s.ok_replied t op p ws; rw [h]
@[simp] theorem State.ok_hams (s t : State) (op : Nat) (p : Pkt) (ws : List Word) : (t.ok (s.ctxOf op p) ws).hams = t.hams := by
  obtain ⟨_, _, _, _, _, _, _, _, _, _, _, h, a, b, c⟩ := s.ok_replied t op p ws; rw [h]
@[simp] theorem State.ok_chans (s t : State) (op : Nat) (p : Pkt) (ws : List Word) : (t.ok (s.ctxOf op p) ws).chans = t.chans := by
  obtain ⟨_, _, _, _, _, _, _, _, _, _, _, h, a, b, c⟩ := s.ok_replied t op p ws; rw [h]
@[simp] theorem State.ok_twinRpl (s t : State) (op : Nat) (p : Pkt) (ws : List Word) : (t.ok (s.ctxOf op p) ws).twinRpl = t.twinRpl := by
  obtain ⟨_, _, _, _, _, _, _, _, _, _, _, h, a, b, c⟩ := s.ok_replied t op p ws; rw [h]
@[simp] theorem State.ok_start_power (s t : State) (op : Nat) (p : Pkt) (ws : List Word) : (t.ok (s.ctxOf op p) ws).start.power = t.start.power := by
  obtain ⟨_, _, _, _, _, _, _, _, _, _, _, h, a, b, c⟩ := s.ok_replied t op p ws; rw [h]; simp only [Prod.mk.injEq] at a; simp [a]
@[simp] theorem State.ok_start_mpi (s t : State) (op : Nat) (p : Pkt) (ws : List Word) : (t.ok (s.ctxOf op p) ws).start.mpi = t.start.mpi := by
  obtain ⟨_, _, _, _, _, _, _, _, _, _, _, h, a, b, c⟩ := s.ok_replied t op p ws; rw [h]; simp only [Prod.mk.injEq] at a; simp [a]
@[simp] theorem State.ok_start_resetN (s t : State) (op : Nat) (p : Pkt) (ws : List Word) : (t.ok (s.ctxOf op p) ws).start.resetN = t.start.resetN := by
  obtain ⟨_, _, _, _, _, _, _, _, _, _, _, h, a, b, c⟩ := s.ok_replied t op p ws; rw [h]; simp only [Prod.mk.injEq] at a; simp [a]
@[simp] theorem State.ok_start_pfailN (s t : State) (op : Nat) (p : Pkt) (ws : List Word) : (t.ok (s.ctxOf op p) ws).start.pfailN = t.start.pfailN := by
  obtain ⟨_, _, _, _, _, _, _, _, _, _, _, h, a, b, c⟩ := s.ok_replied t op p ws; rw [h]; simp only [Prod.mk.injEq] at a; simp [a]
@[simp] theorem State.ok_start_podReleased (s t : State) (op : Nat) (p : Pkt) (ws : List Word) : (t.ok (s.ctxOf op p) ws).start.podReleased = t.start.podReleased := by
  obtain ⟨_, _, _, _, _, _, _, _, _, _, _, h, a, b, c⟩ := s.ok_replied t op p ws; rw [h]; simp only [Prod.mk.injEq] at a; simp [a]
@[simp] theorem State.ok_start_perstN (s t : State) (op : Nat) (p : Pkt) (ws : List Word) : (t.ok (s.ctxOf op p) ws).start.perstN = t.start.perstN := by
  obtain ⟨_, _, _, _, _, _, _, _, _, _, _, h, a, b, c⟩ := s.ok_replied t op p ws; rw [h]; simp only [Prod.mk.injEq] at a; simp [a]
@[simp] theorem State.ok_start_pcieUp (s t : State) (op : Nat) (p : Pkt) (ws : List Word) : (t.ok (s.ctxOf op p) ws).start.pcieUp = t.start.pcieUp := by
  obtain ⟨_, _, _, _, _, _, _, _, _, _, _, h, a, b, c⟩ := s.ok_replied t op p ws; rw [h]; simp only [Prod.mk.injEq] at a; simp [a]
@[simp] theorem State.ok_start_cause (s t : State) (op : Nat) (p : Pkt) (ws : List Word) : (t.ok (s.ctxOf op p) ws).start.cause = t.start.cause := by
  obtain ⟨_, _, _, _, _, _, _, _, _, _, _, h, a, b, c⟩ := s.ok_replied t op p ws; rw [h]; simp only [Prod.mk.injEq] at a; simp [a]
@[simp] theorem State.ok_start_kind (s t : State) (op : Nat) (p : Pkt) (ws : List Word) : (t.ok (s.ctxOf op p) ws).start.kind = t.start.kind := by
  obtain ⟨_, _, _, _, _, _, _, _, _, _, _, h, a, b, c⟩ := s.ok_replied t op p ws; rw [h]; simp only [Prod.mk.injEq] at a; simp [a]
@[simp] theorem State.ok_start_fallback (s t : State) (op : Nat) (p : Pkt) (ws : List Word) : (t.ok (s.ctxOf op p) ws).start.fallback = t.start.fallback := by
  obtain ⟨_, _, _, _, _, _, _, _, _, _, _, h, a, b, c⟩ := s.ok_replied t op p ws; rw [h]; simp only [Prod.mk.injEq] at b; simp [b]
@[simp] theorem State.ok_start_trunc (s t : State) (op : Nat) (p : Pkt) (ws : List Word) : (t.ok (s.ctxOf op p) ws).start.trunc = t.start.trunc := by
  obtain ⟨_, _, _, _, _, _, _, _, _, _, _, h, a, b, c⟩ := s.ok_replied t op p ws; rw [h]; simp only [Prod.mk.injEq] at b; simp [b]
@[simp] theorem State.ok_start_scriptEnded (s t : State) (op : Nat) (p : Pkt) (ws : List Word) : (t.ok (s.ctxOf op p) ws).start.scriptEnded = t.start.scriptEnded := by
  obtain ⟨_, _, _, _, _, _, _, _, _, _, _, h, a, b, c⟩ := s.ok_replied t op p ws; rw [h]; simp only [Prod.mk.injEq] at b; simp [b]
@[simp] theorem State.ok_start_scriptAt (s t : State) (op : Nat) (p : Pkt) (ws : List Word) : (t.ok (s.ctxOf op p) ws).start.scriptAt = t.start.scriptAt := by
  obtain ⟨_, _, _, _, _, _, _, _, _, _, _, h, a, b, c⟩ := s.ok_replied t op p ws; rw [h]; simp only [Prod.mk.injEq] at b; simp [b]
@[simp] theorem State.ok_start_prevImage (s t : State) (op : Nat) (p : Pkt) (ws : List Word) : (t.ok (s.ctxOf op p) ws).start.prevImage = t.start.prevImage := by
  obtain ⟨_, _, _, _, _, _, _, _, _, _, _, h, a, b, c⟩ := s.ok_replied t op p ws; rw [h]; simp only [Prod.mk.injEq] at b; simp [b]
@[simp] theorem State.ok_start_tamperStart (s t : State) (op : Nat) (p : Pkt) (ws : List Word) : (t.ok (s.ctxOf op p) ws).start.tamperStart = t.start.tamperStart := by
  obtain ⟨_, _, _, _, _, _, _, _, _, _, _, h, a, b, c⟩ := s.ok_replied t op p ws; rw [h]; simp only [Prod.mk.injEq] at b; simp [b]
@[simp] theorem State.ok_start_lockUs (s t : State) (op : Nat) (p : Pkt) (ws : List Word) : (t.ok (s.ctxOf op p) ws).start.lockUs = t.start.lockUs := by
  obtain ⟨_, _, _, _, _, _, _, _, _, _, _, h, a, b, c⟩ := s.ok_replied t op p ws; rw [h]; simp only [Prod.mk.injEq] at b; simp [b]
@[simp] theorem State.ok_start_testUs (s t : State) (op : Nat) (p : Pkt) (ws : List Word) : (t.ok (s.ctxOf op p) ws).start.testUs = t.start.testUs := by
  obtain ⟨_, _, _, _, _, _, _, _, _, _, _, h, a, b, c⟩ := s.ok_replied t op p ws; rw [h]; simp only [Prod.mk.injEq] at b; simp [b]
@[simp] theorem State.ok_start_scriptUs (s t : State) (op : Nat) (p : Pkt) (ws : List Word) : (t.ok (s.ctxOf op p) ws).start.scriptUs = t.start.scriptUs := by
  obtain ⟨_, _, _, _, _, _, _, _, _, _, _, h, a, b, c⟩ := s.ok_replied t op p ws; rw [h]; simp only [Prod.mk.injEq] at b; simp [b]
@[simp] theorem State.ok_start_scriptCmds (s t : State) (op : Nat) (p : Pkt) (ws : List Word) : (t.ok (s.ctxOf op p) ws).start.scriptCmds = t.start.scriptCmds := by
  obtain ⟨_, _, _, _, _, _, _, _, _, _, _, h, a, b, c⟩ := s.ok_replied t op p ws; rw [h]; simp only [Prod.mk.injEq] at c; simp [c]
@[simp] theorem State.ok_start_slot (s t : State) (op : Nat) (p : Pkt) (ws : List Word) : (t.ok (s.ctxOf op p) ws).start.slot = t.start.slot := by
  obtain ⟨_, _, _, _, _, _, _, _, _, _, _, h, a, b, c⟩ := s.ok_replied t op p ws; rw [h]; simp only [Prod.mk.injEq] at c; simp [c]
@[simp] theorem State.ok_start_version (s t : State) (op : Nat) (p : Pkt) (ws : List Word) : (t.ok (s.ctxOf op p) ws).start.version = t.start.version := by
  obtain ⟨_, _, _, _, _, _, _, _, _, _, _, h, a, b, c⟩ := s.ok_replied t op p ws; rw [h]; simp only [Prod.mk.injEq] at c; simp [c]
@[simp] theorem State.ok_start_watchdog (s t : State) (op : Nat) (p : Pkt) (ws : List Word) : (t.ok (s.ctxOf op p) ws).start.watchdog = t.start.watchdog := by
  obtain ⟨_, _, _, _, _, _, _, _, _, _, _, h, a, b, c⟩ := s.ok_replied t op p ws; rw [h]; simp only [Prod.mk.injEq] at c; simp [c]
@[simp] theorem State.ok_start_stop (s t : State) (op : Nat) (p : Pkt) (ws : List Word) : (t.ok (s.ctxOf op p) ws).start.stop = t.start.stop := by
  obtain ⟨_, _, _, _, _, _, _, _, _, _, _, h, a, b, c⟩ := s.ok_replied t op p ws; rw [h]; simp only [Prod.mk.injEq] at c; simp [c]
@[simp] theorem State.err_pending (s t : State) (op : Nat) (p : Pkt) (st d : Nat) : (t.err (s.ctxOf op p) st d).pending = t.pending := by
  obtain ⟨_, _, _, _, _, _, _, _, _, _, _, h, a, b, c⟩ := s.err_replied t op p st d; rw [h]
@[simp] theorem State.err_free (s t : State) (op : Nat) (p : Pkt) (st d : Nat) : (t.err (s.ctxOf op p) st d).free = t.free := by
  obtain ⟨_, _, _, _, _, _, _, _, _, _, _, h, a, b, c⟩ := s.err_replied t op p st d; rw [h]
@[simp] theorem State.err_fused (s t : State) (op : Nat) (p : Pkt) (st d : Nat) : (t.err (s.ctxOf op p) st d).fused = t.fused := by
  obtain ⟨_, _, _, _, _, _, _, _, _, _, _, h, a, b, c⟩ := s.err_replied t op p st d; rw [h]
@[simp] theorem State.err_tamper (s t : State) (op : Nat) (p : Pkt) (st d : Nat) : (t.err (s.ctxOf op p) st d).tamper = t.tamper := by
  obtain ⟨_, _, _, _, _, _, _, _, _, _, _, h, a, b, c⟩ := s.err_replied t op p st d; rw [h]
@[simp] theorem State.err_mram (s t : State) (op : Nat) (p : Pkt) (st d : Nat) : (t.err (s.ctxOf op p) st d).mram = t.mram := by
  obtain ⟨_, _, _, _, _, _, _, _, _, _, _, h, a, b, c⟩ := s.err_replied t op p st d; rw [h]
@[simp] theorem State.err_alarms (s t : State) (op : Nat) (p : Pkt) (st d : Nat) : (t.err (s.ctxOf op p) st d).alarms = t.alarms := by
  obtain ⟨_, _, _, _, _, _, _, _, _, _, _, h, a, b, c⟩ := s.err_replied t op p st d; rw [h]
@[simp] theorem State.err_clk (s t : State) (op : Nat) (p : Pkt) (st d : Nat) : (t.err (s.ctxOf op p) st d).clk = t.clk := by
  obtain ⟨_, _, _, _, _, _, _, _, _, _, _, h, a, b, c⟩ := s.err_replied t op p st d; rw [h]
@[simp] theorem State.err_axg_badHdr (s t : State) (op : Nat) (p : Pkt) (st d : Nat) : (t.err (s.ctxOf op p) st d).axg.badHdr = t.axg.badHdr := by
  obtain ⟨_, _, _, _, _, _, _, _, _, _, _, h, a, b, c⟩ := s.err_replied t op p st d; rw [h]
@[simp] theorem State.err_axg_malformed (s t : State) (op : Nat) (p : Pkt) (st d : Nat) : (t.err (s.ctxOf op p) st d).axg.malformed = t.axg.malformed := by
  obtain ⟨_, _, _, _, _, _, _, _, _, _, _, h, a, b, c⟩ := s.err_replied t op p st d; rw [h]
@[simp] theorem State.err_axg_authFails (s t : State) (op : Nat) (p : Pkt) (st d : Nat) : (t.err (s.ctxOf op p) st d).axg.authFails = t.axg.authFails := by
  obtain ⟨_, _, _, _, _, _, _, _, _, _, _, h, a, b, c⟩ := s.err_replied t op p st d; rw [h]
@[simp] theorem State.err_axg_reasmDrop (s t : State) (op : Nat) (p : Pkt) (st d : Nat) : (t.err (s.ctxOf op p) st d).axg.reasmDrop = t.axg.reasmDrop := by
  obtain ⟨_, _, _, _, _, _, _, _, _, _, _, h, a, b, c⟩ := s.err_replied t op p st d; rw [h]
@[simp] theorem State.err_axg_etype (s t : State) (op : Nat) (p : Pkt) (st d : Nat) : (t.err (s.ctxOf op p) st d).axg.etype = t.axg.etype := by
  obtain ⟨_, _, _, _, _, _, _, _, _, _, _, h, a, b, c⟩ := s.err_replied t op p st d; rw [h]
@[simp] theorem State.err_axg_mtu (s t : State) (op : Nat) (p : Pkt) (st d : Nat) : (t.err (s.ctxOf op p) st d).axg.mtu = t.axg.mtu := by
  obtain ⟨_, _, _, _, _, _, _, _, _, _, _, h, a, b, c⟩ := s.err_replied t op p st d; rw [h]
@[simp] theorem State.err_axg_authReq (s t : State) (op : Nat) (p : Pkt) (st d : Nat) : (t.err (s.ctxOf op p) st d).axg.authReq = t.axg.authReq := by
  obtain ⟨_, _, _, _, _, _, _, _, _, _, _, h, a, b, c⟩ := s.err_replied t op p st d; rw [h]
@[simp] theorem State.err_axg_inbandEn (s t : State) (op : Nat) (p : Pkt) (st d : Nat) : (t.err (s.ctxOf op p) st d).axg.inbandEn = t.axg.inbandEn := by
  obtain ⟨_, _, _, _, _, _, _, _, _, _, _, h, a, b, c⟩ := s.err_replied t op p st d; rw [h]
@[simp] theorem State.err_axg_groupEn (s t : State) (op : Nat) (p : Pkt) (st d : Nat) : (t.err (s.ctxOf op p) st d).axg.groupEn = t.axg.groupEn := by
  obtain ⟨_, _, _, _, _, _, _, _, _, _, _, h, a, b, c⟩ := s.err_replied t op p st d; rw [h]
@[simp] theorem State.err_axg_cringBase (s t : State) (op : Nat) (p : Pkt) (st d : Nat) : (t.err (s.ctxOf op p) st d).axg.cringBase = t.axg.cringBase := by
  obtain ⟨_, _, _, _, _, _, _, _, _, _, _, h, a, b, c⟩ := s.err_replied t op p st d; rw [h]
@[simp] theorem State.err_axg_cringSize (s t : State) (op : Nat) (p : Pkt) (st d : Nat) : (t.err (s.ctxOf op p) st d).axg.cringSize = t.axg.cringSize := by
  obtain ⟨_, _, _, _, _, _, _, _, _, _, _, h, a, b, c⟩ := s.err_replied t op p st d; rw [h]
@[simp] theorem State.err_axg_rringBase (s t : State) (op : Nat) (p : Pkt) (st d : Nat) : (t.err (s.ctxOf op p) st d).axg.rringBase = t.axg.rringBase := by
  obtain ⟨_, _, _, _, _, _, _, _, _, _, _, h, a, b, c⟩ := s.err_replied t op p st d; rw [h]
@[simp] theorem State.err_axg_rringSize (s t : State) (op : Nat) (p : Pkt) (st d : Nat) : (t.err (s.ctxOf op p) st d).axg.rringSize = t.axg.rringSize := by
  obtain ⟨_, _, _, _, _, _, _, _, _, _, _, h, a, b, c⟩ := s.err_replied t op p st d; rw [h]
@[simp] theorem State.err_axg_axgWb (s t : State) (op : Nat) (p : Pkt) (st d : Nat) : (t.err (s.ctxOf op p) st d).axg.axgWb = t.axg.axgWb := by
  obtain ⟨_, _, _, _, _, _, _, _, _, _, _, h, a, b, c⟩ := s.err_replied t op p st d; rw [h]
@[simp] theorem State.err_axg_axgVec (s t : State) (op : Nat) (p : Pkt) (st d : Nat) : (t.err (s.ctxOf op p) st d).axg.axgVec = t.axg.axgVec := by
  obtain ⟨_, _, _, _, _, _, _, _, _, _, _, h, a, b, c⟩ := s.err_replied t op p st d; rw [h]
@[simp] theorem State.err_axg_axgVecEn (s t : State) (op : Nat) (p : Pkt) (st d : Nat) : (t.err (s.ctxOf op p) st d).axg.axgVecEn = t.axg.axgVecEn := by
  obtain ⟨_, _, _, _, _, _, _, _, _, _, _, h, a, b, c⟩ := s.err_replied t op p st d; rw [h]
@[simp] theorem State.err_axg_cmdPi (s t : State) (op : Nat) (p : Pkt) (st d : Nat) : (t.err (s.ctxOf op p) st d).axg.cmdPi = t.axg.cmdPi := by
  obtain ⟨_, _, _, _, _, _, _, _, _, _, _, h, a, b, c⟩ := s.err_replied t op p st d; rw [h]
@[simp] theorem State.err_axg_cmdCi (s t : State) (op : Nat) (p : Pkt) (st d : Nat) : (t.err (s.ctxOf op p) st d).axg.cmdCi = t.axg.cmdCi := by
  obtain ⟨_, _, _, _, _, _, _, _, _, _, _, h, a, b, c⟩ := s.err_replied t op p st d; rw [h]
@[simp] theorem State.err_axg_rplCi (s t : State) (op : Nat) (p : Pkt) (st d : Nat) : (t.err (s.ctxOf op p) st d).axg.rplCi = t.axg.rplCi := by
  obtain ⟨_, _, _, _, _, _, _, _, _, _, _, h, a, b, c⟩ := s.err_replied t op p st d; rw [h]
@[simp] theorem State.err_axg_cmdRing (s t : State) (op : Nat) (p : Pkt) (st d : Nat) : (t.err (s.ctxOf op p) st d).axg.cmdRing = t.axg.cmdRing := by
  obtain ⟨_, _, _, _, _, _, _, _, _, _, _, h, a, b, c⟩ := s.err_replied t op p st d; rw [h]
@[simp] theorem State.err_axg_spiOvf (s t : State) (op : Nat) (p : Pkt) (st d : Nat) : (t.err (s.ctxOf op p) st d).axg.spiOvf = t.axg.spiOvf := by
  obtain ⟨_, _, _, _, _, _, _, _, _, _, _, h, a, b, c⟩ := s.err_replied t op p st d; rw [h]
@[simp] theorem State.err_axg_spiBuf (s t : State) (op : Nat) (p : Pkt) (st d : Nat) : (t.err (s.ctxOf op p) st d).axg.spiBuf = t.axg.spiBuf := by
  obtain ⟨_, _, _, _, _, _, _, _, _, _, _, h, a, b, c⟩ := s.err_replied t op p st d; rw [h]
@[simp] theorem State.err_axg_replay (s t : State) (op : Nat) (p : Pkt) (st d : Nat) : (t.err (s.ctxOf op p) st d).axg.replay = t.axg.replay := by
  obtain ⟨_, _, _, _, _, _, _, _, _, _, _, h, a, b, c⟩ := s.err_replied t op p st d; rw [h]
@[simp] theorem State.err_axg_partials (s t : State) (op : Nat) (p : Pkt) (st d : Nat) : (t.err (s.ctxOf op p) st d).axg.partials = t.axg.partials := by
  obtain ⟨_, _, _, _, _, _, _, _, _, _, _, h, a, b, c⟩ := s.err_replied t op p st d; rw [h]
@[simp] theorem State.err_axg_jobs (s t : State) (op : Nat) (p : Pkt) (st d : Nat) : (t.err (s.ctxOf op p) st d).axg.jobs = t.axg.jobs := by
  obtain ⟨_, _, _, _, _, _, _, _, _, _, _, h, a, b, c⟩ := s.err_replied t op p st d; rw [h]
@[simp] theorem State.err_axg_relays (s t : State) (op : Nat) (p : Pkt) (st d : Nat) : (t.err (s.ctxOf op p) st d).axg.relays = t.axg.relays := by
  obtain ⟨_, _, _, _, _, _, _, _, _, _, _, h, a, b, c⟩ := s.err_replied t op p st d; rw [h]
@[simp] theorem State.err_axg_tails (s t : State) (op : Nat) (p : Pkt) (st d : Nat) : (t.err (s.ctxOf op p) st d).axg.tails = t.axg.tails := by
  obtain ⟨_, _, _, _, _, _, _, _, _, _, _, h, a, b, c⟩ := s.err_replied t op p st d; rw [h]
@[simp] theorem State.err_axg_arrivedReq (s t : State) (op : Nat) (p : Pkt) (st d : Nat) : (t.err (s.ctxOf op p) st d).axg.arrivedReq = t.axg.arrivedReq := by
  obtain ⟨_, _, _, _, _, _, _, _, _, _, _, h, a, b, c⟩ := s.err_replied t op p st d; rw [h]
@[simp] theorem State.err_cru (s t : State) (op : Nat) (p : Pkt) (st d : Nat) : (t.err (s.ctxOf op p) st d).cru = t.cru := by
  obtain ⟨_, _, _, _, _, _, _, _, _, _, _, h, a, b, c⟩ := s.err_replied t op p st d; rw [h]
@[simp] theorem State.err_led (s t : State) (op : Nat) (p : Pkt) (st d : Nat) : (t.err (s.ctxOf op p) st d).led = t.led := by
  obtain ⟨_, _, _, _, _, _, _, _, _, _, _, h, a, b, c⟩ := s.err_replied t op p st d; rw [h]
@[simp] theorem State.err_sec (s t : State) (op : Nat) (p : Pkt) (st d : Nat) : (t.err (s.ctxOf op p) st d).sec = t.sec := by
  obtain ⟨_, _, _, _, _, _, _, _, _, _, _, h, a, b, c⟩ := s.err_replied t op p st d; rw [h]
@[simp] theorem State.err_mem (s t : State) (op : Nat) (p : Pkt) (st d : Nat) : (t.err (s.ctxOf op p) st d).mem = t.mem := by
  obtain ⟨_, _, _, _, _, _, _, _, _, _, _, h, a, b, c⟩ := s.err_replied t op p st d; rw [h]
@[simp] theorem State.err_lanes (s t : State) (op : Nat) (p : Pkt) (st d : Nat) : (t.err (s.ctxOf op p) st d).lanes = t.lanes := by
  obtain ⟨_, _, _, _, _, _, _, _, _, _, _, h, a, b, c⟩ := s.err_replied t op p st d; rw [h]
@[simp] theorem State.err_form (s t : State) (op : Nat) (p : Pkt) (st d : Nat) : (t.err (s.ctxOf op p) st d).form = t.form := by
  obtain ⟨_, _, _, _, _, _, _, _, _, _, _, h, a, b, c⟩ := s.err_replied t op p st d; rw [h]
@[simp] theorem State.err_ports (s t : State) (op : Nat) (p : Pkt) (st d : Nat) : (t.err (s.ctxOf op p) st d).ports = t.ports := by
  obtain ⟨_, _, _, _, _, _, _, _, _, _, _, h, a, b, c⟩ := s.err_replied t op p st d; rw [h]
@[simp] theorem State.err_rings (s t : State) (op : Nat) (p : Pkt) (st d : Nat) : (t.err (s.ctxOf op p) st d).rings = t.rings := by
  obtain ⟨_, _, _, _, _, _, _, _, _, _, _, h, a, b, c⟩ := s.err_replied t op p st d; rw [h]
@[simp] theorem State.err_nodes (s t : State) (op : Nat) (p : Pkt) (st d : Nat) : (t.err (s.ctxOf op p) st d).nodes = t.nodes := by
  obtain ⟨_, _, _, _, _, _, _, _, _, _, _, h, a, b, c⟩ := s.err_replied t op p st d; rw [h]
@[simp] theorem State.err_nodeFull (s t : State) (op : Nat) (p : Pkt) (st d : Nat) : (t.err (s.ctxOf op p) st d).nodeFull = t.nodeFull := by
  obtain ⟨_, _, _, _, _, _, _, _, _, _, _, h, a, b, c⟩ := s.err_replied t op p st d; rw [h]
@[simp] theorem State.err_bypass (s t : State) (op : Nat) (p : Pkt) (st d : Nat) : (t.err (s.ctxOf op p) st d).bypass = t.bypass := by
  obtain ⟨_, _, _, _, _, _, _, _, _, _, _, h, a, b, c⟩ := s.err_replied t op p st d; rw [h]
@[simp] theorem State.err_fwd (s t : State) (op : Nat) (p : Pkt) (st d : Nat) : (t.err (s.ctxOf op p) st d).fwd = t.fwd := by
  obtain ⟨_, _, _, _, _, _, _, _, _, _, _, h, a, b, c⟩ := s.err_replied t op p st d; rw [h]
@[simp] theorem State.err_buf_poolSize (s t : State) (op : Nat) (p : Pkt) (st d : Nat) : (t.err (s.ctxOf op p) st d).buf.poolSize = t.buf.poolSize := by
  obtain ⟨_, _, _, _, _, _, _, _, _, _, _, h, a, b, c⟩ := s.err_replied t op p st d; rw [h]
@[simp] theorem State.err_buf_alpha (s t : State) (op : Nat) (p : Pkt) (st d : Nat) : (t.err (s.ctxOf op p) st d).buf.alpha = t.buf.alpha := by
  obtain ⟨_, _, _, _, _, _, _, _, _, _, _, h, a, b, c⟩ := s.err_replied t op p st d; rw [h]
@[simp] theorem State.err_buf_alphaSpark (s t : State) (op : Nat) (p : Pkt) (st d : Nat) : (t.err (s.ctxOf op p) st d).buf.alphaSpark = t.buf.alphaSpark := by
  obtain ⟨_, _, _, _, _, _, _, _, _, _, _, h, a, b, c⟩ := s.err_replied t op p st d; rw [h]
@[simp] theorem State.err_buf_poolPeak (s t : State) (op : Nat) (p : Pkt) (st d : Nat) : (t.err (s.ctxOf op p) st d).buf.poolPeak = t.buf.poolPeak := by
  obtain ⟨_, _, _, _, _, _, _, _, _, _, _, h, a, b, c⟩ := s.err_replied t op p st d; rw [h]
@[simp] theorem State.err_buf_mins (s t : State) (op : Nat) (p : Pkt) (st d : Nat) : (t.err (s.ctxOf op p) st d).buf.mins = t.buf.mins := by
  obtain ⟨_, _, _, _, _, _, _, _, _, _, _, h, a, b, c⟩ := s.err_replied t op p st d; rw [h]
@[simp] theorem State.err_buf_admitDrops (s t : State) (op : Nat) (p : Pkt) (st d : Nat) : (t.err (s.ctxOf op p) st d).buf.admitDrops = t.buf.admitDrops := by
  obtain ⟨_, _, _, _, _, _, _, _, _, _, _, h, a, b, c⟩ := s.err_replied t op p st d; rw [h]
@[simp] theorem State.err_buf_frames (s t : State) (op : Nat) (p : Pkt) (st d : Nat) : (t.err (s.ctxOf op p) st d).buf.frames = t.buf.frames := by
  obtain ⟨_, _, _, _, _, _, _, _, _, _, _, h, a, b, c⟩ := s.err_replied t op p st d; rw [h]
@[simp] theorem State.err_buf_copies (s t : State) (op : Nat) (p : Pkt) (st d : Nat) : (t.err (s.ctxOf op p) st d).buf.copies = t.buf.copies := by
  obtain ⟨_, _, _, _, _, _, _, _, _, _, _, h, a, b, c⟩ := s.err_replied t op p st d; rw [h]
@[simp] theorem State.err_buf_punted (s t : State) (op : Nat) (p : Pkt) (st d : Nat) : (t.err (s.ctxOf op p) st d).buf.punted = t.buf.punted := by
  obtain ⟨_, _, _, _, _, _, _, _, _, _, _, h, a, b, c⟩ := s.err_replied t op p st d; rw [h]
@[simp] theorem State.err_buf_nextId (s t : State) (op : Nat) (p : Pkt) (st d : Nat) : (t.err (s.ctxOf op p) st d).buf.nextId = t.buf.nextId := by
  obtain ⟨_, _, _, _, _, _, _, _, _, _, _, h, a, b, c⟩ := s.err_replied t op p st d; rw [h]
@[simp] theorem State.err_buf_iqHost (s t : State) (op : Nat) (p : Pkt) (st d : Nat) : (t.err (s.ctxOf op p) st d).buf.iqHost = t.buf.iqHost := by
  obtain ⟨_, _, _, _, _, _, _, _, _, _, _, h, a, b, c⟩ := s.err_replied t op p st d; rw [h]
@[simp] theorem State.err_buf_paths (s t : State) (op : Nat) (p : Pkt) (st d : Nat) : (t.err (s.ctxOf op p) st d).buf.paths = t.buf.paths := by
  obtain ⟨_, _, _, _, _, _, _, _, _, _, _, h, a, b, c⟩ := s.err_replied t op p st d; rw [h]
@[simp] theorem State.err_buf_iqReg (s t : State) (op : Nat) (p : Pkt) (st d : Nat) : (t.err (s.ctxOf op p) st d).buf.iqReg = t.buf.iqReg := by
  obtain ⟨_, _, _, _, _, _, _, _, _, _, _, h, a, b, c⟩ := s.err_replied t op p st d; rw [h]
@[simp] theorem State.err_buf_regWait (s t : State) (op : Nat) (p : Pkt) (st d : Nat) : (t.err (s.ctxOf op p) st d).buf.regWait = t.buf.regWait := by
  obtain ⟨_, _, _, _, _, _, _, _, _, _, _, h, a, b, c⟩ := s.err_replied t op p st d; rw [h]
@[simp] theorem State.err_buf_pqReg (s t : State) (op : Nat) (p : Pkt) (st d : Nat) : (t.err (s.ctxOf op p) st d).buf.pqReg = t.buf.pqReg := by
  obtain ⟨_, _, _, _, _, _, _, _, _, _, _, h, a, b, c⟩ := s.err_replied t op p st d; rw [h]
@[simp] theorem State.err_buf_mbxEvt (s t : State) (op : Nat) (p : Pkt) (st d : Nat) : (t.err (s.ctxOf op p) st d).buf.mbxEvt = t.buf.mbxEvt := by
  obtain ⟨_, _, _, _, _, _, _, _, _, _, _, h, a, b, c⟩ := s.err_replied t op p st d; rw [h]
@[simp] theorem State.err_buf_mbxEvtDrops (s t : State) (op : Nat) (p : Pkt) (st d : Nat) : (t.err (s.ctxOf op p) st d).buf.mbxEvtDrops = t.buf.mbxEvtDrops := by
  obtain ⟨_, _, _, _, _, _, _, _, _, _, _, h, a, b, c⟩ := s.err_replied t op p st d; rw [h]
@[simp] theorem State.err_hst_pringBase (s t : State) (op : Nat) (p : Pkt) (st d : Nat) : (t.err (s.ctxOf op p) st d).hst.pringBase = t.hst.pringBase := by
  obtain ⟨_, _, _, _, _, _, _, _, _, _, _, h, a, b, c⟩ := s.err_replied t op p st d; rw [h]
@[simp] theorem State.err_hst_pringSize (s t : State) (op : Nat) (p : Pkt) (st d : Nat) : (t.err (s.ctxOf op p) st d).hst.pringSize = t.hst.pringSize := by
  obtain ⟨_, _, _, _, _, _, _, _, _, _, _, h, a, b, c⟩ := s.err_replied t op p st d; rw [h]
@[simp] theorem State.err_hst_pbufSize (s t : State) (op : Nat) (p : Pkt) (st d : Nat) : (t.err (s.ctxOf op p) st d).hst.pbufSize = t.hst.pbufSize := by
  obtain ⟨_, _, _, _, _, _, _, _, _, _, _, h, a, b, c⟩ := s.err_replied t op p st d; rw [h]
@[simp] theorem State.err_hst_iringBase (s t : State) (op : Nat) (p : Pkt) (st d : Nat) : (t.err (s.ctxOf op p) st d).hst.iringBase = t.hst.iringBase := by
  obtain ⟨_, _, _, _, _, _, _, _, _, _, _, h, a, b, c⟩ := s.err_replied t op p st d; rw [h]
@[simp] theorem State.err_hst_iringSize (s t : State) (op : Nat) (p : Pkt) (st d : Nat) : (t.err (s.ctxOf op p) st d).hst.iringSize = t.hst.iringSize := by
  obtain ⟨_, _, _, _, _, _, _, _, _, _, _, h, a, b, c⟩ := s.err_replied t op p st d; rw [h]
@[simp] theorem State.err_hst_dmaWb (s t : State) (op : Nat) (p : Pkt) (st d : Nat) : (t.err (s.ctxOf op p) st d).hst.dmaWb = t.hst.dmaWb := by
  obtain ⟨_, _, _, _, _, _, _, _, _, _, _, h, a, b, c⟩ := s.err_replied t op p st d; rw [h]
@[simp] theorem State.err_hst_puntVec (s t : State) (op : Nat) (p : Pkt) (st d : Nat) : (t.err (s.ctxOf op p) st d).hst.puntVec = t.hst.puntVec := by
  obtain ⟨_, _, _, _, _, _, _, _, _, _, _, h, a, b, c⟩ := s.err_replied t op p st d; rw [h]
@[simp] theorem State.err_hst_puntVecEn (s t : State) (op : Nat) (p : Pkt) (st d : Nat) : (t.err (s.ctxOf op p) st d).hst.puntVecEn = t.hst.puntVecEn := by
  obtain ⟨_, _, _, _, _, _, _, _, _, _, _, h, a, b, c⟩ := s.err_replied t op p st d; rw [h]
@[simp] theorem State.err_hst_insVec (s t : State) (op : Nat) (p : Pkt) (st d : Nat) : (t.err (s.ctxOf op p) st d).hst.insVec = t.hst.insVec := by
  obtain ⟨_, _, _, _, _, _, _, _, _, _, _, h, a, b, c⟩ := s.err_replied t op p st d; rw [h]
@[simp] theorem State.err_hst_insVecEn (s t : State) (op : Nat) (p : Pkt) (st d : Nat) : (t.err (s.ctxOf op p) st d).hst.insVecEn = t.hst.insVecEn := by
  obtain ⟨_, _, _, _, _, _, _, _, _, _, _, h, a, b, c⟩ := s.err_replied t op p st d; rw [h]
@[simp] theorem State.err_hst_puntPi (s t : State) (op : Nat) (p : Pkt) (st d : Nat) : (t.err (s.ctxOf op p) st d).hst.puntPi = t.hst.puntPi := by
  obtain ⟨_, _, _, _, _, _, _, _, _, _, _, h, a, b, c⟩ := s.err_replied t op p st d; rw [h]
@[simp] theorem State.err_hst_puntCi (s t : State) (op : Nat) (p : Pkt) (st d : Nat) : (t.err (s.ctxOf op p) st d).hst.puntCi = t.hst.puntCi := by
  obtain ⟨_, _, _, _, _, _, _, _, _, _, _, h, a, b, c⟩ := s.err_replied t op p st d; rw [h]
@[simp] theorem State.err_hst_insPi (s t : State) (op : Nat) (p : Pkt) (st d : Nat) : (t.err (s.ctxOf op p) st d).hst.insPi = t.hst.insPi := by
  obtain ⟨_, _, _, _, _, _, _, _, _, _, _, h, a, b, c⟩ := s.err_replied t op p st d; rw [h]
@[simp] theorem State.err_hst_insFetch (s t : State) (op : Nat) (p : Pkt) (st d : Nat) : (t.err (s.ctxOf op p) st d).hst.insFetch = t.hst.insFetch := by
  obtain ⟨_, _, _, _, _, _, _, _, _, _, _, h, a, b, c⟩ := s.err_replied t op p st d; rw [h]
@[simp] theorem State.err_hst_insCi (s t : State) (op : Nat) (p : Pkt) (st d : Nat) : (t.err (s.ctxOf op p) st d).hst.insCi = t.hst.insCi := by
  obtain ⟨_, _, _, _, _, _, _, _, _, _, _, h, a, b, c⟩ := s.err_replied t op p st d; rw [h]
@[simp] theorem State.err_hst_insDescs (s t : State) (op : Nat) (p : Pkt) (st d : Nat) : (t.err (s.ctxOf op p) st d).hst.insDescs = t.hst.insDescs := by
  obtain ⟨_, _, _, _, _, _, _, _, _, _, _, h, a, b, c⟩ := s.err_replied t op p st d; rw [h]
@[simp] theorem State.err_hst_msix (s t : State) (op : Nat) (p : Pkt) (st d : Nat) : (t.err (s.ctxOf op p) st d).hst.msix = t.hst.msix := by
  obtain ⟨_, _, _, _, _, _, _, _, _, _, _, h, a, b, c⟩ := s.err_replied t op p st d; rw [h]
@[simp] theorem State.err_hst_copy (s t : State) (op : Nat) (p : Pkt) (st d : Nat) : (t.err (s.ctxOf op p) st d).hst.copy = t.hst.copy := by
  obtain ⟨_, _, _, _, _, _, _, _, _, _, _, h, a, b, c⟩ := s.err_replied t op p st d; rw [h]
@[simp] theorem State.err_hst_sbpHold (s t : State) (op : Nat) (p : Pkt) (st d : Nat) : (t.err (s.ctxOf op p) st d).hst.sbpHold = t.hst.sbpHold := by
  obtain ⟨_, _, _, _, _, _, _, _, _, _, _, h, a, b, c⟩ := s.err_replied t op p st d; rw [h]
@[simp] theorem State.err_hst_snapWords (s t : State) (op : Nat) (p : Pkt) (st d : Nat) : (t.err (s.ctxOf op p) st d).hst.snapWords = t.hst.snapWords := by
  obtain ⟨_, _, _, _, _, _, _, _, _, _, _, h, a, b, c⟩ := s.err_replied t op p st d; rw [h]
@[simp] theorem State.err_hst_snapPend (s t : State) (op : Nat) (p : Pkt) (st d : Nat) : (t.err (s.ctxOf op p) st d).hst.snapPend = t.hst.snapPend := by
  obtain ⟨_, _, _, _, _, _, _, _, _, _, _, h, a, b, c⟩ := s.err_replied t op p st d; rw [h]
@[simp] theorem State.err_hst_snapOverrun (s t : State) (op : Nat) (p : Pkt) (st d : Nat) : (t.err (s.ctxOf op p) st d).hst.snapOverrun = t.hst.snapOverrun := by
  obtain ⟨_, _, _, _, _, _, _, _, _, _, _, h, a, b, c⟩ := s.err_replied t op p st d; rw [h]
@[simp] theorem State.err_hst_snapMissed (s t : State) (op : Nat) (p : Pkt) (st d : Nat) : (t.err (s.ctxOf op p) st d).hst.snapMissed = t.hst.snapMissed := by
  obtain ⟨_, _, _, _, _, _, _, _, _, _, _, h, a, b, c⟩ := s.err_replied t op p st d; rw [h]
@[simp] theorem State.err_hst_snapLast (s t : State) (op : Nat) (p : Pkt) (st d : Nat) : (t.err (s.ctxOf op p) st d).hst.snapLast = t.hst.snapLast := by
  obtain ⟨_, _, _, _, _, _, _, _, _, _, _, h, a, b, c⟩ := s.err_replied t op p st d; rw [h]
@[simp] theorem State.err_hst_tap (s t : State) (op : Nat) (p : Pkt) (st d : Nat) : (t.err (s.ctxOf op p) st d).hst.tap = t.hst.tap := by
  obtain ⟨_, _, _, _, _, _, _, _, _, _, _, h, a, b, c⟩ := s.err_replied t op p st d; rw [h]
@[simp] theorem State.err_hst_bsr (s t : State) (op : Nat) (p : Pkt) (st d : Nat) : (t.err (s.ctxOf op p) st d).hst.bsr = t.hst.bsr := by
  obtain ⟨_, _, _, _, _, _, _, _, _, _, _, h, a, b, c⟩ := s.err_replied t op p st d; rw [h]
@[simp] theorem State.err_cnt (s t : State) (op : Nat) (p : Pkt) (st d : Nat) : (t.err (s.ctxOf op p) st d).cnt = t.cnt := by
  obtain ⟨_, _, _, _, _, _, _, _, _, _, _, h, a, b, c⟩ := s.err_replied t op p st d; rw [h]
@[simp] theorem State.err_tbs (s t : State) (op : Nat) (p : Pkt) (st d : Nat) : (t.err (s.ctxOf op p) st d).tbs = t.tbs := by
  obtain ⟨_, _, _, _, _, _, _, _, _, _, _, h, a, b, c⟩ := s.err_replied t op p st d; rw [h]
@[simp] theorem State.err_hcfg (s t : State) (op : Nat) (p : Pkt) (st d : Nat) : (t.err (s.ctxOf op p) st d).hcfg = t.hcfg := by
  obtain ⟨_, _, _, _, _, _, _, _, _, _, _, h, a, b, c⟩ := s.err_replied t op p st d; rw [h]
@[simp] theorem State.err_hier (s t : State) (op : Nat) (p : Pkt) (st d : Nat) : (t.err (s.ctxOf op p) st d).hier = t.hier := by
  obtain ⟨_, _, _, _, _, _, _, _, _, _, _, h, a, b, c⟩ := s.err_replied t op p st d; rw [h]
@[simp] theorem State.err_workers (s t : State) (op : Nat) (p : Pkt) (st d : Nat) : (t.err (s.ctxOf op p) st d).workers = t.workers := by
  obtain ⟨_, _, _, _, _, _, _, _, _, _, _, h, a, b, c⟩ := s.err_replied t op p st d; rw [h]
@[simp] theorem State.err_pcfg (s t : State) (op : Nat) (p : Pkt) (st d : Nat) : (t.err (s.ctxOf op p) st d).pcfg = t.pcfg := by
  obtain ⟨_, _, _, _, _, _, _, _, _, _, _, h, a, b, c⟩ := s.err_replied t op p st d; rw [h]
@[simp] theorem State.err_prun_st (s t : State) (op : Nat) (p : Pkt) (st d : Nat) : (t.err (s.ctxOf op p) st d).prun.st = t.prun.st := by
  obtain ⟨_, _, _, _, _, _, _, _, _, _, _, h, a, b, c⟩ := s.err_replied t op p st d; rw [h]
@[simp] theorem State.err_prun_twinUp (s t : State) (op : Nat) (p : Pkt) (st d : Nat) : (t.err (s.ctxOf op p) st d).prun.twinUp = t.prun.twinUp := by
  obtain ⟨_, _, _, _, _, _, _, _, _, _, _, h, a, b, c⟩ := s.err_replied t op p st d; rw [h]
@[simp] theorem State.err_prun_partnerSt (s t : State) (op : Nat) (p : Pkt) (st d : Nat) : (t.err (s.ctxOf op p) st d).prun.partnerSt = t.prun.partnerSt := by
  obtain ⟨_, _, _, _, _, _, _, _, _, _, _, h, a, b, c⟩ := s.err_replied t op p st d; rw [h]
@[simp] theorem State.err_prun_partnerGen (s t : State) (op : Nat) (p : Pkt) (st d : Nat) : (t.err (s.ctxOf op p) st d).prun.partnerGen = t.prun.partnerGen := by
  obtain ⟨_, _, _, _, _, _, _, _, _, _, _, h, a, b, c⟩ := s.err_replied t op p st d; rw [h]
@[simp] theorem State.err_prun_twinDown (s t : State) (op : Nat) (p : Pkt) (st d : Nat) : (t.err (s.ctxOf op p) st d).prun.twinDown = t.prun.twinDown := by
  obtain ⟨_, _, _, _, _, _, _, _, _, _, _, h, a, b, c⟩ := s.err_replied t op p st d; rw [h]
@[simp] theorem State.err_prun_disagree (s t : State) (op : Nat) (p : Pkt) (st d : Nat) : (t.err (s.ctxOf op p) st d).prun.disagree = t.prun.disagree := by
  obtain ⟨_, _, _, _, _, _, _, _, _, _, _, h, a, b, c⟩ := s.err_replied t op p st d; rw [h]
@[simp] theorem State.err_prun_diverge (s t : State) (op : Nat) (p : Pkt) (st d : Nat) : (t.err (s.ctxOf op p) st d).prun.diverge = t.prun.diverge := by
  obtain ⟨_, _, _, _, _, _, _, _, _, _, _, h, a, b, c⟩ := s.err_replied t op p st d; rw [h]
@[simp] theorem State.err_prun_mismatch (s t : State) (op : Nat) (p : Pkt) (st d : Nat) : (t.err (s.ctxOf op p) st d).prun.mismatch = t.prun.mismatch := by
  obtain ⟨_, _, _, _, _, _, _, _, _, _, _, h, a, b, c⟩ := s.err_replied t op p st d; rw [h]
@[simp] theorem State.err_prun_dualSeen (s t : State) (op : Nat) (p : Pkt) (st d : Nat) : (t.err (s.ctxOf op p) st d).prun.dualSeen = t.prun.dualSeen := by
  obtain ⟨_, _, _, _, _, _, _, _, _, _, _, h, a, b, c⟩ := s.err_replied t op p st d; rw [h]
@[simp] theorem State.err_prun_selfOk (s t : State) (op : Nat) (p : Pkt) (st d : Nat) : (t.err (s.ctxOf op p) st d).prun.selfOk = t.prun.selfOk := by
  obtain ⟨_, _, _, _, _, _, _, _, _, _, _, h, a, b, c⟩ := s.err_replied t op p st d; rw [h]
@[simp] theorem State.err_prun_lastCause (s t : State) (op : Nat) (p : Pkt) (st d : Nat) : (t.err (s.ctxOf op p) st d).prun.lastCause = t.prun.lastCause := by
  obtain ⟨_, _, _, _, _, _, _, _, _, _, _, h, a, b, c⟩ := s.err_replied t op p st d; rw [h]
@[simp] theorem State.err_prun_dHam (s t : State) (op : Nat) (p : Pkt) (st d : Nat) : (t.err (s.ctxOf op p) st d).prun.dHam = t.prun.dHam := by
  obtain ⟨_, _, _, _, _, _, _, _, _, _, _, h, a, b, c⟩ := s.err_replied t op p st d; rw [h]
@[simp] theorem State.err_prun_dSync (s t : State) (op : Nat) (p : Pkt) (st d : Nat) : (t.err (s.ctxOf op p) st d).prun.dSync = t.prun.dSync := by
  obtain ⟨_, _, _, _, _, _, _, _, _, _, _, h, a, b, c⟩ := s.err_replied t op p st d; rw [h]
@[simp] theorem State.err_prun_theta (s t : State) (op : Nat) (p : Pkt) (st d : Nat) : (t.err (s.ctxOf op p) st d).prun.theta = t.prun.theta := by
  obtain ⟨_, _, _, _, _, _, _, _, _, _, _, h, a, b, c⟩ := s.err_replied t op p st d; rw [h]
@[simp] theorem State.err_prun_thetaAt (s t : State) (op : Nat) (p : Pkt) (st d : Nat) : (t.err (s.ctxOf op p) st d).prun.thetaAt = t.prun.thetaAt := by
  obtain ⟨_, _, _, _, _, _, _, _, _, _, _, h, a, b, c⟩ := s.err_replied t op p st d; rw [h]
@[simp] theorem State.err_prun_thetaPrev (s t : State) (op : Nat) (p : Pkt) (st d : Nat) : (t.err (s.ctxOf op p) st d).prun.thetaPrev = t.prun.thetaPrev := by
  obtain ⟨_, _, _, _, _, _, _, _, _, _, _, h, a, b, c⟩ := s.err_replied t op p st d; rw [h]
@[simp] theorem State.err_prun_thetaPrevAt (s t : State) (op : Nat) (p : Pkt) (st d : Nat) : (t.err (s.ctxOf op p) st d).prun.thetaPrevAt = t.prun.thetaPrevAt := by
  obtain ⟨_, _, _, _, _, _, _, _, _, _, _, h, a, b, c⟩ := s.err_replied t op p st d; rw [h]
@[simp] theorem State.err_prun_syncCmp (s t : State) (op : Nat) (p : Pkt) (st d : Nat) : (t.err (s.ctxOf op p) st d).prun.syncCmp = t.prun.syncCmp := by
  obtain ⟨_, _, _, _, _, _, _, _, _, _, _, h, a, b, c⟩ := s.err_replied t op p st d; rw [h]
@[simp] theorem State.err_prun_eOwn (s t : State) (op : Nat) (p : Pkt) (st d : Nat) : (t.err (s.ctxOf op p) st d).prun.eOwn = t.prun.eOwn := by
  obtain ⟨_, _, _, _, _, _, _, _, _, _, _, h, a, b, c⟩ := s.err_replied t op p st d; rw [h]
@[simp] theorem State.err_prun_ePartner (s t : State) (op : Nat) (p : Pkt) (st d : Nat) : (t.err (s.ctxOf op p) st d).prun.ePartner = t.prun.ePartner := by
  obtain ⟨_, _, _, _, _, _, _, _, _, _, _, h, a, b, c⟩ := s.err_replied t op p st d; rw [h]
@[simp] theorem State.err_prun_disputes (s t : State) (op : Nat) (p : Pkt) (st d : Nat) : (t.err (s.ctxOf op p) st d).prun.disputes = t.prun.disputes := by
  obtain ⟨_, _, _, _, _, _, _, _, _, _, _, h, a, b, c⟩ := s.err_replied t op p st d; rw [h]
@[simp] theorem State.err_prun_takeovers (s t : State) (op : Nat) (p : Pkt) (st d : Nat) : (t.err (s.ctxOf op p) st d).prun.takeovers = t.prun.takeovers := by
  obtain ⟨_, _, _, _, _, _, _, _, _, _, _, h, a, b, c⟩ := s.err_replied t op p st d; rw [h]
@[simp] theorem State.err_prun_digestMismatch (s t : State) (op : Nat) (p : Pkt) (st d : Nat) : (t.err (s.ctxOf op p) st d).prun.digestMismatch = t.prun.digestMismatch := by
  obtain ⟨_, _, _, _, _, _, _, _, _, _, _, h, a, b, c⟩ := s.err_replied t op p st d; rw [h]
@[simp] theorem State.err_prun_twinDrops (s t : State) (op : Nat) (p : Pkt) (st d : Nat) : (t.err (s.ctxOf op p) st d).prun.twinDrops = t.prun.twinDrops := by
  obtain ⟨_, _, _, _, _, _, _, _, _, _, _, h, a, b, c⟩ := s.err_replied t op p st d; rw [h]
@[simp] theorem State.err_prun_filtered (s t : State) (op : Nat) (p : Pkt) (st d : Nat) : (t.err (s.ctxOf op p) st d).prun.filtered = t.prun.filtered := by
  obtain ⟨_, _, _, _, _, _, _, _, _, _, _, h, a, b, c⟩ := s.err_replied t op p st d; rw [h]
@[simp] theorem State.err_prun_lastDual (s t : State) (op : Nat) (p : Pkt) (st d : Nat) : (t.err (s.ctxOf op p) st d).prun.lastDual = t.prun.lastDual := by
  obtain ⟨_, _, _, _, _, _, _, _, _, _, _, h, a, b, c⟩ := s.err_replied t op p st d; rw [h]
@[simp] theorem State.err_prun_beyond (s t : State) (op : Nat) (p : Pkt) (st d : Nat) : (t.err (s.ctxOf op p) st d).prun.beyond = t.prun.beyond := by
  obtain ⟨_, _, _, _, _, _, _, _, _, _, _, h, a, b, c⟩ := s.err_replied t op p st d; rw [h]
@[simp] theorem State.err_prun_digestRun (s t : State) (op : Nat) (p : Pkt) (st d : Nat) : (t.err (s.ctxOf op p) st d).prun.digestRun = t.prun.digestRun := by
  obtain ⟨_, _, _, _, _, _, _, _, _, _, _, h, a, b, c⟩ := s.err_replied t op p st d; rw [h]
@[simp] theorem State.err_prun_dispute (s t : State) (op : Nat) (p : Pkt) (st d : Nat) : (t.err (s.ctxOf op p) st d).prun.dispute = t.prun.dispute := by
  obtain ⟨_, _, _, _, _, _, _, _, _, _, _, h, a, b, c⟩ := s.err_replied t op p st d; rw [h]
@[simp] theorem State.err_prun_own (s t : State) (op : Nat) (p : Pkt) (st d : Nat) : (t.err (s.ctxOf op p) st d).prun.own = t.prun.own := by
  obtain ⟨_, _, _, _, _, _, _, _, _, _, _, h, a, b, c⟩ := s.err_replied t op p st d; rw [h]
@[simp] theorem State.err_prun_partner (s t : State) (op : Nat) (p : Pkt) (st d : Nat) : (t.err (s.ctxOf op p) st d).prun.partner = t.prun.partner := by
  obtain ⟨_, _, _, _, _, _, _, _, _, _, _, h, a, b, c⟩ := s.err_replied t op p st d; rw [h]
@[simp] theorem State.err_prun_quietUntil (s t : State) (op : Nat) (p : Pkt) (st d : Nat) : (t.err (s.ctxOf op p) st d).prun.quietUntil = t.prun.quietUntil := by
  obtain ⟨_, _, _, _, _, _, _, _, _, _, _, h, a, b, c⟩ := s.err_replied t op p st d; rw [h]
@[simp] theorem State.err_prun_faulty (s t : State) (op : Nat) (p : Pkt) (st d : Nat) : (t.err (s.ctxOf op p) st d).prun.faulty = t.prun.faulty := by
  obtain ⟨_, _, _, _, _, _, _, _, _, _, _, h, a, b, c⟩ := s.err_replied t op p st d; rw [h]
@[simp] theorem State.err_prun_witness (s t : State) (op : Nat) (p : Pkt) (st d : Nat) : (t.err (s.ctxOf op p) st d).prun.witness = t.prun.witness := by
  obtain ⟨_, _, _, _, _, _, _, _, _, _, _, h, a, b, c⟩ := s.err_replied t op p st d; rw [h]
@[simp] theorem State.err_prun_twinRx (s t : State) (op : Nat) (p : Pkt) (st d : Nat) : (t.err (s.ctxOf op p) st d).prun.twinRx = t.prun.twinRx := by
  obtain ⟨_, _, _, _, _, _, _, _, _, _, _, h, a, b, c⟩ := s.err_replied t op p st d; rw [h]
@[simp] theorem State.err_prun_twinTx (s t : State) (op : Nat) (p : Pkt) (st d : Nat) : (t.err (s.ctxOf op p) st d).prun.twinTx = t.prun.twinTx := by
  obtain ⟨_, _, _, _, _, _, _, _, _, _, _, h, a, b, c⟩ := s.err_replied t op p st d; rw [h]
@[simp] theorem State.err_prun_ham0 (s t : State) (op : Nat) (p : Pkt) (st d : Nat) : (t.err (s.ctxOf op p) st d).prun.ham0 = t.prun.ham0 := by
  obtain ⟨_, _, _, _, _, _, _, _, _, _, _, h, a, b, c⟩ := s.err_replied t op p st d; rw [h]
@[simp] theorem State.err_prun_hamCmp (s t : State) (op : Nat) (p : Pkt) (st d : Nat) : (t.err (s.ctxOf op p) st d).prun.hamCmp = t.prun.hamCmp := by
  obtain ⟨_, _, _, _, _, _, _, _, _, _, _, h, a, b, c⟩ := s.err_replied t op p st d; rw [h]
@[simp] theorem State.err_prun_digest (s t : State) (op : Nat) (p : Pkt) (st d : Nat) : (t.err (s.ctxOf op p) st d).prun.digest = t.prun.digest := by
  obtain ⟨_, _, _, _, _, _, _, _, _, _, _, h, a, b, c⟩ := s.err_replied t op p st d; rw [h]
@[simp] theorem State.err_prun_ownDigests (s t : State) (op : Nat) (p : Pkt) (st d : Nat) : (t.err (s.ctxOf op p) st d).prun.ownDigests = t.prun.ownDigests := by
  obtain ⟨_, _, _, _, _, _, _, _, _, _, _, h, a, b, c⟩ := s.err_replied t op p st d; rw [h]
@[simp] theorem State.err_prun_partnerDigests (s t : State) (op : Nat) (p : Pkt) (st d : Nat) : (t.err (s.ctxOf op p) st d).prun.partnerDigests = t.prun.partnerDigests := by
  obtain ⟨_, _, _, _, _, _, _, _, _, _, _, h, a, b, c⟩ := s.err_replied t op p st d; rw [h]
@[simp] theorem State.err_prun_activeAt (s t : State) (op : Nat) (p : Pkt) (st d : Nat) : (t.err (s.ctxOf op p) st d).prun.activeAt = t.prun.activeAt := by
  obtain ⟨_, _, _, _, _, _, _, _, _, _, _, h, a, b, c⟩ := s.err_replied t op p st d; rw [h]
@[simp] theorem State.err_prun_heardAt (s t : State) (op : Nat) (p : Pkt) (st d : Nat) : (t.err (s.ctxOf op p) st d).prun.heardAt = t.prun.heardAt := by
  obtain ⟨_, _, _, _, _, _, _, _, _, _, _, h, a, b, c⟩ := s.err_replied t op p st d; rw [h]
@[simp] theorem State.err_prun_twinAt (s t : State) (op : Nat) (p : Pkt) (st d : Nat) : (t.err (s.ctxOf op p) st d).prun.twinAt = t.prun.twinAt := by
  obtain ⟨_, _, _, _, _, _, _, _, _, _, _, h, a, b, c⟩ := s.err_replied t op p st d; rw [h]
@[simp] theorem State.err_prun_pairs (s t : State) (op : Nat) (p : Pkt) (st d : Nat) : (t.err (s.ctxOf op p) st d).prun.pairs = t.prun.pairs := by
  obtain ⟨_, _, _, _, _, _, _, _, _, _, _, h, a, b, c⟩ := s.err_replied t op p st d; rw [h]
@[simp] theorem State.err_sesKeys (s t : State) (op : Nat) (p : Pkt) (st d : Nat) : (t.err (s.ctxOf op p) st d).sesKeys = t.sesKeys := by
  obtain ⟨_, _, _, _, _, _, _, _, _, _, _, h, a, b, c⟩ := s.err_replied t op p st d; rw [h]
@[simp] theorem State.err_ptp (s t : State) (op : Nat) (p : Pkt) (st d : Nat) : (t.err (s.ctxOf op p) st d).ptp = t.ptp := by
  obtain ⟨_, _, _, _, _, _, _, _, _, _, _, h, a, b, c⟩ := s.err_replied t op p st d; rw [h]
@[simp] theorem State.err_pal (s t : State) (op : Nat) (p : Pkt) (st d : Nat) : (t.err (s.ctxOf op p) st d).pal = t.pal := by
  obtain ⟨_, _, _, _, _, _, _, _, _, _, _, h, a, b, c⟩ := s.err_replied t op p st d; rw [h]
@[simp] theorem State.err_refs (s t : State) (op : Nat) (p : Pkt) (st d : Nat) : (t.err (s.ctxOf op p) st d).refs = t.refs := by
  obtain ⟨_, _, _, _, _, _, _, _, _, _, _, h, a, b, c⟩ := s.err_replied t op p st d; rw [h]
@[simp] theorem State.err_hams (s t : State) (op : Nat) (p : Pkt) (st d : Nat) : (t.err (s.ctxOf op p) st d).hams = t.hams := by
  obtain ⟨_, _, _, _, _, _, _, _, _, _, _, h, a, b, c⟩ := s.err_replied t op p st d; rw [h]
@[simp] theorem State.err_chans (s t : State) (op : Nat) (p : Pkt) (st d : Nat) : (t.err (s.ctxOf op p) st d).chans = t.chans := by
  obtain ⟨_, _, _, _, _, _, _, _, _, _, _, h, a, b, c⟩ := s.err_replied t op p st d; rw [h]
@[simp] theorem State.err_twinRpl (s t : State) (op : Nat) (p : Pkt) (st d : Nat) : (t.err (s.ctxOf op p) st d).twinRpl = t.twinRpl := by
  obtain ⟨_, _, _, _, _, _, _, _, _, _, _, h, a, b, c⟩ := s.err_replied t op p st d; rw [h]
@[simp] theorem State.err_start_power (s t : State) (op : Nat) (p : Pkt) (st d : Nat) : (t.err (s.ctxOf op p) st d).start.power = t.start.power := by
  obtain ⟨_, _, _, _, _, _, _, _, _, _, _, h, a, b, c⟩ := s.err_replied t op p st d; rw [h]; simp only [Prod.mk.injEq] at a; simp [a]
@[simp] theorem State.err_start_mpi (s t : State) (op : Nat) (p : Pkt) (st d : Nat) : (t.err (s.ctxOf op p) st d).start.mpi = t.start.mpi := by
  obtain ⟨_, _, _, _, _, _, _, _, _, _, _, h, a, b, c⟩ := s.err_replied t op p st d; rw [h]; simp only [Prod.mk.injEq] at a; simp [a]
@[simp] theorem State.err_start_resetN (s t : State) (op : Nat) (p : Pkt) (st d : Nat) : (t.err (s.ctxOf op p) st d).start.resetN = t.start.resetN := by
  obtain ⟨_, _, _, _, _, _, _, _, _, _, _, h, a, b, c⟩ := s.err_replied t op p st d; rw [h]; simp only [Prod.mk.injEq] at a; simp [a]
@[simp] theorem State.err_start_pfailN (s t : State) (op : Nat) (p : Pkt) (st d : Nat) : (t.err (s.ctxOf op p) st d).start.pfailN = t.start.pfailN := by
  obtain ⟨_, _, _, _, _, _, _, _, _, _, _, h, a, b, c⟩ := s.err_replied t op p st d; rw [h]; simp only [Prod.mk.injEq] at a; simp [a]
@[simp] theorem State.err_start_podReleased (s t : State) (op : Nat) (p : Pkt) (st d : Nat) : (t.err (s.ctxOf op p) st d).start.podReleased = t.start.podReleased := by
  obtain ⟨_, _, _, _, _, _, _, _, _, _, _, h, a, b, c⟩ := s.err_replied t op p st d; rw [h]; simp only [Prod.mk.injEq] at a; simp [a]
@[simp] theorem State.err_start_perstN (s t : State) (op : Nat) (p : Pkt) (st d : Nat) : (t.err (s.ctxOf op p) st d).start.perstN = t.start.perstN := by
  obtain ⟨_, _, _, _, _, _, _, _, _, _, _, h, a, b, c⟩ := s.err_replied t op p st d; rw [h]; simp only [Prod.mk.injEq] at a; simp [a]
@[simp] theorem State.err_start_pcieUp (s t : State) (op : Nat) (p : Pkt) (st d : Nat) : (t.err (s.ctxOf op p) st d).start.pcieUp = t.start.pcieUp := by
  obtain ⟨_, _, _, _, _, _, _, _, _, _, _, h, a, b, c⟩ := s.err_replied t op p st d; rw [h]; simp only [Prod.mk.injEq] at a; simp [a]
@[simp] theorem State.err_start_cause (s t : State) (op : Nat) (p : Pkt) (st d : Nat) : (t.err (s.ctxOf op p) st d).start.cause = t.start.cause := by
  obtain ⟨_, _, _, _, _, _, _, _, _, _, _, h, a, b, c⟩ := s.err_replied t op p st d; rw [h]; simp only [Prod.mk.injEq] at a; simp [a]
@[simp] theorem State.err_start_kind (s t : State) (op : Nat) (p : Pkt) (st d : Nat) : (t.err (s.ctxOf op p) st d).start.kind = t.start.kind := by
  obtain ⟨_, _, _, _, _, _, _, _, _, _, _, h, a, b, c⟩ := s.err_replied t op p st d; rw [h]; simp only [Prod.mk.injEq] at a; simp [a]
@[simp] theorem State.err_start_fallback (s t : State) (op : Nat) (p : Pkt) (st d : Nat) : (t.err (s.ctxOf op p) st d).start.fallback = t.start.fallback := by
  obtain ⟨_, _, _, _, _, _, _, _, _, _, _, h, a, b, c⟩ := s.err_replied t op p st d; rw [h]; simp only [Prod.mk.injEq] at b; simp [b]
@[simp] theorem State.err_start_trunc (s t : State) (op : Nat) (p : Pkt) (st d : Nat) : (t.err (s.ctxOf op p) st d).start.trunc = t.start.trunc := by
  obtain ⟨_, _, _, _, _, _, _, _, _, _, _, h, a, b, c⟩ := s.err_replied t op p st d; rw [h]; simp only [Prod.mk.injEq] at b; simp [b]
@[simp] theorem State.err_start_scriptEnded (s t : State) (op : Nat) (p : Pkt) (st d : Nat) : (t.err (s.ctxOf op p) st d).start.scriptEnded = t.start.scriptEnded := by
  obtain ⟨_, _, _, _, _, _, _, _, _, _, _, h, a, b, c⟩ := s.err_replied t op p st d; rw [h]; simp only [Prod.mk.injEq] at b; simp [b]
@[simp] theorem State.err_start_scriptAt (s t : State) (op : Nat) (p : Pkt) (st d : Nat) : (t.err (s.ctxOf op p) st d).start.scriptAt = t.start.scriptAt := by
  obtain ⟨_, _, _, _, _, _, _, _, _, _, _, h, a, b, c⟩ := s.err_replied t op p st d; rw [h]; simp only [Prod.mk.injEq] at b; simp [b]
@[simp] theorem State.err_start_prevImage (s t : State) (op : Nat) (p : Pkt) (st d : Nat) : (t.err (s.ctxOf op p) st d).start.prevImage = t.start.prevImage := by
  obtain ⟨_, _, _, _, _, _, _, _, _, _, _, h, a, b, c⟩ := s.err_replied t op p st d; rw [h]; simp only [Prod.mk.injEq] at b; simp [b]
@[simp] theorem State.err_start_tamperStart (s t : State) (op : Nat) (p : Pkt) (st d : Nat) : (t.err (s.ctxOf op p) st d).start.tamperStart = t.start.tamperStart := by
  obtain ⟨_, _, _, _, _, _, _, _, _, _, _, h, a, b, c⟩ := s.err_replied t op p st d; rw [h]; simp only [Prod.mk.injEq] at b; simp [b]
@[simp] theorem State.err_start_lockUs (s t : State) (op : Nat) (p : Pkt) (st d : Nat) : (t.err (s.ctxOf op p) st d).start.lockUs = t.start.lockUs := by
  obtain ⟨_, _, _, _, _, _, _, _, _, _, _, h, a, b, c⟩ := s.err_replied t op p st d; rw [h]; simp only [Prod.mk.injEq] at b; simp [b]
@[simp] theorem State.err_start_testUs (s t : State) (op : Nat) (p : Pkt) (st d : Nat) : (t.err (s.ctxOf op p) st d).start.testUs = t.start.testUs := by
  obtain ⟨_, _, _, _, _, _, _, _, _, _, _, h, a, b, c⟩ := s.err_replied t op p st d; rw [h]; simp only [Prod.mk.injEq] at b; simp [b]
@[simp] theorem State.err_start_scriptUs (s t : State) (op : Nat) (p : Pkt) (st d : Nat) : (t.err (s.ctxOf op p) st d).start.scriptUs = t.start.scriptUs := by
  obtain ⟨_, _, _, _, _, _, _, _, _, _, _, h, a, b, c⟩ := s.err_replied t op p st d; rw [h]; simp only [Prod.mk.injEq] at b; simp [b]
@[simp] theorem State.err_start_scriptCmds (s t : State) (op : Nat) (p : Pkt) (st d : Nat) : (t.err (s.ctxOf op p) st d).start.scriptCmds = t.start.scriptCmds := by
  obtain ⟨_, _, _, _, _, _, _, _, _, _, _, h, a, b, c⟩ := s.err_replied t op p st d; rw [h]; simp only [Prod.mk.injEq] at c; simp [c]
@[simp] theorem State.err_start_slot (s t : State) (op : Nat) (p : Pkt) (st d : Nat) : (t.err (s.ctxOf op p) st d).start.slot = t.start.slot := by
  obtain ⟨_, _, _, _, _, _, _, _, _, _, _, h, a, b, c⟩ := s.err_replied t op p st d; rw [h]; simp only [Prod.mk.injEq] at c; simp [c]
@[simp] theorem State.err_start_version (s t : State) (op : Nat) (p : Pkt) (st d : Nat) : (t.err (s.ctxOf op p) st d).start.version = t.start.version := by
  obtain ⟨_, _, _, _, _, _, _, _, _, _, _, h, a, b, c⟩ := s.err_replied t op p st d; rw [h]; simp only [Prod.mk.injEq] at c; simp [c]
@[simp] theorem State.err_start_watchdog (s t : State) (op : Nat) (p : Pkt) (st d : Nat) : (t.err (s.ctxOf op p) st d).start.watchdog = t.start.watchdog := by
  obtain ⟨_, _, _, _, _, _, _, _, _, _, _, h, a, b, c⟩ := s.err_replied t op p st d; rw [h]; simp only [Prod.mk.injEq] at c; simp [c]
@[simp] theorem State.err_start_stop (s t : State) (op : Nat) (p : Pkt) (st d : Nat) : (t.err (s.ctxOf op p) st d).start.stop = t.start.stop := by
  obtain ⟨_, _, _, _, _, _, _, _, _, _, _, h, a, b, c⟩ := s.err_replied t op p st d; rw [h]; simp only [Prod.mk.injEq] at c; simp [c]

end Sys2Proof.Machine
end

