-- ==== Sys2Proof/WellFormed.lean ====
section
/-! DEFINITION. Which steps are well formed: the numbers an operand names lie in their ranges, and a row that is one form of an opcode
carries a packet of that form. -/

namespace Sys2Proof

/-- The carrier's fields (R82). -/
def Via.fields : Via → Bool
  | .inband port sa tci => decide (port < 104) && decide (sa < 2 ^ 48) && (match tci with | some t => decide (t < 2 ^ 16) | none => true)
  | _ => true

/-- The header fields fit (R52). -/
def Pkt.fields (p : Pkt) : Bool :=
  p.via.fields && decide (p.tag < 2 ^ 16) && decide (p.seq < 2 ^ 8) && decide (p.destId < 2 ^ 18) && decide (p.srcId < 2 ^ 18)
    && decide (p.rsv2 < 2 ^ 14) && decide (p.rsv3 < 2 ^ 6) && decide (p.words.length ≤ 1023) && decide (p.mac < 2 ^ 128)

/-- A whole command, or the last segment of one (R69). -/
def Pkt.command (p : Pkt) : Bool := p.fields && !p.more

/-- A bit of the first parameter word. -/
def Pkt.flag (p : Pkt) (k : Nat) : Bool := (p.words.getD 0 0).getLsbD k

/-- A block of a block anneal: a lane or a measurement channel. -/
def blockOk : Option (Bool × Nat) → Bool
  | some (true, i) => decide (i < 28)
  | some (false, i) => decide (i < 96)
  | none => true

/-- The step is well formed. -/
def Instr.wf (i : Instr) : Bool :=
  match i with
  | .sysNop p => p.command
  | .sysIdent p => p.command
  | .sysAxgConfig p => p.command
  | .sysShutdown p => p.command
  | .shutdownReplyLeft _ _ => true
  | .sysRestart p => p.command
  | .restartReplyLeft _ => true
  | .sysBootSlot p => p.command
  | .sysStatus p => p.command
  | .laneConfig p => p.command
  | .laneStatus p => p.command
  | .laneTrain p => p.command
  | .laneDoze p => p.command
  | .laneSketch p => p.command
  | .laneSketchRead p => p.command
  | .laneLoopback p => p.command
  | .portConfig p => p.command
  | .portStatus p => p.command
  | .portAdmin p => p.command
  | .portRing p => p.command
  | .portNodeRead p => p.command
  | .bypassSet p => p.command
  | .bypassPolicy p => p.command
  | .bypassStatus p => p.command
  | .fwdFdbAdd p => p.command
  | .fwdFdbDel p => p.command && !p.flag 31
  | .fwdFdbFlush p => p.command && p.flag 31
  | .fwdFdbRead p => p.command
  | .fwdAgeing p => p.command
  | .fwdStreamSet p => p.command
  | .fwdStreamRead p => p.command
  | .fwdVlanSet p => p.command
  | .fwdClassMap p => p.command
  | .fwdCutMode p => p.command
  | .fwdPuntRule p => p.command
  | .bufMinSet p => p.command
  | .bufPoolSet p => p.command
  | .bufOccupancy p => p.command
  | .timeGet p => p.command
  | .timeSet p => p.command
  | .timeAdjRate p => p.command
  | .timeStep p => p.command
  | .timeSlew p => p.command
  | .timeEpoch p => p.command
  | .sessionCreate p => p.command
  | .sessionDelete p => p.command
  | .sessionRead p => p.command
  | .sessionStatus p => p.command
  | .sessionServo p => p.command
  | .sessionKey p => p.command
  | .sessionEsmc p => p.command
  | .measConfig p => p.command
  | .measStart p => p.command
  | .measStop p => p.command
  | .measRead p => p.command
  | .measStats p => p.command
  | .refConfig p => p.command
  | .refRank p => p.command
  | .refSelect p => p.command
  | .refStatus p => p.command
  | .refBandwidth p => p.command
  | .refHoldover p => p.command
  | .hamArm p => p.command
  | .hamDisarm p => p.command
  | .hamAlign p => p.command
  | .hamStatus p => p.command
  | .hamConv p => p.command
  | .calConfig p => p.command
  | .calRun p => p.command
  | .calStatus p => p.command
  | .calCalref p => p.command
  | .calCommit p => p.command
  | .annealConfig p => p.command
  | .annealBlock p => p.command
  | .annealResult p => p.command
  | .bellowsBudget p => p.command
  | .bellowsHoldup p => p.command
  | .bellowsReport p => p.command
  | .bellowsCosts p => p.command
  | .crucibleRead p => p.command
  | .crucibleFlush p => p.command
  | .crucibleLatchRead p => p.command
  | .crucibleClear p => p.command
  | .cntConfig p => p.command
  | .cntRead p => p.command
  | .cntWrite p => p.command
  | .cntBandwidth p => p.command
  | .cntUser p => p.command
  | .hierConfig p => p.command
  | .hierEnroll p => p.command
  | .hierRelease p => p.command
  | .hierTableRead p => p.command
  | .hierBroadcast p => p.command
  | .hierClosure p => p.command
  | .hierClosureRead p => p.command
  | .hierStatus p => p.command && !p.flag 31
  | .workerReport p => p.command && p.flag 31
  | .pairConfig p => p.command
  | .pairStatus p => p.command
  | .pairSwitch p => p.command
  | .secLcSet p => p.command
  | .secLcStatus p => p.command
  | .secKeyLoad p => p.command
  | .secSeqReset p => p.command
  | .secTamperStatus p => p.command
  | .secScanEnable p => p.command
  | .memRead p => p.command
  | .memWrite p => p.command
  | .memImageWrite p => p.command
  | .memBgtest p => p.command && !p.flag 0
  | .memBgtestStop p => p.command && p.flag 0
  | .axgSegment op p => decide (op < 2 ^ 16) && p.fields && p.more
  | .axgRelay op p => decide (op < 2 ^ 16) && p.fields
  | .axgRelayReply port sa pkt => decide (port < 104) && decide (sa < 2 ^ 48) && decide (pkt.length ≤ 1031)
  | .cmdPi pi _ => decide (pi < 2 ^ 16)
  | .rplCi v => decide (v < 2 ^ 16)
  | .puntPi v => decide (v < 2 ^ 16)
  | .insPi v => decide (v < 2 ^ 16)
  | .clkStatusW1c _ => true
  | .planeStatusW1c _ => true
  | .refStateW1c _ => true
  | .axgErrRead => true
  | .registerWrite off _ => decide (off < 2 ^ 24)
  | .hostWindowWrite off _ => decide (off < 2 ^ 21)
  | .spiPut _ => true
  | .spiGet _ => true
  | .spiStat => true
  | .sbpTimeRead word => decide (word < 64)
  | .sbpSnapStatusRead => true
  | .cntPageRead k word => decide (k < 256) && decide (word < 4)
  | .sbpSnapEdge _ _ => true
  | .powerOnRelease => true
  | .resetNFall => true
  | .resetRelease _ => true
  | .resetReleaseWaitAlarm => true
  | .pfailNLow => true
  | .internalRailFault rail => decide (rail < 8)
  | .parkedResume _ => true
  | .xoLoss => true
  | .rootRelocked _ => true
  | .timingPlaneFault => true
  | .timingPlaneReturn => true
  | .watchdogFire => true
  | .tamperDetected cause => decide (cause < 5)
  | .pePerstAssert => true
  | .pePerstRelease => true
  | .jtagLoad _ _ => true
  | .jtagTapReset => true
  | .laneStepExit l _ _ => decide (l < 96)
  | .laneStepTimeout l => decide (l < 96)
  | .laneSignalLoss l => decide (l < 96)
  | .cl72Update l req marker => decide (l < 96) && decide (req < 2 ^ 16) && decide (marker < 2 ^ 32)
  | .cl72Report l report marker _ => decide (l < 96) && decide (report < 2 ^ 16) && decide (marker < 2 ^ 32)
  | .laneLockLoss l => decide (l < 96)
  | .burstAttemptEnd l _ => decide (l < 96)
  | .dozeIdleExpired l => decide (l < 96)
  | .dozeEntryEnd l => decide (l < 96)
  | .dozeWakeTrigger l => decide (l < 96)
  | .dozeExitComplete l => decide (l < 96)
  | .dozeFlagsPeriodic l => decide (l < 96)
  | .dozeFlagsReceived l _ => decide (l < 96)
  | .dozeEnterReceived l => decide (l < 96)
  | .dozeBurstReceived l => decide (l < 96)
  | .dozeBurstMissed l _ => decide (l < 96)
  | .sketchEnd l _ _ => decide (l < 96)
  | .linkLost p cause _ _ => decide (p < 104) && decide (cause < 4)
  | .lfFilterExpiry p => decide (p < 104)
  | .linkLossCleared p => decide (p < 104)
  | .bypassCloseComplete b => decide (b < 4)
  | .bypassOpenComplete b => decide (b < 4)
  | .bypassPolicyProbeStart b => decide (b < 4)
  | .openProbeExpiry b => decide (b < 4)
  | .retryGapExpiry b => decide (b < 4)
  | .supervisionSend k => decide (k < 8)
  | .entryForget slot => decide (slot < 16384)
  | .nodeForget slot => decide (slot < 16384)
  | .frameTriggerByte p _ _ _ => decide (p < 104)
  | .sparkMatch p _ _ => decide (p < 104)
  | .sparkKeyCheckFail p _ => decide (p < 104)
  | .frameLastByte p _ _ _ => decide (p < 104)
  | .frameEgressSelect p _ => decide (p < 104)
  | .frameTxEnd p _ => decide (p < 104)
  | .fdbAgeSweep => true
  | .insertFrame q => decide (q < 3)
  | .regOperation => true
  | .puntDescriptorFill _ => true
  | .insertDescriptorFetch _ _ => true
  | .insertDescriptorDone => true
  | .scheduledActionDue => true
  | .slewComplete n => decide (n < 8)
  | .ptpMessageTaken => true
  | .ptpPeriodicSend sid kind => decide (sid < 1024) && decide (kind < 3)
  | .announceReceiptTimeout sid => decide (sid < 1024)
  | .syncLoss sid => decide (sid < 1024)
  | .bmcaM3WaitExpiry sid => decide (sid < 1024)
  | .esmcPduSend p => decide (p < 104)
  | .esmcPduReceived => true
  | .esmcRxTimeout p => decide (p < 104)
  | .refEvaluation _ _ => true
  | .refCheckFail k _ => decide (k < 2 ^ 12)
  | .refChecksPass k => decide (k < 2 ^ 12)
  | .refQualTimeExpiry k => decide (k < 2 ^ 12)
  | .refWtrExpiry k => decide (k < 2 ^ 12)
  | .switchMeasurementComplete _ => true
  | .loopLocked _ _ => true
  | .loopUnlocked _ => true
  | .bandwidthNarrowed _ _ => true
  | .histValidSet _ _ => true
  | .holdoverPredictionUpdate _ _ => true
  | .hamEdgeCommit k => decide (k < 16)
  | .hamEdgeEmit k => decide (k < 16)
  | .hamAlignComplete k => decide (k < 16)
  | .inputEdge ch _ _ _ => decide (ch < 28)
  | .pairBeaconSend => true
  | .twinTimeSend => true
  | .beaconReceived => true
  | .twinTimeReceived => true
  | .compareReceived => true
  | .digestWindowEnd => true
  | .pairSelfCheckDone _ => true
  | .verdictReceived => true
  | .configReceived => true
  | .handoverReceived => true
  | .twinLinkTimeout => true
  | .beaconLoss => true
  | .joiningTimeout => true
  | .pairBeaconTaken => true
  | .pairTableForget k => decide (k < 16)
  | .workerReportSend => true
  | .workerReportReply port sa pkt => decide (port < 104) && decide (sa < 2 ^ 48) && decide (pkt.length ≤ 1031)
  | .childMiss slot => decide (slot < 4096)
  | .closureProbeSend _ => true
  | .closureProbeReturn => true
  | .ledgerWindowBoundary => true
  | .meterInterval rails => decide (rails.length = 8)
  | .holdupMean _ => true
  | .huLowTimer => true
  | .jobAdmitted => true
  | .calRoundRobinStep => true
  | .calStepComplete item _ => decide (item < 246)
  | .calCommitComplete => true
  | .crucibleRecordArrival _ code source _ _ _ => decide (code < 2 ^ 16) && decide (source < 2 ^ 16)
  | .crucibleRingTake => true
  | .crucibleLatchFlushTimer => true
  | .crucibleFlushComplete => true
  | .annealSegmentComplete block _ _ => blockOk block
  | .runHHourly => true
  | .borrowStepComplete _ => true
  | .bandwidthWindowEnd => true
  | .moduleUnpowered => true
  | .vbatFall _ => true
  | .mpiPowerUp _ => true
  | .pcieLinkUp _ => true
  | .mramWriteComplete => true
  | .lpiTransition l _ _ => decide (l < 96)
  | .dieTemperature _ => true
  | .tamperInputHigh input => decide (input < 2)
  | .holdoverFitSample _ _ => true

end Sys2Proof
end

