-- ==== Sys2Proof/Tests/Slice0.lean ====
section
/-! SUPPORT. Tests of the model: ill-formed steps are refused, single steps give what the spec gives, and for every statement of
Sys2Proof/Certificates/Slice0/Obligations.lean a state and operands that meet the hypotheses of each of its clauses. -/

namespace Sys2Proof.Tests

set_option Elab.async false

open Sys2Proof Sys2Proof.Machine

/-! ### States the tests start from -/

/-- The part in service, five seconds or so of ticks after its reset. -/
def run : State := { State.reset with
  start := { State.reset.start with power := .run, mpi := .up, pcieUp := true, done := true, scriptEnded := true, watchdog := true }
  clk := { tick := 5000000000, rootLock := true, tpUp := true, dpUp := true } }
/-- A command on the PCIe ring. -/
def pk (ws : List Word) : Pkt := { words := ws }
/-- A command on SPI. -/
def spi (ws : List Word) : Pkt := { via := .spi, words := ws }
/-- A command with a tag. -/
def au (ws : List Word) (n : Nat) : Pkt := { words := ws, auth := true, seq := n }
/-- PROVISIONED, with both keys. -/
def provis : State := { run with mram := { run.mram with lc := .provisioned, hostKey := some 77, sysKey := some 99 } }
/-- The context of a command from PCIe. -/
def cx : Ctx := { via := .pcie, op := 0x0101 }
/-- A packet with the tag its key gives it. -/
def amac (s : State) (op : Nat) (p : Pkt) : Pkt := { p with mac := gmac256 ((s.keyFor p).getD 0) (gmacIv p.srcId p.destId 0 p.seq false s.mram.bootEpoch) (cmdAad op p) }
/-- A word, lowest byte first. -/
def le (n : Nat) : List Byte := [n % 256, n / 256 % 256, n / 65536 % 256, n / 16777216].map (BitVec.ofNat 8)
/-- Bytes as memory cells from address 0. -/
def cells (bs : List Byte) : List Host.Cell := (bs.zipIdx.filter (fun e => e.1 ≠ 0)).map (fun e => (e.2, e.1))
/-- The header of a firmware image, without its own CRC. -/
def hdr0 : List Byte := le 0x4657494D ++ le 7 ++ le 3 ++ le 0 ++ le 64 ++ le 0 ++ le (crc32 []) ++ List.replicate 32 0
/-- A firmware image in memory. -/
def fwImg : List Host.Cell := cells (hdr0 ++ le (crc32 hdr0))
/-- A held job. -/
def jb (op : Nat) (w : Work) : Job := ⟨{cx with op := op}, w⟩
/-- Timing and measurement commands held by the timing plane. -/
def heldRun : State := { run with axg := { run.axg with jobs := [jb 0x0501 (.timeSet 3 5 6), jb 0x0503 (.timeStep 2 5 7), jb 0x0504 (.slew 2 5 7),
  jb 0x0701 (.measStart 3 2 9), jb 0x0704 (.stats 3 8), jb 0x0901 (.hamDisarm 3 3), jb 0x0902 (.hamAlign 3 3 0 0 false 5), jb 0x0101 (.mailbox [1])] } }
/-- An entry of the worker table. -/
def kid (p : Pres) : Worker := { childId := 20, subHi := 30, mac := 0x1234, port := 4, pres := p }
/-- A manager with one child. -/
def mgr (p : Pres) : State := { run with hcfg := { run.hcfg with deviceId := 10, subHi := 90 }, workers := [(0, kid p)] }
/-- A part whose last full test passed. -/
def quick : State := { run with mram := { run.mram with passRec := some { status := 1, expected := 316, completed := 316 } } }
/-- The reply words a command sends. -/
def rw_ (i : Instr) (s : State) : List Word := match exec i s with | .next t => (t.axg.spiQ.getLast?.getD []).drop 4 | _ => []
/-- The state after a command, its reply left out. -/
def u_ (i : Instr) (s : State) : State := match exec i s with | .next t => { t with axg := { t.axg with spiQ := t.axg.spiQ.dropLast } } | _ => s
/-- The next state. -/
def nx (i : Instr) (s : State) : State := match exec i s with | .next t => t | _ => s
/-- A frame. -/
def frm (id : Nat) (bs : List Byte) : Frame := { id := id, bytes := bs, inPort := 3 }
/-- A frame waits for the host. -/
def punt1 : State := { run with hst := { run.hst with puntPi := 3 }, buf := { run.buf with frames := [{(frm 7 (List.replicate 64 5)) with ended := true}], punted := [⟨7, .host 2 0, false⟩] } }
/-- Jobs wait for the ledger. -/
def led1 (w : List LedJob) : State := { run with led := { run.led with waiting := w, credit := 50000, test := true } }
/-- A calibration step of a run. -/
def calR : State := { run with lanes := [(3, { enable := true, step := 7, cdrLock := true, pllLock := true, signal := true })], pal := { run.pal with steps := [⟨3, 3, false, true⟩] } }
/-- A calibration step of the round robin. -/
def calR0 : State := { calR with pal := { calR.pal with steps := [⟨3, 3, false, false⟩] } }
/-- Measurements at the factory value. -/
def mz : CalMeas := { sum := Config.palFactory 3 3 * 64000 }
/-- One time base. -/
def tbv (n : Nat) (t : TBase) (s : State) : State := { s with tbs := [(n, t)] }
/-- Reference state. -/
def rfs (f : Refs → Refs) : State := { run with refs := f run.refs }
/-- The state after the head of the ledger is admitted. -/
def adm (s : State) : State := match s.admitHead with | some (_, t) => t | none => s
/-- A whole frame waits in PQ_TIME. -/
def rxs (s : State) (port : Nat) (bs : List Byte) : State := { s with buf := { s.buf with
  frames := [{ (frm 9 (bs ++ [0,0,0,0])) with ended := true, inPort := port, rx := { tick := 77, times := List.replicate 8 (5 * 2^64), tags := List.replicate 8 0 } }], punted := [⟨9, .time, false⟩] } }
/-- The first frame of the buffer. -/
def fr (s : State) : Frame := s.buf.frames.headD (frm 0 [])
/-- The bytes of a frame an event sends. -/
def sent (i : Instr) (s : State) (k : Nat := 0) : List Byte := (((nx i s).buf.iqTime.drop k).headD { bytes := [] }).bytes
/-- The bytes of the first frame sent. -/
def sentBy (s : State) : List Byte := (s.buf.iqTime.headD { bytes := [] }).bytes
/-- A session configuration. -/
def scfg (role : Nat) (two : Bool := true) : SesCfg := { port := 3, domain := 0, role := role, tb := 1, profile := 0, transport := 0, delayMech := 0, twoStep := two, nfAddr := false, closureEn := false, srcPref := 0, cls := 7, vlanEn := false, pcp := 0, annTimeout := 3, logSync := 0, logAnn := 0, logDelay := 0, vid := 0, txKey := 0, auth := 0, cfExcl := false, ingress := 0, egress := 0, asym := 0, ipSrc := 0, fixedDelay := 0 }
/-- One session. -/
def withSes (x : Session) (s : State := run) : State := { s with ptp := { s.ptp with sessions := [(5, x)] } }
/-- The data set of a message. -/
def ds0 (m : Msg) : DataSet := { pri1 := 1, cls := 1, acc := 1, var := 1, pri2 := 1, gmId := 1, steps := 1, sender := m.srcId, senderPort := m.srcPort }
/-- A MASTER session. -/
def mst (two : Bool := true) : State := withSes { cfg := scfg 2 two, run := { st := .master } } { run with fused := { run.fused with mgtMac := 0x665544332211 } }
/-- The bytes of a Sync. -/
def syncB (two : Bool := true) : List Byte := sent (.ptpPeriodicSend 5 1) (mst two)
/-- A SLAVE session whose parent sent the message. -/
def slv (st : SesSt) (m : Msg) : Session := { cfg := scfg 1, run := { st := st, parent := some { ds := ds0 m, logAnn := 0, last := 0 }, foreigns := [{ ds := ds0 m, logAnn := 0, last := 0 }] } }
/-- The message of the first frame. -/
def fm (s : State) : Nat × Msg := (s.frameMsg (fr s)).getD (0, msgAt [] 0)
/-- A Sync of the parent waits. -/
def rxSync (st : SesSt) : State :=
  let s := rxs (withSes { cfg := scfg 1 }) 3 (syncB)
  withSes (slv st (fm s).2) s
/-- A unit of a pair. -/
def pu (u : Nat) (st : UnitSt) (gen : Nat := 5) : State := { run with pcfg := { run.pcfg with en := true, unit := u, mac := 0x1234 }, prun := { run.prun with st := st }, mram := { run.mram with pairGen := gen }, fused := { run.fused with mgtMac := 0x665544332200 + u } }
/-- A frame from the twin waits. -/
def tw (kind : Nat) (ws : List Word) (me : State) (other : State) : State := rxs me 31 (sentBy (other.twinSend kind ws))
/-- The twin frame taken. -/
def tkf (s : State) (k : Nat) : Frame × Twin := (s.takeTwin k).1.getD (frm 0 [], twinOf [])
/-- The state after taking it. -/
def tku (s : State) (k : Nat) : State := (s.takeTwin k).2
/-- The twin frame at the head. -/
def thf (s : State) : PuntItem × Frame × Twin := s.twinHeadFrame.getD (⟨0, .time, true⟩, frm 0 [], twinOf [])
/-- A lane in step 7. -/
def lnU : Lane := { enable := true, step := 7, pllLock := true, signal := true, cdrLock := true, blockLock := true, dozeEn := true, partnerDozeOk := true, lpiEn := true, chotonPartner := true }
/-- A busy part. -/
def bg : State := { run with lanes := (List.range 96).map (fun i => (i, lnU)), ports := (List.range 104).map (fun i => (i, { enable := true, st := .up })), refs := { run.refs with cfg := [(3,{enable:=true}), (8, {enable := true, lane := 3}), (9, {enable := true, lane := 40})], runs := [(3,{q:=.qualified}), (8,{q:=.qualified}), (9,{q:=.qualified}), (0x405,{q:=.qualified})], sel := 8, st := .lockNarrow }, ptp := { sessions := [(5, slv .slave (fm (rxSync .slave)).2), (6, { cfg := { scfg 2 with port := 7, domain := 1, tb := 2 }, run := { st := .master } })], esmc := [(3,{en:=true}),(7,{en:=true})] } }
/-- The same, with two TQ groups. -/
def bgF : State := { bg with form := [(0, true), (1, true)] }
/-- One lane. -/
def ln (l : Nat) (x : Lane) (s : State := run) : State := { s with lanes := Tab.insert s.lanes l x }
/-- The parameters of a closure run. -/
def cloWs : List Word := [0x00030102, 0x00050002, 100, 6,  0x0300000A,0x00050004,5,0, 0x05000014,0x00060005,6,0, 0x06000015,0x00060003,6,0]
/-- Frames and copies. -/
def withFr (s : State) : State := { s with buf := { s.buf with nextId := 5, frames := [{ (frm 1 (List.replicate 200 5)) with inPort := 3 }, { (frm 2 (List.replicate 300 6)) with inPort := 7 }, { (frm 3 (List.replicate 100 6)) with inPort := 40, ended := true }], copies := [{ frame := 1, port := 7, queue := 0, charge := 1, st := .queued }, { frame := 1, port := 9, queue := 1, charge := 1, st := .sending, cut := true }, { frame := 2, port := 3, queue := 0, charge := 2, st := .sending }, { frame := 3, port := 3, queue := 8, charge := 1, st := .queued }, { frame := 2, port := 40, queue := 2, charge := 2, st := .pending }] } }
/-- The busy part, with frames. -/
def bgX : State := withFr bg
/-- One port. -/
def prt (p : Nat) (x : Port) (s : State) : State := { s with ports := Tab.insert s.ports p x }
/-- One bypass pair. -/
def byp (b : Nat) (x : Bypass) (s : State := run) : State := { s with bypass := Tab.insert s.bypass b x }
/-- Port 3 up. -/
def upS : State := prt 3 { enable := true, st := .up } run
/-- The last training request sent. -/
def lastRq (s : State) : Nat := match s.out.getLast? with | some (.cl72Request _ n) => n | _ => 0
/-- The last training status sent. -/
def lastSt (s : State) : Nat := match s.out.getLast? with | some (.cl72Status _ n) => n | _ => 0
/-- An Ethernet frame. -/
def eth (da sa ty : Nat) (n : Nat) : List Byte := [da / 2^40, da / 2^32, da / 2^24, da / 2^16, da / 256, da, sa / 2^40, sa / 2^32, sa / 2^24, sa / 2^16, sa / 256, sa, ty / 256, ty].map (BitVec.ofNat 8) ++ List.replicate (n - 14) 7
/-- What a spark frame saw at its match. -/
def spv : SparkView := { entry := { da := 0x010CCD010001, etype := 0x88B8, appid := 5, appidEn := false, tagMode := false, vid := 1, dest := 9, cls := 7, spark := true, cut := true, sparkLen := 128 }, vid := 1, vlan := { fid := 1, valid := true, member := 2^104 - 1, untag := 2^104-1 } }
/-- The busy part, with forwarding tables. -/
def fx : State := { bgX with fwd := { bgX.fwd with vlans := [(1, { fid := 1, valid := true, member := 2^104 - 1, untag := 2^104-1 })], fdb := [(3, { mac := 0x020000000009, fid := 1, dest := 9, static := true, hit := true }), (5, { mac := 0x020000000007, fid := 1, dest := 7, static := false, hit := false }), (6, { mac := 0x020000000008, fid := 1, dest := 7, static := false, hit := true })], streams := [(4, { da := 0x010CCD010001, etype := 0x88B8, appid := 5, appidEn := false, tagMode := false, vid := 1, dest := 9, cls := 7, spark := true, cut := true, sparkLen := 128 })] }, buf := { bgX.buf with frames := bgX.buf.frames.filter (fun f => f.inPort ≠ 3) } }
/-- A frame arrives on a port. -/
def arr (p : Nat) (f : Frame) (s : State) : State := { s with buf := { s.buf with frames := s.buf.frames ++ [{ f with inPort := p, ended := false, id := 4 }], copies := s.buf.copies ++ [{ frame := 4, port := 50, queue := 3, charge := 1, st := .queued }, { frame := 4, port := 51, queue := 3, charge := 1, st := .sending }] } }
/-- A closure run. -/
def cl0 : Closure := { closureOf cx cloWs with links := [] }
/-- A unit of a pair with its twin link up. -/
def pu2 (u : Nat) (st : UnitSt) (gen : Nat := 5) : State := let s := pu u st gen; { s with prun := { s.prun with twinUp := true } }

/-! ### A database with no slot left, a stream slot, and a packet's tag -/

/-- A table that holds one entry in each of some slots. -/
def fill {α : Type} (ks : List Nat) (e : α) : Tab α := ks.foldr (fun k t => Tab.insert t k e) []

theorem find_fill {α : Type} (ks : List Nat) (e : α) (k : Nat) : Tab.find? (fill ks e) k = if k ∈ ks then some e else none := by
  induction ks with
  | nil => simp [fill, Tab.find?]
  | cons j ks ih =>
    by_cases h : k = j
    · subst h; simp [fill]
    · simp only [fill, List.foldr_cons] at *
      rw [Tab.find?_insert_ne _ _ h, ih]; simp [h]

theorem mem_fill {α : Type} {ks : List Nat} {e : α} {x : Nat × α} (h : x ∈ fill ks e) : x.2 = e := by
  induction ks with
  | nil => simp [fill] at h
  | cons j ks ih =>
    rcases Tab.mem_insert h with h | h
    · rw [h]
    · exact ih h

/-- A search over a table filled with one key's entry finds no free slot while that key's slots are filled too. -/
theorem search_fill (ks : List Nat) (e : Fdb) (h : ∀ w, w < 4 → fdbSlot w e.mac e.fid ∈ ks) (n : Nat) :
    ∀ chains : List (List Nat), searchChain (fill ks e) n chains = none := by
  induction n with
  | zero => intro _; rfl
  | succ n ih =>
    intro chains
    have key : (searchLevel (fill ks e) chains).1 = none := by
      simp only [searchLevel, List.find?_eq_none, List.mem_flatMap]
      rintro c ⟨d, -, hc⟩
      cases d with
      | nil => simp at hc
      | cons j d =>
        simp only [List.mem_map, List.mem_filter, otherSlots] at hc
        obtain ⟨x, ⟨hx, -⟩, rfl⟩ := hc
        have hk : x ∈ ks := by
          cases hf : Tab.find? (fill ks e) j with
          | none => simp [hf] at hx
          | some y =>
            have hy : y = e := by rw [find_fill] at hf; split at hf <;> simp_all
            subst hy
            simp only [hf, List.mem_map, List.mem_filter, List.mem_range] at hx
            obtain ⟨w, ⟨hw, -⟩, rfl⟩ := hx
            exact h w hw
        simp [find_fill, hk]
    have hs : searchLevel (fill ks e) chains = (none, (searchLevel (fill ks e) chains).2) := by rw [← key]
    simp only [searchChain]
    rw [hs]
    exact ih _

/-- The slots of a key. -/
def slotsOf (e : Fdb) : List Nat := (List.range 4).map (fun w => fdbSlot w e.mac e.fid)

/-- A database whose slots for a new key, and for the entry in them, are all taken. -/
def fullFor (e old : Fdb) : Tab Fdb := fill (slotsOf e ++ slotsOf old) old

theorem place_full (e old : Fdb) : fdbPlace (fullFor e old) e = none := by
  have h1 : (slotsOf e).find? (fun k => (Tab.find? (fullFor e old) k).isNone) = none := by
    rw [List.find?_eq_none]; intro k hk; simp [fullFor, find_fill, hk]
  have h2 : ∀ c, searchChain (fullFor e old) 4 c = none := by
    refine search_fill _ _ ?_ 4
    intro w hw; simp only [List.mem_append, slotsOf, List.mem_map, List.mem_range]; exact .inr ⟨w, hw, rfl⟩
  simp only [fdbPlace]
  simp only [slotsOf] at h1
  rw [h1]; simp only [h2]

theorem place_empty (e : Fdb) : fdbPlace [] e = some (Tab.insert [] (fdbSlot 0 e.mac e.fid) e) := rfl

theorem stream_slot_free (da : Nat) : streamFree [] da = some (streamSlot 0 da) := rfl

/-- A packet with the tag of its key passes the check. -/
theorem tag_passes : (provis.segAuth 0x0101 (amac provis 0x0101 (au [] 5))).fail = none := by
  have hk : provis.keyFor (amac provis 0x0101 (au [] 5)) = some 77 := by decide +kernel
  have ha : (amac provis 0x0101 (au [] 5)).auth = true := rfl
  have hk' : provis.keyFor (au [] 5) = some 77 := by decide +kernel
  have hm : gmac256 77 (gmacIv 0x3FFFF 0x3FFFF 0 5 false provis.mram.bootEpoch) (cmdAad 0x0101 (au [] 5)) = (amac provis 0x0101 (au [] 5)).mac := by
    simp only [amac, hk', Option.getD_some]; rfl
  have hc : cmdAad 0x0101 (amac provis 0x0101 (au [] 5)) = cmdAad 0x0101 (au [] 5) := by simp only [amac, cmdAad]
  simp only [State.segAuth, ha, if_true, State.authCheck, hk, hc]
  have e1 : provis.mram.bootEpoch ≠ 0xFFFF := by decide +kernel
  have e2 : provis.axg.replay = [] := rfl
  rw [if_neg e1]
  simp only [e2, List.find?_nil, Option.isNone_none, List.length_nil, Option.getD_none]
  have p1 : (amac provis 0x0101 (au [] 5)).srcId = 0x3FFFF := rfl
  have p2 : (amac provis 0x0101 (au [] 5)).destId = 0x3FFFF := rfl
  have p3 : (amac provis 0x0101 (au [] 5)).seq = 5 := rfl
  rw [if_neg (by decide), if_neg (by decide), if_neg (by decide)]
  simp only [p1, p2, p3]
  rw [if_neg (by decide : ¬ (5 : Nat) < 0), if_pos hm]

/-- The parameters of a FWD.FDB_ADD of one entry. -/
def addArgs : Pkt := pk [1, 0x02000000, 0x00090001, 9]

/-- The entry in its way. -/
def oldFdb : Fdb := { mac := 1, fid := 2, dest := 9, static := true, hit := true }

/-- The entry FWD.FDB_ADD makes of those parameters. -/
def addEntry : Fdb :=
  { mac := macOf (wd addArgs.words 1) (wd addArgs.words 2), fid := fld (wd addArgs.words 2) 11 0,
    dest := destOf (fld (wd addArgs.words 3) 12 0), static := bit (wd addArgs.words 3) 16, hit := (Config.freeNat run.free).testBit 0 }

/-- The part in service with no slot left for that entry. -/
def fullDb : State := { run with fwd := { run.fwd with fdb := fullFor addEntry oldFdb } }

theorem full_lacks (mac : Nat) {fid : Nat} (h : (mac == 1) = false) : fullDb.fdbFind mac fid = none := by
  rw [State.fdbFind, List.find?_eq_none]
  intro x hx
  have : x.2 = oldFdb := mem_fill hx
  simp only [this, oldFdb, decide_eq_true_eq]
  rintro ⟨rfl, -⟩
  simp at h

/-- A measurement at the factory value is within any distance of it. -/
theorem factory_value : (State.calValue mz calR0.palK - Config.palFactory 3 3).natAbs ≤ 300 := by
  have hk : calR0.palK = 0 := by decide +kernel
  simp only [State.calValue, mz, hk]
  omega

/-! ### Well-formedness -/

/-- A packet whose fields do not fit, a segment given as a whole command, and a form of an opcode with the other form's flag are ill formed: one
term for each check. -/
theorem test_wf_refuses_packets :
    ([.sysNop { via := .inband 104 0 none }, .sysNop { via := .inband 0 (2 ^ 48) none }, 
      .sysNop { via := .inband 0 0 (some (2 ^ 16)) }, .sysNop { tag := 2 ^ 16 }, .sysNop { seq := 2 ^ 8 }, 
      .sysNop { destId := 2 ^ 18 }, .sysNop { srcId := 2 ^ 18 }, .sysNop { rsv2 := 2 ^ 14 }, .sysNop { rsv3 := 2 ^ 6 }, 
      .sysNop { words := List.replicate 1024 0 }, .sysNop { mac := 2 ^ 128 }, .sysNop { more := true }, 
      .fwdFdbDel { words := [0x80000000] }, .fwdFdbFlush { words := [0] }, .hierStatus { words := [0x80000000] }, 
      .workerReport { words := [0] }, .memBgtest { words := [1] }, .memBgtestStop { words := [0] }, 
      .axgSegment (2 ^ 16) { more := true }, .axgSegment 0 { tag := 2 ^ 16, more := true }, .axgSegment 0 {}, 
      .axgRelay (2 ^ 16) {}, .axgRelay 0 { tag := 2 ^ 16 }, .annealSegmentComplete (some (true, 28)) 0 0, 
      .annealSegmentComplete (some (false, 96)) 0 0] : List Instr).all (fun i => !i.wf) = true := by
  decide +kernel

/-- An operand out of its range makes an event ill formed: one term for each check. -/
theorem test_wf_refuses_events :
    ([.axgRelayReply 104 0 [], .axgRelayReply 0 (2 ^ 48) [], .axgRelayReply 0 0 (List.replicate 1032 0), .cmdPi (2 ^ 16) [], 
      .rplCi (2 ^ 16), .puntPi (2 ^ 16), .insPi (2 ^ 16), .registerWrite (2 ^ 24) 0, .hostWindowWrite (2 ^ 21) [], 
      .sbpTimeRead 64, .cntPageRead 256 0, .cntPageRead 0 4, .internalRailFault 8, .tamperDetected 5, 
      .laneStepExit 96 (.blocks 0) 0, .laneStepTimeout 96, .laneSignalLoss 96, .cl72Update 96 0 0, .cl72Update 0 (2 ^ 16) 0, 
      .cl72Update 0 0 (2 ^ 32), .cl72Report 96 0 0 0, .cl72Report 0 (2 ^ 16) 0 0, .cl72Report 0 0 (2 ^ 32) 0, .laneLockLoss 96, 
      .burstAttemptEnd 96 false, .dozeIdleExpired 96, .dozeEntryEnd 96, .dozeWakeTrigger 96, .dozeExitComplete 96, 
      .dozeFlagsPeriodic 96, .dozeFlagsReceived 96 false, .dozeEnterReceived 96, .dozeBurstReceived 96, 
      .dozeBurstMissed 96 false, .sketchEnd 96 [] false, .linkLost 104 0 false false, .linkLost 0 4 false false, 
      .lfFilterExpiry 104, .linkLossCleared 104, .bypassCloseComplete 4, .bypassOpenComplete 4, .bypassPolicyProbeStart 4, 
      .openProbeExpiry 4, .retryGapExpiry 4, .supervisionSend 8, .entryForget 16384, .nodeForget 16384, 
      .frameTriggerByte 104 [] none {}, .sparkMatch 104 [] {}, .sparkKeyCheckFail 104 [], .frameLastByte 104 [] false [], 
      .frameEgressSelect 104 {}, .frameTxEnd 104 none, .insertFrame 3, .slewComplete 8, .ptpPeriodicSend 1024 0, 
      .ptpPeriodicSend 0 3, .announceReceiptTimeout 1024, .syncLoss 1024, .bmcaM3WaitExpiry 1024, .esmcPduSend 104, 
      .esmcRxTimeout 104, .refCheckFail (2 ^ 12) .state, .refChecksPass (2 ^ 12), .refQualTimeExpiry (2 ^ 12), 
      .refWtrExpiry (2 ^ 12), .hamEdgeCommit 16, .hamEdgeEmit 16, .hamAlignComplete 16, .inputEdge 28 false 0 0, 
      .pairTableForget 16, .workerReportReply 104 0 [], .workerReportReply 0 (2 ^ 48) [], 
      .workerReportReply 0 0 (List.replicate 1032 0), .childMiss 4096, .meterInterval [], .calStepComplete 246 {}, 
      .crucibleRecordArrival .data (2 ^ 16) 0 0 0 0, .crucibleRecordArrival .data 0 (2 ^ 16) 0 0 0, 
      .lpiTransition 96 false false, .tamperInputHigh 2] : List Instr).all (fun i => !i.wf) = true := by
  decide +kernel

/-! ### Single steps -/

/-- The table gives no row any bits. -/
theorem test_no_word_spells_a_step : decodeTableWord 128 0xA7180100 = none := by decide

/-- A reply to SYS.NOP keeps MAGIC, VER, OPCODE and TAG, sets REPLY, echoes SEQ, and has STATUS 0 and LEN 0 (R53, R92). -/
theorem test_nop_reply :
    (nx (.sysNop { via := .spi, tag := 0x1234, seq := 9 }) run).axg.spiQ = [[0xA7180100, 0x12340000, 0x0027FFFF, 0]] := by
  decide +kernel

/-- A SYS.NOP with a parameter completes with BAD_LENGTH (R56, R92). -/
theorem test_nop_bad_length : ((nx (.sysNop (spi [1])) run).axg.spiQ.map (fun p => (p.getD 3 0).toNat / 65536)) = [0x11] := by
  decide +kernel

/-- The CRC-32 of the nine digits (IEEE 802.3). -/
theorem test_crc32 : crc32 ([0x31, 0x32, 0x33, 0x34, 0x35, 0x36, 0x37, 0x38, 0x39].map (BitVec.ofNat 8)) = 0xCBF43926 := by decide +kernel

/-- The front of the queue acts, and only it. -/
theorem test_front_of_queue :
    (match step { run with pending := [.xoLoss, .axgErrRead] } with | .next t => decide (t.pending = [.axgErrRead]) | _ => false) = true := by
  decide +kernel

/-- One tick of the clock counts one (R42). -/
theorem test_idle_tick : (match step run with | .next t => decide (t.clk.tick = 5000000001) | _ => false) = true := by decide +kernel

/-- The loss of XO_IN takes TB0 to FAULT and latches XO_LOSS (R48). -/
theorem test_xo_loss : (nx .xoLoss run).refs.st = .fault ∧ (nx .xoLoss run).clk.xoLoss = true ∧ (nx .xoLoss run).clk.xoPresent = false := by
  decide +kernel

/-! ### What the statements' hypotheses hold of -/

/-- States and operands that meet the hypotheses of QueueStep, clause by clause. -/
theorem witness_QueueStep :
    (∃ (s : State), s.pending = []) :=
  ⟨run, by decide +kernel⟩

/-- States and operands that meet the hypotheses of TickMoves, clause by clause. -/
theorem witness_TickMoves :
    (∃ (s : State), s.pending = [] ∧ s.start.power ≠ .run) ∧
    (∃ (s : State), s.pending = [] ∧ s.start.power = .run ∧ s.axg.cmdRing = [] ∧ s.axg.spiBuf = [] ∧ s.axg.jobs = [] ∧
      s.puntHead 1 (fun _ => true) = none) ∧
    (∃ (s : State), s.clk.tpUp = false) ∧
    (∃ (s : State) (n : Nat), s.clk.tpUp = true ∧ s.axg.jobs = [] ∧ 0 < n ∧ n < 8 ∧ (s.tb n).slew = none) :=
  ⟨⟨State.reset, by decide +kernel, by decide +kernel⟩,
   ⟨run, by decide +kernel, by decide +kernel, by decide +kernel, by decide +kernel, by decide +kernel, by decide +kernel⟩,
   ⟨{run with clk := {run.clk with tpUp := false}}, by decide +kernel⟩,
   ⟨run, 3, by decide +kernel, by decide +kernel, by decide +kernel, by decide +kernel, by decide +kernel⟩⟩

/-- States and operands that meet the hypotheses of MemoryKept, clause by clause. -/
theorem witness_MemoryKept :
    (∃ (s t : State), s.memOk = true ∧ step s = .next t) :=
  ⟨run, run.clockTick, by decide +kernel, rfl⟩

/-- States and operands that meet the hypotheses of DecommissionedForGood, clause by clause. -/
theorem witness_DecommissionedForGood :
    (∃ (s t : State), s.mram.lc = .decommissioned ∧ s.mram.hostKey = none ∧ s.mram.sysKey = none ∧ step s = .next t) :=
  ⟨{run with mram := {run.mram with lc := .decommissioned}}, State.clockTick {run with mram := {run.mram with lc := .decommissioned}},
   rfl, rfl, rfl, rfl⟩

/-- States and operands that meet the hypotheses of FactoryValuesKept, clause by clause. -/
theorem witness_FactoryValuesKept :
    (∃ (s t : State), step s = .next t) :=
  ⟨run, run.clockTick, rfl⟩

/-- States and operands that meet the hypotheses of AcceptedAndReply, clause by clause. -/
theorem witness_AcceptedAndReply :
    (∃ (s : State) (op : Nat) (p : Pkt), (dataOp op = false ∨ (s.buf.iqReg = [] ∧ s.buf.regWait = []))) ∧
    (∃ (s : State) (op : Nat) (p : Pkt), dataOp op = true) ∧
    (∃ (s : State) (op : Nat) (p : Pkt), p.auth = false ∧ (dataOp op = false ∨ (s.buf.iqReg = [] ∧ s.buf.regWait = []))) ∧
    (∃ (s : State) (op : Nat) (p : Pkt), p.auth = true ∧ (s.segAuth op p).fail = none) ∧
    (∃ (s : State) (c : Ctx) (r : Rpl), (c.mute = true ∨ c.lost = true)) ∧
    (∃ (s : State) (c : Ctx) (r : Rpl), c.mute = false ∧ c.lost = false ∧ c.via = .pcie) ∧
    (∃ (s : State) (c : Ctx) (r : Rpl), c.mute = false ∧ c.lost = false ∧ c.via = .spi) ∧
    (∃ (s : State) (c : Ctx) (r : Rpl) (port sa : Nat) (tci : Option Nat), c.mute = false ∧ c.lost = false ∧ c.via = .inband port sa tci) ∧
    (∃ (s : State) (c : Ctx) (r : Rpl) (i : Nat), c.mute = false ∧ c.lost = false ∧ c.via = .script i) ∧
    (∃ (s : State) (c : Ctx) (r : Rpl), c.via = .spi ∧ c.authed = false ∧ r.words.length ≤ 1023 ∧ r.follow = []) :=
  ⟨⟨run, 0x0300, pk [], by decide +kernel⟩,
   ⟨run, 0x0300, pk [], by decide +kernel⟩,
   ⟨run, 0x0101, pk [], by decide +kernel, by decide +kernel⟩,
   ⟨provis, 0x0101, amac provis 0x0101 (au [] 5), rfl, tag_passes⟩,
   ⟨run, {cx with mute := true}, ⟨0,0,[1],[]⟩, by decide +kernel⟩,
   ⟨run, cx, ⟨0,0,[1],[]⟩, by decide +kernel, by decide +kernel, by decide +kernel⟩,
   ⟨run, {cx with via := .spi}, ⟨0,0,[1],[]⟩, by decide +kernel, by decide +kernel, by decide +kernel⟩,
   ⟨run, {cx with via := .inband 3 77 none}, ⟨0,0,[1],[]⟩, 3, 77, none, by decide +kernel, by decide +kernel, by decide +kernel⟩,
   ⟨run, {cx with via := .script 2}, ⟨0x10,0,[1],[]⟩, 2, by decide +kernel, by decide +kernel, by decide +kernel⟩,
   ⟨run, {cx with via := .spi}, ⟨0x10,3,[1,2,3],[]⟩, by decide +kernel, by decide +kernel, by decide +kernel, by decide +kernel⟩⟩

/-- States and operands that meet the hypotheses of ChecksInOrder, clause by clause. -/
theorem witness_ChecksInOrder :
    (∃ (s : State) (len : LenRule) (body : Body) (c : Ctx) (ws : List Word), opDefined c.op = false) ∧
    (∃ (s : State) (len : LenRule) (body : Body) (c : Ctx) (ws : List Word), opDefined c.op = true ∧ opManager c.op = true ∧ s.isMi = false) ∧
    (∃ (s : State) (len : LenRule) (body : Body) (c : Ctx) (ws : List Word) (st d : Nat), opDefined c.op = true ∧
      ((opManager c.op = true → s.isMi = true)) ∧ s.classCheck (Pkt.cls c.op ws) c.via c.authed = some (st, d)) ∧
    (∃ (s : State) (len : LenRule) (body : Body) (c : Ctx) (ws : List Word) (st d : Nat), opDefined c.op = true ∧
      ((opManager c.op = true → s.isMi = true)) ∧ s.classCheck (Pkt.cls c.op ws) c.via c.authed = none ∧
      s.lcCheck c.op ws c.via = some (st, d)) ∧
    (∃ (s : State) (len : LenRule) (body : Body) (c : Ctx) (ws : List Word) (d : Nat), opDefined c.op = true ∧
      ((opManager c.op = true → s.isMi = true)) ∧ s.classCheck (Pkt.cls c.op ws) c.via c.authed = none ∧ s.lcCheck c.op ws c.via = none ∧
      len ws = some d) ∧
    (∃ (s : State) (len : LenRule) (body : Body) (c : Ctx) (ws : List Word), opDefined c.op = true ∧
      ((opManager c.op = true → s.isMi = true)) ∧ s.classCheck (Pkt.cls c.op ws) c.via c.authed = none ∧ s.lcCheck c.op ws c.via = none ∧
      len ws = none ∧ 1023 < ws.length) ∧
    (∃ (s : State) (op : Nat) (p : Pkt) (e : Replay), p.auth = true ∧ s.axg.replay.find? (Replay.isOf p) = some e ∧
      (((p.seq + 256 - e.lastSeq) % 256 = 0 ∨ 127 < (p.seq + 256 - e.lastSeq) % 256))) :=
  ⟨⟨run, lenIs 0, (fun _ _ s => s), {cx with op := 0x0999}, [], by decide +kernel⟩,
   ⟨{run with fused := {mi := false}}, lenIs 0, (fun _ _ s => s), {cx with op := 0x0D01}, [], by decide +kernel, by decide +kernel,
    by decide +kernel⟩,
   ⟨{run with mram := {run.mram with lc := .operational}}, lenIs 0, (fun _ _ s => s), {cx with op := 0x0F00}, [], 0x21, 3,
    by decide +kernel, by decide +kernel, by decide +kernel⟩,
   ⟨{run with mram := {run.mram with lc := .decommissioned}}, lenIs 0, (fun _ _ s => s), {cx with op := 0x0F02, authed := true}, [], 0x20,
    2, by decide +kernel, by decide +kernel, by decide +kernel, by decide +kernel⟩,
   ⟨run, lenIs 0, (fun _ _ s => s), {cx with op := 0x0101}, [1], 0, by decide +kernel, by decide +kernel, by decide +kernel,
    by decide +kernel, by decide +kernel⟩,
   ⟨run, (fun _ => none), (fun _ _ s => s), {cx with op := 0x0101}, List.replicate 1024 0, by decide +kernel, by decide +kernel,
    by decide +kernel, by decide +kernel, by decide +kernel, by decide +kernel⟩,
   ⟨{provis with axg := {provis.axg with replay := [{ srcId := 0x3FFFF, own := false, lastSeq := 5, epoch := 0 }]}}, 0x0101, au [] 5,
    { srcId := 0x3FFFF, own := false, lastSeq := 5, epoch := 0 }, by decide +kernel, by decide +kernel, by decide +kernel⟩⟩

/-- States and operands that meet the hypotheses of SysCommands, clause by clause. -/
theorem witness_SysCommands :
    (∃ (s : State) (p : Pkt), s.accepts 0x0101 (lenIs 0) p = true) ∧
    (∃ (s : State) (p : Pkt), s.accepts 0x0102 (lenIs 3) p = true ∧ bit (wd p.words 0) 31 = true) ∧
    (∃ (s : State) (p : Pkt), s.accepts 0x0102 (lenIs 3) p = true ∧ bit (wd p.words 0) 31 = false) ∧
    (∃ (s : State) (p : Pkt), s.accepts 0x0113 (lenIs 0) p = true) ∧
    (∃ (s : State) (p : Pkt), s.accepts 0x0112 (lenIs 1) p = true ∧ bit (wd p.words 0) 31 = true ∧
      fwValid (s.fwSlot (fld (wd p.words 0) 0 0)) = true) ∧
    (∃ (s : State) (p : Pkt), s.accepts 0x0112 (lenIs 1) p = true ∧
      ((bit (wd p.words 0) 31 = false ∨ fwValid (s.fwSlot (fld (wd p.words 0) 0 0)) = false))) :=
  ⟨⟨run, pk [], by decide +kernel⟩,
   ⟨run, pk [0x80001234, 4000, 7], by decide +kernel, by decide +kernel⟩,
   ⟨run, pk [0x00001234, 4000, 7], by decide +kernel, by decide +kernel⟩,
   ⟨run, spi [], by decide +kernel⟩,
   ⟨{run with mram := {run.mram with fwA := fwImg}}, pk [0x80000000], by decide +kernel, by decide +kernel, by decide +kernel⟩,
   ⟨run, spi [0], by decide +kernel, by decide +kernel⟩⟩

/-- States and operands that meet the hypotheses of StopAndRestart, clause by clause. -/
theorem witness_StopAndRestart :
    (∃ (s : State) (p : Pkt), s.accepts 0x0110 (lenIs 1) p = true) ∧
    (∃ (s : State) (p : Pkt), s.accepts 0x0111 (lenIs 1) p = true) ∧
    (∃ (s : State) (us : Nat) (fails : List Bool), s.start.power = .run ∧ s.start.stop = some (.shutdown true)) ∧
    (∃ (s : State) (us : Nat) (fails : List Bool), s.start.power = .run ∧ s.start.stop = some (.shutdown false) ∧ fails.length = 316 ∧
      fails = List.replicate 316 false ∧ s.mem.retired = none) ∧
    (∃ (s : State) (m : StartMeas), s.start.power = .run ∧ s.start.stop = some .restart ∧
      (s.clk.xoPresent = false ∨ s.start.pfailN = false)) ∧
    (∃ (s : State) (m : StartMeas), s.start.power = .run ∧ s.start.stop = some .restart ∧ s.clk.xoPresent = true ∧ s.start.pfailN = true) ∧
    (∃ (s : State) (us : Nat) (fails : List Bool) (m : StartMeas), s.start.stop = none) :=
  ⟨⟨run, pk [3], by decide +kernel⟩,
   ⟨run, pk [0], by decide +kernel⟩,
   ⟨{run with start := {run.start with stop := some (.shutdown true)}}, 5, [], by decide +kernel, by decide +kernel⟩,
   ⟨{run with start := {run.start with stop := some (.shutdown false)}}, 5, List.replicate 316 false, by decide +kernel,
    by decide +kernel, by decide +kernel, by decide +kernel, by decide +kernel⟩,
   ⟨{run with start := {run.start with stop := some .restart, pfailN := false}}, {}, by decide +kernel, by decide +kernel,
    by decide +kernel⟩,
   ⟨{run with start := {run.start with stop := some .restart}}, {}, by decide +kernel, by decide +kernel, by decide +kernel,
    by decide +kernel⟩,
   ⟨run, 5, [], {}, by decide +kernel⟩⟩

/-- States and operands that meet the hypotheses of ResetAndStart, clause by clause. -/
theorem witness_ResetAndStart :
    (∃ (s : State), s.start.power ≠ .unpowered) ∧
    (∃ (s : State), s.start.power = .unpowered) ∧
    (∃ (s : State), s.start.power = .unpowered) ∧
    (∃ (s : State), s.start.power ≠ .run ∧ s.start.power ≠ .unpowered) ∧
    (∃ (s : State), s.start.power = .run) ∧
    (∃ (s : State), (s.start.power = .held ∨ s.start.power = .waiting)) ∧
    (∃ (s : State) (m : StartMeas), (s.start.power = .held ∨ s.start.power = .waiting) ∧ s.start.podReleased = true) ∧
    (∃ (s : State) (m : StartMeas), s.start.power = .parked ∧ s.start.resetN = true) ∧
    (∃ (s : State) (m : StartMeas) (cause : Nat), s.preferred = none ∧ s.tamper.latched = false ∧
      (({ s.mram with runH := (s.mram.runH + 1) % 2 ^ 32 } : Mram)).quickOk = true) :=
  ⟨⟨run, by decide +kernel⟩,
   ⟨{run with start := {run.start with power := .unpowered}}, by decide +kernel⟩,
   ⟨{run with start := {run.start with power := .unpowered}}, by decide +kernel⟩,
   ⟨{run with start := {run.start with power := .stopped}}, by decide +kernel, by decide +kernel⟩,
   ⟨run, by decide +kernel⟩,
   ⟨{run with start := {run.start with power := .held}}, by decide +kernel⟩,
   ⟨{run with start := {run.start with power := .held, podReleased := true}}, {}, by decide +kernel, by decide +kernel⟩,
   ⟨{run with start := {run.start with power := .parked}}, {}, by decide +kernel, by decide +kernel⟩,
   ⟨quick, {}, 2, by decide +kernel, by decide +kernel, by decide +kernel⟩⟩

/-- States and operands that meet the hypotheses of LastGasp, clause by clause. -/
theorem witness_LastGasp :
    (∃ (s : State), s.start.power = .run ∧ s.start.mpi = .down) ∧
    (∃ (s : State), s.start.power = .run ∧ s.start.mpi ≠ .down) ∧
    (∃ (s : State) (rail : Nat), rail < 8 ∧ s.start.power = .run ∧ s.start.mpi = .down) ∧
    (∃ (s : State) (rail : Nat), rail < 8 ∧ s.start.power = .run ∧ s.start.mpi ≠ .down) ∧
    (∃ (s : State), s.start.power ≠ .run) ∧
    (∃ (s : State) (rail : Nat), s.start.power ≠ .run) :=
  ⟨⟨{run with start := {run.start with mpi := .down}}, by decide +kernel, by decide +kernel⟩,
   ⟨run, by decide +kernel, by decide +kernel⟩,
   ⟨{run with start := {run.start with mpi := .down}}, 0, by decide +kernel, by decide +kernel, by decide +kernel⟩,
   ⟨run, 7, by decide +kernel, by decide +kernel, by decide +kernel⟩,
   ⟨State.reset, by decide +kernel⟩,
   ⟨State.reset, 3, by decide +kernel⟩⟩

/-- States and operands that meet the hypotheses of RootAndPlanes, clause by clause. -/
theorem witness_RootAndPlanes :
    (∃ (s : State), s.start.power = .run ∧ s.clk.rootLock = true) ∧
    (∃ (s : State) (ago : Nat), s.start.power = .run ∧ s.clk.rootLock = false ∧ 12500000 ≤ ago ∧ s.refs.st = .fault ∧ s.clk.tpUp = true) ∧
    (∃ (s : State) (ago : Nat), s.start.power = .run ∧ s.clk.rootLock = false ∧ 12500000 ≤ ago ∧ (s.refs.st ≠ .fault ∨ s.clk.tpUp = false)) ∧
    (∃ (s : State), s.start.power = .run ∧ s.clk.tpUp = true) ∧
    (∃ (s : State), s.start.power = .run ∧ s.clk.tpUp = false ∧ s.clk.dpUp = true ∧ s.axg.jobs.all (fun j => !j.work.inMailbox) = true) ∧
    (∃ (s : State) (ago : Nat), s.start.power ≠ .run) :=
  ⟨⟨run, by decide +kernel, by decide +kernel⟩,
   ⟨{run with clk := {run.clk with xoPresent := false, rootLock := false, xoLoss := true}, refs := {run.refs with st := .fault, histValid := true, faultSince := 5000000000}, alarms := {run.alarms with xo := true}},
    12500000, by decide +kernel, by decide +kernel, by decide +kernel, by decide +kernel, by decide +kernel⟩,
   ⟨{run with clk := {run.clk with xoPresent := false, rootLock := false, xoLoss := true}, alarms := {run.alarms with xo := true}},
    12500000, by decide +kernel, by decide +kernel, by decide +kernel, by decide +kernel⟩,
   ⟨run, by decide +kernel, by decide +kernel⟩,
   ⟨{run with clk := {run.clk with tpUp := false}, refs := {run.refs with st := .fault}}, by decide +kernel, by decide +kernel,
    by decide +kernel, by decide +kernel⟩,
   ⟨State.reset, 5, by decide +kernel⟩⟩

/-- States and operands that meet the hypotheses of HeldTimeEnds, clause by clause. -/
theorem witness_HeldTimeEnds :
    (∃ (s : State), s.start.power = .run ∧ s.clk.tpUp = true) :=
  ⟨run, by decide +kernel, by decide +kernel⟩

/-- States and operands that meet the hypotheses of RestartAndPcie, clause by clause. -/
theorem witness_RestartAndPcie :
    (∃ (s : State), s.start.power = .run ∧ s.start.watchdog = true ∧ (s.start.mpi = .up ∨ s.start.mpi = .hung) ∧
      s.start.scriptEnded = false ∧ s.start.done = false) ∧
    (∃ (s : State) (m : StartMeas), s.start.power = .run ∧ s.start.stop = some .mgmtRestart) ∧
    (∃ (s : State) (us : Nat), s.start.power = .run ∧ s.start.mpi = .down ∧ s.start.bootFails < 2 ∧ s.start.done = true ∧
      s.cru.flushDeferred = false) ∧
    (∃ (s : State) (us : Nat), s.start.power = .run ∧ s.start.mpi = .down ∧ 2 ≤ s.start.bootFails ∧
      ((s.start.fallback = true ∨ fwValid (s.fwSlot (1 - s.start.slot)) = false))) ∧
    (∃ (s : State) (us : Nat), (s.start.mpi ≠ .down ∨ s.start.power ≠ .run)) ∧
    (∃ (s : State), (s.start.watchdog = false ∨ s.start.power ≠ .run)) ∧
    (∃ (s : State), s.start.power = .run ∧ s.start.perstN = true ∧ s.start.pcieUp = false ∧
      (s.start.mpi = .up ∨ s.start.mpi = .recovery) ∧ s.axg.rplWait = [] ∧ s.axg.cmdPi = s.axg.cmdCi ∧ s.axg.cmdPi < 2 ^ s.axg.cringSize) ∧
    (∃ (s : State) (ws : List Word),
      (s.start.power ≠ .run ∨ s.start.perstN = false ∨ s.start.pcieUp = true ∨ (s.start.mpi ≠ .up ∧ s.start.mpi ≠ .recovery))) :=
  ⟨⟨{run with start := {run.start with done := false, scriptEnded := false}}, by decide +kernel, by decide +kernel, by decide +kernel,
    by decide +kernel, by decide +kernel⟩,
   ⟨{run with start := {run.start with stop := some .mgmtRestart}}, {}, by decide +kernel, by decide +kernel⟩,
   ⟨{run with start := {run.start with mpi := .down}}, 8, by decide +kernel, by decide +kernel, by decide +kernel, by decide +kernel,
    by decide +kernel⟩,
   ⟨{run with start := {run.start with mpi := .down, bootFails := 2}}, 8, by decide +kernel, by decide +kernel, by decide +kernel,
    by decide +kernel⟩,
   ⟨run, 8, by decide +kernel⟩,
   ⟨State.reset, by decide +kernel⟩,
   ⟨{run with start := {run.start with pcieUp := false}}, by decide +kernel, by decide +kernel, by decide +kernel, by decide +kernel,
    by decide +kernel, by decide +kernel, by decide +kernel⟩,
   ⟨run, [], by decide +kernel⟩⟩

/-- States and operands that meet the hypotheses of TamperAndTap, clause by clause. -/
theorem witness_TamperAndTap :
    (∃ (s : State) (c : Nat), c < 2 ∧ s.start.power = .run ∧ s.tamper.vbatLost = false ∧
      (if c = 0 then s.tamper.armed0 else s.tamper.armed1) = true) ∧
    (∃ (s : State) (c : Nat), (c = 3 ∨ c = 4) ∧ s.start.power = .run) ∧
    (∃ (s : State), s.start.power ≠ .run ∧ s.tamper.vbatLost = true) ∧
    (∃ (s : State) (c : Nat), c < 2 ∧ s.tamper.vbatLost = true) ∧
    (∃ (s : State), s.tamper.vbatLost = false) ∧
    (∃ (s : State) (pads : List BPin), s.start.power ≠ .unpowered) ∧
    (∃ (s : State) (i : Jtag) (pads : List BPin), s.start.power ≠ .unpowered ∧
      (i = .extest ∨ i = .clamp ∨ i = .highz ∨ i = .extestPulse ∨ i = .extestTrain) ∧ s.start.resetN = true) ∧
    (∃ (s : State) (i : Jtag) (pads : List BPin), s.start.power ≠ .unpowered ∧
      (i = .extest ∨ i = .clamp ∨ i = .highz ∨ i = .extestPulse ∨ i = .extestTrain) ∧ s.start.resetN = false) ∧
    (∃ (s : State) (i : Jtag) (pads : List BPin), s.start.power = .unpowered) :=
  ⟨⟨run, 0, by decide +kernel, by decide +kernel, by decide +kernel, by decide +kernel⟩,
   ⟨run, 3, by decide +kernel, by decide +kernel⟩,
   ⟨{State.reset with tamper := {State.reset.tamper with vbatLost := true}}, by decide +kernel, by decide +kernel⟩,
   ⟨{run with tamper := {run.tamper with vbatLost := true}}, 1, by decide +kernel, by decide +kernel⟩,
   ⟨run, by decide +kernel⟩,
   ⟨run, [], by decide +kernel⟩,
   ⟨run, .extest, [], by decide +kernel, by decide +kernel, by decide +kernel⟩,
   ⟨{run with start := {run.start with resetN := false}}, .highz, [], by decide +kernel, by decide +kernel, by decide +kernel⟩,
   ⟨{run with start := {run.start with power := .unpowered}}, .sample, [], by decide +kernel⟩⟩

/-- States and operands that meet the hypotheses of SecurityCommands, clause by clause. -/
theorem witness_SecurityCommands :
    (∃ (s : State) (p : Pkt), s.accepts 0x0F02 (lenIs 9) p = true ∧ bit (wd p.words 0) 0 = false ∧ keyOf ((p.words.drop 1).take 8) ≠ 0 ∧
      s.sec.wipeFail = false ∧ s.mram.hostKey ≠ some (keyOf ((p.words.drop 1).take 8))) ∧
    (∃ (s : State) (p : Pkt), s.accepts 0x0F02 (lenIs 9) p = true ∧ s.sec.wipeFail = true) ∧
    (∃ (s : State) (p : Pkt), s.accepts 0x0F00 lenLcSet p = true ∧ fld (wd p.words 0) 31 16 = 0x4C43 ∧ s.fused.secureDefect = false ∧
      s.sec.wipeFail = false ∧ fld (wd p.words 0) 1 0 = 1) ∧
    (∃ (s : State) (p : Pkt), s.accepts 0x0F00 lenLcSet p = true ∧ fld (wd p.words 0) 31 16 = 0x4C43 ∧ fld (wd p.words 0) 1 0 = 3) ∧
    (∃ (s : State) (p : Pkt), s.accepts 0x0F00 lenLcSet p = true ∧ fld (wd p.words 0) 31 16 ≠ 0x4C43) ∧
    (∃ (s : State) (p : Pkt), s.accepts 0x0F05 (lenIs 0) p = true) ∧
    (∃ (s : State) (p : Pkt), s.accepts 0x0F01 (lenIs 0) p = true) ∧
    (∃ (s : State) (p : Pkt), s.accepts 0x0F04 (lenIs 0) p = true) :=
  ⟨⟨run, pk [0,0,0,0,0,0,0,0,5], by decide +kernel, by decide +kernel, by decide +kernel, by decide +kernel, by decide +kernel⟩,
   ⟨{run with sec := {run.sec with wipeFail := true}}, spi [0,0,0,0,0,0,0,0,5], by decide +kernel, by decide +kernel⟩,
   ⟨run, pk ([0x4C430001] ++ [0,0,0,0,0,0,0,5] ++ [0,0,0,0,0,0,0,7]), by decide +kernel, by decide +kernel, by decide +kernel,
    by decide +kernel, by decide +kernel⟩,
   ⟨run, pk [0x4C430003], by decide +kernel, by decide +kernel, by decide +kernel⟩,
   ⟨run, pk [0x4C440003], by decide +kernel, by decide +kernel⟩,
   ⟨run, pk [], by decide +kernel⟩,
   ⟨run, spi [], by decide +kernel⟩,
   ⟨run, spi [], by decide +kernel⟩⟩

/-- States and operands that meet the hypotheses of SegmentsAndRelay, clause by clause. -/
theorem witness_SegmentsAndRelay :
    (∃ (s : State) (op : Nat) (p : Pkt) (o : Partial), p.more = true ∧ s.takes p.via = true ∧ s.room op p = true ∧ s.relays p = false ∧
      (s.axg.partials.find? (fun x => decide (x.srcId = p.srcId))) = some o ∧ Partial.continues op p o = true) ∧
    (∃ (s : State) (op : Nat) (p : Pkt) (o : Partial), p.more = true ∧ s.takes p.via = true ∧ s.room op p = true ∧ s.relays p = false ∧
      (s.axg.partials.find? (fun x => decide (x.srcId = p.srcId))) = some o ∧ Partial.continues op p o = false) ∧
    (∃ (s : State) (op : Nat) (p : Pkt), p.more = true ∧ s.takes p.via = true ∧ s.room op p = true ∧ s.relays p = false ∧
      (s.axg.partials.find? (fun x => decide (x.srcId = p.srcId))) = none) ∧
    (∃ (s : State) (op : Nat) (p : Pkt), p.more = false) ∧
    (∃ (s : State) (op : Nat) (p : Pkt) (k : Nat) (w : Worker), s.relays p = true ∧ s.takes p.via = true ∧ s.room op p = true ∧
      s.isMi = true ∧ s.axg.relays.find? (Relay.continues op p) = none ∧ s.axg.tails.find? (RelayTail.continues op p) = none ∧
      s.inRange p.destId = true ∧ s.childFor p.destId = some (k, w) ∧ w.pres ≠ .absent ∧ p.srcId ≠ 0x3FFFF ∧ s.pairGateOpen = true) ∧
    (∃ (s : State) (op : Nat) (p : Pkt), s.relays p = true ∧ s.takes p.via = true ∧ s.room op p = true ∧
      s.axg.relays.find? (Relay.continues op p) = none ∧ s.axg.tails.find? (RelayTail.continues op p) = none ∧ p.more = false ∧
      s.isMi = false) ∧
    (∃ (s : State) (op : Nat) (p : Pkt), s.relays p = true ∧ s.takes p.via = true ∧ s.room op p = true ∧
      s.axg.relays.find? (Relay.continues op p) = none ∧ s.axg.tails.find? (RelayTail.continues op p) = none ∧ p.more = false ∧
      s.isMi = true ∧ (s.inRange p.destId = false ∨ s.childFor p.destId = none)) ∧
    (∃ (s : State) (op : Nat) (p : Pkt) (k : Nat) (w : Worker), s.relays p = true ∧ s.takes p.via = true ∧ s.room op p = true ∧
      s.axg.relays.find? (Relay.continues op p) = none ∧ s.axg.tails.find? (RelayTail.continues op p) = none ∧ p.more = false ∧
      s.isMi = true ∧ s.inRange p.destId = true ∧ s.childFor p.destId = some (k, w) ∧ w.pres = .absent) ∧
    (∃ (s : State) (op : Nat) (p : Pkt) (k : Nat) (w : Worker), s.relays p = true ∧ s.takes p.via = true ∧ s.room op p = true ∧
      s.axg.relays.find? (Relay.continues op p) = none ∧ s.axg.tails.find? (RelayTail.continues op p) = none ∧ p.more = false ∧
      s.isMi = true ∧ s.inRange p.destId = true ∧ s.childFor p.destId = some (k, w) ∧ w.pres ≠ .absent ∧ p.srcId = 0x3FFFF) ∧
    (∃ (s : State) (op : Nat) (p : Pkt) (st d : Nat), s.relays p = true ∧ s.takes p.via = true ∧ s.room op p = true ∧
      s.axg.relays.find? (Relay.continues op p) = none ∧ s.axg.tails.find? (RelayTail.continues op p) = none ∧ p.more = true ∧
      s.relayCheck p = .inl (st, d)) ∧
    (∃ (s : State) (op : Nat) (p : Pkt) (x : RelayTail) (st d : Nat), s.relays p = true ∧ s.takes p.via = true ∧ s.room op p = true ∧
      s.axg.relays.find? (Relay.continues op p) = none ∧ s.axg.tails.find? (RelayTail.continues op p) = some x ∧ x.owed = some (st, d)) ∧
    (∃ (s : State) (op : Nat) (p : Pkt), s.relays p = false) :=
  ⟨⟨{run with axg := {run.axg with partials := [{srcId:=0x3FFFF, op:=0x0101, tag := 0, destId := 0x3FFFF, words := [7], allAuth := false, fail := none, epoch := 0, key := 0}]}},
    0x0101, {(pk [1,2]) with more := true},
    {srcId:=0x3FFFF, op:=0x0101, tag := 0, destId := 0x3FFFF, words := [7], allAuth := false, fail := none, epoch := 0, key := 0},
    by decide +kernel, by decide +kernel, by decide +kernel, by decide +kernel, by decide +kernel, by decide +kernel⟩,
   ⟨{run with axg := {run.axg with partials := [{srcId:=0x3FFFF, op:=0x0102, tag := 0, destId := 0x3FFFF, words := [7], allAuth := false, fail := none, epoch := 0, key := 0}]}},
    0x0101, {(pk [1,2]) with more := true},
    {srcId:=0x3FFFF, op:=0x0102, tag := 0, destId := 0x3FFFF, words := [7], allAuth := false, fail := none, epoch := 0, key := 0},
    by decide +kernel, by decide +kernel, by decide +kernel, by decide +kernel, by decide +kernel, by decide +kernel⟩,
   ⟨run, 0x0101, {(pk [1,2]) with more := true}, by decide +kernel, by decide +kernel, by decide +kernel, by decide +kernel,
    by decide +kernel⟩,
   ⟨run, 0x0101, pk [], by decide +kernel⟩,
   ⟨mgr .present, 0x0101, {(pk []) with relay := true, destId := 20, srcId := 5}, 0, kid .present, by decide +kernel, by decide +kernel,
    by decide +kernel, by decide +kernel, by decide +kernel, by decide +kernel, by decide +kernel, by decide +kernel, by decide +kernel,
    by decide +kernel, by decide +kernel⟩,
   ⟨{(mgr .present) with fused := {mi := false}}, 0x0101, {(pk []) with relay := true, destId := 20, srcId := 5}, by decide +kernel,
    by decide +kernel, by decide +kernel, by decide +kernel, by decide +kernel, by decide +kernel, by decide +kernel⟩,
   ⟨mgr .present, 0x0101, {(pk []) with relay := true, destId := 95, srcId := 5}, by decide +kernel, by decide +kernel, by decide +kernel,
    by decide +kernel, by decide +kernel, by decide +kernel, by decide +kernel, by decide +kernel⟩,
   ⟨mgr .absent, 0x0101, {(pk []) with relay := true, destId := 20, srcId := 5}, 0, kid .absent, by decide +kernel, by decide +kernel,
    by decide +kernel, by decide +kernel, by decide +kernel, by decide +kernel, by decide +kernel, by decide +kernel, by decide +kernel,
    by decide +kernel⟩,
   ⟨mgr .present, 0x0101, {(pk []) with relay := true, destId := 20, srcId := 0x3FFFF}, 0, kid .present, by decide +kernel,
    by decide +kernel, by decide +kernel, by decide +kernel, by decide +kernel, by decide +kernel, by decide +kernel, by decide +kernel,
    by decide +kernel, by decide +kernel, by decide +kernel⟩,
   ⟨mgr .present, 0x0101, {(pk []) with destId := 95, more := true}, 0x40, 1, by decide +kernel, by decide +kernel, by decide +kernel,
    by decide +kernel, by decide +kernel, by decide +kernel, by decide +kernel⟩,
   ⟨{(mgr .present) with axg := {run.axg with tails := [{srcId := 0x3FFFF, op := 0x0101, tag := 0, destId := 77, owed := some (0x40,1)}]}},
    0x0101, {(pk []) with destId := 77}, {srcId := 0x3FFFF, op := 0x0101, tag := 0, destId := 77, owed := some (0x40,1)}, 0x40, 1,
    by decide +kernel, by decide +kernel, by decide +kernel, by decide +kernel, by decide +kernel, by decide +kernel⟩,
   ⟨run, 0x0101, pk [], by decide +kernel⟩⟩

/-- States and operands that meet the hypotheses of DoorbellsAndSpi, clause by clause. -/
theorem witness_DoorbellsAndSpi :
    (∃ (s : State) (pi : Nat) (ws : List Word) (op : Nat) (p : Pkt), s.start.pcieUp = true ∧ s.start.power = .run ∧
      (s.start.mpi = .up ∨ s.start.mpi = .recovery) ∧ s.axg.cmdRing = [] ∧ s.slotsTo pi = 1 ∧ ws.length = 16 ∧ wd ws 0 ≠ 0 ∧
      State.pktWords ws ≤ 16 ∧ parsePacket .pcie (ws.take (State.pktWords ws)) = .cmd op p) ∧
    (∃ (s : State) (pi : Nat) (ws : List Word), s.start.pcieUp = true ∧ s.start.power = .run ∧ s.start.mpi = .up ∧ s.axg.cmdRing = [] ∧
      s.slotsTo pi = 1 ∧ ws.length = 16 ∧ fld (wd ws 0) 31 24 ≠ 0xA7 ∧ wd ws 0 ≠ 0) ∧
    (∃ (s : State) (v : Nat), s.start.pcieUp = true ∧ s.axg.rplWait = []) ∧
    (∃ (s : State) (v : Nat), s.start.pcieUp = true) ∧
    (∃ (s : State) (v : Nat) (ws : List Word), s.start.pcieUp = false) ∧
    (∃ (s : State), s.spiAnswers = true) ∧
    (∃ (s : State) (pkt : List Word) (t : List (List Word)), s.spiAnswers = true ∧ s.axg.spiQ = pkt :: t) ∧
    (∃ (s : State) (d : Bool), s.spiAnswers = true ∧ s.axg.spiQ = []) ∧
    (∃ (s : State) (ws : List Word), s.spiAnswers = true ∧ s.cmdSpace = false) ∧
    (∃ (s : State) (ws : List Word) (op : Nat) (p : Pkt), s.spiAnswers = true ∧ s.cmdSpace = true ∧ s.axg.spiBuf = [] ∧
      s.takes .spi = true ∧ parsePacket .spi (ws.take (max 4 (State.pktWords ws))) = .cmd op p ∧ s.room op p = true) ∧
    (∃ (s : State) (ws : List Word) (d : Bool), s.spiAnswers = false) :=
  ⟨⟨run, 1, (0xA7100101 :: [0,0x3FFFF,0x3FFFF] ++ List.replicate 12 0), 0x0101, {}, by decide +kernel, by decide +kernel,
    by decide +kernel, by decide +kernel, by decide +kernel, by decide +kernel, by decide +kernel, by decide +kernel, by decide +kernel⟩,
   ⟨run, 1, List.replicate 16 5, by decide +kernel, by decide +kernel, by decide +kernel, by decide +kernel, by decide +kernel,
    by decide +kernel, by decide +kernel, by decide +kernel⟩,
   ⟨run, 77, by decide +kernel, by decide +kernel⟩,
   ⟨run, 77, by decide +kernel⟩,
   ⟨State.reset, 5, [], by decide +kernel⟩,
   ⟨run, by decide +kernel⟩,
   ⟨{run with axg := {run.axg with spiQ := [[1,2],[3]]}}, [1,2], [[3]], by decide +kernel, by decide +kernel⟩,
   ⟨run, true, by decide +kernel, by decide +kernel⟩,
   ⟨{run with axg := {run.axg with spiBuf := List.replicate 64 (List.replicate 20 1)}}, [5], by decide +kernel, by decide +kernel⟩,
   ⟨run, [0xA7100101,0,0x3FFFF,0x3FFFF], 0x0101, {via := .spi}, by decide +kernel, by decide +kernel, by decide +kernel,
    by decide +kernel, by decide +kernel, by decide +kernel⟩,
   ⟨State.reset, [], true, by decide +kernel⟩⟩

/-- States and operands that meet the hypotheses of HostRegisters, clause by clause. -/
theorem witness_HostRegisters :
    (∃ (s : State) (v : Word), s.start.pcieUp = true) ∧
    (∃ (s : State) (v : Word), s.start.pcieUp = true) ∧
    (∃ (s : State) (v : Word) (l : List RegOp), s.buf.regWait = [] ∧ s.buf.iqReg = .planeW1C v :: l) ∧
    (∃ (s : State) (r : HostRegs) (l : List RegOp), s.buf.regWait = [] ∧ s.buf.iqReg = .copy r :: l) ∧
    (∃ (s : State), s.buf.iqReg = [] ∧ s.buf.regWait = []) ∧
    (∃ (s : State), s.start.pcieUp = true) ∧
    (∃ (s : State) (v : Word), s.start.pcieUp = true) ∧
    (∃ (s : State) (v : Word), s.start.pcieUp = true ∧ clamp 6 16 (fld v 4 0) ≠ s.axg.cringSize) ∧
    (∃ (s : State) (vec : Nat), s.start.pcieUp = true ∧ vec < 64 ∧ s.hst.msixPend.testBit vec = true) ∧
    (∃ (s : State) (off : Nat) (v : Word), s.start.pcieUp = true ∧ 0xB0 ≤ off ∧ (off < 0x30000 ∨ 0x30400 ≤ off ∨ off % 4 ≠ 0)) ∧
    (∃ (s : State) (off : Nat) (v : Word), s.start.pcieUp = false) :=
  ⟨⟨run, 0xFFFFFFFF, by decide +kernel⟩,
   ⟨run, 0x20000000, by decide +kernel⟩,
   ⟨{run with clk := {run.clk with tpFault := true}, buf := {run.buf with iqReg := [.planeW1C 0x20000000, .planeW1C 3]}}, 0x20000000,
    [.planeW1C 3], by decide +kernel, by decide +kernel⟩,
   ⟨{run with buf := {run.buf with iqReg := [.copy run.hostRegs]}}, run.hostRegs, [], by decide +kernel, by decide +kernel⟩,
   ⟨run, by decide +kernel, by decide +kernel⟩,
   ⟨run, by decide +kernel⟩,
   ⟨run, 0xFFFFFFFF, by decide +kernel⟩,
   ⟨run, 8, by decide +kernel, by decide +kernel⟩,
   ⟨{run with hst := {run.hst with msixPend := 0x8000000000000001}}, 63, by decide +kernel, by decide +kernel, by decide +kernel⟩,
   ⟨run, 0xB0, 5, by decide +kernel, by decide +kernel, by decide +kernel⟩,
   ⟨State.reset, 0x60, 5, by decide +kernel⟩⟩

/-- States and operands that meet the hypotheses of ShosibinPort, clause by clause. -/
theorem witness_ShosibinPort :
    (∃ (s : State) (n : Nat), n < 8 ∧ s.start.resetN = true ∧ s.clk.tpUp = true ∧ Tab.sorted s.hst.sbpHold = true) ∧
    (∃ (s : State), s.start.resetN = true ∧ s.clk.tpUp = true) ∧
    (∃ (s : State), s.start.resetN = true ∧ s.clk.tpUp = true) ∧
    (∃ (s : State) (w : Nat), w < 64 ∧ s.start.resetN = true ∧ s.clk.tpUp = false) ∧
    (∃ (s : State) (w : Nat), s.start.resetN = false) ∧
    (∃ (s : State), s.clk.tpUp = true ∧ s.hst.snapPend = none) ∧
    (∃ (s : State) (ws : List Word) (u c : Bool), s.clk.tpUp = true ∧ s.hst.snapPend = some (ws, u, c)) ∧
    (∃ (s : State) (ago f8 : Nat), s.clk.tpUp = true ∧ s.hst.snapLast = none) ∧
    (∃ (s : State) (k : Nat), s.start.pcieUp = true ∧ s.cnt.user = true ∧ k < 208 ∧ s.buf.iqReg = [] ∧ s.buf.regWait = []) ∧
    (∃ (s : State) (k w : Nat), s.start.pcieUp = true ∧ (s.cnt.user = false ∨ 208 ≤ k)) :=
  ⟨⟨run, 0, by decide +kernel, by decide +kernel, by decide +kernel, by decide +kernel⟩,
   ⟨run, by decide +kernel, by decide +kernel⟩,
   ⟨run, by decide +kernel, by decide +kernel⟩,
   ⟨{run with clk := {run.clk with tpUp := false}}, 63, by decide +kernel, by decide +kernel, by decide +kernel⟩,
   ⟨{run with start := {run.start with resetN := false}}, 63, by decide +kernel⟩,
   ⟨{run with hst := {run.hst with snapMissed := 3, snapOverrun := 4}}, by decide +kernel, by decide +kernel⟩,
   ⟨{run with hst := {run.hst with snapMissed := 3, snapOverrun := 4, snapPend := some ([1,2], true, false)}}, [1,2], true, false,
    by decide +kernel, by decide +kernel⟩,
   ⟨run, 0, 0, by decide +kernel, by decide +kernel⟩,
   ⟨{run with cnt := {run.cnt with user := true}}, 207, by decide +kernel, by decide +kernel, by decide +kernel, by decide +kernel,
    by decide +kernel⟩,
   ⟨run, 3, 3, by decide +kernel, by decide +kernel⟩⟩

/-- States and operands that meet the hypotheses of HostRings, clause by clause. -/
theorem witness_HostRings :
    (∃ (s : State) (addr : Nat) (x : PuntItem) (f : Frame), s.start.pcieUp = true ∧ s.hst.puntCi ≠ s.hst.puntPi ∧
      s.puntHead 2 (fun _ => true) = some (x, f) ∧ s.hst.puntVecEn = false) ∧
    (∃ (s : State) (addr : Nat), (s.start.pcieUp = false ∨ s.hst.puntCi = s.hst.puntPi ∨ s.puntHead 2 (fun _ => true) = none)) ∧
    (∃ (s : State) (ws : List Word) (bs : List Byte), s.start.pcieUp = true ∧ s.hst.insFetch ≠ s.hst.insPi ∧ s.buf.iqHost.length < 4096 ∧
      bit (wd ws 2) 16 = true) ∧
    (∃ (s : State) (ws : List Word) (bs : List Byte), s.start.pcieUp = true ∧ s.hst.insFetch ≠ s.hst.insPi ∧ s.buf.iqHost.length < 4096 ∧
      bit (wd ws 2) 16 = false ∧ (s.port (min 103 (fld (wd ws 2) 30 24))).maxFrame < fld (wd ws 2) 13 0 + 4) ∧
    (∃ (s : State) (d : InsDesc) (l : List InsDesc), s.start.pcieUp = true ∧ s.hst.insDescs = d :: l ∧ d.ready = true ∧ d.stamp = none ∧
      s.hst.insVecEn = false) ∧
    (∃ (s : State), (s.hst.insDescs = [] ∨ s.start.pcieUp = false)) :=
  ⟨⟨punt1, 0x1000, ⟨7, .host 2 0, false⟩, {(frm 7 (List.replicate 64 5)) with ended := true}, by decide +kernel, by decide +kernel,
    by decide +kernel, by decide +kernel⟩,
   ⟨run, 5, by decide +kernel⟩,
   ⟨{run with hst := {run.hst with insPi := 3}}, [0,0,0x00010040], List.replicate 64 1, by decide +kernel, by decide +kernel,
    by decide +kernel, by decide +kernel⟩,
   ⟨{run with hst := {run.hst with insPi := 3}}, [0,0,0x00001000], [1], by decide +kernel, by decide +kernel, by decide +kernel,
    by decide +kernel, by decide +kernel⟩,
   ⟨{run with hst := {run.hst with insDescs := [{idx:=4,stampReq:=false,ready:=true}]}}, {idx:=4,stampReq:=false,ready:=true}, [],
    by decide +kernel, by decide +kernel, by decide +kernel, by decide +kernel, by decide +kernel⟩,
   ⟨run, by decide +kernel⟩⟩

/-- States and operands that meet the hypotheses of MemoryCommands, clause by clause. -/
theorem witness_MemoryCommands :
    (∃ (s : State) (p : Pkt), s.accepts 0x1001 (lenAtLeast 1) p = true ∧ s.memOk = true) ∧
    (∃ (s : State) (p : Pkt), s.accepts 0x1000 (lenIs 3) p = true ∧ bit (wd p.words 0) 0 = false) ∧
    (∃ (s : State) (p : Pkt), s.accepts 0x1000 (lenIs 3) p = true ∧ bit (wd p.words 0) 0 = true) ∧
    (∃ (s : State) (p : Pkt), s.accepts 0x1002 (lenAtLeast 2) p = true ∧ 2 < p.words.length) ∧
    (∃ (s : State) (p : Pkt), s.accepts 0x1002 (lenAtLeast 2) p = true ∧ p.words.length = 2) ∧
    (∃ (s : State) (p : Pkt), s.accepts 0x1003 (lenIs 3) p = true ∧ bit (wd p.words 0) 0 = false ∧ s.mem.bg = none ∧
      s.mem.retired = none ∧ (min (fld (wd p.words 2) 9 0) (480 - (min 479 (fld (wd p.words 1) 8 0)))) ≠ 0) ∧
    (∃ (s : State) (p : Pkt), s.accepts 0x1003 (lenIs 3) p = true ∧ bit (wd p.words 0) 0 = true) ∧
    (∃ (s : State) (off : Nat) (bs : List Byte), s.memOk = true ∧ s.start.power = .run ∧ s.start.pcieUp = true ∧ off + bs.length ≤ 0x200000) ∧
    (∃ (s : State) (off : Nat) (bs : List Byte), (s.start.power ≠ .run ∨ s.start.pcieUp = false ∨ 0x200000 < off + bs.length)) :=
  ⟨⟨run, spi [8, 0x01020304, 5], by decide +kernel, by decide +kernel⟩,
   ⟨{run with mem := {run.mem with bytes := [(5,8)]}}, spi [0,4,2], by decide +kernel, by decide +kernel⟩,
   ⟨run, spi [1,0xFFFFFFFF,0xFFFFFFFF], by decide +kernel, by decide +kernel⟩,
   ⟨run, pk [0,0xFFC,5,6], by decide +kernel, by decide +kernel⟩,
   ⟨run, pk [1,0x17FFFC], by decide +kernel, by decide +kernel⟩,
   ⟨run, pk [0,3,4], by decide +kernel, by decide +kernel, by decide +kernel, by decide +kernel, by decide +kernel⟩,
   ⟨run, pk [1,3,4], by decide +kernel, by decide +kernel⟩,
   ⟨run, 0x1DFFFE, [1,2,3,4], by decide +kernel, by decide +kernel, by decide +kernel, by decide +kernel⟩,
   ⟨run, 0x1FFFFF, [1,2], by decide +kernel⟩⟩

/-- States and operands that meet the hypotheses of MemoryEvents, clause by clause. -/
theorem witness_MemoryEvents :
    (∃ (s : State) (b : BgTest), s.mem.bg = some b ∧ b.step = some .copy) ∧
    (∃ (s : State) (b : BgTest), s.mem.bg = some b ∧ b.step = some .switch) ∧
    (∃ (s : State) (b : BgTest), s.mem.bg = some b ∧ b.step = some .test) ∧
    (∃ (s : State) (b : BgTest), s.mem.bg = some b ∧ b.step = some .restore) ∧
    (∃ (s : State) (b : BgTest), s.mem.bg = some b ∧ b.step = some .release ∧ b.stop = false ∧ b.owner.isSome = true ∧
      b.tested + 1 < b.count) ∧
    (∃ (s : State) (n : Nat), s.memOk = true ∧ s.mem.borrowOk = true) ∧
    (∃ (s : State) (b : BgTest) (n : Nat), s.mem.bg = some b ∧ b.step = some .test ∧ 0 < n) ∧
    (∃ (s : State) (n : Nat), s.mem.bg = none) ∧
    (∃ (s : State), s.mem.writes = []) ∧
    (∃ (s : State) (x : JobFor) (l : List JobFor), s.mem.writes = x :: l) :=
  ⟨⟨{run with mem := {run.mem with bg := some {first:=3,count:=5,owner:=some cx,step:=some .copy}}},
    {first:=3,count:=5,owner:=some cx,step:=some .copy}, by decide +kernel, by decide +kernel⟩,
   ⟨{run with mem := {run.mem with bg := some {first:=3,count:=5,owner:=some cx,step:=some .switch}}},
    {first:=3,count:=5,owner:=some cx,step:=some .switch}, by decide +kernel, by decide +kernel⟩,
   ⟨{run with mem := {run.mem with bg := some {first:=3,count:=5,owner:=some cx,step:=some .test}}},
    {first:=3,count:=5,owner:=some cx,step:=some .test}, by decide +kernel, by decide +kernel⟩,
   ⟨{run with mem := {run.mem with bg := some {first:=3,count:=5,owner:=some cx,step:=some .restore}}},
    {first:=3,count:=5,owner:=some cx,step:=some .restore}, by decide +kernel, by decide +kernel⟩,
   ⟨{run with mem := {run.mem with bg := some {first:=3,count:=5,owner:=some cx,step:=some .release}}},
    {first:=3,count:=5,owner:=some cx,step:=some .release}, by decide +kernel, by decide +kernel, by decide +kernel, by decide +kernel,
    by decide +kernel⟩,
   ⟨{run with mem := {run.mem with bytes := [(4096*3+5, 9),(4096*4,7)], bg := some {first:=3,count:=5,owner:=some cx,step:=some .copy}}},
    0, by decide +kernel, by decide +kernel⟩,
   ⟨{run with mem := {run.mem with bg := some {first:=3,count:=5,owner:=some cx,step:=some .test}}},
    {first:=3,count:=5,owner:=some cx,step:=some .test}, 2, by decide +kernel, by decide +kernel, by decide +kernel⟩,
   ⟨run, 0, by decide +kernel⟩,
   ⟨run, by decide +kernel⟩,
   ⟨{run with mem := {run.mem with writes := [.flush, .calCommit true]}}, .flush, [.calCommit true], by decide +kernel⟩⟩

/-- States and operands that meet the hypotheses of LedgerCommands, clause by clause. -/
theorem witness_LedgerCommands :
    (∃ (s : State) (p : Pkt), s.accepts 0x0A00 (lenIs 3) p = true ∧ bit (wd p.words 0) 31 = true) ∧
    (∃ (s : State) (p : Pkt), s.accepts 0x0A00 (lenIs 3) p = true ∧ bit (wd p.words 0) 31 = false) ∧
    (∃ (s : State) (p : Pkt), s.accepts 0x0A01 (lenIs 4) p = true ∧ bit (wd p.words 0) 31 = true) ∧
    (∃ (s : State) (p : Pkt), s.accepts 0x0A01 (lenIs 4) p = true ∧ bit (wd p.words 0) 31 = false ∧ s.alarms.huLow = s.led.huLow ∧
      ((s.led.huLow = true → s.led.hu.en = true))) ∧
    (∃ (s : State) (p : Pkt), s.accepts 0x0A02 (lenIs 1) p = true ∧ bit (wd p.words 0) 0 = false) ∧
    (∃ (s : State) (p : Pkt), s.accepts 0x0A02 (lenIs 1) p = true ∧ bit (wd p.words 0) 0 = true) ∧
    (∃ (s : State) (p : Pkt), s.accepts 0x0A03 (lenIs 0) p = true) :=
  ⟨⟨run, pk [0x80000000,0xFFFFFFFF,0], by decide +kernel, by decide +kernel⟩,
   ⟨run, pk [0,3,4], by decide +kernel, by decide +kernel⟩,
   ⟨run, spi [0x80000000,0xFFFFFFFF,0,0xFFFFFFFF], by decide +kernel, by decide +kernel⟩,
   ⟨run, spi [0,0,0,0], by decide +kernel, by decide +kernel, by decide +kernel, by decide +kernel⟩,
   ⟨run, spi [0], by decide +kernel, by decide +kernel⟩,
   ⟨run, spi [1], by decide +kernel, by decide +kernel⟩,
   ⟨run, spi [], by decide +kernel⟩⟩

/-- States and operands that meet the hypotheses of LedgerEvents, clause by clause. -/
theorem witness_LedgerEvents :
    (∃ (s : State), s.start.power = .run ∧ s.led.windowEnd ≤ s.clk.tick) ∧
    (∃ (s : State), s.clk.tick < s.led.windowEnd) ∧
    (∃ (s : State) (rails : List Nat), s.start.power = .run ∧ s.clk.tick % 1250000 = 0 ∧ s.led.meterTick < s.clk.tick) ∧
    (∃ (s : State) (rails : List Nat), (s.clk.tick % 1250000 ≠ 0 ∨ s.clk.tick ≤ s.led.meterTick)) ∧
    (∃ (s : State) (uv : Nat), s.start.power = .run) ∧
    (∃ (s : State) (t0 : Nat), s.start.power = .run ∧ s.led.huEn = true ∧ s.led.huNext = none ∧ s.led.covered = false ∧
      s.led.huLow = false ∧ s.led.uncovered = some t0 ∧ t0 + ticksPerSec ≤ s.clk.tick) ∧
    (∃ (s : State), (s.led.huEn = false ∨ s.led.covered = true ∨ s.led.huLow = true ∨ s.led.uncovered = none)) ∧
    (∃ (s : State) (j : LedJob) (l : List LedJob), s.start.power = .run ∧ s.start.mpi = .up ∧ s.led.test = true ∧ s.led.waiting = j :: l ∧
      s.led.mayAdmit j.cost = false ∧ (j.what = .bgRegion ∨ j.what = .flush)) ∧
    (∃ (s : State) (c : Nat) (l : List LedJob) (slot : Nat), s.start.power = .run ∧ s.start.mpi = .up ∧ s.led.test = true ∧
      s.led.waiting = { code := 11, cost := c, what := .bootSlot slot } :: l ∧ s.led.mayAdmit c = true) ∧
    (∃ (s : State) (c : Nat) (l : List LedJob) (cmd : Bool), s.start.power = .run ∧ s.start.mpi = .up ∧ s.led.test = true ∧
      s.pal.commit = none ∧ s.led.waiting = { code := 4, cost := c, what := .calCommit cmd } :: l ∧ s.led.mayAdmit c = true) ∧
    (∃ (s : State), (s.led.test = false ∨ s.led.waiting = [] ∨ s.mpiUp = false)) ∧
    (∃ (s : State), s.start.power ≠ .run) ∧
    (∃ (l : Led) (s t : State) (j : LedJob), s.led = l ∧ s.admitHead = some (j, t) ∧ l.enable = true ∧ l.huEn = true) :=
  ⟨⟨{run with led := {run.led with credit := -5, budget := 70, eAcc := [1,2,3]}}, by decide +kernel, by decide +kernel⟩,
   ⟨{run with led := {run.led with windowStart := 50000000000}}, by decide +kernel⟩,
   ⟨run, [1,2,3,4,5,6,7,8,9], by decide +kernel, by decide +kernel, by decide +kernel⟩,
   ⟨{run with clk := {run.clk with tick := 7}}, [3], by decide +kernel⟩,
   ⟨run, 500, by decide +kernel⟩,
   ⟨{run with led := {run.led with huEn := true, uncovered := some 5}}, 5, by decide +kernel, by decide +kernel, by decide +kernel,
    by decide +kernel, by decide +kernel, by decide +kernel, by decide +kernel⟩,
   ⟨run, by decide +kernel⟩,
   ⟨{run with led := {run.led with waiting := [{code:=10,cost:=60000000,what:=.bgRegion}], test := true}},
    {code:=10,cost:=60000000,what:=.bgRegion}, [], by decide +kernel, by decide +kernel, by decide +kernel, by decide +kernel,
    by decide +kernel, by decide +kernel⟩,
   ⟨led1 [{code:=11,cost:=110,what:=.bootSlot 1}], 110, [], 1, by decide +kernel, by decide +kernel, by decide +kernel, by decide +kernel,
    by decide +kernel⟩,
   ⟨led1 [{code:=4,cost:=70,what:=.calCommit true}], 70, [], true, by decide +kernel, by decide +kernel, by decide +kernel,
    by decide +kernel, by decide +kernel, by decide +kernel⟩,
   ⟨run, by decide +kernel⟩,
   ⟨State.reset, by decide +kernel⟩,
   ⟨{(led1 [{code:=10,cost:=60,what:=.bgRegion}]).led with huEn := true, covered := true},
    {(led1 [{code:=10,cost:=60,what:=.bgRegion}]) with led := {(led1 [{code:=10,cost:=60,what:=.bgRegion}]).led with huEn := true, covered := true}},
    adm {(led1 [{code:=10,cost:=60,what:=.bgRegion}]) with led := {(led1 [{code:=10,cost:=60,what:=.bgRegion}]).led with huEn := true, covered := true}},
    {code:=10,cost:=60,what:=.bgRegion}, by decide +kernel, by decide +kernel, by decide +kernel, by decide +kernel⟩⟩

/-- States and operands that meet the hypotheses of RecordCommands, clause by clause. -/
theorem witness_RecordCommands :
    (∃ (s : State) (p : Pkt), s.accepts 0x0B00 (lenIs 2) p = true ∧ fld (wd p.words 0) 1 0 = 0) ∧
    (∃ (s : State) (p : Pkt), s.accepts 0x0B02 (lenIs 1) p = true ∧ fld (wd p.words 0) 1 0 = 0 ∧ s.cru.latchSt = .armed) ∧
    (∃ (s : State) (p : Pkt), s.accepts 0x0B02 (lenIs 1) p = true ∧ fld (wd p.words 0) 1 0 = 0 ∧ s.cru.latchSt ≠ .armed) ∧
    (∃ (s : State) (p : Pkt), s.accepts 0x0B01 (lenIs 0) p = true) ∧
    (∃ (s : State) (p : Pkt), s.accepts 0x0B03 (lenIs 1) p = true ∧ s.cru.lossCount = 0 ∧ bit (wd p.words 0) 0 = true) ∧
    (∃ (s : State) (p : Pkt), s.accepts 0x0B03 (lenIs 1) p = true ∧ s.cru.lossCount = 0 ∧ bit (wd p.words 0) 0 = false) ∧
    (∃ (s : State) (p : Pkt), s.accepts 0x0B03 (lenIs 1) p = true ∧ s.cru.lossCount = 0 ∧ bit (wd p.words 0) 1 = true) ∧
    (∃ (s : State) (p : Pkt), s.accepts 0x0B03 (lenIs 1) p = true ∧ s.cru.lossCount = 0 ∧ bit (wd p.words 0) 1 = false) :=
  ⟨⟨run, spi [0,0], by decide +kernel, by decide +kernel⟩,
   ⟨run, spi [0], by decide +kernel, by decide +kernel, by decide +kernel⟩,
   ⟨{run with cru := {run.cru with latchSt := .full, latch := [{}], latchFirst := 77}}, spi [0], by decide +kernel, by decide +kernel,
    by decide +kernel⟩,
   ⟨run, pk [], by decide +kernel⟩,
   ⟨run, spi [3], by decide +kernel, by decide +kernel, by decide +kernel⟩,
   ⟨run, spi [0], by decide +kernel, by decide +kernel, by decide +kernel⟩,
   ⟨run, spi [3], by decide +kernel, by decide +kernel, by decide +kernel⟩,
   ⟨run, spi [0], by decide +kernel, by decide +kernel, by decide +kernel⟩⟩

/-- States and operands that meet the hypotheses of RecordIntake, clause by clause. -/
theorem witness_RecordIntake :
    (∃ (s : State) (code src : Nat) (a b c : Word), s.start.power = .run ∧ recordCodes.contains code = true ∧ src < 65536 ∧
      (s.cru.recent.find? (fun e => decide (e.1 = code ∧ e.2.1 = src)) = none) ∧ s.cru.fifo.length < 256) ∧
    (∃ (s : State) (code src : Nat) (a b c : Word), s.start.power = .run ∧ recordCodes.contains code = true ∧ src < 65536 ∧
      (s.cru.recent.find? (fun e => decide (e.1 = code ∧ e.2.1 = src)) = none) ∧ s.cru.fifo.length = 256) ∧
    (∃ (s : State) (pl : Plane) (code src : Nat) (a b c : Word), (s.start.power ≠ .run ∨ recordCodes.contains code = false)) ∧
    (∃ (s : State) (r : Rec) (l : List Rec), s.cru.flushing = none ∧ s.cru.nextTake ≤ s.clk.tick ∧ s.cru.fifo = r :: l ∧
      s.cru.lossCount = 0 ∧ s.cru.latchSt = .armed ∧ r.sev ≠ 3) ∧
    (∃ (s : State) (r : Rec) (l : List Rec), s.cru.flushing = none ∧ s.cru.nextTake ≤ s.clk.tick ∧ s.cru.fifo = r :: l ∧
      s.cru.lossCount = 0 ∧ s.cru.latchSt = .armed ∧ s.cru.latch = [] ∧ r.sev = 3) ∧
    (∃ (s : State), (s.cru.flushing.isSome = true ∨ s.clk.tick < s.cru.nextTake ∨ s.cru.fifo = [])) ∧
    (∃ (s : State), s.cru.latchFlushDue = true ∧ s.cru.latchTick + 12500000 ≤ s.clk.tick ∧ s.start.mpi = .up ∧ s.cru.flushing = none) ∧
    (∃ (s : State), (s.cru.latchFlushDue = false ∨ s.clk.tick < s.cru.latchTick + 12500000)) ∧
    (∃ (s : State) (img : Image), s.cru.flushing = some img ∧ s.cru.flushWait = []) ∧
    (∃ (s : State), s.cru.flushing = none) :=
  ⟨⟨run, 0x0101, 3, 1, 2, 3, by decide +kernel, by decide +kernel, by decide +kernel, by decide +kernel, by decide +kernel⟩,
   ⟨{run with cru := {run.cru with fifo := List.replicate 256 {}}}, 0x0101, 3, 1, 2, 3, by decide +kernel, by decide +kernel,
    by decide +kernel, by decide +kernel, by decide +kernel⟩,
   ⟨State.reset, .mgmt, 0x0101, 3, 1, 2, 3, by decide +kernel⟩,
   ⟨{run with cru := {run.cru with fifo := [{code:=3},{code:=4}]}}, {code:=3}, [{code:=4}], by decide +kernel, by decide +kernel,
    by decide +kernel, by decide +kernel, by decide +kernel, by decide +kernel⟩,
   ⟨{run with cru := {run.cru with fifo := [{code:=3,sev:=3},{code:=4}]}}, {code:=3,sev:=3}, [{code:=4}], by decide +kernel,
    by decide +kernel, by decide +kernel, by decide +kernel, by decide +kernel, by decide +kernel, by decide +kernel⟩,
   ⟨run, by decide +kernel⟩,
   ⟨{run with cru := {run.cru with latchFlushDue := true}}, by decide +kernel, by decide +kernel, by decide +kernel, by decide +kernel⟩,
   ⟨run, by decide +kernel⟩,
   ⟨{run with cru := {run.cru with flushing := some {complete := false}}, axg := {run.axg with jobs := [jb 0x0B01 (.flush 2), jb 0x0B01 (.flush 0)]}},
    {complete := false}, by decide +kernel, by decide +kernel⟩,
   ⟨run, by decide +kernel⟩⟩

/-- States and operands that meet the hypotheses of CounterCommands, clause by clause. -/
theorem witness_CounterCommands :
    (∃ (s : State) (p : Pkt), s.accepts 0x0C00 (lenIs 3) p = true ∧ bit (wd p.words 0) 31 = true ∧ Tab.sorted s.cnt.prog = true) ∧
    (∃ (s : State) (p : Pkt), s.accepts 0x0C01 (lenIs 1) p = true ∧
      (min (min 208 (fld (wd p.words 0) 15 8)) (208 - (min 207 (fld (wd p.words 0) 7 0)))) = 0) ∧
    (∃ (s : State) (p : Pkt), s.accepts 0x0C01 (lenIs 1) p = true ∧
      (min (min 208 (fld (wd p.words 0) 15 8)) (208 - (min 207 (fld (wd p.words 0) 7 0)))) ≠ 0) ∧
    (∃ (s : State) (p : Pkt), s.accepts 0x0C02 lenCntWrite p = true ∧
      (min (min 192 (fld (wd p.words 0) 15 8)) (192 - (min 191 (fld (wd p.words 0) 7 0)))) = 0) ∧
    (∃ (s : State) (p : Pkt), s.accepts 0x0C02 lenCntWrite p = true ∧
      (min (min 192 (fld (wd p.words 0) 15 8)) (192 - (min 191 (fld (wd p.words 0) 7 0)))) ≠ 0) ∧
    (∃ (s : State) (c : Ctx) (first n left : Nat) (clr : Bool) (acc : List Word) (l : List Job),
      s.axg.jobs = ⟨c, .cntRead first n clr (left + 2) acc⟩ :: l ∧ left + 2 ≤ n ∧ clr = false) ∧
    (∃ (s : State) (c : Ctx) (k : Nat) (a b : Word) (l : List Job), s.axg.jobs = ⟨c, .cntWrite k 1 [(a, b)] []⟩ :: l ∧ k < 128 ∧
      Tab.sorted s.cnt.prog = true) ∧
    (∃ (s : State) (p : Pkt), s.accepts 0x0C03 (lenIs 2) p = true ∧ bit (wd p.words 0) 31 = true) ∧
    (∃ (s : State) (p : Pkt), s.accepts 0x0C04 (lenIs 1) p = true ∧ bit (wd p.words 0) 31 = true) ∧
    (∃ (s : State), s.cnt.changed = false ∧ s.cnt.winStart < s.clk.tick ∧ s.clk.tick % (1250000 * s.cnt.windowNow) = 0) ∧
    (∃ (s : State), s.cnt.changed = true ∧ s.cnt.winStart < s.clk.tick ∧ s.clk.tick % (1250000 * s.cnt.windowMs) = 0) ∧
    (∃ (s : State), s.clk.tick ≤ s.cnt.winStart) :=
  ⟨⟨run, spi [0x80000005,0x00018201,3], by decide +kernel, by decide +kernel, by decide +kernel⟩,
   ⟨run, spi [0x00000000], by decide +kernel, by decide +kernel⟩,
   ⟨run, spi [0x0000FFCF], by decide +kernel, by decide +kernel⟩,
   ⟨run, spi [0x00000000], by decide +kernel, by decide +kernel⟩,
   ⟨run, spi [0x0000017F,0xFFFFFFFF,5], by decide +kernel, by decide +kernel⟩,
   ⟨{({run with cnt := {run.cnt with prog := [(0,{ovf:=true}),(5,{ovf:=true,was:=true,got:=3})]}}) with axg := {run.axg with jobs := [⟨cx, .cntRead 4 3 false 2 [1]⟩]}},
    cx, 4, 3, 0, false, [1], [], by decide +kernel, by decide +kernel, by decide +kernel⟩,
   ⟨{({run with cnt := {run.cnt with prog := [(0,{ovf:=true}),(5,{ovf:=true,was:=true,got:=3})]}}) with axg := {run.axg with jobs := [⟨cx, .cntWrite 5 1 [(0xFFFFFFFF,0xFFFFFFFF)] []⟩]}},
    cx, 5, 0xFFFFFFFF, 0xFFFFFFFF, [], by decide +kernel, by decide +kernel, by decide +kernel⟩,
   ⟨run, spi [0x80000000,0x00000000], by decide +kernel, by decide +kernel⟩,
   ⟨run, pk [0x80000001], by decide +kernel, by decide +kernel⟩,
   ⟨run, by decide +kernel, by decide +kernel, by decide +kernel⟩,
   ⟨{run with cnt := {run.cnt with changed := true, windowMs := 8}}, by decide +kernel, by decide +kernel, by decide +kernel⟩,
   ⟨{run with cnt := {run.cnt with winStart := 5000000000}}, by decide +kernel⟩⟩

/-- States and operands that meet the hypotheses of CalibrationCommands, clause by clause. -/
theorem witness_CalibrationCommands :
    (∃ (s : State) (p : Pkt), s.accepts 0x0800 (lenIs 3) p = true ∧ bit (wd p.words 0) 31 = true) ∧
    (∃ (s : State) (p : Pkt), s.accepts 0x0801 (lenIs 1) p = true ∧ s.calEligible (min 245 (fld (wd p.words 0) 8 0)) = false) ∧
    (∃ (s : State) (p : Pkt), s.accepts 0x0801 (lenIs 1) p = true ∧ s.calEligible (min 245 (fld (wd p.words 0) 8 0)) = true ∧
      s.passHeld (min 245 (fld (wd p.words 0) 8 0)) = false) ∧
    (∃ (s : State) (p : Pkt), s.accepts 0x0802 (lenIs 1) p = true) ∧
    (∃ (s : State) (p : Pkt), s.accepts 0x0803 (lenIs 3) p = true ∧ bit (wd p.words 0) 31 = true ∧
      s.pal.steps.find? (fun (x : CalStep) => decide (x.item = 245)) = none) ∧
    (∃ (s : State) (p : Pkt), s.accepts 0x0804 (lenIs 0) p = true) :=
  ⟨⟨run, spi [0x800000FF,0xFFFFFFFF,0xFFFFFFFF], by decide +kernel, by decide +kernel⟩,
   ⟨run, pk [0x3], by decide +kernel, by decide +kernel⟩,
   ⟨run, pk [220], by decide +kernel, by decide +kernel, by decide +kernel⟩,
   ⟨run, spi [0x00FF0000], by decide +kernel⟩,
   ⟨run, spi [0x80000001,0xFFFFFFFF,0xFFFFFFFF], by decide +kernel, by decide +kernel, by decide +kernel⟩,
   ⟨run, pk [], by decide +kernel⟩⟩

/-- States and operands that meet the hypotheses of CalibrationEvents, clause by clause. -/
theorem witness_CalibrationEvents :
    (∃ (s : State) (item : Nat) (m : CalMeas) (c : CalStep), s.pal.steps.find? (fun (c : CalStep) => decide (c.item = item)) = some c ∧
      item < 96 ∧ s.calBlocked item = false ∧ s.calEligible item = false ∧ c.lost = false ∧ c.byRun = false) ∧
    (∃ (s : State) (item : Nat) (m : CalMeas) (c : CalStep), s.pal.steps.find? (fun (c : CalStep) => decide (c.item = item)) = some c ∧
      s.calBlocked item = false ∧ ((item < 192 ∨ s.tpUp = true)) ∧ c.lost = true) ∧
    (∃ (s : State) (item : Nat) (m : CalMeas) (c : CalStep) (k : Nat),
      s.pal.steps.find? (fun (c : CalStep) => decide (c.item = item)) = some c ∧ item < 96 ∧ s.calBlocked item = false ∧
      s.calEligible item = true ∧ c.lost = false ∧ c.byRun = false ∧ m.off.natAbs ≤ 20000 ∧ m.sd ≤ 10000 ∧
      Tab.find? s.pal.vals (8 * item + c.rate) = none ∧ (State.calValue m s.palK - Config.palFactory item c.rate).natAbs ≤ 300 ∧
      k ≠ 8 * item + c.rate) ∧
    (∃ (s : State) (item : Nat) (m : CalMeas),
      ((∀ c ∈ s.pal.steps, c.item ≠ item) ∨ s.calBlocked item = true ∨ (192 ≤ item ∧ s.tpUp = false))) ∧
    (∃ (s : State) (x : PalSlot), s.pal.commit = some x ∧ s.pal.commitQ = []) ∧
    (∃ (s : State), s.pal.commit = none) ∧
    (∃ (s : State) (temp : Int) (v : PalVal), (s.pal.staleAge < s.palAge v ∨ 16 * s.pal.staleTemp < (temp - v.temp).natAbs)) ∧
    (∃ (s : State), s.start.power = .run ∧ s.start.mpi = .up ∧ s.pal.rrDue ≤ s.clk.tick ∧ s.pal.rrEn = true ∧ s.pal.rrWaiting = false) ∧
    (∃ (s : State), s.start.power = .run ∧ s.start.mpi = .up ∧ s.pal.rrDue ≤ s.clk.tick ∧ s.pal.rrEn = true ∧ s.pal.rrWaiting = false ∧
      s.pal.next < 192 ∧ s.calEligible s.pal.next = true) ∧
    (∃ (s : State), (s.pal.rrEn = false ∨ s.pal.rrWaiting = true ∨ s.clk.tick < s.pal.rrDue)) :=
  ⟨⟨{calR0 with pal := {calR0.pal with laneEn := false}}, 3, {}, ⟨3,3,false,false⟩, by decide +kernel, by decide +kernel,
    by decide +kernel, by decide +kernel, by decide +kernel, by decide +kernel⟩,
   ⟨calR, 3, {}, ⟨3,3,false,true⟩, by decide +kernel, by decide +kernel, by decide +kernel, by decide +kernel⟩,
   ⟨calR0, 3, mz, ⟨3,3,false,false⟩, 0x40, by decide +kernel, by decide +kernel, by decide +kernel, by decide +kernel, by decide +kernel,
    by decide +kernel, by decide +kernel, by decide +kernel, by decide +kernel, factory_value, by decide +kernel⟩,
   ⟨run, 3, {}, by decide +kernel⟩,
   ⟨{run with pal := {run.pal with commit := some {gen := 3}}}, {gen := 3}, by decide +kernel, by decide +kernel⟩,
   ⟨run, by decide +kernel⟩,
   ⟨{run with pal := {run.pal with vals := [(1960,{value:=5})]}}, -5, {value:=5,temp:=40000}, by decide +kernel⟩,
   ⟨run, by decide +kernel, by decide +kernel, by decide +kernel, by decide +kernel, by decide +kernel⟩,
   ⟨{calR with pal := {calR.pal with next := 3}}, by decide +kernel, by decide +kernel, by decide +kernel, by decide +kernel,
    by decide +kernel, by decide +kernel, by decide +kernel⟩,
   ⟨{run with pal := {run.pal with rrEn := false}}, by decide +kernel⟩⟩

/-- States and operands that meet the hypotheses of AnnealRows, clause by clause. -/
theorem witness_AnnealRows :
    (∃ (s : State) (p : Pkt), s.accepts 0x0900 (lenIs 2) p = true ∧ bit (wd p.words 0) 31 = true) ∧
    (∃ (s : State) (p : Pkt), s.accepts 0x0902 (lenIs 1) p = true ∧ fld (wd p.words 0) 1 0 = 0 ∧ readsOf s.mram.passRec ≠ 3) ∧
    (∃ (s : State) (p : Pkt) (x : TestRec), s.accepts 0x0902 (lenIs 1) p = true ∧ fld (wd p.words 0) 1 0 = 0 ∧ s.mram.passRec = some x ∧
      x.reads = 3) ∧
    (∃ (s : State) (p : Pkt), s.accepts 0x0901 (lenIs 1) p = true ∧
      s.blockIdle (bit (wd p.words 0) 0) (min (if (bit (wd p.words 0) 0) then 27 else 95) (fld (wd p.words 0) 14 8)) = true ∧
      s.blockRun (bit (wd p.words 0) 0) (min (if (bit (wd p.words 0) 0) then 27 else 95) (fld (wd p.words 0) 14 8)) = none) ∧
    (∃ (s : State) (errors us : Nat), s.sec.testing = some .pass ∧ s.sec.test.completed + 1 < s.sec.test.expected ∧ s.mem.retired = none) ∧
    (∃ (s : State) (errors us : Nat), s.sec.testing = none) ∧
    (∃ (s : State), s.start.power = .run ∧ s.sec.hours < s.clk.tick / (45 * 10 ^ 11)) ∧
    (∃ (s : State), (s.start.power ≠ .run ∨ s.clk.tick / (45 * 10 ^ 11) ≤ s.sec.hours)) :=
  ⟨⟨run, pk [0x80000001,0xFFFFFFFF], by decide +kernel, by decide +kernel⟩,
   ⟨run, spi [0], by decide +kernel, by decide +kernel, by decide +kernel⟩,
   ⟨{run with mram := {run.mram with passRec := some {status := 1, expected := 316, completed := 315}}}, spi [0],
    {status := 1, expected := 316, completed := 315}, by decide +kernel, by decide +kernel, by decide +kernel, by decide +kernel⟩,
   ⟨run, pk [0x00000301], by decide +kernel, by decide +kernel, by decide +kernel⟩,
   ⟨{run with sec := {run.sec with testing := some .pass, test := {expected := 316, completed := 40}}}, 3, 7, by decide +kernel,
    by decide +kernel, by decide +kernel⟩,
   ⟨run, 3, 3, by decide +kernel⟩,
   ⟨{run with clk := {run.clk with tick := 45*10^12}, mram := {run.mram with runH := 0xFFFFFFFF}}, by decide +kernel, by decide +kernel⟩,
   ⟨State.reset, by decide +kernel⟩⟩

/-- States and operands that meet the hypotheses of TimeCommands, clause by clause. -/
theorem witness_TimeCommands :
    (∃ (s : State) (p : Pkt), s.accepts 0x0400 (lenIs 1) p = true ∧ bit (wd p.words 0) 8 = false) ∧
    (∃ (s : State) (p : Pkt), s.accepts 0x0401 (lenIs 7) p = true ∧ bit (wd p.words 0) 8 = false ∧
      (s.tb (tbArg (wd p.words 0))).slew = none) ∧
    (∃ (s : State) (p : Pkt), s.accepts 0x0401 (lenIs 7) p = true ∧ bit (wd p.words 0) 8 = true ∧
      timeArg p.words 4 ≤ (s.tb (tbArg (wd p.words 0))).val) ∧
    (∃ (s : State) (p : Pkt), s.accepts 0x0401 (lenIs 7) p = true ∧ bit (wd p.words 0) 8 = true ∧
      (s.tb (tbArg (wd p.words 0))).val < timeArg p.words 4) ∧
    (∃ (s : State) (p : Pkt), s.accepts 0x0402 (lenIs 3) p = true ∧ bit (wd p.words 0) 31 = true) ∧
    (∃ (s : State) (p : Pkt), s.accepts 0x0403 (lenIs 6) p = true ∧ bit (wd p.words 0) 8 = false ∧
      (s.tb (tbArg (wd p.words 0))).slew = none) ∧
    (∃ (s : State) (p : Pkt), s.accepts 0x0403 (lenIs 6) p = true ∧ bit (wd p.words 0) 8 = true ∧
      (s.tb (tbArg (wd p.words 0))).val < timeArg p.words 3) ∧
    (∃ (s : State) (p : Pkt), s.accepts 0x0404 (lenIs 4) p = true ∧ s64Arg p.words 1 ≠ 0 ∧ (s.tb (tbArg (wd p.words 0))).slew = none) ∧
    (∃ (s : State) (p : Pkt), s.accepts 0x0405 (lenIs 1) p = true) ∧
    (∃ (s : State) (c : Ctx) (n v at_ : Nat), s.clk.tpUp = true ∧ s.axg.jobs = [{ ctx := c, work := .timeSet n v at_ }] ∧
      at_ ≤ (s.tb n).val ∧ c.mirrored = false ∧ (s.tb n).slew = none) ∧
    (∃ (s : State), (s.clk.tpUp = false ∨ (∀ j ∈ s.axg.jobs, s.due j.work = false))) ∧
    (∃ (s : State) (n : Nat) (x : Slew), n < 8 ∧ (s.tb n).slew = some x ∧ x.rem = 0 ∧ ((∀ j ∈ s.axg.jobs, j.ctx.mirrored = false))) ∧
    (∃ (s : State) (n : Nat) (x : Slew), (s.tb n).slew = some x ∧ x.rem ≠ 0) ∧
    (∃ (s : State) (n : Nat), ((s.tb n).slew = none ∨ 8 ≤ n)) :=
  ⟨⟨run, spi [0], by decide +kernel, by decide +kernel⟩,
   ⟨run, spi [0x3,0,0x5,0x3B9AC9FF,0,0,0], by decide +kernel, by decide +kernel, by decide +kernel⟩,
   ⟨run, pk [0x103,0,5,9,0,0,0], by decide +kernel, by decide +kernel, by decide +kernel⟩,
   ⟨run, pk [0x103,0,5,9,0,0,1], by decide +kernel, by decide +kernel, by decide +kernel⟩,
   ⟨run, spi [0x80000007,0x7FFFFFFF,0xFFFFFFFF], by decide +kernel, by decide +kernel⟩,
   ⟨run, spi [0x7,0xFFFFFFFF,0xFFFFFFFF,0,0,0], by decide +kernel, by decide +kernel, by decide +kernel⟩,
   ⟨run, pk [0x103,0,5,0,0,1], by decide +kernel, by decide +kernel, by decide +kernel⟩,
   ⟨run, pk [0x3,0,5,0], by decide +kernel, by decide +kernel, by decide +kernel⟩,
   ⟨run, spi [0x3], by decide +kernel⟩,
   ⟨tbv 3 {val := 9} {run with axg := {run.axg with jobs := [⟨cx, .timeSet 3 77 9⟩]}}, cx, 3, 77, 9, by decide +kernel, by decide +kernel,
    by decide +kernel, by decide +kernel, by decide +kernel⟩,
   ⟨run, by decide +kernel⟩,
   ⟨tbv 3 {val := 9, slew := some {rem := 0, max := 3}} {run with axg := {run.axg with jobs := [⟨cx, .slew 3 (-5) 9⟩]}}, 3,
    {rem := 0, max := 3}, by decide +kernel, by decide +kernel, by decide +kernel, by decide +kernel⟩,
   ⟨tbv 3 {val := 9, slew := some {rem := -55, max := 3}} run, 3, {rem := -55, max := 3}, by decide +kernel, by decide +kernel⟩,
   ⟨run, 3, by decide +kernel⟩⟩

/-- States and operands that meet the hypotheses of RateBounded, clause by clause. -/
theorem witness_RateBounded :
    (∃ (t : TBase) (k : Nat), t.slew = none ∧ 0 ≤ t.carry ∧ t.carry < rateDen ∧ t.val + 2 * nsU ≤ tbWrap) :=
  ⟨{rateCmd := -500000000000, rateServo := -900000000000}, 1234567, by decide +kernel, by decide +kernel, by decide +kernel,
   by decide +kernel⟩

/-- States and operands that meet the hypotheses of ReferenceCommands, clause by clause. -/
theorem witness_ReferenceCommands :
    (∃ (s : State) (p : Pkt), s.accepts 0x0600 (lenIs 4) p = true ∧ bit (wd p.words 0) 31 = true ∧ fld (wd p.words 0) 11 0 < 8 ∧
      Tab.sorted s.refs.cfg = true ∧ Tab.sorted s.refs.runs = true ∧ s.refs.st ≠ .switching ∧ bit (wd p.words 1) 0 = false) ∧
    (∃ (s : State) (p : Pkt), s.accepts 0x0600 (lenIs 4) p = true ∧ bit (wd p.words 0) 31 = true ∧ fld (wd p.words 0) 11 0 < 8 ∧
      Tab.sorted s.refs.cfg = true ∧ Tab.sorted s.refs.runs = true ∧ s.refs.st ≠ .switching ∧ bit (wd p.words 1) 0 = true ∧
      (s.refRun (fld (wd p.words 0) 11 0)).q = .off) ∧
    (∃ (s : State) (p : Pkt), s.accepts 0x0600 (lenIs 4) p = true ∧ bit (wd p.words 0) 31 = true ∧ fld (wd p.words 0) 11 0 < 8 ∧
      Tab.sorted s.refs.cfg = true ∧ Tab.sorted s.refs.runs = true ∧ s.refs.st ≠ .switching ∧ bit (wd p.words 1) 0 = true ∧
      (s.refRun (fld (wd p.words 0) 11 0)).q ≠ .off) ∧
    (∃ (s : State) (p : Pkt), s.accepts 0x0601 (lenIs 3) p = true ∧ bit (wd p.words 0) 31 = true ∧ Tab.sorted s.refs.ranks = true) ∧
    (∃ (s : State) (p : Pkt), s.accepts 0x0602 (lenIs 4) p = true ∧ bit (wd p.words 0) 31 = true ∧ s.refs.runs = []) ∧
    (∃ (s : State) (p : Pkt), s.accepts 0x0603 (lenIs 1) p = true) ∧
    (∃ (s : State) (p : Pkt), s.accepts 0x0604 (lenIs 6) p = true ∧ bit (wd p.words 0) 31 = true ∧ s.refs.st ≠ .lockWide ∧
      s.refs.st ≠ .lockNarrow) ∧
    (∃ (s : State) (p : Pkt), s.accepts 0x0605 (lenIs 5) p = true ∧ bit (wd p.words 0) 31 = true ∧ bit (wd p.words 0) 30 = false) ∧
    (∃ (s : State) (p : Pkt), s.accepts 0x0605 (lenIs 5) p = true ∧ bit (wd p.words 0) 31 = true ∧ bit (wd p.words 0) 29 = true) ∧
    (∃ (s : State) (p : Pkt), bit (wd p.words 0) 31 = false ∧ s.accepts 0x0601 (lenIs 3) p = true) ∧
    (∃ (s : State) (p : Pkt), bit (wd p.words 0) 31 = false ∧ s.accepts 0x0604 (lenIs 6) p = true) ∧
    (∃ (s : State) (p : Pkt), bit (wd p.words 0) 31 = false ∧ s.accepts 0x0605 (lenIs 5) p = true) :=
  ⟨⟨run, spi [0x80000000,0x00000000,5,6], by decide +kernel, by decide +kernel, by decide +kernel, by decide +kernel, by decide +kernel,
    by decide +kernel, by decide +kernel⟩,
   ⟨run, spi [0x80000003,0x00000001,5,6], by decide +kernel, by decide +kernel, by decide +kernel, by decide +kernel, by decide +kernel,
    by decide +kernel, by decide +kernel, by decide +kernel⟩,
   ⟨rfs (fun r => {r with st := .lockNarrow, sel := 3, cfg := [(3,{enable:=true})], runs := [(3,{q := .qualified})]}),
    spi [0x80000003,0x00000001,5,6], by decide +kernel, by decide +kernel, by decide +kernel, by decide +kernel, by decide +kernel,
    by decide +kernel, by decide +kernel, by decide +kernel⟩,
   ⟨run, spi [0x80000003,0xFFFFFFFF,0xFFFFFFFF], by decide +kernel, by decide +kernel, by decide +kernel⟩,
   ⟨run, spi [0x80000000,0xFFFFFFFF,0xFFFFFFFF,0xFFFFFFFF], by decide +kernel, by decide +kernel, by decide +kernel⟩,
   ⟨run, spi [0], by decide +kernel⟩,
   ⟨run, spi [0x80000000,0xFFFFFFFF,0xFFFFFFFF,0xFFFFFFFF,0xFFFFFFFF,0xFFFFFFFF], by decide +kernel, by decide +kernel, by decide +kernel,
    by decide +kernel⟩,
   ⟨run, spi [0x80000000,0,0x80000000,0x7FFFFFFF,0x80000000], by decide +kernel, by decide +kernel, by decide +kernel⟩,
   ⟨run, spi [0xFFFFFFFF,0xFFFFFFFF,0xFFFFFFFF,0xFFFFFFFF,0xFFFFFFFF], by decide +kernel, by decide +kernel, by decide +kernel⟩,
   ⟨run, spi [0x3,0xFFFFFFFF,0xFFFFFFFF], by decide +kernel, by decide +kernel⟩,
   ⟨run, spi [0,0xFFFFFFFF,0xFFFFFFFF,0,0,0], by decide +kernel, by decide +kernel⟩,
   ⟨run, spi [0,0xFFFFFFFF,0xFFFFFFFF,0,0], by decide +kernel, by decide +kernel⟩⟩

/-- States and operands that meet the hypotheses of ReferencesAndLoop, clause by clause. -/
theorem witness_ReferencesAndLoop :
    (∃ (s : State) (k : Nat), Tab.sorted s.refs.runs = true ∧ (s.refRun k).q = .disqualified ∧ s.refCanPass k = true) ∧
    (∃ (s : State) (k : Nat), Tab.sorted s.refs.runs = true ∧ (s.refRun k).q = .qualifying ∧ (s.refRun k).since < s.clk.tick ∧
      (s.refRun k).since + (s.refRank k).qualTime * 1250000000 ≤ s.clk.tick) ∧
    (∃ (s : State) (k : Nat), Tab.sorted s.refs.runs = true ∧ (s.refRun k).q = .wtr ∧ (s.refRun k).since < s.clk.tick ∧
      (s.refRun k).since + (s.refRank k).wtrTime * 1250000000 ≤ s.clk.tick) ∧
    (∃ (s : State) (k c : Nat) (why : RefWhy), Tab.sorted s.refs.runs = true ∧ s.refs.st ≠ .switching ∧
      ((s.refRun k).q = .qualifying ∨ (s.refRun k).q = .wtr ∨ (s.refRun k).q = .qualified) ∧
      ((k < 8 ∧ (s.refCfg k).pps = true ∧ c = 1 ∧ why = .gap 1500000000001) ∨ (k < 8 ∧ (s.refCfg k).pps = true ∧ c = 6 ∧ why = .strays [1000001, -1000001, 1000001]) ∨ (8 ≤ k ∧ k < 16 ∧ s.laneUsable (s.refCfg k).lane = false ∧ c = 3 ∧ why = .state) ∨ (8 ≤ k ∧ k < 16 ∧ s.laneUsable (s.refCfg k).lane = true ∧ (s.esmc (s.portOfLane (s.refCfg k).lane)).rxQl = 0xF ∧ c = 4 ∧ why = .state) ∨ (0x400 ≤ k ∧ s.packetRef k = none ∧ c = 5 ∧ why = .state))) ∧
    (∃ (s : State) (k : Nat) (f : Int), k < 0x400 ∧ Tab.sorted s.refs.runs = true ∧ s.refs.st ≠ .switching ∧ (s.refRun k).q = .qualified ∧
      ((∀ j ∈ s.refIds, j ≠ k → s.outOfPull j = false)) ∧ -(2 ^ 31) ≤ f ∧ f < 2 ^ 31 ∧ 1000 * s.refs.pullRange < f.natAbs) ∧
    (∃ (s : State) (k : Nat) (w : RefWhy), (s.refRun k).q = .off ∧ ((∀ f, w ≠ .freq f))) ∧
    (∃ (s : State) (k : Nat), s.clk.tick ≤ (s.refRun k).since) ∧
    (∃ (s : State) (f : Int), s.refs.st = .switching ∧ s.refs.sel < 0x400 ∧ s.carriesTime s.refs.sel = false ∧
      s.refs.switchSince + 12500000 ≤ s.clk.tick) ∧
    (∃ (s : State) (f : Int),
      (s.refs.st ≠ .switching ∨ (0x400 ≤ s.refs.sel ∧ s.refs.switchSeen < 4) ∨ (s.refs.sel < 0x400 ∧ s.carriesTime s.refs.sel = true ∧ s.refs.switchSeen < 2))) ∧
    (∃ (s : State) (off : Int) (errs : List Int), s.refs.st = .acquire ∧ 16 ≤ errs.length ∧ ((∀ e ∈ errs.take 16, e.natAbs ≤ 100000))) ∧
    (∃ (s : State) (off : Int) (errs : List Int), (s.refs.st ≠ .acquire ∨ errs.length < 16 ∨ (∃ e ∈ errs.take 16, 100000 < e.natAbs))) ∧
    (∃ (s : State) (errs : List Int), (s.refs.st = .lockWide ∨ s.refs.st = .lockNarrow) ∧ 16 ≤ errs.length ∧
      ((∀ e ∈ errs.take 16, 1000000 < e.natAbs))) ∧
    (∃ (s : State) (errs : List Int),
      ((s.refs.st ≠ .lockWide ∧ s.refs.st ≠ .lockNarrow) ∨ errs.length < 16 ∨ (∃ e ∈ errs.take 16, e.natAbs ≤ 1000000))) ∧
    (∃ (s : State) (off : Int) (worst : Nat), s.refs.st = .lockWide ∧ worst ≤ 100000 ∧
      2 * 65536 * 1000 * 1250000000 ≤ (s.clk.tick - s.refs.dwellSince) * s.refs.bwNow) ∧
    (∃ (s : State) (off : Int) (worst : Nat), s.refs.st = .lockWide ∧ 100000 < worst) ∧
    (∃ (s : State) (off : Int) (worst : Nat), s.refs.st ≠ .lockWide) ∧
    (∃ (s : State) (f c : Int), s.refs.st = .lockNarrow ∧
      s.refs.narrowSince + (s.refs.histWin + s.refs.histGuard) * 1250000000 ≤ s.clk.tick) ∧
    (∃ (s : State) (f c : Int), s.clk.tick < s.refs.narrowSince + (s.refs.histWin + s.refs.histGuard) * 1250000000) ∧
    (∃ (s : State) (f c : Int), s.refs.st ≠ .lockNarrow) ∧
    (∃ (s : State) (die : Int) (ext : Option Int), s.refs.st ≠ .holdover ∧ s.refs.st ≠ .switching) ∧
    (∃ (s : State) (die : Int) (ext : Option Int), s.refs.st = .holdover) ∧
    (∃ (s : State) (f c : Int), s.refs.st = .lockNarrow ∧ s.refs.learn = true ∧ s.refs.fits.length + 1 < 1440) :=
  ⟨⟨rfs (fun r => {r with runs := [(3,{q := .disqualified, everDisq := true, cause := 2})], cfg := [(3,{enable := true, freqHz := 10000000})]}),
    3, by decide +kernel, by decide +kernel, by decide +kernel⟩,
   ⟨rfs (fun r => {r with runs := [(3,{q := .qualifying, everDisq := true, cause := 2})], ranks := [(3,{qualTime := 1})], cfg := [(3,{enable := true, freqHz := 10000000})]}),
    3, by decide +kernel, by decide +kernel, by decide +kernel, by decide +kernel⟩,
   ⟨rfs (fun r => {r with runs := [(3,{q := .wtr, everDisq := true, cause := 2})], ranks := [(3,{wtrTime := 1})]}), 3, by decide +kernel,
    by decide +kernel, by decide +kernel, by decide +kernel⟩,
   ⟨rfs (fun r => {r with sel := 3, st := .freeRun, runs := [(3,{q := .qualified, everDisq := true, cause := 2})], cfg := [(3,{enable := true, pps := true})]}),
    3, 1, .gap 1500000000001, by decide +kernel, by decide +kernel, by decide +kernel, by decide +kernel⟩,
   ⟨rfs (fun r => {r with sel := 3, st := .freeRun, runs := [(3,{q := .qualified, everDisq := true, cause := 2})], cfg := [(3,{enable := true, freqHz := 10000000})]}),
    3, 1000000000, by decide +kernel, by decide +kernel, by decide +kernel, by decide +kernel, by decide +kernel, by decide +kernel,
    by decide +kernel, by decide +kernel⟩,
   ⟨run, 3, .state, by decide +kernel, fun f h => by cases h⟩,
   ⟨{run with clk := {run.clk with tick := 0}}, 3, by decide +kernel⟩,
   ⟨rfs (fun r => {r with st := .switching, sel := 3, bwNow := 5}), 5, by decide +kernel, by decide +kernel, by decide +kernel,
    by decide +kernel⟩,
   ⟨run, 5, by decide +kernel⟩,
   ⟨rfs (fun r => {r with st := .acquire, sel := 3}), 0, List.replicate 17 100000, by decide +kernel, by decide +kernel, by decide +kernel⟩,
   ⟨run, 5, [], by decide +kernel⟩,
   ⟨rfs (fun r => {r with st := .lockWide, sel := 3}), List.replicate 16 1000001, by decide +kernel, by decide +kernel, by decide +kernel⟩,
   ⟨run, [], by decide +kernel⟩,
   ⟨rfs (fun r => {r with st := .lockWide, sel := 3, bwNow := 1000*65536}), 4, 100, by decide +kernel, by decide +kernel,
    by decide +kernel⟩,
   ⟨rfs (fun r => {r with st := .lockWide, sel := 3}), 4, 100001, by decide +kernel, by decide +kernel⟩,
   ⟨run, 4, 5, by decide +kernel⟩,
   ⟨{(rfs (fun r => {r with st := .lockNarrow, histWin := 1, histGuard := 1})) with clk := {run.clk with tick := 10^15}}, 4, 5,
    by decide +kernel, by decide +kernel⟩,
   ⟨rfs (fun r => {r with st := .lockNarrow, narrowSince := 5000000000}), 4, 5, by decide +kernel⟩,
   ⟨run, 4, 5, by decide +kernel⟩,
   ⟨run, 4, none, by decide +kernel, by decide +kernel⟩,
   ⟨rfs (fun r => {r with st := .holdover, tempSel := true}), 4, none, by decide +kernel⟩,
   ⟨rfs (fun r => {r with st := .lockNarrow, learn := true}), 4, 5, by decide +kernel, by decide +kernel, by decide +kernel⟩⟩

/-- States and operands that meet the hypotheses of Selection, clause by clause. -/
theorem witness_Selection :
    (∃ (s : State) (off : Int), s.clk.tpUp = true ∧ (s.refs.st = .switching ∨ s.refs.st = .fault) ∧ s.refs.runs = [] ∧
      s.clk.tick % 1250000 = 0) ∧
    (∃ (s : State) (off : Int), s.clk.tpUp = true ∧ ((∀ k ∈ s.refIds, s.outOfPull k = false)) ∧ s.phaseActs = false ∧
      (s.clk.tick % 1250000 ≠ 0 ∨ s.refs.evalTick = some s.clk.tick)) ∧
    (∃ (s : State) (off : Int), s.clk.tpUp = true ∧ ((∀ k ∈ s.refIds, s.outOfPull k = false)) ∧ s.clk.tick % 1250000 = 0 ∧
      s.refs.evalTick ≠ some s.clk.tick ∧
      (s.refs.mode = 2 ∨ (s.refs.mode = 1 ∧ (s.refRun s.refs.forceRef).q ≠ .qualified ∧ (s.refRun s.refs.forceRef).q ≠ .wtr)) ∧
      (s.refs.st = .acquire ∨ s.refs.st = .lockWide ∨ s.refs.st = .lockNarrow)) ∧
    (∃ (s : State) (off : Int) (b : Nat), s.clk.tpUp = true ∧ ((∀ k ∈ s.refIds, s.outOfPull k = false)) ∧ s.clk.tick % 1250000 = 0 ∧
      s.refs.evalTick ≠ some s.clk.tick ∧ s.refs.mode = 0 ∧ s.refs.st = .freeRun ∧ s.refs.sel = 0xFFF ∧
      ((∀ e ∈ s.refs.runs, e.2.outvoted = none)) ∧ b ≠ 0xFFF ∧ b ∈ s.candidates ∧ 0xFFF ∉ s.candidates ∧
      ((∀ k ∈ s.candidates, k ≠ b → (s.refRank b).rank < (s.refRank k).rank))) ∧
    (∃ (s : State) (off : Int) (m : List RefMeas), s.clk.tpUp = false) :=
  ⟨⟨rfs (fun r => {r with st := .fault}), 0, by decide +kernel, by decide +kernel, by decide +kernel, by decide +kernel⟩,
   ⟨{(rfs (fun r => {r with mode := 2})) with clk := {run.clk with tick := 7}}, 5, by decide +kernel, by decide +kernel,
    by decide +kernel, by decide +kernel⟩,
   ⟨rfs (fun r => {r with mode := 2, sel := 3, st := .acquire, histValid := true}), 7, by decide +kernel, by decide +kernel,
    by decide +kernel, by decide +kernel, by decide +kernel, by decide +kernel⟩,
   ⟨rfs (fun r => {r with runs := [(3,{q := .qualified}),(5,{q := .qualified})], ranks := [(3,{rank := 9}),(5,{rank := 2})], cfg := [(3,{enable := true}),(5,{enable := true})]}),
    0, 5, by decide +kernel, by decide +kernel, by decide +kernel, by decide +kernel, by decide +kernel, by decide +kernel,
    by decide +kernel, by decide +kernel, by decide +kernel, by decide +kernel, by decide +kernel, by decide +kernel⟩,
   ⟨{run with clk := {run.clk with tpUp := false}}, 5, [], by decide +kernel⟩⟩

/-- States and operands that meet the hypotheses of Channels, clause by clause. -/
theorem witness_Channels :
    (∃ (s : State) (p : Pkt), s.accepts 0x0500 (lenIs 3) p = true ∧ bit (wd p.words 0) 31 = true ∧ Tab.sorted s.chans = true ∧
      (s.chan (chArg (wd p.words 0))).stat = none ∧ ((∀ k : Nat, k < 28 → (s.chan k).deferred = false)) ∧
      s.axg.jobs.all (fun j => match j.work with | .calRun _ => false | _ => true) = true ∧ bit (wd p.words 1) 0 = false) ∧
    (∃ (s : State) (p : Pkt), s.accepts 0x0501 (lenIs 4) p = true ∧ bit (wd p.words 0) 31 = false ∧ Tab.sorted s.chans = true) ∧
    (∃ (s : State) (p : Pkt), s.accepts 0x0501 (lenIs 4) p = true ∧ bit (wd p.words 0) 31 = true ∧ (s.tb 0).val < timeArg p.words 1) ∧
    (∃ (s : State) (p : Pkt), s.accepts 0x0501 (lenIs 4) p = true ∧ bit (wd p.words 0) 31 = true ∧ timeArg p.words 1 ≤ (s.tb 0).val) ∧
    (∃ (s : State) (p : Pkt), s.accepts 0x0502 (lenIs 1) p = true ∧ Tab.sorted s.chans = true ∧
      ((∀ k : Nat, k < 28 → (s.chan k).stat = none))) ∧
    (∃ (s : State) (p : Pkt), s.accepts 0x0503 (lenIs 1) p = true ∧ Tab.sorted s.chans = true) ∧
    (∃ (s : State) (p : Pkt), s.accepts 0x0504 (lenIs 2) p = true ∧ (s.chan (chArg (wd p.words 0))).stat.isSome = true) ∧
    (∃ (s : State) (ch ago f8 : Nat) (fal : Bool),
      (28 ≤ ch ∨ s.clk.tpUp = false ∨ (s.chan ch).st = .off ∨ fal ≠ (s.chan ch).edge ∨ s.clk.tick - ago < (s.chan ch).begun)) ∧
    (∃ (s : State) (ch ago f8 : Nat), ch < 28 ∧ s.clk.tpUp = true ∧ (s.chan ch).st ≠ .off ∧ (s.chan ch).begun ≤ s.clk.tick - ago ∧
      (s.chan ch).pre ≠ 0) ∧
    (∃ (s : State) (ch ago f8 : Nat), ch < 28 ∧ s.clk.tpUp = true ∧ Tab.sorted s.chans = true ∧ (s.chan ch).st = .running ∧
      (s.chan ch).mode = 0 ∧ (s.chan ch).begun ≤ s.clk.tick - ago ∧ (s.chan ch).pre = 0 ∧ (s.chan ch).lastCap = none ∧
      (s.chan ch).stat = none ∧ (s.chan ch).prev = none ∧ s.stopsFor ch = [] ∧ (s.chan ch).queueEn = true ∧ (s.chan ch).queue.length < 4096) ∧
    (∃ (s : State) (ch ago f8 : Nat), ch < 28 ∧ s.clk.tpUp = true ∧ Tab.sorted s.chans = true ∧ (s.chan ch).st = .running ∧
      (s.chan ch).mode = 0 ∧ (s.chan ch).begun ≤ s.clk.tick - ago ∧ (s.chan ch).pre = 0 ∧ s.stopsFor ch = [] ∧
      (s.chan ch).lastCap = some (s.clk.tick - ago, min 6399 f8)) :=
  ⟨⟨run, spi [0x80000003,0x00000000,0], by decide +kernel, by decide +kernel, by decide +kernel, by decide +kernel, by decide +kernel,
    by decide +kernel, by decide +kernel⟩,
   ⟨run, spi [0x0FFFFFFF,0,0,0], by decide +kernel, by decide +kernel, by decide +kernel⟩,
   ⟨run, pk [0x8FFFFFFF,0,0,1], by decide +kernel, by decide +kernel, by decide +kernel⟩,
   ⟨run, pk [0x8FFFFFFF,0,0,0], by decide +kernel, by decide +kernel, by decide +kernel⟩,
   ⟨run, spi [0xFFFFFFFF], by decide +kernel, by decide +kernel, by decide +kernel⟩,
   ⟨run, spi [0x00010003], by decide +kernel, by decide +kernel⟩,
   ⟨{run with chans := [(3,{enable := true, st := .running, stat := some {statN := 6}})]}, pk [3,5], by decide +kernel, by decide +kernel⟩,
   ⟨run, 3, 4, 5, false, by decide +kernel⟩,
   ⟨{run with chans := [(3,{enable := true, st := .running, prescale := 5, pre := 4})]}, 3, 0, 0, by decide +kernel, by decide +kernel,
    by decide +kernel, by decide +kernel, by decide +kernel⟩,
   ⟨{run with chans := [(3,{enable := true, st := .running})]}, 3, 0, 0, by decide +kernel, by decide +kernel, by decide +kernel,
    by decide +kernel, by decide +kernel, by decide +kernel, by decide +kernel, by decide +kernel, by decide +kernel, by decide +kernel,
    by decide +kernel, by decide +kernel, by decide +kernel⟩,
   ⟨{run with chans := [(3,{enable := true, st := .running, lastCap := some (5000000000,77)})]}, 3, 0, 77, by decide +kernel,
    by decide +kernel, by decide +kernel, by decide +kernel, by decide +kernel, by decide +kernel, by decide +kernel, by decide +kernel,
    by decide +kernel⟩⟩

/-- States and operands that meet the hypotheses of HammerCommands, clause by clause. -/
theorem witness_HammerCommands :
    (∃ (s : State) (p : Pkt), s.accepts 0x0700 (lenIs 10) p = true ∧ (hamOfWords p.words).mode = .oneShot ∧
      (hamOfWords p.words).start < s.earliest (fld (wd p.words 0) 3 0) (hamOfWords p.words).tb (s.tb (hamOfWords p.words).tb).rateTotal) ∧
    (∃ (s : State) (p : Pkt), s.accepts 0x0700 (lenIs 10) p = true ∧ s.axg.jobs.all (fun j => !j.work.forHam) = true ∧
      s.ham (fld (wd p.words 0) 3 0) = {} ∧ (hamOfWords p.words).mode = .oneShot ∧
      s.earliest (fld (wd p.words 0) 3 0) (hamOfWords p.words).tb (s.tb (hamOfWords p.words).tb).rateTotal ≤ (hamOfWords p.words).start) ∧
    (∃ (s : State) (p : Pkt), s.accepts 0x0704 (lenIs 6) p = true ∧ s.axg.jobs.all (fun j => !j.work.forHam) = true ∧
      s.ham (fld (wd p.words 0) 3 0) = {}) ∧
    (∃ (s : State) (p : Pkt), s.accepts 0x0701 (lenIs 1) p = true ∧ s.axg.jobs.all (fun j => !j.work.forHam) = true ∧
      ((∀ k : Nat, k < 16 → (wd p.words 0).getLsbD k = true → (s.ham k).st = .idle))) ∧
    (∃ (s : State) (p : Pkt) (k : Nat), s.accepts 0x0701 (lenIs 1) p = true ∧ s.axg.jobs.all (fun j => !j.work.forHam) = true ∧ k < 16 ∧
      wd p.words 0 = w32 (2 ^ k) ∧ (s.ham k).st ≠ .idle ∧ (s.ham k).align = none ∧ (s.ham k).committed ≠ []) ∧
    (∃ (s : State) (p : Pkt), s.accepts 0x0702 (lenIs 2) p = true ∧ s.axg.jobs.all (fun j => !j.work.forHam) = true ∧
      ((∀ k : Nat, k < 16 → (wd p.words 0).getLsbD k = true → (s.ham k).mode = .oneShot ∨ (s.ham k).st = .idle ∨ (s.ham k).st = .done))) ∧
    (∃ (s : State) (p : Pkt) (k : Nat), s.accepts 0x0702 (lenIs 2) p = true ∧ s.axg.jobs.all (fun j => !j.work.forHam) = true ∧ k < 16 ∧
      fld (wd p.words 0) 15 0 = 2 ^ k ∧ bit (wd p.words 0) 16 = true ∧ (s.ham k).st = .running ∧ (s.ham k).mode = .periodic ∧
      (s.ham k).disarming = false ∧ (s.ham k).align = none ∧ (s.ham k).h ≠ (s.tb (s.ham k).tb).val) ∧
    (∃ (s : State) (p : Pkt), s.accepts 0x0703 (lenIs 1) p = true) :=
  ⟨⟨run, pk [3,0,0,0,0,0,0,0,0,0], by decide +kernel, by decide +kernel, by decide +kernel⟩,
   ⟨run, spi [3,0,100,0,0,0,0,0,0,0], by decide +kernel, by decide +kernel, by decide +kernel, by decide +kernel, by decide +kernel⟩,
   ⟨run, spi [0x13,0xFFFFFF,0,0,0,0], by decide +kernel, by decide +kernel, by decide +kernel⟩,
   ⟨run, pk [0xFFFF], by decide +kernel, by decide +kernel, by decide +kernel⟩,
   ⟨{run with hams := [(3,{st := .armed, next := some 0, committed := [{tick := 7, ps := 5, level := some true}]})]}, pk [8], 3,
    by decide +kernel, by decide +kernel, by decide +kernel, by decide +kernel, by decide +kernel, by decide +kernel, by decide +kernel⟩,
   ⟨run, spi [0x1FFFF,0xFFFFFFFF], by decide +kernel, by decide +kernel, by decide +kernel⟩,
   ⟨{run with hams := [(3,{st := .running, mode := .periodic, period := 1000, width := 10, next := some 5, h := 99})]}, pk [0x10008,0], 3,
    by decide +kernel, by decide +kernel, by decide +kernel, by decide +kernel, by decide +kernel, by decide +kernel, by decide +kernel,
    by decide +kernel, by decide +kernel, by decide +kernel⟩,
   ⟨run, spi [3], by decide +kernel⟩⟩

/-- States and operands that meet the hypotheses of HammerEdges, clause by clause. -/
theorem witness_HammerEdges :
    (∃ (s : State) (k : Nat), k < 16 ∧ s.clk.tpUp = true ∧ Tab.sorted s.hams = true ∧ (s.ham k).mode = .oneShot ∧
      (s.ham k).frame = false ∧ (s.ham k).disarming = false ∧ (s.ham k).align = none ∧ (s.ham k).next = some 0 ∧
      (s.ham k).start ≤ ((s.tb (s.ham k).tb).val : Int) + scaleRho (s.tb (s.ham k).tb).rateTotal commitU ∧
      (s.tb (s.ham k).tb).val ≤ (s.ham k).start) ∧
    (∃ (s : State) (k : Nat), k < 16 ∧
      (s.clk.tpUp = false ∨ (s.ham k).disarming = true ∨ (s.ham k).next = none ∨ ((s.ham k).mode = .oneShot ∧ ((s.tb (s.ham k).tb).val : Int) + scaleRho (s.tb (s.ham k).tb).rateTotal commitU < (s.ham k).start))) ∧
    (∃ (s : State) (k : Nat) (e : HamEdge) (l : List HamEdge) (v : Bool), k < 16 ∧ s.clk.tpUp = true ∧ Tab.sorted s.hams = true ∧
      (s.ham k).committed = e :: l ∧ e.tick ≤ s.clk.tick ∧ e.boundary = none ∧ e.level = some v ∧ e.stop = false ∧
      (s.ham k).disarming = false ∧ ((s.ham k).active = v ∨ s.pairGateOpen = false)) ∧
    (∃ (s : State) (k : Nat) (e : HamEdge) (l : List HamEdge) (v : Bool), k < 16 ∧ s.clk.tpUp = true ∧ Tab.sorted s.hams = true ∧
      (s.ham k).committed = e :: l ∧ e.tick ≤ s.clk.tick ∧ e.boundary = none ∧ e.level = some v ∧ e.stop = false ∧
      (s.ham k).disarming = false ∧ (s.ham k).active ≠ v ∧ s.pairGateOpen = true) ∧
    (∃ (s : State) (k : Nat), k < 16 ∧
      (s.clk.tpUp = false ∨ (s.ham k).committed = [] ∨ (∃ e, (s.ham k).committed.head? = some e ∧ s.clk.tick < e.tick))) ∧
    (∃ (s : State) (k ppb : Nat), k < 16 ∧ Tab.sorted s.hams = true ∧ (s.ham k).align = some (.slew ppb) ∧
      s.axg.jobs.all (fun j => !j.work.forHam) = true ∧ (s.ham k).h = (s.tb (s.ham k).tb).val) ∧
    (∃ (s : State) (k ppb : Nat), k < 16 ∧ (s.ham k).align = some (.slew ppb) ∧ (s.ham k).h ≠ (s.tb (s.ham k).tb).val) ∧
    (∃ (s : State) (k : Nat), k < 16 ∧ (s.ham k).align = none) :=
  ⟨⟨{run with hams := [(3,{st := .armed, next := some 0, start := 0, width := 0})]}, 3, by decide +kernel, by decide +kernel,
    by decide +kernel, by decide +kernel, by decide +kernel, by decide +kernel, by decide +kernel, by decide +kernel, by decide +kernel,
    by decide +kernel⟩,
   ⟨run, 3, by decide +kernel, by decide +kernel⟩,
   ⟨{run with hams := [(3,{st := .armed, next := some 0, committed := [{tick := 7, ps := 5, level := some false}]})]}, 3,
    {tick := 7, ps := 5, level := some false}, [], false, by decide +kernel, by decide +kernel, by decide +kernel, by decide +kernel,
    by decide +kernel, by decide +kernel, by decide +kernel, by decide +kernel, by decide +kernel, by decide +kernel⟩,
   ⟨{run with hams := [(3,{st := .armed, next := some 0, committed := [{tick := 7, ps := 5, level := some true}]})]}, 3,
    {tick := 7, ps := 5, level := some true}, [], true, by decide +kernel, by decide +kernel, by decide +kernel, by decide +kernel,
    by decide +kernel, by decide +kernel, by decide +kernel, by decide +kernel, by decide +kernel, by decide +kernel, by decide +kernel⟩,
   ⟨run, 3, by decide +kernel, by decide +kernel⟩,
   ⟨{run with hams := [(3,{st := .running, mode := .periodic, period := 1000, width := 10, next := some 5, h := 0, carry := 7, align := some (.slew 9)})], tbs := []},
    3, 9, by decide +kernel, by decide +kernel, by decide +kernel, by decide +kernel, by decide +kernel⟩,
   ⟨{run with hams := [(3,{st := .running, mode := .periodic, period := 1000, width := 10, next := some 5, h := 99, align := some (.slew 9)})]},
    3, 9, by decide +kernel, by decide +kernel, by decide +kernel⟩,
   ⟨run, 3, by decide +kernel, by decide +kernel⟩⟩

/-- States and operands that meet the hypotheses of SessionCommands, clause by clause. -/
theorem witness_SessionCommands :
    (∃ (s : State) (p : Pkt), s.accepts 0x0440 (lenIs 9) p = true ∧
      ((s.createReason (fld (wd p.words 0) 9 0) (sesCfgOf p.words) ≠ 0 ∨ s.portExists (sesCfgOf p.words).port = false))) ∧
    (∃ (s : State) (p : Pkt), s.accepts 0x0440 (lenIs 9) p = true ∧ s.createReason (fld (wd p.words 0) 9 0) (sesCfgOf p.words) = 0 ∧
      s.portExists (sesCfgOf p.words).port = true ∧ s.session? (fld (wd p.words 0) 9 0) = none ∧ (s.port (sesCfgOf p.words).port).st ≠ .up) ∧
    (∃ (s : State) (p : Pkt), s.accepts 0x0441 (lenIs 1) p = true ∧ bit (wd p.words 0) 24 = false ∧ bit (wd p.words 0) 25 = false ∧
      Tab.sorted s.ptp.sessions = true ∧ s.session? (fld (wd p.words 0) 9 0) = none) ∧
    (∃ (s : State) (p : Pkt), s.accepts 0x0441 (lenIs 1) p = true ∧ bit (wd p.words 0) 24 = false ∧ bit (wd p.words 0) 25 = false ∧
      Tab.sorted s.ptp.sessions = true ∧ s.session? (fld (wd p.words 0) 9 0) ≠ none) ∧
    (∃ (s : State) (p : Pkt), s.accepts 0x0442 (lenIs 1) p = true) ∧
    (∃ (s : State) (p : Pkt), s.accepts 0x0443 (lenIs 1) p = true) ∧
    (∃ (s : State) (p : Pkt), s.accepts 0x0444 (lenIs 10) p = true ∧ bit (wd p.words 0) 31 = false) ∧
    (∃ (s : State) (p : Pkt), s.accepts 0x0444 (lenIs 10) p = true ∧ bit (wd p.words 0) 31 = true ∧ Tab.sorted s.ptp.insts = true) ∧
    (∃ (s : State) (p : Pkt), s.accepts 0x0445 (lenIs 12) p = true ∧ bit (wd p.words 0) 31 = false) ∧
    (∃ (s : State) (p : Pkt), s.accepts 0x0445 (lenIs 12) p = true ∧ bit (wd p.words 0) 31 = true ∧ Tab.sorted s.sesKeys = true ∧
      fld (wd p.words 1) 1 0 = 0) ∧
    (∃ (s : State) (p : Pkt), s.accepts 0x0445 (lenIs 12) p = true ∧ bit (wd p.words 0) 31 = true ∧ Tab.sorted s.sesKeys = true ∧
      fld (wd p.words 1) 1 0 ≠ 0) ∧
    (∃ (s : State) (p : Pkt), s.accepts 0x0446 (lenIs 2) p = true ∧ Tab.sorted s.ptp.esmc = true) :=
  ⟨⟨run, spi [0xFFFFFFFF,3,0,0,0,0,0,0,0], by decide +kernel, by decide +kernel⟩,
   ⟨run, spi [5,0x00000003,0,0,0,0,0,0,0], by decide +kernel, by decide +kernel, by decide +kernel, by decide +kernel, by decide +kernel⟩,
   ⟨run, spi [5], by decide +kernel, by decide +kernel, by decide +kernel, by decide +kernel, by decide +kernel⟩,
   ⟨(withSes {cfg := scfg 1}), spi [5], by decide +kernel, by decide +kernel, by decide +kernel, by decide +kernel, by decide +kernel⟩,
   ⟨run, spi [5], by decide +kernel⟩,
   ⟨run, spi [5], by decide +kernel⟩,
   ⟨run, spi [0,0,0,0,0,0,0,0,0,0], by decide +kernel, by decide +kernel⟩,
   ⟨run, spi [0x80000003,0xFFFFFFFF,0xFFFFFFFF,0xFFFFFFFF,0xFFFFFFFF,0xFFFFFFFF,0xFFFFFFFF,0xFFFFFFFF,0xFFFFFFFF,0xFFFFFFFF],
    by decide +kernel, by decide +kernel, by decide +kernel⟩,
   ⟨run, spi [3,2,5,6,1,2,3,4,5,6,7,8], by decide +kernel, by decide +kernel⟩,
   ⟨{run with sesKeys := [(3,{alg:=1,spp:=1,keyId:=1,salt:=1,key:=1}),(4,{alg:=1,spp:=1,keyId:=1,salt:=1,key:=1})]},
    spi [0x80000003,0,5,6,1,2,3,4,5,6,7,8], by decide +kernel, by decide +kernel, by decide +kernel, by decide +kernel⟩,
   ⟨run, spi [0x80000003,2,5,6,1,2,3,4,5,6,7,8], by decide +kernel, by decide +kernel, by decide +kernel, by decide +kernel⟩,
   ⟨run, spi [0x8000003,0xFFFFFFFF], by decide +kernel, by decide +kernel⟩⟩

/-- States and operands that meet the hypotheses of SessionMessages, clause by clause. -/
theorem witness_SessionMessages :
    (∃ (s : State) (sid : Nat) (x : Session), s.session? sid = some x ∧ s.tpUp = true ∧ x.run.st = .master ∧ x.run.m3 = false ∧
      x.cfg.auth = 0 ∧ s.ringRole x.cfg.port = none ∧ s.pairGateOpen = true ∧ s.buf.iqTime.length < 2048) ∧
    (∃ (s : State) (sid kind : Nat) (x : Session), s.session? sid = some x ∧ kind < 2 ∧ (x.run.st ≠ .master ∨ s.tpUp = false)) ∧
    (∃ (s : State) (sid kind : Nat), s.session? sid = none) ∧
    (∃ (s : State), (s.tpUp = false ∨ s.puntHead 0 (fun f => (s.frameMsg f).isSome) = none)) ∧
    (∃ (s : State) (it : PuntItem) (f : Frame) (tr : Nat) (m : Msg), s.tpUp = true ∧
      s.puntHead 0 (fun f => (s.frameMsg f).isSome) = some (it, f) ∧ s.frameMsg f = some (tr, m) ∧ s.takerOf f.inPort tr m = none) ∧
    (∃ (s : State) (it : PuntItem) (f : Frame) (tr sid : Nat) (m : Msg) (x : Session), s.tpUp = true ∧
      s.puntHead 0 (fun f => (s.frameMsg f).isSome) = some (it, f) ∧ f.badFcs = false ∧ s.frameMsg f = some (tr, m) ∧
      s.takerOf f.inPort tr m = some sid ∧ s.session? sid = some x ∧ x.cfg.auth = 0 ∧ m.typ = 0 ∧ m.twoStep = true ∧
      (x.run.st = .uncalibrated ∨ x.run.st = .slave) ∧ x.run.fromParent m = true) ∧
    (∃ (s : State) (k : Nat), k < 104 ∧ (s.esmc k).en = true ∧ s.tpUp = true ∧ s.portExists k = true ∧ s.pairGateOpen = true ∧
      s.buf.iqTime.length < 2048 ∧ Tab.sorted s.ptp.esmc = true) ∧
    (∃ (s : State) (k : Nat), ((s.esmc k).en = false ∨ s.tpUp = false ∨ s.portExists k = false)) ∧
    (∃ (s : State), (s.tpUp = false ∨ s.puntHead 0 (fun f => isEsmc f.bytes) = none)) ∧
    (∃ (s : State) (it : PuntItem) (f : Frame) (o : Nat), s.tpUp = true ∧ s.puntHead 0 (fun f => isEsmc f.bytes) = some (it, f) ∧
      f.badFcs = false ∧ esmcTlv (dropFcs f.bytes) 1 512 ((parseHdr false f.bytes).pay + 10) = some o ∧
      (beAt (dropFcs f.bytes) (o + 3) 1 % 16) ≠ 15) ∧
    (∃ (s : State) (k : Nat), k < 104) ∧
    (∃ (s : State) (sid : Nat) (x : Session), s.session? sid = some x ∧ (x.run.st = .uncalibrated ∨ x.run.st = .slave)) ∧
    (∃ (s : State) (sid : Nat), ((∀ x, s.session? sid = some x → x.run.st ≠ .uncalibrated ∧ x.run.st ≠ .slave))) ∧
    (∃ (s : State) (sid : Nat) (x : Session) (f : Foreign), s.session? sid = some x ∧ x.cfg.role = 1 ∧
      (x.run.st = .uncalibrated ∨ x.run.st = .slave) ∧ x.run.parent = some f ∧
      ((∀ g ∈ x.run.foreigns, g.ds.sender = f.ds.sender ∧ g.ds.senderPort = f.ds.senderPort))) ∧
    (∃ (s : State) (sid : Nat), ((∀ x, s.session? sid = some x → x.cfg.role = 0 ∨ x.cfg.role = 3 ∨ x.run.st = .down ∨ x.run.st = .master))) ∧
    (∃ (s : State) (sid : Nat) (x : Session), s.session? sid = some x ∧ x.run.m3 = true ∧ x.run.st ≠ .down ∧
      (s.inst x.cfg.tb).slaveOnly = false) ∧
    (∃ (s : State) (sid : Nat) (x : Session), s.session? sid = some x ∧ x.run.m3 = true ∧ x.run.st ≠ .down ∧
      (s.inst x.cfg.tb).slaveOnly = true) ∧
    (∃ (s : State) (sid : Nat), ((∀ x, s.session? sid = some x → x.run.m3 = false ∨ x.run.st = .down))) :=
  ⟨⟨mst, 5, {cfg := scfg 2, run := {st := .master}}, by decide +kernel, by decide +kernel, by decide +kernel, by decide +kernel,
    by decide +kernel, by decide +kernel, by decide +kernel, by decide +kernel⟩,
   ⟨withSes {cfg := scfg 2}, 5, 0, {cfg := scfg 2}, by decide +kernel, by decide +kernel, by decide +kernel⟩,
   ⟨run, 5, 1, by decide +kernel⟩,
   ⟨run, by decide +kernel⟩,
   ⟨rxs run 3 syncB, ⟨9,.time,false⟩, (rxs run 3 syncB).buf.frames.headD (frm 0 []), (fm (rxs run 3 syncB)).1, (fm (rxs run 3 syncB)).2,
    by decide +kernel, by decide +kernel, by decide +kernel, by decide +kernel⟩,
   ⟨rxSync .slave, ⟨9,.time,false⟩, (rxSync .slave).buf.frames.headD (frm 0 []), (fm (rxSync .slave)).1, 5, (fm (rxSync .slave)).2,
    slv .slave (fm (rxSync .slave)).2, by decide +kernel, by decide +kernel, by decide +kernel, by decide +kernel, by decide +kernel,
    by decide +kernel, by decide +kernel, by decide +kernel, by decide +kernel, by decide +kernel, by decide +kernel⟩,
   ⟨{run with ptp := {run.ptp with esmc := [(3,{en := true})]}}, 3, by decide +kernel, by decide +kernel, by decide +kernel,
    by decide +kernel, by decide +kernel, by decide +kernel, by decide +kernel⟩,
   ⟨run, 3, by decide +kernel⟩,
   ⟨run, by decide +kernel⟩,
   ⟨(rxs run 3 (sent (.esmcPduSend 3) {run with ptp := {run.ptp with esmc := [(3,{en := true, force := true, txQl := 4})]}})),
    ⟨9,.time,false⟩,
    (rxs run 3 (sent (.esmcPduSend 3) {run with ptp := {run.ptp with esmc := [(3,{en := true, force := true, txQl := 4})]}})).buf.frames.headD (frm 0 []),
    24, by decide +kernel, by decide +kernel, by decide +kernel, by decide +kernel, by decide +kernel⟩,
   ⟨run, 3, by decide +kernel⟩,
   ⟨(rxSync .slave), 5, slv .slave (fm (rxSync .slave)).2, by decide +kernel, by decide +kernel⟩,
   ⟨run, 5, by decide +kernel⟩,
   ⟨(rxSync .slave), 5, slv .slave (fm (rxSync .slave)).2, { ds := ds0 (fm (rxSync .slave)).2, logAnn := 0, last := 0 },
    by decide +kernel, by decide +kernel, by decide +kernel, by decide +kernel, by decide +kernel⟩,
   ⟨run, 5, by decide +kernel⟩,
   ⟨(withSes {cfg := scfg 0, run := {st := .listening, m3 := true}}), 5, {cfg := scfg 0, run := {st := .listening, m3 := true}},
    by decide +kernel, by decide +kernel, by decide +kernel, by decide +kernel⟩,
   ⟨(let s := withSes { cfg := scfg 0, run := { st := .listening, m3 := true } }; { s with ptp := { s.ptp with insts := [(1, {slaveOnly := true})] } }),
    5, { cfg := scfg 0, run := { st := .listening, m3 := true } }, by decide +kernel, by decide +kernel, by decide +kernel,
    by decide +kernel⟩,
   ⟨run, 5, by decide +kernel⟩⟩

/-- States and operands that meet the hypotheses of PairCommands, clause by clause. -/
theorem witness_PairCommands :
    (∃ (s : State) (p : Pkt), s.accepts 0x0E01 (lenIs 1) p = true ∧ bit (wd p.words 0) 0 = false) ∧
    (∃ (s : State) (p : Pkt), s.accepts 0x0E01 (lenIs 1) p = true ∧ bit (wd p.words 0) 0 = true) ∧
    (∃ (s : State) (p : Pkt), s.accepts 0x0E00 (lenIs 11) p = true ∧ bit (wd p.words 0) 31 = false) ∧
    (∃ (s : State) (p : Pkt), s.accepts 0x0E00 (lenIs 11) p = true ∧ bit (wd p.words 0) 31 = true) ∧
    (∃ (s : State) (p : Pkt), s.accepts 0x0E02 (lenIs 1) p = true ∧ s.prun.st ≠ .active ∧ s.prun.st ≠ .standby) ∧
    (∃ (s : State) (p : Pkt), s.accepts 0x0E02 (lenIs 1) p = true ∧ s.prun.st = .active ∧ s.prun.twinUp = true ∧ s.prun.partnerSt = 3) ∧
    (∃ (s : State) (p : Pkt), s.accepts 0x0E02 (lenIs 1) p = true ∧ s.prun.st = .active ∧ (s.prun.twinUp = false ∨ s.prun.partnerSt ≠ 3)) ∧
    (∃ (s : State) (p : Pkt), s.accepts 0x0E02 (lenIs 1) p = true ∧ s.prun.st = .standby ∧ s.prun.twinUp = false ∧
      bit (wd p.words 0) 0 = false) ∧
    (∃ (s : State) (p : Pkt), s.accepts 0x0E02 (lenIs 1) p = true ∧ s.prun.st = .standby ∧
      (s.prun.twinUp = true ∨ bit (wd p.words 0) 0 = true)) :=
  ⟨⟨pu 0 .active, spi [0], by decide +kernel, by decide +kernel⟩,
   ⟨pu 0 .active, spi [1], by decide +kernel, by decide +kernel⟩,
   ⟨run, spi [0,0xFFFFFFFF,0xFFFFFFFF,0xFFFFFFFF,0xFFFFFFFF,0xFFFFFFFF,0xFFFFFFFF,0xFFFFFFFF,0xFFFFFFFF,0xFFFFFFFF,0xFFFFFFFF],
    by decide +kernel, by decide +kernel⟩,
   ⟨run, spi [0x80000000,0xFFFFFFFF,0xFFFFFFFF,0xFFFFFFFF,0xFFFFFFFF,0xFFFFFFFF,0xFFFFFFFF,0xFFFFFFFF,0xFFFFFFFF,0xFFFFFFFF,0xFFFFFFFF],
    by decide +kernel, by decide +kernel⟩,
   ⟨{(pu 0 .off) with prun := {(pu 0 .off).prun with twinUp := true, partnerSt := 3}}, spi [0], by decide +kernel, by decide +kernel,
    by decide +kernel⟩,
   ⟨{(pu 0 .active) with prun := {(pu 0 .active).prun with twinUp := true, partnerSt := 3}}, spi [0], by decide +kernel,
    by decide +kernel, by decide +kernel, by decide +kernel⟩,
   ⟨{(pu 0 .active) with prun := {(pu 0 .active).prun with twinUp := false, partnerSt := 3}}, spi [0], by decide +kernel,
    by decide +kernel, by decide +kernel⟩,
   ⟨{(pu 0 .standby) with prun := {(pu 0 .standby).prun with twinUp := false, partnerSt := 3}}, spi [0], by decide +kernel,
    by decide +kernel, by decide +kernel, by decide +kernel⟩,
   ⟨{(pu 0 .standby) with prun := {(pu 0 .standby).prun with twinUp := true, partnerSt := 3}}, spi [0], by decide +kernel,
    by decide +kernel, by decide +kernel⟩⟩

/-- States and operands that meet the hypotheses of PairStates, clause by clause. -/
theorem witness_PairStates :
    (∃ (s : State), (s.prun.st = .standby ∨ s.prun.st = .failed) ∧ s.prun.activeAt + s.pcfg.takeoverDelay * 125000 ≤ s.clk.tick) ∧
    (∃ (s : State), ((s.prun.st ≠ .standby ∧ s.prun.st ≠ .failed) ∨ s.clk.tick < s.prun.activeAt + s.pcfg.takeoverDelay * 125000)) ∧
    (∃ (s : State), s.prun.st = .joining ∧ s.prun.heardAt + s.pcfg.takeoverDelay * 125000 ≤ s.clk.tick) ∧
    (∃ (s : State), (s.prun.st ≠ .joining ∨ s.clk.tick < s.prun.heardAt + s.pcfg.takeoverDelay * 125000)) ∧
    (∃ (s u : State) (f : Frame) (t : Twin), s.takeTwin 5 = (some (f, t), u) ∧ u.prun.st = .standby) ∧
    (∃ (s u : State) (f : Frame) (t : Twin), s.takeTwin 5 = (some (f, t), u) ∧ u.prun.st ≠ .standby) ∧
    (∃ (s u : State), s.takeTwin 5 = (none, u)) ∧
    (∃ (s : State) (x : PuntItem) (f : Frame) (t : Twin), s.tpUp = true ∧ s.twinHeadFrame = some (x, f, t) ∧ s.onTwin f = true ∧
      f.badFcs = false ∧ s.isPartner t = true ∧ t.kind = 0 ∧ t.st = 2 ∧ s.prun.st = .joining ∧ t.variant = (if s.isMi then 1 else 2)) ∧
    (∃ (s : State) (x : PuntItem) (f : Frame) (t : Twin), s.tpUp = true ∧ s.twinHeadFrame = some (x, f, t) ∧ s.onTwin f = true ∧
      f.badFcs = false ∧ s.isPartner t = true ∧ t.kind = 0 ∧ t.st = 2 ∧ s.prun.st = .active ∧ aheadOf 32 t.gen s.mram.pairGen = true) ∧
    (∃ (s : State), (s.tpUp = false ∨ s.twinHeadFrame = none)) ∧
    (∃ (s : State) (x : PuntItem) (f : Frame) (t : Twin), s.tpUp = true ∧ s.twinHeadFrame = some (x, f, t) ∧ s.pcfg.en = false ∧
      s.pcfg.filter = true ∧ f.badFcs = false ∧ s.prun.pairs = []) ∧
    (∃ (s : State) (k : Nat) (e : PairEnt), k < 16 ∧ Tab.find? s.prun.pairs k = some e ∧ e.last + 1250000000 ≤ s.clk.tick) ∧
    (∃ (s : State) (k : Nat), ((∀ e, Tab.find? s.prun.pairs k = some e → s.clk.tick < e.last + 1250000000))) ∧
    (∃ (s : State) (d : Disputed) (sig : Bool), s.prun.dispute = some d ∧ s.prun.own = none ∧ s.prun.partner = none) ∧
    (∃ (s : State) (d : Disputed) (v : Verdict), s.prun.dispute = some d ∧ s.prun.own = none ∧ s.prun.partner = some v ∧ v.pass = true ∧
      s.prun.st = .standby) ∧
    (∃ (s : State) (sig : Bool), (s.prun.dispute = none ∨ s.prun.own ≠ none)) ∧
    (∃ (s u : State) (f : Frame) (t : Twin), s.takeTwin 3 = (some (f, t), u) ∧ u.prun.dispute = none ∧ u.prun.st ≠ .active) ∧
    (∃ (s u : State) (f : Frame) (t : Twin) (d : Disputed), s.takeTwin 3 = (some (f, t), u) ∧ u.prun.dispute = some d ∧ u.prun.own = none) ∧
    (∃ (s u : State), s.takeTwin 3 = (none, u)) :=
  ⟨⟨pu 0 .standby 0xFFFFFFFF, by decide +kernel, by decide +kernel⟩,
   ⟨run, by decide +kernel⟩,
   ⟨pu 0 .joining, by decide +kernel, by decide +kernel⟩,
   ⟨run, by decide +kernel⟩,
   ⟨(tw 5 [] (pu 0 .standby) (pu 1 .active 9)), tku (tw 5 [] (pu 0 .standby) (pu 1 .active 9)) 5,
    (tkf (tw 5 [] (pu 0 .standby) (pu 1 .active 9)) 5).1, (tkf (tw 5 [] (pu 0 .standby) (pu 1 .active 9)) 5).2, by decide +kernel,
    by decide +kernel⟩,
   ⟨(tw 5 [] (pu 0 .active) (pu 1 .active 9)), tku (tw 5 [] (pu 0 .active) (pu 1 .active 9)) 5,
    (tkf (tw 5 [] (pu 0 .active) (pu 1 .active 9)) 5).1, (tkf (tw 5 [] (pu 0 .active) (pu 1 .active 9)) 5).2, by decide +kernel,
    by decide +kernel⟩,
   ⟨run, run, by decide +kernel⟩,
   ⟨(rxs (pu 0 .joining) 31 (sent .pairBeaconSend (pu 1 .active 9))),
    (thf (rxs (pu 0 .joining) 31 (sent .pairBeaconSend (pu 1 .active 9)))).1,
    (thf (rxs (pu 0 .joining) 31 (sent .pairBeaconSend (pu 1 .active 9)))).2.1,
    (thf (rxs (pu 0 .joining) 31 (sent .pairBeaconSend (pu 1 .active 9)))).2.2, by decide +kernel, by decide +kernel, by decide +kernel,
    by decide +kernel, by decide +kernel, by decide +kernel, by decide +kernel, by decide +kernel, by decide +kernel⟩,
   ⟨(rxs (pu 0 .active) 31 (sent .pairBeaconSend (pu 1 .active 9))),
    (thf (rxs (pu 0 .active) 31 (sent .pairBeaconSend (pu 1 .active 9)))).1,
    (thf (rxs (pu 0 .active) 31 (sent .pairBeaconSend (pu 1 .active 9)))).2.1,
    (thf (rxs (pu 0 .active) 31 (sent .pairBeaconSend (pu 1 .active 9)))).2.2, by decide +kernel, by decide +kernel, by decide +kernel,
    by decide +kernel, by decide +kernel, by decide +kernel, by decide +kernel, by decide +kernel, by decide +kernel⟩,
   ⟨run, by decide +kernel⟩,
   ⟨(rxs {run with pcfg := {run.pcfg with filter := true}} 7 (sent .pairBeaconSend (pu 0 .active 9))),
    (thf (rxs {run with pcfg := {run.pcfg with filter := true}} 7 (sent .pairBeaconSend (pu 0 .active 9)))).1,
    (thf (rxs {run with pcfg := {run.pcfg with filter := true}} 7 (sent .pairBeaconSend (pu 0 .active 9)))).2.1,
    (thf (rxs {run with pcfg := {run.pcfg with filter := true}} 7 (sent .pairBeaconSend (pu 0 .active 9)))).2.2, by decide +kernel,
    by decide +kernel, by decide +kernel, by decide +kernel, by decide +kernel, by decide +kernel⟩,
   ⟨{(pu 0 .standby) with prun := {(pu 0 .standby).prun with pairs := [(3,{mac := 5, last := 77})]}}, 3, {mac := 5, last := 77},
    by decide +kernel, by decide +kernel, by decide +kernel⟩,
   ⟨pu 0 .standby, 3, by decide +kernel⟩,
   ⟨{(pu 0 .standby) with prun := {(pu 0 .standby).prun with dispute := some (.ham 0)}}, .ham 0, true, by decide +kernel,
    by decide +kernel, by decide +kernel⟩,
   ⟨{(pu 0 .standby) with prun := {(pu 0 .standby).prun with twinUp := true, dispute := some (.ham 0), partner := some {pass := true, e := none}}},
    .ham 0, {pass := true, e := none}, by decide +kernel, by decide +kernel, by decide +kernel, by decide +kernel, by decide +kernel⟩,
   ⟨run, true, by decide +kernel⟩,
   ⟨(tw 3 [3,5] {(pu 0 .standby) with prun := {(pu 0 .standby).prun with dispute := none}} (pu 1 .active 9)),
    tku (tw 3 [3,5] {(pu 0 .standby) with prun := {(pu 0 .standby).prun with dispute := none}} (pu 1 .active 9)) 3,
    (tkf (tw 3 [3,5] {(pu 0 .standby) with prun := {(pu 0 .standby).prun with dispute := none}} (pu 1 .active 9)) 3).1,
    (tkf (tw 3 [3,5] {(pu 0 .standby) with prun := {(pu 0 .standby).prun with dispute := none}} (pu 1 .active 9)) 3).2, by decide +kernel,
    by decide +kernel, by decide +kernel⟩,
   ⟨(tw 3 [3,5] {(pu 0 .standby) with prun := {(pu 0 .standby).prun with dispute := some .digest}} (pu 1 .active 9)),
    tku (tw 3 [3,5] {(pu 0 .standby) with prun := {(pu 0 .standby).prun with dispute := some .digest}} (pu 1 .active 9)) 3,
    (tkf (tw 3 [3,5] {(pu 0 .standby) with prun := {(pu 0 .standby).prun with dispute := some .digest}} (pu 1 .active 9)) 3).1,
    (tkf (tw 3 [3,5] {(pu 0 .standby) with prun := {(pu 0 .standby).prun with dispute := some .digest}} (pu 1 .active 9)) 3).2, .digest,
    by decide +kernel, by decide +kernel, by decide +kernel⟩,
   ⟨run, run, by decide +kernel⟩⟩

/-- States and operands that meet the hypotheses of PairFrames, clause by clause. -/
theorem witness_PairFrames :
    (∃ (s : State), s.prun.st ≠ .off ∧ s.start.power = .run ∧ s.tpUp = true ∧ s.buf.iqTime.length + 1 < 2048) ∧
    (∃ (s : State), (s.prun.st = .off ∨ s.start.power ≠ .run)) ∧
    (∃ (s : State), s.pcfg.en = true ∧ s.prun.st ≠ .off ∧ s.start.power = .run ∧ s.tpUp = true ∧ s.buf.iqTime.length < 2048) ∧
    (∃ (s u : State), s.takeTwin 1 = (none, u)) ∧
    (∃ (s u : State), s.takeTwin 2 = (none, u)) ∧
    (∃ (s u : State), s.takeTwin 4 = (none, u)) ∧
    (∃ (s u : State) (f : Frame) (t : Twin), s.takeTwin 1 = (some (f, t), u) ∧ u.prun.twinTx = none) ∧
    (∃ (s u : State) (f : Frame) (t : Twin) (own : List Int), s.takeTwin 1 = (some (f, t), u) ∧
      u.prun.twinTx = some (fld (wd t.content 48) 15 0, own) ∧ ((t.content.drop 24).take 24).all (fun w => decide (w = 0)) = false ∧
      u.prun.syncCmp = []) ∧
    (∃ (s u : State) (f : Frame) (t : Twin), s.takeTwin 2 = (some (f, t), u) ∧ u.comparing = false) ∧
    (∃ (s u : State) (f : Frame) (t : Twin), s.takeTwin 2 = (some (f, t), u) ∧ u.comparing = true ∧ wd t.content 0 = 0 ∧
      u.pcfg.cmpHam = true ∧ u.prun.hamCmp = [] ∧ u.prun.ham0 = []) ∧
    (∃ (s : State), (s.pcfg.en = false ∨ s.pcfg.cmpDigest = false ∨ s.prun.twinUp = false)) ∧
    (∃ (s : State), s.pcfg.en = true ∧ s.pcfg.cmpDigest = true ∧ s.prun.twinUp = true ∧ s.prun.st = .active ∧ s.tpUp = true ∧
      s.buf.iqTime.length < 2048) ∧
    (∃ (s u : State) (f : Frame) (t : Twin), s.takeTwin 4 = (some (f, t), u) ∧ wd t.content 0 = 2 ∧ u.isMi = true ∧
      (u.prun.st = .standby ∨ u.prun.st = .failed)) ∧
    (∃ (s u : State) (f : Frame) (t : Twin) (op : Nat) (p : Pkt), s.takeTwin 4 = (some (f, t), u) ∧ 16 ≤ (wd t.content 0).toNat ∧
      parsePacket .twin t.content = .cmd op p ∧ u.pcfg.cfgMirror = true ∧ u.prun.st = .standby ∧ u.takes .twin = true ∧
      unmirrored op = false ∧ (opManager op = false ∨ u.isMi = true) ∧ Pkt.cls op p.words = .c ∧ ((opEntry op).1 p.words).isNone = true) ∧
    (∃ (s : State), s.pcfg.en = true ∧ s.prun.twinUp = true ∧ s.prun.twinAt + 1250000 ≤ s.clk.tick) ∧
    (∃ (s : State), (s.pcfg.en = false ∨ s.prun.twinUp = false ∨ s.clk.tick < s.prun.twinAt + 1250000)) :=
  ⟨⟨(pu 0 .active), by decide +kernel, by decide +kernel, by decide +kernel, by decide +kernel⟩,
   ⟨run, by decide +kernel⟩,
   ⟨(pu 0 .active), by decide +kernel, by decide +kernel, by decide +kernel, by decide +kernel, by decide +kernel⟩,
   ⟨run, run, by decide +kernel⟩,
   ⟨run, run, by decide +kernel⟩,
   ⟨run, run, by decide +kernel⟩,
   ⟨(rxs (pu 0 .active) 31 (sent .twinTimeSend (pu 1 .standby 9))), tku (rxs (pu 0 .active) 31 (sent .twinTimeSend (pu 1 .standby 9))) 1,
    (tkf (rxs (pu 0 .active) 31 (sent .twinTimeSend (pu 1 .standby 9))) 1).1,
    (tkf (rxs (pu 0 .active) 31 (sent .twinTimeSend (pu 1 .standby 9))) 1).2, by decide +kernel, by decide +kernel⟩,
   ⟨(tw 1 ((List.range 49).map (fun i => BitVec.ofNat 32 (if i = 48 then 0x00050077 else 3*i+1))) {(pu 0 .active) with prun := {(pu 0 .active).prun with twinTx := some (0x77, [5,6,7,8,9,10,11,12])}} (pu 1 .standby 9)),
    tku (tw 1 ((List.range 49).map (fun i => BitVec.ofNat 32 (if i = 48 then 0x00050077 else 3*i+1))) {(pu 0 .active) with prun := {(pu 0 .active).prun with twinTx := some (0x77, [5,6,7,8,9,10,11,12])}} (pu 1 .standby 9)) 1,
    (tkf (tw 1 ((List.range 49).map (fun i => BitVec.ofNat 32 (if i = 48 then 0x00050077 else 3*i+1))) {(pu 0 .active) with prun := {(pu 0 .active).prun with twinTx := some (0x77, [5,6,7,8,9,10,11,12])}} (pu 1 .standby 9)) 1).1,
    (tkf (tw 1 ((List.range 49).map (fun i => BitVec.ofNat 32 (if i = 48 then 0x00050077 else 3*i+1))) {(pu 0 .active) with prun := {(pu 0 .active).prun with twinTx := some (0x77, [5,6,7,8,9,10,11,12])}} (pu 1 .standby 9)) 1).2,
    [5,6,7,8,9,10,11,12], by decide +kernel, by decide +kernel, by decide +kernel, by decide +kernel⟩,
   ⟨(tw 2 [0,0,5,1,2,3,0x102] (pu 0 .active) (pu 1 .active 9)), tku (tw 2 [0,0,5,1,2,3,0x102] (pu 0 .active) (pu 1 .active 9)) 2,
    (tkf (tw 2 [0,0,5,1,2,3,0x102] (pu 0 .active) (pu 1 .active 9)) 2).1,
    (tkf (tw 2 [0,0,5,1,2,3,0x102] (pu 0 .active) (pu 1 .active 9)) 2).2, by decide +kernel, by decide +kernel⟩,
   ⟨tw 2 [0,0,5,1,2,3,0x102] (pu2 0 .standby) (pu 1 .active 9), tku (tw 2 [0,0,5,1,2,3,0x102] (pu2 0 .standby) (pu 1 .active 9)) 2,
    (tkf (tw 2 [0,0,5,1,2,3,0x102] (pu2 0 .standby) (pu 1 .active 9)) 2).1,
    (tkf (tw 2 [0,0,5,1,2,3,0x102] (pu2 0 .standby) (pu 1 .active 9)) 2).2, by decide +kernel, by decide +kernel, by decide +kernel,
    by decide +kernel, by decide +kernel, by decide +kernel⟩,
   ⟨run, by decide +kernel⟩,
   ⟨{(pu 0 .active) with pcfg := {(pu 0 .active).pcfg with cmpDigest := true}, prun := {(pu 0 .active).prun with twinUp := true, digest := [(5,1,1,1)]}},
    by decide +kernel, by decide +kernel, by decide +kernel, by decide +kernel, by decide +kernel, by decide +kernel⟩,
   ⟨(tw 4 [2,5] {(pu 0 .standby) with workers := [(5, kid .present)]} (pu 1 .active 9)),
    tku (tw 4 [2,5] {(pu 0 .standby) with workers := [(5, kid .present)]} (pu 1 .active 9)) 4,
    (tkf (tw 4 [2,5] {(pu 0 .standby) with workers := [(5, kid .present)]} (pu 1 .active 9)) 4).1,
    (tkf (tw 4 [2,5] {(pu 0 .standby) with workers := [(5, kid .present)]} (pu 1 .active 9)) 4).2, by decide +kernel, by decide +kernel,
    by decide +kernel, by decide +kernel⟩,
   ⟨(tw 4 [0xA7100402,3,0x3FFFF,0x3FFFF,0x80000003,0,5] (pu 0 .standby) (pu 1 .active 9)),
    tku (tw 4 [0xA7100402,3,0x3FFFF,0x3FFFF,0x80000003,0,5] (pu 0 .standby) (pu 1 .active 9)) 4,
    (tkf (tw 4 [0xA7100402,3,0x3FFFF,0x3FFFF,0x80000003,0,5] (pu 0 .standby) (pu 1 .active 9)) 4).1,
    (tkf (tw 4 [0xA7100402,3,0x3FFFF,0x3FFFF,0x80000003,0,5] (pu 0 .standby) (pu 1 .active 9)) 4).2, 0x0402,
    {via := .twin, words := [0x80000003,0,5]}, by decide +kernel, by decide +kernel, by decide +kernel, by decide +kernel,
    by decide +kernel, by decide +kernel, by decide +kernel, by decide +kernel, by decide +kernel, by decide +kernel⟩,
   ⟨{(pu 0 .active) with prun := {(pu 0 .active).prun with twinUp := true, dispute := some .digest}}, by decide +kernel,
    by decide +kernel, by decide +kernel⟩,
   ⟨run, by decide +kernel⟩⟩

/-- States and operands that meet the hypotheses of HierCommands, clause by clause. -/
theorem witness_HierCommands :
    (∃ (s : State) (p : Pkt), s.accepts 0x0D00 (lenIs 10) p = true ∧ bit (wd p.words 0) 31 = false ∧ bit (wd p.words 0) 29 = false) ∧
    (∃ (s : State) (p : Pkt), s.accepts 0x0D00 (lenIs 10) p = true ∧ bit (wd p.words 0) 31 = true ∧ bit (wd p.words 0) 29 = false) ∧
    (∃ (s : State) (p : Pkt), s.accepts 0x0D01 (lenIs 4) p = true ∧
      s.enrollReason ({ childId := (min 0x3FFFE (fld (wd p.words 0) 17 0)), subHi := if (min 1 (fld (wd p.words 0) 19 18)) = 0 then (min 0x3FFFE (fld (wd p.words 0) 17 0)) else clamp (min 0x3FFFE (fld (wd p.words 0) 17 0)) 0x3FFFE (fld (wd p.words 3) 29 12), mac := macOf (wd p.words 1) (wd p.words 2), port := min 103 (fld (wd p.words 2) 6 0), vid := clamp 1 4094 (fld (wd p.words 3) 11 0), vlanEn := bit (wd p.words 2) 11, pcp := fld (wd p.words 2) 10 8, kind := (min 1 (fld (wd p.words 0) 19 18)) } : Worker) ≠ 0) ∧
    (∃ (s : State) (p : Pkt), s.accepts 0x0D01 (lenIs 4) p = true ∧
      s.enrollReason ({ childId := (min 0x3FFFE (fld (wd p.words 0) 17 0)), subHi := if (min 1 (fld (wd p.words 0) 19 18)) = 0 then (min 0x3FFFE (fld (wd p.words 0) 17 0)) else clamp (min 0x3FFFE (fld (wd p.words 0) 17 0)) 0x3FFFE (fld (wd p.words 3) 29 12), mac := macOf (wd p.words 1) (wd p.words 2), port := min 103 (fld (wd p.words 2) 6 0), vid := clamp 1 4094 (fld (wd p.words 3) 11 0), vlanEn := bit (wd p.words 2) 11, pcp := fld (wd p.words 2) 10 8, kind := (min 1 (fld (wd p.words 0) 19 18)) } : Worker) = 0 ∧
      bit (wd p.words 0) 20 = false ∧ ((∀ e, s.childOf (min 0x3FFFE (fld (wd p.words 0) 17 0)) = some e → e.2.pres ≠ .absent))) ∧
    (∃ (s : State) (p : Pkt), s.accepts 0x0D02 (lenIs 1) p = true ∧ s.childOf (fld (wd p.words 0) 17 0) = none) ∧
    (∃ (s : State) (p : Pkt) (e : Nat × Worker), s.accepts 0x0D02 (lenIs 1) p = true ∧ s.childOf (fld (wd p.words 0) 17 0) = some e ∧
      bit (wd p.words 0) 20 = false ∧ s.axg.relays.all (fun r => decide (r.child ≠ (fld (wd p.words 0) 17 0))) = true ∧
      s.hier.bcasts = [] ∧ s.axg.jobs.all (fun j => match j.work with | .enroll _ _ => false | _ => true) = true ∧ e.2.pres ≠ .absent) ∧
    (∃ (s : State) (p : Pkt), s.accepts 0x0D03 (lenIs 2) p = true) ∧
    (∃ (s : State) (p : Pkt), s.accepts 0x0D07 (lenIs 1) p = true) ∧
    (∃ (s : State) (p : Pkt), s.accepts 0x0D08 lenHierStatus p = true ∧ bit (wd p.words 0) 31 = false) ∧
    (∃ (s : State) (p : Pkt) (port sa : Nat) (tci : Option Nat), s.accepts 0x0D08 lenHierStatus p = true ∧ bit (wd p.words 0) 31 = true ∧
      p.via = .inband port sa tci ∧ s.isMi = false) ∧
    (∃ (s : State) (p : Pkt) (port sa : Nat) (tci : Option Nat), s.accepts 0x0D08 lenHierStatus p = true ∧ bit (wd p.words 0) 31 = true ∧
      p.via = .inband port sa tci ∧ s.isMi = true ∧ s.childOf p.srcId = none) ∧
    (∃ (s : State) (p : Pkt) (port sa : Nat) (tci : Option Nat) (k : Nat) (w : Worker), s.accepts 0x0D08 lenHierStatus p = true ∧
      bit (wd p.words 0) 31 = true ∧ p.via = .inband port sa tci ∧ s.isMi = true ∧ s.childOf p.srcId = some (k, w) ∧ w.mac = sa ∧
      bit (wd p.words 0) 30 = false ∧ w.pres = .present ∧ s.hier.closure = none ∧
      s.axg.jobs.all (fun j => match j.work with | .enroll _ _ => false | _ => true) = true) :=
  ⟨⟨run, spi [0,0,0,0,0,0,0,0,0,0], by decide +kernel, by decide +kernel, by decide +kernel⟩,
   ⟨run, spi [0x80000000,0,0,0,0,0,0,0,0,0], by decide +kernel, by decide +kernel, by decide +kernel⟩,
   ⟨run, spi [40,0,5,0], by decide +kernel, by decide +kernel⟩,
   ⟨mgr .present, spi [40,0,5,0], by decide +kernel, by decide +kernel, by decide +kernel, by decide +kernel⟩,
   ⟨run, spi [20], by decide +kernel, by decide +kernel⟩,
   ⟨mgr .present, spi [20], (0, kid .present), by decide +kernel, by decide +kernel, by decide +kernel, by decide +kernel,
    by decide +kernel, by decide +kernel, by decide +kernel⟩,
   ⟨mgr .absent, spi [0,0xFFFFFFFF], by decide +kernel⟩,
   ⟨run, pk [3], by decide +kernel⟩,
   ⟨run, spi [0], by decide +kernel, by decide +kernel⟩,
   ⟨{run with fused := {mi := false}, axg := {run.axg with authReq := false}},
    {via := .inband 4 0x1234 none, srcId := 20, words := [0x80020000,1,2,3,4,5,6,7]}, 4, 0x1234, none, by decide +kernel,
    by decide +kernel, by decide +kernel, by decide +kernel⟩,
   ⟨{(run) with axg := {run.axg with authReq := false}}, {via := .inband 4 0x1234 none, srcId := 20, words := [0x80020000,1,2,3,4,5,6,7]},
    4, 0x1234, none, by decide +kernel, by decide +kernel, by decide +kernel, by decide +kernel, by decide +kernel⟩,
   ⟨{(mgr .present) with axg := {run.axg with authReq := false}},
    {via := .inband 4 0x1234 none, srcId := 20, words := [0x80020000,1,2,3,4,5,6,7]}, 4, 0x1234, none, 0, kid .present, by decide +kernel,
    by decide +kernel, by decide +kernel, by decide +kernel, by decide +kernel, by decide +kernel, by decide +kernel, by decide +kernel,
    by decide +kernel, by decide +kernel⟩⟩

/-- States and operands that meet the hypotheses of BroadcastAndClosure, clause by clause. -/
theorem witness_BroadcastAndClosure :
    (∃ (s : State) (p : Pkt), s.accepts 0x0D05 lenBroadcast p = true ∧ fld (wd p.words 0) 15 0 = 0 ∧ s.hier.bcasts = [] ∧
      s.axg.relays.length < 1024 ∧ s.workers = []) ∧
    (∃ (s : State) (p : Pkt) (k : Nat) (w : Worker), s.accepts 0x0D05 lenBroadcast p = true ∧ fld (wd p.words 0) 15 0 = 0 ∧
      s.hier.bcasts = [] ∧ s.axg.relays.length < 1024 ∧ s.workers = [(k, w)] ∧ w.pres = .absent) ∧
    (∃ (s : State) (p : Pkt) (k : Nat) (w : Worker), s.accepts 0x0D05 lenBroadcast p = true ∧ fld (wd p.words 0) 15 0 = 0 ∧
      s.hier.bcasts = [] ∧ s.axg.relays.length < 1024 ∧ s.workers = [(k, w)] ∧ w.pres ≠ .absent ∧ s.pairGateOpen = true) ∧
    (∃ (s : State) (p : Pkt), s.accepts 0x0D06 lenClosure p = true ∧ s.hier.closure = none ∧
      s.axg.jobs.all (fun j => match j.work with | .closure _ => false | _ => true) = true ∧
      s.closureReady (closureOf (s.ctxOf 0x0D06 p) p.words) = true ∧ s.hier.rings = []) ∧
    (∃ (s : State) (p : Pkt), s.accepts 0x0D06 lenClosure p = true ∧ s.hier.closure = none ∧
      s.axg.jobs.all (fun j => match j.work with | .closure _ => false | _ => true) = true ∧
      s.closureReady (closureOf (s.ctxOf 0x0D06 p) p.words) = false) ∧
    (∃ (s : State) (ccw : Bool) (r : Closure), s.hier.closure = some r ∧ s.tpUp = true ∧ s.closureReady r = true ∧
      s.buf.iqTime.length < 2048 ∧ (if ccw then r.sentCcw else r.sentCw) < 4 * r.probes) ∧
    (∃ (s : State) (ccw : Bool), (s.hier.closure = none ∨ s.tpUp = false)) ∧
    (∃ (s : State), s.buf.punted = []) ∧
    (∃ (s : State) (it : PuntItem) (f : Frame) (tr q : Nat) (m : Msg) (r : Closure) (tx : Int), s.hier.closure = some r ∧
      s.puntHead 0 s.isReturn = some (it, f) ∧ f.badFcs = false ∧ s.frameMsg f = some (tr, m) ∧
      r.flying.find? (fun x => decide (x.1 = m.seq)) = some (q, 0, some tx) ∧ r.sumCcw.length < r.probes) :=
  ⟨⟨run, pk [0, 0xA7100101, 0, 0x3FFFF, 0x3FFFF], by decide +kernel, by decide +kernel, by decide +kernel, by decide +kernel,
    by decide +kernel⟩,
   ⟨mgr .absent, pk [0, 0xA7100101, 0, 0x3FFFF, 0x3FFFF], 0, kid .absent, by decide +kernel, by decide +kernel, by decide +kernel,
    by decide +kernel, by decide +kernel, by decide +kernel⟩,
   ⟨mgr .present, pk [0, 0xA7100101, 0, 0x3FFFF, 0x3FFFF], 0, kid .present, by decide +kernel, by decide +kernel, by decide +kernel,
    by decide +kernel, by decide +kernel, by decide +kernel, by decide +kernel⟩,
   ⟨{(mgr .present) with workers := [(0,{(kid .present) with report := [0,0,0,0,0,0,0x00000405]}),(1,{(kid .present) with childId := 21, subHi := 21, mac := 7, report := [0,0,0,0,0,0,0x00000406]})], ptp := {run.ptp with sessions := [(6,{cfg := scfg 2, run := {st := .master}})]}},
    pk cloWs, by decide +kernel, by decide +kernel, by decide +kernel, by decide +kernel, by decide +kernel⟩,
   ⟨mgr .absent, pk cloWs, by decide +kernel, by decide +kernel, by decide +kernel, by decide +kernel⟩,
   ⟨{run with hier := {run.hier with closure := some cl0}}, true, cl0, by decide +kernel, by decide +kernel, by decide +kernel,
    by decide +kernel, by decide +kernel⟩,
   ⟨run, true, by decide +kernel⟩,
   ⟨run, by decide +kernel⟩,
   ⟨(rxs {run with fused := {run.fused with mgtMac := 0x665544332211}, hier := {run.hier with closure := some {cl0 with flying := [(0,0,some 77)]}}} 4 (sent (.closureProbeSend false) {run with fused := {run.fused with mgtMac := 0x665544332211}, hier := {run.hier with closure := some cl0}})),
    ⟨9,.time,false⟩,
    (rxs {run with fused := {run.fused with mgtMac := 0x665544332211}, hier := {run.hier with closure := some {cl0 with flying := [(0,0,some 77)]}}} 4 (sent (.closureProbeSend false) {run with fused := {run.fused with mgtMac := 0x665544332211}, hier := {run.hier with closure := some cl0}})).buf.frames.headD (frm 0 []),
    (fm (rxs {run with fused := {run.fused with mgtMac := 0x665544332211}, hier := {run.hier with closure := some {cl0 with flying := [(0,0,some 77)]}}} 4 (sent (.closureProbeSend false) {run with fused := {run.fused with mgtMac := 0x665544332211}, hier := {run.hier with closure := some cl0}}))).1,
    0,
    (fm (rxs {run with fused := {run.fused with mgtMac := 0x665544332211}, hier := {run.hier with closure := some {cl0 with flying := [(0,0,some 77)]}}} 4 (sent (.closureProbeSend false) {run with fused := {run.fused with mgtMac := 0x665544332211}, hier := {run.hier with closure := some cl0}}))).2,
    {cl0 with flying := [(0,0,some 77)]}, 77, by decide +kernel, by decide +kernel, by decide +kernel, by decide +kernel,
    by decide +kernel, by decide +kernel⟩⟩

/-- States and operands that meet the hypotheses of ReportsAndPresence, clause by clause. -/
theorem witness_ReportsAndPresence :
    (∃ (s : State),
      (s.hcfg.hasParent = false ∨ s.start.mpi ≠ .up ∨ s.start.power ≠ .run ∨ s.pairGateOpen = false ∨ ((s.clk.tick : Int) - (s.devId % 4096 * 38146 : Nat)) % 156250000 ≠ 0 ∨ s.hier.reportTick = some s.clk.tick)) ∧
    (∃ (s : State), s.hcfg.hasParent = true ∧ s.start.mpi = .up ∧ s.start.power = .run ∧ s.pairGateOpen = true ∧
      ((s.clk.tick : Int) - (s.devId % 4096 * 38146 : Nat)) % 156250000 = 0 ∧ s.hier.reportTick ≠ some s.clk.tick ∧
      (s.hier.reportTag = none ∨ s.hier.unanswered + 1 < s.hcfg.islandMiss)) ∧
    (∃ (s : State), s.hcfg.hasParent = true ∧ s.start.mpi = .up ∧ s.start.power = .run ∧ s.pairGateOpen = true ∧
      ((s.clk.tick : Int) - (s.devId % 4096 * 38146 : Nat)) % 156250000 = 0 ∧ s.hier.reportTick ≠ some s.clk.tick ∧
      s.hier.reportTag ≠ none ∧ s.hcfg.islandMiss ≤ s.hier.unanswered + 1 ∧ s.hier.st = .joined ∧ s.isManager = true) ∧
    (∃ (s : State) (port sa : Nat) (pkt w : List Word), port < 104 ∧ s.takes (.inband port sa none) = true ∧
      parsePacket (.inband port sa none) pkt = .reply w ∧ (sa ≠ s.hcfg.parentMac ∨ s.hier.reportTag ≠ some (fld (wd pkt 1) 31 16))) ∧
    (∃ (s : State) (port sa : Nat) (pkt w : List Word), port < 104 ∧ s.takes (.inband port sa none) = true ∧
      parsePacket (.inband port sa none) pkt = .reply w ∧ sa = s.hcfg.parentMac ∧ s.hier.reportTag = some (fld (wd pkt 1) 31 16) ∧
      State.replyFits pkt = true ∧ s.hier.st = .seeking ∧ bit (wd ((pkt.drop 4).take (fld (wd pkt 1) 15 0)) 0) 0 = true) ∧
    (∃ (s : State) (port sa : Nat) (pkt w : List Word), port < 104 ∧ s.takes (.inband port sa none) = true ∧
      parsePacket (.inband port sa none) pkt = .reply w ∧ s.relayFor sa pkt = none) ∧
    (∃ (s : State) (port sa : Nat) (pkt w : List Word) (r : Relay) (c : Ctx), port < 104 ∧ s.takes (.inband port sa none) = true ∧
      parsePacket (.inband port sa none) pkt = .reply w ∧ s.relayFor sa pkt = some r ∧ State.replyFits pkt = true ∧
      bit (wd pkt 0) 16 = false ∧ r.back = .carrier c ∧ c.via = .spi ∧ c.mute = false ∧ s.hier.bcasts = []) ∧
    (∃ (s : State) (port sa : Nat) (pkt : List Word), s.takes (.inband port sa none) = false) ∧
    (∃ (s : State) (k : Nat),
      ((∀ w, Tab.find? s.workers k = some w → w.pres ≠ .present ∨ s.clk.tick < w.lastTick.getD 0 + 31250000 + (w.misses + 1) * 156250000))) ∧
    (∃ (s : State) (k : Nat) (w : Worker), Tab.find? s.workers k = some w ∧ w.pres = .present ∧ w.misses < 2 ∧
      w.lastTick.getD 0 + 31250000 + (w.misses + 1) * 156250000 ≤ s.clk.tick) ∧
    (∃ (s : State) (k : Nat) (w : Worker), Tab.find? s.workers k = some w ∧ w.pres = .present ∧ 2 ≤ w.misses ∧
      w.lastTick.getD 0 + 31250000 + (w.misses + 1) * 156250000 ≤ s.clk.tick ∧
      s.axg.relays.all (fun r => decide (r.child ≠ w.childId)) = true ∧ s.hier.bcasts = [] ∧ s.hier.closure = none) :=
  ⟨⟨run, by decide +kernel⟩,
   ⟨{run with hcfg := {run.hcfg with deviceId := 4096, hasParent := true, parentMac := 0x77}, hier := {run.hier with st := .joined, reportTag := none, unanswered := 0}},
    by decide +kernel, by decide +kernel, by decide +kernel, by decide +kernel, by decide +kernel, by decide +kernel, by decide +kernel⟩,
   ⟨{(mgr .present) with hcfg := {(mgr .present).hcfg with deviceId := 4096, hasParent := true, parentMac := 0x77}, hier := {run.hier with st := .joined, reportTag := some 5, unanswered := 2}},
    by decide +kernel, by decide +kernel, by decide +kernel, by decide +kernel, by decide +kernel, by decide +kernel, by decide +kernel,
    by decide +kernel, by decide +kernel, by decide +kernel⟩,
   ⟨{run with hcfg := {run.hcfg with deviceId := 4096, hasParent := true, parentMac := 0x77}, hier := {run.hier with st := .joined, reportTag := some 5, unanswered := 1}},
    4, 0x78, [0xA7180D08,0x00050003,0x3FFFF,0x3FFFF,0x00000701,2,3], [0xA7180D08,0x00050003,0x3FFFF,0x3FFFF,0x00000701,2,3],
    by decide +kernel, by decide +kernel, by decide +kernel, by decide +kernel⟩,
   ⟨{run with hcfg := {run.hcfg with deviceId := 4096, hasParent := true, parentMac := 0x77}, hier := {run.hier with st := .seeking, reportTag := some 5, unanswered := 1}},
    4, 0x77, [0xA7180D08,0x00050003,0x3FFFF,0x3FFFF,0x00000701,2,3], [0xA7180D08,0x00050003,0x3FFFF,0x3FFFF,0x00000701,2,3],
    by decide +kernel, by decide +kernel, by decide +kernel, by decide +kernel, by decide +kernel, by decide +kernel, by decide +kernel,
    by decide +kernel⟩,
   ⟨{run with hcfg := {run.hcfg with deviceId := 4096, hasParent := true, parentMac := 0x77}, hier := {run.hier with st := .joined, reportTag := some 5, unanswered := 1}},
    4, 0x77, [0xA7180D08,0x00050003,0x3FFFF,0x3FFFF,0x00000701,2,3], [0xA7180D08,0x00050003,0x3FFFF,0x3FFFF,0x00000701,2,3],
    by decide +kernel, by decide +kernel, by decide +kernel, by decide +kernel⟩,
   ⟨{(mgr .present) with axg := {run.axg with relays := [{tag := 5, srcId := 9, child := 20, mac := 0x1234, back := .carrier {cx with via := .spi}}]}},
    4, 0x1234, [0xA7180D08,0x00050003,0x3FFFF,0x3FFFF,0x00000701,2,3], [0xA7180D08,0x00050003,0x3FFFF,0x3FFFF,0x00000701,2,3],
    {tag := 5, srcId := 9, child := 20, mac := 0x1234, back := .carrier {cx with via := .spi}}, {cx with via := .spi}, by decide +kernel,
    by decide +kernel, by decide +kernel, by decide +kernel, by decide +kernel, by decide +kernel, by decide +kernel, by decide +kernel,
    by decide +kernel, by decide +kernel⟩,
   ⟨State.reset, 4, 5, [0xA7180D08,0x00050003,0x3FFFF,0x3FFFF,0x00000701,2,3], by decide +kernel⟩,
   ⟨run, 0, by decide +kernel⟩,
   ⟨mgr .present, 0, kid .present, by decide +kernel, by decide +kernel, by decide +kernel, by decide +kernel⟩,
   ⟨{run with workers := [(0,{(kid .present) with misses := 2})]}, 0, {(kid .present) with misses := 2}, by decide +kernel,
    by decide +kernel, by decide +kernel, by decide +kernel, by decide +kernel, by decide +kernel, by decide +kernel⟩⟩

/-- States and operands that meet the hypotheses of LaneCommands, clause by clause. -/
theorem witness_LaneCommands :
    (∃ (s : State) (p : Pkt), s.accepts 0x0200 (lenIs 3) p = true ∧ bit (wd p.words 0) 31 = false) ∧
    (∃ (s : State) (p : Pkt), s.accepts 0x0200 (lenIs 3) p = true ∧ bit (wd p.words 0) 31 = true ∧ Tab.sorted s.lanes = true ∧
      (clampRate (laneArg (wd p.words 0)) (fld (wd p.words 1) 2 0) (s.inTq (laneArg (wd p.words 0)))) = (s.lane (laneArg (wd p.words 0))).rate ∧
      bit (wd p.words 1) 4 = (s.lane (laneArg (wd p.words 0))).enable) ∧
    (∃ (s : State) (p : Pkt), s.accepts 0x0200 (lenIs 3) p = true ∧ bit (wd p.words 0) 31 = true ∧ Tab.sorted s.lanes = true ∧
      ((clampRate (laneArg (wd p.words 0)) (fld (wd p.words 1) 2 0) (s.inTq (laneArg (wd p.words 0)))) ≠ (s.lane (laneArg (wd p.words 0))).rate ∨ bit (wd p.words 1) 4 ≠ (s.lane (laneArg (wd p.words 0))).enable)) ∧
    (∃ (s : State) (p : Pkt), s.accepts 0x0201 (lenIs 1) p = true ∧ Tab.sorted s.lanes = true) ∧
    (∃ (s : State) (p : Pkt), s.accepts 0x0202 (lenIs 1) p = true) ∧
    (∃ (s : State) (p : Pkt), s.accepts 0x0203 (lenIs 2) p = true ∧ bit (wd p.words 0) 31 = false) ∧
    (∃ (s : State) (p : Pkt), s.accepts 0x0203 (lenIs 2) p = true ∧ bit (wd p.words 0) 31 = true ∧ Tab.sorted s.lanes = true ∧
      (s.lane (laneArg (wd p.words 0))).step = 7 ∧ bit (wd p.words 1) 0 = false) ∧
    (∃ (s : State) (p : Pkt), s.accepts 0x0204 (lenIs 2) p = true ∧
      s.axg.jobs.all (fun j => !isSketch (laneArg (wd p.words 0)) j.work) = true ∧
      s.led.waiting.all (fun j => decide (j.what ≠ JobFor.sketch (laneArg (wd p.words 0)))) = true ∧
      (s.lane (laneArg (wd p.words 0))).sketching = false ∧ (s.lane (laneArg (wd p.words 0))).step = 7) ∧
    (∃ (s : State) (p : Pkt), s.accepts 0x0204 (lenIs 2) p = true ∧
      s.axg.jobs.all (fun j => !isSketch (laneArg (wd p.words 0)) j.work) = true ∧
      s.led.waiting.all (fun j => decide (j.what ≠ JobFor.sketch (laneArg (wd p.words 0)))) = true ∧
      (s.lane (laneArg (wd p.words 0))).sketching = false ∧ (s.lane (laneArg (wd p.words 0))).step ≠ 7) ∧
    (∃ (s : State) (p : Pkt), s.accepts 0x0205 (lenIs 1) p = true) ∧
    (∃ (s : State) (p : Pkt), s.accepts 0x0206 (lenIs 2) p = true ∧ bit (wd p.words 0) 31 = true ∧ Tab.sorted s.lanes = true ∧
      Tab.sorted s.ports = true ∧ (fld (wd p.words 1) 1 0) ≠ 3) ∧
    (∃ (s : State) (p : Pkt), s.accepts 0x0206 (lenIs 2) p = true ∧ bit (wd p.words 0) 31 = true ∧ Tab.sorted s.lanes = true ∧
      Tab.sorted s.ports = true ∧ (fld (wd p.words 1) 1 0) ≠ 0) :=
  ⟨⟨run, spi [3,0,0], by decide +kernel, by decide +kernel⟩,
   ⟨bg, spi [0x80000003,0x00000B53,0xFFFFFFFF], by decide +kernel, by decide +kernel, by decide +kernel, by decide +kernel,
    by decide +kernel⟩,
   ⟨run, spi [0x80000003,0x00000003,0xFFFFFFFF], by decide +kernel, by decide +kernel, by decide +kernel, by decide +kernel⟩,
   ⟨run, spi [3], by decide +kernel, by decide +kernel⟩,
   ⟨run, pk [0x103], by decide +kernel⟩,
   ⟨run, spi [3,5], by decide +kernel, by decide +kernel⟩,
   ⟨bg, spi [0x8000007F,0], by decide +kernel, by decide +kernel, by decide +kernel, by decide +kernel, by decide +kernel⟩,
   ⟨bg, pk [3,5], by decide +kernel, by decide +kernel, by decide +kernel, by decide +kernel, by decide +kernel⟩,
   ⟨run, pk [3,5], by decide +kernel, by decide +kernel, by decide +kernel, by decide +kernel, by decide +kernel⟩,
   ⟨run, spi [3], by decide +kernel⟩,
   ⟨run, spi [0x80000003,0], by decide +kernel, by decide +kernel, by decide +kernel, by decide +kernel, by decide +kernel⟩,
   ⟨run, spi [0x80000003,1], by decide +kernel, by decide +kernel, by decide +kernel, by decide +kernel, by decide +kernel⟩⟩

/-- States and operands that meet the hypotheses of LaneBringUp, clause by clause. -/
theorem witness_LaneBringUp :
    (∃ (s : State) (l o : Nat) (v : Pol), l < 96 ∧ ((s.lane l).enable = false ∨ (s.lane l).step = 0 ∨ (s.lane l).step = 7)) ∧
    (∃ (s : State) (l o : Nat) (v : Pol), l < 96 ∧ (s.lane l).enable = true ∧ Tab.sorted s.lanes = true ∧ (s.lane l).step = 1) ∧
    (∃ (s : State) (l o : Nat) (v : Pol), l < 96 ∧ (s.lane l).enable = true ∧ Tab.sorted s.lanes = true ∧ (s.lane l).step = 2 ∧
      s.laneHeld l = true) ∧
    (∃ (s : State) (l o : Nat) (v : Pol), l < 96 ∧ (s.lane l).enable = true ∧ Tab.sorted s.lanes = true ∧ (s.lane l).step = 2 ∧
      s.laneHeld l = false) ∧
    (∃ (s : State) (l o : Nat) (v : Pol), l < 96 ∧ (s.lane l).enable = true ∧ Tab.sorted s.lanes = true ∧ (s.lane l).step = 3 ∧
      (s.lane l).burst = false ∧ (s.lane l).trains = false) ∧
    (∃ (s : State) (l o : Nat) (v : Pol), l < 96 ∧ (s.lane l).enable = true ∧ Tab.sorted s.lanes = true ∧ (s.lane l).step = 3 ∧
      (s.lane l).burst = false ∧ (s.lane l).trains = true ∧
      s.axg.jobs.all (fun j => match j.work with | .laneTrain _ _ _ => false | _ => true) = true ∧ s.driverIdle l = false) ∧
    (∃ (s : State) (l o : Nat) (v : Pol), l < 96 ∧ (s.lane l).enable = true ∧ Tab.sorted s.lanes = true ∧ (s.lane l).step = 4) ∧
    (∃ (s : State) (l o : Nat) (v : Pol), l < 96 ∧ (s.lane l).enable = true ∧ Tab.sorted s.lanes = true ∧ (s.lane l).step = 5 ∧
      s.inTq l = false) ∧
    (∃ (x : Lane) (p : Pol), x.rxPolAuto = false) ∧
    (∃ (x : Lane), x.rxPolAuto = true ∧ x.step = 4) ∧
    (∃ (x : Lane) (n : Nat), x.rxPolAuto = true ∧ x.step = 5 ∧ 2 ≤ x.rate ∧ x.trains = false) ∧
    (∃ (s : State) (l : Nat), l < 96 ∧ (s.lane l).enable = false) ∧
    (∃ (s : State) (l : Nat), l < 96 ∧ (s.lane l).enable = true ∧ (s.lane l).solo = false ∧ s.inTq l = false ∧ Tab.sorted s.lanes = true ∧
      (s.lane l).step = 1) ∧
    (∃ (s : State) (l : Nat), l < 96 ∧ (s.lane l).enable = true ∧ (s.lane l).solo = false ∧ s.inTq l = false ∧ Tab.sorted s.lanes = true ∧
      (s.lane l).step = 3 ∧ (s.lane l).burst = false) ∧
    (∃ (s : State) (l : Nat), l < 96 ∧ (s.lane l).enable = true ∧ (s.lane l).solo = false ∧ s.inTq l = false ∧ Tab.sorted s.lanes = true ∧
      (s.lane l).step = 5) ∧
    (∃ (s : State) (l : Nat), l < 96 ∧ (s.lane l).burst = true) ∧
    (∃ (s : State) (l : Nat), l < 96 ∧ (s.lane l).burst = false ∧
      ((s.lane l).step < 3 ∨ ((s.lane l).step = 7 ∧ ((s.lane l).rxDoze = true ∨ (s.lane l).lpiRx = true)))) ∧
    (∃ (s : State) (l : Nat), l < 96 ∧ (s.lane l).burst = false ∧ (s.lane l).step = 7 ∧ (s.lane l).rxDoze = false ∧
      (s.lane l).lpiRx = false ∧ s.inTq l = false ∧ Tab.sorted s.lanes = true) ∧
    (∃ (s : State) (l : Nat), l < 96 ∧ (s.lane l).burst = false ∧ 3 ≤ (s.lane l).step ∧ (s.lane l).step < 6 ∧ (s.lane l).enable = true ∧
      Tab.sorted s.lanes = true) ∧
    (∃ (s : State) (l : Nat), l < 96 ∧ (s.lane l).step ≠ 7) ∧
    (∃ (s : State) (l : Nat), l < 96 ∧ (s.lane l).step = 7 ∧ s.inTq l = false ∧ Tab.sorted s.lanes = true) ∧
    (∃ (s : State) (l : Nat) (ok : Bool), l < 96 ∧ (s.lane l).burst = false) ∧
    (∃ (s : State) (l : Nat), l < 96 ∧ (s.lane l).burst = true ∧ s.inTq l = false ∧ Tab.sorted s.lanes = true ∧ (s.lane l).attempts + 1 < 3) ∧
    (∃ (s : State) (l : Nat), l < 96 ∧ (s.lane l).burst = true ∧ s.inTq l = false ∧ Tab.sorted s.lanes = true ∧ 2 ≤ (s.lane l).attempts) ∧
    (∃ (s : State) (l q m : Nat) (f : Int), l < 96 ∧ (s.lane l).step ≠ 4) ∧
    (∃ (s : State) (l q m : Nat), l < 96 ∧ (s.lane l).step = 4 ∧ s.driverIdle l = false ∧ q.testBit 13 = true) ∧
    (∃ (s : State) (l q m : Nat), l < 96 ∧ (s.lane l).step = 4 ∧ s.driverIdle l = false ∧ q.testBit 13 = false ∧ q.testBit 12 = true) ∧
    (∃ (s : State) (l q m : Nat), l < 96 ∧ (s.lane l).step = 4 ∧ s.driverIdle l = false ∧ q.testBit 13 = false ∧ q.testBit 12 = false ∧
      ((s.lane l).polarity (.marker m)).taps.pre ≤ 15 ∧ ((s.lane l).polarity (.marker m)).taps.main ≤ 63 ∧
      ((s.lane l).polarity (.marker m)).taps.post ≤ 31 ∧ ((s.lane l).polarity (.marker m)).taps.sumOk = true ∧ q % 64 = 0) ∧
    (∃ (s : State) (l q m : Nat) (f : Int), l < 96 ∧ (s.lane l).step = 4 ∧ ((s.lane l).polarity (.marker m)).rxReady = true ∧
      q.testBit 15 = false) ∧
    (∃ (s : State) (l q m : Nat) (f : Int), l < 96 ∧ (s.lane l).step = 4 ∧ ((s.lane l).polarity (.marker m)).rxReady = false ∧
      ({ ((s.lane l).polarity (.marker m)) with foms := (((s.lane l).polarity (.marker m)).foms ++ [f]).drop (((s.lane l).polarity (.marker m)).foms.length - 16) }).settled = false ∧
      s.driverIdle l = false) ∧
    (∃ (s : State) (l q m : Nat) (f : Int), l < 96 ∧ (s.lane l).step = 4 ∧ ((s.lane l).polarity (.marker m)).rxReady = false ∧
      ({ ((s.lane l).polarity (.marker m)) with foms := (((s.lane l).polarity (.marker m)).foms ++ [f]).drop (((s.lane l).polarity (.marker m)).foms.length - 16) }).settled = true ∧
      q.testBit 15 = false ∧ s.driverIdle l = false) ∧
    (∃ (s : State) (l q m : Nat) (f : Int), l < 96 ∧ (s.lane l).step = 4 ∧
      (((s.lane l).polarity (.marker m)).rxReady || ({ ((s.lane l).polarity (.marker m)) with foms := (((s.lane l).polarity (.marker m)).foms ++ [f]).drop (((s.lane l).polarity (.marker m)).foms.length - 16) }).settled) = true ∧
      q.testBit 15 = true ∧ Tab.sorted s.lanes = true) :=
  ⟨⟨ln 3 {lnU with step := 7} run, 3, 1, .blocks 50, by decide +kernel, by decide +kernel⟩,
   ⟨ln 3 {lnU with step := 1} run, 3, 2, .marker 0xFFFF, by decide +kernel, by decide +kernel, by decide +kernel, by decide +kernel⟩,
   ⟨ln 3 {lnU with step := 2} run, 3, 2, .marker 0xFFFF, by decide +kernel, by decide +kernel, by decide +kernel, by decide +kernel,
    by decide +kernel⟩,
   ⟨ln 3 {lnU with step := 2} (byp 1 {st := .opened, released := true} run), 3, 2, .marker 0xFFFF, by decide +kernel, by decide +kernel,
    by decide +kernel, by decide +kernel, by decide +kernel⟩,
   ⟨ln 3 {lnU with step := 3} run, 3, 2, .marker 0xFFFF, by decide +kernel, by decide +kernel, by decide +kernel, by decide +kernel,
    by decide +kernel, by decide +kernel⟩,
   ⟨ln 3 {lnU with step := 3, trainEn := true, preset := true} upS, 3, 2, .marker 0xFFFF, by decide +kernel, by decide +kernel,
    by decide +kernel, by decide +kernel, by decide +kernel, by decide +kernel, by decide +kernel, by decide +kernel⟩,
   ⟨ln 3 {lnU with step := 4} run, 3, 2, .marker 0xFFFF, by decide +kernel, by decide +kernel, by decide +kernel, by decide +kernel⟩,
   ⟨ln 3 {lnU with step := 5} run, 3, 2, .marker 0xFFFF, by decide +kernel, by decide +kernel, by decide +kernel, by decide +kernel,
    by decide +kernel⟩,
   ⟨{rxPolAuto := false, rxInvert := true}, .marker 0xFFFF, by decide +kernel⟩,
   ⟨{step := 4}, by decide +kernel, by decide +kernel⟩,
   ⟨{step := 5}, 49, by decide +kernel, by decide +kernel, by decide +kernel, by decide +kernel⟩,
   ⟨ln 3 {lnU with enable := false} run, 3, by decide +kernel, by decide +kernel⟩,
   ⟨ln 3 {lnU with step := 1} run, 3, by decide +kernel, by decide +kernel, by decide +kernel, by decide +kernel, by decide +kernel,
    by decide +kernel⟩,
   ⟨ln 3 {lnU with step := 3} run, 3, by decide +kernel, by decide +kernel, by decide +kernel, by decide +kernel, by decide +kernel,
    by decide +kernel, by decide +kernel⟩,
   ⟨ln 3 {lnU with step := 5} run, 3, by decide +kernel, by decide +kernel, by decide +kernel, by decide +kernel, by decide +kernel,
    by decide +kernel⟩,
   ⟨ln 3 {lnU with step := 3, burst := true} run, 3, by decide +kernel, by decide +kernel⟩,
   ⟨ln 3 {lnU with step := 2} run, 3, by decide +kernel, by decide +kernel, by decide +kernel⟩,
   ⟨ln 3 {lnU with step := 7} run, 3, by decide +kernel, by decide +kernel, by decide +kernel, by decide +kernel, by decide +kernel,
    by decide +kernel, by decide +kernel⟩,
   ⟨ln 3 {lnU with step := 3} run, 3, by decide +kernel, by decide +kernel, by decide +kernel, by decide +kernel, by decide +kernel,
    by decide +kernel⟩,
   ⟨ln 3 {lnU with step := 3} run, 3, by decide +kernel, by decide +kernel⟩,
   ⟨ln 3 {lnU with step := 7} run, 3, by decide +kernel, by decide +kernel, by decide +kernel, by decide +kernel⟩,
   ⟨ln 3 {lnU with step := 7} run, 3, true, by decide +kernel, by decide +kernel⟩,
   ⟨ln 3 {lnU with step := 3, burst := true, attempts := 0} run, 3, by decide +kernel, by decide +kernel, by decide +kernel,
    by decide +kernel, by decide +kernel⟩,
   ⟨ln 3 {lnU with step := 3, burst := true, attempts := 2} run, 3, by decide +kernel, by decide +kernel, by decide +kernel,
    by decide +kernel, by decide +kernel⟩,
   ⟨ln 3 {lnU with step := 5} run, 3, 5, 0, 6, by decide +kernel, by decide +kernel⟩,
   ⟨ln 3 {lnU with step := 4, taps := {pre := 3, main := 50, post := 10}} upS, 3, 2^13, 0xFFFF, by decide +kernel, by decide +kernel,
    by decide +kernel, by decide +kernel⟩,
   ⟨ln 3 {lnU with step := 4, taps := {pre := 3, main := 50, post := 10}} upS, 3, 2^12, 0xFFFF, by decide +kernel, by decide +kernel,
    by decide +kernel, by decide +kernel, by decide +kernel⟩,
   ⟨ln 3 {lnU with step := 4, taps := {pre := 3, main := 50, post := 10}} upS, 3, 0, 0xFFFF, by decide +kernel, by decide +kernel,
    by decide +kernel, by decide +kernel, by decide +kernel, by decide +kernel, by decide +kernel, by decide +kernel, by decide +kernel,
    by decide +kernel⟩,
   ⟨ln 3 {lnU with step := 4, rxReady := true} run, 3, 0, 0xFFFF, 7, by decide +kernel, by decide +kernel, by decide +kernel,
    by decide +kernel⟩,
   ⟨ln 3 {lnU with step := 4} upS, 3, 0, 0xFFFF, 7, by decide +kernel, by decide +kernel, by decide +kernel, by decide +kernel,
    by decide +kernel⟩,
   ⟨ln 3 {lnU with step := 4, reqs := 1024} upS, 3, 0, 0xFFFF, 7, by decide +kernel, by decide +kernel, by decide +kernel,
    by decide +kernel, by decide +kernel, by decide +kernel⟩,
   ⟨ln 3 {lnU with step := 4, rxReady := true} run, 3, 0x8000, 0xFFFF, 7, by decide +kernel, by decide +kernel, by decide +kernel,
    by decide +kernel, by decide +kernel⟩⟩

/-- States and operands that meet the hypotheses of LaneDoze, clause by clause. -/
theorem witness_LaneDoze :
    (∃ (s : State) (l : Nat), l < 96 ∧ (s.lane l).doze = .awake ∧ s.dozeAllowed l = true ∧ (s.lane l).partnerDozeOk = true ∧
      s.refHold l = false ∧ s.egressWaiting l = false ∧ s.driverIdle l = false) ∧
    (∃ (s : State) (l : Nat), l < 96 ∧
      ((s.lane l).doze ≠ .awake ∨ s.dozeAllowed l = false ∨ (s.lane l).partnerDozeOk = false ∨ s.refHold l = true ∨ s.egressWaiting l = true ∨ s.driverIdle l = true)) ∧
    (∃ (s : State) (l : Nat), l < 96 ∧ (s.lane l).doze = .entering ∧ Tab.sorted s.lanes = true ∧ s.wakeTrigger l = false) ∧
    (∃ (s : State) (l : Nat), l < 96 ∧ (s.lane l).doze = .entering ∧ Tab.sorted s.lanes = true ∧ s.wakeTrigger l = true ∧
      s.driverIdle l = false) ∧
    (∃ (s : State) (l : Nat), l < 96 ∧ (s.lane l).doze ≠ .entering) ∧
    (∃ (s : State) (l : Nat), l < 96 ∧ s.wakeTrigger l = true ∧ (s.lane l).doze = .dozing ∧ s.driverIdle l = false) ∧
    (∃ (s : State) (l : Nat), l < 96 ∧ (s.wakeTrigger l = false ∨ (s.lane l).doze ≠ .dozing)) ∧
    (∃ (s : State) (l : Nat), l < 96 ∧ (s.lane l).doze = .exiting ∧ Tab.sorted s.lanes = true) ∧
    (∃ (s : State) (l : Nat), l < 96 ∧ (s.lane l).doze ≠ .exiting) ∧
    (∃ (s : State) (l : Nat), l < 96 ∧ (s.lane l).dozeEn = true ∧ (s.lane l).step = 7 ∧ (s.lane l).doze = .awake ∧ s.driverIdle l = false) ∧
    (∃ (s : State) (l : Nat), l < 96 ∧ ((s.lane l).dozeEn = false ∨ (s.lane l).step ≠ 7 ∨ (s.lane l).doze ≠ .awake ∨ s.driverIdle l = true)) ∧
    (∃ (s : State) (l : Nat) (b : Bool), l < 96 ∧ (s.lane l).step ≠ 7) ∧
    (∃ (s : State) (l : Nat), l < 96 ∧ (s.lane l).step = 7 ∧ Tab.sorted s.lanes = true ∧ (s.lane l).dozeEn = true) ∧
    (∃ (s : State) (l : Nat), l < 96 ∧ (s.lane l).step = 7 ∧ Tab.sorted s.lanes = true) ∧
    (∃ (s : State) (l : Nat), l < 96) ∧
    (∃ (s : State) (l : Nat) (b : Bool), l < 96 ∧ (s.lane l).rxDoze = false) ∧
    (∃ (s : State) (l : Nat), l < 96 ∧ (s.lane l).rxDoze = true) ∧
    (∃ (s : State) (l : Nat) (b : Bool), l < 96 ∧
      ((s.lane l).lpiEn = false ∨ (s.lane l).medium = 0 ∨ (s.lane l).step ≠ 7 ∨ s.inTq l = true ∨ s.refHold l = true ∨ ((s.lane l).dozeEn = true ∧ (s.lane l).chotonPartner = true))) ∧
    (∃ (s : State) (l : Nat) (rows : List EyeErr) (lost : Bool), l < 96 ∧ (s.findJob (isSketch l) = none ∨ (s.lane l).sketching = false)) ∧
    (∃ (s : State) (l d : Nat) (c : Ctx) (rows : List EyeErr) (lost : Bool), l < 96 ∧ Tab.sorted s.lanes = true ∧
      s.axg.jobs = [{ ctx := c, work := .sketch l d }] ∧ c.mirrored = false ∧ (s.lane l).sketching = true) :=
  ⟨⟨ln 3 lnU upS, 3, by decide +kernel, by decide +kernel, by decide +kernel, by decide +kernel, by decide +kernel, by decide +kernel,
    by decide +kernel⟩,
   ⟨run, 3, by decide +kernel, by decide +kernel⟩,
   ⟨ln 3 {lnU with doze := .entering} run, 3, by decide +kernel, by decide +kernel, by decide +kernel, by decide +kernel⟩,
   ⟨ln 3 {lnU with doze := .entering, partnerDozeOk := false} upS, 3, by decide +kernel, by decide +kernel, by decide +kernel,
    by decide +kernel, by decide +kernel⟩,
   ⟨run, 3, by decide +kernel, by decide +kernel⟩,
   ⟨ln 3 {lnU with doze := .dozing, partnerDozeOk := false} upS, 3, by decide +kernel, by decide +kernel, by decide +kernel,
    by decide +kernel⟩,
   ⟨run, 3, by decide +kernel, by decide +kernel⟩,
   ⟨ln 3 {lnU with doze := .exiting, txDoze := true} run, 3, by decide +kernel, by decide +kernel, by decide +kernel⟩,
   ⟨run, 3, by decide +kernel, by decide +kernel⟩,
   ⟨ln 3 lnU upS, 3, by decide +kernel, by decide +kernel, by decide +kernel, by decide +kernel, by decide +kernel⟩,
   ⟨run, 3, by decide +kernel, by decide +kernel⟩,
   ⟨run, 3, true, by decide +kernel, by decide +kernel⟩,
   ⟨ln 3 lnU run, 3, by decide +kernel, by decide +kernel, by decide +kernel, by decide +kernel⟩,
   ⟨ln 3 {lnU with doze := .awake, txDoze := true} run, 3, by decide +kernel, by decide +kernel, by decide +kernel⟩,
   ⟨ln 3 {lnU with doze := .awake, rxDoze := true} run, 3, by decide +kernel⟩,
   ⟨run, 3, true, by decide +kernel, by decide +kernel⟩,
   ⟨ln 3 {lnU with rxDoze := true} run, 3, by decide +kernel, by decide +kernel⟩,
   ⟨ln 3 lnU run, 3, true, by decide +kernel, by decide +kernel⟩,
   ⟨ln 3 {lnU with step := 7} run, 3, [], true, by decide +kernel, by decide +kernel⟩,
   ⟨{(ln 3 {lnU with sketching := true} run) with axg := {run.axg with jobs := [⟨cx,.sketch 3 20⟩]}}, 3, 20, cx, [], true,
    by decide +kernel, by decide +kernel, by decide +kernel, by decide +kernel, by decide +kernel⟩⟩

/-- States and operands that meet the hypotheses of PortCommands, clause by clause. -/
theorem witness_PortCommands :
    (∃ (s : State) (p : Pkt), bit (wd p.words 0) 31 = false ∧ s.accepts 0x0220 (lenIs 2) p = true) ∧
    (∃ (s : State) (p : Pkt), bit (wd p.words 0) 31 = false ∧ s.accepts 0x0222 (lenIs 2) p = true) ∧
    (∃ (s : State) (p : Pkt), bit (wd p.words 0) 31 = false ∧ s.accepts 0x0223 (lenIs 4) p = true) ∧
    (∃ (s : State) (p : Pkt), s.accepts 0x0220 (lenIs 2) p = true ∧ bit (wd p.words 0) 31 = true ∧ Tab.sorted s.ports = true ∧
      Tab.sorted s.lanes = true ∧ s.portExists (portArg (wd p.words 0)) = true ∧
      ((96 ≤ (portArg (wd p.words 0)) → bit (wd p.words 1) 2 = true))) ∧
    (∃ (s : State) (p : Pkt) (j : Nat), s.accepts 0x0220 (lenIs 2) p = true ∧ bit (wd p.words 0) 31 = true ∧ Tab.sorted s.ports = true ∧
      Tab.sorted s.lanes = true ∧ s.portExists (portArg (wd p.words 0)) = true ∧ 96 ≤ (portArg (wd p.words 0)) ∧
      bit (wd p.words 1) 2 = false ∧ j ≠ (portArg (wd p.words 0)) - 96) ∧
    (∃ (s : State) (p : Pkt), s.accepts 0x0220 (lenIs 2) p = true ∧ bit (wd p.words 0) 31 = true ∧ Tab.sorted s.ports = true ∧
      Tab.sorted s.lanes = true ∧ s.portExists (portArg (wd p.words 0)) = false ∧
      ((96 ≤ (portArg (wd p.words 0)) → bit (wd p.words 1) 2 = false))) ∧
    (∃ (s : State) (p : Pkt) (j : Nat), s.accepts 0x0220 (lenIs 2) p = true ∧ bit (wd p.words 0) 31 = true ∧ Tab.sorted s.ports = true ∧
      Tab.sorted s.lanes = true ∧ 96 ≤ (portArg (wd p.words 0)) ∧ bit (wd p.words 1) 2 = true ∧
      s.formed ((portArg (wd p.words 0)) - 96) = false ∧ j ≠ (portArg (wd p.words 0)) - 96) ∧
    (∃ (s : State) (p : Pkt), s.accepts 0x0221 (lenIs 1) p = true ∧ Tab.sorted s.ports = true) ∧
    (∃ (s : State) (p : Pkt), s.accepts 0x0222 (lenIs 2) p = true ∧ bit (wd p.words 0) 31 = true ∧
      s.portExists (portArg (wd p.words 0)) = true ∧ Tab.sorted s.ports = true ∧ bit (wd p.words 1) 0 = false) ∧
    (∃ (s : State) (p : Pkt) (k : Nat), s.accepts 0x0222 (lenIs 2) p = true ∧ bit (wd p.words 0) 31 = true ∧
      s.portExists (portArg (wd p.words 0)) = true ∧ Tab.sorted s.ports = true ∧ Tab.sorted s.lanes = true ∧
      k ∉ portLanes (portArg (wd p.words 0))) ∧
    (∃ (s : State) (p : Pkt), s.accepts 0x0223 (lenIs 4) p = true ∧ bit (wd p.words 0) 31 = true ∧ Tab.sorted s.rings = true) ∧
    (∃ (s : State) (p : Pkt), s.accepts 0x0224 (lenIs 2) p = true) :=
  ⟨⟨run, spi [3,5], by decide +kernel, by decide +kernel⟩,
   ⟨run, spi [3,5], by decide +kernel, by decide +kernel⟩,
   ⟨run, spi [3,5,5,5], by decide +kernel, by decide +kernel⟩,
   ⟨run, spi [0x80000003,0xFFFFFFFB], by decide +kernel, by decide +kernel, by decide +kernel, by decide +kernel, by decide +kernel,
    by decide +kernel⟩,
   ⟨bgF, spi [0x80000060,0], 0x40, by decide +kernel, by decide +kernel, by decide +kernel, by decide +kernel, by decide +kernel,
    by decide +kernel, by decide +kernel, by decide +kernel⟩,
   ⟨run, spi [0x80000060,0xFFFFFFFB], by decide +kernel, by decide +kernel, by decide +kernel, by decide +kernel, by decide +kernel,
    by decide +kernel⟩,
   ⟨run, spi [0x80000060,0xFFFFFFFF], 0x40, by decide +kernel, by decide +kernel, by decide +kernel, by decide +kernel, by decide +kernel,
    by decide +kernel, by decide +kernel, by decide +kernel⟩,
   ⟨run, spi [0x03], by decide +kernel, by decide +kernel⟩,
   ⟨run, spi [0x80000003,0], by decide +kernel, by decide +kernel, by decide +kernel, by decide +kernel, by decide +kernel⟩,
   ⟨run, spi [0x80000003,0xFFFFFFFF], 0x40, by decide +kernel, by decide +kernel, by decide +kernel, by decide +kernel, by decide +kernel,
    by decide +kernel⟩,
   ⟨run, spi [0x80000002,0x00070302,0xFFFFFFFF,0xFFFFFFFF], by decide +kernel, by decide +kernel, by decide +kernel⟩,
   ⟨run, spi [0,0xFFFFFFFF], by decide +kernel⟩⟩

/-- States and operands that meet the hypotheses of LinksAndPairs, clause by clause. -/
theorem witness_LinksAndPairs :
    (∃ (s : State) (p c : Nat) (b e : Bool), p < 104 ∧ Tab.sorted s.ports = true ∧ s.portExists p = true ∧ (s.port p).enable = true ∧
      s.bypassed p = false ∧ (s.port p).st = .up ∧ c < 2) ∧
    (∃ (s : State) (p c : Nat) (e : Bool), p < 104 ∧ Tab.sorted s.ports = true ∧ (s.port p).st ≠ .up ∧ (s.port p).st ≠ .filter) ∧
    (∃ (s : State) (p : Nat), p < 104 ∧ (s.port p).st ≠ .filter) ∧
    (∃ (s : State) (p : Nat), p < 104 ∧ (s.port p).st = .filter ∧ Tab.sorted s.ports = true) ∧
    (∃ (s : State) (p : Nat), p < 104 ∧ Tab.sorted s.ports = true ∧ s.portExists p = true ∧ (s.port p).enable = true ∧
      s.bypassed p = false ∧ (s.port p).st = .filter ∧
      (portLanes p).all (fun l => decide ((s.lane l).step = 7) && decide ((s.lane l).loopMode = 0)) = true) ∧
    (∃ (s : State) (b : Nat), b < 4 ∧ (s.pair b).st ≠ .closing) ∧
    (∃ (s : State) (b : Nat), b < 4 ∧ (s.pair b).st ≠ .opening ∧ ((s.pair b).st ≠ .probing ∨ (s.pair b).released = true)) ∧
    (∃ (s : State) (b : Nat), b < 4 ∧ (s.policyMay b = false ∨ (s.pair b).retrying = true)) ∧
    (∃ (s : State) (b : Nat), b < 4 ∧ ((s.pair b).st ≠ .probing ∨ (s.pair b).released = false)) ∧
    (∃ (s : State) (b : Nat), b < 4 ∧ (s.pair b).retrying = false) ∧
    (∃ (s : State) (b : Nat), b < 4 ∧ Tab.sorted s.bypass = true ∧ s.axg.jobs = [] ∧ (s.pair b).st = .closing) ∧
    (∃ (s : State) (b : Nat), b < 4 ∧ Tab.sorted s.bypass = true ∧ s.axg.jobs = [] ∧ (s.pair b).st = .opening) ∧
    (∃ (s : State) (b : Nat), b < 4 ∧ Tab.sorted s.bypass = true ∧ s.axg.jobs = [] ∧ s.policyMay b = true ∧ (s.pair b).retrying = false) ∧
    (∃ (s : State) (b : Nat), b < 4 ∧ Tab.sorted s.bypass = true ∧ s.axg.jobs = [] ∧ (s.pair b).st = .probing ∧ (s.pair b).released = true) ∧
    (∃ (s : State) (b : Nat), b < 4 ∧ Tab.sorted s.bypass = true ∧ s.axg.jobs = [] ∧ (s.pair b).retrying = true) ∧
    (∃ (s : State) (k : Nat), k < 8 ∧ (s.dpUp = false ∨ (s.ring k).mode = 0)) ∧
    (∃ (s : State) (k : Nat), k < 8 ∧ s.dpUp = true ∧ (s.ring k).mode ≠ 0 ∧ Tab.sorted s.rings = true) ∧
    (∃ (s : State) (k j : Nat), j ≠ k) ∧
    (∃ (s : State) (p : Pkt), s.accepts 0x0240 (lenIs 1) p = true ∧ Tab.sorted s.bypass = true ∧
      s.axg.jobs.all (fun j => match j.work with | .bypass _ _ _ => false | .policy _ _ _ => false | _ => true) = true ∧
      bit (wd p.words 0) 8 = true ∧ (s.pair (fld (wd p.words 0) 1 0)).st = .closed) ∧
    (∃ (s : State) (p : Pkt), s.accepts 0x0240 (lenIs 1) p = true ∧ Tab.sorted s.bypass = true ∧
      s.axg.jobs.all (fun j => match j.work with | .bypass _ _ _ => false | .policy _ _ _ => false | _ => true) = true ∧
      bit (wd p.words 0) 8 = false ∧ (s.pair (fld (wd p.words 0) 1 0)).st = .opened) ∧
    (∃ (s : State) (p : Pkt), s.accepts 0x0240 (lenIs 1) p = true ∧ Tab.sorted s.bypass = true ∧
      s.axg.jobs.all (fun j => match j.work with | .bypass _ _ _ => false | .policy _ _ _ => false | _ => true) = true ∧
      bit (wd p.words 0) 8 = false ∧ (s.pair (fld (wd p.words 0) 1 0)).st = .closed) ∧
    (∃ (s : State) (p : Pkt), s.accepts 0x0240 (lenIs 1) p = true ∧ Tab.sorted s.bypass = true ∧
      s.axg.jobs.all (fun j => match j.work with | .bypass _ _ _ => false | .policy _ _ _ => false | _ => true) = true ∧
      bit (wd p.words 0) 8 = true ∧ (s.pair (fld (wd p.words 0) 1 0)).st = .opened) ∧
    (∃ (s : State) (p : Pkt), s.accepts 0x0240 (lenIs 1) p = true ∧ Tab.sorted s.bypass = true ∧
      s.axg.jobs.all (fun j => match j.work with | .bypass _ _ _ => false | .policy _ _ _ => false | _ => true) = true ∧
      bit (wd p.words 0) 8 = true ∧ (s.pair (fld (wd p.words 0) 1 0)).st = .opening) ∧
    (∃ (s : State) (p : Pkt), s.accepts 0x0240 (lenIs 1) p = true ∧ Tab.sorted s.bypass = true ∧
      s.axg.jobs.all (fun j => match j.work with | .bypass _ _ _ => false | .policy _ _ _ => false | _ => true) = true ∧
      bit (wd p.words 0) 8 = false ∧ (s.pair (fld (wd p.words 0) 1 0)).st = .closing) ∧
    (∃ (s : State) (p : Pkt), s.accepts 0x0241 (lenIs 2) p = true ∧ Tab.sorted s.bypass = true ∧
      s.axg.jobs.all (fun j => match j.work with | .bypass _ _ _ => false | .policy _ _ _ => false | _ => true) = true ∧
      bit (wd p.words 0) 31 = false) ∧
    (∃ (s : State) (p : Pkt), s.accepts 0x0241 (lenIs 2) p = true ∧ Tab.sorted s.bypass = true ∧
      s.axg.jobs.all (fun j => match j.work with | .bypass _ _ _ => false | .policy _ _ _ => false | _ => true) = true ∧
      bit (wd p.words 0) 31 = true) ∧
    (∃ (s : State) (p : Pkt), s.accepts 0x0242 (lenIs 0) p = true) :=
  ⟨⟨prt 3 {enable := true, st := .up, lfFilter := 50} (byp 1 {st := .opened, released := true} (byp 0 {st := .opened, released := true, auto := true} run)),
    3, 0, true, default, by decide +kernel, by decide +kernel, by decide +kernel, by decide +kernel, by decide +kernel, by decide +kernel,
    by decide +kernel⟩,
   ⟨prt 3 {enable := true, st := .down} run, 3, 2, default, by decide +kernel, by decide +kernel, by decide +kernel, by decide +kernel⟩,
   ⟨run, 3, by decide +kernel, by decide +kernel⟩,
   ⟨prt 3 {enable := true, st := .filter} (byp 1 {st := .opened, released := true} run), 3, by decide +kernel, by decide +kernel,
    by decide +kernel⟩,
   ⟨ln 3 lnU (prt 3 {enable := true, st := .filter} (byp 1 {st := .opened, released := true} (byp 0 {st := .opened, released := true} run))),
    3, by decide +kernel, by decide +kernel, by decide +kernel, by decide +kernel, by decide +kernel, by decide +kernel, by decide +kernel⟩,
   ⟨run, 3, by decide +kernel, by decide +kernel⟩,
   ⟨run, 3, by decide +kernel, by decide +kernel, by decide +kernel⟩,
   ⟨run, 3, by decide +kernel, by decide +kernel⟩,
   ⟨run, 3, by decide +kernel, by decide +kernel⟩,
   ⟨run, 3, by decide +kernel, by decide +kernel⟩,
   ⟨byp 1 {st := .closing} run, 1, by decide +kernel, by decide +kernel, by decide +kernel, by decide +kernel⟩,
   ⟨byp 1 {st := .opening} run, 1, by decide +kernel, by decide +kernel, by decide +kernel, by decide +kernel⟩,
   ⟨byp 1 {auto := true, st := .closed} bg, 1, by decide +kernel, by decide +kernel, by decide +kernel, by decide +kernel,
    by decide +kernel⟩,
   ⟨byp 1 {released := true, st := .probing} run, 1, by decide +kernel, by decide +kernel, by decide +kernel, by decide +kernel,
    by decide +kernel⟩,
   ⟨byp 1 {retrying := true, st := .closing} run, 1, by decide +kernel, by decide +kernel, by decide +kernel, by decide +kernel⟩,
   ⟨run, 3, by decide +kernel, by decide +kernel⟩,
   ⟨{run with rings := [(3,{mode := 1, portA := 4, portB := 7, interlink := 9, seq := 65535})]}, 3, by decide +kernel, by decide +kernel,
    by decide +kernel, by decide +kernel⟩,
   ⟨{run with nodes := [(4,{sa:=5,ring:=2,highSeq:=3,win:=1,seenA:=true,seenB:=false,last:=4})]}, 4, 0x40, by decide +kernel⟩,
   ⟨byp 1 {st := .closed, released := true, held := true, lastCause := 2} (run), spi [0x101], by decide +kernel, by decide +kernel,
    by decide +kernel, by decide +kernel, by decide +kernel⟩,
   ⟨byp 1 {st := .opened, released := true, held := true, lastCause := 2} (run), spi [0x001], by decide +kernel, by decide +kernel,
    by decide +kernel, by decide +kernel, by decide +kernel⟩,
   ⟨byp 1 {st := .closed, released := true, held := true, lastCause := 2} (run), spi [0x001], by decide +kernel, by decide +kernel,
    by decide +kernel, by decide +kernel, by decide +kernel⟩,
   ⟨byp 1 {st := .opened, released := true, held := true, lastCause := 2} (run), spi [0x101], by decide +kernel, by decide +kernel,
    by decide +kernel, by decide +kernel, by decide +kernel⟩,
   ⟨byp 1 {st := .opening, released := true, held := true, lastCause := 2} (run), spi [0x101], by decide +kernel, by decide +kernel,
    by decide +kernel, by decide +kernel, by decide +kernel⟩,
   ⟨byp 1 {st := .closing, released := true, held := true, lastCause := 2} (run), spi [0x001], by decide +kernel, by decide +kernel,
    by decide +kernel, by decide +kernel, by decide +kernel⟩,
   ⟨byp 1 {st := .closing, released := true, held := true, lastCause := 2} (run), spi [0x00000001,0], by decide +kernel,
    by decide +kernel, by decide +kernel, by decide +kernel⟩,
   ⟨byp 1 {st := .closing, released := true, held := true, lastCause := 2} (run), spi [0x80000001,0], by decide +kernel,
    by decide +kernel, by decide +kernel, by decide +kernel⟩,
   ⟨byp 1 {st := .closing, released := true, held := true, lastCause := 2} (run), pk [], by decide +kernel⟩⟩

/-- States and operands that meet the hypotheses of TableCommands, clause by clause. -/
theorem witness_TableCommands :
    (∃ (s : State) (p : Pkt), s.accepts 0x0300 lenFdbAdd p = true ∧ fld (wd p.words 0) 15 0 = 1 ∧ bit (wd p.words 0) 31 = true) ∧
    (∃ (s : State) (p : Pkt) (k : Nat) (old : Fdb), s.accepts 0x0300 lenFdbAdd p = true ∧ fld (wd p.words 0) 15 0 = 1 ∧
      bit (wd p.words 0) 31 = false ∧
      s.fdbFind ({ mac := macOf (wd p.words 1) (wd p.words 2), fid := fld (wd p.words 2) 11 0, dest := destOf (fld (wd p.words 3) 12 0), static := bit (wd p.words 3) 16, hit := (Config.freeNat s.free).testBit 0 } : Fdb).mac ({ mac := macOf (wd p.words 1) (wd p.words 2), fid := fld (wd p.words 2) 11 0, dest := destOf (fld (wd p.words 3) 12 0), static := bit (wd p.words 3) 16, hit := (Config.freeNat s.free).testBit 0 } : Fdb).fid = some (k, old)) ∧
    (∃ (s : State) (p : Pkt) (t : Tab Fdb), s.accepts 0x0300 lenFdbAdd p = true ∧ fld (wd p.words 0) 15 0 = 1 ∧
      bit (wd p.words 0) 31 = false ∧
      s.fdbFind ({ mac := macOf (wd p.words 1) (wd p.words 2), fid := fld (wd p.words 2) 11 0, dest := destOf (fld (wd p.words 3) 12 0), static := bit (wd p.words 3) 16, hit := (Config.freeNat s.free).testBit 0 } : Fdb).mac ({ mac := macOf (wd p.words 1) (wd p.words 2), fid := fld (wd p.words 2) 11 0, dest := destOf (fld (wd p.words 3) 12 0), static := bit (wd p.words 3) 16, hit := (Config.freeNat s.free).testBit 0 } : Fdb).fid = none ∧
      fdbPlace s.fwd.fdb ({ mac := macOf (wd p.words 1) (wd p.words 2), fid := fld (wd p.words 2) 11 0, dest := destOf (fld (wd p.words 3) 12 0), static := bit (wd p.words 3) 16, hit := (Config.freeNat s.free).testBit 0 } : Fdb) = some t) ∧
    (∃ (s : State) (p : Pkt), s.accepts 0x0300 lenFdbAdd p = true ∧ fld (wd p.words 0) 15 0 = 1 ∧ bit (wd p.words 0) 31 = false ∧
      s.fdbFind ({ mac := macOf (wd p.words 1) (wd p.words 2), fid := fld (wd p.words 2) 11 0, dest := destOf (fld (wd p.words 3) 12 0), static := bit (wd p.words 3) 16, hit := (Config.freeNat s.free).testBit 0 } : Fdb).mac ({ mac := macOf (wd p.words 1) (wd p.words 2), fid := fld (wd p.words 2) 11 0, dest := destOf (fld (wd p.words 3) 12 0), static := bit (wd p.words 3) 16, hit := (Config.freeNat s.free).testBit 0 } : Fdb).fid = none ∧
      fdbPlace s.fwd.fdb ({ mac := macOf (wd p.words 1) (wd p.words 2), fid := fld (wd p.words 2) 11 0, dest := destOf (fld (wd p.words 3) 12 0), static := bit (wd p.words 3) 16, hit := (Config.freeNat s.free).testBit 0 } : Fdb) = none) ∧
    (∃ (t : Tab Fdb) (e : Fdb) (w : Nat), w < 4 ∧ Tab.find? t (fdbSlot w e.mac e.fid) = none ∧
      ((∀ v : Nat, v < w → Tab.find? t (fdbSlot v e.mac e.fid) ≠ none))) ∧
    (∃ (s : State) (p : Pkt), s.accepts 0x0301 lenFdbDel p = true ∧ bit (wd p.words 0) 31 = false) ∧
    (∃ (s : State) (p : Pkt), s.accepts 0x0301 lenFdbDel p = true ∧ bit (wd p.words 0) 31 = true) ∧
    (∃ (s : State) (p : Pkt), s.accepts 0x0302 (lenIs 2) p = true ∧ (bit (wd p.words 0) 31) = true) ∧
    (∃ (s : State) (p : Pkt), s.accepts 0x0302 (lenIs 2) p = true ∧ (bit (wd p.words 0) 31) = false) ∧
    (∃ (s : State) (p : Pkt), s.accepts 0x0303 (lenIs 2) p = true) ∧
    (∃ (s : State) (p : Pkt) (k : Nat) (x : Stream), s.accepts 0x0304 (lenEntries 5) p = true ∧ fld (wd p.words 0) 15 0 = 1 ∧
      bit (wd p.words 0) 31 = false ∧ (List.find? (fun (x : Nat × Stream) => x.2.sameKey (streamOf p.words 1)) s.fwd.streams) = some (k, x)) ∧
    (∃ (s : State) (p : Pkt) (k : Nat), s.accepts 0x0304 (lenEntries 5) p = true ∧ fld (wd p.words 0) 15 0 = 1 ∧
      bit (wd p.words 0) 31 = false ∧ (List.find? (fun (x : Nat × Stream) => x.2.sameKey (streamOf p.words 1)) s.fwd.streams) = none ∧
      streamFree s.fwd.streams (streamOf p.words 1).da = some k) ∧
    (∃ (s : State) (p : Pkt), s.accepts 0x0304 (lenEntries 5) p = true ∧ fld (wd p.words 0) 15 0 = 1 ∧ bit (wd p.words 0) 31 = false ∧
      (List.find? (fun (x : Nat × Stream) => x.2.sameKey (streamOf p.words 1)) s.fwd.streams) = none ∧
      streamFree s.fwd.streams (streamOf p.words 1).da = none) ∧
    (∃ (s : State) (p : Pkt) (k : Nat) (x : Stream), s.accepts 0x0304 (lenEntries 5) p = true ∧ fld (wd p.words 0) 15 0 = 1 ∧
      bit (wd p.words 0) 31 = true ∧ (List.find? (fun (x : Nat × Stream) => x.2.sameKey (streamOf p.words 1)) s.fwd.streams) = some (k, x)) ∧
    (∃ (s : State) (p : Pkt), s.accepts 0x0304 (lenEntries 5) p = true ∧ fld (wd p.words 0) 15 0 = 1 ∧ bit (wd p.words 0) 31 = true ∧
      (List.find? (fun (x : Nat × Stream) => x.2.sameKey (streamOf p.words 1)) s.fwd.streams) = none) ∧
    (∃ (s : State) (p : Pkt), s.accepts 0x0305 (lenIs 2) p = true) :=
  ⟨⟨run, pk [0x80000001,5,1,2,3,4], by decide +kernel, by decide +kernel, by decide +kernel⟩,
   ⟨fx, pk [1,0x02000000,0x00090001,0x0001FFFF], 3, { mac := 0x020000000009, fid := 1, dest := 9, static := true, hit := true },
    by decide +kernel, by decide +kernel, by decide +kernel, by decide +kernel⟩,
   ⟨run, addArgs, _, by decide +kernel, by decide +kernel, by decide +kernel, by decide +kernel, place_empty _⟩,
   ⟨fullDb, addArgs, by decide +kernel, by decide +kernel, by decide +kernel, full_lacks _ (by decide +kernel), place_full _ oldFdb⟩,
   ⟨(run).fwd.fdb, { mac := 0x020000000019, fid := 1, dest := 9, static := true, hit := true }, 0, by decide +kernel, by decide +kernel,
    by decide +kernel⟩,
   ⟨run, spi [1,0x02000000,0x00090001], by decide +kernel, by decide +kernel⟩,
   ⟨run, spi [0x80000000,0x3FFF007F], by decide +kernel, by decide +kernel⟩,
   ⟨run, spi [0x80000000,0xFFFFFFFF], by decide +kernel, by decide +kernel⟩,
   ⟨run, spi [0,0xFFFFFFFF], by decide +kernel, by decide +kernel⟩,
   ⟨run, spi [0,0xFFFFFFFF], by decide +kernel⟩,
   ⟨fx, pk [1,0x010CCD01,0x000188B8,0x00050000,0x00100009,128], 4, spv.entry, by decide +kernel, by decide +kernel, by decide +kernel,
    by decide +kernel⟩,
   ⟨run, pk [1,0x010CCD01,0x000188B8,0x00050000,0x00100009,128], streamSlot 0 0x010CCD010001, by decide +kernel, by decide +kernel,
    by decide +kernel, by decide +kernel, stream_slot_free _⟩,
   ⟨{run with fwd := {run.fwd with streams := [(1,{spv.entry with etype := 1}),(2,{spv.entry with etype := 2}),(3,{spv.entry with etype := 3}),(4,{spv.entry with etype := 4})]}},
    pk [1,0x010CCD01,0x000188B8,0x00050000,0x00100009,128], by decide +kernel, by decide +kernel, by decide +kernel, by decide +kernel,
    by decide +kernel⟩,
   ⟨fx, pk [0x80000001,0x010CCD01,0x000188B8,0x00050000,0x00100009,128], 4, spv.entry, by decide +kernel, by decide +kernel,
    by decide +kernel, by decide +kernel⟩,
   ⟨run, pk [0x80000001,0x010CCD01,0x000188B8,0x00050000,0x00100009,128], by decide +kernel, by decide +kernel, by decide +kernel,
    by decide +kernel⟩,
   ⟨run, spi [0,0xFFFFFFFF], by decide +kernel⟩⟩

/-- States and operands that meet the hypotheses of RuleAndBufferCommands, clause by clause. -/
theorem witness_RuleAndBufferCommands :
    (∃ (s : State) (p : Pkt), bit (wd p.words 0) 31 = false ∧ s.accepts 0x0306 (lenIs 10) p = true) ∧
    (∃ (s : State) (p : Pkt), bit (wd p.words 0) 31 = false ∧ s.accepts 0x0307 (lenIs 3) p = true) ∧
    (∃ (s : State) (p : Pkt), bit (wd p.words 0) 31 = false ∧ s.accepts 0x0308 (lenIs 2) p = true) ∧
    (∃ (s : State) (p : Pkt), bit (wd p.words 0) 31 = false ∧ s.accepts 0x0309 (lenIs 6) p = true) ∧
    (∃ (s : State) (p : Pkt), bit (wd p.words 0) 31 = false ∧ s.accepts 0x0340 (lenIs 2) p = true) ∧
    (∃ (s : State) (p : Pkt), bit (wd p.words 0) 31 = false ∧ s.accepts 0x0341 (lenIs 3) p = true) ∧
    (∃ (s : State) (p : Pkt), s.accepts 0x0306 (lenIs 10) p = true ∧ bit (wd p.words 0) 31 = true ∧ Tab.sorted s.fwd.vlans = true) ∧
    (∃ (s : State) (p : Pkt), s.accepts 0x0307 (lenIs 3) p = true ∧ bit (wd p.words 0) 31 = true ∧
      s.portExists (portArg (wd p.words 0)) = true ∧ Tab.sorted s.ports = true) ∧
    (∃ (s : State) (p : Pkt), s.accepts 0x0308 (lenIs 2) p = true ∧ bit (wd p.words 0) 31 = true ∧
      s.portExists (portArg (wd p.words 0)) = true ∧ Tab.sorted s.ports = true) ∧
    (∃ (s : State) (p : Pkt), s.accepts 0x0309 (lenIs 6) p = true ∧ bit (wd p.words 0) 31 = true ∧ Tab.sorted s.fwd.punts = true) ∧
    (∃ (s : State) (p : Pkt) (x y : Nat), s.accepts 0x0340 (lenIs 2) p = true ∧ bit (wd p.words 0) 31 = true ∧
      bit (wd p.words 0) 30 = false ∧ s.portExists (min 103 (fld (wd p.words 0) 6 0)) = true ∧ Tab.sorted s.buf.mins = true ∧
      (x, y) ≠ ((min 103 (fld (wd p.words 0) 6 0)), (min 8 (fld (wd p.words 0) 11 8)))) ∧
    (∃ (s : State) (p : Pkt), s.accepts 0x0341 (lenIs 3) p = true ∧ bit (wd p.words 0) 31 = true) ∧
    (∃ (s : State) (p : Pkt), s.accepts 0x0342 (lenIs 1) p = true) :=
  ⟨⟨run, spi [3,0xFFFFFFFF,0xFFFFFFFF,0xFFFFFFFF,0xFFFFFFFF,0xFFFFFFFF,0xFFFFFFFF,0xFFFFFFFF,0xFFFFFFFF,0xFFFFFFFF], by decide +kernel,
    by decide +kernel⟩,
   ⟨run, spi [3,0xFFFFFFFF,0xFFFFFFFF], by decide +kernel, by decide +kernel⟩,
   ⟨run, spi [3,0xFFFFFFFF], by decide +kernel, by decide +kernel⟩,
   ⟨run, spi [3,0xFFFFFFFF,0xFFFFFFFF,0xFFFFFFFF,0xFFFFFFFF,0xFFFFFFFF], by decide +kernel, by decide +kernel⟩,
   ⟨run, spi [3,0xFFFFFFFF], by decide +kernel, by decide +kernel⟩,
   ⟨run, spi [3,0xFFFFFFFF,0xFFFFFFFF], by decide +kernel, by decide +kernel⟩,
   ⟨run, spi [0x80000003,0xFFFFFFFF,0xFFFFFFFF,0xFFFFFFFF,0xFFFFFFFF,0xFFFFFFFF,0xFFFFFFFF,0xFFFFFFFF,0xFFFFFFFF,0xFFFFFFFF],
    by decide +kernel, by decide +kernel, by decide +kernel⟩,
   ⟨run, spi [0x80000003,0xFFFFFFFF,0xFFFFFFFF], by decide +kernel, by decide +kernel, by decide +kernel, by decide +kernel⟩,
   ⟨run, spi [0x80000003,0xFFFFFFFF], by decide +kernel, by decide +kernel, by decide +kernel, by decide +kernel⟩,
   ⟨run, spi [0x80000003,0xFFFFFFFF,0xFFFFFFFF,0xFFFFFFFF,0xFFFFFFFF,0xFFFFFFFF], by decide +kernel, by decide +kernel, by decide +kernel⟩,
   ⟨run, spi [0x80000003,0xFFFFFFFF], 0x40, 0x40, by decide +kernel, by decide +kernel, by decide +kernel, by decide +kernel,
    by decide +kernel, by decide +kernel⟩,
   ⟨run, spi [0x80000003,0xFFFFFFFF,0xFFFFFFFF], by decide +kernel, by decide +kernel⟩,
   ⟨run, spi [3], by decide +kernel⟩⟩

/-- States and operands that meet the hypotheses of FramesIn, clause by clause. -/
theorem witness_FramesIn :
    (∃ (s : State) (p : Nat) (b : List Byte) (e : Option Bool) (r : Raw), s.receives p = false) ∧
    (∃ (s : State) (p : Nat) (b : List Byte) (ok : Bool) (l : List Nat), s.arriving p = none) ∧
    (∃ (s : State) (p : Nat) (b : List Byte) (ok : Bool) (r : Raw), p < 104 ∧ s.receives p = true ∧ s.arriving p = none ∧
      s.sparkFind p b = none ∧ ((∀ f ∈ s.buf.frames, f.id < s.buf.nextId)) ∧ ((∀ c ∈ s.buf.copies, c.frame < s.buf.nextId)) ∧
      ((∀ x ∈ s.buf.punted, x.frame < s.buf.nextId)) ∧ ((∀ e ∈ s.buf.paths, e.2.frame < s.buf.nextId)) ∧ b.length < 64 ∧
      Tab.sorted s.ports = true) ∧
    (∃ (s : State) (p : Nat) (b : List Byte) (r : Raw), p < 104 ∧ (s.arriving p ≠ none ∨ s.sparkFind p b = none)) ∧
    (∃ (s : State) (p : Nat) (b : List Byte) (r : Raw) (e : Stream), p < 104 ∧ s.receives p = true ∧ s.arriving p = none ∧
      s.sparkFind p b = some e ∧ ((∀ c ∈ s.buf.copies, c.frame < s.buf.nextId))) ∧
    (∃ (s : State) (p : Nat) (b : List Byte) (f : Frame) (v : SparkView), p < 104 ∧ s.arriving p = some f ∧ f.spark = some v ∧
      f.punted = false ∧ State.sparkKeyOk v p (parseHdr f.hsrIn b) = true) ∧
    (∃ (s : State) (p : Nat) (b : List Byte) (f : Frame) (v : SparkView), p < 104 ∧ s.arriving p = some f ∧ f.spark = some v ∧
      f.punted = false ∧ State.sparkKeyOk v p (parseHdr f.hsrIn b) = false) ∧
    (∃ (s : State) (p : Nat) (b : List Byte) (f : Frame) (l : List Nat), p < 104 ∧ s.arriving p = some f ∧ s.frame? f.id = some f ∧
      f.decided = true ∧ f.spark = none ∧ 64 ≤ b.length ∧ b.length ≤ (s.port p).maxFrame) ∧
    (∃ (s : State) (q : Nat), (s.dpUp = false ∨ s.popInsert q = none)) ∧
    (∃ (s : State) (i : Ins) (l : List Ins), s.dpUp = true ∧ s.buf.iqTime = i :: l ∧ i.lookup = false ∧
      s.takesEgress (min 103 i.port) = true ∧ ((∀ f ∈ s.buf.frames, f.id < s.buf.nextId)) ∧
      ((∀ c ∈ s.buf.copies, c.frame < s.buf.nextId)) ∧ ((∀ x ∈ s.buf.punted, x.frame < s.buf.nextId)) ∧
      s.admits (min 103 i.port) (min 8 i.cls) (cellsOf (withFcs (padFrame i.bytes)).length) = true) ∧
    (∃ (s : State) (i : Ins) (l : List Ins), s.dpUp = true ∧ s.buf.iqTime = i :: l ∧ i.lookup = false ∧
      s.takesEgress (min 103 i.port) = true ∧ ((∀ f ∈ s.buf.frames, f.id < s.buf.nextId)) ∧
      ((∀ c ∈ s.buf.copies, c.frame < s.buf.nextId)) ∧ ((∀ x ∈ s.buf.punted, x.frame < s.buf.nextId)) ∧
      s.admits (min 103 i.port) (min 8 i.cls) (cellsOf (withFcs (padFrame i.bytes)).length) = false) ∧
    (∃ (s : State), s.fwd.ageEn = false) ∧
    (∃ (s : State), s.fwd.ageEn = true) :=
  ⟨⟨run, 3, [1], none, {}, by decide +kernel⟩,
   ⟨run, 3, [1], true, [], by decide +kernel⟩,
   ⟨fx, 3, List.replicate 63 1, true, {}, by decide +kernel, by decide +kernel, by decide +kernel, by decide +kernel, by decide +kernel,
    by decide +kernel, by decide +kernel, by decide +kernel, by decide +kernel, by decide +kernel⟩,
   ⟨fx, 3, List.replicate 63 1, {}, by decide +kernel, by decide +kernel⟩,
   ⟨fx, 3, eth 0x010CCD010001 0x020000000011 0x88B8 200, {},
    { da := 0x010CCD010001, etype := 0x88B8, appid := 5, appidEn := false, tagMode := false, vid := 1, dest := 9, cls := 7, spark := true, cut := true, sparkLen := 128 },
    by decide +kernel, by decide +kernel, by decide +kernel, by decide +kernel, by decide +kernel⟩,
   ⟨(arr 3 {(frm 4 (List.replicate 30 7)) with spark := some spv, decided := true} (fx)), 3, eth 0x010CCD010001 0x020000000011 0x88B8 200,
    (((arr 3 {(frm 4 (List.replicate 30 7)) with spark := some spv, decided := true} (fx)).arriving 3).get (by decide +kernel)), spv,
    by decide +kernel, by decide +kernel, by decide +kernel, by decide +kernel, by decide +kernel⟩,
   ⟨(arr 3 {(frm 4 (List.replicate 30 7)) with spark := some {spv with vlan := {fid := 0}}, decided := true} (fx)), 3,
    eth 0x010CCD010001 0x020000000011 0x88B8 200,
    (((arr 3 {(frm 4 (List.replicate 30 7)) with spark := some {spv with vlan := {fid := 0}}, decided := true} (fx)).arriving 3).get (by decide +kernel)),
    {spv with vlan := {fid := 0}}, by decide +kernel, by decide +kernel, by decide +kernel, by decide +kernel, by decide +kernel⟩,
   ⟨(arr 3 {(frm 4 (List.replicate 30 7)) with decided := true, accepted := true, learn := some 3} (fx)), 3,
    eth 0x020000000009 0x020000000011 0x0800 64,
    (((arr 3 {(frm 4 (List.replicate 30 7)) with decided := true, accepted := true, learn := some 3} (fx)).arriving 3).get (by decide +kernel)),
    [], by decide +kernel, by decide +kernel, by decide +kernel, by decide +kernel, by decide +kernel, by decide +kernel, by decide +kernel⟩,
   ⟨run, 0, by decide +kernel⟩,
   ⟨{(fx) with buf := {fx.buf with iqTime := [{bytes := List.replicate 60 1, port := 9, cls := 9}, {bytes := List.replicate 60 1, port := 9, cls := 9}]}},
    {bytes := List.replicate 60 1, port := 9, cls := 9}, [{bytes := List.replicate 60 1, port := 9, cls := 9}], by decide +kernel,
    by decide +kernel, by decide +kernel, by decide +kernel, by decide +kernel, by decide +kernel, by decide +kernel, by decide +kernel⟩,
   ⟨{(fx) with buf := {fx.buf with poolSize := 0, mins := (List.range 936).map (fun i => (i,1)), iqTime := [{bytes := List.replicate 2000 1, port := 3, cls := 2, mark := .twin}, {bytes := List.replicate 2000 1, port := 3, cls := 2, mark := .twin}]}},
    {bytes := List.replicate 2000 1, port := 3, cls := 2, mark := .twin},
    [{bytes := List.replicate 2000 1, port := 3, cls := 2, mark := .twin}], by decide +kernel, by decide +kernel, by decide +kernel,
    by decide +kernel, by decide +kernel, by decide +kernel, by decide +kernel, by decide +kernel⟩,
   ⟨{run with fwd := {run.fwd with ageEn := false}}, by decide +kernel⟩,
   ⟨fx, by decide +kernel⟩⟩

/-- States and operands that meet the hypotheses of FramesOut, clause by clause. -/
theorem witness_FramesOut :
    (∃ (s : State) (p : Nat) (r : Raw), p < 104 ∧
      (s.dpUp = false ∨ (s.port p).st ≠ .up ∨ s.portExists p = false ∨ s.buf.copies.any (fun c => decide (c.port = p) && decide (c.st = CopySt.sending)) = true ∨ (portLanes p).any (fun l => decide ((s.lane l).doze ≠ .awake)) = true ∨ s.nextCopy p = none)) ∧
    (∃ (s : State) (p : Nat) (r : Raw) (c : Copy), p < 104 ∧ s.dpUp = true ∧ (s.port p).st = .up ∧ s.portExists p = true ∧
      s.buf.copies.any (fun c => decide (c.port = p) && decide (c.st = CopySt.sending)) = false ∧
      (portLanes p).any (fun l => decide ((s.lane l).doze ≠ .awake)) = false ∧ s.nextCopy p = some c ∧ c.mark = .none) ∧
    (∃ (s : State) (p : Nat) (c : Copy), s.nextCopy p = some c) ∧
    (∃ (s : State) (p : Nat) (o : Option Int), p < 104 ∧
      s.buf.copies.find? (fun c => decide (c.port = p) && decide (c.st = CopySt.sending)) = none) ∧
    (∃ (s : State) (p : Nat) (o : Option Int) (c : Copy) (f : Frame), p < 104 ∧
      s.buf.copies.find? (fun c => decide (c.port = p) && decide (c.st = CopySt.sending)) = some c ∧ s.frame? c.frame = some f ∧
      f.ended = false) ∧
    (∃ (s : State) (p : Nat) (o : Option Int) (c : Copy) (f : Frame), p < 104 ∧
      s.buf.copies.find? (fun c => decide (c.port = p) && decide (c.st = CopySt.sending)) = some c ∧ s.frame? c.frame = some f ∧
      f.ended = true ∧ c.mark = .none ∧ o = none ∧ c.insIdx = none) :=
  ⟨⟨run, 3, {}, by decide +kernel, by decide +kernel⟩,
   ⟨{bgX with buf := {bgX.buf with copies := bgX.buf.copies.filter (fun c => c.st ≠ .sending)}}, 3, {},
    ((State.nextCopy ({bgX with buf := {bgX.buf with copies := bgX.buf.copies.filter (fun c => c.st ≠ .sending)}}) 3).get (by decide +kernel)),
    by decide +kernel, by decide +kernel, by decide +kernel, by decide +kernel, by decide +kernel, by decide +kernel, by decide +kernel,
    by decide +kernel⟩,
   ⟨{bgX with buf := {bgX.buf with copies := bgX.buf.copies.filter (fun c => c.st ≠ .sending)}}, 3,
    ((State.nextCopy ({bgX with buf := {bgX.buf with copies := bgX.buf.copies.filter (fun c => c.st ≠ .sending)}}) 3).get (by decide +kernel)),
    by decide +kernel⟩,
   ⟨run, 44, none, by decide +kernel, by decide +kernel⟩,
   ⟨bgX, 3, none,
    (((bgX : State).buf.copies.find? (fun c => decide (c.port = 3) && decide (c.st = CopySt.sending))).get (by decide +kernel)),
    ((State.frame? (bgX) (((bgX : State).buf.copies.find? (fun c => decide (c.port = 3) && decide (c.st = CopySt.sending))).get (by decide +kernel)).frame).get (by decide +kernel)),
    by decide +kernel, by decide +kernel, by decide +kernel, by decide +kernel⟩,
   ⟨{bgX with buf := {bgX.buf with frames := bgX.buf.frames.map (fun f => {f with ended := true})}}, 3, none,
    ((({bgX with buf := {bgX.buf with frames := bgX.buf.frames.map (fun f => {f with ended := true})}} : State).buf.copies.find? (fun c => decide (c.port = 3) && decide (c.st = CopySt.sending))).get (by decide +kernel)),
    ((State.frame? ({bgX with buf := {bgX.buf with frames := bgX.buf.frames.map (fun f => {f with ended := true})}}) ((({bgX with buf := {bgX.buf with frames := bgX.buf.frames.map (fun f => {f with ended := true})}} : State).buf.copies.find? (fun c => decide (c.port = 3) && decide (c.st = CopySt.sending))).get (by decide +kernel)).frame).get (by decide +kernel)),
    by decide +kernel, by decide +kernel, by decide +kernel, by decide +kernel, by decide +kernel, by decide +kernel, by decide +kernel⟩⟩

/-- States and operands that meet the hypotheses of NopAnswers, clause by clause. -/
theorem witness_NopAnswers :
    (∃ (s : State) (p : Pkt), s.accepts 0x0100 (lenIs 0) p = true) ∧
    (∃ (s : State) (p : Pkt), s.accepts 0x0100 (fun _ => none) p = true ∧ p.words ≠ []) :=
  ⟨⟨run, pk [], by decide +kernel⟩,
   ⟨run, pk [3], by decide +kernel, by decide +kernel⟩⟩

/-- States and operands that meet the hypotheses of SeqReset, clause by clause. -/
theorem witness_SeqReset :
    (∃ (s : State) (p : Pkt), s.accepts 0x0F03 (lenIs 1) p = true ∧ bit (wd p.words 0) 24 = true) ∧
    (∃ (s : State) (p : Pkt), s.accepts 0x0F03 (lenIs 1) p = true ∧ bit (wd p.words 0) 24 = false) :=
  ⟨⟨{run with axg := {run.axg with replay := [{srcId:=5,own:=true,lastSeq:=3,epoch:=0},{srcId:=5,own:=false,lastSeq:=3,epoch:=0},{srcId:=6,own:=true,lastSeq:=3,epoch:=0}]}},
    spi [0x01000000], by decide +kernel, by decide +kernel⟩,
   ⟨{run with axg := {run.axg with replay := [{srcId:=5,own:=true,lastSeq:=3,epoch:=0},{srcId:=5,own:=false,lastSeq:=3,epoch:=0},{srcId:=6,own:=true,lastSeq:=3,epoch:=0}]}},
    spi [5], by decide +kernel, by decide +kernel⟩⟩

/-- States and operands that meet the hypotheses of AdmissionTest, clause by clause. -/
theorem witness_AdmissionTest :
    (∃ (s : State) (c : Copy) (x y : Nat), c.queue < 9 ∧
      (((s.qOf c.port c.queue) + c.charge ≤ (s.minOf c.port c.queue) ∨ ((s.alphaOf c.queue) ≠ 0 ∧ s.poolUsed + ((s.qOf c.port c.queue) + c.charge - max (s.qOf c.port c.queue) (s.minOf c.port c.queue)) ≤ s.buf.poolSize ∧ ((s.qOf c.port c.queue) + c.charge - (s.minOf c.port c.queue)) * 256 ≤ 2 ^ (s.alphaOf c.queue) * (s.buf.poolSize - s.poolUsed)))) ∧
      (x, y) ≠ (c.port, c.queue)) ∧
    (∃ (s : State) (c : Copy) (x y : Nat), c.queue < 9 ∧
      (¬((s.qOf c.port c.queue) + c.charge ≤ (s.minOf c.port c.queue) ∨ ((s.alphaOf c.queue) ≠ 0 ∧ s.poolUsed + ((s.qOf c.port c.queue) + c.charge - max (s.qOf c.port c.queue) (s.minOf c.port c.queue)) ≤ s.buf.poolSize ∧ ((s.qOf c.port c.queue) + c.charge - (s.minOf c.port c.queue)) * 256 ≤ 2 ^ (s.alphaOf c.queue) * (s.buf.poolSize - s.poolUsed)))) ∧
      Tab.sorted s.buf.admitDrops = true ∧ (x, y) ≠ (c.port, c.queue)) :=
  ⟨⟨run, {frame := 9, port := 3, queue := 0, charge := 1, st := .queued}, 0x40, 0x40, by decide +kernel, by decide +kernel,
    by decide +kernel⟩,
   ⟨{run with buf := {run.buf with poolSize := 0}}, {frame := 1, port := 3, queue := 2, charge := 60000, st := .queued}, 0x40, 0x40,
    by decide +kernel, by decide +kernel, by decide +kernel, by decide +kernel⟩⟩

end Sys2Proof.Tests
end

section
/-! What is fixed at manufacture: no operation of the model writes `fused` (R4, R93, R568). Each operation has one lemma that says so, tagged
for `simp`, in the order of the model's files; an operation's lemma rests on those of the operations it calls. -/

namespace Sys2Proof.Machine

open Sys2Proof

/-! ### How a projection passes conditionals, folds and pairs -/

@[simp] theorem fused_ite (c : Prop) [Decidable c] (a b : State) : (if c then a else b).fused = if c then a.fused else b.fused :=
  apply_ite State.fused c a b

@[simp] theorem foldl_fused {α : Type} (f : State → α → State) (h : ∀ t x, (f t x).fused = t.fused) (l : List α) (s : State) :
    (l.foldl f s).fused = s.fused := by
  induction l generalizing s with
  | nil => rfl
  | cons x l ih => rw [List.foldl_cons, ih, h]

@[simp] theorem foldl_snd_fused {α β : Type} (f : β × State → α → β × State) (h : ∀ a x, (f a x).2.fused = a.2.fused) (l : List α)
    (a : β × State) : (l.foldl f a).2.fused = a.2.fused := by
  induction l generalizing a with
  | nil => rfl
  | cons x l ih => rw [List.foldl_cons, ih, h]

/-- The state of a pair that an operation has returned. -/
theorem snd_fused {α : Type} {p : α × State} {a : α} {t : State} {x : Fused} (h : p = (a, t)) (hp : p.2.fused = x) : t.fused = x := by
  rw [← hp, h]

@[simp] theorem onIdx_fused (n k : Nat) (f : State → State) (s : State) (h : (f s).fused = s.fused) : (onIdx n k f s).fused = s.fused := by
  simp [onIdx, h]

@[simp] theorem State.whileRunning_fused (s : State) (f : State → State) (h : (f s).fused = s.fused) : (s.whileRunning f).fused = s.fused := by
  simp [State.whileRunning, h]

theorem fused_ite_of {c : Prop} [Decidable c] {a b : State} {x : Fused} (ha : a.fused = x) (hb : b.fused = x) :
    (if c then a else b).fused = x := by
  split
  · exact ha
  · exact hb

/-! ### The operations of Machine/Ops.lean -/

@[simp] theorem State.modLane_fused (s : State) (k : Nat) (f : Lane → Lane) : (s.modLane k f).fused = s.fused := by simp [State.modLane]
@[simp] theorem State.modPort_fused (s : State) (k : Nat) (f : Port → Port) : (s.modPort k f).fused = s.fused := by simp [State.modPort]
@[simp] theorem State.modPair_fused (s : State) (k : Nat) (f : Bypass → Bypass) : (s.modPair k f).fused = s.fused := by simp [State.modPair]
@[simp] theorem State.modTb_fused (s : State) (k : Nat) (f : TBase → TBase) : (s.modTb k f).fused = s.fused := by simp [State.modTb]
@[simp] theorem State.drawNat_fused (s : State) : s.drawNat.2.fused = s.fused := by simp [State.drawNat]
@[simp] theorem State.drawInt_fused (s : State) : s.drawInt.2.fused = s.fused := by simp [State.drawInt]
@[simp] theorem State.drawCount_fused (s : State) (m old : Nat) : (s.drawCount m old).2.fused = s.fused := by simp [State.drawCount]

@[simp] theorem State.queueEvent_fused (s : State) (pl : Plane) (r? : Option Rec) : (s.queueEvent pl r?).fused = s.fused := by
  unfold State.queueEvent
  (repeat' split) <;> simp

@[simp] theorem State.signal_fused (s : State) (vec : Nat) : (s.signal vec).fused = s.fused := by simp [State.signal]

theorem State.ringReply_fused (s : State) (pkt : List Word) (t : State) (h : s.ringReply pkt = some t) : t.fused = s.fused := by
  simp only [State.ringReply, Option.ite_none_right_eq_some, Option.some.injEq] at h
  obtain ⟨-, rfl⟩ := h
  simp

@[simp] theorem drainReplies_fused (n : Nat) (s : State) : (drainReplies n s).fused = s.fused := by
  induction n generalizing s with
  | zero => rfl
  | succ n ih =>
    unfold drainReplies
    split
    · rfl
    · split
      next u h => simp [ih, State.ringReply_fused s _ u h]
      · rfl

@[simp] theorem State.drainReplies_fused (s : State) : s.drainReplies.fused = s.fused := by simp [State.drainReplies]
@[simp] theorem State.scriptStatus_fused (s : State) (idx status : Nat) : (s.scriptStatus idx status).fused = s.fused := by
  simp [State.scriptStatus]
@[simp] theorem State.checkStartDone_fused (s : State) : s.checkStartDone.fused = s.fused := by simp [State.checkStartDone]
@[simp] theorem State.twinSeq_fused (s : State) (kind : Nat) : (s.twinSeq kind).2.fused = s.fused := by simp [State.twinSeq]
@[simp] theorem State.putTime_fused (s : State) (i : Ins) : (s.putTime i).fused = s.fused := by simp [State.putTime]
@[simp] theorem State.twinSend_fused (s : State) (kind : Nat) (ws : List Word) : (s.twinSend kind ws).fused = s.fused := by simp [State.twinSend]

@[simp] theorem State.sendReply_fused (s : State) (c : Ctx) (r : Rpl) : (s.sendReply c r).fused = s.fused := by
  unfold State.sendReply
  (repeat' split) <;> simp

@[simp] theorem State.mirrorDone_fused (s : State) (c : Ctx) (r pr : Rpl) : (s.mirrorDone c r pr).fused = s.fused := by simp [State.mirrorDone]

@[simp] theorem State.complete_fused (s : State) (c : Ctx) (r : Rpl) : (s.complete c r).fused = s.fused := by
  unfold State.complete
  (repeat' split) <;> simp

@[simp] theorem State.setHostRegs_fused (s : State) (r : HostRegs) : (s.setHostRegs r).fused = s.fused := by simp [State.setHostRegs]

@[simp] theorem State.applyReg_fused (s : State) (o : RegOp) : (s.applyReg o).fused = s.fused := by
  cases o <;> rfl

@[simp] theorem State.putReg_fused (s : State) (o : RegOp) : (s.putReg o).fused = s.fused := by simp [State.putReg]

@[simp] theorem State.regEnter_fused (s : State) : s.regEnter.fused = s.fused := by
  unfold State.regEnter
  split <;> simp

@[simp] theorem State.regStep_fused (s : State) : s.regStep.fused = s.fused := by
  unfold State.regStep
  split <;> simp

@[simp] theorem State.drainReg_fused (s : State) : s.drainReg.fused = s.fused := by simp [State.drainReg]
@[simp] theorem State.copyRegs_fused (s : State) : s.copyRegs.fused = s.fused := by simp [State.copyRegs]

/-- Every reply keeps it, in whatever context; `State.ok_fused` is the case of an accepted packet's. -/
@[simp] theorem fused_ok (s : State) (c : Ctx) (ws : List Word) : (s.ok c ws).fused = s.fused := by simp [State.ok]

@[simp] theorem fused_err (s : State) (c : Ctx) (status detail : Nat) : (s.err c status detail).fused = s.fused := by simp [State.err]
@[simp] theorem State.completeWhere_fused (s : State) (f : Work → Option Rpl) : (s.completeWhere f).fused = s.fused := by simp [State.completeWhere]

@[simp] theorem State.completeFirst_fused (s : State) (p : Work → Bool) (r : Rpl) : (s.completeFirst p r).fused = s.fused := by
  unfold State.completeFirst
  split <;> simp

/-! ### The operations of Machine/Twin.lean -/

@[simp] theorem State.gateEdges_fused (s : State) : s.gateEdges.fused = s.fused := by
  rw [State.gateEdges, foldl_fused]
  simp

@[simp] theorem State.beacon_fused (s : State) : s.beacon.fused = s.fused := by simp [State.beacon]
@[simp] theorem State.setUnit_fused (s : State) (n : UnitSt) (cause : Nat) : (s.setUnit n cause).fused = s.fused := by simp [State.setUnit]
@[simp] theorem State.setGen_fused (s : State) (g : Nat) : (s.setGen g).fused = s.fused := by simp [State.setGen]
@[simp] theorem State.takeover_fused (s : State) (gen cause : Nat) : (s.takeover gen cause).fused = s.fused := by simp [State.takeover]
@[simp] theorem State.standDown_fused (s : State) : s.standDown.fused = s.fused := by simp [State.standDown]
@[simp] theorem State.switchReply_fused (s : State) (done : Bool) : (s.switchReply done).fused = s.fused := by simp [State.switchReply]
@[simp] theorem State.mirrorAlone_fused (s : State) : s.mirrorAlone.fused = s.fused := by simp [State.mirrorAlone]
@[simp] theorem State.twinLost_fused (s : State) : s.twinLost.fused = s.fused := by simp [State.twinLost]
@[simp] theorem State.twinHeard_fused (s : State) : s.twinHeard.fused = s.fused := by simp [State.twinHeard]
@[simp] theorem State.raiseDispute_fused (s : State) (d : Disputed) (last : Int) : (s.raiseDispute d last).fused = s.fused := by
  simp [State.raiseDispute]
@[simp] theorem State.compared_fused (s : State) (key : Nat) (d : Disputed) (x : Int) : (s.compared key d x).fused = s.fused := by
  simp [State.compared]

@[simp] theorem State.matchHam_fused (s : State) (k : Nat) : (s.matchHam k).fused = s.fused := by
  unfold State.matchHam
  split <;> simp

@[simp] theorem State.ham0Boundary_fused (s : State) (k tb : Nat) (t : Int) (uncal : Bool) :
    (s.ham0Boundary k tb t uncal).fused = s.fused := by
  simp [State.ham0Boundary]
@[simp] theorem State.syncSent_fused (s : State) (sid seq tb : Nat) (st : Stamp) : (s.syncSent sid seq tb st).fused = s.fused := by
  simp [State.syncSent]
@[simp] theorem State.twinTell_fused (s : State) (ws : List Word) : (s.twinTell ws).fused = s.fused := by simp [State.twinTell]
@[simp] theorem State.witnessSample_fused (s : State) (kind id : Nat) (x : Int) : (s.witnessSample kind id x).fused = s.fused := by
  simp [State.witnessSample]

/-! ### The operations of Machine/Axger.lean -/

@[simp] theorem State.authCheck_fused (s : State) (op : Nat) (p : Pkt) : (s.authCheck op p).s.fused = s.fused := by rw [authCheck_frame]
@[simp] theorem State.segAuth_fused (s : State) (op : Nat) (p : Pkt) : (s.segAuth op p).s.fused = s.fused := by rw [segAuth_frame]

@[simp] theorem State.sendToChild_fused (s : State) (w : Worker) (pkt : List Word) : (s.sendToChild w pkt).fused = s.fused := by
  simp [State.sendToChild]

@[simp] theorem State.relayCommand_fused (s : State) (op : Nat) (p : Pkt) : (s.relayCommand op p).fused = s.fused := by
  unfold State.relayCommand
  dsimp only
  (repeat' split) <;> simp

@[simp] theorem State.segment_fused (s : State) (op : Nat) (p : Pkt) : (s.segment op p).fused = s.fused := by
  unfold State.segment
  dsimp only
  (repeat' split) <;> simp

@[simp] theorem State.performNow_fused (s : State) {body : Body} (h : ∀ c ws t, (body c ws t).fused = t.fused) (c : Ctx) (ws : List Word) :
    (s.performNow body c ws).fused = s.fused := by
  unfold State.performNow
  split
  · simp
  · rw [h]
    simp

@[simp] theorem State.perform_fused (s : State) {body : Body} (h : ∀ c ws t, (body c ws t).fused = t.fused) (c : Ctx) (ws : List Word) :
    (s.perform body c ws).fused = s.fused := by simp [State.perform, h]

@[simp] theorem State.authFailed_fused (s : State) (c : Ctx) (detail : Nat) : (s.authFailed c detail).fused = s.fused := by simp [State.authFailed]

@[simp] theorem State.execute_fused (s : State) (len : LenRule) {body : Body} (h : ∀ c ws t, (body c ws t).fused = t.fused) (c : Ctx)
    (ws : List Word) : (s.execute len body c ws).fused = s.fused := by
  unfold State.execute
  dsimp only
  (repeat' split) <;> simp [h]

@[simp] theorem State.accept_fused (s : State) (len : LenRule) {body : Body} (h : ∀ c ws t, (body c ws t).fused = t.fused) (op : Nat) (p : Pkt) :
    (s.accept len body op p).fused = s.fused := by
  unfold State.accept
  dsimp only
  split <;> simp [h]

@[simp] theorem State.taken_fused (s : State) (len : LenRule) {body : Body} (h : ∀ c ws t, (body c ws t).fused = t.fused) (op : Nat) (p : Pkt) :
    (s.taken len body op p).fused = s.fused := by simp [State.taken, h]

@[simp] theorem State.receive_fused (s : State) (len : LenRule) {body : Body} (h : ∀ c ws t, (body c ws t).fused = t.fused) (op : Nat) (p : Pkt) :
    (s.receive len body op p).fused = s.fused := by simp [State.receive, h]

@[simp] theorem bodySysNop_fused (c : Ctx) (ws : List Word) (s : State) : (bodySysNop c ws s).fused = s.fused := by simp [bodySysNop]
@[simp] theorem bodySysIdent_fused (c : Ctx) (ws : List Word) (s : State) : (bodySysIdent c ws s).fused = s.fused := by simp [bodySysIdent]
@[simp] theorem bodyAxgConfig_fused (c : Ctx) (ws : List Word) (s : State) : (bodyAxgConfig c ws s).fused = s.fused := by simp [bodyAxgConfig]
@[simp] theorem axgErrRead_fused (s : State) : (axgErrRead s).fused = s.fused := by simp [axgErrRead]
@[simp] theorem State.countBadHdr_fused (s : State) : s.countBadHdr.fused = s.fused := by simp [State.countBadHdr]
@[simp] theorem State.countMalformed_fused (s : State) : s.countMalformed.fused = s.fused := by simp [State.countMalformed]

/-! ### The operations of Machine/Crucible.lean -/

@[simp] theorem State.beginFlush_fused (s : State) (why : FlushBy) : (s.beginFlush why).fused = s.fused := by simp [State.beginFlush]
@[simp] theorem State.faultFlush_fused (s : State) : s.faultFlush.fused = s.fused := by simp [State.faultFlush]
@[simp] theorem State.commandFlush_fused (s : State) : s.commandFlush.fused = s.fused := by simp [State.commandFlush]

@[simp] theorem State.endFlush_fused (s : State) : s.endFlush.fused = s.fused := by
  unfold State.endFlush
  dsimp only
  (repeat' split) <;> simp

@[simp] theorem State.tearFlush_fused (s : State) : s.tearFlush.fused = s.fused := by
  unfold State.tearFlush
  split <;> simp

@[simp] theorem bodyCrucibleRead_fused (c : Ctx) (ws : List Word) (s : State) : (bodyCrucibleRead c ws s).fused = s.fused := by
  simp [bodyCrucibleRead]
@[simp] theorem bodyCrucibleFlush_fused (c : Ctx) (ws : List Word) (s : State) : (bodyCrucibleFlush c ws s).fused = s.fused := by
  simp [bodyCrucibleFlush]
@[simp] theorem bodyCrucibleLatchRead_fused (c : Ctx) (ws : List Word) (s : State) : (bodyCrucibleLatchRead c ws s).fused = s.fused := by
  simp [bodyCrucibleLatchRead]
@[simp] theorem bodyCrucibleClear_fused (c : Ctx) (ws : List Word) (s : State) : (bodyCrucibleClear c ws s).fused = s.fused := by
  simp [bodyCrucibleClear]

@[simp] theorem ringTake_fused (s : State) : (ringTake s).fused = s.fused := by
  unfold ringTake
  (repeat' split) <;> simp

@[simp] theorem latchTimer_fused (s : State) : (latchTimer s).fused = s.fused := by simp [latchTimer]
@[simp] theorem recordArrival_fused (pl : Plane) (code source : Nat) (d5 d6 d7 : Word) (s : State) :
    (recordArrival pl code source d5 d6 d7 s).fused = s.fused := by
  simp [recordArrival]

/-! ### The operations of Machine/Bellows.lean -/

@[simp] theorem holdupMean_fused (pinUv : Nat) (s : State) : (holdupMean pinUv s).fused = s.fused := by simp [holdupMean]
@[simp] theorem huLowTimer_fused (s : State) : (huLowTimer s).fused = s.fused := by simp [huLowTimer]
@[simp] theorem windowBoundary_fused (s : State) : (windowBoundary s).fused = s.fused := by simp [windowBoundary]

theorem State.admitHead_fused (s : State) (j : LedJob) (t : State) (h : s.admitHead = some (j, t)) : t.fused = s.fused := by
  unfold State.admitHead at h
  split at h
  · cases h
  · split at h
    · cases h
      rfl
    · cases h

@[simp] theorem meterInterval_fused (rails : List Nat) (s : State) : (meterInterval rails s).fused = s.fused := by simp [meterInterval]
@[simp] theorem bodyBudget_fused (c : Ctx) (ws : List Word) (s : State) : (bodyBudget c ws s).fused = s.fused := by simp [bodyBudget]
@[simp] theorem bodyHoldup_fused (c : Ctx) (ws : List Word) (s : State) : (bodyHoldup c ws s).fused = s.fused := by simp [bodyHoldup]
@[simp] theorem bodyReport_fused (c : Ctx) (ws : List Word) (s : State) : (bodyReport c ws s).fused = s.fused := by simp [bodyReport]
@[simp] theorem bodyCosts_fused (c : Ctx) (ws : List Word) (s : State) : (bodyCosts c ws s).fused = s.fused := by simp [bodyCosts]

/-! ### The operations of Machine/Memory.lean -/

@[simp] theorem State.setMemByte_fused (s : State) (a : Nat) (b : Byte) : (s.setMemByte a b).fused = s.fused := by simp [State.setMemByte]

@[simp] theorem State.setMemBytes_fused (s : State) (a : Nat) (bs : List Byte) : (s.setMemBytes a bs).fused = s.fused := by
  induction bs generalizing s a with
  | nil => rfl
  | cons b t ih => simp [State.setMemBytes, ih]

@[simp] theorem hostWindowWrite_fused (off : Nat) (bs : List Byte) (s : State) : (hostWindowWrite off bs s).fused = s.fused := by
  simp [hostWindowWrite]
@[simp] theorem State.setFwByte_fused (s : State) (slot a : Nat) (b : Byte) : (s.setFwByte slot a b).fused = s.fused := by simp [State.setFwByte]

@[simp] theorem State.setFwBytes_fused (s : State) (slot a : Nat) (bs : List Byte) : (s.setFwBytes slot a bs).fused = s.fused := by
  induction bs generalizing s a with
  | nil => rfl
  | cons b t ih => simp [State.setFwBytes, ih]

@[simp] theorem State.setBootGen_fused (s : State) (slot gen : Nat) : (s.setBootGen slot gen).fused = s.fused := by simp [State.setBootGen]

@[simp] theorem bodyMemRead_fused (slots : State → Nat → Option Byte) (c : Ctx) (ws : List Word) (s : State) :
    (bodyMemRead slots c ws s).fused = s.fused := by simp [bodyMemRead]

@[simp] theorem bodyMemWrite_fused (c : Ctx) (ws : List Word) (s : State) : (bodyMemWrite c ws s).fused = s.fused := by simp [bodyMemWrite]

@[simp] theorem bodyImageWrite_fused (c : Ctx) (ws : List Word) (s : State) : (bodyImageWrite c ws s).fused = s.fused := by
  unfold bodyImageWrite
  dsimp only
  split
  · simp
  · rw [foldl_fused] <;> simp

@[simp] theorem bodyBgtest_fused (c : Ctx) (ws : List Word) (s : State) : (bodyBgtest c ws s).fused = s.fused := by simp [bodyBgtest]

@[simp] theorem State.endBgtest_fused (s : State) (b : BgTest) (stopped : Bool) (fail : Option Nat) (words : Nat) :
    (s.endBgtest b stopped fail words).fused = s.fused := by
  unfold State.endBgtest
  dsimp only
  (repeat' split) <;> simp

@[simp] theorem borrowStep_fused (failWords : Nat) (s : State) : (borrowStep failWords s).fused = s.fused := by
  unfold borrowStep
  (repeat' split) <;> simp

@[simp] theorem State.startRegion_fused (s : State) : s.startRegion.fused = s.fused := by simp [State.startRegion]

/-! ### The operations of Machine/Security.lean -/

@[simp] theorem State.wipe_fused (s : State) : s.wipe.fused = s.fused := by simp [State.wipe]
@[simp] theorem State.setLc_fused (s : State) (n : Lc) : (s.setLc n).fused = s.fused := by simp [State.setLc]
@[simp] theorem State.tamperSteps_fused (s : State) (cause : Nat) : (s.tamperSteps cause).fused = s.fused := by simp [State.tamperSteps]

@[simp] theorem tamperDetected_fused (cause : Nat) (s : State) : (tamperDetected cause s).fused = s.fused := by
  unfold tamperDetected
  (repeat' split) <;> simp

@[simp] theorem tamperInputHigh_fused (input : Nat) (s : State) : (tamperInputHigh input s).fused = s.fused := by simp [tamperInputHigh]
@[simp] theorem vbatFall_fused (lost : Bool) (s : State) : (vbatFall lost s).fused = s.fused := by simp [vbatFall]
@[simp] theorem bodyLcSet_fused (c : Ctx) (ws : List Word) (s : State) : (bodyLcSet c ws s).fused = s.fused := by simp [bodyLcSet]
@[simp] theorem bodyLcStatus_fused (c : Ctx) (ws : List Word) (s : State) : (bodyLcStatus c ws s).fused = s.fused := by simp [bodyLcStatus]
@[simp] theorem bodyKeyLoad_fused (c : Ctx) (ws : List Word) (s : State) : (bodyKeyLoad c ws s).fused = s.fused := by simp [bodyKeyLoad]
@[simp] theorem bodySeqReset_fused (c : Ctx) (ws : List Word) (s : State) : (bodySeqReset c ws s).fused = s.fused := by simp [bodySeqReset]
@[simp] theorem bodyTamperStatus_fused (c : Ctx) (ws : List Word) (s : State) : (bodyTamperStatus c ws s).fused = s.fused := by
  simp [bodyTamperStatus]
@[simp] theorem bodyScanEnable_fused (c : Ctx) (ws : List Word) (s : State) : (bodyScanEnable c ws s).fused = s.fused := by simp [bodyScanEnable]
@[simp] theorem State.annealRecord_fused (s : State) (result test completed source : Nat) :
    (s.annealRecord result test completed source).fused = s.fused := by
  simp [State.annealRecord]
@[simp] theorem bodyAnnealConfig_fused (c : Ctx) (ws : List Word) (s : State) : (bodyAnnealConfig c ws s).fused = s.fused := by
  simp [bodyAnnealConfig]
@[simp] theorem bodyAnnealResult_fused (c : Ctx) (ws : List Word) (s : State) : (bodyAnnealResult c ws s).fused = s.fused := by
  simp [bodyAnnealResult]
@[simp] theorem runHourly_fused (s : State) : (runHourly s).fused = s.fused := by simp [runHourly]

/-! ### The operations of Machine/Counters.lean -/

@[simp] theorem State.setPend_fused (s : State) (p n : Nat) : (s.setPend p n).fused = s.fused := by simp [State.setPend]
@[simp] theorem State.setBacklog_fused (s : State) (p n : Nat) : (s.setBacklog p n).fused = s.fused := by simp [State.setBacklog]
@[simp] theorem State.event_fused (s : State) (ev inst q w : Nat) : (s.event ev inst q w).fused = s.fused := by simp [State.event]
@[simp] theorem State.ev_fused (s : State) (ev inst : Nat) : (s.ev ev inst).fused = s.fused := by simp [State.ev]
@[simp] theorem State.addTd_fused (s : State) (p c n : Nat) : (s.addTd p c n).fused = s.fused := by simp [State.addTd]
@[simp] theorem State.segArrive_fused (s : State) (p n : Nat) : (s.segArrive p n).fused = s.fused := by simp [State.segArrive]
@[simp] theorem State.segFate_fused (s : State) (p n : Nat) (delivered : Bool) (cause : Nat) :
    (s.segFate p n delivered cause).fused = s.fused := by
  simp [State.segFate]
@[simp] theorem State.inWindow_fused (s : State) (tick p : Nat) (f : Band → Band) : (s.inWindow tick p f).fused = s.fused := by
  simp [State.inWindow]
@[simp] theorem State.rxBand_fused (s : State) (p len tick : Nat) : (s.rxBand p len tick).fused = s.fused := by simp [State.rxBand]
@[simp] theorem State.txBand_fused (s : State) (p len tick : Nat) : (s.txBand p len tick).fused = s.fused := by simp [State.txBand]
@[simp] theorem bandwidthEnd_fused (s : State) : (bandwidthEnd s).fused = s.fused := by simp [bandwidthEnd]
@[simp] theorem bodyCntConfig_fused (c : Ctx) (ws : List Word) (s : State) : (bodyCntConfig c ws s).fused = s.fused := by simp [bodyCntConfig]
@[simp] theorem State.setCnt_fused (s : State) (k v : Nat) (ovf : Bool) : (s.setCnt k v ovf).fused = s.fused := by simp [State.setCnt]
@[simp] theorem State.clearOvf_fused (s : State) (k : Nat) : (s.clearOvf k).fused = s.fused := by simp [State.clearOvf]
@[simp] theorem State.readCnt_fused (s : State) (k : Nat) (clr : Bool) : (s.readCnt k clr).2.fused = s.fused := by simp [State.readCnt]
@[simp] theorem State.writeCnt_fused (s : State) (k : Nat) (a b : Word) : (s.writeCnt k a b).2.fused = s.fused := by simp [State.writeCnt]

@[simp] theorem State.counterJob_fused (s : State) : s.counterJob.fused = s.fused := by
  unfold State.counterJob
  split <;> simp

@[simp] theorem bodyCntRead_fused (c : Ctx) (ws : List Word) (s : State) : (bodyCntRead c ws s).fused = s.fused := by simp [bodyCntRead]
@[simp] theorem bodyCntWrite_fused (c : Ctx) (ws : List Word) (s : State) : (bodyCntWrite c ws s).fused = s.fused := by simp [bodyCntWrite]
@[simp] theorem bodyBandwidth_fused (c : Ctx) (ws : List Word) (s : State) : (bodyBandwidth c ws s).fused = s.fused := by simp [bodyBandwidth]
@[simp] theorem bodyCntUser_fused (c : Ctx) (ws : List Word) (s : State) : (bodyCntUser c ws s).fused = s.fused := by simp [bodyCntUser]
@[simp] theorem cntPageRead_fused (k word : Nat) (s : State) : (cntPageRead k word s).fused = s.fused := by simp [cntPageRead]

/-! ### The operations of Machine/Buffer.lean -/

@[simp] theorem State.modFrame_fused (s : State) (id : Nat) (g : Frame → Frame) : (s.modFrame id g).fused = s.fused := by simp [State.modFrame]
@[simp] theorem State.newFrame_fused (s : State) (f : Frame) : (s.newFrame f).2.fused = s.fused := by simp [State.newFrame]
@[simp] theorem State.drawCells_fused (s : State) (id len : Nat) : (s.drawCells id len).fused = s.fused := by simp [State.drawCells]

@[simp] theorem State.carry_fused (s : State) (id p n : Nat) : (s.carry id p n).fused = s.fused := by
  unfold State.carry
  (repeat' split) <;> simp

@[simp] theorem State.wrote_fused (s : State) (id len : Nat) : (s.wrote id len).fused = s.fused := by
  unfold State.wrote
  split <;> simp

@[simp] theorem State.arriveSegs_fused (s : State) (id len : Nat) : (s.arriveSegs id len).fused = s.fused := by simp [State.arriveSegs]
@[simp] theorem State.arriveTick_fused (s : State) : s.arriveTick.fused = s.fused := by simp [State.arriveTick]
@[simp] theorem State.eraseFrame_fused (s : State) (id : Nat) : (s.eraseFrame id).fused = s.fused := by simp [State.eraseFrame]

@[simp] theorem State.finish_fused (s : State) (id cause : Nat) : (s.finish id cause).fused = s.fused := by
  unfold State.finish
  split <;> simp

@[simp] theorem State.endFrame_fused (s : State) (id : Nat) : (s.endFrame id).fused = s.fused := by
  unfold State.endFrame
  split <;> simp

@[simp] theorem State.placeSegs_fused (s : State) (q p n : Nat) : (s.placeSegs q p n).fused = s.fused := by
  unfold State.placeSegs
  dsimp only
  (repeat' split) <;> simp

@[simp] theorem State.slotTick_fused (s : State) : s.slotTick.fused = s.fused := by
  have h (t : State) (p : Nat) (c : Bool) : (if c then t else t.setBacklog p (t.backlogOf p - 1)).fused = t.fused := by
    split <;> simp
  simp [State.slotTick]

@[simp] theorem State.dropCopy_fused (s : State) (c : Copy) : (s.dropCopy c).fused = s.fused := by simp [State.dropCopy]
@[simp] theorem State.notePeak_fused (s : State) : s.notePeak.fused = s.fused := by simp [State.notePeak]
@[simp] theorem State.refuse_fused (s : State) (p q id : Nat) : (s.refuse p q id).fused = s.fused := by simp [State.refuse]
@[simp] theorem State.admitCopy_fused (s : State) (c : Copy) : (s.admitCopy c).fused = s.fused := by simp [State.admitCopy]
@[simp] theorem State.countPuntDrop_fused (s : State) (q : Nat) : (s.countPuntDrop q).fused = s.fused := by simp [State.countPuntDrop]
@[simp] theorem State.punt_fused (s : State) (id : Nat) (dst : PuntTo) : (s.punt id dst).fused = s.fused := by simp [State.punt]
@[simp] theorem State.consume_fused (s : State) (x : PuntItem) : (s.consume x).fused = s.fused := by simp [State.consume]
@[simp] theorem State.dropPunt_fused (s : State) (x : PuntItem) (cause : Nat) : (s.dropPunt x cause).fused = s.fused := by simp [State.dropPunt]

@[simp] theorem State.cutShort_fused (s : State) (c : Copy) (lo : Nat) : (s.cutShort c lo).fused = s.fused := by
  unfold State.cutShort
  dsimp only
  (repeat' split) <;> simp

@[simp] theorem State.flushPort_fused (s : State) (p : Nat) : (s.flushPort p).fused = s.fused := by simp [State.flushPort]

@[simp] theorem State.truncateRx_fused (s : State) (p : Nat) : (s.truncateRx p).fused = s.fused := by
  unfold State.truncateRx
  split <;> simp

@[simp] theorem bodyMinSet_fused (c : Ctx) (ws : List Word) (s : State) : (bodyMinSet c ws s).fused = s.fused := by
  unfold bodyMinSet
  dsimp only
  split
  · rw [fused_ok, State.notePeak_fused, foldl_fused]
    simp
  · simp

@[simp] theorem bodyPoolSet_fused (c : Ctx) (ws : List Word) (s : State) : (bodyPoolSet c ws s).fused = s.fused := by simp [bodyPoolSet]
@[simp] theorem bodyOccupancy_fused (c : Ctx) (ws : List Word) (s : State) : (bodyOccupancy c ws s).fused = s.fused := by simp [bodyOccupancy]

/-! ### The operations of Machine/Time.lean -/

@[simp] theorem State.noteIsland_fused (s : State) : s.noteIsland.fused = s.fused := by simp [State.noteIsland]

@[simp] theorem State.endSlew_fused (s : State) (n : Nat) : (s.endSlew n).fused = s.fused := by
  unfold State.endSlew
  split <;> simp

@[simp] theorem State.commandTime_fused (s : State) (n v : Nat) : (s.commandTime n v).fused = s.fused := by simp [State.commandTime]
@[simp] theorem State.logLate_fused (s : State) (pl : Plane) (c : Ctx) (source : Nat) : (s.logLate pl c source).fused = s.fused := by
  simp [State.logLate]
@[simp] theorem bodyTimeGet_fused (c : Ctx) (ws : List Word) (s : State) : (bodyTimeGet c ws s).fused = s.fused := by simp [bodyTimeGet]
@[simp] theorem State.applySet_fused (s : State) (c : Ctx) (n : Nat) (at_ : Bool) (v : Nat) : (s.applySet c n at_ v).fused = s.fused := by
  simp [State.applySet]
@[simp] theorem bodyTimeSet_fused (c : Ctx) (ws : List Word) (s : State) : (bodyTimeSet c ws s).fused = s.fused := by simp [bodyTimeSet]
@[simp] theorem bodyAdjRate_fused (c : Ctx) (ws : List Word) (s : State) : (bodyAdjRate c ws s).fused = s.fused := by simp [bodyAdjRate]
@[simp] theorem State.applyStep_fused (s : State) (c : Ctx) (n : Nat) (at_ : Bool) (off : Int) (t : Nat) :
    (s.applyStep c n at_ off t).fused = s.fused := by
  simp [State.applyStep]
@[simp] theorem bodyTimeStep_fused (c : Ctx) (ws : List Word) (s : State) : (bodyTimeStep c ws s).fused = s.fused := by simp [bodyTimeStep]
@[simp] theorem bodyTimeSlew_fused (c : Ctx) (ws : List Word) (s : State) : (bodyTimeSlew c ws s).fused = s.fused := by simp [bodyTimeSlew]
@[simp] theorem bodyTimeEpoch_fused (c : Ctx) (ws : List Word) (s : State) : (bodyTimeEpoch c ws s).fused = s.fused := by simp [bodyTimeEpoch]

@[simp] theorem slewComplete_fused (n : Nat) (s : State) : (slewComplete n s).fused = s.fused := by
  unfold slewComplete
  split <;> simp

@[simp] theorem State.tickTb_fused (s : State) (n : Nat) : (s.tickTb n).fused = s.fused := by simp [State.tickTb]

/-! ### The operations of Machine/Ref.lean -/

@[simp] theorem State.modRefRun_fused (s : State) (k : Nat) (f : RefRun → RefRun) : (s.modRefRun k f).fused = s.fused := by simp [State.modRefRun]
@[simp] theorem State.setBw_fused (s : State) (b : Nat) : (s.setBw b).fused = s.fused := by simp [State.setBw]
@[simp] theorem State.setAcqBw_fused (s : State) : s.setAcqBw.fused = s.fused := by simp [State.setAcqBw]
@[simp] theorem State.setTrackBw_fused (s : State) : s.setTrackBw.fused = s.fused := by simp [State.setTrackBw]
@[simp] theorem State.steerTowards_fused (s : State) (x : Int) : (s.steerTowards x).fused = s.fused := by simp [State.steerTowards]
@[simp] theorem State.holdSteering_fused (s : State) : s.holdSteering.fused = s.fused := by simp [State.holdSteering]
@[simp] theorem State.tickSteer_fused (s : State) : s.tickSteer.fused = s.fused := by simp [State.tickSteer]
@[simp] theorem State.setTb0_fused (s : State) (n : Tb0St) : (s.setTb0 n).fused = s.fused := by simp [State.setTb0]
@[simp] theorem State.loseReference_fused (s : State) : s.loseReference.fused = s.fused := by simp [State.loseReference]

@[simp] theorem State.takeSelection_fused (s : State) (n : Nat) : (s.takeSelection n).fused = s.fused := by
  unfold State.takeSelection
  dsimp only
  split <;> simp

@[simp] theorem State.unvote_fused (s : State) : s.unvote.fused = s.fused := by simp [State.unvote]

@[simp] theorem State.selectAuto_fused (s : State) : s.selectAuto.fused = s.fused := by
  unfold State.selectAuto
  dsimp only
  (repeat' split) <;> simp

@[simp] theorem State.evaluate_fused (s : State) : s.evaluate.fused = s.fused := by simp [State.evaluate]
@[simp] theorem State.evaluateTick_fused (s : State) : s.evaluateTick.fused = s.fused := by simp [State.evaluateTick]
@[simp] theorem State.checkTarget_fused (s : State) : s.checkTarget.fused = s.fused := by simp [State.checkTarget]
@[simp] theorem State.phaseSample_fused (s : State) (theta : Int) : (s.phaseSample theta).fused = s.fused := by simp [State.phaseSample]
@[simp] theorem State.comparison_fused (s : State) (k : Nat) : (s.comparison k).fused = s.fused := by simp [State.comparison]

@[simp] theorem State.tickComparison_fused (s : State) : s.tickComparison.fused = s.fused := by
  unfold State.tickComparison
  split <;> simp

@[simp] theorem State.refSeen_fused (s : State) (k : Nat) : (s.refSeen k).fused = s.fused := by simp [State.refSeen]
@[simp] theorem State.notePhase_fused (s : State) (k : Nat) (ps : Int) : (s.notePhase k ps).fused = s.fused := by simp [State.notePhase]
@[simp] theorem State.packetSample_fused (s : State) (k : Nat) (theta : Int) : (s.packetSample k theta).fused = s.fused := by
  simp [State.packetSample]
@[simp] theorem State.refFail_fused (s : State) (k cause : Nat) : (s.refFail k cause).fused = s.fused := by simp [State.refFail]
@[simp] theorem State.checkPull_fused (s : State) : s.checkPull.fused = s.fused := by simp [State.checkPull]
@[simp] theorem State.refOff_fused (s : State) (k : Nat) : (s.refOff k).fused = s.fused := by simp [State.refOff]
@[simp] theorem State.refOn_fused (s : State) (k : Nat) : (s.refOn k).fused = s.fused := by simp [State.refOn]
@[simp] theorem State.ppsEdge_fused (s : State) (k ago f8 : Nat) : (s.ppsEdge k ago f8).fused = s.fused := by simp [State.ppsEdge]

@[simp] theorem State.measured_fused (s : State) (m : RefMeas) : (s.measured m).fused = s.fused := by
  unfold State.measured
  (repeat' split) <;> simp

@[simp] theorem xoLossStep_fused (s : State) : (xoLossStep s).fused = s.fused := by simp [xoLossStep]
@[simp] theorem rootRelock_fused (ago : Nat) (s : State) : (rootRelock ago s).fused = s.fused := by simp [rootRelock]
@[simp] theorem clkStatusW1c_fused (mask : Word) (s : State) : (clkStatusW1c mask s).fused = s.fused := by simp [clkStatusW1c]
@[simp] theorem refStateW1c_fused (mask : Word) (s : State) : (refStateW1c mask s).fused = s.fused := by simp [refStateW1c]
@[simp] theorem selectionEval_fused (off : Int) (meas : List RefMeas) (s : State) : (selectionEval off meas s).fused = s.fused := by
  simp [selectionEval]

@[simp] theorem refChecksPass_fused (k : Nat) (ok : State → Nat → Bool) (s : State) : (refChecksPass k ok s).fused = s.fused := by
  simp [refChecksPass]

@[simp] theorem refQualExpiry_fused (k : Nat) (s : State) : (refQualExpiry k s).fused = s.fused := by simp [refQualExpiry]
@[simp] theorem refWtrExpiry_fused (k : Nat) (s : State) : (refWtrExpiry k s).fused = s.fused := by simp [refWtrExpiry]
@[simp] theorem switchComplete_fused (f : Int) (s : State) : (switchComplete f s).fused = s.fused := by simp [switchComplete]
@[simp] theorem lockDetected_fused (off : Int) (errs : List Int) (s : State) : (lockDetected off errs s).fused = s.fused := by simp [lockDetected]
@[simp] theorem lockLost_fused (errs : List Int) (s : State) : (lockLost errs s).fused = s.fused := by simp [lockLost]
@[simp] theorem narrowStep_fused (off : Int) (worst : Nat) (s : State) : (narrowStep off worst s).fused = s.fused := by simp [narrowStep]
@[simp] theorem histValidSet_fused (f t : Int) (s : State) : (histValidSet f t s).fused = s.fused := by simp [histValidSet]
@[simp] theorem predictionUpdate_fused (die : Int) (ext : Option Int) (s : State) : (predictionUpdate die ext s).fused = s.fused := by
  simp [predictionUpdate]
@[simp] theorem fitSample_fused (f t : Int) (s : State) : (fitSample f t s).fused = s.fused := by simp [fitSample]

/-! ### The operations of Machine/Session.lean -/

@[simp] theorem State.modRun_fused (s : State) (sid : Nat) (f : SesRun → SesRun) : (s.modRun sid f).fused = s.fused := by
  unfold State.modRun
  split <;> simp

@[simp] theorem State.updateServo_fused (s : State) (n : Nat) : (s.updateServo n).fused = s.fused := by
  unfold State.updateServo
  dsimp only
  (repeat' split) <;> simp

@[simp] theorem State.servoSample_fused (s : State) (n : Nat) (logSync theta : Int) : (s.servoSample n logSync theta).fused = s.fused := by
  simp [State.servoSample]
@[simp] theorem State.rejoinSample_fused (s : State) (port : Nat) (theta : Int) : (s.rejoinSample port theta).fused = s.fused := by
  simp [State.rejoinSample]

@[simp] theorem State.sesTo_fused (s : State) (sid : Nat) (n : SesSt) : (s.sesTo sid n).fused = s.fused := by
  unfold State.sesTo
  split <;> simp

@[simp] theorem State.sesPortUp_fused (s : State) (sid : Nat) : (s.sesPortUp sid).fused = s.fused := by
  unfold State.sesPortUp
  split <;> simp

@[simp] theorem State.sessionsUp_fused (s : State) (p : Nat) : (s.sessionsUp p).fused = s.fused := by simp [State.sessionsUp]
@[simp] theorem State.sessionsDown_fused (s : State) (p : Nat) : (s.sessionsDown p).fused = s.fused := by simp [State.sessionsDown]

@[simp] theorem State.takeParent_fused (s : State) (sid : Nat) (f : Foreign) : (s.takeParent sid f).fused = s.fused := by
  unfold State.takeParent
  split <;> simp

@[simp] theorem State.recommendMaster_fused (s : State) (sid : Nat) (slaveOnly : Bool) :
    (s.recommendMaster sid slaveOnly).fused = s.fused := by
  unfold State.recommendMaster
  split <;> simp

@[simp] theorem State.decideOne_fused (s : State) (n : Nat) (own : DataSet) (best : Option (Nat × Foreign)) (timedOut : Option Nat) (sid :
    Nat) : (s.decideOne n own best timedOut sid).fused = s.fused := by
  unfold State.decideOne
  dsimp only
  (repeat' split) <;> simp

@[simp] theorem State.bmca_fused (s : State) (n : Nat) (timedOut : Option Nat) : (s.bmca n timedOut).fused = s.fused := by simp [State.bmca]

@[simp] theorem State.delaySample_fused (s : State) (sid : Nat) (d : Int) (coarse : Bool) :
    (s.delaySample sid d coarse).fused = s.fused := by
  unfold State.delaySample
  (repeat' split) <;> simp

@[simp] theorem State.sampleLost_fused (s : State) (sid : Nat) (x : Session) : (s.sampleLost sid x).fused = s.fused := by simp [State.sampleLost]

@[simp] theorem State.offsetSample_fused (s : State) (sid : Nat) : (s.offsetSample sid).fused = s.fused := by
  unfold State.offsetSample
  (repeat' split) <;> simp

@[simp] theorem State.nextSeq_fused (s : State) (k : Nat) : (s.nextSeq k).2.fused = s.fused := by simp [State.nextSeq]

theorem State.iqTimePut_fused (s : State) (i : Ins) (t : State) (h : s.iqTimePut i = some t) : t.fused = s.fused := by
  unfold State.iqTimePut at h
  split at h
  · cases h
    rfl
  · cases h

@[simp] theorem iqTimePut_getD_fused (s : State) (i : Ins) : ((s.iqTimePut i).getD s).fused = s.fused := by
  cases h : s.iqTimePut i with
  | none => rfl
  | some t => exact State.iqTimePut_fused s i t h

@[simp] theorem State.sendMsg_fused (s : State) (sid : Nat) (x : Session) (typ : Nat) (twoStep : Bool) (flags : Nat) (corr : Int) (seq : Nat)
    (logInt : Int) (body : List Byte) (mark : Mark) :
    (s.sendMsg sid x typ twoStep flags corr seq logInt body mark).fused = s.fused := by
  unfold State.sendMsg
  extract_lets sign key tlvLen head peer
  refine fused_ite_of rfl (fused_ite_of (by simp) ?_)
  split
  next msg u hu =>
  have hu : u.fused = s.fused := snd_fused hu (by split <;> rfl)
  split
  next hsr v hv =>
  have hv : v.fused = s.fused := by
    refine (snd_fused hv ?_).trans hu
    split
    · split
      · rfl
      · rfl
    · rfl
  extract_lets i
  refine fused_ite_of hv ?_
  split
  next w hw => rw [State.modRun_fused, State.iqTimePut_fused _ _ _ hw, hv]
  · rw [State.modRun_fused, hv]

@[simp] theorem ptpSend_fused (sid kind : Nat) (s : State) : (ptpSend sid kind s).fused = s.fused := by
  unfold ptpSend
  split <;> simp

@[simp] theorem State.msgStamped_fused (s : State) (sid : Nat) (bs : List Byte) (st : Stamp) :
    (s.msgStamped sid bs st).fused = s.fused := by
  unfold State.msgStamped
  split <;> simp

@[simp] theorem State.overlay_fused (s : State) (mark : Mark) (rates : List Int) (egress : Nat) (bs : List Byte) (rx tx : Stamp) :
    (s.overlay mark rates egress bs rx tx).2.fused = s.fused := by
  unfold State.overlay
  dsimp only
  (repeat' split) <;> simp

theorem State.authRx_fused (s : State) (x : Session) (m : Msg) (t : State) (h : s.authRx x m = some t) : t.fused = s.fused := by
  unfold State.authRx at h
  grind

@[simp] theorem State.takeAnnounce_fused (s : State) (sid : Nat) (x : Session) (m : Msg) : (s.takeAnnounce sid x m).fused = s.fused := by
  unfold State.takeAnnounce
  dsimp only
  (repeat' split) <;> simp

@[simp] theorem State.actOn_fused (s : State) (sid : Nat) (x : Session) (m : Msg) (rx : Stamp) : (s.actOn sid x m rx).fused = s.fused := by
  unfold State.actOn
  (repeat' split) <;> simp

@[simp] theorem ptpTaken_fused (s : State) : (ptpTaken s).fused = s.fused := by
  unfold ptpTaken
  split
  · rfl
  · split
    · rfl
    next it f _ =>
      split
      · simp
      · split
        · rfl
        next m _ =>
          split
          · simp
          next sid _ =>
            split
            · simp
            next x _ =>
              dsimp only
              split
              · simp
              next u hu =>
                have hu : u.fused = s.fused := by simpa using State.authRx_fused _ _ _ _ hu
                (repeat' split) <;> simp [hu]

@[simp] theorem announceTimeout_fused (sid : Nat) (s : State) : (announceTimeout sid s).fused = s.fused := by
  unfold announceTimeout
  dsimp only
  (repeat' split) <;> simp

@[simp] theorem syncLoss_fused (sid : Nat) (s : State) : (syncLoss sid s).fused = s.fused := by
  unfold syncLoss
  split <;> simp

@[simp] theorem m3Expiry_fused (sid : Nat) (s : State) : (m3Expiry sid s).fused = s.fused := by
  unfold m3Expiry
  split <;> simp

/-! ### The operations of Machine/SessionCommands.lean -/

@[simp] theorem State.deleteSession_fused (s : State) (sid : Nat) : (s.deleteSession sid).fused = s.fused := by
  unfold State.deleteSession
  split <;> simp

@[simp] theorem bodySesCreate_fused (c : Ctx) (ws : List Word) (s : State) : (bodySesCreate c ws s).fused = s.fused := by simp [bodySesCreate]
@[simp] theorem bodySesDelete_fused (c : Ctx) (ws : List Word) (s : State) : (bodySesDelete c ws s).fused = s.fused := by simp [bodySesDelete]

@[simp] theorem bodySesRead_fused (c : Ctx) (ws : List Word) (s : State) : (bodySesRead c ws s).fused = s.fused := by
  unfold bodySesRead
  dsimp only
  split <;> simp

@[simp] theorem bodySesStatus_fused (c : Ctx) (ws : List Word) (s : State) : (bodySesStatus c ws s).fused = s.fused := by
  unfold bodySesStatus
  dsimp only
  split <;> simp

@[simp] theorem bodySesServo_fused (c : Ctx) (ws : List Word) (s : State) : (bodySesServo c ws s).fused = s.fused := by simp [bodySesServo]
@[simp] theorem bodySesKey_fused (c : Ctx) (ws : List Word) (s : State) : (bodySesKey c ws s).fused = s.fused := by simp [bodySesKey]

@[simp] theorem esmcSend_fused (p : Nat) (s : State) : (esmcSend p s).fused = s.fused := by
  simp [esmcSend]

@[simp] theorem State.checkQl_fused (s : State) (p : Nat) : (s.checkQl p).fused = s.fused := by simp [State.checkQl]

@[simp] theorem esmcReceived_fused (s : State) : (esmcReceived s).fused = s.fused := by
  unfold esmcReceived
  (repeat' split) <;> simp

@[simp] theorem esmcTimeout_fused (p : Nat) (s : State) : (esmcTimeout p s).fused = s.fused := by simp [esmcTimeout]
@[simp] theorem bodySesEsmc_fused (c : Ctx) (ws : List Word) (s : State) : (bodySesEsmc c ws s).fused = s.fused := by simp [bodySesEsmc]

/-! ### The operations of Machine/Closure.lean -/

@[simp] theorem State.replyRejected_fused (s : State) (r : Closure) (reason : Nat) (fig : Option (Int × Int)) :
    (s.replyRejected r reason fig).fused = s.fused := by
  unfold State.replyRejected
  dsimp only
  split <;> simp

@[simp] theorem State.setRings_fused (s : State) (t : Tab RingRes) : (s.setRings t).fused = s.fused := by simp [State.setRings]
@[simp] theorem State.dropRings_fused (s : State) (r : Closure) : (s.dropRings r).fused = s.fused := by simp [State.dropRings]

@[simp] theorem startClosures_fused (n : Nat) (s : State) : (startClosures n s).fused = s.fused := by
  induction n generalizing s with
  | zero => rfl
  | succ n ih =>
    unfold startClosures
    dsimp only
    (repeat' split) <;> simp [ih]

@[simp] theorem State.nextClosure_fused (s : State) : s.nextClosure.fused = s.fused := by simp [State.nextClosure]
@[simp] theorem bodyClosure_fused (c : Ctx) (ws : List Word) (s : State) : (bodyClosure c ws s).fused = s.fused := by simp [bodyClosure]

@[simp] theorem bodyClosureRead_fused (c : Ctx) (ws : List Word) (s : State) : (bodyClosureRead c ws s).fused = s.fused := by
  unfold bodyClosureRead
  dsimp only
  split <;> simp

@[simp] theorem State.rejectClosure_fused (s : State) (reason : Nat) : (s.rejectClosure reason).fused = s.fused := by
  unfold State.rejectClosure
  split <;> simp

@[simp] theorem State.closurePortLost_fused (s : State) (p : Nat) : (s.closurePortLost p).fused = s.fused := by
  unfold State.closurePortLost
  split <;> simp

@[simp] theorem State.closureNodeLost_fused (s : State) (id : Nat) : (s.closureNodeLost id).fused = s.fused := by
  unfold State.closureNodeLost
  split <;> simp

@[simp] theorem State.applyOwn_fused (s : State) (x : RingRes) : (s.applyOwn x).fused = s.fused := by
  unfold State.applyOwn
  split <;> simp

@[simp] theorem State.tryFinish_fused (s : State) : s.tryFinish.fused = s.fused := by
  unfold State.tryFinish
  (repeat' split) <;> simp

@[simp] theorem State.closureReport_fused (s : State) (w : Worker) : (s.closureReport w).fused = s.fused := by
  unfold State.closureReport
  split <;> simp

@[simp] theorem closureProbeSend_fused (ccw : Bool) (s : State) : (closureProbeSend ccw s).fused = s.fused := by
  unfold closureProbeSend
  split <;> simp

@[simp] theorem State.probeSent_fused (s : State) (seq : Nat) (st : Stamp) : (s.probeSent seq st).fused = s.fused := by
  unfold State.probeSent
  split <;> simp

@[simp] theorem closureProbeReturn_fused (s : State) : (closureProbeReturn s).fused = s.fused := by
  unfold closureProbeReturn
  (repeat' split) <;> simp

/-! ### The operations of Machine/Links.lean -/

@[simp] theorem State.checkLane_fused (s : State) (l : Nat) : (s.checkLane l).fused = s.fused := by simp [State.checkLane]
@[simp] theorem State.leaveUp_fused (s : State) (p : Nat) : (s.leaveUp p).fused = s.fused := by simp [State.leaveUp]
@[simp] theorem State.portDown_fused (s : State) (p : Nat) (st : PortSt) : (s.portDown p st).fused = s.fused := by simp [State.portDown]
@[simp] theorem State.portLoss_fused (s : State) (p : Nat) : (s.portLoss p).fused = s.fused := by simp [State.portLoss]
@[simp] theorem State.confirmPair_fused (s : State) (b : Nat) : (s.confirmPair b).fused = s.fused := by simp [State.confirmPair]
@[simp] theorem State.portUp_fused (s : State) (p : Nat) : (s.portUp p).fused = s.fused := by simp [State.portUp]
@[simp] theorem State.syncFault_fused (s : State) (p : Nat) : (s.syncFault p).fused = s.fused := by simp [State.syncFault]

@[simp] theorem State.syncState_fused (s : State) (p : Nat) : (s.syncState p).fused = s.fused := by
  unfold State.syncState
  dsimp only
  (repeat' split) <;> simp

@[simp] theorem State.syncPort_fused (s : State) (p : Nat) : (s.syncPort p).fused = s.fused := by simp [State.syncPort]
@[simp] theorem State.forceDown_fused (s : State) (p : Nat) : (s.forceDown p).fused = s.fused := by simp [State.forceDown]
@[simp] theorem State.laneSends_fused (s : State) (l : Nat) (o : Output) : (s.laneSends l o).fused = s.fused := by simp [State.laneSends]
@[simp] theorem State.sendFlags_fused (s : State) (l : Nat) : (s.sendFlags l).fused = s.fused := by simp [State.sendFlags]
@[simp] theorem State.wake_fused (s : State) (l : Nat) : (s.wake l).fused = s.fused := by simp [State.wake]
@[simp] theorem State.dozeChanged_fused (s : State) (l : Nat) : (s.dozeChanged l).fused = s.fused := by simp [State.dozeChanged]
@[simp] theorem State.calReply_fused (s : State) (c : CalStep) (reason : Nat) : (s.calReply c reason).fused = s.fused := by simp [State.calReply]
@[simp] theorem State.calReject_fused (s : State) (c : CalStep) (reason : Nat) : (s.calReject c reason).fused = s.fused := by simp [State.calReject]
@[simp] theorem State.breakCal_fused (s : State) (l why : Nat) : (s.breakCal l why).fused = s.fused := by simp [State.breakCal]
@[simp] theorem State.laneStep_fused (s : State) (l n : Nat) : (s.laneStep l n).fused = s.fused := by simp [State.laneStep]
@[simp] theorem State.endTraining_fused (s : State) (l : Nat) (abandoned : Bool) : (s.endTraining l abandoned).fused = s.fused := by
  simp [State.endTraining]
@[simp] theorem State.laneRestart_fused (s : State) (l n : Nat) : (s.laneRestart l n).fused = s.fused := by simp [State.laneRestart]
@[simp] theorem State.lanesRestart_fused (s : State) (ls : List Nat) (n : Nat) : (s.lanesRestart ls n).fused = s.fused := by
  simp [State.lanesRestart]
@[simp] theorem State.laneArrived_fused (s : State) (l : Nat) : (s.laneArrived l).fused = s.fused := by simp [State.laneArrived]
@[simp] theorem State.startClose_fused (s : State) (b cause : Nat) : (s.startClose b cause).fused = s.fused := by simp [State.startClose]
@[simp] theorem State.startOpen_fused (s : State) (b : Nat) (probe : Bool) : (s.startOpen b probe).fused = s.fused := by simp [State.startOpen]
@[simp] theorem State.pairActed_fused (s : State) (b : Nat) (close : Bool) : (s.pairActed b close).fused = s.fused := by simp [State.pairActed]
@[simp] theorem State.pairHeld_fused (s : State) (b : Nat) (acted close : Bool) : (s.pairHeld b acted close).fused = s.fused := by
  simp [State.pairHeld]
@[simp] theorem State.writePolicy_fused (s : State) (b : Nat) (a : Word) : (s.writePolicy b a).fused = s.fused := by simp [State.writePolicy]

@[simp] theorem State.runPair_fused (b n : Nat) (s : State) : (s.runPair b n).fused = s.fused := by
  induction n generalizing s with
  | zero => rfl
  | succ n ih =>
    unfold State.runPair
    dsimp only
    (repeat' split) <;> simp [ih]

@[simp] theorem State.servePair_fused (s : State) (b : Nat) : (s.servePair b).fused = s.fused := by simp [State.servePair]
@[simp] theorem bypassClosed_fused (b : Nat) (s : State) : (bypassClosed b s).fused = s.fused := by simp [bypassClosed]
@[simp] theorem bypassOpened_fused (b : Nat) (s : State) : (bypassOpened b s).fused = s.fused := by simp [bypassOpened]
@[simp] theorem probeStart_fused (b : Nat) (s : State) : (probeStart b s).fused = s.fused := by simp [probeStart]
@[simp] theorem openProbeExpiry_fused (b : Nat) (s : State) : (openProbeExpiry b s).fused = s.fused := by simp [openProbeExpiry]
@[simp] theorem retryGapExpiry_fused (b : Nat) (s : State) : (retryGapExpiry b s).fused = s.fused := by simp [retryGapExpiry]
@[simp] theorem linkLoss_fused (p cause : Nat) (withDown early : Bool) (s : State) :
    (linkLoss p cause withDown early s).fused = s.fused := by
  simp [linkLoss]
@[simp] theorem lfFilterExpiry_fused (p : Nat) (s : State) : (lfFilterExpiry p s).fused = s.fused := by simp [lfFilterExpiry]
@[simp] theorem linkLossCleared_fused (p : Nat) (s : State) : (linkLossCleared p s).fused = s.fused := by simp [linkLossCleared]

/-! ### The operations of Machine/Lanes.lean -/

@[simp] theorem State.chargeTraining_fused (s : State) (l : Nat) : (s.chargeTraining l).fused = s.fused := by simp [State.chargeTraining]
@[simp] theorem State.trainingDone_fused (s : State) (l : Nat) : (s.trainingDone l).fused = s.fused := by simp [State.trainingDone]

@[simp] theorem State.groupAligned_fused (s : State) (l order : Nat) : (s.groupAligned l order).fused = s.fused := by
  simp [State.groupAligned]

@[simp] theorem State.startTraining_fused (s : State) (l : Nat) : (s.startTraining l).fused = s.fused := by simp [State.startTraining]

@[simp] theorem laneStepExit_fused (l : Nat) (pol : Pol) (order : Nat) (s : State) : (laneStepExit l pol order s).fused = s.fused := by
  unfold laneStepExit
  dsimp only
  (repeat' split) <;> simp

@[simp] theorem laneStepTimeout_fused (l : Nat) (s : State) : (laneStepTimeout l s).fused = s.fused := by
  unfold laneStepTimeout
  dsimp only
  (repeat' split) <;> simp

@[simp] theorem cl72Update_fused (l req marker : Nat) (s : State) : (cl72Update l req marker s).fused = s.fused := by simp [cl72Update]
@[simp] theorem cl72Status_fused (l report marker : Nat) (fom : Int) (s : State) : (cl72Status l report marker fom s).fused = s.fused := by
  simp [cl72Status]
@[simp] theorem State.lockLoss_fused (s : State) (l : Nat) : (s.lockLoss l).fused = s.fused := by simp [State.lockLoss]
@[simp] theorem laneSignalLoss_fused (l : Nat) (s : State) : (laneSignalLoss l s).fused = s.fused := by simp [laneSignalLoss]
@[simp] theorem laneLockLoss_fused (l : Nat) (s : State) : (laneLockLoss l s).fused = s.fused := by simp [laneLockLoss]
@[simp] theorem burstEnd_fused (l : Nat) (ok : Bool) (s : State) : (burstEnd l ok s).fused = s.fused := by simp [burstEnd]
@[simp] theorem dozeIdleExpired_fused (l : Nat) (s : State) : (dozeIdleExpired l s).fused = s.fused := by simp [dozeIdleExpired]
@[simp] theorem dozeEntryEnd_fused (l : Nat) (s : State) : (dozeEntryEnd l s).fused = s.fused := by simp [dozeEntryEnd]
@[simp] theorem dozeWake_fused (l : Nat) (s : State) : (dozeWake l s).fused = s.fused := by simp [dozeWake]
@[simp] theorem dozeExitComplete_fused (l : Nat) (s : State) : (dozeExitComplete l s).fused = s.fused := by simp [dozeExitComplete]
@[simp] theorem dozeFlagsPeriodic_fused (l : Nat) (s : State) : (dozeFlagsPeriodic l s).fused = s.fused := by simp [dozeFlagsPeriodic]
@[simp] theorem dozeFlagsReceived_fused (l : Nat) (ok : Bool) (s : State) : (dozeFlagsReceived l ok s).fused = s.fused := by
  simp [dozeFlagsReceived]
@[simp] theorem dozeEnterReceived_fused (l : Nat) (s : State) : (dozeEnterReceived l s).fused = s.fused := by simp [dozeEnterReceived]
@[simp] theorem dozeBurstReceived_fused (l : Nat) (s : State) : (dozeBurstReceived l s).fused = s.fused := by simp [dozeBurstReceived]
@[simp] theorem dozeBurstMissed_fused (l : Nat) (regained : Bool) (s : State) : (dozeBurstMissed l regained s).fused = s.fused := by
  simp [dozeBurstMissed]
@[simp] theorem lpiTransition_fused (l : Nat) (tx on : Bool) (s : State) : (lpiTransition l tx on s).fused = s.fused := by simp [lpiTransition]

@[simp] theorem runSketch_fused (l n : Nat) (s : State) : (runSketch l n s).fused = s.fused := by
  induction n generalizing s with
  | zero => rfl
  | succ n ih =>
    unfold runSketch
    dsimp only
    (repeat' split) <;> simp [ih]

@[simp] theorem State.serveSketch_fused (s : State) (l : Nat) : (s.serveSketch l).fused = s.fused := by simp [State.serveSketch]

@[simp] theorem State.sketchAdmitted_fused (s : State) (l code : Nat) : (s.sketchAdmitted l code).fused = s.fused := by
  unfold State.sketchAdmitted
  split <;> simp

@[simp] theorem sketchScanEnd_fused (l : Nat) (rows : List EyeErr) (lost : Bool) (s : State) :
    (sketchScanEnd l rows lost s).fused = s.fused := by
  unfold sketchScanEnd
  split <;> simp

@[simp] theorem bodyLaneConfig_fused (c : Ctx) (ws : List Word) (s : State) : (bodyLaneConfig c ws s).fused = s.fused := by simp [bodyLaneConfig]

@[simp] theorem bodyLaneStatus_fused (c : Ctx) (ws : List Word) (s : State) : (bodyLaneStatus c ws s).fused = s.fused := by
  unfold bodyLaneStatus
  dsimp only
  split <;> simp

@[simp] theorem bodyLaneTrain_fused (c : Ctx) (ws : List Word) (s : State) : (bodyLaneTrain c ws s).fused = s.fused := by simp [bodyLaneTrain]

@[simp] theorem State.trainAdmitted_fused (s : State) (l : Nat) : (s.trainAdmitted l).fused = s.fused := by
  unfold State.trainAdmitted
  dsimp only
  split <;> simp

@[simp] theorem bodyLaneDoze_fused (c : Ctx) (ws : List Word) (s : State) : (bodyLaneDoze c ws s).fused = s.fused := by simp [bodyLaneDoze]
@[simp] theorem bodyLaneSketch_fused (c : Ctx) (ws : List Word) (s : State) : (bodyLaneSketch c ws s).fused = s.fused := by simp [bodyLaneSketch]
@[simp] theorem bodySketchRead_fused (c : Ctx) (ws : List Word) (s : State) : (bodySketchRead c ws s).fused = s.fused := by simp [bodySketchRead]

@[simp] theorem bodyLoopback_fused (c : Ctx) (ws : List Word) (s : State) : (bodyLoopback c ws s).fused = s.fused := by
  unfold bodyLoopback
  dsimp only
  (repeat' split) <;> simp

/-! ### The operations of Machine/Ports.lean -/

@[simp] theorem State.changeRing_fused (s : State) (k : Nat) (r : Ring) : (s.changeRing k r).fused = s.fused := by simp [State.changeRing]
@[simp] theorem State.dropRoles_fused (s : State) : s.dropRoles.fused = s.fused := by simp [State.dropRoles]
@[simp] theorem State.setForm_fused (s : State) (k : Nat) (on : Bool) : (s.setForm k on).fused = s.fused := by simp [State.setForm]
@[simp] theorem bodyPortConfig_fused (c : Ctx) (ws : List Word) (s : State) : (bodyPortConfig c ws s).fused = s.fused := by simp [bodyPortConfig]

@[simp] theorem bodyPortStatus_fused (c : Ctx) (ws : List Word) (s : State) : (bodyPortStatus c ws s).fused = s.fused := by
  unfold bodyPortStatus
  dsimp only
  split <;> simp

@[simp] theorem bodyPortAdmin_fused (c : Ctx) (ws : List Word) (s : State) : (bodyPortAdmin c ws s).fused = s.fused := by simp [bodyPortAdmin]
@[simp] theorem bodyPortRing_fused (c : Ctx) (ws : List Word) (s : State) : (bodyPortRing c ws s).fused = s.fused := by simp [bodyPortRing]
@[simp] theorem bodyNodeRead_fused (c : Ctx) (ws : List Word) (s : State) : (bodyNodeRead c ws s).fused = s.fused := by simp [bodyNodeRead]

@[simp] theorem State.seeNode_fused (s : State) (sa ring q role : Nat) : (s.seeNode sa ring q role).2.fused = s.fused := by
  unfold State.seeNode
  (repeat' split) <;> simp

@[simp] theorem entryForget_fused (slot : Nat) (s : State) : (entryForget slot s).fused = s.fused := by simp [entryForget]
@[simp] theorem nodeForget_fused (slot : Nat) (s : State) : (nodeForget slot s).fused = s.fused := by simp [nodeForget]
@[simp] theorem supervisionSend_fused (k : Nat) (s : State) : (supervisionSend k s).fused = s.fused := by simp [supervisionSend]
@[simp] theorem bodyBypassSet_fused (c : Ctx) (ws : List Word) (s : State) : (bodyBypassSet c ws s).fused = s.fused := by simp [bodyBypassSet]
@[simp] theorem bodyBypassPolicy_fused (c : Ctx) (ws : List Word) (s : State) : (bodyBypassPolicy c ws s).fused = s.fused := by
  simp [bodyBypassPolicy]
@[simp] theorem bodyBypassStatus_fused (c : Ctx) (ws : List Word) (s : State) : (bodyBypassStatus c ws s).fused = s.fused := by
  simp [bodyBypassStatus]

/-! ### The operations of Machine/RefCommands.lean -/

@[simp] theorem refCheckFail_fused (k : Nat) (why : RefWhy) (s : State) : (refCheckFail k why s).fused = s.fused := by
  unfold refCheckFail
  split <;> simp

@[simp] theorem State.restPhase_fused (s : State) : s.restPhase.fused = s.fused := by simp [State.restPhase]
@[simp] theorem bodyRefConfig_fused (c : Ctx) (ws : List Word) (s : State) : (bodyRefConfig c ws s).fused = s.fused := by simp [bodyRefConfig]
@[simp] theorem bodyRefRank_fused (c : Ctx) (ws : List Word) (s : State) : (bodyRefRank c ws s).fused = s.fused := by simp [bodyRefRank]
@[simp] theorem bodyRefSelect_fused (c : Ctx) (ws : List Word) (s : State) : (bodyRefSelect c ws s).fused = s.fused := by simp [bodyRefSelect]
@[simp] theorem bodyRefStatus_fused (c : Ctx) (ws : List Word) (s : State) : (bodyRefStatus c ws s).fused = s.fused := by simp [bodyRefStatus]
@[simp] theorem State.trackChanged_fused (s : State) : s.trackChanged.fused = s.fused := by simp [State.trackChanged]
@[simp] theorem bodyRefBandwidth_fused (c : Ctx) (ws : List Word) (s : State) : (bodyRefBandwidth c ws s).fused = s.fused := by
  simp [bodyRefBandwidth]
@[simp] theorem bodyRefHoldover_fused (c : Ctx) (ws : List Word) (s : State) : (bodyRefHoldover c ws s).fused = s.fused := by simp [bodyRefHoldover]

/-! ### The operations of Machine/Forward.lean -/

@[simp] theorem State.learn_fused (s : State) (mac fid port : Nat) : (s.learn mac fid port).fused = s.fused := by
  unfold State.learn
  (repeat' split) <;> simp

@[simp] theorem ageSweep_fused (s : State) : (ageSweep s).fused = s.fused := by simp [ageSweep]

@[simp] theorem State.ruleFor_fused (s : State) (p : Nat) (h : Hdr) : (s.ruleFor p h).2.fused = s.fused := by
  unfold State.ruleFor
  split <;> simp

@[simp] theorem State.ringRules_fused (s : State) (at_ : Option (Nat × Ring × Nat)) (fid : Nat) (h : Hdr) (bs : List Byte) (whole : Bool) :
    (s.ringRules at_ fid h bs whole).2.fused = s.fused := by
  unfold State.ringRules
  dsimp only
  (repeat' split) <;> simp

@[simp] theorem State.vlanDrop_fused (s : State) (p : Nat) : (s.vlanDrop p).fused = s.fused := by simp [State.vlanDrop]

@[simp] theorem State.prune_fused (s : State) (p vid : Nat) (l : List Nat) : (s.prune p vid l).2.fused = s.fused := by
  simp [State.prune]

@[simp] theorem State.lookup_fused (s : State) (p vid cls : Nat) (h : Hdr) (d : Decision) : (s.lookup p vid cls h d).2.fused = s.fused := by
  unfold State.lookup
  dsimp only
  (repeat' split) <;> simp

@[simp] theorem State.resolve_fused (s : State) (p : Nat) (bs : List Byte) (whole : Bool) : (s.resolve p bs whole).2.fused = s.fused := by
  unfold State.resolve
  dsimp only
  (repeat' split) <;> simp

/-! ### The operations of Machine/Frames.lean -/

@[simp] theorem State.seqsFor_fused (s : State) (d : Decision) : (s.seqsFor d).2.fused = s.fused := by
  refine foldl_snd_fused _ (fun acc k => ?_) _ _
  dsimp only
  (repeat' split) <;> simp

@[simp] theorem State.admitAll_fused (s : State) (id p : Nat) (d : Decision) (h : Hdr) (bs : List Byte) (cut : Nat → Bool) (ended : Bool)
    (n : Nat) : (s.admitAll id p d h bs cut ended n).fused = s.fused := by
  simp [State.admitAll]
@[simp] theorem State.settle_fused (s : State) (id len : Nat) : (s.settle id len).fused = s.fused := by simp [State.settle]
@[simp] theorem State.noteDigest_fused (s : State) (p : Nat) (rx : Stamp) (d : Decision) : (s.noteDigest p rx d).fused = s.fused := by
  simp [State.noteDigest]

@[simp] theorem State.puntMsg_fused (s : State) (id p : Nat) (h : Hdr) (bs : List Byte) (dst : PuntTo) :
    (s.puntMsg id p h bs dst).fused = s.fused := by
  unfold State.puntMsg
  dsimp only
  (repeat' split) <;> simp

@[simp] theorem State.decide_fused (s : State) (id p : Nat) (d : Decision) (h : Hdr) (bs : List Byte) (cut : Nat → Bool) (ended : Bool) (n
    : Nat) : (s.decide_ id p d h bs cut ended n).fused = s.fused := by
  unfold State.decide_
  dsimp only
  split <;> simp

@[simp] theorem State.startFrame_fused (s : State) (p : Nat) (bs : List Byte) (r : Raw) : (s.startFrame p bs r).2.fused = s.fused := by
  simp [State.startFrame]
@[simp] theorem State.closeFrame_fused (s : State) (id cause : Nat) : (s.closeFrame id cause).fused = s.fused := by simp [State.closeFrame]

@[simp] theorem State.learnFrame_fused (s : State) (id p : Nat) (bs : List Byte) : (s.learnFrame id p bs).fused = s.fused := by
  unfold State.learnFrame
  split <;> simp

@[simp] theorem State.wholeFrame_fused (s : State) (id p : Nat) (bs : List Byte) (ok : Bool) :
    (s.wholeFrame id p bs ok).fused = s.fused := by
  simp [State.wholeFrame]

@[simp] theorem State.endCopies_fused (s : State) (id : Nat) (each : State → Copy → State) (h : ∀ t c, (each t c).fused = t.fused) :
    (s.endCopies id each).fused = s.fused := foldl_fused each h _ _

@[simp] theorem State.cutWhole_fused (s : State) (c : Copy) : (s.cutWhole c).fused = s.fused := by simp [State.cutWhole]

@[simp] theorem State.badEnd_fused (s : State) (id p : Nat) : (s.badEnd id p).fused = s.fused := by
  simp [State.badEnd]

@[simp] theorem State.dupEnd_fused (s : State) (id lo : Nat) : (s.dupEnd id lo).fused = s.fused := by
  simp [State.dupEnd]

@[simp] theorem State.lateEnd_fused (s : State) (f : Frame) (p : Nat) (bs : List Byte) (ok : Bool) (under : List Nat) :
    (s.lateEnd f p bs ok under).fused = s.fused := by
  unfold State.lateEnd
  extract_lets n id h long u v a b d late
  have hv : v.fused = s.fused := by simp [v, u]
  have hd : d.fused = s.fused := by simp [d, b, a, hv]
  refine fused_ite_of (by simp [hd]) (fused_ite_of (by simp [hv]) ?_)
  split
  next ri w hw =>
  have hw : w.fused = s.fused := by
    refine (snd_fused hw ?_).trans hv
    split <;> simp
  simp [hw]

@[simp] theorem State.sparkStart_fused (s : State) (p : Nat) (e : Stream) (bs : List Byte) (r : Raw) :
    (s.sparkStart p e bs r).fused = s.fused := by
  unfold State.sparkStart
  dsimp only
  split <;> simp

@[simp] theorem State.sparkMismatch_fused (s : State) (f : Frame) : (s.sparkMismatch f).fused = s.fused := by
  simp [State.sparkMismatch]

@[simp] theorem State.fillSeq_fused (s : State) (id k q : Nat) : (s.fillSeq id k q).fused = s.fused := by simp [State.fillSeq]

@[simp] theorem State.sparkByte127_fused (s : State) (f : Frame) (bs : List Byte) : (s.sparkByte127 f bs).fused = s.fused := by
  unfold State.sparkByte127
  extract_lets p h t free fix prun u
  have ht : t.fused = s.fused := by simp [t]
  clear_value fix
  have hu : u.fused = s.fused := by
    unfold u
    (repeat' split) <;> simp [ht]
  refine fused_ite_of rfl ?_
  split
  · rfl
  next v _ =>
    refine fused_ite_of (by simp) ?_
    split
    next ri w hw =>
    have hw : w.fused = s.fused := snd_fused hw (by simp [hu])
    refine fused_ite_of (by simp [hw]) ?_
    extract_lets x y
    have hx : x.fused = s.fused := by
      unfold x
      split <;> simp [hw]
    have hy : y.fused = s.fused := by
      unfold y
      split
      · refine fused_ite_of hx ?_
        split
        next hr => exact fused_ite_of (by simpa [hx] using snd_fused hr (x.ruleFor_fused p h)) hx
        · exact hx
      · exact hx
    simp [hy]

@[simp] theorem frameLastByte_fused (p : Nat) (bs : List Byte) (ok : Bool) (under : List Nat) (s : State) :
    (frameLastByte p bs ok under s).fused = s.fused := by
  unfold frameLastByte
  dsimp only
  (repeat' split) <;> simp

@[simp] theorem frameTrigger_fused (p : Nat) (bs : List Byte) (ended : Option Bool) (r : Raw) (s : State) :
    (frameTrigger p bs ended r s).fused = s.fused := by
  unfold frameTrigger
  dsimp only
  (repeat' split) <;> simp

@[simp] theorem sparkMatch_fused (p : Nat) (bs : List Byte) (r : Raw) (s : State) : (sparkMatch p bs r s).fused = s.fused := by
  unfold sparkMatch
  (repeat' split) <;> simp

@[simp] theorem sparkKeyFail_fused (p : Nat) (bs : List Byte) (s : State) : (sparkKeyFail p bs s).fused = s.fused := by
  unfold sparkKeyFail
  (repeat' split) <;> simp

@[simp] theorem State.setCopy_fused (s : State) (old new : Copy) : (s.setCopy old new).fused = s.fused := by simp [State.setCopy]
@[simp] theorem State.insStamped_fused (s : State) (i : Nat) (st : Option Stamp) : (s.insStamped i st).fused = s.fused := by simp [State.insStamped]

@[simp] theorem State.afterStamp_fused (s : State) (c : Copy) (bs : List Byte) (tx : Stamp) : (s.afterStamp c bs tx).fused = s.fused := by
  unfold State.afterStamp
  (repeat' split) <;> simp

@[simp] theorem egressSelect_fused (p : Nat) (r : Raw) (s : State) : (egressSelect p r s).fused = s.fused := by
  unfold egressSelect
  (repeat' split) <;> simp

@[simp] theorem stampVerify_fused (p : Nat) (c : Copy) (off : Option Int) (tx : Stamp) (s : State) :
    (stampVerify p c off tx s).2.fused = s.fused := by
  unfold stampVerify
  (repeat' split) <;> simp

@[simp] theorem frameTxEnd_fused (p : Nat) (off : Option Int) (s : State) : (frameTxEnd p off s).fused = s.fused := by
  unfold frameTxEnd
  dsimp only
  (repeat' split) <;> simp

@[simp] theorem State.startCopy_fused (s : State) (q id n : Nat) : (s.startCopy q id n).fused = s.fused := by
  unfold State.startCopy
  split <;> simp

theorem State.popInsert_fused (s : State) (q : Nat) (i : Ins) (t : State) (h : s.popInsert q = some (i, t)) : t.fused = s.fused := by
  unfold State.popInsert at h
  split at h <;> cases h <;> rfl

@[simp] theorem State.insCopied_fused (s : State) (i : Ins) (stored : Bool) : (s.insCopied i stored).fused = s.fused := by
  unfold State.insCopied
  split <;> simp

@[simp] theorem State.insertDirect_fused (s : State) (id : Nat) (i : Ins) (n : Nat) : (s.insertDirect id i n).fused = s.fused := by
  simp [State.insertDirect]
@[simp] theorem State.insertLookup_fused (s : State) (id : Nat) (i : Ins) (bs : List Byte) (n : Nat) :
    (s.insertLookup id i bs n).fused = s.fused := by
  simp [State.insertLookup]

@[simp] theorem insertFrame_fused (q : Nat) (s : State) : (insertFrame q s).fused = s.fused := by
  unfold insertFrame
  split
  · rfl
  · split
    · rfl
    next i t h => simp [State.popInsert_fused s q i t h]

/-! ### The operations of Machine/ForwardCommands.lean -/

@[simp] theorem State.fdbAdd_fused (s : State) (a b d : Word) : (s.fdbAdd a b d).2.fused = s.fused := by
  unfold State.fdbAdd
  dsimp only
  (repeat' split) <;> simp

@[simp] theorem bodyFdbAdd_fused (c : Ctx) (ws : List Word) (s : State) : (bodyFdbAdd c ws s).fused = s.fused := by
  unfold bodyFdbAdd
  dsimp only
  rw [fused_ok]
  split
  · rw [foldl_fused]
    simp
  · simp

@[simp] theorem State.fdbDelKeys_fused (s : State) (ws : List Word) : (s.fdbDelKeys ws).fused = s.fused := by simp [State.fdbDelKeys]
@[simp] theorem State.fdbFlush_fused (s : State) (w : Word) : (s.fdbFlush w).fused = s.fused := by simp [State.fdbFlush]
@[simp] theorem bodyFdbDel_fused (c : Ctx) (ws : List Word) (s : State) : (bodyFdbDel c ws s).fused = s.fused := by simp [bodyFdbDel]
@[simp] theorem bodyFdbRead_fused (c : Ctx) (ws : List Word) (s : State) : (bodyFdbRead c ws s).fused = s.fused := by simp [bodyFdbRead]
@[simp] theorem bodyAgeing_fused (c : Ctx) (ws : List Word) (s : State) : (bodyAgeing c ws s).fused = s.fused := by simp [bodyAgeing]

@[simp] theorem State.streamSet_fused (s : State) (del : Bool) (e : Stream) : (s.streamSet del e).2.fused = s.fused := by
  unfold State.streamSet
  dsimp only
  (repeat' split) <;> simp

@[simp] theorem bodyStreamSet_fused (c : Ctx) (ws : List Word) (s : State) : (bodyStreamSet c ws s).fused = s.fused := by
  simp [bodyStreamSet]

@[simp] theorem bodyStreamRead_fused (c : Ctx) (ws : List Word) (s : State) : (bodyStreamRead c ws s).fused = s.fused := by simp [bodyStreamRead]
@[simp] theorem bodyVlanSet_fused (c : Ctx) (ws : List Word) (s : State) : (bodyVlanSet c ws s).fused = s.fused := by simp [bodyVlanSet]
@[simp] theorem bodyClassMap_fused (c : Ctx) (ws : List Word) (s : State) : (bodyClassMap c ws s).fused = s.fused := by simp [bodyClassMap]
@[simp] theorem bodyCutMode_fused (c : Ctx) (ws : List Word) (s : State) : (bodyCutMode c ws s).fused = s.fused := by simp [bodyCutMode]
@[simp] theorem bodyPuntRule_fused (c : Ctx) (ws : List Word) (s : State) : (bodyPuntRule c ws s).fused = s.fused := by simp [bodyPuntRule]

/-! ### The operations of Machine/HostBus.lean -/

@[simp] theorem State.restartCring_fused (s : State) (a : Axg) : (s.restartCring a).fused = s.fused := by simp [State.restartCring]
@[simp] theorem State.restartRring_fused (s : State) (a : Axg) : (s.restartRring a).fused = s.fused := by simp [State.restartRring]
@[simp] theorem State.restartPring_fused (s : State) (h : Hst) : (s.restartPring h).fused = s.fused := by simp [State.restartPring]
@[simp] theorem State.restartIring_fused (s : State) (h : Hst) : (s.restartIring h).fused = s.fused := by simp [State.restartIring]
@[simp] theorem State.writeMsix_fused (s : State) (k : Nat) (v : Word) : (s.writeMsix k v).fused = s.fused := by simp [State.writeMsix]

theorem State.registerPut_fused (s : State) (off : Nat) (v : Word) (t : State) (h : s.registerPut off v = some t) : t.fused = s.fused := by
  unfold State.registerPut at h
  dsimp only at h
  split at h
  · cases h
    simp
  · split at h <;> cases h <;> simp

@[simp] theorem registerWrite_fused (off : Nat) (v : Word) (s : State) : (registerWrite off v s).fused = s.fused := by
  unfold registerWrite
  split
  · rfl
  · split
    next t h => simp [State.registerPut_fused s off v t h]
    · rfl

@[simp] theorem rplCiWrite_fused (v : Nat) (s : State) : (rplCiWrite v s).fused = s.fused := by simp [rplCiWrite]
@[simp] theorem puntPiWrite_fused (v : Nat) (s : State) : (puntPiWrite v s).fused = s.fused := by simp [puntPiWrite]
@[simp] theorem insPiWrite_fused (v : Nat) (s : State) : (insPiWrite v s).fused = s.fused := by simp [insPiWrite]
@[simp] theorem hostClkW1c_fused (v : Word) (s : State) : (hostClkW1c v s).fused = s.fused := by simp [hostClkW1c]
@[simp] theorem hostRefW1c_fused (v : Word) (s : State) : (hostRefW1c v s).fused = s.fused := by simp [hostRefW1c]
@[simp] theorem hostPlaneW1c_fused (v : Word) (s : State) : (hostPlaneW1c v s).fused = s.fused := by simp [hostPlaneW1c]
@[simp] theorem regOperation_fused (s : State) : (regOperation s).fused = s.fused := by simp [regOperation]
@[simp] theorem hostAxgErrRead_fused (s : State) : (hostAxgErrRead s).fused = s.fused := by simp [hostAxgErrRead]
@[simp] theorem hostCntPageRead_fused (k word : Nat) (s : State) : (hostCntPageRead k word s).fused = s.fused := by simp [hostCntPageRead]
@[simp] theorem State.dmaRecord_fused (s : State) : s.dmaRecord.fused = s.fused := by simp [State.dmaRecord]

@[simp] theorem puntFill_fused (addr : Nat) (s : State) : (puntFill addr s).fused = s.fused := by
  unfold puntFill
  (repeat' split) <;> simp

@[simp] theorem insFetch_fused (ws : List Word) (bytes : List Byte) (s : State) : (insFetch ws bytes s).fused = s.fused := by simp [insFetch]

@[simp] theorem insDone_fused (s : State) : (insDone s).fused = s.fused := by
  unfold insDone
  dsimp only
  (repeat' split) <;> simp

@[simp] theorem spiStat_fused (s : State) : (spiStat s).fused = s.fused := by simp [spiStat]

@[simp] theorem spiGet_fused (done : Bool) (s : State) : (spiGet done s).fused = s.fused := by
  unfold spiGet
  (repeat' split) <;> simp

@[simp] theorem snapStatusRead_fused (s : State) : (snapStatusRead s).fused = s.fused := by
  unfold snapStatusRead
  dsimp only
  (repeat' split) <;> simp

@[simp] theorem sbpTimeRead_fused (word : Nat) (s : State) : (sbpTimeRead word s).fused = s.fused := by simp [sbpTimeRead]
@[simp] theorem jtagInstruction_fused (i : Jtag) (pads : List BPin) (s : State) : (jtagInstruction i pads s).fused = s.fused := by
  simp [jtagInstruction]
@[simp] theorem tapReset_fused (s : State) : (tapReset s).fused = s.fused := by simp [tapReset]

/-! ### The operations of Machine/Meas.lean -/

@[simp] theorem State.modChan_fused (s : State) (k : Nat) (f : Chan → Chan) : (s.modChan k f).fused = s.fused := by simp [State.modChan]

@[simp] theorem State.beginStats_fused (s : State) (ch : Nat) : (s.beginStats ch).fused = s.fused := by
  unfold State.beginStats
  (repeat' split) <;> simp

@[simp] theorem State.endStats_fused (s : State) (ch : Nat) (stopped : Bool) : (s.endStats ch stopped).fused = s.fused := by
  unfold State.endStats
  dsimp only
  split <;> simp

@[simp] theorem State.statTake_fused (s : State) (ch tick : Nat) (d : Delta) : (s.statTake ch tick d).fused = s.fused := by
  unfold State.statTake
  split <;> simp

@[simp] theorem State.ownEdge_fused (s : State) (ch : Nat) (c : Option Cap) : (s.ownEdge ch c).fused = s.fused := by
  unfold State.ownEdge
  dsimp only
  (repeat' split) <;> simp

@[simp] theorem State.pairEdge_fused (s : State) (ch : Nat) (stop : Bool) (c : Option Cap) : (s.pairEdge ch stop c).fused = s.fused := by
  unfold State.pairEdge
  dsimp only
  (repeat' split) <;> simp

@[simp] theorem State.passedEdge_fused (s : State) (ch ago f8 : Nat) : (s.passedEdge ch ago f8).fused = s.fused := by simp [State.passedEdge]
@[simp] theorem eventEdge_fused (ch : Nat) (falling : Bool) (ago f8 : Nat) (s : State) :
    (eventEdge ch falling ago f8 s).fused = s.fused := by
  simp [eventEdge]

@[simp] theorem State.passesDue_fused (s : State) : s.passesDue.fused = s.fused := by
  unfold State.passesDue
  rw [foldl_fused]
  intro t k
  dsimp only
  split
  · rfl
  · rw [foldl_fused] <;> simp

@[simp] theorem State.startChans_fused (s : State) (mask : Nat) : (s.startChans mask).2.fused = s.fused := by
  simp [State.startChans]

@[simp] theorem State.stopChan_fused (s : State) (ch : Nat) : (s.stopChan ch).fused = s.fused := by
  unfold State.stopChan
  dsimp only
  split <;> simp

@[simp] theorem State.chansOff_fused (s : State) : s.chansOff.fused = s.fused := by simp [State.chansOff]
@[simp] theorem bodyMeasConfig_fused (c : Ctx) (ws : List Word) (s : State) : (bodyMeasConfig c ws s).fused = s.fused := by simp [bodyMeasConfig]
@[simp] theorem State.applyStart_fused (s : State) (c : Ctx) (mask : Nat) : (s.applyStart c mask).fused = s.fused := by simp [State.applyStart]
@[simp] theorem bodyMeasStart_fused (c : Ctx) (ws : List Word) (s : State) : (bodyMeasStart c ws s).fused = s.fused := by simp [bodyMeasStart]
@[simp] theorem bodyMeasStop_fused (c : Ctx) (ws : List Word) (s : State) : (bodyMeasStop c ws s).fused = s.fused := by simp [bodyMeasStop]
@[simp] theorem bodyMeasRead_fused (c : Ctx) (ws : List Word) (s : State) : (bodyMeasRead c ws s).fused = s.fused := by simp [bodyMeasRead]
@[simp] theorem bodyMeasStats_fused (c : Ctx) (ws : List Word) (s : State) : (bodyMeasStats c ws s).fused = s.fused := by simp [bodyMeasStats]

@[simp] theorem applyDue_fused (n : Nat) (s : State) : (applyDue n s).fused = s.fused := by
  induction n generalizing s with
  | zero => rfl
  | succ n ih =>
    unfold applyDue
    dsimp only
    (repeat' split) <;> simp [ih]

@[simp] theorem scheduledDue_fused (s : State) : (scheduledDue s).fused = s.fused := by simp [scheduledDue]
@[simp] theorem snapEdge_fused (ago f8 : Nat) (s : State) : (snapEdge ago f8 s).fused = s.fused := by simp [snapEdge]

/-! ### The operations of Machine/Cal.lean -/

@[simp] theorem State.queueCal_fused (s : State) (item origin : Nat) : (s.queueCal item origin).fused = s.fused := by simp [State.queueCal]
@[simp] theorem State.requestCommit_fused (s : State) (cmd : Bool) : (s.requestCommit cmd).fused = s.fused := by simp [State.requestCommit]
@[simp] theorem State.deferPass_fused (s : State) (item : Nat) : (s.deferPass item).fused = s.fused := by simp [State.deferPass]

@[simp] theorem State.nextItem_fused (i n : Nat) (s : State) : (State.nextItem i n s).2.fused = s.fused := by
  induction n generalizing i s with
  | zero => rfl
  | succ n ih =>
    unfold State.nextItem
    (repeat' split) <;> simp [ih]

@[simp] theorem State.endCycle_fused (s : State) : s.endCycle.fused = s.fused := by simp [State.endCycle]
@[simp] theorem State.requestStep_fused (s : State) (item : Nat) : (s.requestStep item).fused = s.fused := by simp [State.requestStep]

@[simp] theorem calRoundRobin_fused (s : State) : (calRoundRobin s).fused = s.fused := by
  unfold calRoundRobin
  split
  · rfl
  · split
    next h => simp [snd_fused h (State.nextItem_fused ..)]
    next h =>
      split
      all_goals
      next h' => simp [snd_fused h' (State.nextItem_fused ..), snd_fused h (State.nextItem_fused ..)]

@[simp] theorem State.calAdmitted_fused (s : State) (item origin : Nat) : (s.calAdmitted item origin).fused = s.fused := by simp [State.calAdmitted]
@[simp] theorem State.calAccept_fused (s : State) (c : CalStep) (m : CalMeas) (v : Int) : (s.calAccept c m v).fused = s.fused := by
  simp [State.calAccept]

@[simp] theorem calStepComplete_fused (item : Nat) (m : CalMeas) (s : State) : (calStepComplete item m s).fused = s.fused := by
  unfold calStepComplete
  dsimp only
  (repeat' split) <;> simp

@[simp] theorem valueStale_fused (temp : Int) (s : State) : (valueStale temp s).fused = s.fused := by simp [valueStale]
@[simp] theorem State.beginCommit_fused (s : State) (cmd : Bool) : (s.beginCommit cmd).fused = s.fused := by simp [State.beginCommit]
@[simp] theorem State.commitAdmitted_fused (s : State) (cmd : Bool) : (s.commitAdmitted cmd).fused = s.fused := by simp [State.commitAdmitted]
@[simp] theorem State.writeCommit_fused (s : State) (x : PalSlot) : (s.writeCommit x).fused = s.fused := by simp [State.writeCommit]

@[simp] theorem State.tearCommit_fused (s : State) : s.tearCommit.fused = s.fused := by
  unfold State.tearCommit
  split <;> simp

@[simp] theorem State.palLoad_fused (s : State) (temp : Int) : (s.palLoad temp).fused = s.fused := by
  unfold State.palLoad
  split <;> simp

@[simp] theorem calCommitComplete_fused (s : State) : (calCommitComplete s).fused = s.fused := by
  unfold calCommitComplete
  dsimp only
  (repeat' split) <;> simp

@[simp] theorem bodyCalConfig_fused (c : Ctx) (ws : List Word) (s : State) : (bodyCalConfig c ws s).fused = s.fused := by simp [bodyCalConfig]
@[simp] theorem bodyCalRun_fused (c : Ctx) (ws : List Word) (s : State) : (bodyCalRun c ws s).fused = s.fused := by simp [bodyCalRun]
@[simp] theorem bodyCalStatus_fused (c : Ctx) (ws : List Word) (s : State) : (bodyCalStatus c ws s).fused = s.fused := by simp [bodyCalStatus]

@[simp] theorem bodyCalCalref_fused (c : Ctx) (ws : List Word) (s : State) : (bodyCalCalref c ws s).fused = s.fused := by
  unfold bodyCalCalref
  dsimp only
  (repeat' split) <;> simp

@[simp] theorem bodyCalCommit_fused (c : Ctx) (ws : List Word) (s : State) : (bodyCalCommit c ws s).fused = s.fused := by simp [bodyCalCommit]

/-! ### The operations of Machine/Anneal.lean -/

@[simp] theorem State.writeTest_fused (s : State) (k : TestKind) : (s.writeTest k).fused = s.fused := by
  unfold State.writeTest
  split <;> simp

@[simp] theorem State.beginTest_fused (s : State) (k : TestKind) : (s.beginTest k).fused = s.fused := by simp [State.beginTest]

@[simp] theorem State.testSegment_fused (s : State) (fail : Bool) (us : Nat) : (s.testSegment fail us).fused = s.fused := by
  unfold State.testSegment
  dsimp only
  (repeat' split) <;> simp

@[simp] theorem State.testSegments_fused (s : State) (fails : List Bool) : (s.testSegments fails).fused = s.fused := by simp [State.testSegments]

@[simp] theorem State.startBlock_fused (chan : Bool) (i n : Nat) (s : State) : (State.startBlock chan i n s).fused = s.fused := by
  induction n generalizing s with
  | zero => rfl
  | succ n ih => simp [State.startBlock, ih]

@[simp] theorem State.closeBlock_fused (s : State) (b : Block) : (s.closeBlock b).fused = s.fused := by simp [State.closeBlock]
@[simp] theorem State.endBlock_fused (s : State) (b : Block) : (s.endBlock b).fused = s.fused := by simp [State.endBlock]
@[simp] theorem State.endBlocks_fused (s : State) : s.endBlocks.fused = s.fused := by simp [State.endBlocks]
@[simp] theorem State.annealAdmitted_fused (s : State) (chan : Bool) (i : Nat) : (s.annealAdmitted chan i).fused = s.fused := by
  simp [State.annealAdmitted]

@[simp] theorem State.blockSegment_fused (s : State) (b : Block) (errors us : Nat) : (s.blockSegment b errors us).fused = s.fused := by
  simp [State.blockSegment]

@[simp] theorem State.blockNext_fused (s : State) (chan : Bool) (i : Nat) : (s.blockNext chan i).fused = s.fused := by
  unfold State.blockNext
  split <;> simp

@[simp] theorem bodyAnnealBlock_fused (c : Ctx) (ws : List Word) (s : State) : (bodyAnnealBlock c ws s).fused = s.fused := by simp [bodyAnnealBlock]
@[simp] theorem bodyShutdown_fused (c : Ctx) (ws : List Word) (s : State) : (bodyShutdown c ws s).fused = s.fused := by simp [bodyShutdown]
@[simp] theorem bodyRestart_fused (c : Ctx) (ws : List Word) (s : State) : (bodyRestart c ws s).fused = s.fused := by simp [bodyRestart]
@[simp] theorem bodyBootSlot_fused (c : Ctx) (ws : List Word) (s : State) : (bodyBootSlot c ws s).fused = s.fused := by simp [bodyBootSlot]
@[simp] theorem bodySysStatus_fused (c : Ctx) (ws : List Word) (s : State) : (bodySysStatus c ws s).fused = s.fused := by simp [bodySysStatus]
@[simp] theorem State.writeAdmitted_fused (s : State) (what : JobFor) : (s.writeAdmitted what).fused = s.fused := by simp [State.writeAdmitted]

@[simp] theorem State.imageWritten_fused (s : State) (id : Nat) : (s.imageWritten id).fused = s.fused := by
  unfold State.imageWritten
  split <;> simp

@[simp] theorem State.bootSlotWritten_fused (s : State) (slot : Nat) : (s.bootSlotWritten slot).fused = s.fused := by simp [State.bootSlotWritten]

@[simp] theorem mramWriteComplete_fused (s : State) : (mramWriteComplete s).fused = s.fused := by
  unfold mramWriteComplete
  (repeat' split) <;> simp

/-! ### The operations of Machine/Ham.lean -/

@[simp] theorem State.hamReplies_fused (s : State) : s.hamReplies.fused = s.fused := by simp [State.hamReplies]
@[simp] theorem State.mapWork_fused (s : State) (f : Work → Work) : (s.mapWork f).fused = s.fused := by simp [State.mapWork]
@[simp] theorem State.endAlign_fused (s : State) (k : Nat) (aligned : Bool) : (s.endAlign k aligned).fused = s.fused := by simp [State.endAlign]
@[simp] theorem State.endDisarm_fused (s : State) (k : Nat) : (s.endDisarm k).fused = s.fused := by simp [State.endDisarm]
@[simp] theorem State.hamLevel_fused (s : State) (k : Nat) (active : Bool) (ticks : Int) (ps : Nat) :
    (s.hamLevel k active ticks ps).fused = s.fused := by
  simp [State.hamLevel]
@[simp] theorem State.hamDone_fused (s : State) (k : Nat) : (s.hamDone k).fused = s.fused := by simp [State.hamDone]
@[simp] theorem State.hamSettle_fused (s : State) (k : Nat) : (s.hamSettle k).fused = s.fused := by simp [State.hamSettle]
@[simp] theorem State.commitOneShot_fused (s : State) (k : Nat) (x : Ham) : (s.commitOneShot k x).fused = s.fused := by simp [State.commitOneShot]
@[simp] theorem State.commitPeriodic_fused (s : State) (k : Nat) (x : Ham) (n : Nat) : (s.commitPeriodic k x n).fused = s.fused := by
  simp [State.commitPeriodic]

@[simp] theorem hamCommit_fused (k : Nat) (s : State) : (hamCommit k s).fused = s.fused := by
  unfold hamCommit
  dsimp only
  (repeat' split) <;> simp

@[simp] theorem hamEmit_fused (k : Nat) (s : State) : (hamEmit k s).fused = s.fused := by
  unfold hamEmit
  extract_lets n x
  refine fused_ite_of rfl ?_
  split
  · rfl
  next e t _ =>
    refine fused_ite_of rfl ?_
    extract_lets ticks u v y w z
    have hv : v.fused = s.fused := by
      unfold v
      split <;> simp [u]
    have hw : w.fused = s.fused := by
      unfold w
      split <;> simp [hv]
    have hz : z.fused = s.fused := by simp [z, hw]
    simp [hz]

@[simp] theorem State.hamNext_fused (s : State) (k n : Nat) : (s.hamNext k n).fused = s.fused := by simp [State.hamNext]
@[simp] theorem State.hamFirst_fused (s : State) (k n : Nat) : (s.hamFirst k n).fused = s.fused := by simp [State.hamFirst]

@[simp] theorem hamAlignComplete_fused (k : Nat) (s : State) : (hamAlignComplete k s).fused = s.fused := by
  unfold hamAlignComplete
  dsimp only
  split <;> simp

@[simp] theorem State.tickHam_fused (s : State) (k : Nat) : (s.tickHam k).fused = s.fused := by
  unfold State.tickHam
  dsimp only
  (repeat' split) <;> simp

@[simp] theorem State.hamsOff_fused (s : State) : s.hamsOff.fused = s.fused := by simp [State.hamsOff]
@[simp] theorem State.armHam_fused (s : State) (k : Nat) (x : Ham) : (s.armHam k x).fused = s.fused := by simp [State.armHam]
@[simp] theorem bodyHamArm_fused (c : Ctx) (ws : List Word) (s : State) : (bodyHamArm c ws s).fused = s.fused := by simp [bodyHamArm]
@[simp] theorem bodyHamConv_fused (c : Ctx) (ws : List Word) (s : State) : (bodyHamConv c ws s).fused = s.fused := by simp [bodyHamConv]
@[simp] theorem bodyHamDisarm_fused (c : Ctx) (ws : List Word) (s : State) : (bodyHamDisarm c ws s).fused = s.fused := by simp [bodyHamDisarm]
@[simp] theorem State.alignOne_fused (s : State) (slew : Bool) (rate k : Nat) : (s.alignOne slew rate k).fused = s.fused := by simp [State.alignOne]
@[simp] theorem bodyHamAlign_fused (c : Ctx) (ws : List Word) (s : State) : (bodyHamAlign c ws s).fused = s.fused := by simp [bodyHamAlign]
@[simp] theorem bodyHamStatus_fused (c : Ctx) (ws : List Word) (s : State) : (bodyHamStatus c ws s).fused = s.fused := by simp [bodyHamStatus]

/-! ### The operations of Machine/Hier.lean -/

@[simp] theorem State.saveHier_fused (s : State) : s.saveHier.fused = s.fused := by simp [State.saveHier]
@[simp] theorem State.restoreRings_fused (s : State) : s.restoreRings.fused = s.fused := by simp [State.restoreRings]

@[simp] theorem State.bcastEnd_fused (s : State) (id : Nat) : (s.bcastEnd id).fused = s.fused := by
  unfold State.bcastEnd
  split <;> simp

@[simp] theorem State.bcastFail_fused (s : State) (id child detail : Nat) : (s.bcastFail id child detail).fused = s.fused := by
  unfold State.bcastFail
  split <;> simp

@[simp] theorem State.bcastSend_fused (s : State) (id : Nat) (b : Bcast) (child : Nat) (rest : List Nat) :
    (s.bcastSend id b child rest).fused = s.fused := by
  unfold State.bcastSend
  dsimp only
  split <;> simp

@[simp] theorem pumpBcasts_fused (n : Nat) (s : State) : (pumpBcasts n s).fused = s.fused := by
  induction n generalizing s with
  | zero => rfl
  | succ n ih =>
    unfold pumpBcasts
    (repeat' split) <;> simp [ih]

@[simp] theorem State.pump_fused (s : State) : s.pump.fused = s.fused := by simp [State.pump]

@[simp] theorem State.relaysFail_fused (s : State) (child detail : Nat) : (s.relaysFail child detail).fused = s.fused := by
  unfold State.relaysFail
  dsimp only
  rw [State.pump_fused, foldl_fused]
  intro t r
  split <;> simp

@[simp] theorem State.passBack_fused (s : State) (c : Ctx) (pkt : List Word) : (s.passBack c pkt).fused = s.fused := by
  unfold State.passBack
  (repeat' split) <;> simp

@[simp] theorem State.bcastReplyIn_fused (s : State) (id child : Nat) (pkt : List Word) (more : Bool) :
    (s.bcastReplyIn id child pkt more).fused = s.fused := by
  unfold State.bcastReplyIn
  split <;> simp

@[simp] theorem State.relayReply_fused (s : State) (r : Relay) (pkt : List Word) : (s.relayReply r pkt).fused = s.fused := by
  unfold State.relayReply
  split <;> simp

@[simp] theorem State.bcastAtOnce_fused (s : State) (id : Nat) (targets : List Nat) : (s.bcastAtOnce id targets).fused = s.fused := by
  unfold State.bcastAtOnce
  rw [foldl_fused]
  intro t k
  split <;> simp

@[simp] theorem bodyBroadcast_fused (c : Ctx) (ws : List Word) (s : State) : (bodyBroadcast c ws s).fused = s.fused := by simp [bodyBroadcast]
@[simp] theorem State.hierMoved_fused (s : State) (old : HierCfg) : (s.hierMoved old).fused = s.fused := by simp [State.hierMoved]
@[simp] theorem bodyHierConfig_fused (c : Ctx) (ws : List Word) (s : State) : (bodyHierConfig c ws s).fused = s.fused := by simp [bodyHierConfig]
@[simp] theorem State.push_fused (s : State) (w : Worker) (persist has : Bool) : (s.push w persist has).fused = s.fused := by simp [State.push]
@[simp] theorem State.enrollReply_fused (s : State) (child kind : Nat) (ok : Bool) (reason : Nat) :
    (s.enrollReply child kind ok reason).fused = s.fused := by
  simp [State.enrollReply]
@[simp] theorem bodyEnroll_fused (c : Ctx) (ws : List Word) (s : State) : (bodyEnroll c ws s).fused = s.fused := by simp [bodyEnroll]

@[simp] theorem bodyRelease_fused (c : Ctx) (ws : List Word) (s : State) : (bodyRelease c ws s).fused = s.fused := by
  unfold bodyRelease
  dsimp only
  split <;> simp

@[simp] theorem bodyTableRead_fused (c : Ctx) (ws : List Word) (s : State) : (bodyTableRead c ws s).fused = s.fused := by simp [bodyTableRead]
@[simp] theorem State.childAbsent_fused (s : State) (slot : Nat) (w : Worker) (dying : Bool) :
    (s.childAbsent slot w dying).fused = s.fused := by
  simp [State.childAbsent]

@[simp] theorem State.workerReport_fused (s : State) (c : Ctx) (ws : List Word) : (s.workerReport c ws).fused = s.fused := by
  unfold State.workerReport
  (repeat' split) <;> simp

@[simp] theorem bodyHierStatus_fused (c : Ctx) (ws : List Word) (s : State) : (bodyHierStatus c ws s).fused = s.fused := by simp [bodyHierStatus]

@[simp] theorem childMiss_fused (slot : Nat) (s : State) : (childMiss slot s).fused = s.fused := by
  unfold childMiss
  split <;> simp

@[simp] theorem State.sendReport_fused (s : State) (dying : Bool) : (s.sendReport dying).fused = s.fused := by simp [State.sendReport]
@[simp] theorem State.enterIsland_fused (s : State) (fresh : Bool) : (s.enterIsland fresh).fused = s.fused := by simp [State.enterIsland]

@[simp] theorem State.reportMissed_fused (s : State) : s.reportMissed.fused = s.fused := by
  unfold State.reportMissed
  dsimp only
  (repeat' split) <;> simp

@[simp] theorem State.reportAnswered_fused (s : State) (port : Nat) (ws : List Word) : (s.reportAnswered port ws).fused = s.fused := by
  unfold State.reportAnswered
  dsimp only
  (repeat' split) <;> simp

@[simp] theorem workerReportSend_fused (s : State) : (workerReportSend s).fused = s.fused := by simp [workerReportSend]

@[simp] theorem State.reportReplyIn_fused (s : State) (port sa : Nat) (pkt : List Word) :
    (s.reportReplyIn port sa pkt).fused = s.fused := by
  unfold State.reportReplyIn
  split <;> simp

@[simp] theorem State.relayReplyIn_fused (s : State) (port sa : Nat) (pkt : List Word) : (s.relayReplyIn port sa pkt).fused = s.fused := by
  unfold State.relayReplyIn
  (repeat' split) <;> simp

@[simp] theorem workerReportReply_fused (port sa : Nat) (pkt : List Word) (s : State) :
    (workerReportReply port sa pkt s).fused = s.fused := by
  simp [workerReportReply]
@[simp] theorem axgRelayReply_fused (port sa : Nat) (pkt : List Word) (s : State) : (axgRelayReply port sa pkt s).fused = s.fused := by
  simp [axgRelayReply]
@[simp] theorem replyTaken_fused (port sa : Nat) (pkt : List Word) (s : State) : (replyTaken port sa pkt s).fused = s.fused := by simp [replyTaken]

/-! ### The operations of Machine/Pair.lean -/

@[simp] theorem State.notePartner_fused (s : State) (f : Frame) (t : Twin) : (s.notePartner f t).fused = s.fused := by simp [State.notePartner]

@[simp] theorem State.takeTwin_fused (s : State) (kind : Nat) : (s.takeTwin kind).2.fused = s.fused := by
  unfold State.takeTwin
  dsimp only
  (repeat' split) <;> simp

@[simp] theorem State.beaconActs_fused (s : State) (t : Twin) : (s.beaconActs t).fused = s.fused := by
  unfold State.beaconActs
  split <;> simp

@[simp] theorem State.pairTable_fused (s : State) (sa : Nat) (t : Twin) : (s.pairTable sa t).fused = s.fused := by
  unfold State.pairTable
  dsimp only
  split <;> simp

@[simp] theorem State.takeBeacon_fused (s : State) (own : Bool) : (s.takeBeacon own).fused = s.fused := by
  unfold State.takeBeacon
  (repeat' split) <;> simp

@[simp] theorem beaconReceived_fused (s : State) : (beaconReceived s).fused = s.fused := by simp [beaconReceived]
@[simp] theorem pairBeaconTaken_fused (s : State) : (pairBeaconTaken s).fused = s.fused := by simp [pairBeaconTaken]

@[simp] theorem pairTableForget_fused (k : Nat) (s : State) : (pairTableForget k s).fused = s.fused := by
  unfold pairTableForget
  split <;> simp

@[simp] theorem beaconSend_fused (s : State) : (beaconSend s).fused = s.fused := by simp [beaconSend]
@[simp] theorem beaconLoss_fused (s : State) : (beaconLoss s).fused = s.fused := by simp [beaconLoss]
@[simp] theorem joiningTimeout_fused (s : State) : (joiningTimeout s).fused = s.fused := by simp [joiningTimeout]
@[simp] theorem twinTimeout_fused (s : State) : (twinTimeout s).fused = s.fused := by simp [twinTimeout]

@[simp] theorem handoverReceived_fused (s : State) : (handoverReceived s).fused = s.fused := by
  unfold handoverReceived
  split <;> next h => simp [snd_fused h (s.takeTwin_fused 5)]

@[simp] theorem twinTimeSend_fused (s : State) : (twinTimeSend s).fused = s.fused := by simp [twinTimeSend]
@[simp] theorem State.compareSyncs_fused (s : State) : s.compareSyncs.fused = s.fused := by simp [State.compareSyncs]

@[simp] theorem twinTimeReceived_fused (s : State) : (twinTimeReceived s).fused = s.fused := by
  unfold twinTimeReceived
  split
  next h => exact snd_fused h (s.takeTwin_fused 1)
  next h =>
    dsimp only
    (repeat' split) <;> simp [snd_fused h (s.takeTwin_fused 1)]

@[simp] theorem State.matchDigest_fused (s : State) (w : Nat) : (s.matchDigest w).fused = s.fused := by
  unfold State.matchDigest
  split <;> simp

@[simp] theorem digestWindowEnd_fused (s : State) : (digestWindowEnd s).fused = s.fused := by simp [digestWindowEnd]

@[simp] theorem compareReceived_fused (s : State) : (compareReceived s).fused = s.fused := by
  unfold compareReceived
  split <;> next h => simp [snd_fused h (s.takeTwin_fused 2)]

@[simp] theorem State.judge_fused (s : State) : s.judge.fused = s.fused := by
  unfold State.judge
  split <;> simp

@[simp] theorem selfCheckDone_fused (signature : Bool) (s : State) : (selfCheckDone signature s).fused = s.fused := by
  unfold selfCheckDone
  split <;> simp

@[simp] theorem verdictReceived_fused (s : State) : (verdictReceived s).fused = s.fused := by
  unfold verdictReceived
  split <;> next h => simp [snd_fused h (s.takeTwin_fused 3)]

@[simp] theorem State.mirrorReply_fused (s : State) (pkt : List Word) : (s.mirrorReply pkt).fused = s.fused := by
  unfold State.mirrorReply
  dsimp only
  split <;> simp

@[simp] theorem State.pairLeave_fused (s : State) (new : PairCfg) (was : Bool) : (s.pairLeave new was).fused = s.fused := by simp [State.pairLeave]
@[simp] theorem State.pairEnter_fused (s : State) (new : PairCfg) (was : Bool) : (s.pairEnter new was).fused = s.fused := by simp [State.pairEnter]
@[simp] theorem State.pairRelink_fused (s : State) (new : PairCfg) : (s.pairRelink new).fused = s.fused := by simp [State.pairRelink]
@[simp] theorem State.pairWitness_fused (s : State) (new : PairCfg) : (s.pairWitness new).fused = s.fused := by simp [State.pairWitness]
@[simp] theorem State.pairApply_fused (s : State) (new : PairCfg) : (s.pairApply new).fused = s.fused := by simp [State.pairApply]
@[simp] theorem bodyPairConfig_fused (c : Ctx) (ws : List Word) (s : State) : (bodyPairConfig c ws s).fused = s.fused := by simp [bodyPairConfig]

@[simp] theorem bodyPairSwitch_fused (c : Ctx) (ws : List Word) (s : State) : (bodyPairSwitch c ws s).fused = s.fused := by
  unfold bodyPairSwitch
  split <;> simp

@[simp] theorem bodyPairStatus_fused (c : Ctx) (ws : List Word) (s : State) : (bodyPairStatus c ws s).fused = s.fused := by simp [bodyPairStatus]

/-! ### The operations of Machine/Intake.lean -/

/-- Every body of the master table leaves what is fixed at manufacture (R91). -/
theorem opTables_fused : ∀ e ∈ opTableA ++ opTableB ++ opTableC, ∀ c ws s, (e.2.2 c ws s).fused = s.fused := by
  simp [opTableA, opTableB, opTableC]

@[simp] theorem opEntry_fused (op : Nat) (c : Ctx) (ws : List Word) (s : State) : ((opEntry op).2 c ws s).fused = s.fused := by
  unfold opEntry
  split
  next e h => exact opTables_fused _ (List.mem_of_find?_eq_some h) c ws s
  · simp

@[simp] theorem State.arrives_fused (s : State) (op : Nat) (p : Pkt) : (s.arrives op p).fused = s.fused := by simp [State.arrives]

@[simp] theorem State.dispatch_fused (s : State) (op : Nat) (p : Pkt) : (s.dispatch op p).fused = s.fused := by simp [State.dispatch]
@[simp] theorem State.consumeSlots_fused (s : State) (k : Nat) : (s.consumeSlots k).fused = s.fused := by simp [State.consumeSlots]

@[simp] theorem State.drainRing_fused (n : Nat) (s : State) : (s.drainRing n).fused = s.fused := by
  induction n generalizing s with
  | zero => rfl
  | succ n ih =>
    unfold State.drainRing
    dsimp only
    (repeat' split) <;> simp [ih]

@[simp] theorem State.serveRing_fused (s : State) : s.serveRing.fused = s.fused := by simp [State.serveRing]
@[simp] theorem State.fetchRing_fused (s : State) (pi' : Nat) (words : List Word) : (s.fetchRing pi' words).fused = s.fused := by
  simp [State.fetchRing]
@[simp] theorem cmdPiWrite_fused (pi' : Nat) (words : List Word) (s : State) : (cmdPiWrite pi' words s).fused = s.fused := by simp [cmdPiWrite]

@[simp] theorem State.drainSpi_fused (n : Nat) (s : State) : (s.drainSpi n).fused = s.fused := by
  induction n generalizing s with
  | zero => rfl
  | succ n ih =>
    unfold State.drainSpi
    dsimp only
    (repeat' split) <;> simp [ih]

@[simp] theorem State.serveSpi_fused (s : State) : s.serveSpi.fused = s.fused := by simp [State.serveSpi]
@[simp] theorem spiPut_fused (ws : List Word) (s : State) : (spiPut ws s).fused = s.fused := by simp [spiPut]
@[simp] theorem State.takeTold_fused (s : State) (c : List Word) : (s.takeTold c).fused = s.fused := by simp [State.takeTold]

@[simp] theorem State.servePqCmd_fused (s : State) : s.servePqCmd.fused = s.fused := by
  unfold State.servePqCmd
  dsimp only
  (repeat' split) <;> simp

@[simp] theorem configReceived_fused (s : State) : (configReceived s).fused = s.fused := by
  unfold configReceived
  split
  next h => exact snd_fused h (s.takeTwin_fused 4)
  next h =>
    dsimp only
    (repeat' split) <;> simp [snd_fused h (s.takeTwin_fused 4)]

@[simp] theorem State.release_fused (s : State) (f : Job → Option (List Word)) : (s.release f).fused = s.fused := by simp [State.release]

@[simp] theorem State.applyMailbox_fused (n : Nat) (s : State) : (s.applyMailbox n).fused = s.fused := by
  induction n generalizing s with
  | zero => rfl
  | succ n ih =>
    unfold State.applyMailbox
    (repeat' split) <;> simp [ih]

@[simp] theorem State.serveMailbox_fused (s : State) : s.serveMailbox.fused = s.fused := by simp [State.serveMailbox]

@[simp] theorem State.serveBehind_fused (n : Nat) (s : State) : (s.serveBehind n).fused = s.fused := by
  induction n generalizing s with
  | zero => rfl
  | succ n ih =>
    unfold State.serveBehind
    split <;> simp [ih]

@[simp] theorem State.serveBlocked_fused (s : State) (chan : Bool) (i : Nat) : (s.serveBlocked chan i).fused = s.fused := by
  simp [State.serveBlocked]

@[simp] theorem blockSegmentEnd_fused (chan : Bool) (i errors us : Nat) (s : State) : (blockSegmentEnd chan i errors us s).fused = s.fused := by
  unfold blockSegmentEnd
  split <;> simp

@[simp] theorem jobAdmitted_fused (s : State) : (jobAdmitted s).fused = s.fused := by
  unfold jobAdmitted
  split
  · rfl
  · split
    · rfl
    next j t _ =>
      extract_lets led without begin_
      have hbegin (k : State → State) (hk : ∀ t, (k t).fused = t.fused) : (begin_ k).fused = s.fused := by
        unfold begin_
        split
        next hd => rw [hk, s.admitHead_fused _ _ hd]
        · rfl
      have hwithout : without.fused = s.fused := rfl
      (repeat' split) <;> simp [hbegin, hwithout]

@[simp] theorem State.runScript_fused (n idx : Nat) (ws : List Word) (s : State) : (s.runScript n idx ws).fused = s.fused := by
  induction n generalizing s idx ws with
  | zero => rfl
  | succ n ih =>
    unfold State.runScript
    (repeat' split) <;> simp [ih]

@[simp] theorem State.startScript_fused (s : State) : s.startScript.fused = s.fused := by simp [State.startScript]

/-! ### The operations of Machine/Startup.lean -/

@[simp] theorem State.endHeld_fused (s : State) (j : Job) : (s.endHeld j).fused = s.fused := by
  unfold State.endHeld
  split <;> simp

@[simp] theorem State.tpLeave_fused (s : State) : s.tpLeave.fused = s.fused := by simp [State.tpLeave]
@[simp] theorem tpFaultStep_fused (s : State) : (tpFaultStep s).fused = s.fused := by simp [tpFaultStep]
@[simp] theorem tpReturnStep_fused (s : State) : (tpReturnStep s).fused = s.fused := by simp [tpReturnStep]
@[simp] theorem xoLossRow_fused (s : State) : (xoLossRow s).fused = s.fused := by simp [xoLossRow]
@[simp] theorem rootRelockRow_fused (ago : Nat) (s : State) : (rootRelockRow ago s).fused = s.fused := by simp [rootRelockRow]

@[simp] theorem State.tearWrites_fused (s : State) : s.tearWrites.fused = s.fused := by
  unfold State.tearWrites
  dsimp only
  (repeat' split) <;> simp

@[simp] theorem State.flushPunts_fused (s : State) : s.flushPunts.fused = s.fused := by simp [State.flushPunts]
@[simp] theorem State.cutWork_fused (s : State) : s.cutWork.fused = s.fused := by simp [State.cutWork]
@[simp] theorem State.cutMpi_fused (s : State) : s.cutMpi.fused = s.fused := by simp [State.cutMpi]
@[simp] theorem watchdogFire_fused (s : State) : (watchdogFire s).fused = s.fused := by simp [watchdogFire]
@[simp] theorem State.inReset_fused (s : State) (p : Power) : (s.inReset p).fused = s.fused := by simp [State.inReset]
@[simp] theorem State.tearAll_fused (s : State) : s.tearAll.fused = s.fused := by simp [State.tearAll]

@[simp] theorem State.vaultCheck_fused (s : State) : s.vaultCheck.fused = s.fused := by
  unfold State.vaultCheck
  dsimp only
  split <;> simp

@[simp] theorem State.loadRecords_fused (s : State) : s.loadRecords.fused = s.fused := by
  unfold State.loadRecords
  dsimp only
  (repeat' split) <;> simp

@[simp] theorem State.enterRecovery_fused (s : State) : s.enterRecovery.fused = s.fused := by simp [State.enterRecovery]

@[simp] theorem State.finishStart_fused (s : State) : s.finishStart.fused = s.fused := by
  unfold State.finishStart
  split <;> simp

@[simp] theorem State.testDone_fused (s : State) : s.testDone.fused = s.fused := by simp [State.testDone]

@[simp] theorem State.startUp_fused (s : State) (cause : Nat) (m : StartMeas) : (s.startUp cause m).fused = s.fused := by simp [State.startUp]
@[simp] theorem State.enterStopped_fused (s : State) : s.enterStopped.fused = s.fused := by simp [State.enterStopped]
@[simp] theorem resetRelease_fused (m : StartMeas) (s : State) : (resetRelease m s).fused = s.fused := by simp [resetRelease]
@[simp] theorem releaseWaitAlarm_fused (s : State) : (releaseWaitAlarm s).fused = s.fused := by simp [releaseWaitAlarm]
@[simp] theorem resetFall_fused (s : State) : (resetFall s).fused = s.fused := by simp [resetFall]
@[simp] theorem powerOnRelease_fused (s : State) : (powerOnRelease s).fused = s.fused := by simp [powerOnRelease]
@[simp] theorem moduleUnpowered_fused (s : State) : (moduleUnpowered s).fused = s.fused := by simp [moduleUnpowered]
@[simp] theorem parkedResume_fused (m : StartMeas) (s : State) : (parkedResume m s).fused = s.fused := by simp [parkedResume]

@[simp] theorem State.dyingReport_fused (s : State) (ports : List Nat) : (s.dyingReport ports).fused = s.fused := by
  unfold State.dyingReport
  split <;> simp

@[simp] theorem State.gaspEgress_fused (s : State) (keep : List Nat) : (s.gaspEgress keep).fused = s.fused := by simp [State.gaspEgress]
@[simp] theorem State.closeNow_fused (s : State) (cause b : Nat) : (s.closeNow cause b).fused = s.fused := by simp [State.closeNow]

@[simp] theorem State.gaspSave_fused (s : State) (g : Gasp) : (s.gaspSave g).fused = s.fused := by
  unfold State.gaspSave
  dsimp only
  split <;> simp

@[simp] theorem State.gaspShed_fused (s : State) (keep : List Nat) : (s.gaspShed keep).fused = s.fused := by simp [State.gaspShed]
@[simp] theorem State.gaspEnd_fused (s : State) (g : Gasp) (keep : List Nat) : (s.gaspEnd g keep).fused = s.fused := by simp [State.gaspEnd]
@[simp] theorem State.lastGasp_fused (s : State) (pfail rail : Bool) (idx : Nat) : (s.lastGasp pfail rail idx).fused = s.fused := by
  simp [State.lastGasp]
@[simp] theorem pfailLow_fused (s : State) : (pfailLow s).fused = s.fused := by simp [pfailLow]
@[simp] theorem railFault_fused (rail : Nat) (s : State) : (railFault rail s).fused = s.fused := by simp [railFault]
@[simp] theorem State.stopPart_fused (s : State) (noPass : Bool) (fails : List Bool) (us : Nat) :
    (s.stopPart noPass fails us).fused = s.fused := by
  simp [State.stopPart]

@[simp] theorem shutdownReplyLeft_fused (fails : List Bool) (us : Nat) (s : State) : (shutdownReplyLeft fails us s).fused = s.fused := by
  unfold shutdownReplyLeft
  split <;> simp

@[simp] theorem restartReplyLeft_fused (m : StartMeas) (s : State) : (restartReplyLeft m s).fused = s.fused := by
  unfold restartReplyLeft
  split <;> simp

@[simp] theorem testSegmentEnd_fused (fail : Bool) (us : Nat) (s : State) : (testSegmentEnd fail us s).fused = s.fused := by
  unfold testSegmentEnd
  (repeat' split) <;> simp

@[simp] theorem mpiPowerUp_fused (startUs : Nat) (s : State) : (mpiPowerUp startUs s).fused = s.fused := by simp [mpiPowerUp]
@[simp] theorem pcieLinkUp_fused (words : List Word) (s : State) : (pcieLinkUp words s).fused = s.fused := by simp [pcieLinkUp]
@[simp] theorem State.mutePcie_fused (s : State) : s.mutePcie.fused = s.fused := by simp [State.mutePcie]
@[simp] theorem perstAssert_fused (s : State) : (perstAssert s).fused = s.fused := by simp [perstAssert]
@[simp] theorem perstRelease_fused (s : State) : (perstRelease s).fused = s.fused := by simp [perstRelease]

/-! ### The operations of Machine/Clock.lean -/

@[simp] theorem State.timingTick_fused (s : State) : s.timingTick.fused = s.fused := by simp [State.timingTick]
@[simp] theorem State.counterTick_fused (s : State) : s.counterTick.fused = s.fused := by simp [State.counterTick]
@[simp] theorem State.counterEnd_fused (s : State) : s.counterEnd.fused = s.fused := by simp [State.counterEnd]
@[simp] theorem State.qualTick_fused (s : State) : s.qualTick.fused = s.fused := by simp [State.qualTick]
@[simp] theorem State.hamTick_fused (s : State) (k : Nat) : (s.hamTick k).fused = s.fused := by simp [State.hamTick]
@[simp] theorem State.hierTick_fused (s : State) : s.hierTick.fused = s.fused := by simp [State.hierTick]
@[simp] theorem State.timersTick_fused (s : State) : s.timersTick.fused = s.fused := by simp [State.timersTick]
@[simp] theorem State.endTick_fused (s : State) : s.endTick.fused = s.fused := by simp [State.endTick]
@[simp] theorem State.clockTick_fused (s : State) : s.clockTick.fused = s.fused := by simp [State.clockTick]

/-! ### The rows and the step -/

/-- A row keeps what is fixed at manufacture when the operation that gives its next state does. -/
theorem fused_of_next {s t u : State} (h : (Host.Outcome.next u : Host.Outcome State Fault Refusal) = .next t) (hu : u.fused = s.fused) :
    t.fused = s.fused := by
  cases h
  exact hu

/-- No row changes what is fixed at manufacture: each is one operation above, or the reception of a packet by one body. -/
theorem exec_fused (i : Instr) {s t : State} (h : exec i s = .next t) : t.fused = s.fused := by
  cases i
  case annealSegmentComplete block errors us =>
    rcases block with _ | ⟨chan, k⟩ <;> exact fused_of_next h (by simp)
  all_goals exact fused_of_next h (by simp)

theorem step_fused {s t : State} (h : step s = .next t) : t.fused = s.fused := by
  unfold step at h
  split at h
  · exact fused_of_next h s.clockTick_fused
  next c rest _ => exact (exec_fused c h).trans rfl

/-- Settles O6: a step is a tick or a row, and no operation of either writes what is fixed at manufacture. -/
theorem factoryValuesKept : Obligations.FactoryValuesKept := fun _ _ => step_fused

end Sys2Proof.Machine
end

section
/-! The HIER commands (R344-R351): what the body of each does, and what the state after it keeps. -/

namespace Sys2Proof.Machine

open Sys2Proof

/-! ### An accepted command outside the data plane -/

/-- Acceptance of a command that is not carried out through IQ_REG changes the replay table alone (R28, R63). -/
theorem accepted_replay (s : State) {op : Nat} (p : Pkt) (h : dataOp op = false) :
    ∃ r, s.accepted op p = { s with axg := { s.axg with replay := r } } := by
  rw [State.accepted, if_neg (by simp [h])]
  exact ⟨_, segAuth_frame s op p⟩

/-- An accepted command whose body replies with OK answers. -/
theorem answers_of_body {i : Instr} {s u : State} {op : Nat} {p : Pkt} {len : LenRule} {body : Body} {r : List Word}
    (hi : exec i s = .next (s.receive len body op p)) (h : s.accepts op len p = true)
    (hb : body (s.ctxOf op p) p.words (s.accepted op p) = u.ok (s.ctxOf op p) r) : Answers i s op p u r := by
  rw [Answers, hi, receive_accepted body h, hb]

/-! ### HIER.CONFIG -/

theorem bodyHierConfig_read (c : Ctx) {ws : List Word} (s : State) (hw : bit (wd ws 0) 31 = false) (ht : bit (wd ws 0) 29 = false) :
    bodyHierConfig c ws s = s.ok c (State.hierCfgWords s.hcfg false s.mram.hierPersist false) := by
  simp [bodyHierConfig, hw, ht]

theorem hierConfig_answers_read (s : State) (p : Pkt) (h : s.accepts 0x0D00 (lenIs 10) p = true) (hw : bit (wd p.words 0) 31 = false)
    (ht : bit (wd p.words 0) 29 = false) : Answers (.hierConfig p) s 0x0D00 p (s.accepted 0x0D00 p)
      (State.hierCfgWords s.hcfg false s.mram.hierPersist false) := by
  refine answers_of_body rfl h ?_
  rw [bodyHierConfig_read _ _ hw ht, State.accepted_hcfg, State.accepted_mram]

/-- The state that words 1 to 6 of HIER.CONFIG lead to, saved with PERSIST (R322, R337, R344). -/
def State.hierWritten (s : State) (ws : List Word) : State :=
  let m := ({ s with hcfg := s.hierIdentity ws }).hierMoved s.hcfg
  ({ m with mram := { m.mram with hierPersist := bit (wd ws 0) 30 } }).saveHier

theorem bodyHierConfig_write (c : Ctx) {ws : List Word} (s : State) (hw : bit (wd ws 0) 31 = true) (ht : bit (wd ws 0) 29 = false) :
    bodyHierConfig c ws s =
      (s.hierWritten ws).ok c (State.hierCfgWords (s.hierWritten ws).hcfg true (bit (wd ws 0) 30) false) := by
  simp [bodyHierConfig, State.hierWritten, State.saveHier, State.charge, hw, ht]

/-- A new identity moves the hierarchy run alone. -/
theorem State.hierMoved_frame (s : State) (old : HierCfg) : s.hierMoved old = { s with hier := (s.hierMoved old).hier } := by
  unfold State.hierMoved
  dsimp only
  (repeat' split) <;> rfl

theorem State.hierMoved_top (s : State) (old : HierCfg) (h : s.hcfg.top = true) :
    (s.hierMoved old).hier.st = .top ∧ (s.hierMoved old).hier.epoch = 0 := by
  simp [State.hierMoved, h]

theorem State.hierMoved_detached (s : State) (old : HierCfg) (h : s.hcfg.top = false) (hp : s.hcfg.hasParent = false) :
    (s.hierMoved old).hier.st = .detached := by
  simp [State.hierMoved, h, hp]

theorem State.hierMoved_seeking (s : State) (old : HierCfg) (h : s.hcfg.top = false) (hp : s.hcfg.hasParent = true)
    (hs : s.hier.st = .detached ∨ s.hier.st = .top) : (s.hierMoved old).hier.st = .seeking := by
  simp [State.hierMoved, h, hp, hs]

/-- What writing an identity changes: the configuration, the hierarchy run, the hierarchy record and its charge. -/
theorem State.hierWritten_frame (s : State) (ws : List Word) : s.hierWritten ws =
    { s with
      hcfg := s.hierIdentity ws
      hier := (({ s with hcfg := s.hierIdentity ws }).hierMoved s.hcfg).hier
      led := { s.led with credit := s.led.credit - jobFixed 11 }
      mram := { s.mram with hierPersist := bit (wd ws 0) 30, hierCfg := some (s.hierIdentity ws), workers := s.workers } } := by
  unfold State.hierWritten
  rw [State.hierMoved_frame]
  rfl

theorem hierConfig_answers_write (s : State) (p : Pkt) (h : s.accepts 0x0D00 (lenIs 10) p = true) (hw : bit (wd p.words 0) 31 = true)
    (ht : bit (wd p.words 0) 29 = false) : ∃ u, Answers (.hierConfig p) s 0x0D00 p u
      (State.hierCfgWords u.hcfg true (bit (wd p.words 0) 30) false) ∧ u.hcfg = s.hierIdentity p.words ∧ u.mram.hierCfg = some u.hcfg ∧
      u.mram.workers = s.workers ∧ u.keeps (s.accepted 0x0D00 p) [.hcfg, .hier, .mram, .led] ∧
      (u.hcfg.top = true → u.hier.st = .top ∧ u.hier.epoch = 0) ∧ (u.hcfg.top = false → u.hcfg.hasParent = false → u.hier.st = .detached) ∧
      (u.hcfg.top = false → u.hcfg.hasParent = true → s.hier.st = .detached ∨ s.hier.st = .top → u.hier.st = .seeking) := by
  refine ⟨(s.accepted 0x0D00 p).hierWritten p.words, answers_of_body rfl h (bodyHierConfig_write _ _ hw ht), ?_⟩
  obtain ⟨r, ha⟩ := accepted_replay s p (op := 0x0D00) rfl
  rw [State.hierWritten_frame, ha]
  refine ⟨rfl, rfl, rfl, ?_, fun h => State.hierMoved_top _ _ h, fun h hp => State.hierMoved_detached _ _ h hp,
    fun h hp hs => State.hierMoved_seeking _ _ h hp hs⟩
  intro q hq
  cases q <;> simp [Part.same] at hq ⊢

/-! ### The worker table: HIER.ENROLL and HIER.RELEASE -/

/-- What telling the partner of a change can change: the queue of timing frames and the twin frames' numbers (R463, R465). -/
theorem State.twinTell_frame (s : State) (ws : List Word) :
    ∃ tim seqs, s.twinTell ws = { s with buf := { s.buf with iqTime := tim }, prun := { s.prun with seqs := seqs } } := by
  unfold State.twinTell State.twinSend State.twinSeq State.putTime
  dsimp only
  (repeat' split) <;> exact ⟨_, _, rfl⟩

/-- The state with a worker table stored and copied to the hierarchy record, and the change told to the partner (R322, R463). -/
def State.withTable (s : State) (l : Tab Worker) (told : List Word) : State := (({ s with workers := l }).saveHier).twinTell told

theorem State.withTable_frame (s : State) (l : Tab Worker) (told : List Word) :
    ∃ tim seqs, s.withTable l told =
      { s with
        workers := l
        mram := { s.mram with hierCfg := some s.hcfg, workers := l }
        led := { s.led with credit := s.led.credit - jobFixed 11 }
        buf := { s.buf with iqTime := tim }
        prun := { s.prun with seqs := seqs } } := by
  obtain ⟨tim, seqs, h⟩ := State.twinTell_frame ({ s with workers := l }).saveHier told
  exact ⟨tim, seqs, h⟩

/-- The entry that HIER.ENROLL asks for (R318, R345). -/
def enrollEntry (ws : List Word) : Worker :=
  let id := min 0x3FFFE (fld (wd ws 0) 17 0)
  let kind := min 1 (fld (wd ws 0) 19 18)
  { childId := id, subHi := if kind = 0 then id else clamp id 0x3FFFE (fld (wd ws 3) 29 12), mac := macOf (wd ws 1) (wd ws 2),
    port := min 103 (fld (wd ws 2) 6 0), vid := clamp 1 4094 (fld (wd ws 3) 11 0), vlanEn := bit (wd ws 2) 11,
    pcp := fld (wd ws 2) 10 8, kind := kind }

/-- The slot of the worker table an entry takes: its own, else the first free one (R318). -/
def State.enrollSlot (s : State) (id : Nat) : Nat :=
  match s.childOf id with | some e => e.1 | none => (Tab.freeKey 4096 s.workers).getD 0

/-- The state with an entry in the table. -/
def State.enrolled (s : State) (w : Worker) : State :=
  s.withTable (Tab.insert s.workers (s.enrollSlot w.childId) w) (workerTell (s.enrollSlot w.childId) w)

theorem enrollWords_length (ws : List Word) (hws : ws.length = 4) (kind : Nat) (ok : Bool) (reason : Nat) :
    (State.enrollWords ws kind ok reason).length = 5 ∧ wd (State.enrollWords ws kind ok reason) 4 = pack [(0, ok.toNat), (1, reason)] := by
  match ws, hws with
  | [_, _, _, _], _ => exact ⟨rfl, rfl⟩

theorem bodyEnroll_refused (c : Ctx) (ws : List Word) (s : State) (h : s.enrollReason (enrollEntry ws) ≠ 0) :
    ∃ r, bodyEnroll c ws s = s.ok c r ∧ r.length = 5 ∧ wd r 4 = pack [(0, 0), (1, s.enrollReason (enrollEntry ws))] := by
  refine ⟨_, if_pos h, ?_⟩
  exact enrollWords_length _ rfl _ false _

theorem hierEnroll_answers_refused (s : State) (p : Pkt) (h : s.accepts 0x0D01 (lenIs 4) p = true)
    (hr : s.enrollReason (enrollEntry p.words) ≠ 0) : ∃ r, Answers (.hierEnroll p) s 0x0D01 p (s.accepted 0x0D01 p) r ∧ r.length = 5 ∧
      wd r 4 = pack [(0, 0), (1, s.enrollReason (enrollEntry p.words))] := by
  obtain ⟨t, ha⟩ := accepted_replay s p (op := 0x0D01) rfl
  have hreason : (s.accepted 0x0D01 p).enrollReason (enrollEntry p.words) = s.enrollReason (enrollEntry p.words) := by rw [ha]; rfl
  obtain ⟨r, hb, hl, hw⟩ := bodyEnroll_refused (s.ctxOf 0x0D01 p) p.words (s.accepted 0x0D01 p) (by rwa [hreason])
  exact ⟨r, answers_of_body rfl h hb, hl, hreason ▸ hw⟩

/-- An entry that stands is stored and its command waits for the child; a record is made only where an ABSENT entry is taken up again
(R318, R320, R326). -/
theorem bodyEnroll_added (c : Ctx) (ws : List Word) (s : State) (h : s.enrollReason (enrollEntry ws) = 0) (hp : bit (wd ws 0) 20 = false) :
    ∃ t job, bodyEnroll c ws s = { t with axg := { t.axg with jobs := t.axg.jobs ++ [job] } } ∧
      (t = s.enrolled (enrollEntry ws) ∨
        (∃ e, s.childOf (enrollEntry ws).childId = some e ∧ e.2.pres = .absent) ∧
          ∃ src d, t = (s.enrolled (enrollEntry ws)).log .mgmt 0x0D02 src d 0 0) := by
  unfold bodyEnroll
  extract_lets id kind push persist w rep reason slot was u v x
  have hs : slot = s.enrollSlot w.childId := by
    unfold slot State.enrollSlot
    cases s.childOf id <;> rfl
  have hu : u = s.enrolled w := by
    unfold u
    rw [hs]
    rfl
  refine ⟨v, _, (if_neg (not_not.mpr h)).trans (if_neg (by simp [push, hp])), ?_⟩
  cases hw : was with
  | false => exact .inl (by simp only [v, hw, hu]; rfl)
  | true =>
    refine .inr ⟨?_, _, _, by simp only [v, hw, hu]; rfl⟩
    cases hc : s.childOf id with
    | none => simp [was, hc] at hw
    | some e => exact ⟨e, hc, by simpa [was, hc] using hw⟩

theorem hierEnroll_completes (s : State) (p : Pkt) (hacc : s.accepts 0x0D01 (lenIs 4) p = true)
    (h : s.enrollReason (enrollEntry p.words) = 0) (hp : bit (wd p.words 0) 20 = false) :
    Completes (.hierEnroll p) s (fun t => t.keeps s [.workers, .mram, .led, .prun, .buf, .axg, .cru] ∧
      ((∀ e, s.childOf (enrollEntry p.words).childId = some e → e.2.pres ≠ .absent) → t.cru = s.cru) ∧ t.mram.workers = t.workers ∧
      t.axg.jobs.length = s.axg.jobs.length + 1 ∧
      t.workers = Tab.insert s.workers (s.enrollSlot (enrollEntry p.words).childId) (enrollEntry p.words)) := by
  obtain ⟨r, ha⟩ := accepted_replay s p (op := 0x0D01) rfl
  have hi : exec (.hierEnroll p) s = .next (bodyEnroll (s.ctxOf 0x0D01 p) p.words (s.accepted 0x0D01 p)) :=
    congrArg Host.Outcome.next (receive_accepted bodyEnroll hacc)
  rw [ha] at hi
  obtain ⟨t, job, hb, ht⟩ := bodyEnroll_added (s.ctxOf 0x0D01 p) p.words { s with axg := { s.axg with replay := r } } h hp
  obtain ⟨tim, seqs, he⟩ := State.withTable_frame { s with axg := { s.axg with replay := r } }
    (Tab.insert s.workers (s.enrollSlot (enrollEntry p.words).childId) (enrollEntry p.words))
    (workerTell (s.enrollSlot (enrollEntry p.words).childId) (enrollEntry p.words))
  refine ⟨_, hi.trans (congrArg _ hb), ?_⟩
  replace he : State.enrolled { s with axg := { s.axg with replay := r } } (enrollEntry p.words) = _ := he
  rw [he] at ht
  obtain rfl | ⟨⟨e, hc, habs⟩, src, d, rfl⟩ := ht
  · refine ⟨?_, fun _ => rfl, rfl, by simp, rfl⟩
    intro q hq
    cases q <;> simp [Part.same] at hq ⊢
  · refine ⟨?_, fun hn => absurd habs (hn e hc), rfl, by simp, rfl⟩
    intro q hq
    cases q <;> simp [Part.same, State.log_mgmt] at hq ⊢

/-- No HIER.ENROLL waits for a child (R320). -/
def State.noEnroll (s : State) : Prop :=
  s.axg.jobs.all (fun j => match j.work with | .enroll _ _ => false | _ => true) = true

/-- Completing the commands of which none is in progress changes nothing. -/
theorem State.completeWhere_none (s : State) (f : Work → Option Rpl) (h : ∀ j ∈ s.axg.jobs, f j.work = none) : s.completeWhere f = s := by
  have hdone : s.axg.jobs.filterMap (fun j => (f j.work).map (fun r => (j.ctx, r))) = [] := by
    simp only [List.filterMap_eq_nil_iff]
    intro j hj
    simp [h j hj]
  have hkeep : s.axg.jobs.filter (fun j => (f j.work).isNone) = s.axg.jobs := by
    simp only [List.filter_eq_self]
    intro j hj
    simp [h j hj]
  rw [State.completeWhere, hdone, hkeep]
  rfl

theorem State.enrollReply_none (s : State) (child kind : Nat) (ok : Bool) (reason : Nat) (h : s.noEnroll) :
    s.enrollReply child kind ok reason = s := by
  refine s.completeWhere_none _ (fun j hj => ?_)
  have hj := List.all_eq_true.mp h j hj
  cases hw : j.work <;> simp [hw] at hj ⊢

/-- With no relay record of the child and no broadcast, nothing fails with the child (R87, R326). -/
theorem State.relaysFail_none (s : State) (child detail : Nat) (h : s.axg.relays.all (fun r => decide (r.child ≠ child)) = true)
    (hb : s.hier.bcasts = []) : s.relaysFail child detail = s := by
  have hne (r : Relay) (hr : r ∈ s.axg.relays) : r.child ≠ child := of_decide_eq_true (List.all_eq_true.mp h r hr)
  have hmine : s.axg.relays.filter (fun r => decide (r.child = child)) = [] := by
    simpa [List.filter_eq_nil_iff] using hne
  have hkeep : s.axg.relays.filter (fun r => decide (r.child ≠ child)) = s.axg.relays := by
    simpa [List.filter_eq_self] using hne
  rw [State.relaysFail, hmine, hkeep]
  simp [State.pump, hb, pumpBcasts]

/-- The state without an entry. -/
def State.released (s : State) (k : Nat) : State := s.withTable (Tab.erase s.workers k) [2, w32 k]

theorem bodyRelease_none (c : Ctx) (ws : List Word) (s : State) (h : s.childOf (fld (wd ws 0) 17 0) = none) :
    bodyRelease c ws s = s.ok c [0] := by
  simp [bodyRelease, h]

/-- With nothing under way for the child its entry is removed, with a record where it was ABSENT (R326, R346). -/
theorem bodyRelease_some (c : Ctx) (ws : List Word) (s : State) {e : Nat × Worker} (h : s.childOf (fld (wd ws 0) 17 0) = some e)
    (hp : bit (wd ws 0) 20 = false) (hr : s.axg.relays.all (fun r => decide (r.child ≠ fld (wd ws 0) 17 0)) = true)
    (hb : s.hier.bcasts = []) (hj : s.noEnroll) :
    ∃ cru, bodyRelease c ws s = ({ s.released e.1 with cru := cru }).ok c [1] ∧ (e.2.pres ≠ .absent → cru = s.cru) := by
  obtain ⟨k, w⟩ := e
  obtain ⟨tim, seqs, hf⟩ := s.withTable_frame (Tab.erase s.workers k) [2, w32 k]
  replace hf : s.released k = _ := hf
  let logged : State := if w.pres = .absent then (s.released k).log .mgmt 0x0D02 (srcOf 9 k) (w32 (fld (wd ws 0) 17 0)) 0 0 else s.released k
  have hcru : logged = { s.released k with cru := logged.cru } := by
    unfold logged
    split <;> rfl
  have hbody : bodyRelease c ws s = ((logged.relaysFail (fld (wd ws 0) 17 0) 1).enrollReply (fld (wd ws 0) 17 0) w.kind false 5).ok c [1] := by
    simp [bodyRelease, h, hp, logged, State.released, State.withTable]
  refine ⟨logged.cru, ?_, fun hn => ?_⟩
  · rw [hbody, State.relaysFail_none, State.enrollReply_none, ← hcru]
    · rw [hcru, hf]
      exact hj
    · rw [hcru, hf]
      exact hr
    · rw [hcru, hf]
      exact hb
  · simp only [logged, if_neg hn, hf]

theorem hierRelease_answers (s : State) (p : Pkt) (hacc : s.accepts 0x0D02 (lenIs 1) p = true) (e : Nat × Worker)
    (h : s.childOf (fld (wd p.words 0) 17 0) = some e) (hp : bit (wd p.words 0) 20 = false)
    (hr : s.axg.relays.all (fun r => decide (r.child ≠ fld (wd p.words 0) 17 0)) = true) (hb : s.hier.bcasts = []) (hj : s.noEnroll) :
    ∃ u, Answers (.hierRelease p) s 0x0D02 p u [1] ∧ u.workers = Tab.erase s.workers e.1 ∧ u.mram.workers = u.workers ∧
      u.keeps (s.accepted 0x0D02 p) [.workers, .mram, .led, .prun, .buf, .cru] ∧ (e.2.pres ≠ .absent → u.cru = s.cru) := by
  obtain ⟨r, ha⟩ := accepted_replay s p (op := 0x0D02) rfl
  have hs : (s.accepted 0x0D02 p).childOf (fld (wd p.words 0) 17 0) = some e := by rw [ha]; exact h
  obtain ⟨cru, hbody, hcru⟩ := bodyRelease_some (s.ctxOf 0x0D02 p) p.words _ hs hp (by rw [ha]; exact hr) (by rw [ha]; exact hb)
    (by rw [ha]; exact hj)
  obtain ⟨tim, seqs, hf⟩ := (s.accepted 0x0D02 p).withTable_frame (Tab.erase (s.accepted 0x0D02 p).workers e.1) [2, w32 e.1]
  replace hf : (s.accepted 0x0D02 p).released e.1 = _ := hf
  refine ⟨_, answers_of_body rfl hacc hbody, ?_⟩
  rw [hf]
  refine ⟨by simp, rfl, ?_, by simpa using hcru⟩
  intro q hq
  cases q <;> simp [Part.same] at hq ⊢

/-! ### The reads: HIER.TABLE_READ, HIER.CLOSURE_READ and HIER.STATUS -/

theorem length_flatMap_const {α β : Type} (l : List α) (f : α → List β) (n : Nat) (h : ∀ a ∈ l, (f a).length = n) :
    (l.flatMap f).length = n * l.length := by
  simp [List.length_flatMap, List.map_congr_left h, Nat.mul_comm]

/-- HIER.TABLE_READ replies with the count and eight words for each entry (R347). -/
theorem bodyTableRead_reply (c : Ctx) (ws : List Word) (s : State) :
    let first := fld (wd ws 0) 11 0
    let n := min (fld (wd ws 1) 12 0) (4096 - first)
    let l := s.workers.filter (fun e => decide (first ≤ e.1 ∧ e.1 < first + n))
    ∃ r, bodyTableRead c ws s = s.ok c r ∧ r.length = 1 + 8 * l.length ∧
      wd r 0 = pack [(0, l.length), (16, (l.filter (fun e => decide (e.2.pres = Pres.absent))).length)] := by
  refine ⟨_, rfl, ?_, rfl⟩
  rw [List.length_cons, length_flatMap_const _ _ 8 (fun _ _ => rfl), Nat.add_comm]

theorem hierTableRead_answers (s : State) (p : Pkt) (h : s.accepts 0x0D03 (lenIs 2) p = true) :
    let first := fld (wd p.words 0) 11 0
    let n := min (fld (wd p.words 1) 12 0) (4096 - first)
    let l := s.workers.filter (fun e => decide (first ≤ e.1 ∧ e.1 < first + n))
    ∃ r, Answers (.hierTableRead p) s 0x0D03 p (s.accepted 0x0D03 p) r ∧ r.length = 1 + 8 * l.length ∧
      wd r 0 = pack [(0, l.length), (16, (l.filter (fun e => decide (e.2.pres = Pres.absent))).length)] := by
  obtain ⟨r, hb, hr⟩ := bodyTableRead_reply (s.ctxOf 0x0D03 p) p.words (s.accepted 0x0D03 p)
  rw [State.accepted_workers] at hr
  exact ⟨r, answers_of_body rfl h hb, hr⟩

theorem hierClosureRead_answers (s : State) (p : Pkt) (h : s.accepts 0x0D07 (lenIs 1) p = true) :
    Answers (.hierClosureRead p) s 0x0D07 p (s.accepted 0x0D07 p)
      (match Tab.find? s.hier.rings (fld (wd p.words 0) 3 0) with
       | some r => closureWords (fld (wd p.words 0) 3 0) r.n r.gen r.e r.k r.retCw r.retCcw r.res
       | none => closureWords (fld (wd p.words 0) 3 0) 0 0 0 0 0 0 []) := by
  refine answers_of_body rfl h ?_
  unfold bodyClosureRead
  dsimp only
  rw [State.accepted_hier]
  cases Tab.find? s.hier.rings (fld (wd p.words 0) 3 0) <;> rfl

theorem bodyHierStatus_status (c : Ctx) (ws : List Word) (s : State) (h : bit (wd ws 0) 31 = false) :
    ∃ r, bodyHierStatus c ws s = s.ok c r ∧ r.length = 8 := by
  unfold bodyHierStatus
  rw [if_neg (by simp [h])]
  exact ⟨_, rfl, rfl⟩

/-! ### Worker Reports at the manager -/

theorem bodyHierStatus_report (c : Ctx) (ws : List Word) (s : State) (h : bit (wd ws 0) 31 = true) :
    bodyHierStatus c ws s = if s.isMi then s.workerReport c ws else s.err c stNotManager 0 := by
  unfold bodyHierStatus
  rw [if_pos h]

theorem State.workerReport_stranger (s : State) (c : Ctx) (ws : List Word) {port sa : Nat} {tci : Option Nat} (hv : c.via = .inband port sa tci)
    (h : s.childOf c.srcId = none) : s.workerReport c ws = s.ok c (s.reportReply false []) := by
  simp [State.workerReport, hv, h]

/-- The entry of a child as a living report leaves it (R325, R326). -/
def Worker.reported (w : Worker) (ws : List Word) (port tick : Nat) : Worker :=
  { w with
    report := ws.drop 1, variant := fld (wd ws 0) 19 16, port := port, lastTick := some tick, misses := 0, pres := .present, dying := false
    kind := if fld (wd ws 0) 19 16 = 2 then 0 else w.kind, subHi := if fld (wd ws 0) 19 16 = 2 then w.childId else w.subHi }

theorem State.closureReport_none (s : State) (w : Worker) (h : s.hier.closure = none) : s.closureReport w = s := by
  simp [State.closureReport, h]

/-- A living report of a PRESENT child, with no enrollment and no closure run under way, updates its entry and is answered accepted (R325). -/
theorem State.workerReport_present (s : State) (c : Ctx) (ws : List Word) {port sa k : Nat} {tci : Option Nat} {w : Worker}
    (hv : c.via = .inband port sa tci) (h : s.childOf c.srcId = some (k, w)) (hm : w.mac = sa) (hd : bit (wd ws 0) 30 = false)
    (hw : w.pres = .present) (hc : s.hier.closure = none) (hj : s.noEnroll) :
    s.workerReport c ws = ({ s with workers := Tab.insert s.workers k (w.reported ws port s.clk.tick) }).ok c
      (s.reportReply true (s.residualsFor w.childId)) := by
  subst hm
  have hreply (child kind : Nat) (ok : Bool) (reason : Nat) :=
    State.enrollReply_none { s with workers := Tab.insert s.workers k (w.reported ws port s.clk.tick) } child kind ok reason hj
  have hclosure (x : Worker) :=
    State.closureReport_none { s with workers := Tab.insert s.workers k (w.reported ws port s.clk.tick) } x hc
  simp only [Worker.reported] at hreply hclosure
  simp only [State.workerReport, hv, h, hd, hw, ne_eq, not_true_eq_false, if_false, Bool.false_eq_true, reduceCtorEq, hreply, hclosure,
    Worker.reported]
  rfl

theorem workerReport_notManager (s : State) (p : Pkt) (h : s.accepts 0x0D08 lenHierStatus p = true) (hb : bit (wd p.words 0) 31 = true)
    (hm : s.isMi = false) : exec (.workerReport p) s = .next ((s.accepted 0x0D08 p).err (s.ctxOf 0x0D08 p) 0x0070 0) := by
  refine congrArg Host.Outcome.next ((receive_accepted bodyHierStatus h).trans ?_)
  obtain ⟨r, ha⟩ := accepted_replay s p (op := 0x0D08) rfl
  have hm : (s.accepted 0x0D08 p).isMi = false := by rw [ha]; exact hm
  simp only [bodyHierStatus_report _ _ _ hb, hm]
  rfl

theorem workerReport_stranger (s : State) (p : Pkt) {port sa : Nat} {tci : Option Nat} (h : s.accepts 0x0D08 lenHierStatus p = true)
    (hb : bit (wd p.words 0) 31 = true) (hv : p.via = .inband port sa tci) (hm : s.isMi = true) (hc : s.childOf p.srcId = none) :
    Answers (.workerReport p) s 0x0D08 p (s.accepted 0x0D08 p) (s.reportReply false []) := by
  refine answers_of_body rfl h ?_
  obtain ⟨r, ha⟩ := accepted_replay s p (op := 0x0D08) rfl
  rw [bodyHierStatus_report _ _ _ hb, ha]
  exact (if_pos hm).trans (State.workerReport_stranger _ _ _ (tci := tci) hv hc)

theorem workerReport_child (s : State) (p : Pkt) {port sa k : Nat} {tci : Option Nat} {w : Worker}
    (h : s.accepts 0x0D08 lenHierStatus p = true) (hb : bit (wd p.words 0) 31 = true) (hv : p.via = .inband port sa tci) (hi : s.isMi = true)
    (hc : s.childOf p.srcId = some (k, w)) (hm : w.mac = sa) (hd : bit (wd p.words 0) 30 = false) (hw : w.pres = .present)
    (hr : s.hier.closure = none) (hj : s.noEnroll) :
    Answers (.workerReport p) s 0x0D08 p
      { s.accepted 0x0D08 p with workers := Tab.insert s.workers k (w.reported p.words port s.clk.tick) }
      (s.reportReply true (s.residualsFor w.childId)) := by
  refine answers_of_body rfl h ?_
  obtain ⟨r, ha⟩ := accepted_replay s p (op := 0x0D08) rfl
  rw [bodyHierStatus_report _ _ _ hb, ha]
  exact (if_pos hi).trans (State.workerReport_present _ _ _ (tci := tci) hv hc hm hd hw hr hj)

/-! ### The obligation -/

/-- Settles O46: each command by its body, on the state that acceptance leaves. -/
theorem hierCommands : Obligations.HierCommands := by
  refine ⟨?_, ?_, ?_, ?_, ?_, ?_, ?_⟩
  · exact fun s p h => ⟨hierConfig_answers_read s p h, hierConfig_answers_write s p h⟩
  · exact fun s p h => ⟨hierEnroll_answers_refused s p h, hierEnroll_completes s p h⟩
  · refine fun s p h => ⟨fun hc => answers_of_body rfl h (bodyRelease_none _ _ _ ?_), hierRelease_answers s p h⟩
    rw [State.childOf, State.accepted_workers]
    exact hc
  · exact hierTableRead_answers
  · exact hierClosureRead_answers
  · intro s p h hb
    obtain ⟨r, hr, hl⟩ := bodyHierStatus_status (s.ctxOf 0x0D08 p) p.words (s.accepted 0x0D08 p) hb
    exact ⟨r, answers_of_body rfl h hr, hl⟩
  · intro s p port sa tci h hb hv
    refine ⟨workerReport_notManager s p h hb, workerReport_stranger s p h hb hv, fun k w hi hc hm hd hw hr hj => ?_⟩
    have ha := workerReport_child s p h hb hv hi hc hm hd hw hr hj
    rw [Worker.reported, ← hw] at ha
    exact ha

end Sys2Proof.Machine
end

section
/-! The timing plane leaving service (R39, R404, R431, R660): what the row leaves when the channel table is in its canonical form, and why the
statement RootAndPlanes, which does not ask for that form, fails. -/

namespace Sys2Proof.Machine

open Sys2Proof

/-! ### What completing a command can change -/

/-- What completing a command, one that a pair mirrors too, can change: commands, replies and records, and what carries them. -/
def Completed (t s : State) : Prop :=
  ∃ axg out hst buf start prun twinRpl cru lost regLost, t = { s with
    axg := axg, out := out, hst := hst, buf := buf, start := start, prun := prun, twinRpl := twinRpl, cru := cru
    clk := { s.clk with mbxEvtLost := lost, pqRegEvtLost := regLost } }

theorem Completed.refl (s : State) : Completed s s := ⟨_, _, _, _, _, _, _, _, _, _, rfl⟩

theorem Completed.trans {s t u : State} (h : Completed u t) (k : Completed t s) : Completed u s := by
  obtain ⟨_, _, _, _, _, _, _, _, _, _, rfl⟩ := k
  obtain ⟨_, _, _, _, _, _, _, _, _, _, rfl⟩ := h
  exact ⟨_, _, _, _, _, _, _, _, _, _, rfl⟩

theorem Replied.completed {s t : State} (h : Replied t s) : Completed t s := by
  obtain ⟨_, _, _, _, _, _, _, _, _, _, _, rfl, -, -, -⟩ := h
  exact ⟨_, _, _, _, _, _, _, _, _, _, rfl⟩

theorem Logged.completed {s t : State} (h : Logged t s) : Completed t s := by
  obtain ⟨_, _, _, _, _, _, rfl⟩ := h
  exact ⟨_, _, _, _, _, _, _, _, _, _, rfl⟩

theorem Completed.of_axg (s : State) (a : Axg) : Completed { s with axg := a } s := ⟨_, _, _, _, _, _, _, _, _, _, rfl⟩

theorem Completed.foldl {α : Type} {f : State → α → State} (h : ∀ t x, Completed (f t x) t) (l : List α) (s : State) :
    Completed (l.foldl f s) s :=
  List.foldlRecOn l f (.refl s) (fun t ht x _ => (h t x).trans ht)

theorem State.mirrorDone_completed (s : State) (c : Ctx) (r pr : Rpl) : Completed (s.mirrorDone c r pr) s := by
  have hreply : Completed (s.sendReply c r) s := (s.sendReply_replied c r).completed
  unfold State.mirrorDone
  dsimp only
  split
  · exact hreply
  · exact ((State.log_logged _ _ _ _ _ _ _).completed.trans ⟨_, _, _, _, _, _, _, _, _, _, rfl⟩).trans hreply

theorem State.complete_completed (s : State) (c : Ctx) (r : Rpl) : Completed (s.complete c r) s := by
  have hreply : Completed (s.sendReply c r) s := (s.sendReply_replied c r).completed
  unfold State.complete
  split
  · exact .refl s
  split
  · exact ⟨_, _, _, _, _, _, _, _, _, _, rfl⟩
  split
  · split
    · exact hreply
    · split
      · exact (mirrorDone_completed _ _ _ _).trans ⟨_, _, _, _, _, _, _, _, _, _, rfl⟩
      · exact ⟨_, _, _, _, _, _, _, _, _, _, rfl⟩
  · exact hreply

theorem State.completeWhere_completed (s : State) (f : Work → Option Rpl) : Completed (s.completeWhere f) s :=
  Completed.trans (.foldl (fun t (d : Ctx × Rpl) => t.complete_completed d.1 d.2) _ _) (.of_axg s _)

theorem State.endHeld_completed (s : State) (j : Job) : Completed (s.endHeld j) s := by
  have hlate (src : Nat) (r : Rpl) :
      Completed ((({ s with axg := { s.axg with jobs := s.axg.jobs.erase j } } : State).logLate .mgmt j.ctx src).complete j.ctx r) s :=
    ((State.complete_completed _ _ _).trans (State.log_logged _ _ _ _ _ _ _).completed).trans (.of_axg s _)
  unfold State.endHeld
  dsimp only
  split
  · exact hlate _ _
  · exact hlate _ _
  · exact hlate _ _
  · exact hlate _ _
  · exact .refl s

theorem State.hamsOff_completed (s : State) : Completed s.hamsOff { s with hams := [] } := by
  unfold State.hamsOff
  exact (completeWhere_completed _ _).trans (.of_axg _ _)

/-! ### Channels -/

/-- The parts that going OFF of the channels leaves as they are. -/
def State.besideChans (s : State) : Mem × Mram × Tab Ham × Bool × Bool := (s.mem, s.mram, s.hams, s.clk.tpUp, s.clk.tpFault)

theorem Completed.chans {s t : State} (h : Completed t s) : t.chans = s.chans := by
  obtain ⟨_, _, _, _, _, _, _, _, _, _, rfl⟩ := h
  rfl

theorem Completed.besideChans {s t : State} (h : Completed t s) : t.besideChans = s.besideChans := by
  obtain ⟨_, _, _, _, _, _, _, _, _, _, rfl⟩ := h
  rfl

/-- A channel that is OFF, without results or a statistics run (R431). -/
def Chan.isOff (x : Chan) : Prop := x.st = .off ∧ x.queue = [] ∧ x.stat = none

/-- The channels below a number are OFF, in a table of rising keys, and what is beside the channels is as in another state. -/
def Silenced (n : Nat) (t s : State) : Prop :=
  Tab.sorted t.chans = true ∧ (∀ k, k < n → (t.chan k).isOff) ∧ t.besideChans = s.besideChans

theorem Silenced.of_same {n : Nat} {s t u : State} (h : Silenced n t s) (hc : u.chans = t.chans) (hb : u.besideChans = t.besideChans) :
    Silenced n u s := by
  obtain ⟨hsort, hoff, hbeside⟩ := h
  exact ⟨hc ▸ hsort, fun k hk => by rw [State.chan, hc]; exact hoff k hk, hb.trans hbeside⟩

theorem State.chan_modChan (s : State) (ch k : Nat) (f : Chan → Chan) (h : Tab.sorted s.chans = true) :
    (s.modChan ch f).chan k = if k = ch then f (s.chan ch) else s.chan k := by
  split
  next hk => exact hk ▸ Tab.get_put_self _ _ _ h
  next hk => exact Tab.get_put_ne _ _ _ hk

theorem Silenced.queueJob {n : Nat} {s t : State} (h : Silenced n t s) (code cost : Nat) (what : JobFor) :
    Silenced n (t.queueJob code cost what) s := h.of_same rfl rfl

theorem Silenced.completeWhere {n : Nat} {s t : State} (h : Silenced n t s) (f : Work → Option Rpl) : Silenced n (t.completeWhere f) s :=
  h.of_same (t.completeWhere_completed f).chans (t.completeWhere_completed f).besideChans

/-- A change of one channel that is OFF after it, if it is among those that are to be. -/
theorem Silenced.modChan {m n : Nat} {s t : State} (h : Silenced m t s) {ch : Nat} {f : Chan → Chan}
    (hf : ch < n → (f (t.chan ch)).isOff) (hk : ∀ k, k < n → k ≠ ch → k < m) : Silenced n (t.modChan ch f) s := by
  obtain ⟨hsort, hoff, hbeside⟩ := h
  refine ⟨Tab.sorted_put _ _ hsort, fun k hlt => ?_, hbeside⟩
  rw [t.chan_modChan _ _ _ hsort]
  split
  next heq => exact hf (heq ▸ hlt)
  next hne => exact hoff k (hk k hlt hne)

/-- Passes that fall due change a channel only in its mark that one was deferred (R426). -/
theorem Silenced.passesDue {n : Nat} {s t : State} (h : Silenced n t s) : Silenced n t.passesDue s := by
  unfold State.passesDue
  refine List.foldlRecOn (motive := fun u => Silenced n u s) _ _ h (fun u hu k _ => ?_)
  dsimp only
  split
  · exact hu
  · refine List.foldlRecOn (motive := fun u => Silenced n u s) _ _ ?_ (fun v hv _ _ => hv.queueJob _ _ _)
    split
    · exact (hu.modChan (hu.2.1 k) (fun _ hk _ => hk)).queueJob _ _ _
    · exact hu

/-- With a channel table of rising keys every channel goes OFF (R431, R660). -/
theorem State.chansOff_silenced (s : State) (h : Tab.sorted s.chans = true) : Silenced 28 s.chansOff s := by
  refine Silenced.passesDue ?_
  generalize 28 = n
  induction n with
  | zero => exact ⟨h, fun k hk => absurd hk k.not_lt_zero, rfl⟩
  | succ n ih =>
    rw [List.range_succ, List.foldl_append, List.foldl_cons, List.foldl_nil]
    refine (ih.completeWhere _).modChan (fun _ => ?_) (fun k hk hne => ?_)
    · exact ⟨rfl, rfl, rfl⟩
    · omega

/-! ### TB0's state -/

theorem Logged.trans {s t u : State} (h : Logged u t) (k : Logged t s) : Logged u s := by
  obtain ⟨_, _, _, _, _, _, rfl⟩ := k
  obtain ⟨_, _, _, _, _, _, rfl⟩ := h
  exact ⟨_, _, _, _, _, _, rfl⟩

/-- An event that a record follows under a condition. -/
theorem State.event_record_logged (s : State) (c : Prop) [Decidable c] (sev code source : Nat) (d5 d6 : Word) :
    Logged (if c then (s.queueEvent .timing none).logSev .timing sev code source d5 d6 else s.queueEvent .timing none) s := by
  have hevent : Logged (s.queueEvent .timing none) s := s.queueEvent_logged _ _
  split
  · exact (logSev_logged _ _ _ _ _ _ _).trans hevent
  · exact hevent

/-- What a change of TB0's state can change (R365): the reference loop's state, TB0, and what raising a record changes. -/
theorem State.setTb0_logged (s : State) (n : Tb0St) :
    ∃ refs tbs, refs.st = n ∧ Logged (s.setTb0 n) { s with refs := refs, tbs := tbs } := by
  unfold State.setTb0
  dsimp only
  split
  next h => exact ⟨s.refs, s.tbs, h.symm, _, _, _, _, _, _, rfl⟩
  · exact ⟨_, _, rfl, event_record_logged _ _ _ _ _ _ _⟩

/-- TB0 goes to FAULT with its steering held (R45, R365). -/
theorem State.heldFault (s : State) :
    (s.holdSteering.setTb0 .fault).refs.st = .fault ∧
      (s.holdSteering.setTb0 .fault).clk.steerTo = (s.holdSteering.setTb0 .fault).clk.steer ∧
      (s.holdSteering.setTb0 .fault).chans = s.chans ∧ (s.holdSteering.setTb0 .fault).besideChans = s.besideChans := by
  obtain ⟨refs, tbs, hst, _, _, _, _, _, _, hlog⟩ := s.holdSteering.setTb0_logged .fault
  rw [hlog]
  exact ⟨hst, rfl, rfl, rfl⟩

/-! ### The row -/

/-- The timing plane leaves service, with a channel table of rising keys (R39, R50, R365, R404, R431). -/
theorem State.tpLeave_down (s : State) (h : Tab.sorted s.chans = true) :
    s.tpLeave.refs.st = .fault ∧ s.tpLeave.clk.steerTo = s.tpLeave.clk.steer ∧ (∀ ch, ch < 28 → (s.tpLeave.chan ch).isOff) ∧
      s.tpLeave.besideChans = (s.mem, s.mram, [], false, true) := by
  let a : State := { s with clk := { s.clk with tpUp := false, tpFault := true } }
  let b := a.axg.jobs.foldl State.endHeld a
  have hheld : Completed b a := .foldl State.endHeld_completed _ _
  have hhams : Completed b.hamsOff { b with hams := [] } := b.hamsOff_completed
  have hsilent : Silenced 28 b.hamsOff.chansOff b.hamsOff :=
    b.hamsOff.chansOff_silenced (by rw [hhams.chans]; exact hheld.chans ▸ h)
  have hleave : s.tpLeave = b.hamsOff.chansOff.holdSteering.setTb0 .fault := rfl
  obtain ⟨hst, hsteer, hchans, hkept⟩ := b.hamsOff.chansOff.heldFault
  obtain ⟨-, hoff, hbeside⟩ := hsilent.of_same hchans hkept
  rw [hleave]
  refine ⟨hst, hsteer, hoff, hbeside.trans (hhams.besideChans.trans ?_)⟩
  obtain ⟨_, _, _, _, _, _, _, _, _, _, hb⟩ := hheld
  rw [hb]
  rfl

/-- TIMING_PLANE_FAULT as its clause of RootAndPlanes says it, given a channel table of rising keys. -/
theorem timingPlaneFault_completes (s : State) (hrun : s.start.power = .run) (hup : s.clk.tpUp = true) (h : Tab.sorted s.chans = true) :
    Completes .timingPlaneFault s (fun t =>
      t.clk.tpUp = false ∧ t.clk.tpFault = true ∧ t.refStatePins = (if t.start.resetN then 7 else 0) ∧ t.refs.st = .fault ∧ t.hams = [] ∧
      (∀ ch, ch < 28 → (t.chan ch).st = .off ∧ (t.chan ch).queue = [] ∧ (t.chan ch).stat = none) ∧ t.clk.steerTo = t.clk.steer ∧
      t.mem.bytes = s.mem.bytes ∧ t.mram = s.mram) := by
  have hrow : exec .timingPlaneFault s = .next (s.tpLeave.log .mgmt 0x0106 0 0 0 0) :=
    congrArg Host.Outcome.next (if_neg (by simp [hrun, hup]))
  obtain ⟨hst, hsteer, hoff, hbeside⟩ := s.tpLeave_down h
  simp only [State.besideChans, Prod.mk.injEq] at hbeside
  obtain ⟨hmem, hmram, hhams, htp, hfault⟩ := hbeside
  generalize s.tpLeave = u at *
  refine ⟨_, hrow, ?_⟩
  rw [State.log_mgmt]
  refine ⟨htp, hfault, ?_, hst, hhams, hoff, hsteer, congrArg Mem.bytes hmem, hmram⟩
  simp only [State.refStatePins, State.tpUp, htp]
  cases u.start.resetN <;> rfl

/-! ### The obligation -/

/-- The part in service with channel 0 RUNNING, in a table that lists it twice. -/
def channelTwice : State :=
  { start := { power := .run, pcieUp := true, done := true, scriptEnded := true, watchdog := true }
    clk := { rootLock := true, tpUp := true, dpUp := true }
    chans := [(0, { st := .running }), (0, { st := .running })] }

/-- As the fault takes channel 0 to its reset value, its first entry leaves the table, and it reads as the second. -/
theorem channelTwice_runs : ((tpFaultStep channelTwice).chan 0).st = .running := by decide +kernel

/-- Refutes O13: its clause of the timing-plane fault asks for no form of the channel table, and fails of one that lists a channel twice.
No step from reset makes such a table, and with one of rising keys the clause holds (`timingPlaneFault_completes`). -/
theorem not_rootAndPlanes : ¬ Obligations.RootAndPlanes := by
  rintro ⟨-, -, hfault, -⟩
  obtain ⟨t, hrow, -, -, -, -, -, hoff, -⟩ := hfault channelTwice rfl rfl
  obtain rfl : tpFaultStep channelTwice = t := Host.Outcome.next.inj hrow
  obtain ⟨hst, -⟩ := hoff 0 (by omega)
  rw [channelTwice_runs] at hst
  exact absurd hst (by decide)

end Sys2Proof.Machine
end

section
/-! The management restart (R37, R38): what MPI's cut leaves where no frame waits in PQ_CMD or PQ_HOST, and why the statement RestartAndPcie,
which keeps the whole forwarding part over a restart, fails: R38 counts the frames it flushes there. -/

namespace Sys2Proof.Machine

open Sys2Proof

/-! ### What the parts of the cut can change -/

theorem State.setFwBytes_frame (s : State) (slot a : Nat) (bs : List Byte) : ∃ mram, s.setFwBytes slot a bs = { s with mram := mram } := by
  induction bs generalizing s a with
  | nil => exact ⟨_, rfl⟩
  | cons b t ih =>
    have hbyte : ∃ mram, s.setFwByte slot a b = { s with mram := mram } := by
      unfold State.setFwByte
      (repeat' split) <;> exact ⟨_, rfl⟩
    obtain ⟨m, hm⟩ := hbyte
    obtain ⟨m', hm'⟩ := ih (s.setFwByte slot a b) (a + 1)
    exact ⟨m', by rw [State.setFwBytes, hm', hm]⟩

theorem State.setBootGen_frame (s : State) (slot gen : Nat) : ∃ mram, s.setBootGen slot gen = { s with mram := mram } := by
  obtain ⟨m, hm⟩ := s.setFwBytes_frame slot 8 (bytesLE 4 (gen % 2 ^ 32))
  obtain ⟨m', hm'⟩ := (s.setFwBytes slot 8 (bytesLE 4 (gen % 2 ^ 32))).setFwBytes_frame slot 60
    (bytesLE 4 (crc32 (fwBytes ((s.setFwBytes slot 8 (bytesLE 4 (gen % 2 ^ 32))).fwSlot slot) 0 60)))
  exact ⟨m', by rw [State.setBootGen, hm', hm]⟩

theorem State.tearWrites_frame (s : State) : ∃ free mem mram, s.tearWrites = { s with free := free, mem := mem, mram := mram } := by
  unfold State.tearWrites
  dsimp only
  split
  · split
    · obtain ⟨_, h⟩ := State.setFwBytes_frame _ _ _ _
      exact ⟨_, _, _, h⟩
    · exact ⟨_, _, _, rfl⟩
  · split
    · obtain ⟨_, h⟩ := State.setBootGen_frame _ _ _
      exact ⟨_, _, _, h⟩
    · exact ⟨_, _, _, rfl⟩
  · exact ⟨_, _, _, rfl⟩

theorem State.tearFlush_frame (s : State) : ∃ free mram cru, s.tearFlush = { s with free := free, mram := mram, cru := cru } := by
  unfold State.tearFlush
  split <;> exact ⟨_, _, _, rfl⟩

/-- What a lane's change can change: the lanes, and what they send. -/
def Laned (t s : State) : Prop := ∃ lanes out, t = { s with lanes := lanes, out := out }

theorem Laned.refl (s : State) : Laned s s := ⟨_, _, rfl⟩

theorem Laned.trans {s t u : State} (h : Laned u t) (k : Laned t s) : Laned u s := by
  obtain ⟨_, _, rfl⟩ := k
  obtain ⟨_, _, rfl⟩ := h
  exact ⟨_, _, rfl⟩

theorem State.modLane_laned (s : State) (l : Nat) (f : Lane → Lane) : Laned (s.modLane l f) s := ⟨_, _, rfl⟩

theorem State.wake_laned (s : State) (l : Nat) : Laned (s.wake l) s := by
  unfold State.wake State.laneSends
  (repeat' split) <;> exact ⟨_, _, rfl⟩

theorem State.sendFlags_laned (s : State) (l : Nat) : Laned (s.sendFlags l) s := by
  unfold State.sendFlags
  dsimp only
  split <;> exact ⟨_, _, rfl⟩

/-- A lane whose conditions to doze change sends, or ends its idle, and nothing else changes (R115, R119, R122). -/
theorem State.dozeChanged_laned (s : State) (l : Nat) : Laned (s.dozeChanged l) s := by
  let u : State := if (s.lane l).lpiTx = true ∧ s.lpiMay l = false then s.modLane l (fun x => { x with lpiTx := false }) else s
  have hu : Laned u s := by
    unfold u
    split
    · exact s.modLane_laned _ _
    · exact .refl s
  have hdoze : s.dozeChanged l = if (u.lane l).step ≠ 7 then u
      else if (u.lane l).doze = .dozing then (if (u.lane l).dozeEn = false ∨ u.dozeOk l = false then u.wake l else u)
      else if (u.lane l).dozeEn = true ∧ (u.lane l).doze = .awake ∧ (u.lane l).flagsSent ≠ some (u.dozeOk l) then u.sendFlags l
      else u := rfl
  rw [hdoze]
  refine Laned.trans ?_ hu
  split
  · exact .refl u
  split
  · split
    · exact u.wake_laned l
    · exact .refl u
  split
  · exact u.sendFlags_laned l
  · exact .refl u

/-! ### The cut -/

/-- A command in progress as the cut of MPI leaves it: no reply of it leaves any more (R38). -/
def Job.cut (j : Job) : Job := { j with ctx := { j.ctx with lost := true, mirrored := false } }

/-- The parts of the timing and the data plane that the statement names. -/
def State.otherPlanes (s : State) : Clk × Tab TBase × Tab Ham × Tab Chan × Tab Port × Fwd := (s.clk, s.tbs, s.hams, s.chans, s.ports, s.fwd)

theorem State.keptJobs_torn (s : State) : s.tearWrites.tearFlush.keptJobs = s.keptJobs := by
  obtain ⟨_, _, _, hw⟩ := s.tearWrites_frame
  obtain ⟨_, _, _, hf⟩ := s.tearWrites.tearFlush_frame
  rw [hf, hw]
  rfl

theorem State.otherPlanes_torn (s : State) : s.tearWrites.tearFlush.otherPlanes = s.otherPlanes := by
  obtain ⟨_, _, _, hw⟩ := s.tearWrites_frame
  obtain ⟨_, _, _, hf⟩ := s.tearWrites.tearFlush_frame
  rw [hf, hw]
  rfl

/-- The cut of the management plane's work keeps the other planes, and of the commands in progress those that they serve (R33, R36, R38). -/
theorem State.cutWork_keeps (s : State) : s.cutWork.otherPlanes = s.otherPlanes ∧ s.cutWork.axg.jobs = s.keptJobs := by
  rw [← s.otherPlanes_torn, ← s.keptJobs_torn]
  unfold State.cutWork
  dsimp only
  generalize s.tearWrites = w
  generalize w.tearFlush = u
  refine List.foldlRecOn (motive := fun t : State => t.otherPlanes = u.otherPlanes ∧ t.axg.jobs = u.keptJobs) _ _ ⟨rfl, rfl⟩ (fun t ht l _ => ?_)
  have hscan (f : Lane → Lane) : Laned ((t.modLane l f).dozeChanged l) t := (State.dozeChanged_laned _ l).trans (t.modLane_laned l f)
  split
  · obtain ⟨_, _, h⟩ := hscan (fun x => { x with sketching := false, scanLost := false })
    rw [h]
    exact ht
  · exact ht

theorem mem_mbxTake {slots words : Nat} {l : List Job} {j : Job} (h : j ∈ mbxTake slots words l) : j.work.inMailbox = true := by
  induction l generalizing slots words with
  | nil => simp [mbxTake] at h
  | cons x t ih =>
    unfold mbxTake at h
    split at h
    next ws hw =>
      split at h
      · obtain rfl | h := List.mem_cons.mp h
        · simp [Work.inMailbox, hw]
        · exact ih h
      · simp at h
    · exact ih h

/-- What MPI's cut keeps of the commands in progress (R33, R36, R38). -/
theorem State.mem_keptJobs (s : State) (j : Job) (h : j ∈ s.keptJobs) :
    j.ctx.lost = true ∧ (j.work.onTiming = true ∨ j.work.onCounters = true ∨ j.work.inMailbox = true) := by
  obtain ⟨i, hi, rfl⟩ := List.mem_map.mp h
  obtain ⟨-, hk⟩ := List.mem_filter.mp hi
  simp only [Bool.or_eq_true, List.contains_iff_mem] at hk
  refine ⟨rfl, ?_⟩
  obtain (ht | hc) | hm := hk
  · exact .inl ht
  · exact .inr (.inl hc)
  · exact .inr (.inr (mem_mbxTake (j := i) hm))

theorem State.keptJobs_of_onTiming (s : State) (j : Job) (h : j ∈ s.axg.jobs) (ht : j.work.onTiming = true) : j.cut ∈ s.keptJobs :=
  List.mem_map.mpr ⟨j, List.mem_filter.mpr ⟨h, by simp [ht]⟩, rfl⟩

theorem State.flushPunts_none (s : State) (hcmd : s.puntItems 1 = []) (hhost : s.puntItems 2 = []) : s.flushPunts = s := by
  rw [State.flushPunts, hcmd, hhost]
  rfl

/-- The reply of SYS.RESTART of the management plane has left, as its clause of RestartAndPcie says it, given that no frame waits in PQ_CMD or
PQ_HOST. -/
theorem restartReplyLeft_completes (s : State) (m : StartMeas) (hrun : s.start.power = .run) (hstop : s.start.stop = some .mgmtRestart)
    (hcmd : s.puntItems 1 = []) (hhost : s.puntItems 2 = []) : Completes (.restartReplyLeft m) s (fun t =>
      t.start.mpi = .down ∧ t.start.pcieUp = false ∧ t.clk.mgtRestarts = inc16 s.clk.mgtRestarts ∧ t.start.stop = none ∧
      (∀ j ∈ s.axg.jobs, j.work.onTiming = true → { j with ctx := { j.ctx with lost := true, mirrored := false } } ∈ t.axg.jobs) ∧
      (∀ j ∈ t.axg.jobs, j.ctx.lost = true ∧ (j.work.onTiming = true ∨ j.work.onCounters = true ∨ j.work.inMailbox = true)) ∧
      t.tbs = s.tbs ∧ t.hams = s.hams ∧ t.chans = s.chans ∧ t.ports = s.ports ∧ t.fwd = s.fwd) := by
  have hrow : exec (.restartReplyLeft m) s = .next s.cutMpi := by
    refine congrArg Host.Outcome.next ?_
    simp only [restartReplyLeft, hstop, hrun, if_true]
  obtain ⟨hplanes, hjobs⟩ := s.cutWork_keeps
  simp only [State.otherPlanes, Prod.mk.injEq] at hplanes
  obtain ⟨hclk, htbs, hhams, hchans, hports, hfwd⟩ := hplanes
  refine ⟨_, hrow, ?_⟩
  rw [State.cutMpi, s.flushPunts_none hcmd hhost]
  generalize s.cutWork = u at *
  refine ⟨rfl, rfl, by rw [hclk], rfl, fun j hj ht => ?_, fun j hj => ?_, htbs, hhams, hchans, hports, hfwd⟩
  · exact hjobs ▸ s.keptJobs_of_onTiming j hj ht
  · exact s.mem_keptJobs j (hjobs ▸ hj)

/-! ### The obligation -/

/-- The part in service after the reply of a SYS.RESTART of the management plane, with a frame in PQ_CMD. -/
def commandWaits : State :=
  { start := { power := .run, pcieUp := true, done := true, scriptEnded := true, watchdog := true, stop := some .mgmtRestart }
    clk := { rootLock := true, tpUp := true, dpUp := true }
    buf := { frames := [{ id := 0, bytes := List.replicate 64 0, inPort := 3, ended := true, decided := true, accepted := true }], nextId := 1,
             punted := [{ frame := 0, dst := .cmd }] } }

/-- R38 flushes the frame and counts it. -/
theorem commandWaits_counted : (restartReplyLeft {} commandWaits).fwd.puntDropCmd = 1 := by decide +kernel

/-- Refutes O15: the reply of SYS.RESTART has left while a frame waits in PQ_CMD; the restart counts it as a punt drop, and the statement keeps
all of the forwarding part, that count too. With PQ_CMD and PQ_HOST empty the clause holds (`restartReplyLeft_completes`). -/
theorem not_restartAndPcie : ¬ Obligations.RestartAndPcie := by
  rintro ⟨-, hrestart, -⟩
  obtain ⟨t, hrow, -, -, -, -, -, -, -, -, -, -, hfwd⟩ := hrestart commandWaits {} rfl rfl
  obtain rfl : restartReplyLeft {} commandWaits = t := Host.Outcome.next.inj hrow
  have hcount : (restartReplyLeft {} commandWaits).fwd.puntDropCmd = 0 := congrArg Fwd.puntDropCmd hfwd
  rw [commandWaits_counted] at hcount
  exact absurd hcount (by decide)

end Sys2Proof.Machine
end

section
/-! Reception of a packet (R55-R69): which check answers a command that fails one, what a stale SEQ brings about, and SYS.NOP. -/

namespace Sys2Proof.Machine

open Sys2Proof

/-! ### The checks of R56 in their order -/

theorem State.execute_undefined (s : State) (len : LenRule) (body : Body) {c : Ctx} (ws : List Word) (hd : opDefined c.op = false) :
    s.execute len body c ws = s.err c stUnknown 0 := if_pos hd

theorem State.execute_notManager (s : State) (len : LenRule) (body : Body) {c : Ctx} (ws : List Word) (hd : opDefined c.op = true)
    (hm : opManager c.op = true) (hmi : s.isMi = false) : s.execute len body c ws = s.err c stNotManager 0 := by
  simp [State.execute, hd, hm, hmi]

/-- Past the opcode and the manager function, the answer is that of the class, the life cycle and the length, in this order. -/
theorem State.execute_classed (s : State) (len : LenRule) (body : Body) {c : Ctx} (ws : List Word) (hd : opDefined c.op = true)
    (hm : opManager c.op = true → s.isMi = true) :
    (∀ st d, s.classCheck (Pkt.cls c.op ws) c.via c.authed = some (st, d) →
      s.execute len body c ws = if st = stAuthFail then s.authFailed c d else s.err c st d) ∧
    (s.classCheck (Pkt.cls c.op ws) c.via c.authed = none →
      (∀ st d, s.lcCheck c.op ws c.via = some (st, d) → s.execute len body c ws = s.err c st d) ∧
      (s.lcCheck c.op ws c.via = none →
        (∀ d, len ws = some d → s.execute len body c ws = s.err c stBadLength d) ∧
        (len ws = none → 1023 < ws.length → s.execute len body c ws = s.err c stBadLength 0))) := by
  have hfn : ¬(opManager c.op = true ∧ s.isMi = false) := fun ⟨a, b⟩ => by simp [hm a] at b
  simp only [State.execute, hd, Bool.true_eq_false, if_false, if_neg hfn]
  refine ⟨fun st d hc => by rw [hc], fun hc => ⟨fun st d hl => by rw [hc, hl], fun hl => ⟨fun d hn => ?_, fun hn hlong => ?_⟩⟩⟩
  · rw [hc, hl, hn]
  · rw [hc, hl, hn]
    exact if_pos hlong

theorem State.authFailed_eq (s : State) (c : Ctx) (d : Nat) :
    s.authFailed c d = ({ s with axg := { s.axg with authFails := min 0xFF (s.axg.authFails + 1) } }).err c stAuthFail d := rfl

/-! ### Replay protection (R63) -/

/-- The SEQ of a packet is that of a replay entry, or does not lie ahead of it. -/
def Replay.stale (e : Replay) (p : Pkt) : Prop := (p.seq + 256 - e.lastSeq) % 256 = 0 ∨ 127 < (p.seq + 256 - e.lastSeq) % 256

/-- A stale SEQ fails authentication, whatever the key, and leaves the replay table. -/
theorem State.authCheck_stale (s : State) (op : Nat) {p : Pkt} {e : Replay} (he : s.axg.replay.find? (Replay.isOf p) = some e)
    (hstale : e.stale p) : (s.authCheck op p).fail.isSome = true ∧ (s.authCheck op p).s = s := by
  unfold State.authCheck
  simp only [he]
  split
  · exact ⟨rfl, rfl⟩
  split
  · exact ⟨rfl, rfl⟩
  unfold Replay.stale at hstale
  rw [if_neg (by simp), Option.getD_some, if_pos hstale]
  exact ⟨rfl, rfl⟩

theorem State.segAuth_auth (s : State) (op : Nat) {p : Pkt} (h : p.auth = true) : s.segAuth op p = s.authCheck op p := if_pos h

/-- The register operations that act before an accepted command leave the packets' side as the check of its tag left it (R28). -/
theorem State.accepted_axg_segAuth (s : State) (op : Nat) (p : Pkt) : (s.accepted op p).axg = (s.segAuth op p).s.axg := by
  unfold State.accepted
  split
  · obtain ⟨_, _, _, _, h⟩ := drainReg_frame (s.segAuth op p).s
    rw [h]
  · rfl

/-- Settles O8: `State.execute` tests in the order of R56, and of a packet with a stale SEQ the tag's check keeps the replay table. -/
theorem checksInOrder : Obligations.ChecksInOrder := by
  refine ⟨fun s len body c ws => ⟨s.execute_undefined len body ws, s.execute_notManager len body ws, fun hd hm => ?_⟩,
    fun s op p e ha he hstale => ?_⟩
  · obtain ⟨hclass, hrest⟩ := s.execute_classed len body ws hd hm
    refine ⟨fun st d hc => ?_, hrest⟩
    rw [hclass st d hc, s.authFailed_eq]
    by_cases hst : st = stAuthFail
    · rw [if_pos hst, if_pos (show st = 0x0021 from hst), hst]
    · rw [if_neg hst, if_neg (show st ≠ 0x0021 from hst)]
  · obtain ⟨hfail, hs⟩ := s.authCheck_stale op he hstale
    rw [s.accepted_axg_segAuth, s.segAuth_auth op ha, hs]
    exact ⟨hfail, rfl⟩

/-! ### SYS.NOP (R92) -/

/-- What a packet that is accepted meets: it is taken whole, and passes the checks of R56. -/
theorem State.accepts_receive {s : State} {len : LenRule} {op : Nat} {p : Pkt} (h : s.accepts op len p = true) (len' : LenRule) (body : Body) :
    s.receive len' body op p = (s.segAuth op p).s.execute len' body (s.ctxOf op p) p.words := by
  simp only [State.accepts, Bool.and_eq_true, Bool.not_eq_true', Option.isNone_iff_eq_none, List.all_eq_true, and_assoc] at h
  obtain ⟨htakes, hroom, hrelay, hmore, hpart, hfail, -⟩ := h
  have hnone : s.axg.partials.find? (Partial.continues op p) = none := by
    simp only [List.find?_eq_none]
    intro x hx
    simp [hpart x hx]
  have hkeep : (s.segAuth op p).s.axg.partials.filter (fun x => !Partial.continues op p x) = (s.segAuth op p).s.axg.partials := by
    rw [segAuth_partials, List.filter_eq_self]
    intro x hx
    simp [hpart x hx]
  have hdev : (s.segAuth op p).s.devId = s.devId := by
    rw [segAuth_frame]
    rfl
  have hboot : (s.segAuth op p).s.mram.bootEpoch = s.mram.bootEpoch := by rw [segAuth_frame]
  rw [State.receive, if_pos ⟨htakes, hroom⟩, State.taken, if_neg (by simp [hrelay]), if_neg (by simp [hmore])]
  simp only [State.devId] at hdev
  simp only [State.accept, hnone, hkeep, joinSegment, hfail, ite_self, Option.isNone_none, Bool.and_true, State.ctxOf, State.devId, hdev, hboot]

/-- An accepted packet whose length another rule refuses is answered BAD_LENGTH with the LEN it takes. -/
theorem State.receive_badLength {s : State} {len : LenRule} {op : Nat} {p : Pkt} (h : s.accepts op len p = true) {len' : LenRule} (body : Body)
    {d : Nat} (hd : len' p.words = some d) :
    s.receive len' body op p = (s.segAuth op p).s.err (s.ctxOf op p) stBadLength d := by
  rw [accepts_receive h]
  simp only [State.accepts, Bool.and_eq_true, Bool.not_eq_true', Bool.or_eq_true, Option.isNone_iff_eq_none, and_assoc] at h
  obtain ⟨-, -, -, -, -, -, hdef, hmgr, hclass, hlc, -⟩ := h
  have hmi : (s.segAuth op p).s.isMi = s.isMi := by
    rw [segAuth_frame]
    rfl
  have hm : opManager op = true → (s.segAuth op p).s.isMi = true := fun ho => by simpa [hmi, ho] using hmgr
  obtain ⟨-, hrest⟩ := (s.segAuth op p).s.execute_classed len' body (c := s.ctxOf op p) p.words hdef hm
  obtain ⟨-, hlen⟩ := hrest hclass
  exact (hlen hlc).1 d hd

/-- The length of an accepted packet is that of its opcode. -/
theorem State.accepts_lenIs {s : State} {op n : Nat} {p : Pkt} (h : s.accepts op (lenIs n) p = true) : p.words.length = n := by
  simp only [State.accepts, Bool.and_eq_true, and_assoc] at h
  obtain ⟨-, -, -, -, -, -, -, -, -, -, -, hlen, -⟩ := h
  by_contra hne
  simp [lenIs, hne] at hlen

/-- Settles O58: the body of SYS.NOP replies, and of a packet with words the length check answers first. -/
theorem nopAnswers : Obligations.NopAnswers := by
  refine ⟨fun s p h => ⟨List.length_eq_zero_iff.mp (State.accepts_lenIs h), answers_of_body rfl h rfl⟩, fun s p h hw => ?_⟩
  have hlen : lenIs 0 p.words = some 0 := by simp [lenIs, hw]
  exact congrArg Host.Outcome.next (State.receive_badLength h bodySysNop hlen)

end Sys2Proof.Machine
end

section
/-! Segments of a command (R69), and a command for another DEVICE_ID (R85-R87, R329). -/

namespace Sys2Proof.Machine

open Sys2Proof

/-! ### A packet that is taken -/

theorem State.arrives_taken {s : State} {op : Nat} {p : Pkt} (ht : s.takes p.via = true) (hr : s.room op p = true) :
    s.arrives op p = s.dispatch op p := if_pos ⟨ht, hr⟩

theorem State.dispatch_relays {s : State} (op : Nat) {p : Pkt} (h : s.relays p = true) : s.dispatch op p = s.relayCommand op p := if_pos h

theorem State.dispatch_segment {s : State} (op : Nat) {p : Pkt} (h : s.relays p = false) (hm : p.more = true) :
    s.dispatch op p = s.segment op p := by
  rw [State.dispatch, State.taken, if_neg (by simp [h]), if_pos hm]

/-! ### Partial commands (R69) -/

/-- The partial command of a packet's source, if there is one. -/
def State.partialOf (s : State) (p : Pkt) : Option Partial := s.axg.partials.find? (fun x => decide (x.srcId = p.srcId))

/-- The partial commands of other sources. -/
def State.otherPartials (s : State) (p : Pkt) : List Partial := s.axg.partials.filter (fun x => decide (x.srcId ≠ p.srcId))

/-- The state with these partial commands after the check of a packet's tag. -/
def State.withPartials (s : State) (op : Nat) (p : Pkt) (l : List Partial) (drops : Nat) : State :=
  { s with axg := { s.axg with replay := (s.segAuth op p).s.axg.replay, partials := l, reasmDrop := drops } }

theorem State.withPartials_keeps (s : State) (op : Nat) (p : Pkt) (l : List Partial) (drops : Nat) :
    (s.withPartials op p l drops).keeps s [.axg] := by
  intro q hq
  cases q <;> simp [Part.same, State.withPartials] at hq ⊢

/-- A segment goes on with its command. -/
theorem State.segment_continued {s : State} {op : Nat} {p : Pkt} {o : Partial} (h : s.partialOf p = some o)
    (hc : Partial.continues op p o = true) : s.segment op p =
      s.withPartials op p (s.otherPartials p ++ [joinSegment (some o) op p (s.segAuth op p)]) s.axg.reasmDrop := by
  rw [State.partialOf] at h
  simp only [State.segment, segAuth_partials, h, hc, if_true]
  rw [segAuth_frame]
  rfl

/-- A segment of another command replaces the partial command of its source, which is counted. -/
theorem State.segment_replaced {s : State} {op : Nat} {p : Pkt} {o : Partial} (h : s.partialOf p = some o)
    (hc : Partial.continues op p o = false) : s.segment op p =
      s.withPartials op p (s.otherPartials p ++ [joinSegment none op p (s.segAuth op p)]) (inc8 s.axg.reasmDrop) := by
  rw [State.partialOf] at h
  simp only [State.segment, segAuth_partials, h, hc, Bool.false_eq_true, if_false]
  rw [segAuth_frame]
  rfl

/-- The first partial command of its source takes the place of the oldest one where 64 others are held. -/
theorem State.segment_first {s : State} (op : Nat) {p : Pkt} (h : s.partialOf p = none) : s.segment op p =
    if (s.otherPartials p).length < 64 then
      s.withPartials op p (s.otherPartials p ++ [joinSegment none op p (s.segAuth op p)]) s.axg.reasmDrop
    else s.withPartials op p ((s.otherPartials p).drop 1 ++ [joinSegment none op p (s.segAuth op p)]) (inc8 s.axg.reasmDrop) := by
  rw [State.partialOf] at h
  simp only [State.segment, segAuth_partials, h]
  rw [segAuth_frame]
  rfl

theorem joinSegment_source (op : Nat) (p : Pkt) (a : Auth) {old : Option Partial} (h : ∀ o, old = some o → Partial.continues op p o = true) :
    (joinSegment old op p a).srcId = p.srcId ∧ (joinSegment old op p a).op = op ∧ (joinSegment old op p a).tag = p.tag ∧
      (joinSegment old op p a).destId = p.destId := by
  cases old with
  | none => exact ⟨rfl, rfl, rfl, rfl⟩
  | some o =>
    have hc := h o rfl
    rw [Partial.continues, decide_eq_true_eq] at hc
    exact hc

/-- What taking a segment leaves of the partial commands and of their count of drops. -/
def State.segmentKept (s : State) (op : Nat) (p : Pkt) (t : State) : Prop :=
  ∃ x : Partial, x.srcId = p.srcId ∧ x.op = op ∧ x.tag = p.tag ∧ x.destId = p.destId ∧
    t.axg.partials = (if s.partialOf p = none ∧ 64 ≤ (s.otherPartials p).length then (s.otherPartials p).drop 1 else s.otherPartials p) ++ [x] ∧
    (∀ o, s.partialOf p = some o → Partial.continues op p o = true → x.words = o.words ++ p.words ∧ t.axg.reasmDrop = s.axg.reasmDrop) ∧
    (∀ o, s.partialOf p = some o → Partial.continues op p o = false → x.words = p.words ∧ t.axg.reasmDrop = inc8 s.axg.reasmDrop) ∧
    (s.partialOf p = none → x.words = p.words ∧
      t.axg.reasmDrop = if 64 ≤ (s.otherPartials p).length then inc8 s.axg.reasmDrop else s.axg.reasmDrop)

theorem State.segment_kept (s : State) (op : Nat) (p : Pkt) : (s.segment op p).keeps s [.axg] ∧ s.segmentKept op p (s.segment op p) := by
  obtain ⟨hsrc, hop, htag, hdest⟩ := joinSegment_source op p (s.segAuth op p) (old := none) (by simp)
  unfold State.segmentKept
  cases hmine : s.partialOf p with
  | some o =>
    cases hc : Partial.continues op p o with
    | true =>
      obtain ⟨hsrc, hop, htag, hdest⟩ := joinSegment_source op p (s.segAuth op p) (old := some o) (fun _ he => Option.some.inj he ▸ hc)
      rw [s.segment_continued hmine hc]
      exact ⟨s.withPartials_keeps _ _ _ _, _, hsrc, hop, htag, hdest, by simp [State.withPartials],
        fun _ he _ => Option.some.inj he ▸ ⟨rfl, rfl⟩, fun _ he hn => by simp [← Option.some.inj he, hc] at hn, by simp⟩
    | false =>
      rw [s.segment_replaced hmine hc]
      exact ⟨s.withPartials_keeps _ _ _ _, _, hsrc, hop, htag, hdest, by simp [State.withPartials],
        fun _ he hn => by simp [← Option.some.inj he, hc] at hn, fun _ _ _ => ⟨rfl, rfl⟩, by simp⟩
  | none =>
    rw [s.segment_first op hmine]
    split
    next hlt =>
      exact ⟨s.withPartials_keeps _ _ _ _, _, hsrc, hop, htag, hdest, by simp [State.withPartials, hlt], by simp, by simp,
        fun _ => ⟨rfl, by rw [if_neg (by omega)]; rfl⟩⟩
    next hge =>
      exact ⟨s.withPartials_keeps _ _ _ _, _, hsrc, hop, htag, hdest, by simp [State.withPartials, Nat.le_of_not_lt hge], by simp,
        by simp, fun _ => ⟨rfl, by rw [if_pos (by omega)]; rfl⟩⟩

/-! ### The checks of a relay, in their order (R85, R329) -/

theorem State.relayCheck_notManager {s : State} (p : Pkt) (h : s.isMi = false) : s.relayCheck p = .inl (stNotManager, 0) := if_pos h

theorem State.relayCheck_uncovered {s : State} {p : Pkt} (hmi : s.isMi = true) (h : s.inRange p.destId = false ∨ s.childFor p.destId = none) :
    s.relayCheck p = .inl (stUnreach, 1) := by
  rw [State.relayCheck, if_neg (by simp [hmi])]
  split
  · rfl
  next hr =>
    obtain h | h := h
    · exact absurd h hr
    · rw [h]

/-- The checks on a destination that a child covers. -/
theorem State.relayCheck_covered {s : State} {p : Pkt} {k : Nat} {w : Worker} (hmi : s.isMi = true) (hr : s.inRange p.destId = true)
    (hc : s.childFor p.destId = some (k, w)) :
    s.relayCheck p = if w.pres = .absent then .inl (stUnreach, 2) else if p.srcId = 0x3FFFF then .inl (stDenied, 3) else .inr w := by
  rw [State.relayCheck, if_neg (by simp [hmi]), if_neg (by simp [hr]), hc]

/-! ### The relay (R69, R86, R87) -/

/-- The relay record of a command that goes to a child. -/
def State.relayOf (s : State) (op : Nat) (p : Pkt) (w : Worker) : Relay :=
  { tag := p.tag, srcId := p.srcId, child := w.childId, mac := w.mac, back := .carrier (s.plainCtx op p), op := op, destId := p.destId,
    more := p.more }

/-- The state with a packet in band to a child, under a relay record. -/
def State.sentUnder (s : State) (r : Relay) (w : Worker) (pkt : List Word) : State :=
  { s with
    axg := { s.axg with relays := s.axg.relays ++ [r] }
    buf := { s.buf with iqCmd := s.buf.iqCmd ++ (s.linkPackets pkt).map (s.axgFrame w.port w.mac w.tci) } }

theorem State.sendToChild_sentUnder {s : State} (h : s.pairGateOpen = true) (r : Relay) (w : Worker) (pkt : List Word) :
    ({ s with axg := { s.axg with relays := s.axg.relays ++ [r] } }).sendToChild w pkt = s.sentUnder r w pkt := if_pos h

section
variable {s : State} {op : Nat} {p : Pkt} (hnew : s.axg.relays.find? (Relay.continues op p) = none)
include hnew

/-- A command that fails a check is answered at its last packet; until then the reply is owed (R65, R69). -/
theorem State.relayCommand_unsent (htail : s.axg.tails.find? (RelayTail.continues op p) = none) {st d : Nat}
    (hc : s.relayCheck p = .inl (st, d)) : s.relayCommand op p =
      if p.more then
        { s with axg := { s.axg with
          tails := addTail { srcId := p.srcId, op := op, tag := p.tag, destId := p.destId, owed := some (st, d) } s.axg.tails } }
      else s.err (s.plainCtx op p) st d := by
  simp only [State.relayCommand, hnew, htail, hc]

/-- A command that passes them goes to the child under a new record, while the pair's gate is open. -/
theorem State.relayCommand_sent (htail : s.axg.tails.find? (RelayTail.continues op p) = none) {w : Worker}
    (hc : s.relayCheck p = .inr w) (hopen : s.pairGateOpen = true) : s.relayCommand op p = s.sentUnder (s.relayOf op p w) w (relayWords op p) := by
  simp only [State.relayCommand, hnew, htail, hc]
  exact State.sendToChild_sentUnder hopen _ w _

/-- A further segment of a refused command brings the reply that is owed once it is the last. -/
theorem State.relayCommand_refused {x : RelayTail} {st d : Nat} (htail : s.axg.tails.find? (RelayTail.continues op p) = some x)
    (howed : x.owed = some (st, d)) :
    s.relayCommand op p = if p.more then s
      else ({ s with axg := { s.axg with tails := s.axg.tails.erase x } }).err (s.plainCtx op p) st d := by
  simp only [State.relayCommand, hnew, htail, howed]

end

/-! ### The rows -/

theorem exec_axgSegment_of_more {s : State} {op : Nat} {p : Pkt} (hm : p.more = true) (ht : s.takes p.via = true) (hr : s.room op p = true)
    (h : s.relays p = false) : exec (.axgSegment op p) s = .next (s.segment op p) := by
  refine congrArg Host.Outcome.next ?_
  rw [if_pos hm, State.arrives_taken ht hr, State.dispatch_segment op h hm]

theorem exec_axgRelay_of_relays {s : State} {op : Nat} {p : Pkt} (ht : s.takes p.via = true) (hr : s.room op p = true)
    (h : s.relays p = true) : exec (.axgRelay op p) s = .next (s.relayCommand op p) := by
  refine congrArg Host.Outcome.next ?_
  rw [if_pos h, State.arrives_taken ht hr, State.dispatch_relays op h]

/-- Settles O18: a segment by the three ways it is kept, a relayed packet by the checks of R85 in their order. -/
theorem segmentsAndRelay : Obligations.SegmentsAndRelay := by
  refine ⟨fun s op p hm ht hr h => ⟨_, exec_axgSegment_of_more hm ht hr h, s.segment_kept op p⟩, fun s op p hm => ?_,
    fun s op p k w h ht hr hmi hnew htail hin hch hpres hsrc hopen => ?_, fun s op p h ht hr hnew htail => ⟨fun hm => ?_, fun st d hm hc => ?_⟩,
    fun s op p x st d h ht hr hnew htail howed => ?_, fun s op p h => ?_⟩
  · exact congrArg Host.Outcome.next (if_neg (by simp [hm]))
  · have hc := State.relayCheck_covered hmi hin hch
    rw [if_neg hpres, if_neg hsrc] at hc
    rw [exec_axgRelay_of_relays ht hr h, State.relayCommand_sent hnew htail hc hopen]
    rfl
  · have href {st d : Nat} (hc : s.relayCheck p = .inl (st, d)) : exec (.axgRelay op p) s = .next (s.err (s.plainCtx op p) st d) := by
      rw [exec_axgRelay_of_relays ht hr h, State.relayCommand_unsent hnew htail hc, if_neg (by simp [hm])]
    refine ⟨fun hmi => href (State.relayCheck_notManager p hmi), fun hmi hun => href (State.relayCheck_uncovered hmi hun),
      fun k w hmi hin hch hpres => href ?_, fun k w hmi hin hch hpres hsrc => href ?_⟩
    · rw [State.relayCheck_covered hmi hin hch, if_pos hpres]
      rfl
    · rw [State.relayCheck_covered hmi hin hch, if_neg hpres, if_pos hsrc]
      rfl
  · rw [exec_axgRelay_of_relays ht hr h, State.relayCommand_unsent hnew htail hc, if_pos hm]
  · rw [exec_axgRelay_of_relays ht hr h, State.relayCommand_refused hnew htail howed]
  · exact congrArg Host.Outcome.next (if_neg (by simp [h]))

end Sys2Proof.Machine
end

section
/-! The queue of steps (R12, R16, R51, R55, R66), and SYS.IDENT, SYS.AXG_CONFIG, SYS.STATUS and SYS.BOOT_SLOT (R93, R94, R639, R640). -/

namespace Sys2Proof.Machine

open Sys2Proof

/-! ### Every step ends in a next state -/

/-- Each arm of `exec` gives a next state. -/
theorem exec_completes (c : Instr) (s : State) : ∃ t, exec c s = .next t := by
  cases c
  case annealSegmentComplete block errors us => cases block <;> exact ⟨_, rfl⟩
  all_goals exact ⟨_, rfl⟩

theorem step_front {s : State} {c : Instr} {rest : List Instr} (h : s.pending = c :: rest) : step s = exec c { s with pending := rest } := by
  rw [step, h]

theorem step_empty {s : State} (h : s.pending = []) : step s = .next s.clockTick := by
  rw [step, h]

/-- Settles O1: by the front of the queue; that no step stops is a case of each row (log entry 58). -/
theorem queueStep : Obligations.QueueStep := by
  refine ⟨fun c s => step_front rfl, fun s => step_empty, fun s => ?_⟩
  cases h : s.pending with
  | nil => exact ⟨_, step_empty h⟩
  | cons c rest =>
    rw [step_front h]
    exact exec_completes c _

/-! ### SYS.IDENT and SYS.STATUS -/

theorem sysIdent_answers {s : State} {p : Pkt} (h : s.accepts 0x0101 (lenIs 0) p = true) :
    Answers (.sysIdent p) s 0x0101 p (s.accepted 0x0101 p)
      [pack [(16, 0x9632), (12, if s.fused.mi then 1 else 2), (4, 0xB1)], w32 s.hcfg.deviceId, w32 (s.fused.mgtMac / 2 ^ 16),
       pack [(16, s.fused.mgtMac % 2 ^ 16), (0, s.mram.bootEpoch)], w32 s.start.version, pack [(0, lcCode s.mram.lc), (2, s.start.slot)]] := by
  refine answers_of_body rfl h ?_
  simp only [bodySysIdent, State.devIdent, State.isMi, State.devId, State.accepted_fused, State.accepted_hcfg, State.accepted_mram,
    State.accepted_start]

theorem sysStatus_answers {s : State} {p : Pkt} (h : s.accepts 0x0113 (lenIs 0) p = true) :
    ∃ r, Answers (.sysStatus p) s 0x0113 p (s.accepted 0x0113 p) r ∧ r.length = 8 ∧ wd r 6 = w32 s.mram.bootEpoch ∧ wd r 7 = w32 s.mram.runH := by
  refine ⟨_, answers_of_body rfl h rfl, rfl, ?_, ?_⟩
  · rw [← s.accepted_mram 0x0113 p]
    rfl
  · rw [← s.accepted_mram 0x0113 p]
    rfl

/-! ### SYS.AXG_CONFIG -/

/-- The settings of SYS.AXG_CONFIG. -/
def State.withAxgConfig (s : State) (etype mtu : Nat) (authReq inbandEn groupEn : Bool) : State :=
  { s with axg := { s.axg with etype := etype, mtu := mtu, authReq := authReq, inbandEn := inbandEn, groupEn := groupEn } }

theorem State.withAxgConfig_self (s : State) :
    s.withAxgConfig s.axg.etype s.axg.mtu s.axg.authReq s.axg.inbandEn s.axg.groupEn = s := rfl

theorem bodyAxgConfig_write (c : Ctx) {ws : List Word} (s : State) (hw : bit (wd ws 0) 31 = true) :
    bodyAxgConfig c ws s =
      (s.ok c [pack [(31, 1), (0, clampEtype (fld (wd ws 0) 15 0))], w32 (clamp 1500 9000 (fld (wd ws 1) 13 0)),
        pack [(0, (bit (wd ws 2) 0 || decide (s.mram.lc = .operational)).toNat), (1, (bit (wd ws 2) 1).toNat),
          (2, (bit (wd ws 2) 2).toNat)]]).withAxgConfig (clampEtype (fld (wd ws 0) 15 0)) (clamp 1500 9000 (fld (wd ws 1) 13 0))
          (bit (wd ws 2) 0 || decide (s.mram.lc = .operational)) (bit (wd ws 2) 1) (bit (wd ws 2) 2) := by
  simp only [bodyAxgConfig, hw, if_true, Bool.or_assoc, Bool.or_self]
  rfl

theorem bodyAxgConfig_read (s t : State) (op : Nat) (p : Pkt) {ws : List Word} (hw : bit (wd ws 0) 31 = false) :
    bodyAxgConfig (s.ctxOf op p) ws t =
      t.ok (s.ctxOf op p) [pack [(31, 0), (0, t.axg.etype)], w32 t.axg.mtu,
        pack [(0, (t.axg.authReq || decide (t.mram.lc = .operational)).toNat), (1, t.axg.inbandEn.toNat), (2, t.axg.groupEn.toNat)]] := by
  simp only [bodyAxgConfig, hw, Bool.false_eq_true, if_false]
  refine Eq.trans ?_ (State.withAxgConfig_self _)
  rw [State.ok_axg_etype, State.ok_axg_mtu, State.ok_axg_authReq, State.ok_axg_inbandEn, State.ok_axg_groupEn]
  rfl

/-! ### SYS.BOOT_SLOT -/

theorem State.accepted_fwSlot (s : State) (op : Nat) (p : Pkt) (k : Nat) : (s.accepted op p).fwSlot k = s.fwSlot k := by
  rw [State.fwSlot, State.accepted_mram]
  rfl

theorem bodyBootSlot_waits (c : Ctx) {ws : List Word} {s : State} (hw : bit (wd ws 0) 31 = true)
    (hv : fwValid (s.fwSlot (fld (wd ws 0) 0 0)) = true) : bodyBootSlot c ws s =
      (s.hold c (.bootSlot (fld (wd ws 0) 0 0) false)).queueJob 11 110 (.bootSlot (fld (wd ws 0) 0 0)) := if_pos ⟨hw, hv⟩

theorem bodyBootSlot_atOnce (c : Ctx) {ws : List Word} {s : State}
    (h : bit (wd ws 0) 31 = false ∨ fwValid (s.fwSlot (fld (wd ws 0) 0 0)) = false) : bodyBootSlot c ws s = s.ok c s.bootSlotWords := by
  refine if_neg fun ⟨hw, hv⟩ => ?_
  simp [hw, hv] at h

/-- Settles O9: each command by its body, on the state that acceptance leaves. -/
theorem sysCommands : Obligations.SysCommands := by
  refine ⟨fun s p h => sysIdent_answers h, fun s p h hw => ?_, fun s p h hw => ?_, fun s p h => sysStatus_answers h, fun s p h hw hv => ?_,
    fun s p h hn => ?_⟩
  · refine congrArg Host.Outcome.next ((receive_accepted bodyAxgConfig h).trans ?_)
    rw [bodyAxgConfig_write _ _ hw, State.accepted_mram]
    rfl
  · refine answers_of_body rfl h ((bodyAxgConfig_read s _ _ _ hw).trans ?_)
    rw [State.accepted_mram]
  · refine congrArg Host.Outcome.next ((receive_accepted bodyBootSlot h).trans (bodyBootSlot_waits _ hw ?_))
    rwa [State.accepted_fwSlot]
  · refine ⟨_, answers_of_body rfl h (bodyBootSlot_atOnce _ ?_), rfl⟩
    rwa [State.accepted_fwSlot]

end Sys2Proof.Machine
end

section
/-! The doorbells of the rings (R75, R76, R78, R445) and the SPI port (R79-R81, R663). -/

namespace Sys2Proof.Machine

open Sys2Proof

/-! ### What a carrier delivers is taken -/

/-- A packet of the host over PCIe or SPI comes while the part runs with firmware or the boot ROM. -/
theorem State.takes_pcie {s : State} (hup : s.start.pcieUp = true) (hrun : s.start.power = .run)
    (hm : s.start.mpi = .up ∨ s.start.mpi = .recovery) : s.takes .pcie = true := by
  obtain hm | hm := hm <;> simp [State.takes, hrun, hm, hup]

theorem State.mpiUp_of_takes_spi {s : State} (h : s.takes .spi = true) : s.mpiUp = true := by
  unfold State.takes at h
  split at h <;> simp_all [State.mpiUp]

theorem State.mpiOn_of_serving {s : State} (hm : s.start.mpi = .up ∨ s.start.mpi = .recovery) : s.mpiOn = true := by
  obtain hm | hm := hm <;> simp [State.mpiOn, hm]

/-! ### One slot of the command ring -/

/-- The state with the fetched words of the slots up to a producer index. -/
def State.fetched (s : State) (pi : Nat) (ws : List Word) : State :=
  { s with axg := { s.axg with cmdPi := pi % 2 ^ s.axg.cringSize, cmdRing := ws } }

theorem cmdPiWrite_oneSlot {s : State} {pi : Nat} {ws : List Word} (hup : s.start.pcieUp = true) (hrun : s.start.power = .run)
    (hm : s.start.mpi = .up ∨ s.start.mpi = .recovery) (hring : s.axg.cmdRing = []) (hslot : s.slotsTo pi = 1) (hlen : ws.length = 16) :
    cmdPiWrite pi ws s = State.drainRing 1 (s.fetched pi ws) := by
  have hwords : ((ws ++ List.replicate (16 * 1 - ws.length) 0).take (16 * 1)) = ws := by simp [hlen]
  rw [cmdPiWrite, if_neg (by simp [hup, hrun, State.mpiOn_of_serving hm]), hring, List.nil_append, State.fetchRing]
  simp only [hslot, hwords]
  rw [State.serveRing]
  simp only [hlen]
  rfl

section
variable {s : State} (ht : s.takes .pcie = true) (hne : s.axg.cmdRing ≠ []) (h0 : wd s.axg.cmdRing 0 ≠ 0)
include ht hne h0

/-- A packet leaves the ring for its opcode once there is room for it. -/
theorem drainRing_cmd {op : Nat} {p : Pkt} (hp : parsePacket .pcie (s.axg.cmdRing.take (State.pktWords s.axg.cmdRing)) = .cmd op p) :
    State.drainRing 1 s =
      if s.room op p then (s.consumeSlots (ceilDiv (4 * State.pktWords s.axg.cmdRing) 64)).dispatch op p else s := by
  rw [State.drainRing]
  dsimp only
  rw [if_neg (not_or.mpr ⟨hne, by simp [ht]⟩), if_neg h0, hp]
  rfl

/-- A header that is none costs its slot, and is counted. -/
theorem drainRing_badHdr (hp : parsePacket .pcie (s.axg.cmdRing.take (State.pktWords s.axg.cmdRing)) = .badHdr) :
    State.drainRing 1 s = s.countBadHdr.consumeSlots 1 := by
  rw [State.drainRing]
  dsimp only
  rw [if_neg (not_or.mpr ⟨hne, by simp [ht]⟩), if_neg h0, hp]
  rfl

end

theorem State.four_le_pktWords (ws : List Word) : 4 ≤ State.pktWords ws := by
  unfold State.pktWords
  omega

theorem ceilDiv_oneSlot {ws : List Word} (h : State.pktWords ws ≤ 16) : ceilDiv (4 * State.pktWords ws) 64 = 1 := by
  have h4 := State.four_le_pktWords ws
  unfold ceilDiv
  omega

theorem wd_take_zero (ws : List Word) {n : Nat} (hn : 0 < n) : wd (ws.take n) 0 = wd ws 0 := by
  cases ws with
  | nil => simp
  | cons a t => obtain ⟨m, rfl⟩ := Nat.exists_eq_add_of_lt hn; simp [wd]

/-- Words whose first has another magic are no AXG packet (R55). -/
theorem parsePacket_badHdr (via : Via) {ws : List Word} (hne : ws ≠ []) (h : fld (wd ws 0) 31 24 ≠ 0xA7) : parsePacket via ws = .badHdr := by
  rw [parsePacket, if_neg hne, if_pos (Or.inl h)]

theorem cmdPi_cmd {s : State} {pi op : Nat} {ws : List Word} {p : Pkt} (hup : s.start.pcieUp = true) (hrun : s.start.power = .run)
    (hm : s.start.mpi = .up ∨ s.start.mpi = .recovery) (hring : s.axg.cmdRing = []) (hslot : s.slotsTo pi = 1) (hlen : ws.length = 16)
    (h0 : wd ws 0 ≠ 0) (hfit : State.pktWords ws ≤ 16) (hp : parsePacket .pcie (ws.take (State.pktWords ws)) = .cmd op p) :
    exec (.cmdPi pi ws) s =
      .next (if s.room op p then ((s.fetched pi ws).consumeSlots 1).dispatch op p else s.fetched pi ws) := by
  have hne : ws ≠ [] := List.ne_nil_of_length_pos (by omega)
  have hdrain := drainRing_cmd (s := s.fetched pi ws) (State.takes_pcie hup hrun hm) hne h0 hp
  refine congrArg Host.Outcome.next ((cmdPiWrite_oneSlot hup hrun hm hring hslot hlen).trans (hdrain.trans ?_))
  rw [show ceilDiv (4 * State.pktWords (s.fetched pi ws).axg.cmdRing) 64 = 1 from ceilDiv_oneSlot hfit]
  rfl

theorem cmdPi_badHdr {s : State} {pi : Nat} {ws : List Word} (hup : s.start.pcieUp = true) (hrun : s.start.power = .run)
    (hm : s.start.mpi = .up) (hring : s.axg.cmdRing = []) (hslot : s.slotsTo pi = 1) (hlen : ws.length = 16)
    (hmagic : fld (wd ws 0) 31 24 ≠ 0xA7) (h0 : wd ws 0 ≠ 0) :
    exec (.cmdPi pi ws) s = .next ((s.fetched pi ws).countBadHdr.consumeSlots 1) := by
  have h4 := State.four_le_pktWords ws
  have hne : ws ≠ [] := List.ne_nil_of_length_pos (by omega)
  have hbad : parsePacket .pcie (ws.take (State.pktWords ws)) = .badHdr :=
    parsePacket_badHdr _ (List.ne_nil_of_length_pos (by rw [List.length_take]; omega)) (by rwa [wd_take_zero ws (by omega)])
  exact congrArg Host.Outcome.next ((cmdPiWrite_oneSlot hup hrun (.inl hm) hring hslot hlen).trans
    (drainRing_badHdr (s := s.fetched pi ws) (State.takes_pcie hup hrun (.inl hm)) hne h0 hbad))

/-! ### The SPI port -/

/-- The one packet of the SPI command buffer is taken. -/
theorem drainSpi_cmd {s : State} {ws : List Word} {op : Nat} {p : Pkt} (hbuf : s.axg.spiBuf = [ws]) (ht : s.takes .spi = true)
    (hr : s.room op p = true) (hp : parsePacket .spi ws = .cmd op p) :
    State.drainSpi 1 s = ({ s with axg := { s.axg with spiBuf := [] } }).dispatch op p := by
  rw [State.drainSpi, hbuf]
  dsimp only
  rw [if_neg (by simp [State.mpiUp_of_takes_spi ht]), hp]
  exact if_pos ⟨ht, hr⟩

theorem spiPut_cmd {s : State} {ws : List Word} {op : Nat} {p : Pkt} (ha : s.spiAnswers = true) (hspace : s.cmdSpace = true)
    (hbuf : s.axg.spiBuf = []) (ht : s.takes .spi = true)
    (hp : parsePacket .spi (ws.take (max 4 (State.pktWords ws))) = .cmd op p) (hr : s.room op p = true) :
    exec (.spiPut ws) s = .next (s.dispatch op p) := by
  have hs : ({ s with axg := { s.axg with spiBuf := [] } } : State) = s := by rw [← hbuf]
  refine congrArg Host.Outcome.next ?_
  rw [spiPut, if_neg (by simp [ha]), if_neg (by simp [hspace]), hbuf]
  let t : State := { s with axg := { s.axg with spiBuf := [ws.take (max 4 (State.pktWords ws))] } }
  exact (drainSpi_cmd (s := t) rfl ht hr hp).trans (congrArg (State.dispatch · op p) hs)

theorem spiGet_nil {s : State} (d : Bool) (ha : s.spiAnswers = true) (hq : s.axg.spiQ = []) : spiGet d s = s.emit (.read [0]) := by
  rw [spiGet, if_pos ha, hq]

theorem spiGet_cons {s : State} {pkt : List Word} {t : List (List Word)} (d : Bool) (ha : s.spiAnswers = true) (hq : s.axg.spiQ = pkt :: t) :
    spiGet d s = ({ s with axg := { s.axg with spiQ := if d then t else pkt :: t } }).emit (.read pkt) := by
  rw [spiGet, if_pos ha, hq]

/-- Settles O19: a doorbell with one slot by what the slot holds, the SPI port by whether it answers. -/
theorem doorbellsAndSpi : Obligations.DoorbellsAndSpi := by
  refine ⟨fun s pi ws op p hup hrun hm hring hslot hlen h0 hfit hp => cmdPi_cmd hup hrun hm hring hslot hlen h0 hfit hp,
    fun s pi ws hup hrun hm hring hslot hlen hmagic h0 => (cmdPi_badHdr hup hrun hm hring hslot hlen hmagic h0).trans ?_,
    fun s v hup hwait => ?_, fun s v hup => ⟨?_, ?_⟩, fun s v ws hup => ⟨?_, ?_, ?_, ?_⟩, fun s ha => ?_, fun s pkt t ha hq => ⟨?_, ?_⟩,
    fun s d ha hq => ?_, fun s ws ha hspace => ?_, fun s ws op p ha hspace hbuf ht hp hr => spiPut_cmd ha hspace hbuf ht hp hr,
    fun s ws d ha => ⟨?_, ?_, ?_⟩⟩
  · have hrest : ws.drop (16 * 1) = [] := List.drop_eq_nil_of_le (by omega)
    simp only [State.consumeSlots, State.countBadHdr, State.fetched, hrest]
  · refine congrArg Host.Outcome.next ((if_pos hup).trans ?_)
    rw [State.drainReplies]
    simp only [hwait]
    rfl
  · exact congrArg Host.Outcome.next (if_pos hup)
  · exact congrArg Host.Outcome.next (if_pos hup)
  · exact congrArg Host.Outcome.next (if_pos (.inl hup))
  · exact congrArg Host.Outcome.next (if_neg (by simp [hup]))
  · exact congrArg Host.Outcome.next (if_neg (by simp [hup]))
  · exact congrArg Host.Outcome.next (if_neg (by simp [hup]))
  · exact congrArg Host.Outcome.next (if_pos ha)
  · exact congrArg Host.Outcome.next (spiGet_cons true ha hq)
  · refine congrArg Host.Outcome.next ((spiGet_cons false ha hq).trans ?_)
    rw [if_neg (by simp), ← hq]
    rfl
  · exact congrArg Host.Outcome.next (spiGet_nil d ha hq)
  · refine congrArg Host.Outcome.next ?_
    rw [spiPut, if_neg (by simp [ha]), if_pos hspace]
  · exact congrArg Host.Outcome.next (if_pos ha)
  · exact congrArg Host.Outcome.next (if_neg (by simp [ha]))
  · exact congrArg Host.Outcome.next (if_neg (by simp [ha]))

end Sys2Proof.Machine
end

section
/-! HIER.BROADCAST to all children (R88, R89, R330). -/

namespace Sys2Proof.Machine

open Sys2Proof

/-! ### A broadcast among the ones under way -/

/-- The state with a new broadcast as the only one under way. -/
def State.withBcast (s : State) (b : Bcast) : State :=
  { s with hier := { s.hier with nextBcast := s.hier.nextBcast + 1, bcasts := [(s.hier.nextBcast, b)] } }

/-- The state after a broadcast that was the only one under way. -/
def State.bcastDone (s : State) : State := { s with hier := { s.hier with nextBcast := s.hier.nextBcast + 1 } }

/-- The broadcast of a packet to every child (R88). -/
def bcastAll (c : Ctx) (ws : List Word) (targets : List Nat) : Bcast :=
  { ctx := c, collect := bit (wd ws 0) 31, recurse := bit (wd ws 0) 30, targets := targets, waiting := targets, nTargets := targets.length,
    unsent := targets, packet := ws.drop 1, tag := c.tag, srcId := c.srcId }

/-- COUNT 0 asks for every child. -/
theorem bodyBroadcast_all (c : Ctx) {ws : List Word} {s : State} (hn : fld (wd ws 0) 15 0 = 0) (hb : s.hier.bcasts = []) :
    bodyBroadcast c ws s =
      ((((s.withBcast (bcastAll c ws (s.workers.map (fun e => e.2.childId)))).bcastAtOnce s.hier.nextBcast
        (s.workers.map (fun e => e.2.childId)))).pump).bcastEnd s.hier.nextBcast := by
  simp only [bodyBroadcast, hn, hb, if_true]
  rfl

theorem State.find?_withBcast (s : State) (b : Bcast) : Tab.find? (s.withBcast b).hier.bcasts s.hier.nextBcast = some b := by
  simp [State.withBcast, Tab.find?]

theorem State.insert_withBcast (s : State) (b x : Bcast) :
    Tab.insert (s.withBcast b).hier.bcasts s.hier.nextBcast x = (s.withBcast x).hier.bcasts := by
  simp [State.withBcast, Tab.insert]

/-- A broadcast whose targets have completed replies with its summary, and with what it collected. -/
theorem State.bcastEnd_done (s : State) {b : Bcast} (hb : s.hier.bcasts = []) (hw : b.waiting = []) (hr : b.replies = []) :
    (s.withBcast b).bcastEnd s.hier.nextBcast = s.bcastDone.ok b.ctx (State.bcastReply b) := by
  have herase : Tab.erase (s.withBcast b).hier.bcasts s.hier.nextBcast = s.hier.bcasts := by simp [State.withBcast, Tab.erase, hb]
  rw [State.bcastEnd, s.find?_withBcast]
  dsimp only
  rw [if_pos (by simp [hw]), herase, hr, ite_self]
  rfl

theorem State.bcastEnd_waits {s : State} {id : Nat} {b : Bcast} (hf : Tab.find? s.hier.bcasts id = some b) (hw : b.waiting ≠ []) :
    s.bcastEnd id = s := by
  rw [State.bcastEnd, hf]
  exact if_neg (by simpa using hw)

theorem State.bcastEnd_none {s : State} (id : Nat) (hb : s.hier.bcasts = []) : s.bcastEnd id = s := by
  rw [State.bcastEnd, hb]
  rfl

/-- Without a target that waits for a record, nothing leaves. -/
theorem State.pump_none {s : State} (h : ∀ e ∈ s.hier.bcasts, e.2.unsent = []) : s.pump = s := by
  have hsum : (s.hier.bcasts.map (fun e => e.2.unsent.length)).sum = 0 := by
    simp only [List.sum_eq_zero_iff, List.mem_map]
    rintro n ⟨e, he, rfl⟩
    simp [h e he]
  rw [State.pump, hsum]
  rfl

/-- The relay record of a broadcast's target. -/
def bcastRecord (id : Nat) (b : Bcast) (w : Worker) : Relay :=
  { tag := (State.bcastPacket b w).2.1, srcId := (State.bcastPacket b w).2.2, child := w.childId, mac := w.mac, back := .broadcast id }

/-- A target that is not ABSENT gets the packet under a relay record. -/
theorem State.bcastSend_present {s : State} {k : Nat} {w : Worker} (hc : s.childOf w.childId = some (k, w)) (hp : w.pres ≠ .absent)
    (hopen : s.pairGateOpen = true) (id : Nat) (b : Bcast) (rest : List Nat) : s.bcastSend id b w.childId rest =
      ({ s with hier := { s.hier with bcasts := Tab.insert s.hier.bcasts id { b with unsent := rest } } }).sentUnder
        (bcastRecord id b w) w (State.bcastPacket b w).1 := by
  rcases hpkt : State.bcastPacket b w with ⟨pkt, tag, src⟩
  rw [State.childOf] at hc
  simp only [State.bcastSend, State.childOf, hc, hp, if_false, hpkt, bcastRecord]
  exact if_pos hopen

/-! ### The forms with no child and with one child -/

theorem Completed.hier {s t : State} (h : Completed t s) : t.hier = s.hier := by
  obtain ⟨_, _, _, _, _, _, _, _, _, _, rfl⟩ := h
  rfl

/-- A reply leaves no broadcast where there was none. -/
theorem State.bcastEnd_pump_ok {s : State} (c : Ctx) (ws : List Word) (id : Nat) (hb : s.hier.bcasts = []) :
    (s.ok c ws).pump.bcastEnd id = s.ok c ws := by
  have hnone : (s.ok c ws).hier.bcasts = [] := (congrArg Hier.bcasts (s.complete_completed c _).hier).trans hb
  rw [State.pump_none (by simp [hnone]), State.bcastEnd_none id hnone]

/-- A target that completes without a reply of its own. -/
def bcastFailed (b : Bcast) (child detail : Nat) : Bcast :=
  { State.Bcast.note b child stUnreach detail with waiting := b.waiting.erase child, unsent := b.unsent.erase child }

theorem State.bcastFail_withBcast (s : State) (b : Bcast) (child detail : Nat) :
    (s.withBcast b).bcastFail s.hier.nextBcast child detail = (s.withBcast (bcastFailed b child detail)).bcastEnd s.hier.nextBcast := by
  rw [State.bcastFail, s.find?_withBcast]
  dsimp only
  rw [s.insert_withBcast]
  rfl

/-! ### The forms with no child and with one child -/

theorem bcastReply_noTarget (c : Ctx) (ws : List Word) : State.bcastReply (bcastAll c ws []) = [0, 0] := by
  simp [State.bcastReply, bcastAll, pack, w32]

theorem bodyBroadcast_noChild (c : Ctx) {ws : List Word} {s : State} (hn : fld (wd ws 0) 15 0 = 0) (hb : s.hier.bcasts = [])
    (hw : s.workers = []) : bodyBroadcast c ws s = s.bcastDone.ok c [0, 0] := by
  have hall := bodyBroadcast_all c hn hb
  simp only [hw, List.map_nil] at hall
  have hpump : (s.withBcast (bcastAll c ws [])).pump = s.withBcast (bcastAll c ws []) := State.pump_none (by simp [State.withBcast, bcastAll])
  calc bodyBroadcast c ws s
      = (s.withBcast (bcastAll c ws [])).pump.bcastEnd s.hier.nextBcast := hall
    _ = (s.withBcast (bcastAll c ws [])).bcastEnd s.hier.nextBcast := by rw [hpump]
    _ = s.bcastDone.ok c (State.bcastReply (bcastAll c ws [])) := s.bcastEnd_done hb rfl rfl
    _ = s.bcastDone.ok c [0, 0] := by rw [bcastReply_noTarget]

section
variable {s : State} {k : Nat} {w : Worker} (hw : s.workers = [(k, w)]) (c : Ctx) {ws : List Word} (hn : fld (wd ws 0) 15 0 = 0)
  (hb : s.hier.bcasts = [])
include hw

theorem State.childOf_only : s.childOf w.childId = some (k, w) := by
  simp [State.childOf, hw]

include hn hb

theorem bodyBroadcast_oneChild : bodyBroadcast c ws s =
    ((s.withBcast (bcastAll c ws [w.childId])).bcastAtOnce s.hier.nextBcast [w.childId]).pump.bcastEnd s.hier.nextBcast := by
  have hall := bodyBroadcast_all c hn hb
  simpa only [hw, List.map_cons, List.map_nil] using hall

theorem bodyBroadcast_absent (ha : w.pres = .absent) : bodyBroadcast c ws s = s.bcastDone.ok c
    [pack [(16, 0), (0, 1)], pack [(16, 1), (0, 0)], w32 w.childId, pack [(16, 0x0040), (0, 2)]] := by
  let b := bcastAll c ws [w.childId]
  have hc : (s.withBcast b).childOf w.childId = some (k, w) := State.childOf_only hw
  have honce : (s.withBcast b).bcastAtOnce s.hier.nextBcast [w.childId] = (s.withBcast b).bcastFail s.hier.nextBcast w.childId 2 := by
    simp only [State.bcastAtOnce, List.foldl_cons, List.foldl_nil, hc, ha, if_true]
  have hnone : [w.childId].erase w.childId = [] := by simp
  have hend : (s.withBcast (bcastFailed b w.childId 2)).bcastEnd s.hier.nextBcast =
      s.bcastDone.ok c (State.bcastReply (bcastFailed b w.childId 2)) := s.bcastEnd_done hb hnone rfl
  rw [bodyBroadcast_oneChild hw c hn hb, honce, State.bcastFail_withBcast, hend]
  exact State.bcastEnd_pump_ok (s := s.bcastDone) c _ _ hb

/-- The broadcast to one child while it waits for the child's reply. -/
def bcastWaits (c : Ctx) (ws : List Word) (child : Nat) : Bcast := { bcastAll c ws [child] with unsent := [] }

/-- One child that is not ABSENT gets the packet under a relay record, and the broadcast waits for it. -/
theorem bodyBroadcast_present (hp : w.pres ≠ .absent) (hr : s.axg.relays.length < 1024) (hopen : s.pairGateOpen = true) :
    bodyBroadcast c ws s =
      (s.withBcast (bcastWaits c ws w.childId)).sentUnder (bcastRecord s.hier.nextBcast (bcastAll c ws [w.childId]) w) w
        (State.bcastPacket (bcastAll c ws [w.childId]) w).1 := by
  let b := bcastAll c ws [w.childId]
  have hc : (s.withBcast b).childOf w.childId = some (k, w) := State.childOf_only hw
  have honce : (s.withBcast b).bcastAtOnce s.hier.nextBcast [w.childId] = s.withBcast b := by
    simp only [State.bcastAtOnce, List.foldl_cons, List.foldl_nil, hc, hp, if_false]
  have hpump : (s.withBcast b).pump = (s.withBcast b).bcastSend s.hier.nextBcast b w.childId [] := by
    simp [State.pump, pumpBcasts, State.withBcast, b, bcastAll, Nat.not_le.mpr hr]
  rw [bodyBroadcast_oneChild hw c hn hb, honce, hpump, State.bcastSend_present hc hp hopen, s.insert_withBcast]
  exact State.bcastEnd_waits (s.find?_withBcast (bcastWaits c ws w.childId)) (List.cons_ne_nil _ _)

end

end Sys2Proof.Machine
end

section
/-! Closure runs and their probes (R331, R332, R334, R348). -/

namespace Sys2Proof.Machine

open Sys2Proof

/-! ### HIER.CLOSURE -/

/-- No HIER.CLOSURE waits (R334). -/
def State.noClosure (s : State) : Prop :=
  s.axg.jobs.all (fun j => match j.work with | .closure _ => false | _ => true) = true

theorem State.noClosure_of_mem {s : State} (h : s.noClosure) {j : Job} (hj : j ∈ s.axg.jobs) (ws : List Word) : j.work ≠ .closure ws := by
  intro hw
  have hall := List.all_eq_true.mp h j hj
  simp [hw] at hall

/-- A test that only a HIER.CLOSURE meets finds none. -/
theorem State.findJob_noClosure {s : State} (h : s.noClosure) {p : Work → Bool} (hp : ∀ w, (∀ ws, w ≠ .closure ws) → p w = false) :
    s.findJob p = none :=
  List.find?_eq_none.mpr fun _ hj => by simp [hp _ (State.noClosure_of_mem h hj)]

/-- It finds the one that is held. -/
theorem State.findJob_hold {s : State} (h : s.noClosure) {p : Work → Bool} (hp : ∀ w, (∀ ws, w ≠ .closure ws) → p w = false) (c : Ctx)
    {ws : List Word} (hw : p (.closure ws) = true) : (s.hold c (.closure ws)).findJob p = some { ctx := c, work := .closure ws } := by
  refine List.find?_append.trans ?_
  rw [show List.find? _ s.axg.jobs = none from State.findJob_noClosure h hp]
  simp [hw]

theorem startClosures_none {s : State} (h : s.noClosure) (n : Nat) : startClosures n s = s := by
  cases n with
  | zero => rfl
  | succ n =>
    rw [startClosures, State.findJob_noClosure h]
    · exact ite_self s
    · intro w hw
      split
      · exact absurd rfl (hw _)
      · rfl

/-- A HIER.CLOSURE that alone waits, while no run is in progress, begins its run or is rejected. -/
theorem bodyClosure_eq (c : Ctx) (ws : List Word) {s : State} (hc : s.hier.closure = none) (h : s.noClosure) :
    bodyClosure c ws s =
      if s.closureReady (closureOf c ws) then
        { s.dropRings (closureOf c ws) with hier := { (s.dropRings (closureOf c ws)).hier with closure := some (closureOf c ws) } }
      else startClosures s.axg.jobs.length (s.replyRejected (closureOf c ws) 1 none) := by
  have hlen : (s.hold c (.closure ws)).axg.jobs.length = s.axg.jobs.length + 1 := by simp [State.hold]
  have hnone : ¬((s.hold c (.closure ws)).hier.closure.isSome = true) := by simp [State.hold, hc]
  have herase : (s.axg.jobs ++ [Job.mk c (.closure ws)]).erase (Job.mk c (.closure ws)) = s.axg.jobs := by
    rw [List.erase_append_right _ (fun hj => State.noClosure_of_mem h hj ws rfl)]
    simp
  rw [bodyClosure, State.nextClosure, hlen, startClosures, if_neg hnone, State.findJob_hold h]
  · simp only [State.hold, herase]
  · intro w hw
    split
    · exact absurd rfl (hw _)
    · rfl
  · rfl

theorem State.dropRings_none {s : State} (r : Closure) (h : s.hier.rings = []) :
    s.dropRings r = { s with mram := { s.mram with rings := [] } } := by
  have hkeep (t : Tab (Int × Nat)) : Tab.keep (fun p _ => !(([] : List Nat).contains p)) t = t := by simp [Tab.keep]
  have hhier : ({ s.hier with rings := [] } : Hier) = s.hier := by rw [← h]
  simp only [State.dropRings, State.setRings, h, List.filter_nil, List.map_nil, List.flatMap_nil, List.foldl_nil, hkeep, hhier]

theorem bodyClosure_runs (c : Ctx) (ws : List Word) {s : State} (hc : s.hier.closure = none) (h : s.noClosure)
    (hready : s.closureReady (closureOf c ws) = true) (hr : s.hier.rings = []) : bodyClosure c ws s =
      { s with hier := { s.hier with closure := some (closureOf c ws) }, mram := { s.mram with rings := [] } } := by
  rw [bodyClosure_eq c ws hc h, if_pos hready, State.dropRings_none _ hr]

theorem State.replyRejected_drawn (s : State) (c : Ctx) (ws : List Word) :
    s.replyRejected (closureOf c ws) 1 none = State.complete { s with free := s.free + 2 } c {
      status := stRejected, detail := 1
      words := closureWords (closureOf c ws).ring (closureOf c ws).links.length (s.ringGen (closureOf c ws).ring) (Config.freeInt s.free)
        (Config.freeInt (s.free + 1)) 0 0 (s.storedRes (closureOf c ws).ring (closureOf c ws).links.length) } := rfl

theorem bodyClosure_rejected {c : Ctx} (ws : List Word) {s : State} (hm : c.mirrored = false) (hc : s.hier.closure = none) (h : s.noClosure)
    (hready : s.closureReady (closureOf c ws) = false) : bodyClosure c ws s = s.replyRejected (closureOf c ws) 1 none := by
  have hjobs : (s.replyRejected (closureOf c ws) 1 none).noClosure := by
    rw [State.replyRejected_drawn]
    obtain ⟨_, _, _, _, _, _, _, _, _, _, _, hs, -⟩ := State.complete_replied { s with free := s.free + 2 } (c := c) _ hm
    rw [hs]
    exact h
  rw [bodyClosure_eq c ws hc h, if_neg (by simp [hready]), startClosures_none hjobs]

/-! ### Probes -/

/-- The port a run's probes leave by in a direction. -/
def Closure.probePort (r : Closure) (ccw : Bool) : Nat :=
  if ccw then (r.links.getLast?.map Link.inPort).getD 0 else (r.links.head?.map Link.outPort).getD 0

/-- Probes sent in a direction. -/
def Closure.sentIn (r : Closure) (ccw : Bool) : Nat := if ccw then r.sentCcw else r.sentCw

/-- The run with one more probe under way. -/
def Closure.probed (r : Closure) (ccw : Bool) : Closure :=
  { r with
    seq := (r.seq + 1) % 65536, sentCw := r.sentCw + (!ccw).toNat, sentCcw := r.sentCcw + ccw.toNat
    flying := (r.seq, ccw.toNat, none) :: r.flying.filter (fun f => decide (f.1 ≠ r.seq)) }

/-- The probe's frame as IQ_TIME takes it. -/
def State.probeIns (s : State) (r : Closure) (ccw : Bool) : Ins :=
  { bytes := s.probeFrame r.domain (r.probePort ccw) r.seq, port := r.probePort ccw, cls := 7, mark := .probe ccw.toNat }

theorem closureProbeSend_idle {s : State} (ccw : Bool) (h : s.hier.closure = none ∨ s.tpUp = false) : closureProbeSend ccw s = s := by
  unfold closureProbeSend
  split
  · rfl
  next r hr =>
    obtain h | h := h
    · rw [h] at hr
      cases hr
    · exact if_pos h

theorem closureProbeSend_sends {s : State} (ccw : Bool) {r : Closure} (hr : s.hier.closure = some r) (hup : s.tpUp = true)
    (hready : s.closureReady r = true) (hroom : s.buf.iqTime.length < 2048) (hlt : r.sentIn ccw < 4 * r.probes) :
    closureProbeSend ccw s =
      { s with
        hier := { s.hier with closure := some (r.probed ccw) }
        buf := { s.buf with iqTime := s.buf.iqTime ++ [s.probeIns r ccw] } } := by
  have hmore : ¬(4 * r.probes ≤ r.sentIn ccw ∧ (if ccw then r.sumCcw.length else r.sumCw.length) < r.probes) := by omega
  rw [closureProbeSend, hr]
  dsimp only
  rw [if_neg (by simp [hup]), if_neg (by simp [hready])]
  refine (if_neg hmore).trans ?_
  rw [State.iqTimePut]
  exact congrArg (Option.getD · _) (if_pos hroom)

/-! ### What consuming a punted frame can change -/

/-- The buffer and the counters. -/
def Consumed (t s : State) : Prop := ∃ buf cnt, t = { s with buf := buf, cnt := cnt }

theorem Consumed.refl (s : State) : Consumed s s := ⟨_, _, rfl⟩

theorem Consumed.trans {s t u : State} (h : Consumed u t) (k : Consumed t s) : Consumed u s := by
  obtain ⟨_, _, rfl⟩ := k
  obtain ⟨_, _, rfl⟩ := h
  exact ⟨_, _, rfl⟩

theorem State.event_consumed (s : State) (ev inst q w : Nat) : Consumed (s.event ev inst q w) s := by
  unfold State.event
  split
  · exact .refl s
  · exact ⟨_, _, rfl⟩

theorem State.segFate_consumed (s : State) (p n : Nat) (delivered : Bool) (cause : Nat) : Consumed (s.segFate p n delivered cause) s := by
  unfold State.segFate
  dsimp only
  split
  · exact ⟨_, _, rfl⟩
  · exact (State.event_consumed _ _ _ _ _).trans ⟨_, _, rfl⟩

theorem State.finish_consumed (s : State) (id cause : Nat) : Consumed (s.finish id cause) s := by
  unfold State.finish
  split
  · exact .refl s
  split
  · exact .refl s
  next f _ _ =>
    extract_lets c t
    have hsegs : Consumed t s :=
      List.foldlRecOn (motive := fun u => Consumed u s) _ _ (.refl s) (fun u hu e _ => (u.segFate_consumed _ _ _ _).trans hu)
    split
    · exact Consumed.trans ⟨_, _, rfl⟩ hsegs
    · exact Consumed.trans ⟨_, _, rfl⟩ hsegs

theorem State.consume_consumed (s : State) (x : PuntItem) : Consumed (s.consume x) s :=
  (State.finish_consumed _ _ _).trans ⟨_, _, rfl⟩

theorem Consumed.hier {s t : State} (h : Consumed t s) : t.hier = s.hier := by
  obtain ⟨_, _, rfl⟩ := h
  rfl

theorem Consumed.latOf {s t : State} (h : Consumed t s) (sid : Nat) (ing : Bool) : t.latOf sid ing = s.latOf sid ing := by
  obtain ⟨_, _, rfl⟩ := h
  rfl

/-! ### A probe's return -/

theorem closureProbeReturn_none {s : State} (h : s.buf.punted = []) : closureProbeReturn s = s := by
  simp [closureProbeReturn, State.puntHead, State.puntItems, h]

/-- The run in progress goes on while a direction lacks loop sums. -/
theorem State.tryFinish_short {s : State} {r : Closure} (hr : s.hier.closure = some r) (h : r.sumCcw.length < r.probes) : s.tryFinish = s := by
  have hc : r.complete = false := by simp [Closure.complete, Nat.not_le.mpr h]
  rw [State.tryFinish, hr]
  exact if_pos hc

/-- The run with the loop sum of a clockwise probe. -/
def Closure.returnedCw (r : Closure) (seq : Nat) (sum : Int) : Closure :=
  { r with flying := r.flying.filter (fun x => decide (x.1 ≠ seq)), sumCw := sum :: r.sumCw }

/-- The loop sum of a clockwise probe: its time on the ring less the latencies of its two ends and its corrections (R332). -/
def State.loopSumCw (s : State) (r : Closure) (f : Frame) (m : Msg) (tx : Int) : Int :=
  (f.rx.frac 0 - s.latOf ((r.links.getLast?.map Link.sid).getD 0) true) - (tx + s.latOf r.mgrSid false) - 4 * m.corr

theorem closureProbeReturn_cw {s : State} {it : PuntItem} {f : Frame} {tr q : Nat} {m : Msg} {r : Closure} {tx : Int}
    (hr : s.hier.closure = some r) (hhead : s.puntHead 0 s.isReturn = some (it, f)) (hfcs : f.badFcs = false)
    (hmsg : s.frameMsg f = some (tr, m)) (hfly : r.flying.find? (fun x => decide (x.1 = m.seq)) = some (q, 0, some tx))
    (hshort : r.sumCcw.length < r.probes) : closureProbeReturn s =
      { s.consume it with hier := { s.hier with closure := some (r.returnedCw q (s.loopSumCw r f m tx)) } } := by
  have hcons := s.consume_consumed it
  rw [closureProbeReturn, hhead]
  dsimp only
  rw [if_neg (by simp [hfcs]), hmsg, hr]
  dsimp only
  rw [hfly]
  simp only [if_true, hcons.hier, hcons.latOf]
  exact State.tryFinish_short rfl hshort

/-! ### The obligation -/

theorem hierBroadcast_waits {s : State} {p : Pkt} (hacc : s.accepts 0x0D05 lenBroadcast p = true) (hn : fld (wd p.words 0) 15 0 = 0)
    (hb : s.hier.bcasts = []) (hr : s.axg.relays.length < 1024) {k : Nat} {w : Worker} (hw : s.workers = [(k, w)]) (hp : w.pres ≠ .absent)
    (hopen : s.pairGateOpen = true) : Completes (.hierBroadcast p) s (fun t =>
      t.keeps (s.accepted 0x0D05 p) [.hier, .axg, .buf] ∧
      (∃ r, t.axg = { (s.accepted 0x0D05 p).axg with relays := s.axg.relays ++ [r] } ∧ r.child = w.childId ∧
        r.back = .broadcast s.hier.nextBcast) ∧
      (∃ b, t.hier = { s.hier with nextBcast := s.hier.nextBcast + 1, bcasts := [(s.hier.nextBcast, b)] } ∧ b.waiting = [w.childId] ∧
        b.unsent = []) ∧
      ∃ l, t.buf = { s.buf with iqCmd := s.buf.iqCmd ++ l }) := by
  obtain ⟨replay, ha⟩ := accepted_replay s p (op := 0x0D05) rfl
  have hi : exec (.hierBroadcast p) s = .next (bodyBroadcast (s.ctxOf 0x0D05 p) p.words (s.accepted 0x0D05 p)) :=
    congrArg Host.Outcome.next (receive_accepted bodyBroadcast hacc)
  rw [ha] at hi ⊢
  have hbody := bodyBroadcast_present (s := { s with axg := { s.axg with replay := replay } }) hw (s.ctxOf 0x0D05 p) hn hb hp hr hopen
  refine ⟨_, hi.trans (congrArg _ hbody), ?_, ⟨_, rfl, rfl, rfl⟩, ⟨_, rfl, rfl, rfl⟩, _, rfl⟩
  intro q hq
  cases q <;> simp [Part.same, State.sentUnder, State.withBcast] at hq ⊢

/-- Settles O47: the broadcast by the child it finds, the run by whether it can serve, a probe by the run it belongs to. -/
theorem broadcastAndClosure : Obligations.BroadcastAndClosure := by
  refine ⟨fun s p hacc hn hb hr => ⟨fun hw => ?_, fun k w hw habs => ?_, fun k w hw hp hopen => hierBroadcast_waits hacc hn hb hr hw hp hopen⟩,
    fun s p hacc hc hjobs => ⟨fun hready hrings => ?_, fun hready => ?_⟩,
    fun s ccw r hr hup hready hroom hlt => ?_, fun s ccw h => congrArg Host.Outcome.next (closureProbeSend_idle ccw h),
    fun s h => congrArg Host.Outcome.next (closureProbeReturn_none h), fun s it f tr q m r tx hr hhead hfcs hmsg hfly hshort => ?_⟩
  · refine answers_of_body rfl hacc ?_
    obtain ⟨replay, ha⟩ := accepted_replay s p (op := 0x0D05) rfl
    rw [ha]
    exact bodyBroadcast_noChild (s := { s with axg := { s.axg with replay := replay } }) _ hn hb hw
  · refine answers_of_body rfl hacc ?_
    obtain ⟨replay, ha⟩ := accepted_replay s p (op := 0x0D05) rfl
    rw [ha]
    exact bodyBroadcast_absent (s := { s with axg := { s.axg with replay := replay } }) hw _ hn hb habs
  · refine congrArg Host.Outcome.next ((receive_accepted bodyClosure hacc).trans ?_)
    obtain ⟨replay, ha⟩ := accepted_replay s p (op := 0x0D06) rfl
    rw [ha]
    exact bodyClosure_runs (s := { s with axg := { s.axg with replay := replay } }) _ _ hc hjobs hready hrings
  · refine congrArg Host.Outcome.next ((receive_accepted bodyClosure hacc).trans ?_)
    obtain ⟨replay, ha⟩ := accepted_replay s p (op := 0x0D06) rfl
    rw [ha]
    exact bodyClosure_rejected (s := { s with axg := { s.axg with replay := replay } }) _ (s.ctxOf_mirrored _ _) hc hjobs hready
  · refine ⟨_, congrArg Host.Outcome.next (closureProbeSend_sends ccw hr hup hready hroom hlt), ?_,
      ⟨_, rfl, rfl, rfl, rfl, rfl, rfl⟩, _, rfl⟩
    intro q hq
    cases q <;> simp [Part.same] at hq ⊢
  · refine ⟨_, congrArg Host.Outcome.next (closureProbeReturn_cw hr hhead hfcs hmsg hfly hshort), ?_, rfl⟩
    intro q hq
    cases q <;> simp [Part.same] at hq ⊢

end Sys2Proof.Machine
end

section
/-! Worker Reports at the child (R323, R324, R337, R338), the replies of children (R55, R87), and their misses (R326). -/

namespace Sys2Proof.Machine

open Sys2Proof

/-! ### A report leaves -/

/-- What keeps a report from leaving (R323, R461). -/
theorem workerReportSend_idle {s : State} (h : s.hcfg.hasParent = false ∨ s.start.mpi ≠ .up ∨ s.start.power ≠ .run ∨ s.pairGateOpen = false ∨
    s.reportDue = false) : workerReportSend s = s := if_pos h

theorem State.reportDue_iff (s : State) : s.reportDue = true ↔
    ((s.clk.tick : Int) - (s.devId % 4096 * 38146 : Nat)) % 156250000 = 0 ∧ s.hier.reportTick ≠ some s.clk.tick := by
  simp [State.reportDue]

theorem workerReportSend_due {s : State} (hpar : s.hcfg.hasParent = true) (hmpi : s.start.mpi = .up) (hrun : s.start.power = .run)
    (hopen : s.pairGateOpen = true) (hdue : s.reportDue = true) : workerReportSend s =
      ({ s.reportMissed with hier := { s.reportMissed.hier with reportTick := some s.reportMissed.clk.tick } }).sendReport false :=
  if_neg (by simp [hpar, hmpi, hrun, hopen, hdue])

/-- A report takes the next TAG, and enters IQ_CMD. -/
theorem State.sendReport_eq (s : State) (dying : Bool) : ∃ i, s.sendReport dying =
    { s with
      hier := { s.hier with reportTag := some s.hier.nextTag, nextTag := (s.hier.nextTag + 1) % 65536, reported := true }
      buf := { s.buf with iqCmd := s.buf.iqCmd ++ [i] } } := ⟨_, rfl⟩

/-- A report that is not the ISLAND_MISS-th unanswered one counts as such alone. -/
theorem State.reportMissed_counted {s : State} (h : s.hier.reportTag = none ∨ s.hier.unanswered + 1 < s.hcfg.islandMiss) :
    s.reportMissed = { s with hier := { s.hier with
      unanswered := if s.hier.reportTag = none then s.hier.unanswered else min 0xFFFF (s.hier.unanswered + 1) } } := by
  unfold State.reportMissed
  by_cases hnone : s.hier.reportTag = none
  · rw [if_pos (by simp [hnone]), if_pos hnone]
  · rw [if_neg (by simpa using hnone), if_neg hnone]
    exact if_pos (h.resolve_left hnone)

/-- The ISLAND_MISS-th one takes a JOINED manager to ISLAND, and a JOINED worker to SEEKING (R337). -/
theorem State.reportMissed_joined {s : State} (htag : s.hier.reportTag ≠ none) (h : s.hcfg.islandMiss ≤ s.hier.unanswered + 1)
    (hst : s.hier.st = .joined) : s.reportMissed =
      if s.isManager then ({ s with hier := { s.hier with unanswered := min 0xFFFF (s.hier.unanswered + 1) } }).enterIsland true
      else { s with hier := { s.hier with unanswered := min 0xFFFF (s.hier.unanswered + 1), st := .seeking, parentIsland := false } } := by
  unfold State.reportMissed
  rw [if_neg (by simpa using htag)]
  dsimp only
  rw [if_neg (Nat.not_lt.mpr h), hst]
  rfl

theorem Logged.hier {s t : State} (h : Logged t s) : t.hier = s.hier := by
  obtain ⟨_, _, _, _, _, _, rfl⟩ := h
  rfl

theorem State.setTb0_hier (s : State) (n : Tb0St) : (s.setTb0 n).hier = s.hier := by
  obtain ⟨_, _, -, h⟩ := s.setTb0_logged n
  exact h.hier

theorem State.checkTarget_hier (s : State) : s.checkTarget.hier = s.hier := by
  unfold State.checkTarget State.loseReference
  dsimp only
  (repeat' split) <;> simp [State.setTb0_hier, State.holdSteering]

/-- The next island epoch: 0 is left out (R338). -/
def Hier.nextEpoch (h : Hier) : Nat := if (h.epoch + 1) % 256 = 0 then 1 else (h.epoch + 1) % 256

theorem State.enterIsland_hier (s : State) : (s.enterIsland true).hier =
    { s.hier with st := .island, epoch := s.hier.nextEpoch, islandSince := s.clk.tick, parentIsland := false, rejoinRun := 0 } := by
  unfold State.enterIsland
  dsimp only
  rw [State.checkTarget_hier, if_pos rfl, State.log_mgmt]
  rfl

/-- The report whose predecessor is the ISLAND_MISS-th unanswered one of a JOINED device. -/
theorem reportMissed_sent {s : State} (htag : s.hier.reportTag ≠ none) (h : s.hcfg.islandMiss ≤ s.hier.unanswered + 1)
    (hst : s.hier.st = .joined) : s.reportMissed.hier.st = (if s.isManager then .island else .seeking) ∧
      s.reportMissed.hier.nextTag = s.hier.nextTag ∧ s.reportMissed.hier.parentIsland = false ∧
      (s.isManager = true → s.reportMissed.hier.epoch = s.hier.nextEpoch ∧ s.reportMissed.hier.islandSince = s.clk.tick) := by
  rw [State.reportMissed_joined htag h hst]
  split
  next hm =>
    rw [State.enterIsland_hier]
    exact ⟨rfl, rfl, rfl, fun _ => ⟨rfl, rfl⟩⟩
  next hm => exact ⟨rfl, rfl, rfl, fun hm' => absurd hm' hm⟩

/-! ### The reply to a report (R55, R324) -/

theorem exec_workerReportReply {s : State} {port sa : Nat} {pkt : List Word} (hp : port < 104) (ht : s.takes (.inband port sa none) = true) :
    exec (.workerReportReply port sa pkt) s = .next (s.reportReplyIn port sa pkt) :=
  congrArg Host.Outcome.next ((if_pos hp).trans (if_pos ht))

theorem exec_axgRelayReply {s : State} {port sa : Nat} {pkt : List Word} (hp : port < 104) (ht : s.takes (.inband port sa none) = true) :
    exec (.axgRelayReply port sa pkt) s = .next (s.relayReplyIn port sa pkt) :=
  congrArg Host.Outcome.next ((if_pos hp).trans (if_pos ht))

theorem exec_workerReportReply_notTaken {s : State} {port sa : Nat} {pkt : List Word} (ht : s.takes (.inband port sa none) = false) :
    exec (.workerReportReply port sa pkt) s = .next s :=
  congrArg Host.Outcome.next (ite_eq_right_iff.mpr fun _ => if_neg (by simp [ht]))

theorem exec_axgRelayReply_notTaken {s : State} {port sa : Nat} {pkt : List Word} (ht : s.takes (.inband port sa none) = false) :
    exec (.axgRelayReply port sa pkt) s = .next s :=
  congrArg Host.Outcome.next (ite_eq_right_iff.mpr fun _ => if_neg (by simp [ht]))

section
variable {s : State} {port sa : Nat} {pkt w : List Word} (hparse : parsePacket (.inband port sa none) pkt = .reply w)
include hparse

theorem State.reportReplyIn_none (h : sa ≠ s.hcfg.parentMac ∨ s.hier.reportTag ≠ some (fld (wd pkt 1) 31 16)) :
    s.reportReplyIn port sa pkt = s.countBadHdr := by
  rw [State.reportReplyIn, hparse]
  exact if_pos h

theorem State.reportReplyIn_answered (hsa : sa = s.hcfg.parentMac) (htag : s.hier.reportTag = some (fld (wd pkt 1) 31 16))
    (hfit : State.replyFits pkt = true) :
    s.reportReplyIn port sa pkt = s.reportAnswered port ((pkt.drop 4).take (fld (wd pkt 1) 15 0)) := by
  rw [State.reportReplyIn, hparse]
  exact (if_neg (by simp [hsa, htag])).trans (if_neg (by simp [hfit]))

theorem State.relayReplyIn_none (h : s.relayFor sa pkt = none) : s.relayReplyIn port sa pkt = s.countBadHdr := by
  rw [State.relayReplyIn, hparse]
  dsimp only
  rw [h]

theorem State.relayReplyIn_some {r : Relay} (h : s.relayFor sa pkt = some r) (hfit : State.replyFits pkt = true) :
    s.relayReplyIn port sa pkt = s.relayReply r pkt := by
  rw [State.relayReplyIn, hparse]
  dsimp only
  rw [h]
  exact if_neg (by simp [hfit])

end

/-- An accepted answer takes a SEEKING device to JOINED under its parent's epoch (R337, R338). -/
theorem State.reportAnswered_seeking {s : State} (port : Nat) {ws : List Word} (hst : s.hier.st = .seeking) (hacc : bit (wd ws 0) 0 = true) :
    ∃ h : Hier, s.reportAnswered port ws = { s with hier := h } ∧ h.st = .joined ∧ h.reportTag = none ∧ h.unanswered = 0 ∧
      h.replyPort = port ∧ h.epoch = fld (wd ws 0) 15 8 := by
  unfold State.reportAnswered
  simp only [hacc, hst, Bool.true_eq_false, if_false]
  refine ⟨_, (apply_ite (fun h : Hier => ({ s with hier := h } : State)) _ _ _).symm, ?_⟩
  rw [apply_ite Hier.st, apply_ite Hier.reportTag, apply_ite Hier.unanswered, apply_ite Hier.replyPort, apply_ite Hier.epoch]
  simp only [ite_self, and_self]

/-- The last reply of a relayed command goes back by SPI, and its record is free (R87). -/
theorem State.relayReply_spi {s : State} {r : Relay} {c : Ctx} {pkt : List Word} (hlast : bit (wd pkt 0) 16 = false) (hback : r.back = .carrier c)
    (hvia : c.via = .spi) (hmute : c.mute = false) (hb : s.hier.bcasts = []) : s.relayReply r pkt =
      { s with axg := { s.axg with
        relays := s.axg.relays.erase r, spiQ := s.axg.spiQ ++ [(wd pkt 0 ||| pack [(17, 1)]) :: pkt.drop 1] } } := by
  simp only [State.relayReply, hlast, hback, State.passBack, hvia, hmute, Bool.false_eq_true, if_false]
  exact State.pump_none (by simp [hb])

/-! ### Misses of a child (R326) -/

theorem State.missDue_iff (s : State) (w : Worker) : s.missDue w = true ↔
    w.pres = .present ∧ w.lastTick.getD 0 + 31250000 + (w.misses + 1) * 156250000 ≤ s.clk.tick := by
  simp [State.missDue]

theorem childMiss_notDue {s : State} {k : Nat} (h : ∀ w, Tab.find? s.workers k = some w → s.missDue w = false) : childMiss k s = s := by
  unfold childMiss
  split
  · rfl
  next w hw => exact if_pos (h w hw)

section
variable {s : State} {k : Nat} {w : Worker} (hw : Tab.find? s.workers k = some w) (hdue : s.missDue w = true)
include hw hdue

theorem childMiss_counted (hm : w.misses < 2) :
    childMiss k s = { s with workers := Tab.insert s.workers k { w with misses := w.misses + 1 } } := by
  rw [childMiss, hw]
  exact (if_neg (by simp [hdue])).trans (if_neg (by omega))

theorem childMiss_absent (hm : 2 ≤ w.misses) : childMiss k s = s.childAbsent k { w with misses := 3 } false := by
  rw [childMiss, hw]
  exact (if_neg (by simp [hdue])).trans (if_pos hm)

end

/-- A child with nothing under way becomes ABSENT, with a record. -/
theorem State.childAbsent_eq {s : State} (k : Nat) {w : Worker} (dying : Bool) (hr : s.axg.relays.all (fun r => decide (r.child ≠ w.childId)) = true)
    (hb : s.hier.bcasts = []) (hc : s.hier.closure = none) : ∃ cru, s.childAbsent k w dying =
      { s with workers := Tab.insert s.workers k { w with pres := .absent, dying := dying }, cru := cru } := by
  unfold State.childAbsent
  dsimp only
  rw [State.log_mgmt]
  have hrel (t : State) (hax : t.axg = s.axg) (hhier : t.hier = s.hier) : (t.relaysFail w.childId 2).closureNodeLost w.childId = t := by
    rw [t.relaysFail_none w.childId 2 (by rw [hax]; exact hr) (by rw [hhier]; exact hb), State.closureNodeLost, hhier, hc]
  exact ⟨_, hrel _ rfl rfl⟩

/-- What a report keeps: all but the hierarchy's state and the queue of commands. -/
theorem State.sendReport_keeps (s : State) (h : Hier) : (({ s with hier := h }).sendReport false).keeps s [.hier, .buf] := by
  obtain ⟨i, hi⟩ := ({ s with hier := h }).sendReport_eq false
  rw [hi]
  intro q hq
  cases q <;> simp [Part.same] at hq ⊢

/-- Settles O48: a report by whether it is due and its predecessor was answered, a reply by the record it answers, a miss by its number. -/
theorem reportsAndPresence : Obligations.ReportsAndPresence := by
  refine ⟨fun s h => ?_, fun s hpar hmpi hrun hopen htick hnew => ?_, fun s port sa pkt w hp ht hparse => ⟨fun h => ?_, fun hsa htag hfit hst hacc => ?_,
      fun h => ?_, fun r c hr hfit hlast hback hvia hmute hb => ?_⟩, fun s port sa pkt ht => ⟨?_, ?_⟩, fun s k h => ?_,
    fun s k w hw hpres hm hdue => ?_, fun s k w hw hpres hm hdue hr hb hc => ?_⟩
  · refine congrArg Host.Outcome.next (workerReportSend_idle (h.imp_right (Or.imp_right (Or.imp_right (Or.imp_right fun hno => ?_)))))
    rw [Bool.eq_false_iff, ne_eq, State.reportDue_iff]
    exact fun hdue => hno.elim (· hdue.1) hdue.2
  · have hsend := workerReportSend_due hpar hmpi hrun hopen ((State.reportDue_iff s).mpr ⟨htick, hnew⟩)
    refine ⟨fun h => ?_, fun htag h hst => ?_⟩
    · rw [State.reportMissed_counted h] at hsend
      refine ⟨_, congrArg Host.Outcome.next hsend, State.sendReport_keeps s _, rfl, ?_⟩
      exact List.length_append
    · obtain ⟨hst', htag', hpi, hman⟩ := reportMissed_sent htag h hst
      exact ⟨_, congrArg Host.Outcome.next hsend, hst', congrArg some htag', hpi, hman⟩
  · exact (exec_workerReportReply hp ht).trans (congrArg Host.Outcome.next (State.reportReplyIn_none hparse h))
  · obtain ⟨h, heq, hfields⟩ := State.reportAnswered_seeking port hst hacc
    have hin := (State.reportReplyIn_answered hparse hsa htag hfit).trans heq
    refine ⟨_, (exec_workerReportReply hp ht).trans (congrArg Host.Outcome.next hin), ?_, hfields⟩
    intro q hq
    cases q <;> simp [Part.same] at hq ⊢
  · exact (exec_axgRelayReply hp ht).trans (congrArg Host.Outcome.next (State.relayReplyIn_none hparse h))
  · exact (exec_axgRelayReply hp ht).trans
      (congrArg Host.Outcome.next ((State.relayReplyIn_some hparse hr hfit).trans (State.relayReply_spi hlast hback hvia hmute hb)))
  · exact exec_workerReportReply_notTaken ht
  · exact exec_axgRelayReply_notTaken ht
  · refine congrArg Host.Outcome.next (childMiss_notDue fun w hw => ?_)
    rw [Bool.eq_false_iff, ne_eq, State.missDue_iff]
    exact fun hdue => (h w hw).elim (· hdue.1) (Nat.not_lt.mpr hdue.2)
  · exact congrArg Host.Outcome.next (childMiss_counted hw ((State.missDue_iff s w).mpr ⟨hpres, hdue⟩) hm)
  · obtain ⟨cru, hcru⟩ := State.childAbsent_eq (w := { w with misses := 3 }) k false hr hb hc
    refine ⟨_, congrArg Host.Outcome.next ((childMiss_absent hw ((State.missDue_iff s w).mpr ⟨hpres, hdue⟩) hm).trans hcru), ?_, rfl⟩
    intro q hq
    cases q <;> simp [Part.same] at hq ⊢

end Sys2Proof.Machine
end

section
/-! What moves with a link (R100, R140-R146): which operations leave the lanes, the TQ groups and the port states as they are, and how a lane and
its port follow each other. -/

namespace Sys2Proof.Machine

open Sys2Proof

/-! ### What is beside the links -/

/-- The lanes and the TQ groups are as they were. -/
structure LanesKept (t s : State) : Prop where
  lanes : t.lanes = s.lanes
  form : t.form = s.form

/-- So are the states of the ports, where the port table is in order. -/
structure LinksKept (t s : State) : Prop extends LanesKept t s where
  ports : Tab.sorted s.ports = true → Tab.sorted t.ports = true ∧ ∀ p, (t.port p).st = (s.port p).st

theorem LanesKept.refl (s : State) : LanesKept s s := ⟨rfl, rfl⟩

theorem LanesKept.trans {s t u : State} (h : LanesKept u t) (k : LanesKept t s) : LanesKept u s :=
  ⟨h.lanes.trans k.lanes, h.form.trans k.form⟩

theorem LanesKept.foldl {α : Type} {f : State → α → State} (h : ∀ t x, LanesKept (f t x) t) (l : List α) (s : State) :
    LanesKept (l.foldl f s) s :=
  List.foldlRecOn l f (.refl s) (fun t ht x _ => (h t x).trans ht)

theorem LanesKept.lane {s t : State} (h : LanesKept t s) (k : Nat) : t.lane k = s.lane k := by
  rw [State.lane, h.lanes, State.lane]

/-- An operation that writes none of the three tables. -/
theorem LinksKept.of_eq {s t : State} (hl : t.lanes = s.lanes) (hf : t.form = s.form) (hp : t.ports = s.ports) : LinksKept t s :=
  ⟨⟨hl, hf⟩, fun h => ⟨by rw [hp, h], fun p => by rw [State.port, hp, State.port]⟩⟩

theorem LinksKept.refl (s : State) : LinksKept s s := .of_eq rfl rfl rfl

theorem LinksKept.trans {s t u : State} (h : LinksKept u t) (k : LinksKept t s) : LinksKept u s :=
  ⟨h.toLanesKept.trans k.toLanesKept, fun hs =>
    have ⟨ht, hk⟩ := k.ports hs
    have ⟨hu, hh⟩ := h.ports ht
    ⟨hu, fun p => (hh p).trans (hk p)⟩⟩

theorem LinksKept.foldl {α : Type} {f : State → α → State} (h : ∀ t x, LinksKept (f t x) t) (l : List α) (s : State) :
    LinksKept (l.foldl f s) s :=
  List.foldlRecOn l f (.refl s) (fun t ht x _ => (h t x).trans ht)

theorem Completed.linksKept {s t : State} (h : Completed t s) : LinksKept t s := by
  obtain ⟨_, _, _, _, _, _, _, _, _, _, rfl⟩ := h
  exact .of_eq rfl rfl rfl

theorem Logged.linksKept {s t : State} (h : Logged t s) : LinksKept t s := h.completed.linksKept

theorem Consumed.linksKept {s t : State} (h : Consumed t s) : LinksKept t s := by
  obtain ⟨_, _, rfl⟩ := h
  exact .of_eq rfl rfl rfl

theorem State.completeFirst_completed (s : State) (p : Work → Bool) (r : Rpl) : Completed (s.completeFirst p r) s := by
  unfold State.completeFirst
  split
  · exact .refl s
  · exact (State.complete_completed _ _ _).trans (.of_axg s _)

/-! ### References and sessions follow a lane and a port (R291, R357) -/

/-- What the failure of a reference check can change: the reference loop, TB0, its steering, and what raising a record changes. -/
def Referred (t s : State) : Prop := ∃ refs tbs cru clk buf, t = { s with refs := refs, tbs := tbs, cru := cru, clk := clk, buf := buf }

theorem Referred.refl (s : State) : Referred s s := ⟨_, _, _, _, _, rfl⟩

theorem Referred.trans {s t u : State} (h : Referred u t) (k : Referred t s) : Referred u s := by
  obtain ⟨_, _, _, _, _, rfl⟩ := k
  obtain ⟨_, _, _, _, _, rfl⟩ := h
  exact ⟨_, _, _, _, _, rfl⟩

theorem Referred.keeps {s t : State} (h : Referred t s) : t.keeps s [.refs, .tbs, .cru, .clk, .buf] := by
  obtain ⟨_, _, _, _, _, rfl⟩ := h
  intro q hq
  cases q <;> simp [Part.same] at hq ⊢

theorem Referred.linksKept {s t : State} (h : Referred t s) : LinksKept t s := by
  obtain ⟨_, _, _, _, _, rfl⟩ := h
  exact .of_eq rfl rfl rfl

theorem Logged.referred {s t : State} (h : Logged t s) : Referred t s := by
  obtain ⟨_, _, _, _, _, _, rfl⟩ := h
  exact ⟨_, _, _, _, _, rfl⟩

theorem State.setTb0_referred (s : State) (n : Tb0St) : Referred (s.setTb0 n) s := by
  obtain ⟨_, _, -, h⟩ := s.setTb0_logged n
  exact h.referred.trans ⟨_, _, _, _, _, rfl⟩

theorem State.loseReference_referred (s : State) : Referred s.loseReference s := by
  unfold State.loseReference
  dsimp only
  split <;> exact (State.setTb0_referred _ _).trans ⟨_, _, _, _, _, rfl⟩

theorem State.checkTarget_referred (s : State) : Referred s.checkTarget s := by
  unfold State.checkTarget
  split
  · dsimp only
    split
    · exact .refl s
    · exact s.loseReference_referred
  · exact .refl s

theorem State.refFail_referred (s : State) (k cause : Nat) : Referred (s.refFail k cause) s := by
  unfold State.refFail
  dsimp only
  split
  · exact (State.checkTarget_referred _).trans ((State.queueEvent_logged _ _ _).referred.trans ⟨_, _, _, _, _, rfl⟩)
  · exact .refl s

theorem State.checkLane_referred (s : State) (l : Nat) : Referred (s.checkLane l) s := by
  unfold State.checkLane
  split
  · exact .refl s
  · exact List.foldlRecOn (motive := fun t => Referred t s) _ _ (.refl s) (fun t ht k _ => (t.refFail_referred k 3).trans ht)

theorem State.updateServo_linksKept (s : State) (n : Nat) : LinksKept (s.updateServo n) s := by
  unfold State.updateServo
  dsimp only
  (repeat' split) <;> exact .of_eq rfl rfl rfl

theorem State.sesTo_linksKept (s : State) (sid : Nat) (n : SesSt) : LinksKept (s.sesTo sid n) s := by
  unfold State.sesTo
  split
  · exact .refl s
  next x _ =>
    extract_lets old _ t
    have ht : LinksKept t s := .of_eq rfl rfl rfl
    split
    · exact ht
    split
    · split
      · exact LinksKept.trans (t := t) (.of_eq rfl rfl rfl) ht
      split
      · exact (State.refFail_referred _ _ _).linksKept.trans ht
      · exact ht
    · exact (State.updateServo_linksKept _ _).trans ht

theorem State.sessionsDown_linksKept (s : State) (p : Nat) : LinksKept (s.sessionsDown p) s :=
  .foldl (fun t k => t.sesTo_linksKept k .down) _ s

theorem State.sesPortUp_linksKept (s : State) (sid : Nat) : LinksKept (s.sesPortUp sid) s := by
  unfold State.sesPortUp
  split
  · split
    · exact s.sesTo_linksKept _ _
    · exact .refl s
  · exact .refl s

theorem State.sessionsUp_linksKept (s : State) (p : Nat) : LinksKept (s.sessionsUp p) s :=
  .foldl (fun t k => t.sesPortUp_linksKept k) _ s

/-! ### A closure run and the twin link end with a port (R334, R466) -/

theorem State.replyRejected_linksKept (s : State) (r : Closure) (reason : Nat) (fig : Option (Int × Int)) :
    LinksKept (s.replyRejected r reason fig) s := by
  unfold State.replyRejected
  cases fig <;> exact (State.complete_completed _ _ _).linksKept.trans (.of_eq rfl rfl rfl)

theorem State.twinTell_linksKept (s : State) (ws : List Word) : LinksKept (s.twinTell ws) s := by
  obtain ⟨_, _, h⟩ := s.twinTell_frame ws
  rw [h]
  exact .of_eq rfl rfl rfl

theorem State.dropRings_linksKept (s : State) (r : Closure) : LinksKept (s.dropRings r) s :=
  (LinksKept.foldl (fun t (k : Nat) => t.twinTell_linksKept [4, w32 k]) _ _).trans (.of_eq rfl rfl rfl)

theorem startClosures_linksKept (n : Nat) (s : State) : LinksKept (startClosures n s) s := by
  induction n generalizing s with
  | zero => exact .refl s
  | succ n ih =>
    unfold startClosures
    split
    · exact .refl s
    split
    next c ws _ =>
      extract_lets _ t r u
      have ht : LinksKept t s := .of_eq rfl rfl rfl
      split
      · exact LinksKept.trans (t := t.dropRings r) (.of_eq rfl rfl rfl) ((t.dropRings_linksKept r).trans ht)
      · exact (ih _).trans ((t.replyRejected_linksKept _ _ _).trans ht)
    · exact .refl s

theorem State.closurePortLost_linksKept (s : State) (p : Nat) : LinksKept (s.closurePortLost p) s := by
  have hreject : LinksKept (s.rejectClosure 1) s := by
    unfold State.rejectClosure
    split
    · exact .refl s
    · exact (startClosures_linksKept _ _).trans ((State.replyRejected_linksKept _ _ _ _).trans (.of_eq rfl rfl rfl))
  unfold State.closurePortLost
  split
  · split
    · exact hreject
    · exact .refl s
  · exact .refl s

theorem State.mirrorAlone_completed (s : State) : Completed s.mirrorAlone s :=
  (Completed.foldl (fun t (e : Ctx × Rpl) => (t.sendReply_replied e.1 e.2).completed) _ _).trans ⟨_, _, _, _, _, _, _, _, _, _, rfl⟩

theorem State.twinLost_completed (s : State) : Completed s.twinLost s := by
  unfold State.twinLost
  split
  · exact .refl s
  · exact (State.completeWhere_completed _ _).trans ((State.mirrorAlone_completed _).trans
      ((State.log_logged _ _ _ _ _ _ _).completed.trans ⟨_, _, _, _, _, _, _, _, _, _, rfl⟩))

theorem State.leaveUp_linksKept (s : State) (p : Nat) : LinksKept (s.leaveUp p) s := by
  have h : LinksKept ((s.sessionsDown p).closurePortLost p) s := (State.closurePortLost_linksKept _ p).trans (s.sessionsDown_linksKept p)
  unfold State.leaveUp
  dsimp only
  split
  · exact (State.twinLost_completed _).linksKept.trans h
  · exact h

/-! ### Frames of a port that goes down (R142, R143) -/

/-- A change of a port that leaves its state. -/
theorem State.modPort_linksKept (s : State) (p : Nat) {f : Port → Port} (h : ∀ x, (f x).st = x.st) : LinksKept (s.modPort p f) s := by
  refine ⟨⟨rfl, rfl⟩, fun hs => ⟨Tab.sorted_put _ _ hs, fun q => ?_⟩⟩
  by_cases hq : q = p
  · rw [hq, State.port, State.modPort, State.setPort, Tab.get_put_self _ _ _ hs, h]
  · rw [State.port, State.modPort, State.setPort, Tab.get_put_ne _ _ _ hq, State.port]

theorem State.cutShort_linksKept (s : State) (c : Copy) (lo : Nat) : LinksKept (s.cutShort c lo) s := by
  unfold State.cutShort
  extract_lets t
  have ht : LinksKept t s := by
    unfold t
    split
    · split
      · exact .refl s
      · dsimp only
        split <;> exact .of_eq rfl rfl rfl
    · exact .refl s
  have hdrop : LinksKept (t.dropCopy c) s := LinksKept.trans (t := t) (.of_eq rfl rfl rfl) ht
  exact (State.finish_consumed _ _ _).linksKept.trans hdrop

theorem State.flushPort_linksKept (s : State) (p : Nat) : LinksKept (s.flushPort p) s := by
  have hqueued (t : State) (c : Copy) : LinksKept
      ((((t.modPort p (fun x => { x with flushDrops := inc32 x.flushDrops })).ev 0x110 p).dropCopy c).finish c.frame 0x402) t :=
    ((State.finish_consumed _ _ _).trans ⟨_, _, rfl⟩).linksKept.trans
      ((State.event_consumed _ _ _ _ _).linksKept.trans (t.modPort_linksKept p fun _ => rfl))
  have hsending (t : State) (c : Copy) :
      LinksKept (((t.modPort p (fun x => { x with txTrunc := inc16 x.txTrunc })).ev 0x113 p).cutShort c 0) t :=
    (State.cutShort_linksKept _ _ _).trans
      ((State.event_consumed _ _ _ _ _).linksKept.trans (t.modPort_linksKept p fun _ => rfl))
  exact (LinksKept.foldl hsending _ _).trans (.foldl hqueued _ s)

theorem State.endFrame_linksKept (s : State) (id : Nat) : LinksKept (s.endFrame id) s := by
  unfold State.endFrame
  (repeat' split) <;> exact .of_eq rfl rfl rfl

theorem State.dropPunt_linksKept (s : State) (x : PuntItem) (cause : Nat) : LinksKept (s.dropPunt x cause) s :=
  ((State.finish_consumed _ _ _).trans ⟨_, _, rfl⟩).linksKept

theorem State.truncateRx_linksKept (s : State) (p : Nat) : LinksKept (s.truncateRx p) s := by
  unfold State.truncateRx
  split
  · exact .refl s
  next f _ =>
    extract_lets a b c d
    have ha : LinksKept a s := (State.event_consumed _ _ _ _ _).linksKept.trans (s.modPort_linksKept p fun _ => rfl)
    have hb : LinksKept b a := .of_eq rfl rfl rfl
    have hc : LinksKept c b := .foldl (fun t x => t.cutShort_linksKept x 0) _ b
    have hd : LinksKept d c := .foldl (fun t x => t.dropPunt_linksKept x 0x403) _ c
    have hfinish : LinksKept (d.finish f.id 0x403) s := (State.finish_consumed _ _ _).linksKept.trans (hd.trans (hc.trans (hb.trans ha)))
    exact (State.endFrame_linksKept _ _).trans hfinish

/-! ### Ports (R140-R146) -/

theorem State.modPort_lanesKept (s : State) (p : Nat) (f : Port → Port) : LanesKept (s.modPort p f) s := ⟨rfl, rfl⟩

/-- What follows a port's new state leaves it. -/
theorem State.portDown_linksKept (s : State) (p : Nat) (st : PortSt) :
    LinksKept (s.portDown p st) (s.modPort p (fun x => { x with st := st })) := by
  unfold State.portDown
  dsimp only
  split
  · exact (State.leaveUp_linksKept _ p).trans ((State.flushPort_linksKept _ p).trans (State.truncateRx_linksKept _ p))
  split
  · exact State.flushPort_linksKept _ p
  · exact .refl _

theorem State.portDown_lanesKept (s : State) (p : Nat) (st : PortSt) : LanesKept (s.portDown p st) s :=
  (s.portDown_linksKept p st).toLanesKept.trans (s.modPort_lanesKept p _)

theorem State.portLoss_lanesKept (s : State) (p : Nat) : LanesKept (s.portLoss p) s := by
  unfold State.portLoss
  extract_lets a b c
  have ha : LanesKept a s := (s.truncateRx_linksKept p).toLanesKept
  have hc : LanesKept c s := (b.leaveUp_linksKept p).toLanesKept.trans ((a.modPort_lanesKept p _).trans ha)
  split
  · exact (c.portDown_lanesKept p _).trans hc
  · exact hc

theorem State.confirmPair_lanesKept (s : State) (b : Nat) : LanesKept (s.confirmPair b) s := by
  unfold State.confirmPair
  dsimp only
  split <;> exact ⟨rfl, rfl⟩

theorem State.portUp_lanesKept (s : State) (p : Nat) : LanesKept (s.portUp p) s :=
  (LanesKept.foldl State.confirmPair_lanesKept _ _).trans
    ((State.sessionsUp_linksKept _ p).toLanesKept.trans (s.modPort_lanesKept p _))

theorem State.syncFault_lanesKept (s : State) (p : Nat) : LanesKept (s.syncFault p) s := by
  unfold State.syncFault
  dsimp only
  split <;> exact ⟨rfl, rfl⟩

theorem State.syncState_lanesKept (s : State) (p : Nat) : LanesKept (s.syncState p) s := by
  unfold State.syncState
  dsimp only
  split
  · split
    · exact .refl s
    · exact s.portDown_lanesKept p _
  split
  · split
    · exact .refl s
    · exact s.portDown_lanesKept p _
  split
  · split
    · exact .refl s
    · exact s.portDown_lanesKept p _
  split
  · split
    · exact .refl s
    · exact s.portLoss_lanesKept p
  · split
    · exact s.portUp_lanesKept p
    · exact .refl s
  · split
    · exact (State.portUp_lanesKept _ p).trans (s.modPort_lanesKept p _)
    · exact s.modPort_lanesKept p _

theorem State.syncPort_lanesKept (s : State) (p : Nat) : LanesKept (s.syncPort p) s :=
  (State.syncFault_lanesKept _ p).trans (s.syncState_lanesKept p)

theorem State.forceDown_lanesKept (s : State) (p : Nat) : LanesKept (s.forceDown p) s := by
  unfold State.forceDown
  split
  · exact s.portDown_lanesKept p _
  · exact .refl s

/-! ### Calibration steps that a lane breaks (R527) -/

theorem State.calReject_linksKept (s : State) (c : CalStep) (reason : Nat) : LinksKept (s.calReject c reason) s := by
  have hreply (t : State) : LinksKept (t.calReply c reason) t := by
    unfold State.calReply
    split
    · exact (t.completeFirst_completed _ _).linksKept
    · exact .refl t
  unfold State.calReject
  dsimp only
  refine (hreply _).trans ?_
  split
  · exact (State.log_logged _ _ _ _ _ _ _).linksKept.trans (.of_eq rfl rfl rfl)
  · exact (State.queueEvent_logged _ _ _).linksKept.trans (.of_eq rfl rfl rfl)

theorem State.breakCal_linksKept (s : State) (l why : Nat) : LinksKept (s.breakCal l why) s :=
  .foldl (fun t c =>
    (State.calReject_linksKept { t with pal := { t.pal with steps := t.pal.steps.erase c, near := Tab.erase t.pal.near c.item } } c why).trans
      (.of_eq rfl rfl rfl)) _ s

end Sys2Proof.Machine
end

section
/-! The operations on one lane (R100, R115, R116, R119, R122, R131): what each leaves the lane as, and that it leaves every other lane as it
was. -/

namespace Sys2Proof.Machine

open Sys2Proof

/-! ### One lane changes -/

/-- A state with one lane of another brought to a value, its lane table in order, and its TQ groups as they were. -/
structure LaneTo (l : Nat) (x : Lane) (t s : State) : Prop where
  sorted : Tab.sorted t.lanes = true
  form : t.form = s.form
  lane : t.lane l = x
  other : ∀ k, k ≠ l → t.lane k = s.lane k

section
variable {s t u : State} {l : Nat} {x y : Lane}

theorem State.lane_setLane (h : Tab.sorted s.lanes = true) : (s.setLane l x).lane l = x := Tab.get_put_self _ _ _ h

theorem LaneTo.refl (h : Tab.sorted s.lanes = true) : LaneTo l (s.lane l) s s := ⟨h, rfl, rfl, fun _ _ => rfl⟩

theorem LaneTo.trans (h : LaneTo l y u t) (k : LaneTo l x t s) : LaneTo l y u s :=
  ⟨h.sorted, h.form.trans k.form, h.lane, fun j hj => (h.other j hj).trans (k.other j hj)⟩

theorem State.setLane_laneTo (h : Tab.sorted s.lanes = true) : LaneTo l x (s.setLane l x) s :=
  ⟨Tab.sorted_put _ _ h, rfl, s.lane_setLane h, fun _ hk => Tab.get_put_ne _ _ _ hk⟩

theorem LaneTo.kept (h : LanesKept u t) (k : LaneTo l x t s) : LaneTo l x u s :=
  ⟨by rw [h.lanes, k.sorted], h.form.trans k.form, (h.lane l).trans k.lane, fun j hj => (h.lane j).trans (k.other j hj)⟩

theorem LaneTo.inTq (h : LaneTo l x t s) (k : Nat) : t.inTq k = s.inTq k := by
  rw [State.inTq, State.formed, h.form, State.inTq, State.formed]

theorem State.groupOf_alone (h : s.inTq l = false) : s.groupOf l = [l] := if_neg (by simp [h])

/-- A row on a lane that exists. -/
theorem laneRow_next {i : Instr} (f : State → State) (hi : exec i s = .next (onIdx 96 l f s)) (hl : l < 96) (h : f s = t) :
    exec i s = .next t := by
  rw [hi, onIdx, if_pos hl, h]

theorem laneRow_completes {i : Instr} {P : State → Prop} (f : State → State) (hi : exec i s = .next (onIdx 96 l f s)) (hl : l < 96)
    (h : P (f s)) : Completes i s P := ⟨f s, laneRow_next f hi hl rfl, h⟩

end

/-! ### A lane's step (R100) -/

/-- The lane after a change to step `n`. -/
def Lane.stepped (x : Lane) (n : Nat) : Lane :=
  if x.step = n then x
  else { x with
    step := n, doze := .awake, txDoze := false, rxDoze := false, codeErrors := if n = 7 then 0 else x.codeErrors
    chotonPartner := x.chotonPartner && decide (n ≠ 7), partnerDozeOk := x.partnerDozeOk && decide (n ≠ 7), flagsSent := none
    burst := x.burst && decide (n = 3), scanLost := x.scanLost || (x.sketching && decide (x.step = 7)), solo := x.solo && decide (n ≠ 7) }

/-- What a change of step leaves of a lane. -/
theorem Lane.stepped_frame (x : Lane) (n : Nat) : ∃ dz tx rx ce cp po fs b sl so, x.stepped n = { x with
    step := n, doze := dz, txDoze := tx, rxDoze := rx, codeErrors := ce, chotonPartner := cp, partnerDozeOk := po, flagsSent := fs
    burst := b && x.burst, scanLost := sl, solo := so } := by
  unfold Lane.stepped
  split
  next h => exact ⟨_, _, _, _, _, _, _, true, _, _, by rw [Bool.true_and, ← h]⟩
  · exact ⟨_, _, _, _, _, _, _, decide (n = 3), _, _, by rw [Bool.and_comm x.burst]⟩

theorem Lane.stepped_of_ne {x : Lane} {n : Nat} (h : x.step ≠ n) : x.stepped n = { x with
    step := n, doze := .awake, txDoze := false, rxDoze := false, codeErrors := if n = 7 then 0 else x.codeErrors
    chotonPartner := x.chotonPartner && decide (n ≠ 7), partnerDozeOk := x.partnerDozeOk && decide (n ≠ 7), flagsSent := none
    burst := x.burst && decide (n = 3), scanLost := x.scanLost || (x.sketching && decide (x.step = 7)),
    solo := x.solo && decide (n ≠ 7) } := if_neg h

section
variable {s : State} (l n : Nat) (h : Tab.sorted s.lanes = true)
include h

theorem State.laneStep_laneTo : LaneTo l ((s.lane l).stepped n) (s.laneStep l n) s := by
  unfold State.laneStep Lane.stepped
  dsimp only
  split
  · exact .refl h
  · refine LaneTo.kept ?_ (State.setLane_laneTo h)
    refine (State.queueEvent_logged _ _ _).linksKept.toLanesKept.trans ?_
    split
    · exact LanesKept.trans (t := State.breakCal _ l 1) ⟨rfl, rfl⟩ (State.breakCal_linksKept _ l 1).toLanesKept
    · exact .refl _

omit h in
/-- Out of a step other than 7 a change of step only raises an event. -/
theorem State.laneStep_logged (hn : (s.lane l).step ≠ n) (h7 : (s.lane l).step ≠ 7) :
    Logged (s.laneStep l n) (s.setLane l ((s.lane l).stepped n)) := by
  rw [Lane.stepped_of_ne hn]
  unfold State.laneStep
  dsimp only
  rw [if_neg hn, if_neg h7]
  exact State.queueEvent_logged _ _ _

theorem State.endTraining_laneTo (abandoned : Bool) : LaneTo l { s.lane l with preset := false } (s.endTraining l abandoned) s := by
  unfold State.endTraining
  dsimp only
  refine .kept (State.completeWhere_completed _ _).linksKept.toLanesKept ?_
  exact .kept (t := s.setLane l _) ⟨rfl, rfl⟩ (State.setLane_laneTo h)

/-! ### Restarts (R100, R110, R131) -/

omit h in
/-- The step a restart at step `n` takes a lane to. -/
def Lane.restartStep (x : Lane) (n : Nat) : Nat := if x.enable then min n (max 1 x.step) else 0

omit h in
/-- The lane after a restart at step `n`. -/
def Lane.restarted (x : Lane) (n : Nat) : Lane :=
  Lane.stepped { x with
    pllLock := x.pllLock && decide (2 ≤ x.restartStep n), signal := x.signal && decide (3 ≤ x.restartStep n), cdrLock := false
    blockLock := false, burst := false, attempts := 0, solo := false, rxReady := false, lpiTx := false, lpiRx := false } (x.restartStep n)

theorem State.laneRestart_laneTo : LaneTo l ((s.lane l).restarted n) (s.laneRestart l n) s := by
  have hput := State.setLane_laneTo (l := l) h (x := { s.lane l with
    pllLock := (s.lane l).pllLock && decide (2 ≤ (s.lane l).restartStep n), signal := (s.lane l).signal && decide (3 ≤ (s.lane l).restartStep n)
    cdrLock := false, blockLock := false, burst := false, attempts := 0, solo := false, rxReady := false, lpiTx := false, lpiRx := false })
  have hstep := State.laneStep_laneTo l ((s.lane l).restartStep n) hput.sorted
  rw [hput.lane] at hstep
  exact .kept ((State.syncPort_lanesKept _ _).trans (State.checkLane_referred _ l).linksKept.toLanesKept) (hstep.trans hput)

end

/-- What a restart leaves of a lane. -/
theorem Lane.restarted_frame (x : Lane) (n : Nat) : ∃ pll sig dz tx rx ce cp po fs sl so, x.restarted n = { x with
    step := x.restartStep n, pllLock := pll, signal := sig && decide (3 ≤ x.restartStep n), doze := dz, txDoze := tx, rxDoze := rx
    codeErrors := ce, chotonPartner := cp, partnerDozeOk := po, flagsSent := fs, scanLost := sl, cdrLock := false, blockLock := false
    burst := false, attempts := 0, solo := so, rxReady := false, lpiTx := false, lpiRx := false } := by
  obtain ⟨_, _, _, _, _, _, _, b, _, _, h⟩ := Lane.stepped_frame { x with
    pllLock := x.pllLock && decide (2 ≤ x.restartStep n), signal := x.signal && decide (3 ≤ x.restartStep n), cdrLock := false
    blockLock := false, burst := false, attempts := 0, solo := false, rxReady := false, lpiTx := false, lpiRx := false } (x.restartStep n)
  rw [Bool.and_false] at h
  exact ⟨_, _, _, _, _, _, _, _, _, _, _, h⟩

/-! ### Doze flags and low-power idle (R115, R116, R119, R122) -/

/-- A lane whose conditions to doze have changed: idle ends where it may not be, and a dozing transmitter that owes flags exits. -/
def Lane.dozeTo (x : Lane) (may ok : Bool) (flags : Option Bool) : Lane := { x with
  lpiTx := x.lpiTx && may
  doze := if x.step = 7 ∧ x.doze = .dozing ∧ (x.dozeEn = false ∨ ok = false) then .exiting else x.doze
  flagsSent := flags }

section
variable {s : State} (l : Nat) (h : Tab.sorted s.lanes = true)
include h

theorem State.wake_laneTo :
    LaneTo l { s.lane l with doze := if (s.lane l).doze = .dozing then .exiting else (s.lane l).doze } (s.wake l) s := by
  unfold State.wake
  split
  next hd =>
    refine .kept ?_ (State.setLane_laneTo h)
    unfold State.laneSends
    split <;> exact ⟨rfl, rfl⟩
  · exact .refl h

theorem State.sendFlags_laneTo : ∃ f, LaneTo l { s.lane l with flagsSent := f } (s.sendFlags l) s := by
  unfold State.sendFlags
  dsimp only
  split
  · exact ⟨_, .refl h⟩
  · exact ⟨some (s.dozeOk l), .kept (t := s.modLane l (fun x => { x with flagsSent := some (s.dozeOk l) })) ⟨rfl, rfl⟩
      (State.setLane_laneTo h)⟩

theorem State.dozeChanged_laneTo : ∃ f, LaneTo l ((s.lane l).dozeTo (s.lpiMay l) (s.dozeOk l) f) (s.dozeChanged l) s := by
  unfold State.dozeChanged
  extract_lets u x
  have hu : LaneTo l { s.lane l with lpiTx := (s.lane l).lpiTx && s.lpiMay l } u s := by
    unfold u
    split
    next hi =>
      rw [hi.2, Bool.and_false]
      exact State.setLane_laneTo h
    next hi =>
      have hx : ((s.lane l).lpiTx && s.lpiMay l) = (s.lane l).lpiTx := by
        rw [Bool.and_eq_left_iff_imp]
        exact fun ha => Bool.eq_true_of_not_eq_false fun hb => hi ⟨ha, hb⟩
      rw [hx]
      exact .refl h
  have hx : x = { s.lane l with lpiTx := (s.lane l).lpiTx && s.lpiMay l } := hu.lane
  have hok : u.dozeOk l = s.dozeOk l := by
    rw [State.dozeOk, hu.lane, State.dozeOk]
    refine congrArg (fun r => !r && _) ?_
    unfold u
    split <;> rfl
  rw [hok, hx]
  unfold Lane.dozeTo
  dsimp only
  by_cases hexit : (s.lane l).step = 7 ∧ (s.lane l).doze = .dozing ∧ ((s.lane l).dozeEn = false ∨ s.dozeOk l = false)
  · obtain ⟨h7, hd, howes⟩ := hexit
    have hw := State.wake_laneTo l hu.sorted
    rw [hu.lane] at hw
    rw [if_pos hd] at hw
    rw [if_neg (not_not.mpr h7), if_pos hd, if_pos howes, if_pos ⟨h7, hd, howes⟩]
    exact ⟨_, hw.trans hu⟩
  · rw [if_neg hexit]
    split
    · exact ⟨_, hu⟩
    next h7 =>
    split
    next hd =>
      rw [if_neg fun howes => hexit ⟨not_not.mp h7, hd, howes⟩]
      exact ⟨_, hu⟩
    · split
      · obtain ⟨f, hf⟩ := State.sendFlags_laneTo l hu.sorted
        rw [hu.lane] at hf
        exact ⟨f, hf.trans hu⟩
      · exact ⟨_, hu⟩

/-! ### Step 7 and its loss (R100, R110) -/

theorem State.laneArrived_laneTo : ∃ may ok f,
    LaneTo l (Lane.dozeTo { (s.lane l).stepped 7 with preset := false } may ok f) (s.laneArrived l) s := by
  have hstep := State.laneStep_laneTo l 7 h
  have hend := State.endTraining_laneTo l hstep.sorted false
  rw [hstep.lane] at hend
  obtain ⟨f, hdoze⟩ := State.dozeChanged_laneTo l hend.sorted
  rw [hend.lane] at hdoze
  exact ⟨_, _, f, .kept (State.syncPort_lanesKept _ _) (hdoze.trans (hend.trans hstep))⟩

/-- A lane outside TQ ports that loses lock in step 7 makes burst attempts. -/
theorem State.lockLoss_laneTo (h7 : (s.lane l).step = 7) (hq : s.inTq l = false) : LaneTo l (Lane.stepped { s.lane l with
    lockLosses := inc8 (s.lane l).lockLosses, cdrLock := false, blockLock := false, burst := true, attempts := 0, solo := false } 3)
    (s.lockLoss l) s := by
  have hput := State.setLane_laneTo (l := l) h (x := { s.lane l with
    lockLosses := inc8 (s.lane l).lockLosses, cdrLock := false, blockLock := false, burst := true, attempts := 0, solo := false })
  have hstep := State.laneStep_laneTo l 3 hput.sorted
  rw [hput.lane] at hstep
  have hq' := (hstep.trans hput).inTq l
  unfold State.lockLoss
  dsimp only
  rw [hq, if_neg (not_not.mpr h7)]
  simp only [Bool.false_and, Bool.not_false, Bool.and_true, Bool.false_eq_true, if_false]
  rw [hq', hq, if_neg Bool.false_ne_true]
  refine .kept ?_ (hstep.trans hput)
  exact LanesKept.trans (t := State.syncPort _ _) ⟨rfl, rfl⟩
    ((State.syncPort_lanesKept _ _).trans (State.checkLane_referred _ l).linksKept.toLanesKept)

end

end Sys2Proof.Machine
end

section
/-! Doze, low-power idle and the end of an eye scan (R114-R127, R133). -/

namespace Sys2Proof.Machine

open Sys2Proof

theorem State.setLane_laned (s : State) (l : Nat) (x : Lane) : Laned (s.setLane l x) s := ⟨_, _, rfl⟩

theorem State.emit_laned (s : State) (o : Output) : Laned (s.emit o) s := ⟨_, _, rfl⟩

theorem Laned.keeps {s t : State} (h : Laned t s) : t.keeps s [.lanes, .out] := by
  obtain ⟨_, _, rfl⟩ := h
  intro q hq
  cases q <;> simp [Part.same] at hq ⊢

/-- A frame may be read with a longer list of parts. -/
theorem State.keeps.mono {s t : State} {a b : List Part} (h : t.keeps s a) (hab : a ⊆ b) : t.keeps s b := fun q hq => h q fun ha => hq (hab ha)

theorem State.keeps.trans {s t u : State} {a : List Part} (h : u.keeps t a) (k : t.keeps s a) : u.keeps s a := by
  intro q hq
  have h' := h q hq
  have k' := k q hq
  cases q <;> exact Eq.trans h' k'

theorem State.setLane_keeps (s : State) (l : Nat) (x : Lane) : (s.setLane l x).keeps s [.lanes] := by
  intro q hq
  cases q <;> simp [Part.same] at hq ⊢

/-! ### Entry and exit of a transmitter (R114, R117-R120) -/

section
variable {s : State} {l : Nat}

theorem dozeIdleExpired_enters (ha : (s.lane l).doze = .awake) (hallow : s.dozeAllowed l = true) (hp : (s.lane l).partnerDozeOk = true)
    (hr : s.refHold l = false) (he : s.egressWaiting l = false) (hd : s.driverIdle l = false) : dozeIdleExpired l s =
      (s.setLane l { s.lane l with doze := .entering }).emits [.ordered l 0xD50200, .ordered l 0xD50200, .ordered l 0xD50200] :=
  if_neg (by simp [ha, hallow, hp, hr, he, hd])

/-- The lane that has entered doze, with a trigger as it was. -/
theorem State.wakeTrigger_entered (hs : Tab.sorted s.lanes = true) :
    (s.setLane l { s.lane l with doze := .dozing, txDoze := true }).wakeTrigger l = s.wakeTrigger l := by
  unfold State.wakeTrigger State.dozeOk
  rw [State.lane_setLane hs]
  rfl

theorem State.wake_dozing (hx : (s.lane l).doze = .dozing) (hd : s.driverIdle l = false) :
    s.wake l = (s.setLane l { s.lane l with doze := .exiting }).emit (.ordered l 0) :=
  (if_pos hx).trans (if_neg (by rw [Bool.not_eq_true]; exact hd))

theorem State.wake_setLane {x : Lane} (hs : Tab.sorted s.lanes = true) (hx : x.doze = .dozing) (hd : s.driverIdle l = false) :
    (s.setLane l x).wake l = ((s.setLane l x).setLane l { x with doze := .exiting }).emit (.ordered l 0) := by
  have hput := s.lane_setLane (l := l) (x := x) hs
  have hwake : (s.setLane l x).wake l = _ := State.wake_dozing (by rw [hput, hx]) hd
  rw [hwake, hput]

theorem dozeEntryEnd_dozes (hx : (s.lane l).doze = .entering) (hs : Tab.sorted s.lanes = true) (hw : s.wakeTrigger l = false) :
    dozeEntryEnd l s = s.setLane l { s.lane l with doze := .dozing, txDoze := true } := by
  rw [dozeEntryEnd]
  dsimp only
  rw [State.wakeTrigger_entered hs, hw, if_neg (not_not.mpr hx), if_neg Bool.false_ne_true]

theorem dozeEntryEnd_wakes (hx : (s.lane l).doze = .entering) (hs : Tab.sorted s.lanes = true) (hw : s.wakeTrigger l = true)
    (hd : s.driverIdle l = false) : dozeEntryEnd l s =
      ((s.setLane l { s.lane l with doze := .dozing, txDoze := true }).setLane l { s.lane l with doze := .exiting, txDoze := true }).emit
        (.ordered l 0) := by
  rw [dozeEntryEnd]
  dsimp only
  rw [State.wakeTrigger_entered hs, hw, if_neg (not_not.mpr hx), if_pos rfl]
  exact State.wake_setLane hs rfl hd

/-- The exit ends and what the lane owes its partner leaves. -/
theorem dozeExitComplete_awake (hx : (s.lane l).doze = .exiting) (hs : Tab.sorted s.lanes = true) :
    (dozeExitComplete l s).keeps s [.lanes, .out] ∧ ∃ may f,
      LaneTo l { s.lane l with doze := .awake, txDoze := false, lpiTx := may, flagsSent := f } (dozeExitComplete l s) s := by
  rw [dozeExitComplete]
  dsimp only
  rw [if_neg (not_not.mpr hx)]
  have hput : LaneTo l { s.lane l with doze := .awake, txDoze := false } (s.setLane l _) s := State.setLane_laneTo hs
  obtain ⟨f, hf⟩ := State.dozeChanged_laneTo l hput.sorted
  rw [hput.lane, Lane.dozeTo, if_neg (by simp)] at hf
  refine ⟨(State.dozeChanged_laned _ l).keeps.trans ((s.setLane_keeps l _).mono (by simp)), _, f, hf.trans hput⟩

theorem dozeFlagsPeriodic_sends (he : (s.lane l).dozeEn = true) (h7 : (s.lane l).step = 7) (ha : (s.lane l).doze = .awake)
    (hd : s.driverIdle l = false) : dozeFlagsPeriodic l s =
      (s.setLane l { s.lane l with flagsSent := some (s.dozeOk l) }).emit (.ordered l (0xD50100 + (s.dozeOk l).toNat)) :=
  (if_pos ⟨he, h7, ha⟩).trans (if_neg (by rw [Bool.not_eq_true]; exact hd))

theorem dozeFlagsPeriodic_silent (h : (s.lane l).dozeEn = false ∨ (s.lane l).step ≠ 7 ∨ (s.lane l).doze ≠ .awake ∨ s.driverIdle l = true) :
    dozeFlagsPeriodic l s = s := by
  unfold dozeFlagsPeriodic
  dsimp only
  split
  next hx =>
    obtain ⟨he, h7, ha⟩ := hx
    have hidle : s.driverIdle l = true := by simpa [he, h7, ha] using h
    exact if_pos hidle
  · rfl

/-! ### What the partner sends (R116, R117) -/

theorem dozeFlagsReceived_eq (h7 : (s.lane l).step = 7) (ok : Bool) : dozeFlagsReceived l ok s =
    let t := (s.setLane l { s.lane l with chotonPartner := true, partnerDozeOk := ok }).dozeChanged l
    if ok then t else t.wake l := if_neg (not_not.mpr h7)

theorem dozeFlagsReceived_laneTo (h7 : (s.lane l).step = 7) (hs : Tab.sorted s.lanes = true) (ok : Bool) :
    ∃ may dz f, LaneTo l { s.lane l with
        chotonPartner := true, partnerDozeOk := ok, lpiTx := (s.lane l).lpiTx && may, doze := dz, flagsSent := f } (dozeFlagsReceived l ok s) s ∧
      ((s.lane l).dozeEn = true → may = false) ∧ (ok = false → dz ≠ .dozing) := by
  have hput : LaneTo l { s.lane l with chotonPartner := true, partnerDozeOk := ok } (s.setLane l _) s := State.setLane_laneTo hs
  obtain ⟨f, hf⟩ := State.dozeChanged_laneTo l hput.sorted
  have hmay (he : (s.lane l).dozeEn = true) :
      (s.setLane l { s.lane l with chotonPartner := true, partnerDozeOk := ok }).lpiMay l = false := by
    rw [State.lpiMay, hput.lane]
    simp [he]
  rw [hput.lane] at hf
  have ht := hf.trans hput
  rw [dozeFlagsReceived_eq h7]
  dsimp only
  cases ok with
  | true =>
    rw [if_pos rfl]
    exact ⟨_, _, f, ht, hmay, by simp⟩
  | false =>
    rw [if_neg Bool.false_ne_true]
    have hw := State.wake_laneTo l hf.sorted
    rw [hf.lane] at hw
    refine ⟨_, _, f, hw.trans ht, hmay, fun _ => ?_⟩
    split
    · exact Doze.noConfusion
    next hx => exact hx

theorem dozeFlagsReceived_keeps (h7 : (s.lane l).step = 7) (ok : Bool) : (dozeFlagsReceived l ok s).keeps s [.lanes, .out] := by
  have ht := (State.dozeChanged_laned _ l).trans (s.setLane_laned l { s.lane l with chotonPartner := true, partnerDozeOk := ok })
  rw [dozeFlagsReceived_eq h7]
  cases ok with
  | true =>
    rw [if_pos rfl]
    exact ht.keeps
  | false =>
    rw [if_neg Bool.false_ne_true]
    exact ((State.wake_laned _ l).trans ht).keeps

theorem dozeEnterReceived_eq (h7 : (s.lane l).step = 7) :
    dozeEnterReceived l s = (s.setLane l { s.lane l with rxDoze := true }).checkLane l := if_neg (not_not.mpr h7)

theorem State.lpiMay_false (h : (s.lane l).lpiEn = false ∨ (s.lane l).medium = 0 ∨ (s.lane l).step ≠ 7 ∨ s.inTq l = true ∨
    s.refHold l = true ∨ ((s.lane l).dozeEn = true ∧ (s.lane l).chotonPartner = true)) : s.lpiMay l = false := by
  obtain h | h | h | h | h | ⟨h, h'⟩ := h <;> simp [State.lpiMay, *]

/-! ### The end of a scan (R124-R127, R133) -/

/-- The results of a scan (R125, R126, R134). -/
def eyeOf (rows : List EyeErr) (dwell : Nat) (bad : Bool) : Eye :=
  let eye := (rows.take 129).map (fun r => eyeRow r dwell) ++ List.replicate (129 - (rows.take 129).length) ({} : EyeRow)
  let fig := eyeFigures eye (deepestOf dwell)
  { stat := if bad then 2 else 1, dwell := dwell, deepest := deepestOf dwell
    finePoints := (rows.take 129).foldl (fun n r => n + pointsOf r dwell) 0, width := fig.1, height := fig.2, rows := eye }

theorem eyeOf_finePoints (rows : List EyeErr) (dwell : Nat) (bad : Bool) :
    (eyeOf rows dwell bad).finePoints = ((rows.take 129).map (fun r => pointsOf r dwell)).sum := by
  rw [List.sum_eq_foldl, List.foldl_map]
  rfl

theorem eyeOf_rows_length (rows : List EyeErr) (dwell : Nat) (bad : Bool) : (eyeOf rows dwell bad).rows.length = 129 := by
  simp only [eyeOf, List.length_append, List.length_map, List.length_replicate, List.length_take]
  omega

/-- The one command in progress completes. -/
theorem State.completeFirst_only {c : Ctx} {w : Work} {p : Work → Bool} (hj : s.axg.jobs = [{ ctx := c, work := w }]) (hp : p w = true)
    (r : Rpl) : s.completeFirst p r = ({ s with axg := { s.axg with jobs := [] } }).complete c r := by
  simp [State.completeFirst, State.findJob, hj, hp]

theorem sketchScanEnd_idle (rows : List EyeErr) (lost : Bool) (h : s.findJob (isSketch l) = none ∨ (s.lane l).sketching = false) :
    sketchScanEnd l rows lost s = s := by
  unfold sketchScanEnd
  dsimp only
  split
  next c d hj =>
    refine if_pos (h.resolve_left ?_)
    simp [hj]
  · rfl

theorem Replied.jobs {t : State} (h : Replied t s) : t.axg.jobs = s.axg.jobs := by
  obtain ⟨_, _, _, _, _, _, _, _, _, _, _, rfl, -, -, -⟩ := h
  rfl

/-- A scan whose command alone is in progress stores its result. -/
theorem sketchScanEnd_stores {d : Nat} {c : Ctx} (rows : List EyeErr) (lost : Bool) (hs : Tab.sorted s.lanes = true)
    (hj : s.axg.jobs = [{ ctx := c, work := .sketch l d }]) (hc : c.mirrored = false) (hx : (s.lane l).sketching = true) :
    (sketchScanEnd l rows lost s).axg.jobs = [] ∧ ∃ may ok f, LaneTo l (Lane.dozeTo { s.lane l with
      sketching := false, scanLost := false, eye := eyeOf rows d (lost || (s.lane l).scanLost) } may ok f) (sketchScanEnd l rows lost s) s := by
  have hfind : s.findJob (isSketch l) = some { ctx := c, work := .sketch l d } := by simp [State.findJob, hj, isSketch]
  let x : Lane := { s.lane l with sketching := false, scanLost := false, eye := eyeOf rows d (lost || (s.lane l).scanLost) }
  let a := (s.setLane l x).dropJobs (fun j => decide (j = JobFor.sketch l))
  let b := a.completeFirst (isSketch l) (okRpl (eyeHead x 0 0))
  have hend : sketchScanEnd l rows lost s = (b.dozeChanged l).serveSketch l := by
    unfold sketchScanEnd
    rw [hfind]
    exact if_neg (by simp [hx])
  have ha : LaneTo l x a s := .kept (t := s.setLane l x) ⟨rfl, rfl⟩ (State.setLane_laneTo hs)
  have hb : LaneTo l x b s := ha.kept (a.completeFirst_completed _ _).linksKept.toLanesKept
  obtain ⟨f, hf⟩ := State.dozeChanged_laneTo l hb.sorted
  rw [hb.lane] at hf
  have hjobs : (b.dozeChanged l).axg.jobs = [] := by
    obtain ⟨_, _, hlaned⟩ := b.dozeChanged_laned l
    have hb : b = _ := State.completeFirst_only (s := a) hj (decide_eq_true rfl) _
    rw [hlaned, hb]
    exact (State.complete_replied _ _ hc).jobs
  have hserve : (b.dozeChanged l).serveSketch l = b.dozeChanged l := by
    rw [State.serveSketch, hjobs]
    rfl
  rw [hend, hserve]
  exact ⟨hjobs, b.lpiMay l, b.dozeOk l, f, hf.trans hb⟩

end

/-! ### The obligation -/

/-- Settles O51: each row by whether its lane is in the state for it. -/
theorem laneDoze : Obligations.LaneDoze := by
  refine ⟨fun s l hl ha hallow hp hr he hd => ?_, fun s l hl h => ?_, fun s l hl hx hs => ⟨fun hw => ?_, fun hw hd => ?_⟩,
    fun s l hl hx => ?_, fun s l hl hw hx hd => ?_, fun s l hl h => ?_, fun s l hl hx hs => ?_, fun s l hl hx => ?_,
    fun s l hl he h7 ha hd => ?_, fun s l hl h => ?_, fun s l b hl h7 => ⟨?_, ?_⟩, fun s l hl h7 hs => ?_,
    fun s l hl h7 hs => ⟨?_, ?_⟩, fun s l hl => ?_, fun s l b hl hx => ?_, fun s l hl hx => ?_,
    fun s l b hl => ⟨?_, ?_, State.lpiMay_false⟩, fun s l rows lost hl h => ?_,
    fun s l d c rows lost hl hs hj hc hx => ?_⟩
  · exact laneRow_next (dozeIdleExpired l) rfl hl (dozeIdleExpired_enters ha hallow hp hr he hd)
  · exact laneRow_next (dozeIdleExpired l) rfl hl (if_pos h)
  · exact laneRow_next (dozeEntryEnd l) rfl hl (dozeEntryEnd_dozes hx hs hw)
  · refine laneRow_completes (dozeEntryEnd l) rfl hl ?_
    rw [dozeEntryEnd_wakes hx hs hw hd]
    have hput := s.setLane_laneTo (l := l) (x := { s.lane l with doze := .dozing, txDoze := true }) hs
    have hto := (State.setLane_laneTo (x := { s.lane l with doze := .exiting, txDoze := true }) hput.sorted).trans hput
    exact ⟨((State.emit_laned _ _).trans ((State.setLane_laned _ l _).trans (s.setLane_laned l _))).keeps, rfl, hto.lane, hto.other⟩
  · exact laneRow_next (dozeEntryEnd l) rfl hl (if_pos hx)
  · exact laneRow_next (dozeWake l) rfl hl ((if_pos hw).trans (State.wake_dozing hx hd))
  · refine laneRow_next (dozeWake l) rfl hl ?_
    unfold dozeWake
    split
    next hw => exact if_neg (h.resolve_left (by simp [hw]))
    · rfl
  · obtain ⟨hk, _, _, hto⟩ := dozeExitComplete_awake hx hs
    refine laneRow_completes (dozeExitComplete l) rfl hl ⟨hk, ?_, hto.other⟩
    rw [hto.lane]
  · exact laneRow_next (dozeExitComplete l) rfl hl (if_pos hx)
  · exact laneRow_next (dozeFlagsPeriodic l) rfl hl (dozeFlagsPeriodic_sends he h7 ha hd)
  · exact laneRow_next (dozeFlagsPeriodic l) rfl hl (dozeFlagsPeriodic_silent h)
  · exact laneRow_next (dozeFlagsReceived l b) rfl hl (if_pos h7)
  · exact laneRow_next (dozeEnterReceived l) rfl hl (if_pos h7)
  · obtain ⟨may, dz, f, hto, hmay, -⟩ := dozeFlagsReceived_laneTo h7 hs true
    refine laneRow_completes (dozeFlagsReceived l true) rfl hl ⟨dozeFlagsReceived_keeps h7 true, ?_, fun he => ?_, hto.other⟩
    · rw [hto.lane]
    · rw [hto.lane, hmay he]
      exact Bool.and_false _
  · obtain ⟨may, dz, f, hto, -, hdz⟩ := dozeFlagsReceived_laneTo h7 hs false
    refine laneRow_completes (dozeFlagsReceived l false) rfl hl ⟨dozeFlagsReceived_keeps h7 false, ?_, ?_⟩
    · rw [hto.lane]
    · rw [hto.lane]
      exact hdz rfl
  · have hput := s.setLane_laneTo (l := l) (x := { s.lane l with rxDoze := true }) hs
    have hcheck := State.checkLane_referred (s.setLane l { s.lane l with rxDoze := true }) l
    have hto := hput.kept hcheck.linksKept.toLanesKept
    refine laneRow_completes (dozeEnterReceived l) rfl hl ?_
    rw [dozeEnterReceived_eq h7]
    exact ⟨hto.lane, hto.other, (hcheck.keeps.mono (by simp)).trans ((s.setLane_keeps l _).mono (by simp))⟩
  · exact laneRow_next (dozeBurstReceived l) rfl hl rfl
  · exact laneRow_next (dozeBurstMissed l b) rfl hl (if_pos hx)
  · exact laneRow_next (dozeBurstMissed l true) rfl hl (if_neg (by simp [hx]))
  · exact laneRow_next (lpiTransition l false b) rfl hl rfl
  · exact ⟨_, laneRow_next (lpiTransition l true b) rfl hl rfl⟩
  · exact laneRow_next (sketchScanEnd l rows lost) rfl hl (sketchScanEnd_idle rows lost h)
  · obtain ⟨hjobs, may, ok, f, hto⟩ := sketchScanEnd_stores rows lost hs hj hc hx
    refine laneRow_completes (sketchScanEnd l rows lost) rfl hl ⟨hjobs, ?_⟩
    rw [hto.lane]
    refine ⟨rfl, ?_, rfl, rfl, eyeOf_finePoints _ _ _, eyeOf_rows_length _ _ _, hto.other⟩
    simp [Lane.dozeTo, eyeOf]

end Sys2Proof.Machine
end

section
/-! The bring-up of a lane (R100-R112): the exits and limits of its steps, polarity, training, and the loss of lock or signal. -/

namespace Sys2Proof.Machine

open Sys2Proof

theorem Logged.keeps {s t : State} (h : Logged t s) : t.keeps s [.buf, .clk, .cru] := by
  obtain ⟨_, _, _, _, _, _, rfl⟩ := h
  intro q hq
  cases q <;> simp [Part.same] at hq ⊢

section
variable {s : State} {l : Nat}

/-! ### A lane takes a value and changes step -/

theorem State.modLane_laneTo (f : Lane → Lane) (hs : Tab.sorted s.lanes = true) : LaneTo l (f (s.lane l)) (s.modLane l f) s :=
  State.setLane_laneTo hs

theorem LaneTo.modLane {t : State} {x : Lane} (h : LaneTo l x t s) (f : Lane → Lane) : LaneTo l (f x) (t.modLane l f) s := by
  have hf := State.modLane_laneTo (l := l) f h.sorted
  rw [h.lane] at hf
  exact hf.trans h

theorem LaneTo.laneStep {t : State} {x : Lane} (h : LaneTo l x t s) (n : Nat) : LaneTo l (x.stepped n) (t.laneStep l n) s := by
  have hn := State.laneStep_laneTo l n h.sorted
  rw [h.lane] at hn
  exact hn.trans h

theorem LaneTo.laneRestart {t : State} {x : Lane} (h : LaneTo l x t s) (n : Nat) : LaneTo l (x.restarted n) (t.laneRestart l n) s := by
  have hn := State.laneRestart_laneTo l n h.sorted
  rw [h.lane] at hn
  exact hn.trans h

theorem LaneTo.laneArrived {t : State} {x : Lane} (h : LaneTo l x t s) :
    ∃ may ok f, LaneTo l (Lane.dozeTo { x.stepped 7 with preset := false } may ok f) (t.laneArrived l) s := by
  obtain ⟨may, ok, f, hn⟩ := State.laneArrived_laneTo l h.sorted
  rw [h.lane] at hn
  exact ⟨may, ok, f, hn.trans h⟩

/-- Out of a step other than 7 a change of step changes the lane and raises an event. -/
theorem State.laneStep_keeps {n : Nat} (hn : (s.lane l).step ≠ n) (h7 : (s.lane l).step ≠ 7) :
    (s.laneStep l n).keeps s [.lanes, .buf, .clk, .cru] :=
  ((State.laneStep_logged l n hn h7).keeps.mono (by simp)).trans ((s.setLane_keeps l _).mono (by simp))

/-- A lane takes a value of another step than 7 and goes to a third. -/
theorem State.setLane_laneStep_keeps (hs : Tab.sorted s.lanes = true) {x : Lane} {n : Nat} (hn : x.step ≠ n) (h7 : x.step ≠ 7) :
    ((s.setLane l x).laneStep l n).keeps s [.lanes, .buf, .clk, .cru] := by
  have hx := s.lane_setLane (l := l) (x := x) hs
  exact (State.laneStep_keeps (by rw [hx]; exact hn) (by rw [hx]; exact h7)).trans ((s.setLane_keeps l x).mono (by simp))

/-! ### Polarity (R101) -/

theorem Lane.polarity_frame (x : Lane) (p : Pol) : ∃ b, x.polarity p = { x with rxInverted := b } := by
  unfold Lane.polarity
  split
  · exact ⟨_, rfl⟩
  · cases p <;> dsimp only <;> (repeat' split) <;> exact ⟨_, rfl⟩

theorem Lane.polarity_step (x : Lane) (p : Pol) : (x.polarity p).step = x.step := by
  obtain ⟨_, h⟩ := x.polarity_frame p
  rw [h]

theorem Lane.polarity_marker {x : Lane} (ha : x.rxPolAuto = true) (h4 : x.step = 4) :
    (x.polarity (.marker 0x0000FFFF)).rxInverted = true ∧ (x.polarity (.marker 0xFFFF0000)).rxInverted = false := by
  simp [Lane.polarity, ha, h4]

theorem Lane.polarity_blocks {x : Lane} {n : Nat} (ha : x.rxPolAuto = true) (h5 : x.step = 5) (hr : 2 ≤ x.rate) (ht : x.trains = false) :
    (x.polarity (.blocks n)).rxInverted = decide (48 < n) := by
  simp [Lane.polarity, ha, h5, hr, ht]

/-! ### Exits of a step (R100, R104, R105, R108, R109) -/

theorem laneStepExit_none {v : Pol} {o : Nat} (h : (s.lane l).enable = false ∨ (s.lane l).step = 0 ∨ (s.lane l).step = 7) :
    laneStepExit l v o s = s := by
  unfold laneStepExit
  dsimp only
  split
  · rfl
  next he =>
    obtain h | h := h.resolve_left he <;> rw [h] <;> rfl

section
variable {v : Pol} {o : Nat} (he : (s.lane l).enable = true)
include he

theorem laneStepExit_pll (hn : (s.lane l).step = 1) :
    laneStepExit l v o s = (s.modLane l (fun x => { x with pllLock := true })).laneStep l 2 := by
  rw [laneStepExit, if_neg (by simp [he]), hn]
  rfl

theorem laneStepExit_held (hn : (s.lane l).step = 2) (hh : s.laneHeld l = true) : laneStepExit l v o s = s := by
  rw [laneStepExit, if_neg (by simp [he]), hn]
  exact if_pos hh

theorem laneStepExit_signal (hn : (s.lane l).step = 2) (hh : s.laneHeld l = false) :
    laneStepExit l v o s = (s.modLane l (fun x => { x with signal := true })).laneStep l 3 := by
  rw [laneStepExit, if_neg (by simp [he]), hn]
  exact if_neg (by simp [hh])

/-- The state with the lane's CDR locked. -/
def State.cdrLocked (s : State) (l : Nat) : State :=
  s.modLane l (fun x => { x with cdrLock := true, rxReady := false, coarseRx := s.clk.tick + 2500 })

omit he in
theorem State.cdrLocked_laneTo (hs : Tab.sorted s.lanes = true) :
    LaneTo l { s.lane l with cdrLock := true, rxReady := false, coarseRx := s.clk.tick + 2500 } (s.cdrLocked l) s := State.setLane_laneTo hs

theorem laneStepExit_untrained (hn : (s.lane l).step = 3) (hb : (s.lane l).burst = false) (ht : (s.lane l).trains = false) :
    laneStepExit l v o s = ((s.cdrLocked l).modLane l (fun x => { x with taps := x.cfgTaps })).laneStep l 5 := by
  rw [laneStepExit, if_neg (by simp [he]), hn]
  exact (if_neg (by simp [hb])).trans (if_neg (by simp [ht]))

theorem laneStepExit_trains (hn : (s.lane l).step = 3) (hb : (s.lane l).burst = false) (ht : (s.lane l).trains = true) :
    laneStepExit l v o s = (((s.cdrLocked l).modLane l (fun x => { x with trained := false })).startTraining l).laneStep l 4 := by
  rw [laneStepExit, if_neg (by simp [he]), hn]
  exact (if_neg (by simp [hb])).trans (if_pos ht)

theorem laneStepExit_trained (hn : (s.lane l).step = 4) :
    laneStepExit l v o s = (s.setLane l ((s.lane l).polarity v)).trainingDone l := by
  rw [laneStepExit, if_neg (by simp [he]), hn]
  rfl

theorem laneStepExit_blockLock (hn : (s.lane l).step = 5) (hq : s.inTq l = false) :
    laneStepExit l v o s = (s.setLane l { (s.lane l).polarity v with blockLock := true }).laneArrived l := by
  rw [laneStepExit, if_neg (by simp [he]), hn]
  exact if_neg (by rw [Bool.not_eq_true]; exact hq)

end

theorem State.trainingDone_laneTo {t : State} {x : Lane} (h : LaneTo l x t s) :
    LaneTo l (Lane.stepped { x with rxReady := true, trained := true } 5) (t.trainingDone l) s :=
  (h.modLane (fun x => { x with rxReady := true, trained := true })).laneStep 5

theorem State.trainingDone_keeps (hs : Tab.sorted s.lanes = true) (h4 : (s.lane l).step = 4) :
    (s.trainingDone l).keeps s [.lanes, .buf, .clk, .cru] :=
  State.setLane_laneStep_keeps hs (by simp [h4]) (by simp [h4])

/-- No LANE.TRAIN is in progress, so that training is charged as it starts (R485). -/
theorem State.chargeTraining_free (h : s.axg.jobs.all (fun j => match j.work with | .laneTrain _ _ _ => false | _ => true) = true) :
    s.chargeTraining l = s.charge 1800 := by
  refine if_neg ?_
  simp only [List.any_eq_true, not_exists, not_and]
  intro j hj
  have hw := List.all_eq_true.mp h j hj
  cases hwork : j.work <;> simp_all

theorem State.laneSends_on {o : Output} (h : s.driverIdle l = false) : s.laneSends l o = s.emit o := if_neg (by simp [h])

/-- The lane as its training starts. -/
def Lane.training (x : Lane) : Lane := { x with taps := x.cfgTaps, rxReady := false, reqs := 1, foms := [] }

/-- A lane whose driver is on starts training with its own receiver's first request. -/
theorem State.startTraining_starts {t : State} {x : Lane} (ht : LaneTo l x t s)
    (hj : t.axg.jobs.all (fun j => match j.work with | .laneTrain _ _ _ => false | _ => true) = true) (hd : t.driverIdle l = false) :
    t.startTraining l = ((t.setLane l x.training).charge 1800).emit (.cl72Request l (if x.preset then 2 ^ 13 else 2 ^ 12)) := by
  have hput : ((t.setLane l x.training).charge 1800).lane l = x.training := t.lane_setLane ht.sorted
  have hmod : t.modLane l (fun (x : Lane) => { x with taps := x.cfgTaps, rxReady := false, reqs := 1, foms := [] }) =
      t.setLane l x.training := by
    rw [State.modLane, ht.lane]
    rfl
  unfold State.startTraining
  rw [hmod, State.chargeTraining_free (s := t.setLane l x.training) hj]
  dsimp only
  rw [State.laneSends_on (s := (t.setLane l x.training).charge 1800) hd, hput]
  rfl

theorem State.emit_charge_setLane_keeps (s : State) (l : Nat) (x : Lane) (k : Nat) (o : Output) :
    (((s.setLane l x).charge k).emit o).keeps s [.lanes, .led, .out] := by
  intro q hq
  cases q <;> simp [Part.same] at hq ⊢

/-- A lane of step 3 whose training starts is in step 4, charged, and its first request has left. -/
theorem State.startTraining_laneStep {t : State} {x : Lane} (ht : LaneTo l x t s) (hts : t.keeps s [.lanes]) (hx : x.step = 3)
    (hj : t.axg.jobs.all (fun j => match j.work with | .laneTrain _ _ _ => false | _ => true) = true) (hd : t.driverIdle l = false) :
    ((t.startTraining l).laneStep l 4).keeps s [.lanes, .buf, .clk, .cru, .led, .out] ∧
      ((t.startTraining l).laneStep l 4).lane l = x.training.stepped 4 ∧
      ((t.startTraining l).laneStep l 4).led.credit = s.led.credit - 1800 ∧
      ((t.startTraining l).laneStep l 4).out = s.out ++ [.cl72Request l (if x.preset then 2 ^ 13 else 2 ^ 12)] := by
  rw [State.startTraining_starts ht hj hd]
  have hkeeps := State.emit_charge_setLane_keeps t l x.training 1800 (.cl72Request l (if x.preset then 2 ^ 13 else 2 ^ 12))
  have hled : (((t.setLane l x.training).charge 1800).emit (.cl72Request l (if x.preset then 2 ^ 13 else 2 ^ 12))).led.credit =
      t.led.credit - 1800 := rfl
  have hout : (((t.setLane l x.training).charge 1800).emit (.cl72Request l (if x.preset then 2 ^ 13 else 2 ^ 12))).out =
      t.out ++ [.cl72Request l (if x.preset then 2 ^ 13 else 2 ^ 12)] := rfl
  have hput : LaneTo l x.training (((t.setLane l x.training).charge 1800).emit (.cl72Request l (if x.preset then 2 ^ 13 else 2 ^ 12))) s :=
    .kept (t := t.setLane l x.training) ⟨rfl, rfl⟩ ((State.setLane_laneTo ht.sorted).trans ht)
  generalize ((t.setLane l x.training).charge 1800).emit (.cl72Request l (if x.preset then 2 ^ 13 else 2 ^ 12)) = b at *
  have hstep : x.training.step = 3 := hx
  have hk : (b.laneStep l 4).keeps b [.lanes, .buf, .clk, .cru] :=
    State.laneStep_keeps (by rw [hput.lane, hstep]; decide) (by rw [hput.lane, hstep]; decide)
  have hled' : (b.laneStep l 4).led = b.led := hk .led (by decide)
  have hout' : (b.laneStep l 4).out = b.out := hk .out (by decide)
  have hleds : t.led = s.led := hts .led (by decide)
  have houts : t.out = s.out := hts .out (by decide)
  refine ⟨(hk.mono (by simp)).trans ((hkeeps.mono (by simp)).trans (hts.mono (by simp))), (hput.laneStep 4).lane, ?_, ?_⟩
  · rw [hled', hled, hleds]
  · rw [hout', hout, houts]

/-! ### Limits and losses (R100, R110) -/

theorem Lane.restartStep_two {x : Lane} (he : x.enable = true) (h : 2 ≤ x.step) : x.restartStep 2 = 2 := by
  rw [Lane.restartStep, if_pos he]
  omega

theorem Lane.restartStep_three {x : Lane} (he : x.enable = true) (h : 3 ≤ x.step) : x.restartStep 3 = 3 := by
  rw [Lane.restartStep, if_pos he]
  omega

theorem Lane.restartStep_le (x : Lane) (n : Nat) : x.restartStep n ≤ n := by
  unfold Lane.restartStep
  split <;> omega

section
variable (he : (s.lane l).enable = true) (hsolo : (s.lane l).solo = false) (hq : s.inTq l = false)
include he hsolo hq

theorem laneStepTimeout_at : laneStepTimeout l s =
    if (s.lane l).step = 1 then s.queueEvent .data none
    else if (s.lane l).step = 3 then (if (s.lane l).burst then s else s.laneRestart l 2)
    else if (s.lane l).step = 4 then s.startTraining l
    else if (s.lane l).step = 5 then s.laneRestart l 3
    else if (s.lane l).step = 6 then s.lanesRestart [l] 3
    else s := by
  unfold laneStepTimeout
  rw [State.groupOf_alone hq]
  dsimp only
  rw [if_neg (by simp [he]), if_neg (by simp [hsolo])]
  split <;> simp_all

end

/-- Signal lost in a step before 6 takes the lane back to step 2. -/
theorem laneSignalLoss_back (hb : (s.lane l).burst = false) (h3 : 3 ≤ (s.lane l).step) (h6 : (s.lane l).step < 6) :
    laneSignalLoss l s = s.laneRestart l 2 := by
  unfold laneSignalLoss
  dsimp only
  rw [if_neg (by simp [hb]), if_neg (by omega), if_neg (by omega), if_neg (by omega)]

theorem laneSignalLoss_quiet (hb : (s.lane l).burst = false)
    (h : (s.lane l).step < 3 ∨ ((s.lane l).step = 7 ∧ ((s.lane l).rxDoze = true ∨ (s.lane l).lpiRx = true))) : laneSignalLoss l s = s := by
  unfold laneSignalLoss
  dsimp only
  rw [if_neg (by simp [hb])]
  obtain h | ⟨h7, h⟩ := h
  · rw [if_neg (by omega), if_pos h]
  · rw [if_pos h7, if_pos h]

theorem laneSignalLoss_loses (hb : (s.lane l).burst = false) (h7 : (s.lane l).step = 7) (hr : (s.lane l).rxDoze = false)
    (hl : (s.lane l).lpiRx = false) : laneSignalLoss l s = (s.setLane l { s.lane l with signal := false }).lockLoss l := by
  unfold laneSignalLoss
  dsimp only
  rw [if_neg (by simp [hb]), if_pos h7, if_neg (by simp [hr, hl])]

theorem LaneTo.lockLoss {t : State} {x : Lane} (h : LaneTo l x t s) (h7 : x.step = 7) (hq : s.inTq l = false) :
    LaneTo l (Lane.stepped { x with
      lockLosses := inc8 x.lockLosses, cdrLock := false, blockLock := false, burst := true, attempts := 0, solo := false } 3)
      (t.lockLoss l) s := by
  have hn := State.lockLoss_laneTo l h.sorted (by rw [h.lane, h7]) (by rw [h.inTq, hq])
  rw [h.lane] at hn
  exact hn.trans h

/-! ### Burst attempts (R110) -/

theorem burstEnd_locks (hb : (s.lane l).burst = true) (hq : s.inTq l = false) : burstEnd l true s =
    (s.setLane l { s.lane l with
      burst := false, signal := true, cdrLock := true, blockLock := true, attempts := 0, coarseRx := s.clk.tick + 2500 }).laneArrived l := by
  unfold burstEnd
  dsimp only
  rw [if_neg (by simp [hb]), if_pos rfl]
  exact if_neg (by rw [Bool.not_eq_true]; exact hq)

theorem burstEnd_tries (hb : (s.lane l).burst = true) (ha : (s.lane l).attempts + 1 < 3) : burstEnd l false s =
    (s.setLane l { s.lane l with attempts := (s.lane l).attempts + 1 }).charge 60 := by
  unfold burstEnd
  dsimp only
  rw [if_neg (by simp [hb]), if_neg Bool.false_ne_true, if_pos ha]
  rfl

theorem burstEnd_fails (hb : (s.lane l).burst = true) (ha : 2 ≤ (s.lane l).attempts) (hq : s.inTq l = false) : burstEnd l false s =
    (s.setLane l { s.lane l with retrainFails := inc8 (s.lane l).retrainFails }).laneRestart l 2 := by
  unfold burstEnd
  rw [State.groupOf_alone hq]
  dsimp only
  rw [if_neg (by simp [hb]), if_neg Bool.false_ne_true, if_neg (by omega)]
  simp [State.lanesRestart]

end

end Sys2Proof.Machine
end

section
/-! Training of a lane (R105-R109): requests on its taps, and the reports its own receiver answers. -/

namespace Sys2Proof.Machine

open Sys2Proof

section
variable {s : State} {l q m : Nat}

/-! ### Requests on the taps (R106, R107) -/

/-- A request moves a tap by at most one, within its limit and the sum of the three. -/
theorem tapRequest_bounds (inv : Bool) {v hi rest : Nat} (r : Nat) (hv : v ≤ hi) (hsum : v + rest ≤ 63) :
    (tapRequest inv v hi rest r).1 ≤ hi ∧ (tapRequest inv v hi rest r).1 + rest ≤ 63 ∧ (tapRequest inv v hi rest r).1 ≤ v + 1 ∧
      v ≤ (tapRequest inv v hi rest r).1 + 1 := by
  unfold tapRequest
  dsimp only
  repeat' split
  all_goals omega

/-- A request to hold leaves the tap as it is. -/
theorem tapRequest_hold (inv : Bool) (v hi rest : Nat) : (tapRequest inv v hi rest 0).1 = v := by
  cases inv <;> rfl

/-- The taps a request of the partner asks for, each within what the others leave. -/
def Taps.requested (t : Taps) (q : Nat) : Taps :=
  let a := (tapRequest true t.pre 15 (t.main + t.post) (q % 4)).1
  let b := (tapRequest false t.main 63 (a + t.post) (q / 4 % 4)).1
  { pre := a, main := b, post := (tapRequest true t.post 31 (a + b) (q / 16 % 4)).1 }

theorem Taps.requested_bounds {t : Taps} (hpre : t.pre ≤ 15) (hmain : t.main ≤ 63) (hpost : t.post ≤ 31) (hsum : t.sumOk = true) :
    let y := t.requested q
    y.sumOk = true ∧ y.pre ≤ 15 ∧ y.main ≤ 63 ∧ y.post ≤ 31 ∧ y.pre ≤ t.pre + 1 ∧ t.pre ≤ y.pre + 1 ∧ y.main ≤ t.main + 1 ∧
      t.main ≤ y.main + 1 ∧ y.post ≤ t.post + 1 ∧ t.post ≤ y.post + 1 := by
  have hsum : t.pre + t.main + t.post ≤ 63 := by simpa [Taps.sumOk] using hsum
  unfold Taps.requested
  extract_lets a b y
  obtain ⟨ha, hasum, haup, hadown⟩ := tapRequest_bounds true (q % 4) hpre (show t.pre + (t.main + t.post) ≤ 63 by omega)
  obtain ⟨hb, hbsum, hbup, hbdown⟩ := tapRequest_bounds false (q / 4 % 4) hmain (show t.main + (a + t.post) ≤ 63 by unfold a; omega)
  obtain ⟨hc, hcsum, hcup, hcdown⟩ := tapRequest_bounds true (q / 16 % 4) hpost (show t.post + (a + b) ≤ 63 by unfold b; omega)
  exact ⟨decide_eq_true (by change a + b + (tapRequest true t.post 31 (a + b) (q / 16 % 4)).1 ≤ 63; omega), ha, hb, hc, haup, hadown, hbup, hbdown, hcup, hcdown⟩

theorem Taps.requested_hold {t : Taps} (hq : q % 64 = 0) : t.requested q = t := by
  have h0 : q % 4 = 0 := by omega
  have h1 : q / 4 % 4 = 0 := by omega
  have h2 : q / 16 % 4 = 0 := by omega
  simp only [Taps.requested, h0, h1, h2, tapRequest_hold]

section
variable (h4 : (s.lane l).step = 4)
include h4

/-- The lane that has seen the marker of a training frame is still in step 4. -/
theorem polarity_training : ¬ ((s.lane l).polarity (.marker m)).step ≠ 4 := by simp [Lane.polarity_step, h4]

variable (hd : s.driverIdle l = false)

section
include hd

theorem cl72Update_preset (h13 : q.testBit 13 = true) : cl72Update l q m s =
    (s.setLane l { (s.lane l).polarity (.marker m) with taps := { pre := 0, main := 63, post := 0 } }).emit
      (.cl72Status l (((s.lane l).polarity (.marker m)).rxReady.toNat * 2 ^ 15 + 0x15)) := by
  rw [cl72Update]
  dsimp only
  rw [if_neg (polarity_training h4), if_pos h13]
  exact State.laneSends_on hd

theorem cl72Update_initial (h13 : q.testBit 13 = false) (h12 : q.testBit 12 = true) : cl72Update l q m s =
    (s.setLane l { (s.lane l).polarity (.marker m) with taps := ((s.lane l).polarity (.marker m)).cfgTaps }).emit
      (.cl72Status l (((s.lane l).polarity (.marker m)).rxReady.toNat * 2 ^ 15 + 0x15)) := by
  rw [cl72Update]
  dsimp only
  rw [if_neg (polarity_training h4), if_neg (by simp [h13]), if_pos h12]
  exact State.laneSends_on hd

theorem cl72Update_steps (h13 : q.testBit 13 = false) (h12 : q.testBit 12 = false) : ∃ n, cl72Update l q m s =
    (s.setLane l { (s.lane l).polarity (.marker m) with taps := ((s.lane l).polarity (.marker m)).taps.requested q }).emit
      (.cl72Status l n) := by
  rw [cl72Update]
  dsimp only
  rw [if_neg (polarity_training h4), if_neg (by simp [h13]), if_neg (by simp [h12])]
  exact ⟨_, State.laneSends_on hd⟩

end

/-! ### Reports of the partner (R107, R109) -/

/-- The lane with the figure of merit of one more report. -/
def Lane.measured (x : Lane) (f : Int) : Lane := { x with foms := (x.foms ++ [f]).drop (x.foms.length - 16) }

omit h4 hd in
/-- Training ends with the report that the partner's receiver is ready, once the own one is. -/
def State.trainedBy (s : State) (l q : Nat) : State := if q.testBit 15 = true then s.trainingDone l else s

variable {f : Int}

theorem cl72Status_ready (hr : ((s.lane l).polarity (.marker m)).rxReady = true) :
    cl72Status l q m f s = (s.setLane l ((s.lane l).polarity (.marker m))).trainedBy l q := by
  have hx := polarity_training (m := m) h4
  unfold cl72Status State.trainedBy
  generalize (s.lane l).polarity (.marker m) = x at hr hx ⊢
  obtain ⟨⟩ := x
  simp only at hr hx
  subst hr
  simp only [if_neg hx, Bool.not_true, Bool.false_and, Bool.or_false, Bool.false_eq_true, if_false, if_true, true_and]

theorem cl72Status_settled (hr : ((s.lane l).polarity (.marker m)).rxReady = false)
    (hset : (((s.lane l).polarity (.marker m)).measured f).settled = true) :
    cl72Status l q m f s = ((s.setLane l { ((s.lane l).polarity (.marker m)).measured f with rxReady := true }).laneSends l
      (.cl72Status l (2 ^ 15))).trainedBy l q := by
  have hx := polarity_training (m := m) h4
  unfold cl72Status State.trainedBy
  generalize (s.lane l).polarity (.marker m) = x at hr hx hset ⊢
  dsimp only [Lane.measured] at hset ⊢
  rw [if_neg hx, if_neg (c := x.rxReady = true) (by simp [hr])]
  dsimp only
  rw [hset, hr]
  rw [if_pos (c := (!false && true) = true) rfl]
  by_cases hq : q.testBit 15 = true
  · rw [if_pos ⟨rfl, hq⟩, if_pos hq]
    rfl
  · rw [if_neg fun h => hq h.2, if_neg hq]
    rfl

theorem cl72Status_asks (hd : s.driverIdle l = false) (hr : ((s.lane l).polarity (.marker m)).rxReady = false)
    (hset : (((s.lane l).polarity (.marker m)).measured f).settled = false) :
    cl72Status l q m f s = ({ s.setLane l { ((s.lane l).polarity (.marker m)).measured f with
        reqs := (((s.lane l).polarity (.marker m)).measured f).reqs + 1 } with free := s.free + 1 } : State).emit
      (.cl72Request l (Config.freeNat s.free % 64)) := by
  have hx := polarity_training (m := m) h4
  unfold cl72Status
  generalize (s.lane l).polarity (.marker m) = x at hr hx hset ⊢
  dsimp only [Lane.measured] at hset ⊢
  rw [if_neg hx, if_neg (c := x.rxReady = true) (by simp [hr])]
  dsimp only
  rw [hset, hr]
  rw [if_neg (by simp), if_neg (by simp), if_neg (by simp)]
  obtain ⟨⟩ := x
  simp only at hr
  subst hr
  exact State.laneSends_on hd

end

/-- A lane in training takes another value of step 4 and its training ends. -/
theorem State.trainedBy_ends {t : State} {x : Lane} (ht : LaneTo l x t s) (hk : t.keeps s [.lanes, .out]) (hx : x.step = 4)
    (hq : q.testBit 15 = true) : (t.trainedBy l q).keeps s [.lanes, .out, .buf, .clk, .cru] ∧ ((t.trainedBy l q).lane l).step = 5 ∧
      ((t.trainedBy l q).lane l).trained = true ∧ ∀ k, k ≠ l → (t.trainedBy l q).lane k = s.lane k := by
  have hdone := State.trainingDone_laneTo ht
  rw [State.trainedBy, if_pos hq]
  refine ⟨((State.trainingDone_keeps ht.sorted (by rw [ht.lane, hx])).mono (by simp)).trans (hk.mono (by simp)), ?_, ?_, hdone.other⟩ <;>
    rw [hdone.lane, Lane.stepped_of_ne (by simp [hx])]

theorem State.laneSends_laneTo {t : State} {x : Lane} (ht : LaneTo l x t s) (o : Output) : LaneTo l x (t.laneSends l o) s := by
  refine .kept ?_ ht
  unfold State.laneSends
  split <;> exact ⟨rfl, rfl⟩

theorem State.laneSends_keeps (s : State) (l : Nat) (o : Output) : (s.laneSends l o).keeps s [.out] := by
  unfold State.laneSends
  split
  · exact fun q _ => by cases q <;> rfl
  · intro q hq
    cases q <;> simp [Part.same] at hq ⊢

/-- Training ends when both receivers are ready. -/
theorem cl72Status_ends {f : Int} (h4 : (s.lane l).step = 4)
    (hr : (((s.lane l).polarity (.marker m)).rxReady || (((s.lane l).polarity (.marker m)).measured f).settled) = true)
    (hq : q.testBit 15 = true) (hs : Tab.sorted s.lanes = true) :
    (cl72Status l q m f s).keeps s [.lanes, .out, .buf, .clk, .cru] ∧ ((cl72Status l q m f s).lane l).step = 5 ∧
      ((cl72Status l q m f s).lane l).trained = true ∧ ∀ k, k ≠ l → (cl72Status l q m f s).lane k = s.lane k := by
  have hx : ((s.lane l).polarity (.marker m)).step = 4 := (Lane.polarity_step _ _).trans h4
  by_cases hready : ((s.lane l).polarity (.marker m)).rxReady = true
  · rw [cl72Status_ready h4 hready]
    exact State.trainedBy_ends (State.setLane_laneTo hs) ((s.setLane_keeps l _).mono (by simp)) hx hq
  · rw [Bool.not_eq_true] at hready
    rw [hready, Bool.false_or] at hr
    rw [cl72Status_settled h4 hready hr]
    exact State.trainedBy_ends (State.laneSends_laneTo (State.setLane_laneTo hs) _)
      (((State.laneSends_keeps _ l _).mono (by simp)).trans ((s.setLane_keeps l _).mono (by simp))) hx hq

end

end Sys2Proof.Machine
end

section
/-! A lane's steps (R100-R111): the statement on bring-up. -/

namespace Sys2Proof.Machine

open Sys2Proof

section
variable {s : State} {l : Nat}

/-- A lane of step 3 that trains is in step 4 with its CDR locked, and its training has begun. -/
theorem laneStepExit_trains_to {v : Pol} {o : Nat} (he : (s.lane l).enable = true) (hs : Tab.sorted s.lanes = true)
    (h3 : (s.lane l).step = 3) (hb : (s.lane l).burst = false) (ht : (s.lane l).trains = true)
    (hj : s.axg.jobs.all (fun j => match j.work with | .laneTrain _ _ _ => false | _ => true) = true) (hd : s.driverIdle l = false) :
    (laneStepExit l v o s).keeps s [.lanes, .buf, .clk, .cru, .led, .out] ∧ ((laneStepExit l v o s).lane l).step = 4 ∧
      ((laneStepExit l v o s).lane l).cdrLock = true ∧ ((laneStepExit l v o s).lane l).rxReady = false ∧
      (laneStepExit l v o s).led.credit = s.led.credit - 1800 ∧
      (laneStepExit l v o s).out = s.out ++ [.cl72Request l (if (s.lane l).preset then 2 ^ 13 else 2 ^ 12)] := by
  rw [laneStepExit_trains he h3 hb ht]
  have hto := (State.cdrLocked_laneTo (l := l) hs).modLane (fun x => { x with trained := false })
  have hkeeps : ((s.cdrLocked l).modLane l (fun x => { x with trained := false })).keeps s [.lanes] :=
    ((s.cdrLocked l).setLane_keeps l _).trans (s.setLane_keeps l _)
  obtain ⟨hk, hlane, hcredit, hout⟩ := State.startTraining_laneStep hto hkeeps h3 hj hd
  refine ⟨hk, ?_, ?_, ?_, hcredit, hout⟩ <;> rw [hlane, Lane.stepped_of_ne (by simp [Lane.training, h3])] <;> rfl

/-- What a lane that arrives at step 7 keeps and counts anew. -/
theorem LaneTo.laneArrived_to {t : State} {x : Lane} (ht : LaneTo l x t s) :
    ((t.laneArrived l).lane l).step = 7 ∧ ((t.laneArrived l).lane l).blockLock = x.blockLock ∧
      ((t.laneArrived l).lane l).cdrLock = x.cdrLock ∧ (x.burst = false → ((t.laneArrived l).lane l).burst = false) ∧
      (x.step ≠ 7 → ((t.laneArrived l).lane l).codeErrors = 0) ∧ ∀ k, k ≠ l → (t.laneArrived l).lane k = s.lane k := by
  obtain ⟨_, _, _, hto⟩ := ht.laneArrived
  obtain ⟨_, _, _, _, _, _, _, b, _, _, hf⟩ := Lane.stepped_frame x 7
  refine ⟨?_, ?_, ?_, fun hb => ?_, fun h7 => ?_, hto.other⟩ <;> rw [hto.lane, Lane.dozeTo]
  iterate 3 rw [hf]
  · rw [hf, hb]
    exact Bool.and_false b
  · rw [Lane.stepped_of_ne h7]
    rfl

/-- A restart takes an enabled lane back to the step, with its CDR and blocks unlocked. -/
theorem State.laneRestart_to {n : Nat} (hs : Tab.sorted s.lanes = true) (hn : (s.lane l).restartStep n = n) :
    ((s.laneRestart l n).lane l).step = n ∧ ((s.laneRestart l n).lane l).cdrLock = false ∧
      ((s.laneRestart l n).lane l).blockLock = false ∧ (n < 3 → ((s.laneRestart l n).lane l).signal = false) ∧
      ∀ k, k ≠ l → (s.laneRestart l n).lane k = s.lane k := by
  have hto := State.laneRestart_laneTo l n hs
  obtain ⟨_, sig, _, _, _, _, _, _, _, _, _, hf⟩ := Lane.restarted_frame (s.lane l) n
  rw [hf, hn] at hto
  refine ⟨?_, ?_, ?_, fun h3 => ?_, hto.other⟩ <;> rw [hto.lane]
  rw [decide_eq_false (by omega)]
  exact Bool.and_false sig

/-- A lane whose lock is lost in step 7 makes burst attempts from step 3. -/
theorem LaneTo.lockLoss_to {t : State} {x : Lane} (ht : LaneTo l x t s) (h7 : x.step = 7) (hq : s.inTq l = false) :
    ((t.lockLoss l).lane l).step = 3 ∧ ((t.lockLoss l).lane l).burst = true ∧ ((t.lockLoss l).lane l).attempts = 0 ∧
      ((t.lockLoss l).lane l).lockLosses = inc8 x.lockLosses ∧ ((t.lockLoss l).lane l).blockLock = false ∧
      ((t.lockLoss l).lane l).signal = x.signal ∧ ∀ k, k ≠ l → (t.lockLoss l).lane k = s.lane k := by
  have hto := ht.lockLoss h7 hq
  rw [Lane.stepped_of_ne (by simp [h7])] at hto
  refine ⟨?_, ?_, ?_, ?_, ?_, ?_, hto.other⟩ <;> rw [hto.lane]
  rfl

/-- The third attempt that fails counts a failed retrain and takes the lane back to step 2 at the most. -/
theorem burstEnd_fails_to (hb : (s.lane l).burst = true) (ha : 2 ≤ (s.lane l).attempts) (hq : s.inTq l = false)
    (hs : Tab.sorted s.lanes = true) :
    ((burstEnd l false s).lane l).burst = false ∧ ((burstEnd l false s).lane l).step ≤ 2 ∧
      ((burstEnd l false s).lane l).retrainFails = inc8 (s.lane l).retrainFails ∧ ∀ k, k ≠ l → (burstEnd l false s).lane k = s.lane k := by
  rw [burstEnd_fails hb ha hq]
  have hto := LaneTo.laneRestart (State.setLane_laneTo (l := l) (x := { s.lane l with retrainFails := inc8 (s.lane l).retrainFails }) hs) 2
  obtain ⟨_, _, _, _, _, _, _, _, _, _, _, hf⟩ := Lane.restarted_frame { s.lane l with retrainFails := inc8 (s.lane l).retrainFails } 2
  rw [hf] at hto
  refine ⟨?_, ?_, ?_, hto.other⟩ <;> rw [hto.lane]
  exact Lane.restartStep_le _ _

end

/-- Settles O50: each row by its equation in the lane's step, and each operation it ends in by what it leaves the lane as. -/
theorem laneBringUp : Obligations.LaneBringUp := by
  refine ⟨fun s l o v hl h => ?_, fun s l o v hl he hs => ⟨fun hn => ?_, fun hn hh => ?_, fun hn hh => ?_, fun hn hb ht => ?_,
      fun hn hb ht hj hd => ?_, fun hn => ?_, fun hn hq => ?_⟩, fun x p ha => ?_, fun x ha h4 => Lane.polarity_marker ha h4,
    fun x n ha h5 hr ht => Lane.polarity_blocks ha h5 hr ht, fun s l hl he => ?_,
    fun s l hl he hsolo hq hs => ⟨fun hn => ?_, fun hn hb => ?_, fun hn => ?_⟩,
    fun s l hl => ⟨fun hb => ?_, fun hb h => ?_, fun hb h7 hr hlpi hq hs => ?_⟩, fun s l hl hb h3 h6 he hs => ?_,
    fun s l hl h7 => ?_, fun s l hl h7 hq hs => ?_, fun s l ok hl hb => ?_,
    fun s l hl hb hq hs => ⟨?_, fun ha => ?_, fun ha => ?_⟩, fun s l q m f hl h4 => ⟨?_, ?_⟩,
    fun s l q m hl h4 hd => ⟨fun h13 => ?_, fun h13 h12 => ?_, fun h13 h12 hpre hmain hpost hsum => ?_⟩,
    fun s l q m f hl h4 => ⟨fun hr hq => ?_, fun hr hset hd => ?_, fun hr hset hq hd => ?_, fun hr hq hs => ?_⟩⟩
  · exact laneRow_next (laneStepExit l v o) rfl hl (laneStepExit_none h)
  · refine laneRow_completes (laneStepExit l v o) rfl hl ?_
    rw [laneStepExit_pll he hn]
    have hto := (State.modLane_laneTo (l := l) (fun x => { x with pllLock := true }) hs).laneStep 2
    rw [Lane.stepped_of_ne (by simp [hn])] at hto
    refine ⟨State.setLane_laneStep_keeps hs (by simp [hn]) (by simp [hn]), ?_, ?_, ?_, ?_, hto.other⟩ <;> rw [hto.lane]
    exact he
  · exact laneRow_next (laneStepExit l v o) rfl hl (laneStepExit_held he hn hh)
  · refine laneRow_completes (laneStepExit l v o) rfl hl ?_
    rw [laneStepExit_signal he hn hh]
    have hto := (State.modLane_laneTo (l := l) (fun x => { x with signal := true }) hs).laneStep 3
    rw [Lane.stepped_of_ne (by simp [hn])] at hto
    refine ⟨State.setLane_laneStep_keeps hs (by simp [hn]) (by simp [hn]), ?_, ?_, hto.other⟩ <;> rw [hto.lane]
  · refine laneRow_completes (laneStepExit l v o) rfl hl ?_
    rw [laneStepExit_untrained he hn hb ht]
    have hlocked := State.cdrLocked_laneTo (l := l) hs
    have hto := (hlocked.modLane (fun x => { x with taps := x.cfgTaps })).laneStep 5
    rw [Lane.stepped_of_ne (by simp [hn])] at hto
    refine ⟨(State.setLane_laneStep_keeps hlocked.sorted ?_ ?_).trans ((s.setLane_keeps l _).mono (by simp)), ?_, ?_, ?_, hto.other⟩
    iterate 2 (simp [hlocked.lane, hn])
    all_goals rw [hto.lane]
  · exact laneRow_completes (laneStepExit l v o) rfl hl (laneStepExit_trains_to he hs hn hb ht hj hd)
  · refine laneRow_completes (laneStepExit l v o) rfl hl ?_
    rw [laneStepExit_trained he hn]
    have hput := State.setLane_laneTo (l := l) (x := (s.lane l).polarity v) hs
    have h4 : ((s.lane l).polarity v).step = 4 := (Lane.polarity_step _ v).trans hn
    have hto := State.trainingDone_laneTo hput
    rw [Lane.stepped_of_ne (by simp [h4])] at hto
    refine ⟨(State.trainingDone_keeps hput.sorted (by rw [hput.lane, h4])).trans ((s.setLane_keeps l _).mono (by simp)), ?_, ?_, ?_, ?_⟩ <;>
      rw [hto.lane]
  · refine laneRow_completes (laneStepExit l v o) rfl hl ?_
    rw [laneStepExit_blockLock he hn hq]
    obtain ⟨hstep, hblock, -, -, hcodes, hother⟩ :=
      (State.setLane_laneTo (l := l) (x := { (s.lane l).polarity v with blockLock := true }) hs).laneArrived_to
    exact ⟨hstep, hblock, hcodes (by simp [Lane.polarity_step, hn]), hother⟩
  · exact congrArg Lane.rxInverted (if_pos ha)
  · exact laneRow_next (laneStepTimeout l) rfl hl (if_pos he)
  · refine laneRow_completes (laneStepTimeout l) rfl hl ?_
    rw [laneStepTimeout_at he hsolo hq, if_pos hn]
    exact (State.queueEvent_logged s _ _).keeps
  · refine laneRow_completes (laneStepTimeout l) rfl hl ?_
    rw [laneStepTimeout_at he hsolo hq, if_neg (by omega), if_pos hn, if_neg (by simp [hb])]
    obtain ⟨hstep, hcdr, -, -, hother⟩ := State.laneRestart_to hs (Lane.restartStep_two he (by omega))
    exact ⟨hstep, hcdr, hother⟩
  · refine laneRow_completes (laneStepTimeout l) rfl hl ?_
    rw [laneStepTimeout_at he hsolo hq, if_neg (by omega), if_neg (by omega), if_neg (by omega), if_pos hn]
    obtain ⟨hstep, -, hblock, -, hother⟩ := State.laneRestart_to hs (Lane.restartStep_three he (by omega))
    exact ⟨hstep, hblock, hother⟩
  · exact laneRow_next (laneSignalLoss l) rfl hl (if_pos hb)
  · exact laneRow_next (laneSignalLoss l) rfl hl (laneSignalLoss_quiet hb h)
  · refine laneRow_completes (laneSignalLoss l) rfl hl ?_
    rw [laneSignalLoss_loses hb h7 hr hlpi]
    obtain ⟨hstep, hburst, -, hlosses, -, hsig, hother⟩ :=
      (State.setLane_laneTo (l := l) (x := { s.lane l with signal := false }) hs).lockLoss_to h7 hq
    exact ⟨hstep, hsig, hburst, hlosses, hother⟩
  · refine laneRow_completes (laneSignalLoss l) rfl hl ?_
    rw [laneSignalLoss_back hb h3 h6]
    obtain ⟨hstep, -, -, hsig, hother⟩ := State.laneRestart_to hs (Lane.restartStep_two he (by omega))
    exact ⟨hstep, hsig (by omega), hother⟩
  · exact laneRow_next (State.lockLoss · l) rfl hl (if_pos h7)
  · obtain ⟨hstep, hburst, hatt, hlosses, hblock, -, hother⟩ := (LaneTo.refl hs).lockLoss_to h7 hq
    exact laneRow_completes (State.lockLoss · l) rfl hl ⟨hstep, hburst, hatt, hlosses, hblock, hother⟩
  · exact laneRow_next (burstEnd l ok) rfl hl (if_pos hb)
  · refine laneRow_completes (burstEnd l true) rfl hl ?_
    rw [burstEnd_locks hb hq]
    obtain ⟨hstep, hblock, hcdr, hburst, -, hother⟩ := (State.setLane_laneTo (l := l) (x := { s.lane l with
      burst := false, signal := true, cdrLock := true, blockLock := true, attempts := 0, coarseRx := s.clk.tick + 2500 }) hs).laneArrived_to
    exact ⟨hstep, hburst rfl, hcdr, hblock, hother⟩
  · exact laneRow_next (burstEnd l false) rfl hl (burstEnd_tries hb ha)
  · exact laneRow_completes (burstEnd l false) rfl hl (burstEnd_fails_to hb ha hq hs)
  · exact laneRow_next (cl72Update l q m) rfl hl (if_pos (by rw [Lane.polarity_step]; exact h4))
  · exact laneRow_next (cl72Status l q m f) rfl hl (if_pos (by rw [Lane.polarity_step]; exact h4))
  · exact laneRow_next (cl72Update l q m) rfl hl (cl72Update_preset h4 hd h13)
  · exact laneRow_next (cl72Update l q m) rfl hl (cl72Update_initial h4 hd h13 h12)
  · obtain ⟨n, hn⟩ := cl72Update_steps (m := m) h4 hd h13 h12
    obtain ⟨hysum, hypre, hymain, hypost, hbounds⟩ := Taps.requested_bounds (q := q) hpre hmain hpost hsum
    obtain ⟨h1, h2, h3, h4, h5, h6⟩ := hbounds
    exact ⟨_, n, laneRow_next (cl72Update l q m) rfl hl hn, hysum, hypre, hymain, hypost, h1, h2, h3, h4, h5, h6, Taps.requested_hold⟩
  · refine laneRow_next (cl72Status l q m f) rfl hl ((cl72Status_ready h4 hr).trans (if_neg ?_))
    simp [hq]
  · exact ⟨_, Nat.mod_lt _ (by decide), laneRow_next (cl72Status l q m f) rfl hl (cl72Status_asks h4 hd hr hset)⟩
  · refine laneRow_next (cl72Status l q m f) rfl hl ((cl72Status_settled h4 hr hset).trans ((if_neg ?_).trans (State.laneSends_on hd)))
    simp [hq]
  · exact laneRow_completes (cl72Status l q m f) rfl hl (cl72Status_ends h4 hr hq hs)

end Sys2Proof.Machine
end

section
/-! The LANE commands (R129-R134): what the bodies store and reply. -/

namespace Sys2Proof.Machine

open Sys2Proof

section
variable {s : State} {l : Nat}

theorem State.accepted_lane (s : State) (op : Nat) (p : Pkt) (k : Nat) : (s.accepted op p).lane k = s.lane k := by
  rw [State.lane, State.accepted_lanes, State.lane]

theorem State.accepted_inTq (s : State) (op : Nat) (p : Pkt) (k : Nat) : (s.accepted op p).inTq k = s.inTq k := by
  rw [State.inTq, State.formed, State.accepted_form, State.inTq, State.formed]

theorem State.accepted_portOfLane (s : State) (op : Nat) (p : Pkt) (k : Nat) : (s.accepted op p).portOfLane k = s.portOfLane k := by
  rw [State.portOfLane, State.formed, State.accepted_form, State.portOfLane, State.formed]

theorem laneArg_lt (w : Word) : laneArg w < 96 := by
  unfold laneArg
  omega

/-! ### LANE.CONFIG (R108, R129) -/

theorem clampTaps_bounds (w : Word) :
    (clampTaps w).pre ≤ 15 ∧ (clampTaps w).post ≤ 31 ∧ (clampTaps w).pre + (clampTaps w).main + (clampTaps w).post ≤ 63 := by
  have hpre : fld w 3 0 < 2 ^ 4 := Nat.mod_lt _ (by decide)
  have hpost : fld w 20 16 < 2 ^ 5 := Nat.mod_lt _ (by decide)
  unfold clampTaps
  dsimp only
  omega

/-- The taps of a lane without training, and the inversion of one without automatic polarity, are those written. -/
def Lane.settings (x : Lane) : Lane := { x with
  taps := if x.trainEn then x.taps else x.cfgTaps, rxInverted := if x.rxPolAuto then x.rxInverted else x.rxInvert }

theorem Lane.settings_eq (x : Lane) :
    (let y := if x.trainEn then x else { x with taps := x.cfgTaps }
     if y.rxPolAuto then y else { y with rxInverted := y.rxInvert }) = x.settings := by
  have htaps : (if x.trainEn then x else { x with taps := x.cfgTaps }) = { x with taps := if x.trainEn then x.taps else x.cfgTaps } := by
    split <;> rfl
  rw [htaps]
  dsimp only
  unfold Lane.settings
  split <;> rfl

/-- The lane with the settings of a LANE.CONFIG, at the rate the lane can take. -/
def Lane.configured (x : Lane) (rate : Nat) (a b : Word) : Lane := Lane.settings { x with
  rate := rate, enable := bit a 4, txInvert := bit a 5, rxPolAuto := bit a 6, rxInvert := bit a 7
  trainEn := bit a 8 && decide (rate = 3 ∨ rate = 4), txReverse := bit a 9, medium := min 2 (fld a 11 10), cfgTaps := clampTaps b }

theorem bodyLaneConfig_read (c : Ctx) {ws : List Word} (s : State) (hw : bit (wd ws 0) 31 = false) :
    ∃ r, bodyLaneConfig c ws s = s.ok c r ∧ r.length = 3 := by
  unfold bodyLaneConfig
  extract_lets w l a old rate new rateChanged new' t₁ t₂ t₃ u x
  have hu : u = s := if_neg (Bool.eq_false_iff.mp hw)
  exact ⟨_, congrArg (fun t : State => t.ok c _) hu, rfl⟩

/-- A change of RATE or ENABLE restarts the lane; without one what it owes its partner leaves. -/
theorem bodyLaneConfig_write (c : Ctx) {ws : List Word} {s : State} {rate : Nat} {x : Lane} (hw : bit (wd ws 0) 31 = true)
    (hrate : clampRate (laneArg (wd ws 0)) (fld (wd ws 1) 2 0) (s.inTq (laneArg (wd ws 0))) = rate)
    (hx : s.lane (laneArg (wd ws 0)) = x) (hs : Tab.sorted s.lanes = true) :
    ∃ u r, bodyLaneConfig c ws s = u.ok c r ∧ r.length = 3 ∧
      (rate = x.rate → bit (wd ws 1) 4 = x.enable →
        u = (s.setLane (laneArg (wd ws 0)) (x.configured rate (wd ws 1) (wd ws 2))).dozeChanged (laneArg (wd ws 0))) ∧
      (rate ≠ x.rate ∨ bit (wd ws 1) 4 ≠ x.enable → ∃ preset,
        LaneTo (laneArg (wd ws 0)) (Lane.restarted { x.configured rate (wd ws 1) (wd ws 2) with preset := preset } 1) u s) := by
  unfold bodyLaneConfig
  extract_lets w l a old rate' new rateChanged new' t₁ t₂ t₃ u y
  have hold : old = x := hx
  have hr : rate' = rate := hrate
  have hput : t₁ = s.setLane l (x.configured rate a (wd ws 2)) := by
    rw [← hold, ← hr]
    exact congrArg (s.setLane l) new.settings_eq
  have hrateChanged : rateChanged = decide (rate ≠ x.rate) := by
    rw [← hold, ← hr]
  have henable : new'.enable = bit a 4 := by
    unfold new'
    split <;> rfl
  have hu : u = if rateChanged = true ∨ new'.enable ≠ old.enable then t₃.laneRestart l 1 else t₁.dozeChanged l := if_pos hw
  rw [hrateChanged, henable, hold] at hu
  refine ⟨u, _, rfl, rfl, fun hkr hke => ?_, fun hch => ?_⟩
  · rw [hu, if_neg (not_or.mpr ⟨by simp [hkr], not_not.mpr hke⟩), hput]
  · rw [hu, if_pos (hch.imp_left decide_eq_true)]
    have h₁ : LaneTo l (x.configured rate a (wd ws 2)) t₁ s := by
      rw [hput]
      exact State.setLane_laneTo hs
    have h₂ : LaneTo l (x.configured rate a (wd ws 2)) t₂ s := by
      unfold t₂
      split
      · exact h₁.kept (State.breakCal_linksKept _ _ _).toLanesKept
      · exact h₁
    have h₃ : ∃ preset, LaneTo l { x.configured rate a (wd ws 2) with preset := preset } t₃ s := by
      unfold t₃
      split
      · have he := State.endTraining_laneTo l h₂.sorted true
        rw [h₂.lane] at he
        exact ⟨_, he.trans h₂⟩
      · exact ⟨_, h₂⟩
    obtain ⟨preset, h₃⟩ := h₃
    exact ⟨preset, h₃.laneRestart 1⟩

/-- Without a change of RATE or ENABLE the lane keeps the rest. -/
theorem Lane.configured_dozeTo {x : Lane} {rate : Nat} {a b : Word} (hr : rate = x.rate) (he : bit a 4 = x.enable) (may ok : Bool)
    (f : Option Bool) :
    let te := bit a 8 && decide (rate = 3 ∨ rate = 4)
    let y := (x.configured rate a b).dozeTo may ok f
    y = { x with
      txInvert := bit a 5, rxPolAuto := bit a 6, rxInvert := bit a 7, trainEn := te, txReverse := bit a 9, medium := min 2 (fld a 11 10)
      cfgTaps := clampTaps b, taps := if te then x.taps else clampTaps b, rxInverted := if bit a 6 then x.rxInverted else bit a 7
      lpiTx := y.lpiTx, doze := y.doze, flagsSent := y.flagsSent } := by
  obtain ⟨⟩ := x
  cases hr
  cases he
  rfl

theorem Lane.restartStep_one (x : Lane) : x.restartStep 1 = if x.enable then 1 else 0 := by
  unfold Lane.restartStep
  split
  · omega
  · rfl

/-! ### LANE.STATUS (R130) -/

/-- The read moves the count of code errors of its lane, by a free value at the most. -/
theorem bodyLaneStatus_counts (c : Ctx) (ws : List Word) (s : State) : ∃ n f r, r.length = 5 ∧ bodyLaneStatus c ws s =
    (({ s with free := f } : State).setLane (laneArg (wd ws 0)) { s.lane (laneArg (wd ws 0)) with codeErrors := n }).ok c r := by
  unfold bodyLaneStatus
  extract_lets l
  split
  next n t ht =>
  have hfree : ∃ f, t = { s with free := f } := by
    split at ht <;> cases ht <;> exact ⟨_, rfl⟩
  obtain ⟨f, rfl⟩ := hfree
  exact ⟨n, f, _, rfl, rfl⟩

theorem State.free_setLane_keeps (s : State) (f l : Nat) (x : Lane) : (({ s with free := f } : State).setLane l x).keeps s [.lanes, .free] := by
  intro q hq
  cases q <;> simp [Part.same] at hq ⊢

/-- What a count on a lane leaves of the lanes. -/
theorem State.lane_setLane_codeErrors {n : Nat} (hs : Tab.sorted s.lanes = true) (k : Nat) :
    (s.setLane l { s.lane l with codeErrors := n }).lane k =
      { s.lane k with codeErrors := ((s.setLane l { s.lane l with codeErrors := n }).lane k).codeErrors } := by
  have hto := State.setLane_laneTo (l := l) (x := { s.lane l with codeErrors := n }) hs
  by_cases hk : k = l
  · rw [hk, hto.lane]
  · rw [hto.other k hk]

/-! ### LANE.DOZE (R114, R132) -/

/-- The lane with the settings of a LANE.DOZE. -/
def Lane.dozeSet (x : Lane) (a : Word) : Lane := { x with
  dozeEn := bit a 0, lpiEn := bit a 1, dozeIdle := clamp 1 65535 (fld a 31 16), lpiTx := x.lpiTx && bit a 1 }

theorem bodyLaneDoze_read (c : Ctx) {ws : List Word} (s : State) (hw : bit (wd ws 0) 31 = false) :
    ∃ r, bodyLaneDoze c ws s = s.ok c r ∧ r.length = 2 := by
  unfold bodyLaneDoze
  extract_lets w l a u x
  have hu : u = s := if_neg (Bool.eq_false_iff.mp hw)
  exact ⟨_, congrArg (fun t : State => t.ok c _) hu, rfl⟩

theorem bodyLaneDoze_write (c : Ctx) {ws : List Word} (s : State) (hw : bit (wd ws 0) 31 = true) :
    ∃ r, bodyLaneDoze c ws s = ((s.setLane (laneArg (wd ws 0)) ((s.lane (laneArg (wd ws 0))).dozeSet (wd ws 1))).dozeChanged
      (laneArg (wd ws 0))).ok c r ∧ r.length = 2 := by
  unfold bodyLaneDoze
  extract_lets w l a u x
  have hu : u = (s.setLane l ((s.lane l).dozeSet a)).dozeChanged l := if_pos hw
  exact ⟨_, congrArg (fun t : State => t.ok c _) hu, rfl⟩

/-- A lane in step 7 that may not doze does not stay in doze. -/
theorem Lane.dozeTo_doze_ne {x : Lane} (may ok : Bool) (f : Option Bool) (h7 : x.step = 7) (he : x.dozeEn = false) :
    (x.dozeTo may ok f).doze ≠ .dozing := by
  by_cases hd : x.doze = .dozing
  · rw [Lane.dozeTo, if_pos ⟨h7, hd, .inl he⟩]
    exact Doze.noConfusion
  · rw [Lane.dozeTo, if_neg fun h => hd h.2.1]
    exact hd

/-- A lane takes a value and what it owes its partner leaves. -/
theorem State.setLane_dozeChanged {x : Lane} (hs : Tab.sorted s.lanes = true) :
    ((s.setLane l x).dozeChanged l).keeps s [.lanes, .out] ∧
      ∃ may ok f, LaneTo l (x.dozeTo may ok f) ((s.setLane l x).dozeChanged l) s := by
  have hput := State.setLane_laneTo (l := l) (x := x) hs
  obtain ⟨f, hf⟩ := State.dozeChanged_laneTo l hput.sorted
  rw [hput.lane] at hf
  exact ⟨((State.dozeChanged_laned _ l).trans (s.setLane_laned l x)).keeps, _, _, f, hf.trans hput⟩

end

end Sys2Proof.Machine
end

section
/-! Eye scans and loopback (R127, R133-R135, R145): a LANE.SKETCH that waits or ends at once, and the port of a lane in loopback. -/

namespace Sys2Proof.Machine

open Sys2Proof

section
variable {s : State} {l : Nat}

/-! ### LANE.SKETCH (R127, R133) -/

theorem runSketch_none (n : Nat) (h : s.axg.jobs.all (fun j => !isSketch l j.work) = true) : runSketch l n s = s := by
  have hfind : s.findJob (isSketch l) = none := by
    rw [State.findJob, List.find?_eq_none]
    intro j hj
    simpa using List.all_eq_true.mp h j hj
  cases n with
  | zero => rfl
  | succ n => rw [runSketch, hfind]

section
variable {c : Ctx} {d : Nat} (hj : s.axg.jobs.all (fun j => !isSketch l j.work) = true)
include hj

theorem State.findJob_hold_sketch :
    (s.hold c (.sketch l d)).findJob (isSketch l) = some { ctx := c, work := .sketch l d } := by
  have hnone : s.axg.jobs.find? (fun j => isSketch l j.work) = none := by
    rw [List.find?_eq_none]
    intro j hj'
    simpa using List.all_eq_true.mp hj j hj'
  rw [State.findJob, State.hold, List.find?_append, hnone]
  simp [isSketch]

/-- The only LANE.SKETCH of a lane completes as it is taken. -/
theorem State.completeFirst_hold_sketch (r : Rpl) :
    (s.hold c (.sketch l d)).completeFirst (isSketch l) r = s.complete c r := by
  have hmem : ({ ctx := c, work := .sketch l d } : Job) ∉ s.axg.jobs := fun h => by
    simpa [isSketch] using List.all_eq_true.mp hj _ h
  have herase : (s.axg.jobs ++ [({ ctx := c, work := .sketch l d } : Job)]).erase { ctx := c, work := .sketch l d } = s.axg.jobs := by
    rw [List.erase_append_right _ hmem, List.erase_cons_head, List.append_nil]
  rw [State.completeFirst, State.findJob_hold_sketch hj]
  dsimp only [State.hold]
  rw [herase]

variable (hw : s.led.waiting.all (fun j => decide (j.what ≠ JobFor.sketch l)) = true) (hx : (s.lane l).sketching = false)
include hw hx

omit hj in
/-- No scan of the lane runs or waits for the ledger. -/
theorem sketch_idle : ¬ ((s.lane l).sketching = true ∨ s.led.waiting.any (fun j => decide (j.what = JobFor.sketch l)) = true) := by
  rw [hx]
  simpa using hw

theorem serveSketch_waits (h7 : (s.lane l).step = 7) : (s.hold c (.sketch l d)).serveSketch l =
    (s.hold c (.sketch l d)).queueJob 5 (scanCost (s.lane l).rate (8385 * 2 ^ 20)) (.sketch l) := by
  have hlen : (s.hold c (.sketch l d)).axg.jobs.length = s.axg.jobs.length + 1 := List.length_append
  rw [State.serveSketch, hlen, runSketch, State.findJob_hold_sketch hj]
  exact (if_neg (sketch_idle hw hx)).trans (if_neg (not_not.mpr h7))

omit hj hw hx in
/-- The lane whose scan ended as it was asked for, outside step 7. -/
def Lane.unscanned (x : Lane) (d : Nat) : Lane := { x with eye := { stat := 3, dwell := d, deepest := deepestOf d } }

/-- On a lane outside step 7 it ends at once with STAT 3. -/
theorem serveSketch_ends (h7 : (s.lane l).step ≠ 7) (hc : c.mirrored = false) : (s.hold c (.sketch l d)).serveSketch l =
    (s.setLane l ((s.lane l).unscanned d)).ok c (eyeHead ((s.lane l).unscanned d) 0 0) := by
  have hlen : (s.hold c (.sketch l d)).axg.jobs.length = s.axg.jobs.length + 1 := List.length_append
  rw [State.serveSketch, hlen, runSketch, State.findJob_hold_sketch hj]
  refine (if_neg (sketch_idle hw hx)).trans ((if_pos h7).trans ?_)
  change runSketch l s.axg.jobs.length (((s.hold c (.sketch l d)).setLane l ((s.lane l).unscanned d)).completeFirst (isSketch l)
    (okRpl (eyeHead ((s.lane l).unscanned d) 0 0))) = _
  generalize (s.lane l).unscanned d = x
  have hdone : ((s.hold c (.sketch l d)).setLane l x).completeFirst (isSketch l) (okRpl (eyeHead x 0 0)) =
      (s.setLane l x).ok c (eyeHead x 0 0) := State.completeFirst_hold_sketch (s := s.setLane l x) hj _
  have hjobs : ((s.setLane l x).ok c (eyeHead x 0 0)).axg.jobs = s.axg.jobs := (State.complete_replied _ _ hc).jobs
  rw [hdone]
  refine runSketch_none _ ?_
  rw [hjobs]
  exact hj

end

/-! ### LANE.SKETCH_READ (R134) -/

theorem bodySketchRead_rows (c : Ctx) (ws : List Word) (s : State) :
    ∃ rows, rows.length = 2 * min (min 129 (fld (wd ws 0) 23 16)) (129 - min 128 (fld (wd ws 0) 15 8)) ∧
      bodySketchRead c ws s = s.ok c (eyeHead (s.lane (laneArg (wd ws 0))) (min 128 (fld (wd ws 0) 15 8))
        (min (min 129 (fld (wd ws 0) 23 16)) (129 - min 128 (fld (wd ws 0) 15 8))) ++ rows) := by
  refine ⟨_, ?_, rfl⟩
  simp [List.length_flatMap, Nat.mul_comm]

/-! ### Ports with a link loss (R140, R145) -/

theorem State.linkOk_false {p : Nat} (hl : l ∈ portLanes p) (h : (s.lane l).loopMode ≠ 0) : s.linkOk p = false := by
  have hall : (portLanes p).all (fun k => decide ((s.lane k).step = 7) && decide ((s.lane k).loopMode = 0)) = false := by
    rw [List.all_eq_false]
    exact ⟨l, hl, by simp [h]⟩
  simp [State.linkOk, hall]

theorem mem_portLanes_portOfLane (s : State) (h : l < 96) : l ∈ portLanes (s.portOfLane l) := by
  by_cases hq : l < 32 ∧ s.formed (l / 4) = true
  · rw [State.portOfLane, if_pos hq, portLanes, if_neg (by omega), List.mem_map]
    exact ⟨l % 4, by simp [Nat.mod_lt], by omega⟩
  · rw [State.portOfLane, if_neg hq, portLanes, if_pos h]
    exact List.mem_singleton_self l

section
variable {p : Nat} (hs : Tab.sorted s.ports = true)
include hs

/-- A port brought to a state has it, whatever follows. -/
theorem State.portDown_st (st : PortSt) : Tab.sorted (s.portDown p st).ports = true ∧ ((s.portDown p st).port p).st = st := by
  obtain ⟨hsorted, hst⟩ := (s.portDown_linksKept p st).ports (Tab.sorted_put _ _ hs)
  exact ⟨hsorted, (hst p).trans (congrArg Port.st (Tab.get_put_self _ _ _ hs))⟩

theorem State.forceDown_st : Tab.sorted (s.forceDown p).ports = true ∧ ((s.forceDown p).port p).st ≠ .up := by
  unfold State.forceDown
  split
  · obtain ⟨hsorted, hst⟩ := State.portDown_st (p := p) hs .down
    exact ⟨hsorted, fun hup => PortSt.noConfusion (hst.symm.trans hup)⟩
  next h => exact ⟨hs, fun hup => h (.inl hup)⟩

/-- A port out of UP with a link loss stays out of UP. -/
theorem State.syncPort_st (hup : (s.port p).st ≠ .up) (hok : s.linkOk p = false) : ((s.syncPort p).port p).st ≠ .up := by
  have hdown (st : PortSt) (h : st ≠ .up) : Tab.sorted (s.portDown p st).ports = true ∧ ((s.portDown p st).port p).st ≠ .up := by
    rw [(State.portDown_st hs st).2]
    exact ⟨(State.portDown_st hs st).1, h⟩
  have hstate : Tab.sorted (s.syncState p).ports = true ∧ ((s.syncState p).port p).st ≠ .up := by
    unfold State.syncState
    dsimp only
    rw [hok]
    split
    · split
      · exact ⟨hs, hup⟩
      · exact hdown _ (by split <;> exact PortSt.noConfusion)
    split
    · split
      · exact ⟨hs, hup⟩
      · exact hdown _ PortSt.noConfusion
    split
    · split
      · exact ⟨hs, hup⟩
      · exact hdown _ PortSt.noConfusion
    split
    next h => exact absurd h hup
    · exact ⟨hs, hup⟩
    · refine ⟨Tab.sorted_put _ _ hs, ?_⟩
      have hst : ((s.modPort p (fun x => { x with st := .down })).port p).st = .down := congrArg Port.st (Tab.get_put_self _ _ _ hs)
      exact fun h => PortSt.noConfusion (hst.symm.trans h)
  unfold State.syncPort State.syncFault
  dsimp only
  split
  · exact hstate.2
  · obtain ⟨-, hst⟩ := ((s.syncState p).modPort_linksKept p (f := fun x => { x with faultTx := (s.syncState p).rxLinkDown p })
      (fun _ => rfl)).ports hstate.1
    exact fun h => hstate.2 ((hst p).symm.trans h)

end

end

end Sys2Proof.Machine
end

section
/-! Loopback (R135), and the statement on the LANE commands. -/

namespace Sys2Proof.Machine

open Sys2Proof

section
variable {s : State} {l : Nat}

/-! ### LANE.LOOPBACK (R135, R145) -/

theorem LaneTo.portOfLane {t : State} {x : Lane} (h : LaneTo l x t s) (k : Nat) : t.portOfLane k = s.portOfLane k := by
  rw [State.portOfLane, State.formed, h.form, State.portOfLane, State.formed]

/-- The lane with a loopback mode, its checker's errors cleared. -/
def Lane.looped (x : Lane) (m : Nat) : Lane := { x with loopMode := m, prbsErrors := 0 }

/-- A loopback mode of a lane takes its port out of UP, and the port follows the lane. -/
def State.looped (s : State) (l m : Nat) : State :=
  let t := s.setLane l ((s.lane l).looped m)
  let t := if m = 0 then t else t.forceDown (t.portOfLane l)
  (t.checkLane l).syncPort (t.portOfLane l)

theorem State.looped_laneTo (m : Nat) (hs : Tab.sorted s.lanes = true) : LaneTo l ((s.lane l).looped m) (s.looped l m) s := by
  unfold State.looped
  extract_lets t₁ t₂
  have h₁ : LaneTo l ((s.lane l).looped m) t₁ s := State.setLane_laneTo hs
  have h₂ : LaneTo l ((s.lane l).looped m) t₂ s := by
    unfold t₂
    split
    · exact h₁
    · exact h₁.kept (State.forceDown_lanesKept _ _)
  exact h₂.kept ((State.syncPort_lanesKept _ _).trans (State.checkLane_referred _ l).linksKept.toLanesKept)

theorem State.looped_port {m : Nat} (hl : l < 96) (hm : m ≠ 0) (hs : Tab.sorted s.lanes = true) (hp : Tab.sorted s.ports = true) :
    ((s.looped l m).port (s.portOfLane l)).st ≠ .up := by
  unfold State.looped
  extract_lets t₁ t₂
  have h₁ : LaneTo l ((s.lane l).looped m) t₁ s := State.setLane_laneTo hs
  have ht₂ : t₂ = t₁.forceDown (s.portOfLane l) := (if_neg hm).trans (by rw [h₁.portOfLane l])
  have h₂ : LaneTo l ((s.lane l).looped m) t₂ s := by
    rw [ht₂]
    exact h₁.kept (State.forceDown_lanesKept _ _)
  obtain ⟨hsorted, hst⟩ := State.forceDown_st (s := t₁) (p := s.portOfLane l) hp
  rw [← ht₂] at hsorted hst
  have hcheck := (State.checkLane_referred t₂ l).linksKept
  have h₃ := h₂.kept hcheck.toLanesKept
  obtain ⟨hsorted, hsame⟩ := hcheck.ports hsorted
  rw [h₂.portOfLane l]
  refine State.syncPort_st hsorted ?_ (State.linkOk_false (mem_portLanes_portOfLane s hl) ?_)
  · rw [hsame]
    exact hst
  · rw [h₃.lane]
    exact hm

/-- The read that follows measures the checker's errors in mode 3. -/
theorem bodyLoopback_write (c : Ctx) {ws : List Word} (s : State) (hw : bit (wd ws 0) 31 = true) : ∃ t n f r,
    t = s.looped (laneArg (wd ws 0)) (fld (wd ws 1) 1 0) ∧ r.length = 3 ∧
      ((t.lane (laneArg (wd ws 0))).loopMode ≠ 3 → n = (t.lane (laneArg (wd ws 0))).prbsErrors) ∧
      bodyLoopback c ws s = (({ t with free := f } : State).setLane (laneArg (wd ws 0))
        { t.lane (laneArg (wd ws 0)) with prbsErrors := n }).ok c r := by
  unfold bodyLoopback
  extract_lets w l m t₁ t₂ t x
  have ht : t = s.looped l m := if_pos hw
  split
  next n u hu =>
  have hfree : (x.loopMode ≠ 3 → n = x.prbsErrors) ∧ ∃ f, u = { t with free := f } := by
    split at hu <;> cases hu
    next h3 => exact ⟨fun h => absurd h3 h, _, rfl⟩
    · exact ⟨fun _ => rfl, _, rfl⟩
  obtain ⟨hn, f, rfl⟩ := hfree
  exact ⟨t, n, f, _, ht, rfl, hn, rfl⟩

end

/-- Settles O49: each command by what its body stores and replies. -/
theorem laneCommands : Obligations.LaneCommands := by
  refine ⟨fun s p h hw => ?_, fun s p h hw hs => ?_, clampTaps_bounds, fun s p h hs => ?_,
    fun s p h => congrArg Host.Outcome.next (receive_accepted bodyLaneTrain h), fun s p h => ⟨fun hw => ?_, fun hw hs => ?_⟩,
    fun s p h => fun hj hled hx => ⟨fun h7 => ?_, fun h7 => ?_⟩, fun s p h => ?_, fun s p h hw hs hp => ?_⟩
  · obtain ⟨r, hbody, hr⟩ := bodyLaneConfig_read (s.ctxOf 0x0200 p) (s.accepted 0x0200 p) hw
    exact ⟨r, answers_of_body rfl h hbody, hr⟩
  · have hlanes : Tab.sorted (s.accepted 0x0200 p).lanes = true := by rw [State.accepted_lanes, hs]
    obtain ⟨u, r, hbody, hr, hsame, hchange⟩ := bodyLaneConfig_write (s.ctxOf 0x0200 p) hw
      (by rw [State.accepted_inTq]) (State.accepted_lane s 0x0200 p _) hlanes
    refine ⟨u, r, answers_of_body rfl h hbody, hr, fun hkr hke => ?_, fun hch => ?_, fun k hk => ?_⟩
    · obtain ⟨hkeeps, _, _, _, hto⟩ := State.setLane_dozeChanged (l := laneArg (wd p.words 0)) hlanes
      rw [← hsame hkr hke] at hkeeps hto
      refine ⟨hkeeps, ?_⟩
      rw [hto.lane]
      exact Lane.configured_dozeTo hkr hke _ _ _
    · obtain ⟨preset, hto⟩ := hchange hch
      obtain ⟨_, _, _, _, _, _, _, _, _, _, _, hf⟩ := Lane.restarted_frame { (s.lane (laneArg (wd p.words 0))).configured
        (clampRate (laneArg (wd p.words 0)) (fld (wd p.words 1) 2 0) (s.inTq (laneArg (wd p.words 0)))) (wd p.words 1) (wd p.words 2) with
          preset := preset } 1
      rw [hf] at hto
      refine ⟨?_, ?_, ?_, ?_, ?_⟩ <;> rw [hto.lane]
      · rfl
      · exact Lane.restartStep_one _
      · rfl
      · rfl
    · refine Eq.trans ?_ (s.accepted_lane 0x0200 p k)
      by_cases hch : clampRate (laneArg (wd p.words 0)) (fld (wd p.words 1) 2 0) (s.inTq (laneArg (wd p.words 0))) =
          (s.lane (laneArg (wd p.words 0))).rate ∧ bit (wd p.words 1) 4 = (s.lane (laneArg (wd p.words 0))).enable
      · obtain ⟨hkr, hke⟩ := hch
        obtain ⟨-, _, _, _, hto⟩ := State.setLane_dozeChanged (l := laneArg (wd p.words 0)) hlanes
        rw [hsame hkr hke]
        exact hto.other k hk
      · obtain ⟨_, hto⟩ := hchange (not_and_or.mp hch)
        exact hto.other k hk
  · have hlanes : Tab.sorted (s.accepted 0x0201 p).lanes = true := by rw [State.accepted_lanes, hs]
    obtain ⟨n, f, r, hr, hbody⟩ := bodyLaneStatus_counts (s.ctxOf 0x0201 p) p.words (s.accepted 0x0201 p)
    refine ⟨_, r, answers_of_body rfl h hbody, hr, State.free_setLane_keeps _ _ _ _, fun k => ?_⟩
    have hlane := State.lane_setLane_codeErrors (l := laneArg (wd p.words 0)) (n := n)
        (s := { s.accepted 0x0201 p with free := f }) hlanes k
    rw [← s.accepted_lane 0x0201 p k]
    exact hlane
  · obtain ⟨r, hbody, hr⟩ := bodyLaneDoze_read (s.ctxOf 0x0203 p) (s.accepted 0x0203 p) hw
    exact ⟨r, answers_of_body rfl h hbody, hr⟩
  · have hlanes : Tab.sorted (s.accepted 0x0203 p).lanes = true := by rw [State.accepted_lanes, hs]
    obtain ⟨r, hbody, hr⟩ := bodyLaneDoze_write (s.ctxOf 0x0203 p) (s.accepted 0x0203 p) hw
    rw [State.accepted_lane] at hbody
    obtain ⟨hkeeps, may, ok, f, hto⟩ := State.setLane_dozeChanged (l := laneArg (wd p.words 0))
      (x := (s.lane (laneArg (wd p.words 0))).dozeSet (wd p.words 1)) hlanes
    refine ⟨_, r, answers_of_body rfl h hbody, hr, hkeeps, fun k hk => (hto.other k hk).trans (s.accepted_lane 0x0203 p k), ?_, ?_, ?_⟩ <;>
      rw [hto.lane]
    · rfl
    · exact fun hi => Bool.and_eq_true_iff.mp (Bool.and_eq_true_iff.mp hi).1
    · exact fun h7 he => Lane.dozeTo_doze_ne may ok f h7 he
  · refine congrArg Host.Outcome.next ((receive_accepted bodyLaneSketch h).trans ?_)
    rw [← s.accepted_lane 0x0204 p] at hx h7 ⊢
    exact serveSketch_waits (by rw [State.accepted_axg_jobs]; exact hj) (by rw [State.accepted_led]; exact hled) hx h7
  · rw [← s.accepted_lane 0x0204 p] at hx h7 ⊢
    exact answers_of_body rfl h (serveSketch_ends (by rw [State.accepted_axg_jobs]; exact hj) (by rw [State.accepted_led]; exact hled) hx h7 rfl)
  · obtain ⟨rows, hrows, hbody⟩ := bodySketchRead_rows (s.ctxOf 0x0205 p) p.words (s.accepted 0x0205 p)
    rw [State.accepted_lane] at hbody
    refine ⟨_, answers_of_body rfl h hbody, ?_, List.take_left' rfl⟩
    rw [List.length_append, hrows]
    rfl
  · obtain ⟨t, n, f, r, ht, hr, hn, hbody⟩ := bodyLoopback_write (s.ctxOf 0x0206 p) (s.accepted 0x0206 p) hw
    have hlanes : Tab.sorted (s.accepted 0x0206 p).lanes = true := by rw [State.accepted_lanes, hs]
    have hports : Tab.sorted (s.accepted 0x0206 p).ports = true := by rw [State.accepted_ports, hp]
    have hto := State.looped_laneTo (l := laneArg (wd p.words 0)) (fld (wd p.words 1) 1 0) hlanes
    rw [← ht, State.accepted_lane] at hto
    have hput := State.setLane_laneTo (s := { t with free := f }) (l := laneArg (wd p.words 0)) (x := { t.lane (laneArg (wd p.words 0)) with
      prbsErrors := n }) hto.sorted
    refine ⟨_, r, answers_of_body rfl h hbody, hr, fun k hk => ?_, ?_, fun h3 => ?_, fun h0 => ?_⟩
    · exact (hput.other k hk).trans ((hto.other k hk).trans (s.accepted_lane 0x0206 p k))
    · rw [hput.lane, hto.lane]
      rfl
    · rw [hput.lane]
      refine (hn ?_).trans ?_
      · rw [hto.lane]
        exact h3
      · rw [hto.lane]
        rfl
    · have hport := State.looped_port (laneArg_lt (wd p.words 0)) h0 hlanes hports
      rw [← ht, State.accepted_portOfLane] at hport
      exact hport

end Sys2Proof.Machine
end

section
/-! What moves beside ports and bypass pairs (R140-R146, R155-R161): which operations leave the port table, the pair table and the commands for a
pair as they are. -/

namespace Sys2Proof.Machine

open Sys2Proof

/-- A command for a bypass pair (R161). -/
def Work.ofPair : Work → Bool
  | .bypass _ _ _ => true
  | .policy _ _ _ => true
  | _ => false

/-- The pair table is as it was, and no command for a pair is new. -/
structure PairsKept (t s : State) : Prop where
  bypass : t.bypass = s.bypass
  jobs : ∀ j ∈ t.axg.jobs, j.work.ofPair = true → j ∈ s.axg.jobs

/-- So is the port table. -/
structure PortsKept (t s : State) : Prop extends PairsKept t s where
  ports : t.ports = s.ports

section
variable {s t u : State}

theorem PairsKept.refl (s : State) : PairsKept s s := ⟨rfl, fun _ h _ => h⟩

theorem PairsKept.trans (h : PairsKept u t) (k : PairsKept t s) : PairsKept u s :=
  ⟨h.bypass.trans k.bypass, fun j hj hp => k.jobs j (h.jobs j hj hp) hp⟩

theorem PairsKept.foldl {α : Type} {f : State → α → State} (h : ∀ t x, PairsKept (f t x) t) (l : List α) (s : State) :
    PairsKept (l.foldl f s) s :=
  List.foldlRecOn l f (.refl s) (fun t ht x _ => (h t x).trans ht)

theorem PairsKept.pair (h : PairsKept t s) (b : Nat) : t.pair b = s.pair b := by
  rw [State.pair, h.bypass, State.pair]

/-- An operation that writes neither table nor the commands. -/
theorem PortsKept.of_eq (hb : t.bypass = s.bypass) (hj : t.axg.jobs = s.axg.jobs) (hp : t.ports = s.ports) : PortsKept t s :=
  ⟨⟨hb, fun _ h _ => hj ▸ h⟩, hp⟩

theorem PortsKept.refl (s : State) : PortsKept s s := .of_eq rfl rfl rfl

theorem PortsKept.trans (h : PortsKept u t) (k : PortsKept t s) : PortsKept u s :=
  ⟨h.toPairsKept.trans k.toPairsKept, h.ports.trans k.ports⟩

theorem PortsKept.foldl {α : Type} {f : State → α → State} (h : ∀ t x, PortsKept (f t x) t) (l : List α) (s : State) :
    PortsKept (l.foldl f s) s :=
  List.foldlRecOn l f (.refl s) (fun t ht x _ => (h t x).trans ht)

theorem PortsKept.port (h : PortsKept t s) (p : Nat) : t.port p = s.port p := by
  rw [State.port, h.ports, State.port]

/-- Some of the commands leave. -/
theorem PortsKept.of_jobs {l : List Job} (h : ∀ j ∈ l, j ∈ s.axg.jobs) : PortsKept { s with axg := { s.axg with jobs := l } } s :=
  ⟨⟨rfl, fun j hj _ => h j hj⟩, rfl⟩

theorem Consumed.portsKept (h : Consumed t s) : PortsKept t s := by
  obtain ⟨_, _, rfl⟩ := h
  exact .of_eq rfl rfl rfl

theorem Referred.portsKept (h : Referred t s) : PortsKept t s := by
  obtain ⟨_, _, _, _, _, rfl⟩ := h
  exact .of_eq rfl rfl rfl

theorem Logged.portsKept (h : Logged t s) : PortsKept t s := h.referred.portsKept

theorem Laned.portsKept (h : Laned t s) : PortsKept t s := by
  obtain ⟨_, _, rfl⟩ := h
  exact .of_eq rfl rfl rfl

theorem Replied.portsKept (h : Replied t s) : PortsKept t s := by
  obtain ⟨_, _, _, _, _, _, _, _, _, _, _, rfl, -, -, -⟩ := h
  exact .of_eq rfl rfl rfl

end

/-! ### Commands that complete (R65, R463) -/

theorem State.mirrorDone_portsKept (s : State) (c : Ctx) (r pr : Rpl) : PortsKept (s.mirrorDone c r pr) s := by
  unfold State.mirrorDone
  extract_lets t
  have ht : PortsKept t s := (s.sendReply_replied c r).portsKept
  split
  · exact ht
  · exact (State.log_logged _ _ _ _ _ _ _).portsKept.trans (PortsKept.trans (t := t) (.of_eq rfl rfl rfl) ht)

/-- A command that a pair unit mirrors may be held again, with its reply, until the partner's comes. -/
theorem State.complete_portsKept (s : State) (c : Ctx) (r : Rpl) : PortsKept (s.complete c r) s := by
  unfold State.complete
  split
  · exact .refl s
  split
  · exact .of_eq rfl rfl rfl
  split
  · split
    · exact (s.sendReply_replied c r).portsKept
    split
    · exact (State.mirrorDone_portsKept _ _ _ _).trans (.of_eq rfl rfl rfl)
    · refine ⟨⟨rfl, fun j hj hp => ?_⟩, rfl⟩
      rcases List.mem_append.mp hj with hj | hj
      · exact hj
      · rw [List.mem_singleton.mp hj] at hp
        exact Bool.noConfusion hp
  · exact (s.sendReply_replied c r).portsKept

theorem State.completeWhere_portsKept (s : State) (f : Work → Option Rpl) : PortsKept (s.completeWhere f) s :=
  (PortsKept.foldl (fun t (d : Ctx × Rpl) => t.complete_portsKept d.1 d.2) _ _).trans (.of_jobs fun _ h => List.mem_of_mem_filter h)

theorem State.completeFirst_portsKept (s : State) (p : Work → Bool) (r : Rpl) : PortsKept (s.completeFirst p r) s := by
  unfold State.completeFirst
  split
  · exact .refl s
  · exact (State.complete_portsKept _ _ _).trans (.of_jobs fun _ h => List.mem_of_mem_erase h)

/-! ### Sessions, a closure run and the twin link follow a port (R291, R334, R466) -/

theorem State.updateServo_portsKept (s : State) (n : Nat) : PortsKept (s.updateServo n) s := by
  unfold State.updateServo
  dsimp only
  (repeat' split) <;> exact .of_eq rfl rfl rfl

theorem State.sesTo_portsKept (s : State) (sid : Nat) (n : SesSt) : PortsKept (s.sesTo sid n) s := by
  unfold State.sesTo
  split
  · exact .refl s
  next x _ =>
    extract_lets old _ t
    have ht : PortsKept t s := .of_eq rfl rfl rfl
    split
    · exact ht
    split
    · split
      · exact PortsKept.trans (t := t) (.of_eq rfl rfl rfl) ht
      split
      · exact (State.refFail_referred _ _ _).portsKept.trans ht
      · exact ht
    · exact (State.updateServo_portsKept _ _).trans ht

theorem State.sessionsDown_portsKept (s : State) (p : Nat) : PortsKept (s.sessionsDown p) s :=
  .foldl (fun t k => t.sesTo_portsKept k .down) _ s

theorem State.sesPortUp_portsKept (s : State) (sid : Nat) : PortsKept (s.sesPortUp sid) s := by
  unfold State.sesPortUp
  split
  · split
    · exact s.sesTo_portsKept _ _
    · exact .refl s
  · exact .refl s

theorem State.sessionsUp_portsKept (s : State) (p : Nat) : PortsKept (s.sessionsUp p) s :=
  .foldl (fun t k => t.sesPortUp_portsKept k) _ s

theorem State.replyRejected_portsKept (s : State) (r : Closure) (reason : Nat) (fig : Option (Int × Int)) :
    PortsKept (s.replyRejected r reason fig) s := by
  unfold State.replyRejected
  cases fig <;> exact (State.complete_portsKept _ _ _).trans (.of_eq rfl rfl rfl)

theorem State.dropRings_portsKept (s : State) (r : Closure) : PortsKept (s.dropRings r) s := by
  have htell (t : State) (ws : List Word) : PortsKept (t.twinTell ws) t := by
    obtain ⟨_, _, h⟩ := t.twinTell_frame ws
    rw [h]
    exact .of_eq rfl rfl rfl
  exact (PortsKept.foldl (fun t (k : Nat) => htell t [4, w32 k]) _ _).trans (.of_eq rfl rfl rfl)

theorem startClosures_portsKept (n : Nat) (s : State) : PortsKept (startClosures n s) s := by
  induction n generalizing s with
  | zero => exact .refl s
  | succ n ih =>
    unfold startClosures
    split
    · exact .refl s
    split
    next c ws _ =>
      extract_lets _ t r u
      have ht : PortsKept t s := .of_jobs fun _ h => List.mem_of_mem_erase h
      split
      · exact PortsKept.trans (t := t.dropRings r) (.of_eq rfl rfl rfl) ((t.dropRings_portsKept r).trans ht)
      · exact (ih _).trans ((t.replyRejected_portsKept _ _ _).trans ht)
    · exact .refl s

theorem State.closurePortLost_portsKept (s : State) (p : Nat) : PortsKept (s.closurePortLost p) s := by
  have hreject : PortsKept (s.rejectClosure 1) s := by
    unfold State.rejectClosure
    split
    · exact .refl s
    · exact (startClosures_portsKept _ _).trans ((State.replyRejected_portsKept _ _ _ _).trans (.of_eq rfl rfl rfl))
  unfold State.closurePortLost
  split
  · split
    · exact hreject
    · exact .refl s
  · exact .refl s

theorem State.twinLost_portsKept (s : State) : PortsKept s.twinLost s := by
  have halone (t : State) : PortsKept t.mirrorAlone t :=
    (PortsKept.foldl (fun u (e : Ctx × Rpl) => (u.sendReply_replied e.1 e.2).portsKept) _ _).trans
      ⟨⟨rfl, fun _ h _ => List.mem_of_mem_filter h⟩, rfl⟩
  unfold State.twinLost
  split
  · exact .refl s
  · exact (State.completeWhere_portsKept _ _).trans ((halone _).trans
      ((State.log_logged _ _ _ _ _ _ _).portsKept.trans (.of_eq rfl rfl rfl)))

theorem State.leaveUp_portsKept (s : State) (p : Nat) : PortsKept (s.leaveUp p) s := by
  have h : PortsKept ((s.sessionsDown p).closurePortLost p) s := (State.closurePortLost_portsKept _ p).trans (s.sessionsDown_portsKept p)
  unfold State.leaveUp
  dsimp only
  split
  · exact (State.twinLost_portsKept _).trans h
  · exact h

/-! ### Calibration steps and a lane's step (R100, R527) -/

theorem State.breakCal_portsKept (s : State) (l why : Nat) : PortsKept (s.breakCal l why) s := by
  have hreply (t : State) (c : CalStep) (reason : Nat) : PortsKept (t.calReply c reason) t := by
    unfold State.calReply
    split
    · exact t.completeFirst_portsKept _ _
    · exact .refl t
  have hreject (t : State) (c : CalStep) (reason : Nat) : PortsKept (t.calReject c reason) t := by
    unfold State.calReject
    dsimp only
    refine (hreply _ _ _).trans ?_
    split
    · exact (State.log_logged _ _ _ _ _ _ _).portsKept.trans (.of_eq rfl rfl rfl)
    · exact (State.queueEvent_logged _ _ _).portsKept.trans (.of_eq rfl rfl rfl)
  exact .foldl (fun t c =>
    (hreject { t with pal := { t.pal with steps := t.pal.steps.erase c, near := Tab.erase t.pal.near c.item } } c why).trans
      (.of_eq rfl rfl rfl)) _ s

theorem State.laneStep_portsKept (s : State) (l n : Nat) : PortsKept (s.laneStep l n) s := by
  unfold State.laneStep
  dsimp only
  split
  · exact .refl s
  · refine (State.queueEvent_logged _ _ _).portsKept.trans ?_
    split
    · exact PortsKept.trans (t := State.breakCal _ l 1) (.of_eq rfl rfl rfl) ((State.breakCal_portsKept _ l 1).trans (.of_eq rfl rfl rfl))
    · exact .of_eq rfl rfl rfl

/-! ### Frames of a port that goes down (R142, R143) -/

theorem State.cutShort_portsKept (s : State) (c : Copy) (lo : Nat) : PortsKept (s.cutShort c lo) s := by
  unfold State.cutShort
  extract_lets t
  have ht : PortsKept t s := by
    unfold t
    split
    · split
      · exact .refl s
      · dsimp only
        split <;> exact .of_eq rfl rfl rfl
    · exact .refl s
  have hdrop : PortsKept (t.dropCopy c) s := PortsKept.trans (t := t) (.of_eq rfl rfl rfl) ht
  exact (State.finish_consumed _ _ _).portsKept.trans hdrop

theorem State.endFrame_portsKept (s : State) (id : Nat) : PortsKept (s.endFrame id) s := by
  unfold State.endFrame
  (repeat' split) <;> exact .of_eq rfl rfl rfl

theorem State.dropPunt_portsKept (s : State) (x : PuntItem) (cause : Nat) : PortsKept (s.dropPunt x cause) s :=
  ((State.finish_consumed _ _ _).trans ⟨_, _, rfl⟩).portsKept

end Sys2Proof.Machine
end

section
/-! A port that goes down or up (R139-R146): what it is left as, that no other port changes, and when a bypass pair follows. -/

namespace Sys2Proof.Machine

open Sys2Proof

/-! ### One port changes -/

/-- A state with one port of another brought to a value, its port table in order. -/
structure PortTo (p : Nat) (x : Port) (t s : State) : Prop where
  sorted : Tab.sorted t.ports = true
  port : t.port p = x
  other : ∀ q, q ≠ p → t.port q = s.port q

section
variable {s t u : State} {p : Nat} {x : Port}

theorem PortTo.refl (h : Tab.sorted s.ports = true) : PortTo p (s.port p) s s := ⟨h, rfl, fun _ _ => rfl⟩

theorem PortTo.of_ports (h : u.ports = t.ports) (k : PortTo p x t s) : PortTo p x u s :=
  have hport (q : Nat) : u.port q = t.port q := by rw [State.port, h, State.port]
  ⟨by rw [h, k.sorted], (hport p).trans k.port, fun q hq => (hport q).trans (k.other q hq)⟩

theorem PortTo.kept (h : PortsKept u t) (k : PortTo p x t s) : PortTo p x u s := k.of_ports h.ports

theorem PortTo.modPort (h : PortTo p x t s) (f : Port → Port) : PortTo p (f x) (t.modPort p f) s :=
  ⟨Tab.sorted_put _ _ h.sorted, by rw [← h.port]; exact Tab.get_put_self _ _ _ h.sorted,
    fun q hq => (Tab.get_put_ne _ _ _ hq).trans (h.other q hq)⟩

/-- A flush counts what it drops and what it truncates (R142, R143). -/
theorem PortTo.flushPort (h : PortTo p x t s) : ∃ fd tt, PortTo p { x with flushDrops := fd, txTrunc := tt } (t.flushPort p) s := by
  unfold State.flushPort
  extract_lets mine u
  have hqueued : ∃ fd, PortTo p { x with flushDrops := fd } u s :=
    List.foldlRecOn (motive := fun v => ∃ fd, PortTo p { x with flushDrops := fd } v s) _ _ ⟨_, h⟩ (fun v hv c _ => by
      obtain ⟨_, hv⟩ := hv
      exact ⟨_, .kept ((State.finish_consumed _ _ _).trans ⟨_, _, rfl⟩).portsKept
        (.kept (State.event_consumed _ _ _ _ _).portsKept (hv.modPort fun x => { x with flushDrops := inc32 x.flushDrops }))⟩)
  obtain ⟨fd, hu⟩ := hqueued
  refine List.foldlRecOn (motive := fun v => ∃ fd tt, PortTo p { x with flushDrops := fd, txTrunc := tt } v s) _ _ ⟨fd, _, hu⟩ ?_
  rintro v ⟨_, _, hv⟩ c -
  exact ⟨_, _, .kept (State.cutShort_portsKept _ _ _)
    (.kept (State.event_consumed _ _ _ _ _).portsKept (hv.modPort fun x => { x with txTrunc := inc16 x.txTrunc }))⟩

theorem PortTo.truncateRx (h : PortTo p x t s) : ∃ rt, PortTo p { x with rxTrunc := rt } (t.truncateRx p) s := by
  unfold State.truncateRx
  split
  · exact ⟨_, h⟩
  next f _ =>
    extract_lets a b c d
    have ha : PortTo p { x with rxTrunc := inc16 x.rxTrunc } a s :=
      .kept (State.event_consumed _ _ _ _ _).portsKept (h.modPort fun x => { x with rxTrunc := inc16 x.rxTrunc })
    have hb : PortsKept b a := .of_eq rfl rfl rfl
    have hc : PortsKept c b := .foldl (fun t x => t.cutShort_portsKept x 0) _ b
    have hd : PortsKept d c := .foldl (fun t x => t.dropPunt_portsKept x 0x403) _ c
    have hend : PortsKept ((d.finish f.id 0x403).endFrame f.id) a :=
      (State.endFrame_portsKept _ _).trans ((State.finish_consumed _ _ _).portsKept.trans (hd.trans (hc.trans hb)))
    exact ⟨_, .kept hend ha⟩

/-- Without the filter or at its end (R142, R143, R145). -/
theorem PortTo.portDown (h : PortTo p x t s) (st : PortSt) :
    ∃ fd tt rt, PortTo p { x with st := st, flushDrops := fd, txTrunc := tt, rxTrunc := rt } (t.portDown p st) s := by
  have hst := h.modPort fun x => { x with st := st }
  unfold State.portDown
  dsimp only
  split
  · obtain ⟨_, hrx⟩ := hst.truncateRx
    obtain ⟨_, _, hflush⟩ := hrx.flushPort
    exact ⟨_, _, _, .kept (State.leaveUp_portsKept _ p) hflush⟩
  split
  · obtain ⟨_, _, hflush⟩ := hst.flushPort
    exact ⟨_, _, _, hflush⟩
  · exact ⟨_, _, _, hst⟩

/-- A link loss starts the filter, which expires at once where it is 0 (R140, R141). -/
theorem PortTo.portLoss (h : PortTo p x t s) : ∃ fd tt rt, PortTo p { x with
    lfEvents := inc16 x.lfEvents, st := if x.lfFilter = 0 then .down else .filter, flushDrops := fd, txTrunc := tt, rxTrunc := rt }
    (t.portLoss p) s := by
  unfold State.portLoss
  extract_lets a b c
  obtain ⟨_, ha⟩ := h.truncateRx
  have hb := ha.modPort fun x => { x with lfEvents := inc16 x.lfEvents, st := PortSt.filter }
  have hc := PortTo.kept (State.leaveUp_portsKept b p) hb
  have hfilter : (c.port p).lfFilter = x.lfFilter := by rw [hc.port]
  rw [hfilter]
  split
  · obtain ⟨_, _, _, hdown⟩ := hc.portDown .down
    exact ⟨_, _, _, hdown⟩
  · exact ⟨_, _, _, hc⟩

theorem State.confirmPair_ports (s : State) (b : Nat) : (s.confirmPair b).ports = s.ports := by
  unfold State.confirmPair
  dsimp only
  split <;> rfl

/-- A return to UP counts as recovered where the filter still ran (R141, R144). -/
theorem PortTo.portUp (h : PortTo p x t s) : PortTo p { x with
    st := .up, lfRecovered := if x.st = .filter then inc16 x.lfRecovered else x.lfRecovered } (t.portUp p) s := by
  have hup := h.modPort fun y => { y with st := .up, lfRecovered := if x.st = .filter then inc16 y.lfRecovered else y.lfRecovered }
  unfold State.portUp
  rw [h.port]
  dsimp only
  refine List.foldlRecOn (motive := fun v => PortTo p _ v s) _ _ (.kept (State.sessionsUp_portsKept _ p) hup) ?_
  exact fun v hv b _ => hv.of_ports (v.confirmPair_ports b)

theorem PortTo.syncFault (h : PortTo p x t s) : ∃ b, PortTo p { x with faultTx := b } (t.syncFault p) s := by
  unfold State.syncFault
  dsimp only
  split
  · exact ⟨_, h⟩
  · exact ⟨_, .kept (t := t.modPort p _) (.of_eq rfl rfl rfl) (h.modPort fun x => { x with faultTx := t.rxLinkDown p })⟩

/-! ### A port in service follows its link (R140-R144) -/

section
variable (h : PortTo p x t s) (hex : t.portExists p = true) (hby : t.bypassed p = false) (hen : x.enable = true)
include h hex hby hen

/-- An UP port that receives a fault. -/
theorem PortTo.loses (hup : x.st = .up) (hfault : x.localFault = true ∨ x.remoteFault = true) : ∃ fd tt rt ft, PortTo p { x with
    lfEvents := inc16 x.lfEvents, st := if x.lfFilter = 0 then .down else .filter, flushDrops := fd, txTrunc := tt, rxTrunc := rt
    faultTx := ft } (t.syncPort p) s := by
  have hok : t.linkOk p = false := by
    rcases hfault with hf | hf <;> simp [State.linkOk, h.port, hf]
  have hstate : t.syncState p = t.portLoss p := by simp [State.syncState, hex, hby, h.port, hen, hup, hok]
  obtain ⟨_, _, _, hloss⟩ := h.portLoss
  rw [State.syncPort, hstate]
  obtain ⟨_, htx⟩ := hloss.syncFault
  exact ⟨_, _, _, _, htx⟩

/-- A port without a loss, while its filter runs. -/
theorem PortTo.returns (hst : x.st = .filter) (hok : t.linkOk p = true) : ∃ ft, PortTo p { x with
    st := .up, lfRecovered := inc16 x.lfRecovered, faultTx := ft } (t.syncPort p) s := by
  have hstate : t.syncState p = t.portUp p := by simp [State.syncState, hex, hby, h.port, hen, hst, hok]
  have hup := h.portUp
  rw [if_pos hst] at hup
  rw [State.syncPort, hstate]
  exact hup.syncFault

end

end

/-! ### Bypass pairs beside a port (R155-R162) -/

theorem State.pair_setPair_ne (s : State) {b k : Nat} (x : Bypass) (h : k ≠ b) : (s.setPair b x).pair k = s.pair k := Tab.get_put_ne _ _ _ h

theorem State.pair_setPair {s : State} (b : Nat) (x : Bypass) (h : Tab.sorted s.bypass = true) : (s.setPair b x).pair b = x :=
  Tab.get_put_self _ _ _ h

theorem PairsKept.of_eq {s t : State} (hb : t.bypass = s.bypass) (hj : t.axg.jobs = s.axg.jobs) : PairsKept t s :=
  ⟨hb, fun _ h _ => hj ▸ h⟩

theorem State.modPort_pairsKept (s : State) (p : Nat) (f : Port → Port) : PairsKept (s.modPort p f) s := .of_eq rfl rfl

theorem State.flushPort_pairsKept (s : State) (p : Nat) : PairsKept (s.flushPort p) s := by
  have hqueued (t : State) (c : Copy) : PairsKept
      ((((t.modPort p (fun x => { x with flushDrops := inc32 x.flushDrops })).ev 0x110 p).dropCopy c).finish c.frame 0x402) t :=
    ((State.finish_consumed _ _ _).trans ⟨_, _, rfl⟩).portsKept.toPairsKept.trans
      ((State.event_consumed _ _ _ _ _).portsKept.toPairsKept.trans (t.modPort_pairsKept p _))
  have hsending (t : State) (c : Copy) :
      PairsKept (((t.modPort p (fun x => { x with txTrunc := inc16 x.txTrunc })).ev 0x113 p).cutShort c 0) t :=
    (State.cutShort_portsKept _ _ _).toPairsKept.trans
      ((State.event_consumed _ _ _ _ _).portsKept.toPairsKept.trans (t.modPort_pairsKept p _))
  exact (PairsKept.foldl hsending _ _).trans (.foldl hqueued _ s)

theorem State.truncateRx_pairsKept (s : State) (p : Nat) : PairsKept (s.truncateRx p) s := by
  unfold State.truncateRx
  split
  · exact .refl s
  next f _ =>
    extract_lets a b c d
    have ha : PairsKept a s := (State.event_consumed _ _ _ _ _).portsKept.toPairsKept.trans (s.modPort_pairsKept p _)
    have hb : PairsKept b a := .of_eq rfl rfl
    have hc : PortsKept c b := .foldl (fun t x => t.cutShort_portsKept x 0) _ b
    have hd : PortsKept d c := .foldl (fun t x => t.dropPunt_portsKept x 0x403) _ c
    have hend : PortsKept ((d.finish f.id 0x403).endFrame f.id) b :=
      (State.endFrame_portsKept _ _).trans ((State.finish_consumed _ _ _).portsKept.trans (hd.trans hc))
    exact hend.toPairsKept.trans (hb.trans ha)

theorem State.portDown_pairsKept (s : State) (p : Nat) (st : PortSt) : PairsKept (s.portDown p st) s := by
  have hst := s.modPort_pairsKept p (fun x => { x with st := st })
  unfold State.portDown
  dsimp only
  split
  · exact (State.leaveUp_portsKept _ p).toPairsKept.trans
      ((State.flushPort_pairsKept _ p).trans ((State.truncateRx_pairsKept _ p).trans hst))
  split
  · exact (State.flushPort_pairsKept _ p).trans hst
  · exact hst

theorem State.portLoss_pairsKept (s : State) (p : Nat) : PairsKept (s.portLoss p) s := by
  unfold State.portLoss
  extract_lets a b c
  have hc : PairsKept c s := (State.leaveUp_portsKept b p).toPairsKept.trans ((a.modPort_pairsKept p _).trans (s.truncateRx_pairsKept p))
  split
  · exact (c.portDown_pairsKept p _).trans hc
  · exact hc

theorem State.syncFault_pairsKept (s : State) (p : Nat) : PairsKept (s.syncFault p) s := by
  unfold State.syncFault
  dsimp only
  split
  · exact .refl s
  · exact .of_eq rfl rfl

/-- A port that a pair holds does not come UP, so that no pair follows it (R145, R159). -/
theorem State.syncPort_pairsKept {s : State} {p : Nat} (h : s.bypassed p = true) : PairsKept (s.syncPort p) s := by
  refine (State.syncFault_pairsKept _ p).trans ?_
  unfold State.syncState
  rw [h]
  dsimp only
  split
  · split
    · exact .refl s
    · exact s.portDown_pairsKept p _
  split
  · split
    · exact .refl s
    · exact s.portDown_pairsKept p _
  rw [if_pos rfl]
  split
  · exact .refl s
  · exact s.portDown_pairsKept p _

/-- Only a pair that probes has changed, and no command for a pair is new. -/
structure PairsRest (t s : State) : Prop where
  pair : ∀ k, (s.pair k).st ≠ .probing → t.pair k = s.pair k
  jobs : ∀ j ∈ t.axg.jobs, j.work.ofPair = true → j ∈ s.axg.jobs

section
variable {s t u : State}

theorem PairsKept.rest (h : PairsKept t s) : PairsRest t s := ⟨fun k _ => h.pair k, h.jobs⟩

theorem PairsRest.trans (h : PairsRest u t) (k : PairsRest t s) : PairsRest u s :=
  ⟨fun b hb => (h.pair b (by rwa [k.pair b hb])).trans (k.pair b hb), fun j hj hp => k.jobs j (h.jobs j hj hp) hp⟩

theorem PairsRest.foldl {α : Type} {f : State → α → State} (h : ∀ t x, PairsRest (f t x) t) (l : List α) (s : State) :
    PairsRest (l.foldl f s) s :=
  List.foldlRecOn (motive := fun t => PairsRest t s) l f (PairsKept.refl s).rest (fun t ht x _ => (h t x).trans ht)

theorem State.portUp_pairsRest (s : State) (p : Nat) : PairsRest (s.portUp p) s := by
  have hconfirm (t : State) (b : Nat) : PairsRest (t.confirmPair b) t := by
    unfold State.confirmPair
    dsimp only
    split
    next h =>
      refine ⟨fun k hk => State.pair_setPair_ne _ _ ?_, fun _ hj _ => hj⟩
      rintro rfl
      exact hk h.1
    · exact (PairsKept.refl t).rest
  exact (PairsRest.foldl hconfirm _ _).trans ((State.sessionsUp_portsKept _ p).toPairsKept.trans (s.modPort_pairsKept p _)).rest

/-- A pair that does not probe stays as it is when a port follows its lanes (R159). -/
theorem State.syncPort_pairsRest (s : State) (p : Nat) : PairsRest (s.syncPort p) s := by
  by_cases h : s.bypassed p = true
  · exact (State.syncPort_pairsKept h).rest
  refine (State.syncFault_pairsKept _ p).rest.trans ?_
  unfold State.syncState
  dsimp only
  split
  · split
    · exact (PairsKept.refl s).rest
    · exact (s.portDown_pairsKept p _).rest
  split
  · split
    · exact (PairsKept.refl s).rest
    · exact (s.portDown_pairsKept p _).rest
  split
  · split
    · exact (PairsKept.refl s).rest
    · exact (s.portLoss_pairsKept p).rest
  · split
    · exact s.portUp_pairsRest p
    · exact (PairsKept.refl s).rest
  · split
    · exact (State.portUp_pairsRest _ p).trans (s.modPort_pairsKept p _).rest
    · exact (s.modPort_pairsKept p _).rest

end

end Sys2Proof.Machine
end

section
/-! Closing and opening a bypass pair (R155-R161), and the commands for it (R161, R171, R172). -/

namespace Sys2Proof.Machine

open Sys2Proof

/-! ### Ports of a pair that holds them (R155, R162) -/

theorem PairsKept.pairHolds {s t : State} (h : PairsKept t s) (b : Nat) : t.pairHolds b = s.pairHolds b := by
  simp only [State.pairHolds, h.pair]

theorem PairsKept.bypassed {s t : State} (h : PairsKept t s) (p : Nat) : t.bypassed p = s.bypassed p :=
  congrArg (State.pairsOf s p).any (funext h.pairHolds)

theorem State.bypassed_portOfLane {s : State} {b l : Nat} (hb : b < 4) (hl : l / 2 = b) (h : s.pairHolds b = true) :
    s.bypassed (s.portOfLane l) = true := by
  refine List.any_eq_true.mpr ⟨b, ?_, h⟩
  by_cases hq : l < 32 ∧ s.formed (l / 4) = true
  · rw [State.portOfLane, if_pos hq, State.pairsOf, if_neg (by omega)]
    by_cases h4 : l / 4 = 0
    · rw [if_pos (by omega)]
      simp only [List.mem_cons, List.not_mem_nil]
      omega
    · rw [if_neg (by omega), if_pos (by omega)]
      simp only [List.mem_cons, List.not_mem_nil]
      omega
  · rw [State.portOfLane, if_neg hq, State.pairsOf, if_pos (by omega), hl]
    exact List.mem_singleton_self b

/-! ### A close begins (R157) -/

theorem State.laneRestart_pairsKept {s : State} {l : Nat} (n : Nat) (h : s.bypassed (s.portOfLane l) = true) : PairsKept (s.laneRestart l n) s := by
  unfold State.laneRestart
  extract_lets x k t
  have hput : PortsKept t s := .of_eq rfl rfl rfl
  have ht := ((State.checkLane_referred _ l).portsKept.trans ((t.laneStep_portsKept l k).trans hput)).toPairsKept
  exact (State.syncPort_pairsKept ((ht.bypassed _).trans h)).trans ht

/-- A pair as its close begins. -/
def Bypass.closeBegun (x : Bypass) (cause : Nat) : Bypass := { x with st := .closing, released := false, lastCause := cause }

section
variable {s : State} {b : Nat} (hb : b < 4) (hs : Tab.sorted s.bypass = true)
include hb hs

/-- What follows the pair's new state leaves the pairs: their ports do not come UP. -/
theorem State.startClose_pairsKept (cause : Nat) (hst : (s.pair b).st ≠ .closed ∧ (s.pair b).st ≠ .closing) :
    PairsKept (s.startClose b cause) (s.setPair b ((s.pair b).closeBegun cause)) := by
  unfold State.startClose
  extract_lets x a ls c d
  rw [if_neg (not_or.mpr hst)]
  have hholds {t : State} (ht : PairsKept t a) : t.pairHolds b = true := by
    rw [ht.pairHolds, State.pairHolds, State.pair_setPair b _ hs]
  have hls : ∀ l ∈ ls, l / 2 = b := fun l hl => by
    simp only [ls, List.mem_cons, List.not_mem_nil, or_false] at hl
    omega
  have hc : PairsKept c a := by
    refine List.foldlRecOn (motive := fun t => PairsKept t a) _ _ (.refl a) (fun t ht l hl => ?_)
    split
    · exact (State.laneRestart_pairsKept 2 (State.bypassed_portOfLane hb (hls l hl) (hholds ht))).trans ht
    · exact ht
  have hd : PairsKept d a :=
    List.foldlRecOn (motive := fun t => PairsKept t a) _ _ hc (fun t ht l hl =>
      (State.syncPort_pairsKept (State.bypassed_portOfLane hb (hls l hl) (hholds ht))).trans ht)
  exact (PairsKept.foldl (fun t l => (t.closurePortLost_portsKept _).toPairsKept) _ _).trans hd

theorem State.startClose_pair (cause : Nat) (hst : (s.pair b).st ≠ .closed ∧ (s.pair b).st ≠ .closing) :
    (s.startClose b cause).pair b = (s.pair b).closeBegun cause :=
  ((State.startClose_pairsKept hb hs cause hst).pair b).trans (State.pair_setPair b _ hs)

end

/-! ### Commands in progress -/

section
variable {s : State} {c : Ctx} {w : Work} {p : Work → Bool}

/-- The first of its kind, a command just taken is found. -/
theorem State.findJob_hold_new (h : s.findJob p = none) (hw : p w = true) : (s.hold c w).findJob p = some { ctx := c, work := w } := by
  rw [State.findJob] at h
  rw [State.findJob, State.hold, List.find?_append, h]
  simp [hw]

/-- It completes as if it had not been held. -/
theorem State.completeFirst_hold_new (h : s.findJob p = none) (hw : p w = true) (r : Rpl) : (s.hold c w).completeFirst p r = s.complete c r := by
  have hmem : ({ ctx := c, work := w } : Job) ∉ s.axg.jobs := fun hj => List.find?_eq_none.mp h _ hj hw
  have herase : (s.axg.jobs ++ [({ ctx := c, work := w } : Job)]).erase { ctx := c, work := w } = s.axg.jobs := by
    rw [List.erase_append_right _ hmem, List.erase_cons_head, List.append_nil]
  rw [State.completeFirst, State.findJob_hold_new h hw]
  dsimp only [State.hold]
  rw [herase]

theorem updWork_append_new {l : List Job} {w' : Work} (h : l.find? (fun j => p j.work) = none) (hw : p w = true) :
    updWork p w' (l ++ [{ ctx := c, work := w }]) = l ++ [{ ctx := c, work := w' }] := by
  induction l with
  | nil => exact if_pos hw
  | cons j l ih =>
    rw [List.find?_eq_none, List.forall_mem_cons] at h
    obtain ⟨hj, hl⟩ := h
    rw [List.cons_append, updWork, if_neg hj, ih (List.find?_eq_none.mpr hl), List.cons_append]

end

/-! ### Commands for a pair (R161) -/

/-- No command for a pair is in progress. -/
def State.noPairJob (s : State) : Prop := ∀ j ∈ s.axg.jobs, j.work.ofPair = false

section
variable {s : State} {b : Nat}

theorem Work.ofPair_of_pairWork {w : Work} (h : s.pairWork b w = true) : w.ofPair = true := by
  cases w with
  | bypass _ _ _ => rfl
  | policy _ _ _ => rfl
  | _ => exact Bool.noConfusion h

/-- As the statements say it. -/
theorem State.noPairJob_of_all
    (h : s.axg.jobs.all (fun j => match j.work with | .bypass _ _ _ => false | .policy _ _ _ => false | _ => true) = true) : s.noPairJob := by
  intro j hj
  have hw := List.all_eq_true.mp h j hj
  generalize j.work = w at hw ⊢
  cases w with
  | bypass _ _ _ => exact Bool.noConfusion hw
  | policy _ _ _ => exact Bool.noConfusion hw
  | _ => rfl

theorem State.noPairJob.findJob {t : State} (h : s.noPairJob) : s.findJob (t.pairWork b) = none := by
  exact List.find?_eq_none.mpr fun j hj hw => Bool.noConfusion ((h j hj).symm.trans (Work.ofPair_of_pairWork hw))

/-- Without a command that has something to do, nothing is done. -/
theorem State.runPair_none (n : Nat) (h : s.findJob (s.pairWork b) = none) : State.runPair b n s = s := by
  cases n with
  | zero => rfl
  | succ n => rw [State.runPair, h]

theorem State.noPairJob.runPair (h : s.noPairJob) (n : Nat) : State.runPair b n s = s := State.runPair_none n h.findJob

theorem PairsRest.noPairJob {t : State} (h : PairsRest t s) (hn : s.noPairJob) : t.noPairJob := by
  intro j hj
  cases hp : j.work.ofPair with
  | false => rfl
  | true => exact hp.symm.trans (hn j (h.jobs j hj hp))

theorem Replied.noPairJob {t : State} (h : Replied t s) (hn : s.noPairJob) : t.noPairJob := by
  rw [State.noPairJob, h.jobs]
  exact hn

/-- The fuel of a command just taken. -/
theorem State.servePair_hold (c : Ctx) (w : Work) : (s.hold c w).servePair b = State.runPair b (2 * s.axg.jobs.length + 2) (s.hold c w) := by
  rw [State.servePair]
  exact congrArg (fun n => State.runPair b n _) (by simp [State.hold, Nat.mul_add])

end

/-! ### A pair's registers -/

/-- A state with one pair of another brought to a value, its pair table in order, and nothing else changed. -/
structure PairTo (b : Nat) (x : Bypass) (t s : State) : Prop where
  sorted : Tab.sorted t.bypass = true
  pair : t.pair b = x
  other : ∀ k, k ≠ b → t.pair k = s.pair k
  keeps : t.keeps s [.bypass]

section
variable {s t : State} {b : Nat} {x : Bypass}

theorem State.setPair_keeps (s : State) (b : Nat) (x : Bypass) : (s.setPair b x).keeps s [.bypass] := by
  intro q hq
  cases q <;> simp [Part.same] at hq ⊢

theorem PairTo.refl (h : Tab.sorted s.bypass = true) : PairTo b (s.pair b) s s :=
  ⟨h, rfl, fun _ _ => rfl, fun q _ => by cases q <;> rfl⟩

theorem PairTo.modPair (h : PairTo b x t s) (f : Bypass → Bypass) : PairTo b (f x) (t.modPair b f) s := by
  refine ⟨Tab.sorted_put _ _ h.sorted, ?_, fun k hk => (State.pair_setPair_ne _ _ hk).trans (h.other k hk), .trans ?_ h.keeps⟩
  · rw [← h.pair]
    exact State.pair_setPair b _ h.sorted
  · exact State.setPair_keeps _ _ _

theorem PairTo.setPair (h : PairTo b x t s) (y : Bypass) : PairTo b y (t.setPair b y) s := h.modPair fun _ => y

end

/-! ### BYPASS.SET and BYPASS.POLICY, just taken (R161, R171, R172) -/

section
variable {s : State} {b : Nat} {c : Ctx}

theorem State.pairWork_new (s : State) (b : Nat) (close : Bool) : s.pairWork b (.bypass b close false) = true := by
  cases close <;> simp [State.pairWork]

variable (hn : s.noPairJob)
include hn

theorem State.pairActed_hold_new (close : Bool) :
    (s.hold c (.bypass b close false)).pairActed b close = s.hold c (.bypass b close true) := by
  have hjobs := updWork_append_new (c := c) (w' := .bypass b close true) hn.findJob ((s.hold c (.bypass b close false)).pairWork_new b close)
  rw [State.pairActed]
  simp only [State.hold] at hjobs ⊢
  rw [hjobs]

/-- A SET that meets the other transition waits for its end. -/
theorem servePair_waits {close : Bool} (hst : (s.pair b).st = if close then .opening else .closing) :
    (s.hold c (.bypass b close false)).servePair b = s.hold c (.bypass b close false) := by
  have hst' : ((s.hold c (.bypass b close false)).pair b).st = if close then .opening else .closing := hst
  rw [State.servePair_hold, State.runPair, State.findJob_hold_new hn.findJob (State.pairWork_new _ b close)]
  cases close <;> simp only [hst', if_true, Bool.false_eq_true, if_false]

/-- A command that has taken effect rests while its transition runs. -/
theorem State.runPair_acted {t u : State} {x : Bypass} {close : Bool} (ht : PairTo b x t s) (hst : x.st = if close then .closing else .opening)
    (n : Nat) (hu : PairsKept u (t.hold c (.bypass b close true))) : State.runPair b n u = u := by
  have haxg : t.axg = s.axg := ht.keeps .axg (by simp)
  have hpair : u.pair b = x := (hu.pair b).trans ht.pair
  refine State.runPair_none n (List.find?_eq_none.mpr fun j hj hw => ?_)
  have hp := Work.ofPair_of_pairWork hw
  rcases List.mem_append.mp (hu.jobs j hj hp) with hj | hj
  · rw [haxg] at hj
    exact Bool.noConfusion ((hn j hj).symm.trans hp)
  · rw [List.mem_singleton.mp hj] at hw
    cases close <;> simp [State.pairWork, hpair, hst] at hw

section
variable (hs : Tab.sorted s.bypass = true)
include hs

/-- OPEN on a CLOSED pair begins an open (R160). -/
theorem servePair_open_closed (hst : (s.pair b).st = .closed) :
    ∃ u, PairTo b { s.pair b with st := .opening, held := false, released := false, retrying := false } u s ∧
      (s.hold c (.bypass b false false)).servePair b = u.hold c (.bypass b false true) := by
  have hto := ((PairTo.refl (b := b) hs).modPair fun x => { x with held := false }).modPair
    fun x => { x with st := .opening, released := false, retrying := false }
  refine ⟨_, hto, ?_⟩
  have hst' : ((s.hold c (.bypass b false false)).pair b).st = .closed := hst
  rw [State.servePair_hold, State.runPair, State.findJob_hold_new hn.findJob (State.pairWork_new _ b false)]
  simp only [hst']
  rw [State.pairActed_hold_new hn]
  exact State.runPair_acted hn hto (close := false) rfl _ (.refl _)

/-- CLOSE on an OPEN pair begins a close (R157). -/
theorem servePair_close_opened (hb : b < 4) (hst : (s.pair b).st = .opened) :
    ∃ u, PairTo b (Bypass.closeBegun { s.pair b with held := true } 4) u s ∧
      PairsKept ((s.hold c (.bypass b true false)).servePair b) (u.hold c (.bypass b true true)) := by
  have hheld := (PairTo.refl (b := b) hs).modPair fun x => { x with held := true }
  have hto := hheld.modPair fun x => x.closeBegun 4
  refine ⟨_, hto, ?_⟩
  have hst' : ((s.hold c (.bypass b true false)).pair b).st = .opened := hst
  rw [State.servePair_hold, State.runPair, State.findJob_hold_new hn.findJob (State.pairWork_new _ b true)]
  simp only [hst']
  rw [State.pairActed_hold_new hn]
  have hopen : (((s.hold c (.bypass b true true)).pairHeld b false true).pair b).st = .opened := (congrArg Bypass.st hheld.pair).trans hst
  have hclose := State.startClose_pairsKept (s := (s.hold c (.bypass b true true)).pairHeld b false true) hb hheld.sorted 4
    (by rw [hopen]; exact ⟨PairSt.noConfusion, PairSt.noConfusion⟩)
  rw [State.runPair_acted hn hto (close := true) rfl _ hclose]
  exact hclose

end

section
variable (hc : c.mirrored = false)
include hc

/-- A command of which nothing waits completes, and no other acts. -/
theorem State.runPair_completes {t u : State} {w : Work} {x : Bypass} (hu : PairTo b x u s) (hw : t.pairWork b w = true) (n : Nat)
    (r : List Word) : State.runPair b n ((u.hold c w).completeFirst (t.pairWork b) (okRpl r)) = u.ok c r := by
  have haxg : u.axg = s.axg := hu.keeps .axg (by simp)
  have hjobs : u.noPairJob := by
    rw [State.noPairJob, haxg]
    exact hn
  rw [State.completeFirst_hold_new hjobs.findJob hw]
  exact ((State.complete_replied u _ hc).noPairJob hjobs).runPair n

variable (hs : Tab.sorted s.bypass = true)
include hs

/-- CLOSE on a CLOSED pair holds it (R159). -/
theorem servePair_close_closed (hst : (s.pair b).st = .closed) : ∃ u, PairTo b { s.pair b with held := true, retrying := false } u s ∧
    (s.hold c (.bypass b true false)).servePair b = u.ok c [u.pairWord b] := by
  have hto := ((PairTo.refl (b := b) hs).modPair fun x => { x with held := true }).modPair fun x => { x with retrying := false }
  refine ⟨_, hto, ?_⟩
  have hst' : ((s.hold c (.bypass b true false)).pair b).st = .closed := hst
  rw [State.servePair_hold, State.runPair, State.findJob_hold_new hn.findJob (State.pairWork_new _ b true)]
  simp only [hst']
  exact State.runPair_completes hn hc hto (State.pairWork_new _ b true) _ _

/-- OPEN on an OPEN pair ends its hold. -/
theorem servePair_open_opened (hst : (s.pair b).st = .opened) : ∃ u, PairTo b { s.pair b with held := false } u s ∧
    (s.hold c (.bypass b false false)).servePair b = u.ok c [u.pairWord b] := by
  have hto := (PairTo.refl (b := b) hs).modPair fun x => { x with held := false }
  refine ⟨_, hto, ?_⟩
  have hst' : ((s.hold c (.bypass b false false)).pair b).st = .opened := hst
  rw [State.servePair_hold, State.runPair, State.findJob_hold_new hn.findJob (State.pairWork_new _ b false)]
  simp only [hst']
  exact State.runPair_completes hn hc hto (State.pairWork_new _ b false) _ _

theorem servePair_policy_read {w0 : Word} (w1 : Word) (hw : bit w0 31 = false) :
    (s.hold c (.policy b w0 w1)).servePair b = s.ok c (s.policyWords b false) := by
  have hwork : (s.hold c (.policy b w0 w1)).pairWork b (.policy b w0 w1) = true := by simp [State.pairWork]
  rw [State.servePair_hold, State.runPair, State.findJob_hold_new hn.findJob hwork]
  simp only [hw]
  exact State.runPair_completes hn hc (.refl hs) hwork _ _

theorem servePair_policy_write {w0 w1 : Word} (hw : bit w0 31 = true) : ∃ u, PairTo b { s.pair b with
      auto := bit w1 0, openProbe := clamp 1 1000 (fld w1 15 4), retryGap := clamp 1 3600 (fld w1 31 16), held := false,
      retrying := (s.pair b).retrying && bit w1 0 } u s ∧
    (s.hold c (.policy b w0 w1)).servePair b = u.ok c (u.policyWords b true) := by
  have hto := (PairTo.refl (b := b) hs).modPair fun x => { x with
    auto := bit w1 0, openProbe := clamp 1 1000 (fld w1 15 4), retryGap := clamp 1 3600 (fld w1 31 16), held := false,
    retrying := x.retrying && bit w1 0 }
  refine ⟨_, hto, ?_⟩
  have hwork : (s.hold c (.policy b w0 w1)).pairWork b (.policy b w0 w1) = true := by simp [State.pairWork]
  rw [State.servePair_hold, State.runPair, State.findJob_hold_new hn.findJob hwork]
  simp only [hw]
  exact State.runPair_completes hn hc hto hwork _ _

end

end

end Sys2Proof.Machine
end

section
/-! Link loss, bypass pairs, supervision frames and node entries (R140-R173): each row, and the statement on them. -/

namespace Sys2Proof.Machine

open Sys2Proof

/-- A row on one of n like things that exists. -/
theorem idxRow_completes {i : Instr} {s : State} {n k : Nat} {P : State → Prop} (f : State → State) (hi : exec i s = .next (onIdx n k f s))
    (hk : k < n) (h : P (f s)) : Completes i s P :=
  ⟨f s, by rw [hi, onIdx, if_pos hk], h⟩

theorem idxRow_next {i : Instr} {s t : State} {n k : Nat} (f : State → State) (hi : exec i s = .next (onIdx n k f s)) (hk : k < n)
    (h : f s = t) : exec i s = .next t := by
  rw [hi, onIdx, if_pos hk, h]

/-! ### Link loss and its return (R140-R146) -/

/-- A port as a link loss is observed: its fault, and the frame it ends. -/
def Port.lossSeen (x : Port) (cause : Nat) (tq withDown early : Bool) : Port := { x with
  localFault := x.localFault || decide (cause = 0)
  remoteFault := x.remoteFault || decide (cause = 1)
  alignLost := x.alignLost || (decide (cause = 2) && tq)
  rxTrunc := if early = true ∧ (x.st = .up ∨ x.st = .filter ∨ withDown = true) then inc16 x.rxTrunc else x.rxTrunc }

section
variable {s : State} {p : Nat}

theorem linkLoss_syncs (cause : Nat) (withDown early : Bool) (h : (s.port p).st = .up) : linkLoss p cause withDown early s =
    (s.modPort p fun x => x.lossSeen cause (decide (96 ≤ p)) withDown early).syncPort p := if_neg fun hd => hd.2.1 h

/-- In the tick of an event of R145, a loss on a port that is down only counts (R146). -/
theorem linkLoss_counts (cause : Nat) (early : Bool) (hu : (s.port p).st ≠ .up) (hf : (s.port p).st ≠ .filter) : linkLoss p cause true early s =
    ((s.modPort p fun x => x.lossSeen cause (decide (96 ≤ p)) true early).modPort p fun x => { x with lfEvents := inc16 x.lfEvents }).syncFault p :=
  if_pos ⟨rfl, hu, hf⟩

theorem State.modPort_keeps (s : State) (p : Nat) (f : Port → Port) : (s.modPort p f).keeps s [.ports] := by
  intro q hq
  cases q <;> simp [Part.same, State.modPort] at hq ⊢

theorem State.syncFault_keeps (s : State) (p : Nat) : (s.syncFault p).keeps s [.ports, .out] := by
  unfold State.syncFault
  dsimp only
  split
  · exact fun q _ => by cases q <;> rfl
  · intro q hq
    cases q <;> simp [Part.same, State.modPort] at hq ⊢

variable (hs : Tab.sorted s.ports = true)
include hs

theorem linkLoss_down (cause : Nat) (early : Bool) (hu : (s.port p).st ≠ .up) (hf : (s.port p).st ≠ .filter) : ∃ ft,
    PortTo p { (s.port p).lossSeen cause (decide (96 ≤ p)) true early with lfEvents := inc16 (s.port p).lfEvents, faultTx := ft }
      (linkLoss p cause true early s) s := by
  rw [linkLoss_counts cause early hu hf]
  exact (((PortTo.refl (p := p) hs).modPort fun x => x.lossSeen cause (decide (96 ≤ p)) true early).modPort
    fun x => { x with lfEvents := inc16 x.lfEvents }).syncFault

theorem lfFilterExpiry_down (hst : (s.port p).st = .filter) : ∃ fd tt rt,
    PortTo p { s.port p with st := .down, flushDrops := fd, txTrunc := tt, rxTrunc := rt } (lfFilterExpiry p s) s := by
  rw [lfFilterExpiry, if_pos hst]
  exact (PortTo.refl hs).portDown .down

section
variable (hex : s.portExists p = true) (hen : (s.port p).enable = true) (hby : s.bypassed p = false)
include hex hen hby

/-- A fault received on an UP port. -/
theorem linkLoss_up {cause : Nat} (hc : cause < 2) (withDown early : Bool) (hup : (s.port p).st = .up) : ∃ fd tt rt ft,
    PortTo p { (s.port p).lossSeen cause (decide (96 ≤ p)) withDown early with
      lfEvents := inc16 (s.port p).lfEvents, st := if (s.port p).lfFilter = 0 then .down else .filter, flushDrops := fd, txTrunc := tt
      rxTrunc := rt, faultTx := ft } (linkLoss p cause withDown early s) s := by
  rw [linkLoss_syncs cause withDown early hup]
  refine ((PortTo.refl (p := p) hs).modPort fun x => x.lossSeen cause (decide (96 ≤ p)) withDown early).loses hex hby hen hup ?_
  rcases (by omega : cause = 0 ∨ cause = 1) with rfl | rfl
  · exact .inl (Bool.or_true _)
  · exact .inr (Bool.or_true _)

/-- The last loss clears while the filter runs. -/
theorem linkLossCleared_filter (hst : (s.port p).st = .filter)
    (hl : (portLanes p).all (fun l => decide ((s.lane l).step = 7) && decide ((s.lane l).loopMode = 0)) = true) : ∃ ft, PortTo p { s.port p with
      localFault := false, remoteFault := false, alignLost := false, st := .up, lfRecovered := inc16 (s.port p).lfRecovered, faultTx := ft }
      (linkLossCleared p s) s := by
  have hclear := (PortTo.refl (p := p) hs).modPort fun x => { x with localFault := false, remoteFault := false, alignLost := false }
  refine hclear.returns hex hby hen hst ?_
  rw [State.linkOk, hclear.port]
  exact Bool.and_eq_true_iff.mpr ⟨Bool.and_eq_true_iff.mpr ⟨Bool.and_eq_true_iff.mpr ⟨hl, rfl⟩, rfl⟩, rfl⟩

end

end

/-! ### Bypass pairs (R155-R160) -/

section
variable {s : State} {b : Nat}

theorem State.noPairJob_of_nil (h : s.axg.jobs = []) : s.noPairJob := by
  rw [State.noPairJob, h]
  exact List.forall_mem_nil _

/-- A close ends. -/
theorem bypassClosed_closes (hj : s.axg.jobs = []) (hst : (s.pair b).st = .closing) : bypassClosed b s =
    (s.setPair b { s.pair b with
      st := .closed, closes := inc16 (s.pair b).closes, retrying := (s.pair b).auto && decide ((s.pair b).lastCause = 5) }).log .mgmt 0x0201
        (srcOf 3 b) (pack [(0, (s.pair b).lastCause)]) 0 0 := by
  rw [bypassClosed, if_neg (not_not.mpr hst)]
  dsimp only
  refine State.noPairJob.runPair (State.noPairJob_of_nil ?_) _
  rw [State.log_axg]
  exact hj

/-- An open ends: the lanes are released, and their ports follow. -/
theorem bypassOpened_opens (hs : Tab.sorted s.bypass = true) (hj : s.axg.jobs = []) (hst : (s.pair b).st = .opening) :
    ((bypassOpened b s).pair b).st = .opened ∧ ((bypassOpened b s).pair b).released = true ∧ (bypassOpened b s).lanes = s.lanes := by
  unfold bypassOpened
  rw [if_neg fun h => h.1 hst, if_pos hst]
  extract_lets t u
  have hu : PairsRest u t := .foldl (fun v l => v.syncPort_pairsRest _) _ t
  have hlanes : LanesKept u t := .foldl (fun v l => v.syncPort_lanesKept _) _ t
  have ht : t.pair b = { s.pair b with released := true, st := .opened } := State.pair_setPair b _ hs
  have hpair : u.pair b = t.pair b := hu.pair b (by rw [ht]; exact PairSt.noConfusion)
  have hjobs : t.noPairJob := State.noPairJob_of_nil hj
  have hserve : u.servePair b = u := (hu.noPairJob hjobs).runPair _
  rw [hserve, hpair, ht]
  exact ⟨rfl, rfl, hlanes.lanes⟩

/-- A probe that is not confirmed closes again, with cause 5. -/
theorem openProbeExpiry_closes (hb : b < 4) (hs : Tab.sorted s.bypass = true) (hst : (s.pair b).st = .probing) (hr : (s.pair b).released = true) :
    (openProbeExpiry b s).pair b = Bypass.closeBegun { s.pair b with probeFails := inc8 (s.pair b).probeFails } 5 := by
  have hput := (PairTo.refl (b := b) hs).setPair { s.pair b with probeFails := inc8 (s.pair b).probeFails }
  have hclose := State.startClose_pair hb hput.sorted 5 (by rw [hput.pair, hst]; exact ⟨PairSt.noConfusion, PairSt.noConfusion⟩)
  rw [hput.pair] at hclose
  rw [openProbeExpiry, if_pos ⟨hst, hr⟩]
  exact hclose

/-- The policy begins a probe where it may (R159). -/
theorem probeStart_probes (hs : Tab.sorted s.bypass = true) (hmay : s.policyMay b = true) (hr : (s.pair b).retrying = false) :
    PairTo b { s.pair b with st := .probing, released := false, retrying := false } (probeStart b s) s := by
  rw [probeStart, if_pos ⟨hmay, hr⟩]
  exact (PairTo.refl hs).setPair _

/-- The wait before a new probe ends. -/
theorem retryGapExpiry_ends (hs : Tab.sorted s.bypass = true) (hr : (s.pair b).retrying = true) : ∃ x, x.retrying = false ∧
    x.st = (if s.policyMay b then .probing else (s.pair b).st) ∧ PairTo b x (retryGapExpiry b s) s := by
  have hput := (PairTo.refl (b := b) hs).setPair { s.pair b with retrying := false }
  have hmay : (s.setPair b { s.pair b with retrying := false }).policyMay b = s.policyMay b := by
    rw [State.policyMay, hput.pair]
    rfl
  have hne : ¬ (s.pair b).retrying = false := by simp [hr]
  rw [retryGapExpiry, if_neg hne]
  dsimp only
  rw [hmay]
  cases s.policyMay b with
  | true => exact ⟨{ s.pair b with st := .probing, released := false, retrying := false }, rfl, rfl, by
      have hopen := hput.modPair fun x => { x with st := .probing, released := false, retrying := false }
      exact hopen⟩
  | false => exact ⟨{ s.pair b with retrying := false }, rfl, rfl, hput⟩

end

/-! ### Supervision frames and node entries (R151, R154) -/

/-- A frame leaves for each port of a ring that runs. -/
theorem supervisionSend_sends {s : State} {k : Nat} (hup : s.dpUp = true) (hm : (s.ring k).mode ≠ 0) : ∃ l : List Ins,
    l.map Ins.port = [(s.ring k).portA, (s.ring k).portB] ++ (if (s.ring k).mode = 3 then [(s.ring k).interlink] else []) ∧
      supervisionSend k s = { s.setRing k { s.ring k with seq := ((s.ring k).seq + 1) % 65536 } with
        buf := { s.buf with iqCmd := s.buf.iqCmd ++ l } } := by
  refine ⟨_, ?_, if_neg (by simp [hup, hm])⟩
  rw [List.map_map, List.map_append]
  split <;> rfl

theorem Tab.find?_mapVal {α : Type} (f : Nat → α → α) (t : Tab α) (k : Nat) : Tab.find? (Tab.mapVal f t) k = (Tab.find? t k).map (f k) := by
  induction t with
  | nil => rfl
  | cons e t ih =>
    change (if e.1 = k then some (f e.1 e.2) else Tab.find? (Tab.mapVal f t) k) = (if e.1 = k then some e.2 else Tab.find? t k).map (f k)
    split
    next he => rw [he, Option.map_some]
    · exact ih

/-! ### The commands -/

theorem bodyBypassSet_eq (c : Ctx) {ws : List Word} (s : State) {close : Bool} (h : bit (wd ws 0) 8 = close) :
    bodyBypassSet c ws s = (s.hold c (.bypass (fld (wd ws 0) 1 0) close false)).servePair (fld (wd ws 0) 1 0) := by
  rw [← h, bodyBypassSet]

theorem State.accepted_pair (s : State) (op : Nat) (p : Pkt) (b : Nat) : (s.accepted op p).pair b = s.pair b := by
  rw [State.pair, State.accepted_bypass, State.pair]

/-- What an accepted command for a pair meets when no other is in progress. -/
theorem State.accepted_noPairJob {s : State} (op : Nat) (p : Pkt) (hn : s.noPairJob) : (s.accepted op p).noPairJob := by
  rw [State.noPairJob, State.accepted_axg_jobs]
  exact hn

theorem fld_1_0_lt (w : Word) : fld w 1 0 < 4 := by
  rw [fld]
  omega

/-! ### The obligation -/

theorem State.hold_keeps (s : State) (c : Ctx) (w : Work) : (s.hold c w).keeps s [.axg] := by
  intro q hq
  cases q <;> simp [Part.same] at hq ⊢

/-- Settles O53: a row on a port by what the port is left as, a row on a pair by its state, a command by what waits for its pair. -/
theorem linksAndPairs : Obligations.LinksAndPairs := by
  refine ⟨fun s p c b e hp hs hex hen hby hup hc => ?_, fun s p c e hp hs hu hf => ?_, fun s p hp hf => ?_, fun s p hp hf hs => ?_,
    fun s p hp hs hex hen hby hf hl => ?_, fun s b hb => ⟨fun h => ?_, fun h h' => ?_, fun h => ?_, fun h => ?_, fun h => ?_⟩,
    fun s b hb hs hj => ⟨fun h => ?_, fun h => ?_, fun h hr => ?_, fun h hr => ?_, fun h => ?_⟩, fun s k hk h => ?_,
    fun s k hk hup hm hs => ?_, fun s k => rfl, fun s k => ?_, fun s p h hs => fun hn => ?_, fun s p h hs => fun hn => ?_, fun s p h => ?_⟩
  · obtain ⟨_, _, _, _, hto⟩ := linkLoss_up hs hex hen hby hc b e hup
    refine idxRow_completes (linkLoss p c b e) rfl hp ⟨?_, ?_, ?_, ?_, ?_, hto.other⟩
    · rw [hto.port]
    · rw [hto.port]
    · rw [hto.port]; rfl
    · rw [hto.port]; rfl
    · rw [linkLoss_syncs c b e hup]
      exact ((State.syncPort_lanesKept _ p).trans (s.modPort_lanesKept p _)).lanes
  · obtain ⟨_, hto⟩ := linkLoss_down hs c e hu hf
    refine idxRow_completes (linkLoss p c true e) rfl hp ⟨?_, ?_, ?_, ?_, hto.other⟩
    · rw [linkLoss_counts c e hu hf]
      exact (State.syncFault_keeps _ p).trans (((State.modPort_keeps _ p _).trans (s.modPort_keeps p _)).mono (by simp))
    · rw [hto.port]
      simp [Port.lossSeen]
    · rw [hto.port]
    · rw [hto.port]; rfl
  · exact idxRow_next (lfFilterExpiry p) rfl hp (if_neg hf)
  · obtain ⟨_, _, _, hto⟩ := lfFilterExpiry_down hs hf
    refine idxRow_completes (lfFilterExpiry p) rfl hp ⟨?_, ?_, hto.other⟩ <;> rw [hto.port]
  · obtain ⟨_, hto⟩ := linkLossCleared_filter hs hex hen hby hf hl
    refine idxRow_completes (linkLossCleared p) rfl hp ⟨?_, ?_, ?_, ?_, hto.other⟩ <;> rw [hto.port]
  · exact idxRow_next (bypassClosed b) rfl hb (if_pos h)
  · exact idxRow_next (bypassOpened b) rfl hb (if_pos ⟨h, h'⟩)
  · exact idxRow_next (probeStart b) rfl hb (if_neg (by rcases h with h | h <;> simp [h]))
  · exact idxRow_next (openProbeExpiry b) rfl hb (if_neg (by rcases h with h | h <;> simp [h]))
  · exact idxRow_next (retryGapExpiry b) rfl hb (if_pos h)
  · have hto := (PairTo.refl (b := b) hs).setPair { s.pair b with
      st := .closed, closes := inc16 (s.pair b).closes, retrying := (s.pair b).auto && decide ((s.pair b).lastCause = 5) }
    refine idxRow_completes (bypassClosed b) rfl hb ?_
    rw [bypassClosed_closes hj h, State.log_mgmt]
    refine ⟨fun q hq => ?_, hto.other, rfl, hto.pair⟩
    cases q <;> simp [Part.same] at hq ⊢
  · exact idxRow_completes (bypassOpened b) rfl hb (bypassOpened_opens hs hj h)
  · have hto := probeStart_probes hs h hr
    exact idxRow_completes (probeStart b) rfl hb ⟨hto.keeps, hto.pair, hto.other⟩
  · refine idxRow_completes (openProbeExpiry b) rfl hb ?_
    rw [openProbeExpiry_closes hb hs h hr]
    exact ⟨rfl, rfl, rfl⟩
  · obtain ⟨x, hr, hst, hto⟩ := retryGapExpiry_ends hs h
    refine idxRow_completes (retryGapExpiry b) rfl hb ⟨hto.keeps, ?_, ?_, hto.other⟩ <;> rw [hto.pair]
    · exact hr
    · exact hst
  · exact idxRow_next (supervisionSend k) rfl hk (if_pos h)
  · obtain ⟨l, hl, hrow⟩ := supervisionSend_sends hup hm
    refine idxRow_completes (supervisionSend k) rfl hk ?_
    rw [hrow]
    refine ⟨fun q hq => ?_, Tab.get_put_self _ _ _ hs, fun j hj => Tab.get_put_ne _ _ _ hj, l, rfl, hl⟩
    cases q <;> simp [Part.same] at hq ⊢
  · refine ⟨_, rfl, fun q hq => ?_, fun j hj => ?_, ?_⟩
    · cases q <;> simp [Part.same, entryForget] at hq ⊢
    · rw [entryForget]
      dsimp only
      rw [Tab.find?_mapVal]
      simp [hj]
    · rw [entryForget]
      dsimp only
      rw [Tab.find?_mapVal]
      simp
  · have hna := State.accepted_noPairJob 0x0240 p (State.noPairJob_of_all hn)
    have hsa : Tab.sorted (s.accepted 0x0240 p).bypass = true := by rw [State.accepted_bypass, hs]
    have hrow {t : State} (ht : bodyBypassSet (s.ctxOf 0x0240 p) p.words (s.accepted 0x0240 p) = t) : exec (.bypassSet p) s = .next t :=
      congrArg Host.Outcome.next ((receive_accepted bodyBypassSet h).trans ht)
    intro a
    simp only [← State.accepted_pair s 0x0240 p]
    refine ⟨fun hw hst => ?_, fun hw hst => ?_, fun hw hst => ?_, fun hw hst => ?_, fun hw hst => ?_, fun hw hst => ?_⟩
    · obtain ⟨u, hto, hserve⟩ := servePair_close_closed hna (s.ctxOf_mirrored 0x0240 p) hsa hst
      exact ⟨u, answers_of_body rfl h ((bodyBypassSet_eq _ _ hw).trans hserve), hto.keeps, hto.pair, hto.other⟩
    · obtain ⟨u, hto, hserve⟩ := servePair_open_opened hna (s.ctxOf_mirrored 0x0240 p) hsa hst
      exact ⟨u, answers_of_body rfl h ((bodyBypassSet_eq _ _ hw).trans hserve), hto.keeps, hto.pair, hto.other⟩
    · obtain ⟨u, hto, hserve⟩ := servePair_open_closed hna hsa hst
      refine ⟨_, hrow ((bodyBypassSet_eq _ _ hw).trans hserve), ?_, ?_, hto.pair, hto.other⟩
      · exact ((u.hold_keeps _ _).mono (by simp)).trans (hto.keeps.mono (by simp))
      · rw [← State.accepted_axg_jobs s 0x0240 p]
        exact congrArg (fun x : Axg => x.jobs ++ _) (hto.keeps .axg (by simp))
    · obtain ⟨u, hto, hkept⟩ := servePair_close_opened hna hsa (fld_1_0_lt (wd p.words 0)) hst
      refine ⟨_, hrow (bodyBypassSet_eq _ _ hw), ?_, ?_, ?_, ?_, fun k hk => congrArg Bypass.st ((hkept.pair k).trans (hto.other k hk))⟩
      all_goals rw [(hkept.pair _).trans hto.pair]
      all_goals rfl
    · exact hrow ((bodyBypassSet_eq _ _ hw).trans (servePair_waits hna hst))
    · exact hrow ((bodyBypassSet_eq _ _ hw).trans (servePair_waits hna hst))
  · have hna := State.accepted_noPairJob 0x0241 p (State.noPairJob_of_all hn)
    have hsa : Tab.sorted (s.accepted 0x0241 p).bypass = true := by rw [State.accepted_bypass, hs]
    simp only [State.policyWords, ← State.accepted_pair s 0x0241 p]
    refine ⟨fun hw => ?_, fun hw => ?_⟩
    · exact answers_of_body rfl h (servePair_policy_read hna (s.ctxOf_mirrored 0x0241 p) hsa _ hw)
    · obtain ⟨u, hto, hserve⟩ := servePair_policy_write hna (s.ctxOf_mirrored 0x0241 p) hsa hw
      exact ⟨u, answers_of_body rfl h hserve, hto.keeps, hto.pair, hto.other⟩
  · refine answers_of_body rfl h (congrArg (State.ok _ _) (List.map_congr_left fun b _ => ?_))
    rw [State.pairWord, State.accepted_pair, State.pairWord]

end Sys2Proof.Machine
end

section
/-! PORT.CONFIG with FORM 0 (R137): the group it dissolves, where the table of TQ groups is in order, and a table in which it fails to. -/

namespace Sys2Proof.Machine

open Sys2Proof

/-! ### A TQ group is formed or dissolved -/

/-- The table of TQ groups is this one, and the lane table is in order. -/
structure FormIs (F : Tab Bool) (t : State) : Prop where
  form : t.form = F
  sorted : Tab.sorted t.lanes = true

section
variable {F : Tab Bool} {s t u : State}

theorem FormIs.kept (h : LanesKept u t) (k : FormIs F t) : FormIs F u := ⟨h.form.trans k.form, by rw [h.lanes, k.sorted]⟩

theorem FormIs.laneTo {l : Nat} {x : Lane} (h : LaneTo l x u t) (k : FormIs F t) : FormIs F u := ⟨h.form.trans k.form, h.sorted⟩

theorem FormIs.foldl {α : Type} {f : State → α → State} (h : ∀ t x, FormIs F t → FormIs F (f t x)) (l : List α) (k : FormIs F s) :
    FormIs F (l.foldl f s) :=
  List.foldlRecOn l f k (fun t ht x _ => h t x ht)

theorem FormIs.lanesRestart (h : FormIs F s) (ls : List Nat) (n : Nat) : FormIs F (s.lanesRestart ls n) :=
  .foldl (fun _ l ht => ht.laneTo (State.laneRestart_laneTo l n ht.sorted)) ls h

theorem State.changeRing_lanesKept (s : State) (k : Nat) (r : Ring) : LanesKept (s.changeRing k r) s := by
  unfold State.changeRing
  dsimp only
  split <;> exact ⟨rfl, rfl⟩

theorem State.dropRoles_lanesKept (s : State) : LanesKept s.dropRoles s :=
  .foldl (fun t k => t.changeRing_lanesKept k _) _ s

theorem State.setForm_formIs (h : Tab.sorted s.lanes = true) (k : Nat) (on : Bool) :
    FormIs (Tab.put falseReset s.form k on) (s.setForm k on) := by
  unfold State.setForm
  extract_lets ls ps down put lanes
  have hdown : LanesKept down s := .foldl State.forceDown_lanesKept ps s
  have hput : FormIs (Tab.put falseReset s.form k on) put := ⟨by rw [← hdown.form], by rw [← h, ← hdown.lanes]⟩
  have hlanes : FormIs (Tab.put falseReset s.form k on) lanes := by
    refine .foldl (fun t l ht => ?_) ls hput
    dsimp only
    split
    · have hset : FormIs (Tab.put falseReset s.form k on) (t.setLane l { t.lane l with rate := 4 }) :=
        ht.laneTo (State.setLane_laneTo ht.sorted)
      have hcal := hset.kept (State.breakCal_linksKept _ l 2).toLanesKept
      exact hcal.laneTo (State.endTraining_laneTo l hcal.sorted true)
    · exact ht
  exact ((hlanes.kept lanes.dropRoles_lanesKept).kept (.foldl State.syncPort_lanesKept ps _)).lanesRestart ls 1

/-- The step of PORT.CONFIG that makes the group's entry what FORM asks for. -/
theorem State.reform_formIs (hl : Tab.sorted s.lanes = true) (hF : Tab.sorted s.form = true) (k : Nat) (on : Bool) :
    ∃ F, FormIs F (if decide (on ≠ s.formed k) then s.setForm k on else s) ∧ Tab.get falseReset F k = on ∧
      ∀ j, j ≠ k → Tab.get falseReset F j = s.formed j := by
  split
  · exact ⟨_, State.setForm_formIs hl k on, Tab.get_put_self _ _ _ hF, fun j hj => Tab.get_put_ne _ _ _ hj⟩
  next h => exact ⟨s.form, ⟨rfl, hl⟩, (of_not_not fun hne => h (decide_eq_true hne)).symm, fun _ _ => rfl⟩

theorem bodyPortConfig_form (c : Ctx) {ws : List Word} (hw : bit (wd ws 0) 31 = true) (hl : Tab.sorted s.lanes = true)
    (hF : Tab.sorted s.form = true) (hx : s.portExists (portArg (wd ws 0)) = true) (hq : 96 ≤ portArg (wd ws 0)) :
    ∃ (u : State) (r : List Word), bodyPortConfig c ws s = u.ok c r ∧ r.length = 2 ∧
      u.formed (portArg (wd ws 0) - 96) = bit (wd ws 1) 2 ∧ ∀ j, j ≠ portArg (wd ws 0) - 96 → u.formed j = s.formed j := by
  unfold bodyPortConfig
  extract_lets w p a tq reform t old new changed put out
  refine ⟨out, _, rfl, rfl, ?_⟩
  obtain ⟨F, hreform, hself, hother⟩ := State.reform_formIs hl hF (p - 96) (bit a 2)
  suffices hout : FormIs F out by
    simp only [State.formed, hout.form]
    exact ⟨hself, hother⟩
  have hreformed : reform = decide (bit a 2 ≠ s.formed (p - 96)) := by simp [reform, tq, p, hq]
  have hput : FormIs F put := by
    rw [← hreformed] at hreform
    exact FormIs.kept (t := t) ⟨rfl, rfl⟩ hreform
  unfold out
  rw [if_pos ⟨hw, .inl hx⟩]
  split
  · exact FormIs.lanesRestart (hput.kept (State.forceDown_lanesKept _ _)) _ _
  · exact hput

/-- PORT.CONFIG with FORM 0 as its clause of PortCommands says it, given a table of groups in order. -/
theorem portConfig_dissolves {p : Pkt} (h : s.accepts 0x0220 (lenIs 2) p = true) (hw : bit (wd p.words 0) 31 = true)
    (hl : Tab.sorted s.lanes = true) (hF : Tab.sorted s.form = true) (hx : s.portExists (portArg (wd p.words 0)) = true)
    (hq : 96 ≤ portArg (wd p.words 0)) (hform : bit (wd p.words 1) 2 = false) : ∃ u r, Answers (.portConfig p) s 0x0220 p u r ∧ r.length = 2 ∧
      u.formed (portArg (wd p.words 0) - 96) = false ∧ ∀ j, j ≠ portArg (wd p.words 0) - 96 → u.formed j = s.formed j := by
  have hexists : (s.accepted 0x0220 p).portExists (portArg (wd p.words 0)) = true := by
    simp only [State.portExists, State.formed, State.accepted_form] at hx ⊢
    exact hx
  obtain ⟨u, r, hrow, hlen, hoff, hother⟩ := bodyPortConfig_form (s := s.accepted 0x0220 p) (s.ctxOf 0x0220 p) hw (by rw [State.accepted_lanes, hl])
    (by rw [State.accepted_form, hF]) hexists hq
  refine ⟨u, r, answers_of_body rfl h hrow, hlen, hoff.trans hform, fun j hj => ?_⟩
  rw [hother j hj, State.formed, State.accepted_form, State.formed]

end

/-! ### A table that lists a group twice -/


/-- The part in service with TQ port 96 formed, in a table that lists it twice. -/
def formedTwice : State :=
  { start := { power := .run, mpi := .up, pcieUp := true, done := true, scriptEnded := true, watchdog := true }
    clk := { rootLock := true, tpUp := true, dpUp := true }
    form := [(0, true), (0, true)] }

/-- PORT.CONFIG of port 96 with WRITE 1 and FORM 0, over SPI. -/
def dissolve96 : Pkt := { via := .spi, words := [0x80000060, 0] }

theorem dissolve96_accepted : formedTwice.accepts 0x0220 (lenIs 2) dissolve96 = true := by decide +kernel

/-- As FORM 0 takes group 0 to its reset value, its first entry leaves the table, and it reads as the second. -/
theorem dissolve96_stays : (formedTwice.receive (lenIs 2) bodyPortConfig 0x0220 dissolve96).formed 0 = true := by decide +kernel

/-- Refutes O52: its clause of PORT.CONFIG with FORM 0 asks for no form of the table of TQ groups, and fails of one that lists a group twice.
With the table in order the clause holds (portConfig_dissolves). -/
theorem not_portCommands : ¬ Obligations.PortCommands := by
  rintro ⟨-, hwrite, -⟩
  obtain ⟨-, hdissolve, -⟩ := hwrite formedTwice dissolve96 dissolve96_accepted (by decide) rfl rfl
  obtain ⟨u, r, hrow, -, hoff, -⟩ := hdissolve (by decide) (by decide) (by decide)
  have hstays := dissolve96_stays
  rw [Host.Outcome.next.inj hrow, State.formed, State.ok_form] at hstays
  exact Bool.noConfusion (hoff.symm.trans hstays)

end Sys2Proof.Machine
end

section
/-! Frames in the shared buffer (R192-R196, R220-R231): what writing, ending and freeing a frame changes, and which copies are left. -/

namespace Sys2Proof.Machine

open Sys2Proof

/-! ### Writing a frame (R174, R220, R611) -/

/-- What writing a frame's bytes and deciding its fate can change: the stored frames and the counters. -/
def Written (t s : State) : Prop := ∃ frames cnt, t = { s with buf := { s.buf with frames := frames }, cnt := cnt }

/-- The counters alone. -/
def Counted (t s : State) : Prop := ∃ cnt, t = { s with cnt := cnt }

section
variable {s t u : State}

theorem Counted.refl (s : State) : Counted s s := ⟨_, rfl⟩

theorem Counted.trans (h : Counted u t) (k : Counted t s) : Counted u s := by
  obtain ⟨_, rfl⟩ := k
  obtain ⟨_, rfl⟩ := h
  exact ⟨_, rfl⟩

theorem Counted.written (h : Counted t s) : Written t s := by
  obtain ⟨_, rfl⟩ := h
  exact ⟨_, _, rfl⟩

theorem Counted.buf (h : Counted t s) : t.buf = s.buf := by
  obtain ⟨_, rfl⟩ := h
  rfl

theorem Written.refl (s : State) : Written s s := ⟨_, _, rfl⟩

theorem Written.trans (h : Written u t) (k : Written t s) : Written u s := by
  obtain ⟨_, _, rfl⟩ := k
  obtain ⟨_, _, rfl⟩ := h
  exact ⟨_, _, rfl⟩

theorem Written.keeps (h : Written t s) : t.keeps s [.buf, .cnt] := by
  obtain ⟨_, _, rfl⟩ := h
  intro q hq
  cases q <;> simp [Part.same] at hq ⊢

theorem Written.buf (h : Written t s) : t.buf = { s.buf with frames := t.buf.frames } := by
  obtain ⟨_, _, rfl⟩ := h
  rfl

theorem Written.refcnt (h : Written t s) (id : Nat) : t.refcnt id = s.refcnt id := by
  obtain ⟨_, _, rfl⟩ := h
  rfl

theorem Written.copying (h : Written t s) (id : Nat) : t.copying id = s.copying id := by
  obtain ⟨_, _, rfl⟩ := h
  rfl

theorem Written.modPort (h : Written t s) (p : Nat) (f : Port → Port) : Written (t.modPort p f) (s.modPort p f) := by
  obtain ⟨_, _, rfl⟩ := h
  exact ⟨_, _, rfl⟩

end

theorem State.event_counted (s : State) (ev inst q w : Nat) : Counted (s.event ev inst q w) s := by
  unfold State.event
  split
  · exact .refl s
  · exact ⟨_, rfl⟩

theorem State.segFate_counted (s : State) (p n : Nat) (delivered : Bool) (cause : Nat) : Counted (s.segFate p n delivered cause) s := by
  unfold State.segFate
  dsimp only
  split
  · exact ⟨_, rfl⟩
  · exact (State.event_counted _ _ _ _ _).trans ⟨_, rfl⟩

theorem State.rxBand_counted (s : State) (p len tick : Nat) : Counted (s.rxBand p len tick) s := by
  have hwindow (f : Band → Band) : Counted (s.inWindow tick p f) s := by
    unfold State.inWindow
    dsimp only
    split
    · exact ⟨_, rfl⟩
    split
    · exact ⟨_, rfl⟩
    · exact .refl s
  exact (State.event_counted _ _ _ _ _).trans ((State.event_counted _ _ _ _ _).trans (hwindow _))

theorem State.modFrame_written (s : State) (id : Nat) (g : Frame → Frame) : Written (s.modFrame id g) s := ⟨_, _, rfl⟩

theorem State.carry_written (s : State) (id p n : Nat) : Written (s.carry id p n) s := by
  unfold State.carry
  split
  · exact .refl s
  dsimp only
  split
  · exact ⟨_, _, rfl⟩
  · exact (State.segFate_counted _ _ _ _ _).written.trans ⟨_, _, rfl⟩

theorem State.wrote_written (s : State) (id len : Nat) : Written (s.wrote id len) s := by
  unfold State.wrote
  split
  · exact .refl s
  next f _ =>
    extract_lets n p t
    have ht : Written t s := (State.modFrame_written _ _ _).trans ((State.carry_written _ _ _ _).trans ⟨_, _, rfl⟩)
    split
    · exact ht
    · exact (State.modFrame_written t _ _).trans ht

theorem State.arriveSegs_written (s : State) (id len : Nat) : Written (s.arriveSegs id len) s :=
  (State.modFrame_written _ _ _).trans (s.wrote_written id len)

theorem State.endFrame_written (s : State) (id : Nat) : Written (s.endFrame id) s := by
  unfold State.endFrame
  (repeat' split) <;> exact ⟨_, _, rfl⟩

theorem foldl_segFate_counted (s : State) (l : Tab Nat) (delivered : Bool) (cause : Nat) :
    Counted (l.foldl (fun (s : State) e => s.segFate e.1 e.2 delivered cause) s) s :=
  List.foldlRecOn (motive := fun t => Counted t s) _ _ (.refl s) (fun t ht _ _ => (t.segFate_counted _ _ _ _).trans ht)

theorem State.finish_written (s : State) (id cause : Nat) : Written (s.finish id cause) s := by
  unfold State.finish
  split
  · exact .refl s
  split
  · exact .refl s
  next f _ _ =>
    extract_lets c t
    have hsegs : Written t s := (foldl_segFate_counted s _ _ _).written
    split
    · exact Written.trans (t := t) ⟨_, _, rfl⟩ hsegs
    · exact (State.modFrame_written t _ _).trans hsegs

/-! ### A frame that has just arrived -/

/-- The stored frames are a list and behind it the frame of this number, which satisfies `P`. -/
def Newest (P : Frame → Prop) (l : List Frame) (id : Nat) (t : State) : Prop := ∃ f, t.buf.frames = l ++ [f] ∧ f.id = id ∧ P f

/-- The frame's fate is open. -/
def Frame.undecided (f : Frame) : Prop := f.fate = none

section
variable {P Q : Frame → Prop} {l : List Frame} {id : Nat} {t u : State} (hl : ∀ x ∈ l, x.id ≠ id)

theorem Newest.of_buf (h : Newest P l id t) (hb : u.buf = t.buf) : Newest P l id u := by
  rwa [Newest, hb]

include hl

theorem Newest.frame? (h : Newest P l id t) : ∃ f, t.frame? id = some f ∧ P f := by
  obtain ⟨f, hf, rfl, hP⟩ := h
  refine ⟨f, ?_, hP⟩
  rw [State.frame?, hf, List.find?_append, List.find?_eq_none.mpr fun x hx => by simpa using hl x hx]
  simp

theorem Newest.modFrame (h : Newest P l id t) {g : Frame → Frame} (hg : ∀ f, P f → (g f).id = f.id ∧ Q (g f)) :
    Newest Q l id (t.modFrame id g) := by
  obtain ⟨f, hf, rfl, hP⟩ := h
  refine ⟨g f, ?_, hg f hP⟩
  have hold : l.map (fun x => if x.id = f.id then g x else x) = l := (List.map_congr_left fun x hx => if_neg (hl x hx)).trans (List.map_id l)
  rw [State.modFrame]
  dsimp only
  rw [hf, List.map_append, hold, List.map_singleton, if_pos rfl]

/-- Its segments pend. -/
theorem Newest.carry (h : Newest Frame.undecided l id t) (p n : Nat) : Newest Frame.undecided l id (t.carry id p n) := by
  obtain ⟨f, hf, hfate⟩ := h.frame? hl
  have hput : Newest Frame.undecided l id (t.setPend p ((t.pendOf p + n) % 2 ^ 32)) := h.of_buf rfl
  unfold State.carry
  simp only [hf, show f.fate = none from hfate]
  exact hput.modFrame hl fun f hf => ⟨rfl, hf⟩

theorem Newest.arriveSegs (h : Newest Frame.undecided l id t) (len : Nat) : Newest Frame.undecided l id (t.arriveSegs id len) := by
  obtain ⟨f, hf, hfate⟩ := h.frame? hl
  have hback : Newest Frame.undecided l id (t.setBacklog (pipeOf f.inPort) (t.backlogOf (pipeOf f.inPort) + (segsOf len - f.seen))) := h.of_buf rfl
  unfold State.arriveSegs State.wrote
  simp only [hf, show f.fate = none from hfate, Option.isSome_none, Bool.false_eq_true, if_false]
  unfold State.drawCells
  refine Newest.modFrame hl (P := Frame.undecided) ?_ fun f hf => ⟨rfl, hf⟩
  refine Newest.modFrame hl (P := Frame.undecided) ?_ fun f hf => ⟨rfl, hf⟩
  exact Newest.modFrame hl (P := Frame.undecided) (hback.carry hl _ _) fun f hf => ⟨rfl, hf⟩

/-- Decided, ended and without a reference, it leaves nothing behind (R231). -/
theorem Newest.finish (h : Newest (fun f => f.undecided ∧ f.decided = true ∧ f.ended = true) l id t) (hrefs : t.refcnt id = 0)
    (hcopying : t.copying id = false) (cause : Nat) : (t.finish id cause).buf = { t.buf with frames := l } := by
  obtain ⟨f, hf, hfate, hdecided, hended⟩ := h.frame? hl
  obtain ⟨f', hframes, hid, -⟩ := h
  unfold State.finish
  simp only [hf, show f.fate = none from hfate, hdecided, hended, hrefs, Option.isSome_none, Bool.true_eq_false, Bool.false_eq_true, ne_eq,
    not_true, or_self, if_false, true_and]
  have hbuf (d : Bool) (c : Nat) : (f.segs.foldl (fun (s : State) e => s.segFate e.1 e.2 d c) t).buf = t.buf := (foldl_segFate_counted t _ d c).buf
  rw [if_pos (by rw [State.copying, hbuf]; exact hcopying), State.eraseFrame, hbuf, hframes]
  have hold : l.filter (fun f => decide (f.id ≠ id)) = l := List.filter_eq_self.mpr fun x hx => decide_eq_true (hl x hx)
  rw [List.filter_append, hold, List.filter_singleton, hid]
  simp

end

end Sys2Proof.Machine
end

section
/-! Deciding a frame's targets and enqueueing its copies (R177, R192, R224, R227): the targets a frame may have, and the copies a state gains. -/

namespace Sys2Proof.Machine

open Sys2Proof

/-! ### The tables of a decision leave the buffer as it is (R148-R153, R177, R205) -/

@[simp] theorem State.event_buf (s : State) (ev inst q w : Nat) : (s.event ev inst q w).buf = s.buf := (s.event_counted ev inst q w).buf

@[simp] theorem State.ev_buf (s : State) (ev inst : Nat) : (s.ev ev inst).buf = s.buf := s.event_buf ev inst 0 1

@[simp] theorem State.modPort_buf (s : State) (p : Nat) (f : Port → Port) : (s.modPort p f).buf = s.buf := rfl

@[simp] theorem State.nextSeq_buf (s : State) (k : Nat) : (s.nextSeq k).2.buf = s.buf := rfl

@[simp] theorem State.seeNode_buf (s : State) (sa ring q role : Nat) : (s.seeNode sa ring q role).2.buf = s.buf := by
  unfold State.seeNode
  (repeat' split) <;> rfl

@[simp] theorem State.ringRules_buf (s : State) (i : Option (Nat × Ring × Nat)) (fid : Nat) (h : Hdr) (bs : List Byte) (whole : Bool) :
    (s.ringRules i fid h bs whole).2.buf = s.buf := by
  unfold State.ringRules
  dsimp only
  (repeat' split) <;> simp

@[simp] theorem State.ruleFor_buf (s : State) (p : Nat) (h : Hdr) : (s.ruleFor p h).2.buf = s.buf := by
  unfold State.ruleFor
  split <;> rfl

@[simp] theorem State.prune_buf (s : State) (p vid : Nat) (l : List Nat) : (s.prune p vid l).2.buf = s.buf := by
  unfold State.prune
  extract_lets targets member dropped members downPorts counted
  have hdropped : dropped.buf = s.buf := by
    unfold dropped
    split
    · exact s.ev_buf _ _
    · rfl
  exact List.foldlRecOn (motive := fun t : State => t.buf = s.buf) _ _ hdropped fun t ht q _ => by rw [State.ev_buf, State.modPort_buf, ht]

@[simp] theorem State.lookup_buf (s : State) (p vid cls : Nat) (h : Hdr) (d : Decision) : (s.lookup p vid cls h d).2.buf = s.buf := by
  unfold State.lookup
  dsimp only
  (repeat' split) <;> simp

@[simp] theorem State.resolve_buf (s : State) (p : Nat) (bs : List Byte) (whole : Bool) : (s.resolve p bs whole).2.buf = s.buf := by
  unfold State.resolve
  dsimp only
  (repeat' split) <;> simp [State.vlanDrop]

@[simp] theorem State.noteDigest_buf (s : State) (p : Nat) (rx : Stamp) (d : Decision) : (s.noteDigest p rx d).buf = s.buf := by
  unfold State.noteDigest
  dsimp only
  split <;> rfl

@[simp] theorem State.seqsFor_buf (s : State) (d : Decision) : (s.seqsFor d).2.buf = s.buf := by
  unfold State.seqsFor
  refine List.foldlRecOn (motive := fun acc : Tab Nat × State => acc.2.buf = s.buf) _ _ rfl fun acc hacc k _ => ?_
  dsimp only
  (repeat' split) <;> simp [hacc]

@[simp] theorem State.modRun_buf (s : State) (sid : Nat) (f : SesRun → SesRun) : (s.modRun sid f).buf = s.buf := by
  unfold State.modRun
  split <;> rfl

/-! ### No frame goes back out of its own port (R177) -/

theorem State.prune_targets_ne (s : State) {p vid q : Nat} {l : List Nat} (h : q ∈ (s.prune p vid l).1) : q ≠ p := by
  unfold State.prune at h
  have hkept := List.mem_of_mem_filter (List.mem_of_mem_filter h)
  simp only [List.mem_filter, Bool.and_eq_true, decide_eq_true_eq] at hkept
  exact hkept.2.1

theorem State.lookup_targets_ne (s : State) {p vid cls q : Nat} {h : Hdr} {d : Decision} (hd : d.targets = [])
    (hq : q ∈ (s.lookup p vid cls h d).1.targets) : q ≠ p := by
  unfold State.lookup at hq
  dsimp only at hq
  split at hq
  · split at hq
    · simp [hd] at hq
    · exact State.prune_targets_ne _ hq
  · exact State.prune_targets_ne _ hq

theorem State.resolve_targets_ne (s : State) {p q : Nat} {bs : List Byte} {whole : Bool} (hq : q ∈ (s.resolve p bs whole).1.targets) : q ≠ p := by
  unfold State.resolve at hq
  dsimp only at hq
  (repeat' split at hq) <;> try simp only [List.not_mem_nil] at hq
  all_goals exact State.lookup_targets_ne _ rfl hq

/-! ### Copies gained (R192, R224, R227) -/

/-- The copies are as they were, and no frame has been numbered. -/
structure CopiesKept (t s : State) : Prop where
  copies : t.buf.copies = s.buf.copies
  nextId : t.buf.nextId = s.buf.nextId

/-- Copies that satisfy `P` stand behind those there were, and no frame has been numbered. -/
structure Enqueued (P : Copy → Prop) (t s : State) : Prop where
  copies : ∃ l, t.buf.copies = s.buf.copies ++ l ∧ ∀ c ∈ l, P c
  nextId : t.buf.nextId = s.buf.nextId

section
variable {P : Copy → Prop} {s t u : State}

theorem CopiesKept.of_buf (h : t.buf = s.buf) : CopiesKept t s := ⟨by rw [h], by rw [h]⟩

theorem CopiesKept.trans (h : CopiesKept u t) (k : CopiesKept t s) : CopiesKept u s :=
  ⟨h.copies.trans k.copies, h.nextId.trans k.nextId⟩

theorem CopiesKept.foldl {α : Type} {f : State → α → State} (h : ∀ t x, CopiesKept (f t x) t) (l : List α) (s : State) :
    CopiesKept (l.foldl f s) s :=
  List.foldlRecOn l f (.of_buf rfl) (fun t ht x _ => (h t x).trans ht)

theorem Written.copiesKept (h : Written t s) : CopiesKept t s := by
  obtain ⟨_, _, rfl⟩ := h
  exact ⟨rfl, rfl⟩

theorem Logged.copiesKept (h : Logged t s) : CopiesKept t s := by
  obtain ⟨_, _, _, _, _, _, rfl⟩ := h
  exact ⟨rfl, rfl⟩

theorem CopiesKept.enqueued (h : CopiesKept t s) : Enqueued P t s := ⟨⟨[], by simpa using h.copies, by simp⟩, h.nextId⟩

theorem Enqueued.trans (h : Enqueued P u t) (k : Enqueued P t s) : Enqueued P u s := by
  obtain ⟨⟨l, hl, hP⟩, hid⟩ := h
  obtain ⟨⟨m, hm, hQ⟩, hid'⟩ := k
  refine ⟨⟨m ++ l, by rw [hl, hm, List.append_assoc], fun c hc => ?_⟩, hid.trans hid'⟩
  exact (List.mem_append.mp hc).elim (hQ c) (hP c)

theorem Enqueued.mono {Q : Copy → Prop} (h : Enqueued P t s) (hPQ : ∀ c, P c → Q c) : Enqueued Q t s := by
  obtain ⟨⟨l, hl, hP⟩, hid⟩ := h
  exact ⟨⟨l, hl, fun c hc => hPQ c (hP c hc)⟩, hid⟩

end

theorem State.punt_copiesKept (s : State) (id : Nat) (dst : PuntTo) : CopiesKept (s.punt id dst) s := by
  unfold State.punt
  extract_lets q
  split
  · exact (State.modFrame_written _ _ _).copiesKept.trans (.of_buf (State.event_buf _ _ _ _ _))
  · exact ⟨rfl, rfl⟩

theorem State.puntMsg_copiesKept (s : State) (id p : Nat) (h : Hdr) (bs : List Byte) (dst : PuntTo) : CopiesKept (s.puntMsg id p h bs dst) s := by
  unfold State.puntMsg
  dsimp only
  split
  · split
    · exact CopiesKept.trans (.of_buf (State.modRun_buf _ _ _)) (s.punt_copiesKept id dst)
    · exact s.punt_copiesKept id dst
  · exact s.punt_copiesKept id dst

theorem State.learn_copiesKept (s : State) (mac fid port : Nat) : CopiesKept (s.learn mac fid port) s := by
  unfold State.learn
  split
  · (repeat' split) <;> exact .of_buf (by simp)
  split
  · exact .of_buf rfl
  extract_lets due _ fwd full
  have hfull : CopiesKept full s := .of_buf (State.event_buf _ _ _ _ _)
  split
  · exact (State.queueEvent_logged _ _ _).copiesKept.trans hfull
  · exact hfull

theorem State.learnFrame_copiesKept (s : State) (id p : Nat) (bs : List Byte) : CopiesKept (s.learnFrame id p bs) s := by
  unfold State.learnFrame
  split
  · exact State.learn_copiesKept _ _ _ _
  · exact .of_buf rfl

theorem State.refuse_copiesKept (s : State) (p q id : Nat) : CopiesKept (s.refuse p q id) s := by
  unfold State.refuse
  extract_lets _ counted
  have hcounted : CopiesKept counted s := ⟨rfl, rfl⟩
  exact (State.modFrame_written _ _ _).copiesKept.trans ((CopiesKept.of_buf (State.event_buf _ _ _ _ _)).trans hcounted)

/-- A copy is enqueued or refused (R225). -/
theorem State.admitCopy_enqueued {P : Copy → Prop} (s : State) {c : Copy} (h : P c) : Enqueued P (s.admitCopy c) s := by
  unfold State.admitCopy
  split
  · exact ⟨⟨[c], rfl, by simpa using h⟩, rfl⟩
  · exact (s.refuse_copiesKept c.port c.queue c.frame).enqueued

/-- A copy as a frame's decision may enqueue it: for a target, on the queue of the decision, and waiting only while the frame arrives. -/
def Decision.mayEnqueue (d : Decision) (id : Nat) (cut : Nat → Bool) (ended : Bool) (c : Copy) : Prop :=
  c.frame = id ∧ c.port ∈ d.targets ∧ c.queue = d.queue ∧ c.cut = cut c.port ∧ (ended = true ∨ cut c.port = true → c.st = .queued)

theorem State.admitAll_enqueued (s : State) (id p : Nat) (d : Decision) (h : Hdr) (bs : List Byte) (cut : Nat → Bool) (ended : Bool) (n : Nat) :
    Enqueued (d.mayEnqueue id cut ended) (s.admitAll id p d h bs cut ended n) s := by
  unfold State.admitAll
  refine List.foldlRecOn (motive := fun t => Enqueued (d.mayEnqueue id cut ended) t s) _ _ (CopiesKept.of_buf (s.seqsFor_buf d)).enqueued
    fun t ht q hq => (State.admitCopy_enqueued t ?_).trans ht
  exact ⟨rfl, hq, rfl, rfl, fun hwhole => if_pos hwhole⟩

theorem State.decide_enqueued (s : State) (id p : Nat) (d : Decision) (h : Hdr) (bs : List Byte) (cut : Nat → Bool) (ended : Bool) (n : Nat) :
    Enqueued (d.mayEnqueue id cut ended) (s.decide_ id p d h bs cut ended n) s := by
  unfold State.decide_
  extract_lets marked noted
  have hmarked : CopiesKept marked s := (s.modFrame_written id _).copiesKept
  have hnoted : CopiesKept noted marked := by
    unfold noted
    split
    · exact .of_buf (State.noteDigest_buf _ _ _ _)
    · exact .of_buf rfl
  exact (CopiesKept.foldl (fun t x => t.puntMsg_copiesKept id p h bs x) _ _).enqueued.trans
    ((noted.admitAll_enqueued id p d h bs cut ended n).trans (hnoted.trans hmarked).enqueued)

/-- A copy as the settling of a frame's charge leaves it (R227). -/
def Copy.settled (id len : Nat) (c : Copy) : Copy := if c.frame = id then { c with charge := cellsOf len } else c

/-- Where none of the frame's copies waits, no copy moves. -/
theorem Enqueued.settle {P : Copy → Prop} {s t : State} {id : Nat} (h : Enqueued P t s) (hs : ∀ c ∈ s.buf.copies, c.frame ≠ id)
    (hst : ∀ c, P c → c.st = .queued) (hcharge : ∀ c n, P c → P { c with charge := n }) (len : Nat) : Enqueued P (t.settle id len) s := by
  obtain ⟨⟨l, hl, hP⟩, hid⟩ := h
  have hold : s.buf.copies.map (Copy.settled id len) = s.buf.copies :=
    (List.map_congr_left fun c hc => if_neg (hs c hc)).trans (List.map_id _)
  have hnew : ∀ c ∈ l.map (Copy.settled id len), P c := by
    intro c hc
    obtain ⟨x, hx, rfl⟩ := List.mem_map.mp hc
    unfold Copy.settled
    split
    · exact hcharge x _ (hP x hx)
    · exact hP x hx
  have hmap : t.buf.copies.map (Copy.settled id len) = s.buf.copies ++ l.map (Copy.settled id len) := by rw [hl, List.map_append, hold]
  have hwaits : ∀ c ∈ t.buf.copies.map (Copy.settled id len), c.frame = id → c.st ≠ .pending := by
    rw [hmap]
    intro c hc hframe hpending
    obtain hc | hc := List.mem_append.mp hc
    · exact hs c hc hframe
    · rw [hst c (hnew c hc)] at hpending
      cases hpending
  refine ⟨⟨l.map (Copy.settled id len), ?_, hnew⟩, hid⟩
  rw [← hmap]
  change List.filter _ (t.buf.copies.map (Copy.settled id len)) ++ List.map _ (List.filter _ (t.buf.copies.map (Copy.settled id len))) = _
  rw [List.filter_eq_self.mpr fun c hc => by simpa [-not_and, not_and_or, imp_iff_not_or] using hwaits c hc,
    List.filter_eq_nil_iff.mpr fun c hc => by simpa using hwaits c hc]
  simp

end Sys2Proof.Machine
end

section
/-! The rows of frames that arrive (R139, R142, R186, R192-R201). -/

namespace Sys2Proof.Machine

open Sys2Proof

section
variable {s : State} {p : Nat} {bs : List Byte} {r : Raw}

/-! ### A frame that starts -/

theorem State.startFrame_fst (s : State) (p : Nat) (bs : List Byte) (r : Raw) : (s.startFrame p bs r).1 = s.buf.nextId := rfl

theorem State.startFrame_written (s : State) (p : Nat) (bs : List Byte) (r : Raw) :
    Written (s.startFrame p bs r).2 { s with buf := { s.buf with nextId := s.buf.nextId + 1 } } :=
  (State.arriveSegs_written _ _ _).trans ⟨_, _, rfl⟩

theorem State.startFrame_copies (s : State) (p : Nat) (bs : List Byte) (r : Raw) : (s.startFrame p bs r).2.buf.copies = s.buf.copies :=
  (s.startFrame_written p bs r).copiesKept.copies

theorem State.startFrame_nextId (s : State) (p : Nat) (bs : List Byte) (r : Raw) : (s.startFrame p bs r).2.buf.nextId = s.buf.nextId + 1 :=
  (s.startFrame_written p bs r).copiesKept.nextId

theorem State.newFrame_newest (s : State) {f : Frame} (hf : f.fate = none) :
    Newest Frame.undecided s.buf.frames s.buf.nextId (s.newFrame f).2 := ⟨{ f with id := s.buf.nextId }, rfl, rfl, hf⟩

theorem State.startFrame_newest (hf : ∀ f ∈ s.buf.frames, f.id < s.buf.nextId) (p : Nat) (bs : List Byte) (r : Raw) :
    Newest Frame.undecided s.buf.frames s.buf.nextId (s.startFrame p bs r).2 :=
  (s.newFrame_newest (f := { id := 0, bytes := bs, inPort := p, rx := s.rxStamp (State.rawOn p r), hsrIn := s.hsrPort p }) rfl).arriveSegs
    (fun f h => (hf f h).ne) _

/-! ### A frame that has ended (R193, R227) -/

/-- A copy of a frame that has ended, for another port than its own. -/
def Copy.outOf (id p : Nat) (c : Copy) : Prop := c.frame = id ∧ c.port ≠ p ∧ c.st = .queued

theorem State.resolve_decide_outOf (s : State) (id p : Nat) (h : Hdr) (bs : List Byte) (cut : Nat → Bool) (n : Nat) :
    Enqueued (Copy.outOf id p) ((s.resolve p bs true).2.decide_ id p (s.resolve p bs true).1 h bs cut true n) s := by
  refine ((State.decide_enqueued _ _ _ _ _ _ _ _ _).mono ?_).trans (CopiesKept.of_buf (s.resolve_buf p bs true)).enqueued
  rintro c ⟨hframe, hport, -, -, hst⟩
  exact ⟨hframe, s.resolve_targets_ne hport, hst (.inl rfl)⟩

theorem State.wholeFrame_enqueued {id : Nat} (hc : ∀ c ∈ s.buf.copies, c.frame ≠ id) (p : Nat) (bs : List Byte) (ok : Bool) :
    Enqueued (Copy.outOf id p) (s.wholeFrame id p bs ok) s := by
  unfold State.wholeFrame
  extract_lets n h tick ended gone
  have hended : CopiesKept ended s := ((State.modFrame_written _ _ _).trans ((State.arriveSegs_written _ _ _).trans
    (s.rxBand_counted p n tick).written)).copiesKept
  have hgone {t : State} (ht : t.buf = ended.buf) : Enqueued (Copy.outOf id p) (gone t) s :=
    (((State.finish_written _ _ _).trans (State.modFrame_written _ _ _)).copiesKept.trans ((CopiesKept.of_buf ht).trans hended)).enqueued
  by_cases hrunt : n < 64
  · rw [if_pos hrunt]
    exact hgone (State.modPort_buf _ _ _)
  by_cases hlong : (ended.port p).maxFrame < n
  · rw [if_neg hrunt, if_pos hlong]
    exact hgone (State.modPort_buf _ _ _)
  by_cases hpause : h.etype = 0x8808
  · rw [if_neg hrunt, if_neg hlong, if_pos hpause]
    exact hgone (State.modPort_buf _ _ _)
  by_cases hfcs : ok = false
  · rw [if_neg hrunt, if_neg hlong, if_neg hpause, if_pos hfcs]
    exact hgone (State.ev_buf _ _ _)
  rw [if_neg hrunt, if_neg hlong, if_neg hpause, if_neg hfcs]
  have hdecided (cut : Nat → Bool) (n : Nat) := (ended.resolve_decide_outOf id p h bs cut n).trans hended.enqueued
  exact ((State.finish_written _ _ _).copiesKept.trans (State.learnFrame_copiesKept _ _ _ _)).enqueued.trans
    ((hdecided _ _).settle hc (fun c h => h.2.2) (fun c n h => h) n)

/-- A frame too short is counted and leaves nothing behind (R139). -/
theorem State.wholeFrame_runt {l : List Frame} {id : Nat} (hl : ∀ f ∈ l, f.id ≠ id) (hnew : Newest Frame.undecided l id s)
    (hrefs : s.refcnt id = 0) (hcopying : s.copying id = false) (p : Nat) (ok : Bool) (hrunt : bs.length < 64) :
    (s.wholeFrame id p bs ok).buf = { s.buf with frames := l } ∧
      Written (s.wholeFrame id p bs ok) (s.modPort p fun x => { x with runt := inc16 x.runt }) := by
  unfold State.wholeFrame
  extract_lets n h tick ended gone
  rw [if_pos hrunt]
  have hended : Newest (fun f => f.undecided ∧ f.ended = true) l id ended :=
    Newest.modFrame hl (Newest.arriveSegs hl (hnew.of_buf (s.rxBand_counted p n tick).buf) n) fun f hf => ⟨rfl, hf, rfl⟩
  have hshort : Written ended s := (State.modFrame_written _ _ _).trans ((State.arriveSegs_written _ _ _).trans (s.rxBand_counted p n tick).written)
  have hrunted : Newest (fun f => f.undecided ∧ f.ended = true) l id (ended.modPort p fun x => { x with runt := inc16 x.runt }) := hended.of_buf rfl
  have hdecided : Newest (fun f => f.undecided ∧ f.decided = true ∧ f.ended = true) l id
      ((ended.modPort p fun x => { x with runt := inc16 x.runt }).modFrame id fun f => { f with decided := true }) :=
    hrunted.modFrame hl fun f hf => ⟨rfl, hf.1, rfl, hf.2⟩
  have hwritten : Written ((ended.modPort p fun x => { x with runt := inc16 x.runt }).modFrame id fun f => { f with decided := true })
      (s.modPort p fun x => { x with runt := inc16 x.runt }) := (State.modFrame_written _ _ _).trans (hshort.modPort p _)
  refine ⟨?_, (State.finish_written _ _ _).trans hwritten⟩
  rw [show gone _ = State.finish _ id 0x400 from rfl, hdecided.finish hl (by rw [hwritten.refcnt]; exact hrefs)
    (by rw [hwritten.copying]; exact hcopying), hwritten.buf]
  rfl


section
variable (hr : s.receives p = true) (ha : s.arriving p = none)
include hr ha

theorem frameTrigger_whole (hspark : s.sparkFind p bs = none) (ok : Bool) (r : Raw) :
    frameTrigger p bs (some ok) r s = (s.startFrame p bs r).2.wholeFrame s.buf.nextId p bs ok := by
  simp [frameTrigger, hr, ha, hspark, State.startFrame_fst]

theorem frameTrigger_enqueued (hspark : s.sparkFind p bs = none) (hc : ∀ c ∈ s.buf.copies, c.frame < s.buf.nextId) (ok : Bool) (r : Raw) :
    (frameTrigger p bs (some ok) r s).buf.nextId = s.buf.nextId + 1 ∧
      ∃ l, (frameTrigger p bs (some ok) r s).buf.copies = s.buf.copies ++ l ∧ ∀ c ∈ l, c.outOf s.buf.nextId p := by
  rw [frameTrigger_whole hr ha hspark]
  obtain ⟨hcopies, hid⟩ := State.wholeFrame_enqueued (s := (s.startFrame p bs r).2) (id := s.buf.nextId)
    (by rw [s.startFrame_copies]; exact fun c h => (hc c h).ne) p bs ok
  rw [s.startFrame_copies] at hcopies
  exact ⟨hid.trans (s.startFrame_nextId p bs r), hcopies⟩

/-- The row on a frame too short (R139). -/
theorem frameTrigger_runt (hspark : s.sparkFind p bs = none) (hf : ∀ f ∈ s.buf.frames, f.id < s.buf.nextId)
    (hc : ∀ c ∈ s.buf.copies, c.frame < s.buf.nextId) (hpu : ∀ x ∈ s.buf.punted, x.frame < s.buf.nextId)
    (hpa : ∀ e ∈ s.buf.paths, e.2.frame < s.buf.nextId) (hrunt : bs.length < 64) (ok : Bool) (r : Raw) :
    (frameTrigger p bs (some ok) r s).buf = { s.buf with nextId := s.buf.nextId + 1 } ∧
      Written (frameTrigger p bs (some ok) r s)
        ({ s with buf := { s.buf with nextId := s.buf.nextId + 1 } }.modPort p fun x => { x with runt := inc16 x.runt }) := by
  rw [frameTrigger_whole hr ha hspark]
  have hstart := s.startFrame_written p bs r
  have hrefs : (s.startFrame p bs r).2.refcnt s.buf.nextId = 0 := by
    rw [hstart.refcnt, State.refcnt]
    rw [List.filter_eq_nil_iff.mpr fun c h => by simpa using (hc c h).ne, List.filter_eq_nil_iff.mpr fun c h => by simpa using (hpu c h).ne]
    rfl
  have hcopying : (s.startFrame p bs r).2.copying s.buf.nextId = false := by
    rw [hstart.copying, State.copying, List.any_eq_false]
    exact fun e h => by simpa using (hpa e h).ne
  obtain ⟨hbuf, hwritten⟩ := State.wholeFrame_runt (s := (s.startFrame p bs r).2) (fun f h => (hf f h).ne) (s.startFrame_newest hf p bs r)
    hrefs hcopying p ok hrunt
  refine ⟨?_, hwritten.trans (hstart.modPort p _)⟩
  rw [hbuf, hstart.buf]

end

/-! ### The spark class (R198-R201) -/

/-- A copy as a spark match enqueues it. -/
def Copy.sparkOf (id p : Nat) (c : Copy) : Prop := c.frame = id ∧ c.port ≠ p ∧ c.st = .queued ∧ c.queue = 8 ∧ c.cut = true

theorem State.decide_sparkOf {t : State} {d : Decision} (hq : d.queue = 8) (ht : ∀ q ∈ d.targets, q ≠ p) (id : Nat) (h : Hdr) (n : Nat)
    (hk : CopiesKept t s) : Enqueued (Copy.sparkOf id p) ((t.decide_ id p d h bs (fun _ => true) false n).finish id 0x400) s := by
  refine (State.finish_written _ _ _).copiesKept.enqueued.trans (((State.decide_enqueued _ _ _ _ _ _ _ _ _).mono ?_).trans hk.enqueued)
  rintro c ⟨hframe, hport, hqueue, hcut, hst⟩
  exact ⟨hframe, ht _ hport, hst (.inr rfl), hqueue.trans hq, hcut⟩

theorem State.sparkStart_enqueued (s : State) (p : Nat) (e : Stream) (bs : List Byte) (r : Raw) :
    Enqueued (Copy.sparkOf s.buf.nextId p) (s.sparkStart p e bs r) (s.startFrame p bs r).2 := by
  unfold State.sparkStart
  dsimp only
  split
  · exact State.decide_sparkOf rfl (by simp) _ _ _ ((State.modFrame_written _ _ _).copiesKept.trans (.of_buf (State.ev_buf _ _ _)))
  · exact State.decide_sparkOf rfl (fun _ => State.prune_targets_ne _) _ _ _
      ((State.modFrame_written _ _ _).copiesKept.trans (.of_buf (State.prune_buf _ _ _ _)))

theorem sparkMatch_starts {e : Stream} (hr : s.receives p = true) (ha : s.arriving p = none) (he : s.sparkFind p bs = some e) :
    (sparkMatch p bs r s).buf.nextId = s.buf.nextId + 1 ∧
      ∃ l, (sparkMatch p bs r s).buf.copies = s.buf.copies ++ l ∧ ∀ c ∈ l, c.sparkOf s.buf.nextId p := by
  have hrow : sparkMatch p bs r s = s.sparkStart p e (bs.take 14) r := by simp [sparkMatch, hr, ha, he]
  obtain ⟨hcopies, hid⟩ := s.sparkStart_enqueued p e (bs.take 14) r
  rw [s.startFrame_copies] at hcopies
  rw [hrow]
  exact ⟨hid.trans (s.startFrame_nextId _ _ _), hcopies⟩

end

end Sys2Proof.Machine
end

section
/-! Frames that lose every copy (R196, R201), frames of the insert queues (R206, R225, R228), and ageing (R186). -/

namespace Sys2Proof.Machine

open Sys2Proof

/-! ### Copies that end early (R143, R196) -/

/-- One copy ends: it leaves the list, and beside the buffer only the counters, the frame in transmission and the free value it takes move. -/
structure CopyEnded (c : Copy) (t s : State) : Prop where
  copies : t.buf.copies = s.buf.copies.erase c
  keeps : t.keeps s [.buf, .cnt, .out, .free]

section
variable {c : Copy} {s t u : State}

theorem CopyEnded.written (h : CopyEnded c t s) (k : Written u t) : CopyEnded c u s :=
  ⟨k.copiesKept.copies.trans h.copies, (k.keeps.mono (by simp)).trans h.keeps⟩

theorem CopyEnded.after (h : CopyEnded c u t) (k : Counted t s) : CopyEnded c u s :=
  ⟨by rw [h.copies, k.buf], h.keeps.trans (k.written.keeps.mono (by simp))⟩

theorem State.dropCopy_ends (s : State) (c : Copy) : CopyEnded c (s.dropCopy c) s :=
  ⟨rfl, fun q hq => by cases q <;> simp [Part.same, State.dropCopy] at hq ⊢⟩

theorem State.cutShort_ends (s : State) (c : Copy) (lo : Nat) : CopyEnded c (s.cutShort c lo) s := by
  unfold State.cutShort
  extract_lets sent
  have hsent : ∃ out free, sent = { s with out := out, free := free } := by
    unfold sent
    dsimp only
    (repeat' split) <;> exact ⟨_, _, rfl⟩
  obtain ⟨out, free, hsent⟩ := hsent
  refine CopyEnded.written ?_ (State.finish_written _ _ _)
  rw [hsent]
  exact ⟨rfl, fun q hq => by cases q <;> simp [Part.same, State.dropCopy] at hq ⊢⟩

end

theorem State.foldl_copyEnded {each : State → Copy → State} (h : ∀ t c, CopyEnded c (each t c) t) (l : List Copy) (s : State) :
    (l.foldl each s).buf.copies = s.buf.copies.diff l ∧ (l.foldl each s).keeps s [.buf, .cnt, .out, .free] := by
  induction l generalizing s with
  | nil => exact ⟨rfl, fun q _ => by cases q <;> rfl⟩
  | cons c l ih =>
    obtain ⟨hcopies, hkeeps⟩ := ih (each s c)
    rw [List.foldl_cons, List.diff_cons, hcopies, (h s c).copies]
    exact ⟨rfl, hkeeps.trans (h s c).keeps⟩

/-- Taking away the members that satisfy a test, in whatever order, leaves the others in theirs. -/
theorem diff_filter_self {α : Type} [DecidableEq α] (l : List α) (p : α → Bool) : l.diff (l.filter p) = l.filter fun x => !p x := by
  induction l with
  | nil => rfl
  | cons a l ih =>
    by_cases ha : p a
    · rw [List.filter_cons_of_pos ha, List.filter_cons_of_neg (by simpa using ha), List.diff_cons, List.erase_cons_head, ih]
    · have hout : a ∉ l.filter p := fun h => ha (List.of_mem_filter h)
      rw [List.filter_cons_of_neg ha, List.filter_cons_of_pos (by simpa using ha), List.cons_diff_of_not_mem hout, ih]

theorem State.endCopies_filter {each : State → Copy → State} (h : ∀ t c, CopyEnded c (each t c) t) (s : State) (id : Nat) :
    (s.endCopies id each).buf.copies = s.buf.copies.filter (fun c => decide (c.frame ≠ id)) ∧
      (s.endCopies id each).keeps s [.buf, .cnt, .out, .free] := by
  unfold State.endCopies
  extract_lets mine
  obtain ⟨hcopies, hkeeps⟩ := State.foldl_copyEnded h
    ((mine.filter fun c => decide (c.st = .pending)) ++ mine.filter fun c => decide (c.st ≠ .pending)) s
  refine ⟨?_, hkeeps⟩
  have hperm := List.filter_append_perm (fun c : Copy => decide (c.st = .pending)) mine
  rw [hcopies, show (fun c : Copy => decide (c.st ≠ .pending)) = fun c => !decide (c.st = .pending) from funext fun c => decide_not, hperm.diff_left,
    diff_filter_self]
  exact List.filter_congr fun c _ => decide_not.symm

/-! ### The rows that end a frame's copies -/

/-- A key field of a spark frame has failed (R201). -/
theorem State.sparkMismatch_ends (s : State) (f : Frame) :
    (s.sparkMismatch f).buf.copies = s.buf.copies.filter (fun c => decide (c.frame ≠ f.id)) ∧
      (s.sparkMismatch f).keeps s [.buf, .cnt, .out, .free] := by
  unfold State.sparkMismatch
  have hmarked : Written ((s.ev 0x103 f.inPort).modFrame f.id fun f => { f with punted := true, learn := none }) s :=
    (State.modFrame_written _ _ _).trans (s.event_counted _ _ _ _).written
  obtain ⟨hcopies, hkeeps⟩ := State.endCopies_filter (fun t c => t.cutShort_ends c 0)
    ((s.ev 0x103 f.inPort).modFrame f.id fun f => { f with punted := true, learn := none }) f.id
  exact ⟨by rw [hcopies, hmarked.copiesKept.copies], hkeeps.trans (hmarked.keeps.mono (by simp))⟩

/-- A frame's FCS proves bad after its decision (R196). -/
theorem State.badEnd_ends (s : State) (id p : Nat) :
    (s.badEnd id p).buf.copies = s.buf.copies.filter (fun c => decide (c.frame ≠ id)) ∧ (s.badEnd id p).keeps s [.buf, .cnt, .out, .free] := by
  unfold State.badEnd
  have heach (t : State) (c : Copy) : CopyEnded c (if c.st = .sending then (t.ev 0x102 c.port).cutWhole c
      else if c.st = .pending then ((t.ev 0x100 p).dropCopy c).finish id 0x404 else ((t.ev 0x100 p).dropCopy c).finish id 0x403) t := by
    split
    · exact (State.cutShort_ends _ _ _).after (t.event_counted _ _ _ _)
    split
    · exact ((State.dropCopy_ends _ c).written (State.finish_written _ _ _)).after (t.event_counted _ _ _ _)
    · exact ((State.dropCopy_ends _ c).written (State.finish_written _ _ _)).after (t.event_counted _ _ _ _)
  obtain ⟨hcopies, hkeeps⟩ := State.endCopies_filter heach (s.ev 0x101 p) id
  exact ⟨by rw [hcopies, State.ev_buf], hkeeps.trans ((s.event_counted _ _ _ _).written.keeps.mono (by simp))⟩

section
variable {s : State} {p : Nat} {bs : List Byte} {f : Frame}

theorem frameLastByte_badFcs (ha : s.arriving p = some f) (hf : s.frame? f.id = some f) (hd : f.decided = true) (hspark : f.spark = none)
    (hmin : 64 ≤ bs.length) (hmax : bs.length ≤ (s.port p).maxFrame) (under : List Nat) :
    (frameLastByte p bs false under s).buf.copies = s.buf.copies.filter (fun c => decide (c.frame ≠ f.id)) ∧
      (frameLastByte p bs false under s).keeps s [.buf, .cnt, .out, .free] := by
  have hrow : frameLastByte p bs false under s = s.lateEnd f p bs false under := by simp [frameLastByte, ha, hf, hd, hspark]
  rw [hrow]
  unfold State.lateEnd
  extract_lets n id h long cut read
  have hlong : long = false := decide_eq_false (by omega)
  have hcut : cut = s := by simp [cut, State.underrun, hspark]
  have hread : Written read s := by
    rw [← hcut]
    exact (State.modFrame_written _ _ _).trans ((State.arriveSegs_written _ _ _).trans (State.rxBand_counted _ _ _ _).written)
  rw [if_neg (not_or.mpr ⟨hmin.not_gt, by simp [hlong]⟩), if_pos rfl]
  have hclosed : Written ((read.badEnd id p).closeFrame id 0x403) (read.badEnd id p) :=
    (State.finish_written _ _ _).trans (State.endFrame_written _ _)
  obtain ⟨hcopies, hkeeps⟩ := read.badEnd_ends id p
  refine ⟨?_, ((hclosed.keeps.mono (by simp)).trans hkeeps).trans (hread.keeps.mono (by simp))⟩
  rw [hclosed.copiesKept.copies, hcopies, hread.copiesKept.copies]

end

/-! ### A frame of an insert queue (R206, R225) -/

/-- What taking a copy path can change: the stored frames, the paths and the counters. -/
def Pathed (t s : State) : Prop := ∃ frames paths cnt, t = { s with buf := { s.buf with frames := frames, paths := paths }, cnt := cnt }

section
variable {s t u : State}

theorem Pathed.refl (s : State) : Pathed s s := ⟨_, _, _, rfl⟩

theorem Pathed.trans (h : Pathed u t) (k : Pathed t s) : Pathed u s := by
  obtain ⟨_, _, _, rfl⟩ := k
  obtain ⟨_, _, _, rfl⟩ := h
  exact ⟨_, _, _, rfl⟩

theorem Written.pathed (h : Written t s) : Pathed t s := by
  obtain ⟨_, _, rfl⟩ := h
  exact ⟨_, _, _, rfl⟩

end

theorem State.placeSegs_pathed (s : State) (q p n : Nat) : Pathed (s.placeSegs q p n) s := by
  unfold State.placeSegs
  split
  · exact .refl s
  next x _ =>
    extract_lets carried done drawn _ freed
    have hcarried : Pathed carried s := (s.carry_written _ _ _).pathed
    have hdrawn : Pathed drawn carried := by
      unfold drawn
      split
      · split
        · exact .refl carried
        · exact (carried.modFrame_written _ _).pathed
      · exact .refl carried
    have hfreed : Pathed freed s := Pathed.trans ⟨_, _, _, rfl⟩ (hdrawn.trans hcarried)
    split
    · exact Pathed.trans ⟨_, _, _, rfl⟩ (hdrawn.trans hcarried)
    · (repeat' split) <;> exact Pathed.trans (t := freed) ⟨_, _, _, rfl⟩ hfreed

theorem State.startCopy_pathed (s : State) (q id n : Nat) : Pathed (s.startCopy q id n) s := by
  unfold State.startCopy
  extract_lets _ free
  have hfree : Pathed free s := by
    unfold free
    split
    · exact (State.placeSegs_pathed _ _ _ _).trans ⟨_, _, _, rfl⟩
    · exact .refl s
  exact Pathed.trans ⟨_, _, _, rfl⟩ hfree

theorem inc32_ne_zero (n : Nat) : inc32 n ≠ 0 := by
  unfold inc32 satAdd
  omega

theorem State.refuse_admitDropsOf (s : State) (p q id : Nat) : (s.refuse p q id).admitDropsOf p q = inc32 (s.admitDropsOf p q) := by
  have hdrops : (s.refuse p q id).buf.admitDrops = Tab.put zeroReset s.buf.admitDrops (9 * p + q) (inc32 (s.admitDropsOf p q)) := by
    simp [State.refuse, State.modFrame]
  rw [State.admitDropsOf, hdrops]
  exact Tab.get_put_self_of_ne _ _ _ (inc32_ne_zero _)

theorem State.admitCopy_admitted {s : State} {c : Copy} (h : s.admits c.port c.queue c.charge = true) :
    (s.admitCopy c).buf.copies = s.buf.copies ++ [c] ∧ (s.admitCopy c).buf.admitDrops = s.buf.admitDrops := by
  rw [State.admitCopy, if_pos h]
  exact ⟨rfl, rfl⟩

theorem State.admitCopy_refused {s : State} {c : Copy} (h : s.admits c.port c.queue c.charge = false) :
    (s.admitCopy c).buf.copies = s.buf.copies ∧
      (s.admitCopy c).admitDropsOf c.port c.queue = inc32 (s.admitDropsOf c.port c.queue) := by
  rw [State.admitCopy, if_neg (by simp [h])]
  exact ⟨(s.refuse_copiesKept _ _ _).copies, s.refuse_admitDropsOf _ _ _⟩

theorem Consumed.keeps {s t : State} (h : Consumed t s) : t.keeps s [.buf, .cnt] := by
  obtain ⟨_, _, rfl⟩ := h
  intro q hq
  cases q <;> simp [Part.same] at hq ⊢

theorem State.admitCopy_iqTime (s : State) (c : Copy) : (s.admitCopy c).buf.iqTime = s.buf.iqTime := by
  unfold State.admitCopy State.refuse
  dsimp only
  split
  · rfl
  · simp [State.modFrame]

theorem State.admitCopy_consumed (s : State) (c : Copy) : Consumed (s.admitCopy c) s := by
  unfold State.admitCopy State.refuse
  dsimp only
  split
  · exact ⟨_, _, rfl⟩
  · exact Consumed.trans ⟨_, _, rfl⟩ ((State.event_consumed _ _ _ _ _).trans ⟨_, _, rfl⟩)

theorem State.insCopied_hst (s : State) (i : Ins) (stored : Bool) : ∃ hst, s.insCopied i stored = { s with hst := hst } := by
  unfold State.insCopied
  split <;> exact ⟨_, rfl⟩

/-- What follows the admission of a copied frame: its descriptor, and its end when nothing refers to it. -/
theorem State.insCopied_finish (s : State) (i : Ins) (stored : Bool) (id cause : Nat) :
    (∃ frames, ((s.insCopied i stored).finish id cause).buf = { s.buf with frames := frames }) ∧
      ((s.insCopied i stored).finish id cause).keeps s [.buf, .cnt, .hst] := by
  have hfinished := (s.insCopied i stored).finish_written id cause
  obtain ⟨hst, hcopied⟩ := s.insCopied_hst i stored
  rw [hcopied] at hfinished ⊢
  exact ⟨⟨_, hfinished.buf⟩, (hfinished.keeps.mono (by simp)).trans fun q hq => by cases q <;> simp [Part.same] at hq ⊢⟩

/-- The copy of a DIRECT frame (R206). -/
def Ins.directCopy (i : Ins) (id n : Nat) : Copy :=
  { frame := id, port := min 103 i.port, queue := min 8 i.cls, charge := n, st := .queued, mark := i.mark, insIdx := i.insIdx }

theorem Pathed.admits {s t : State} (h : Pathed t s) (p q n : Nat) : t.admits p q n = s.admits p q n := by
  obtain ⟨_, _, _, rfl⟩ := h
  rfl

theorem State.insertDirect_admits {s : State} {id n : Nat} {i : Ins} (h : s.takesEgress (min 103 i.port) = true) :
    s.insertDirect id i n = s.admitCopy (i.directCopy id n) := if_neg (by simp [h])

theorem Pathed.takesEgress {s t : State} (h : Pathed t s) (p : Nat) : t.takesEgress p = s.takesEgress p := by
  obtain ⟨_, _, _, rfl⟩ := h
  rfl

theorem insertFrame_direct {s : State} {i : Ins} {l : List Ins} (hup : s.dpUp = true) (hq : s.buf.iqTime = i :: l) (hi : i.lookup = false)
    (hp : s.takesEgress (min 103 i.port) = true) : ∃ ready stored,
    Pathed ready { s with buf := { s.buf with iqTime := l, nextId := s.buf.nextId + 1 } } ∧
      insertFrame 0 s = ((ready.admitCopy (i.directCopy s.buf.nextId (cellsOf (withFcs (padFrame i.bytes)).length))).insCopied i stored).finish
        s.buf.nextId 0x400 := by
  have hpop : s.popInsert 0 = some (i, { s with buf := { s.buf with iqTime := l } }) := by simp [State.popInsert, hq]
  unfold insertFrame
  rw [if_neg (by simp [hup]), hpop]
  dsimp only
  have hready : Pathed (State.startCopy _ 0 s.buf.nextId (segsOf (withFcs (padFrame i.bytes)).length))
      { s with buf := { s.buf with iqTime := l, nextId := s.buf.nextId + 1 } } :=
    (State.startCopy_pathed (({ s with buf := { s.buf with iqTime := l } } : State).newFrame
      { id := 0, bytes := withFcs (padFrame i.bytes), inPort := 0x7F, ended := true, decided := true }).2 _ _ _).trans ⟨_, _, _, rfl⟩
  rw [if_neg (show ¬ i.lookup = true by simp [hi]), State.insertDirect_admits]
  · exact ⟨_, _, hready, rfl⟩
  · exact (hready.takesEgress _).trans hp

/-- The row on a DIRECT frame (R206, R225). -/
theorem insertFrame_admits {s : State} {i : Ins} {l : List Ins} (hup : s.dpUp = true) (hq : s.buf.iqTime = i :: l) (hi : i.lookup = false)
    (hp : s.takesEgress (min 103 i.port) = true) :
    let n := cellsOf (withFcs (padFrame i.bytes)).length
    (insertFrame 0 s).keeps s [.buf, .cnt, .hst] ∧ (insertFrame 0 s).buf.iqTime = l ∧ (insertFrame 0 s).buf.nextId = s.buf.nextId + 1 ∧
      (s.admits (min 103 i.port) (min 8 i.cls) n = true → (insertFrame 0 s).buf.admitDrops = s.buf.admitDrops ∧
        (insertFrame 0 s).buf.copies = s.buf.copies ++ [i.directCopy s.buf.nextId n]) ∧
      (s.admits (min 103 i.port) (min 8 i.cls) n = false → (insertFrame 0 s).buf.copies = s.buf.copies ∧
        (insertFrame 0 s).admitDropsOf (min 103 i.port) (min 8 i.cls) = inc32 (s.admitDropsOf (min 103 i.port) (min 8 i.cls))) := by
  intro n
  obtain ⟨ready, stored, hready, hrow⟩ := insertFrame_direct hup hq hi hp
  obtain ⟨⟨frames, hbuf⟩, hkeeps⟩ := (ready.admitCopy (i.directCopy s.buf.nextId n)).insCopied_finish i stored s.buf.nextId 0x400
  rw [← hrow] at hbuf hkeeps
  have hadmits := hready.admits (min 103 i.port) (min 8 i.cls) n
  have hqueue := ready.admitCopy_iqTime (i.directCopy s.buf.nextId n)
  have hid := (ready.admitCopy_enqueued (P := fun _ => True) (c := i.directCopy s.buf.nextId n) trivial).nextId
  have hadmit := (ready.admitCopy_consumed (i.directCopy s.buf.nextId n)).keeps
  have hin (h : s.admits (min 103 i.port) (min 8 i.cls) n = true) := State.admitCopy_admitted (c := i.directCopy s.buf.nextId n) (hadmits.trans h)
  have hout (h : s.admits (min 103 i.port) (min 8 i.cls) n = false) := State.admitCopy_refused (c := i.directCopy s.buf.nextId n) (hadmits.trans h)
  obtain ⟨_, _, _, rfl⟩ := hready
  refine ⟨hkeeps.trans ((hadmit.mono (by simp)).trans fun q hq => by cases q <;> simp [Part.same] at hq ⊢), by rw [hbuf]; exact hqueue,
    by rw [hbuf]; exact hid, fun h => ?_, fun h => ?_⟩
  · rw [hbuf]
    exact ⟨(hin h).2, (hin h).1⟩
  · rw [State.admitDropsOf, hbuf]
    exact hout h

/-! ### Ageing (R186) -/

theorem mem_ageSweep {s : State} (h : s.fwd.ageEn = true) (k : Nat) (e : Fdb) : (k, e) ∈ (ageSweep s).fwd.fdb ↔
    ((k, e) ∈ s.fwd.fdb ∧ e.static = true) ∨ (e.static = false ∧ e.hit = false ∧ (k, { e with hit := true }) ∈ s.fwd.fdb) := by
  rw [ageSweep, if_neg (by simp [h])]
  simp only [State.setFdb, List.mem_map, List.mem_filter, Prod.exists, Bool.or_eq_true]
  constructor
  · rintro ⟨j, x, ⟨hmem, hkept⟩, heq⟩
    by_cases hstatic : x.static = true
    · obtain ⟨rfl, rfl⟩ := Prod.mk.inj ((if_pos hstatic).symm.trans heq)
      exact .inl ⟨hmem, hstatic⟩
    · have hhit : x.hit = true := hkept.resolve_left hstatic
      obtain ⟨rfl, rfl⟩ := Prod.mk.inj ((if_neg hstatic).symm.trans heq)
      exact .inr ⟨eq_false_of_ne_true hstatic, rfl, hhit ▸ hmem⟩
  · rintro (⟨hmem, hstatic⟩ | ⟨hstatic, hhit, hmem⟩)
    · exact ⟨k, e, ⟨hmem, .inl hstatic⟩, if_pos hstatic⟩
    · exact ⟨k, { e with hit := true }, ⟨hmem, .inr rfl⟩, (if_neg (by simp [hstatic])).trans (by rw [← hhit])⟩

theorem ageSweep_keeps {s : State} (h : s.fwd.ageEn = true) : (ageSweep s).keeps s [.fwd] ∧
    (ageSweep s).fwd = { s.fwd with fdb := (ageSweep s).fwd.fdb } := by
  rw [ageSweep, if_neg (by simp [h])]
  exact ⟨fun q hq => by cases q <;> simp [Part.same] at hq ⊢, rfl⟩

/-! ### The statement -/

/-- A row that would do nothing does nothing, whether its thing exists or not. -/
theorem idxRow_idle {i : Instr} {s : State} {n k : Nat} (f : State → State) (hi : exec i s = .next (onIdx n k f s)) (h : f s = s) :
    exec i s = .next s := by
  rw [hi, onIdx, h, ite_self]

/-- Settles O56: a frame that starts is the only one of its number, so what it leaves are the copies its decision enqueues, none for its own
port; and ending copies one by one leaves those of the other frames in their order. -/
theorem framesIn : Obligations.FramesIn := by
  unfold Obligations.FramesIn
  refine ⟨fun s p b e r h => ?_, fun s p b ok l h => ?_, fun s p b ok r hp hr ha hspark hf hc hpu hpa => ?_, fun s p b r hp h => ?_,
    fun s p b r e hp hr ha he hc => ?_, fun s p b f v hp ha hv hpunted => ?_, fun s p b f l hp ha hf hd hspark hmin hmax => ?_,
    fun s q h => ?_, fun s i l hup hq hi hp _ _ _ => ?_, fun s h => ?_, fun s h => ?_⟩
  · exact ⟨idxRow_idle _ rfl (if_pos h), idxRow_idle _ rfl (if_pos (.inl h))⟩
  · exact ⟨idxRow_idle _ rfl (by rw [frameLastByte, h]), idxRow_idle _ rfl (by rw [sparkKeyFail, h])⟩
  · refine idxRow_completes _ rfl hp ?_
    obtain ⟨hid, hcopies⟩ := frameTrigger_enqueued hr ha hspark hc ok r
    refine ⟨hid, hcopies, fun hrunt hs => ?_⟩
    obtain ⟨hbuf, hwritten⟩ := frameTrigger_runt hr ha hspark hf hc hpu hpa hrunt ok r
    have hto := ((PortTo.refl (p := p) hs).modPort fun x => { x with runt := inc16 x.runt }).of_ports
      (u := frameTrigger p b (some ok) r s) (by obtain ⟨_, _, hrow⟩ := hwritten; rw [hrow]; rfl)
    exact ⟨hbuf, (hwritten.keeps.mono (by simp)).trans fun q hq => by cases q <;> simp [Part.same, State.modPort] at hq ⊢, hto.port, hto.other⟩
  · refine idxRow_next _ rfl hp ?_
    unfold sparkMatch
    split
    · rfl
    · next hstart =>
      have hnone : s.sparkFind p b = none := h.resolve_left fun ha => hstart (.inr (Option.isSome_iff_ne_none.mpr ha))
      rw [hnone]
  · exact idxRow_completes _ rfl hp (sparkMatch_starts hr ha he)
  · have hrow : sparkKeyFail p b s = if State.sparkKeyOk v p (parseHdr f.hsrIn b) = true then s else s.sparkMismatch f := by
      simp [sparkKeyFail, ha, hv, hpunted]
    refine ⟨fun hok => idxRow_next _ rfl hp (hrow.trans (if_pos hok)), fun hok => idxRow_completes _ rfl hp ?_⟩
    rw [hrow, if_neg (by simp [hok])]
    exact s.sparkMismatch_ends f
  · exact idxRow_completes _ rfl hp (frameLastByte_badFcs ha hf hd hspark hmin hmax l)
  · have hrow : insertFrame q s = s := by
      unfold insertFrame
      split
      · rfl
      · next hup => rw [h.resolve_left hup]
    exact congrArg _ hrow
  · exact ⟨_, rfl, insertFrame_admits hup hq hi hp⟩
  · exact congrArg _ (if_pos h)
  · exact ⟨_, rfl, (ageSweep_keeps h).1, (ageSweep_keeps h).2, mem_ageSweep h⟩

end Sys2Proof.Machine
end

section
/-! Egress (R119, R191, R197, R230): the copy a port sends next, its selection, and the end of its transmission. -/

namespace Sys2Proof.Machine

open Sys2Proof

section
variable {s : State} {p : Nat} {c : Copy} {f : Frame}

/-! ### The copy that is next (R191) -/

/-- The queues are searched downward, so every queue above that of the copy found holds none that waits. -/
theorem State.nextCopy_highest (h : s.nextCopy p = some c) : c ∈ s.buf.copies ∧ c.port = p ∧ c.st = .queued ∧
    ∀ d ∈ s.buf.copies, d.port = p → d.st = .queued → d.queue ≤ 8 → d.queue ≤ c.queue := by
  obtain ⟨above, q, below, hqueues, hfind, hnone⟩ := List.findSome?_eq_some_iff.mp h
  have hfound := List.find?_some hfind
  simp only [Bool.and_eq_true, decide_eq_true_eq] at hfound
  obtain ⟨⟨hport, hqueue⟩, hst⟩ := hfound
  refine ⟨List.mem_of_find?_eq_some hfind, hport, hst, fun d hd hdport hdst hdq => ?_⟩
  have hfalling : List.Pairwise (· > ·) (above ++ q :: below) := hqueues ▸ (by decide)
  have hmem : d.queue ∈ above ++ q :: below := by
    rw [← hqueues]
    simp only [List.mem_cons, List.not_mem_nil]
    omega
  have hbelow := (List.pairwise_cons.mp (List.pairwise_append.mp hfalling).2.1).1
  rcases List.mem_append.mp hmem with habove | hat
  · have hwaits := List.find?_eq_none.mp (hnone _ habove) d hd
    simp [hdport, hdst] at hwaits
  · rcases List.mem_cons.mp hat with heq | hlow
    · omega
    · have := hbelow _ hlow
      omega

/-! ### Selection (R191, R119) -/

/-- A copy of the port is in transmission. -/
abbrev State.sends (s : State) (p : Nat) : Bool := s.buf.copies.any (fun c => decide (c.port = p) && decide (c.st = CopySt.sending))

/-- A lane of the port is not awake. -/
abbrev State.portDozes (s : State) (p : Nat) : Bool := (portLanes p).any (fun l => decide ((s.lane l).doze ≠ .awake))

theorem egressSelect_idle (r : Raw) (h : s.dpUp = false ∨ (s.port p).st ≠ .up ∨ s.portExists p = false ∨ s.sends p = true ∨
    s.portDozes p = true ∨ s.nextCopy p = none) : egressSelect p r s = s := by
  unfold egressSelect
  split
  · rfl
  split
  · rfl
  split
  · rfl
  next hport hsends hdozes =>
    have hnone : s.nextCopy p = none := by tauto
    rw [hnone]

/-- A copy without a mark needs no overlay, so its frame leaves whole with or without a stamp. -/
theorem egressSelect_sends (r : Raw) (hup : s.dpUp = true) (hst : (s.port p).st = .up) (he : s.portExists p = true)
    (hfree : s.sends p = false) (hawake : s.portDozes p = false) (hc : s.nextCopy p = some c) (hm : c.mark = .none) :
    egressSelect p r s = s.setCopy c { c with
      st := .sending
      txStamp := if s.tpUp then
        some (s.txStamp (State.rawOn p r) (egressTicks (s.lane ((portLanes p).headD 0)).rate (decide (96 ≤ p)) (s.fecOf p))) else none
      missed := false
      rates := (List.range 8).map (fun n => (s.tb n).rateTotal) } := by
  unfold egressSelect
  rw [if_neg (by simp [hup, hst, he]), if_neg (Bool.eq_false_iff.mp hfree), if_neg (Bool.eq_false_iff.mp hawake), hc]
  have hplain (bs : List Byte) : State.needsOverlay c.mark bs = false := by rw [hm]; rfl
  simp only [hplain, Bool.and_false, Bool.false_eq_true, if_false]

/-! ### The end of a transmission (R230, R197) -/

/-- The copy of the port in transmission. -/
abbrev State.sending? (s : State) (p : Nat) : Option Copy :=
  s.buf.copies.find? (fun c => decide (c.port = p) && decide (c.st = CopySt.sending))

theorem frameTxEnd_none (o : Option Int) (h : s.sending? p = none) : frameTxEnd p o s = s := by
  unfold frameTxEnd
  simp only [h]

theorem frameTxEnd_arriving (o : Option Int) (hc : s.sending? p = some c) (hf : s.frame? c.frame = some f) (he : f.ended = false) :
    frameTxEnd p o s = s := by
  unfold frameTxEnd
  simp only [hc, hf, he, if_true]

theorem State.overlay_none (s : State) (rates : List Int) (egress : Nat) (bs : List Byte) (rx tx : Stamp) :
    s.overlay .none rates egress bs rx tx = (bs, s) := by
  unfold State.overlay
  split <;> rfl

theorem State.afterStamp_plain (s : State) (bs : List Byte) (tx : Stamp) (hm : c.mark = .none) (hi : c.insIdx = none) :
    s.afterStamp c bs tx = s := by
  unfold State.afterStamp
  simp only [hm, hi]

theorem State.inWindow_counted (s : State) (tick p : Nat) (f : Band → Band) : Counted (s.inWindow tick p f) s := by
  unfold State.inWindow
  dsimp only
  split
  · exact ⟨_, rfl⟩
  split
  · exact ⟨_, rfl⟩
  · exact .refl s

theorem State.txBand_counted (s : State) (p len tick : Nat) : Counted (s.txBand p len tick) s :=
  (State.event_counted _ _ _ _ _).trans ((State.event_counted _ _ _ _ _).trans (s.inWindow_counted tick p _))

/-- A plain copy of a frame that has ended leaves: the frame is sent and counted, and the reference released. -/
theorem frameTxEnd_leaves (hc : s.sending? p = some c) (hf : s.frame? c.frame = some f) (he : f.ended = true) (hm : c.mark = .none)
    (hi : c.insIdx = none) : ∃ b n tick, frameTxEnd p none s = ((((s.emit (.frame p b (!c.missed))).txBand p n tick).modFrame f.id
      fun f => { f with delivered := true }).dropCopy c).finish f.id 0x403 := by
  unfold frameTxEnd
  simp only [hc, hf, he, Bool.true_eq_false, if_false]
  cases c.txStamp with
  | none => exact ⟨_, _, _, by simp only [Option.map_none, hi]; rfl⟩
  | some tx =>
    simp only [Option.map_some, hm, State.overlay_none, stampVerify]
    exact ⟨_, _, _, State.afterStamp_plain _ _ _ rfl hi⟩

theorem frameTxEnd_plain (hc : s.sending? p = some c) (hf : s.frame? c.frame = some f) (he : f.ended = true) (hm : c.mark = .none)
    (hi : c.insIdx = none) : (frameTxEnd p none s).keeps s [.out, .buf, .cnt] ∧
      (∃ b, (frameTxEnd p none s).out = s.out ++ [.frame p b (!c.missed)]) ∧ (frameTxEnd p none s).buf.copies = s.buf.copies.erase c := by
  obtain ⟨b, n, tick, hrow⟩ := frameTxEnd_leaves hc hf he hm hi
  obtain ⟨cnt, hband⟩ := (s.emit (.frame p b (!c.missed))).txBand_counted p n tick
  rw [hband] at hrow
  obtain ⟨frames, cnt', hfinish⟩ := State.finish_written ((State.modFrame _ f.id fun f => { f with delivered := true }).dropCopy c) f.id 0x403
  rw [← hrow] at hfinish
  rw [hfinish]
  exact ⟨fun q hq => by cases q <;> simp [Part.same, State.dropCopy, State.modFrame, State.emit] at hq ⊢, ⟨b, rfl⟩, rfl⟩

end

/-! ### The statement -/

/-- Settles O57: the scheduler's queues are searched from the highest down, and a plain copy's end changes only what is sent, counted and
stored. -/
theorem framesOut : Obligations.FramesOut := by
  unfold Obligations.FramesOut
  refine ⟨fun s p r _ h => idxRow_idle _ rfl (egressSelect_idle r h), fun s p r c hp hup hst he hfree hawake hc hm => ?_,
    fun s p c h => s.nextCopy_highest h, fun s p o _ h => idxRow_idle _ rfl (frameTxEnd_none o h), fun s p o c f hp hc hf => ⟨fun he => ?_, ?_⟩⟩
  · exact idxRow_next _ rfl hp (egressSelect_sends r hup hst he hfree hawake hc hm)
  · exact idxRow_idle _ rfl (frameTxEnd_arriving o hc hf he)
  · rintro he hm rfl hi
    exact idxRow_completes _ rfl hp (frameTxEnd_plain hc hf he hm hi)

end Sys2Proof.Machine
end

section
/-! The commands of the forwarding tables (R182-R190, R207-R212): what each body stores, removes and replies. -/

namespace Sys2Proof.Machine

open Sys2Proof

theorem State.withFwd_keeps (s : State) (f : Fwd) : ({ s with fwd := f }).keeps s [.fwd] := by
  intro q hq
  cases q <;> simp [Part.same] at hq ⊢

/-! ### FWD.FDB_ADD (R182, R183, R207) -/

theorem bodyFdbAdd_group (c : Ctx) {ws : List Word} (s : State) (hn : fld (wd ws 0) 15 0 = 1) (hg : bit (wd ws 0) 31 = true) :
    bodyFdbAdd c ws s = ({ s with fwd := { s.fwd with
      groups := Tab.insert s.fwd.groups (fld (wd ws 1) 11 0) (maskArg ws 2) } }).ok c [pack [(0, 1), (16, 0)], 1] := by
  simp only [bodyFdbAdd, hn, hg, if_true]
  rfl

/-- With one key, the reply tells whether that key was stored. -/
theorem bodyFdbAdd_key (c : Ctx) {ws : List Word} {s u : State} {stored : Bool} (hn : fld (wd ws 0) 15 0 = 1) (hg : bit (wd ws 0) 31 = false)
    (h : s.fdbAdd (wd ws 1) (wd ws 2) (wd ws 3) = (stored, u)) :
    bodyFdbAdd c ws s = u.ok c [pack [(0, stored.toNat), (16, 1 - stored.toNat)], w32 stored.toNat] := by
  have hone : List.range 1 = [0] := rfl
  simp only [bodyFdbAdd, hn, hg, Bool.false_eq_true, if_false, hone, List.foldl_cons, List.foldl_nil, Nat.mul_zero, Nat.add_zero, h]
  cases stored <;> rfl

/-- The entry that three words spell, with HIT as a new entry has it. -/
def fdbEntry (a b d : Word) (hit : Bool) : Fdb :=
  { mac := macOf a b, fid := fld b 11 0, dest := destOf (fld d 12 0), static := bit d 16, hit := hit }

section
variable {s : State} {a b d : Word}

/-- HIT of the entry a command adds next is a free value (R185). -/
def State.nextHit (s : State) : Bool := (Config.freeNat s.free).testBit 0

theorem State.fdbAdd_replaces {k : Nat} {old : Fdb} (h : s.fdbFind (macOf a b) (fld b 11 0) = some (k, old)) :
    s.fdbAdd a b d = (true, { s with free := s.free + 1, fwd := { s.fwd with fdb := Tab.insert s.fwd.fdb k (fdbEntry a b d s.nextHit) } }) := by
  have hfind : ({ s with free := s.free + 1 }).fdbFind (macOf a b) (fld b 11 0) = some (k, old) := h
  simp only [State.fdbAdd, State.drawNat, hfind]
  rfl

theorem State.fdbAdd_places {t : Tab Fdb} (h : s.fdbFind (macOf a b) (fld b 11 0) = none)
    (ht : fdbPlace s.fwd.fdb (fdbEntry a b d s.nextHit) = some t) :
    s.fdbAdd a b d = (true, { s with free := s.free + 1, fwd := { s.fwd with fdb := t } }) := by
  have hfind : ({ s with free := s.free + 1 }).fdbFind (macOf a b) (fld b 11 0) = none := h
  rw [fdbEntry, State.nextHit] at ht
  simp only [State.fdbAdd, State.drawNat, hfind, ht]
  rfl

theorem State.fdbAdd_refused (h : s.fdbFind (macOf a b) (fld b 11 0) = none)
    (ht : fdbPlace s.fwd.fdb (fdbEntry a b d s.nextHit) = none) : s.fdbAdd a b d = (false, { s with free := s.free + 1 }) := by
  have hfind : ({ s with free := s.free + 1 }).fdbFind (macOf a b) (fld b 11 0) = none := h
  rw [fdbEntry, State.nextHit] at ht
  simp only [State.fdbAdd, State.drawNat, hfind, ht]

end

theorem State.accepted_fdbFind (s : State) (op : Nat) (p : Pkt) (mac fid : Nat) :
    (s.accepted op p).fdbFind mac fid = s.fdbFind mac fid := by
  rw [State.fdbFind, State.accepted_fwd, State.fdbFind]

theorem State.accepted_nextHit (s : State) (op : Nat) (p : Pkt) : (s.accepted op p).nextHit = s.nextHit := by
  rw [State.nextHit, State.accepted_free, State.nextHit]

/-- The first free way is taken before any entry moves (R183). -/
theorem fdbPlace_lowest {t : Tab Fdb} {e : Fdb} {w : Nat} (hw : w < 4) (hfree : Tab.find? t (fdbSlot w e.mac e.fid) = none)
    (htaken : ∀ v, v < w → Tab.find? t (fdbSlot v e.mac e.fid) ≠ none) :
    fdbPlace t e = some (Tab.insert t (fdbSlot w e.mac e.fid) e) := by
  have hway : (List.range 4).find? (fun v => (Tab.find? t (fdbSlot v e.mac e.fid)).isNone) = some w :=
    List.find?_range_eq_some.mpr ⟨by simp [hfree], List.mem_range.mpr hw, fun v hv => by simp [Option.isSome_iff_ne_none, htaken v hv]⟩
  have hslot : ((List.range 4).map fun v => fdbSlot v e.mac e.fid).find? (fun k => (Tab.find? t k).isNone) = some (fdbSlot w e.mac e.fid) := by
    rw [List.find?_map]
    exact congrArg (Option.map _) hway
  simp only [fdbPlace, hslot]

theorem fwdFdbAdd_answers_group (s : State) (p : Pkt) (h : s.accepts 0x0300 lenFdbAdd p = true) (hn : fld (wd p.words 0) 15 0 = 1)
    (hg : bit (wd p.words 0) 31 = true) : Answers (.fwdFdbAdd p) s 0x0300 p { s.accepted 0x0300 p with fwd := { s.fwd with
      groups := Tab.insert s.fwd.groups (fld (wd p.words 1) 11 0) (maskArg p.words 2) } } [pack [(0, 1), (16, 0)], 1] := by
  have hbody := bodyFdbAdd_group (s.ctxOf 0x0300 p) (s.accepted 0x0300 p) hn hg
  rw [State.accepted_fwd] at hbody
  exact answers_of_body rfl h hbody

theorem fwdFdbAdd_answers_key (s : State) (p : Pkt) (h : s.accepts 0x0300 lenFdbAdd p = true) (hn : fld (wd p.words 0) 15 0 = 1)
    (hg : bit (wd p.words 0) 31 = false) (stored : Bool) {u : State}
    (hadd : (s.accepted 0x0300 p).fdbAdd (wd p.words 1) (wd p.words 2) (wd p.words 3) = (stored, u)) :
    Answers (.fwdFdbAdd p) s 0x0300 p u [pack [(0, stored.toNat), (16, 1 - stored.toNat)], w32 stored.toNat] :=
  answers_of_body rfl h (bodyFdbAdd_key _ hn hg hadd)

/-! ### FWD.FDB_DEL (R208) -/

/-- A change of the database changes nothing else. -/
theorem State.setFdb_frame (s : State) (t : Tab Fdb) :
    (s.setFdb t).keeps s [.fwd] ∧ (s.setFdb t).fwd = { s.fwd with fdb := (s.setFdb t).fwd.fdb } := ⟨s.withFwd_keeps _, rfl⟩

theorem State.fdbDelKeys_frame (s : State) (ws : List Word) : (s.fdbDelKeys ws).keeps s [.fwd] ∧
    (s.fdbDelKeys ws).fwd = { s.fwd with fdb := (s.fdbDelKeys ws).fwd.fdb } := s.setFdb_frame _

theorem State.fdbFlush_frame (s : State) (w : Word) : (s.fdbFlush w).keeps s [.fwd] ∧
    (s.fdbFlush w).fwd = { s.fwd with fdb := (s.fdbFlush w).fwd.fdb } := s.setFdb_frame _

theorem State.fdbDelKeys_fdb (s : State) (ws : List Word) : (s.fdbDelKeys ws).fwd.fdb =
    s.fwd.fdb.filter (fun e => !((List.range (fld (wd ws 0) 15 0)).any (fun i =>
      decide (e.2.mac = macOf (wd ws (1 + 2 * i)) (wd ws (2 + 2 * i)) ∧ e.2.fid = fld (wd ws (2 + 2 * i)) 11 0)))) := by
  refine List.filter_congr fun e _ => congrArg _ ?_
  rw [List.contains_eq_any_beq, List.any_map]
  refine List.any_congr rfl fun i => ?_
  simp [Function.comp, Prod.ext_iff, beq_eq_decide]

theorem State.mem_fdbFlush (s : State) (w : Word) (e : Nat × Fdb) : e ∈ (s.fdbFlush w).fwd.fdb ↔ e ∈ s.fwd.fdb ∧
    ¬((portOrNone (fld w 6 0) = 0x7F ∨ e.2.dest = portOrNone (fld w 6 0)) ∧ (bit w 28 = true ∨ e.2.fid = fld w 27 16) ∧
      (bit w 29 = true ∨ e.2.static = false)) := by
  refine List.mem_filter.trans (and_congr_right fun _ => ?_)
  simp only [Bool.not_eq_true', ← Bool.not_eq_true, Bool.and_eq_true, Bool.or_eq_true, decide_eq_true_eq, and_assoc]

theorem bodyFdbDel_keys (c : Ctx) {ws : List Word} (s : State) (hf : bit (wd ws 0) 31 = false) :
    bodyFdbDel c ws s = (s.fdbDelKeys ws).ok c [w32 (s.fwd.fdb.length - (s.fdbDelKeys ws).fwd.fdb.length)] := by
  unfold bodyFdbDel
  rw [if_neg (Bool.eq_false_iff.mp hf)]

theorem bodyFdbDel_flush (c : Ctx) {ws : List Word} (s : State) (hf : bit (wd ws 0) 31 = true) :
    bodyFdbDel c ws s = (s.fdbFlush (wd ws 1)).ok c [w32 (s.fwd.fdb.length - (s.fdbFlush (wd ws 1)).fwd.fdb.length)] := by
  unfold bodyFdbDel
  rw [if_pos hf]

/-! ### FWD.FDB_READ and FWD.AGEING (R209, R210) -/

/-- The keys of a range that a read command names. -/
abbrev inRange (first n : Nat) {α : Type} (e : Nat × α) : Bool := decide (first ≤ e.1 ∧ e.1 < first + n)

/-- The reply is the number of entries, and five words for each group or four for each entry of the database. -/
theorem bodyFdbRead_reply (c : Ctx) (ws : List Word) (s : State) :
    let grp := bit (wd ws 0) 31
    let top := if grp then 4096 else 131072
    let first := min (fld (wd ws 0) 16 0) top
    let n := min (fld (wd ws 1) 17 0) (top - first)
    ∃ r, bodyFdbRead c ws s = s.ok c r ∧ (grp = true → r.length = 1 + 5 * (s.fwd.groups.filter (inRange first n)).length) ∧
      (grp = false → r.length = 1 + 4 * (s.fwd.fdb.filter (inRange first n)).length) := by
  intro grp top first n
  by_cases hg : grp = true
  · refine ⟨_, if_pos hg, fun _ => ?_, fun h => absurd h (by simp [hg])⟩
    rw [List.length_cons, length_flatMap_const _ _ 5 (fun _ _ => rfl), Nat.add_comm]
  · refine ⟨_, if_neg hg, fun h => absurd h hg, fun _ => ?_⟩
    rw [List.length_cons, length_flatMap_const _ _ 4 (fun _ _ => rfl), Nat.add_comm]

theorem bodyAgeing_reply (c : Ctx) (ws : List Word) (s : State) : ∃ r, r.length = 6 ∧ bodyAgeing c ws s =
    ({ s with fwd := if bit (wd ws 0) 31 then { s.fwd with
      ageTime := clamp 10 1000000 (fld (wd ws 1) 19 0), ageEn := bit (wd ws 1) 31 } else s.fwd }).ok c r :=
  ⟨_, rfl, rfl⟩

/-! ### FWD.STREAM_SET and FWD.STREAM_READ (R187, R190, R211, R212) -/

/-- With one entry, the reply tells whether that entry was stored or removed. -/
theorem bodyStreamSet_entry (c : Ctx) {ws : List Word} {s u : State} {del stored : Bool} {words : List Word} (hn : fld (wd ws 0) 15 0 = 1)
    (hd : bit (wd ws 0) 31 = del) (h : s.streamSet del (streamOf ws 1) = ((words, stored), u)) :
    bodyStreamSet c ws s = u.ok c (pack [(0, stored.toNat), (16, 1 - stored.toNat)] :: words) := by
  unfold bodyStreamSet
  simp [hn, hd, List.range_succ, h]

section
variable {s : State} {e : Stream} {k : Nat}

/-- The slot that holds the key of an entry, and what it holds. -/
abbrev State.streamOfKey (s : State) (e : Stream) : Option (Nat × Stream) := List.find? (fun (x : Nat × Stream) => x.2.sameKey e) s.fwd.streams

/-- The entry as it is stored: SPARK stays with the entry of its DA that has it (R190). -/
def State.streamStored (s : State) (e : Stream) : Stream :=
  { e with spark := e.spark && !(List.any s.fwd.streams (fun x => x.2.spark && decide (x.2.da = e.da) && !(x.2.sameKey e))) }

theorem State.streamSet_removes {x : Stream} (h : s.streamOfKey e = some (k, x)) : s.streamSet true e =
    ((streamWords e k true, true), { s with fwd := { s.fwd with streams := Tab.erase s.fwd.streams k } }) := by
  simp only [State.streamSet, if_true, h]

theorem State.streamSet_removes_none (h : s.streamOfKey e = none) : s.streamSet true e = ((streamWords e 0 false, false), s) := by
  simp only [State.streamSet, if_true, h]

/-- An entry takes the slot of its key, and a new key a free way. -/
theorem State.streamSet_stores (h : (∃ x, s.streamOfKey e = some (k, x)) ∨ s.streamOfKey e = none ∧ streamFree s.fwd.streams e.da = some k) :
    s.streamSet false e = ((streamWords (s.streamStored e) k true, true),
      { s with fwd := { s.fwd with streams := Tab.insert s.fwd.streams k (s.streamStored e) } }) := by
  rcases h with ⟨x, h⟩ | ⟨h, hfree⟩
  · simp only [State.streamSet, Bool.false_eq_true, if_false, h]
    rfl
  · simp only [State.streamSet, Bool.false_eq_true, if_false, h, hfree]
    rfl

theorem State.streamSet_full (h : s.streamOfKey e = none) (hfree : streamFree s.fwd.streams e.da = none) :
    s.streamSet false e = ((streamWords (s.streamStored e) 0 false, false), s) := by
  simp only [State.streamSet, Bool.false_eq_true, if_false, h, hfree]
  rfl

end

theorem fwdStreamSet_answers (s : State) (p : Pkt) (h : s.accepts 0x0304 (lenEntries 5) p = true) (hn : fld (wd p.words 0) 15 0 = 1)
    (stored : Bool) {del : Bool} {words : List Word} {u : State} (hd : bit (wd p.words 0) 31 = del)
    (hset : (s.accepted 0x0304 p).streamSet del (streamOf p.words 1) = ((words, stored), u)) :
    Answers (.fwdStreamSet p) s 0x0304 p u (pack [(0, stored.toNat), (16, 1 - stored.toNat)] :: words) :=
  answers_of_body rfl h (bodyStreamSet_entry _ hn hd hset)

theorem bodyStreamRead_reply (c : Ctx) (ws : List Word) (s : State) :
    let first := fld (wd ws 0) 14 0
    let n := min (fld (wd ws 1) 15 0) (32768 - first)
    ∃ r, bodyStreamRead c ws s = s.ok c r ∧ r.length = 1 + 5 * (s.fwd.streams.filter (inRange first n)).length := by
  refine ⟨_, rfl, ?_⟩
  rw [List.length_cons, length_flatMap_const _ _ 5 (fun _ _ => rfl), Nat.add_comm]

/-! ### The statement -/

/-- Settles O54: each body acts on the tables of the state before, which acceptance leaves as they are. -/
theorem tableCommands : Obligations.TableCommands := by
  unfold Obligations.TableCommands
  refine ⟨fun s p h hn => ?_, fun t e w hw hfree htaken => fdbPlace_lowest hw hfree htaken, fun s p h => ⟨fun hf => ?_, fun hf => ?_⟩,
    fun s p h => ?_, fun s p h => ?_, fun s p h hn => ?_, fun s p h => ?_⟩
  · intro ws a e
    have hfwd : a.fwd = s.fwd := s.accepted_fwd _ p
    have hfree : a.free = s.free := s.accepted_free _ p
    have he : fdbEntry (wd ws 1) (wd ws 2) (wd ws 3) a.nextHit = e := by rw [s.accepted_nextHit]; rfl
    have hfind : a.fdbFind (macOf (wd ws 1) (wd ws 2)) (fld (wd ws 2) 11 0) = s.fdbFind e.mac e.fid := s.accepted_fdbFind _ p _ _
    refine ⟨fun hg => fwdFdbAdd_answers_group s p h hn hg, fun k old hg hk => ?_, fun t hg hk ht => ?_, fun hg hk ht => ?_⟩
    · have hadd := State.fdbAdd_replaces (d := wd ws 3) (hfind.trans hk)
      rw [he, hfwd, hfree] at hadd
      exact fwdFdbAdd_answers_key s p h hn hg true hadd
    · have hadd := State.fdbAdd_places (d := wd ws 3) (t := t) (hfind.trans hk) (by rw [he, hfwd, ht])
      rw [hfwd, hfree] at hadd
      exact fwdFdbAdd_answers_key s p h hn hg true hadd
    · have hadd := State.fdbAdd_refused (d := wd ws 3) (hfind.trans hk) (by rw [he, hfwd, ht])
      rw [hfree] at hadd
      exact fwdFdbAdd_answers_key s p h hn hg false hadd
  · have hdel := answers_of_body (i := .fwdFdbDel p) rfl h (bodyFdbDel_keys _ _ hf)
    have hfdb := (s.accepted 0x0301 p).fdbDelKeys_fdb p.words
    obtain ⟨hkeeps, hframe⟩ := (s.accepted 0x0301 p).fdbDelKeys_frame p.words
    rw [State.accepted_fwd] at hdel hfdb hframe
    exact ⟨_, hdel, hkeeps, hfdb, hframe⟩
  · have hflush := answers_of_body (i := .fwdFdbFlush p) rfl h (bodyFdbDel_flush _ _ hf)
    have hmem := (s.accepted 0x0301 p).mem_fdbFlush (wd p.words 1)
    obtain ⟨hkeeps, hframe⟩ := (s.accepted 0x0301 p).fdbFlush_frame (wd p.words 1)
    rw [State.accepted_fwd] at hflush hmem hframe
    exact ⟨_, hflush, hkeeps, hframe, hmem⟩
  · obtain ⟨r, hb, hr⟩ := bodyFdbRead_reply (s.ctxOf 0x0302 p) p.words (s.accepted 0x0302 p)
    rw [State.accepted_fwd] at hr
    exact ⟨r, answers_of_body rfl h hb, hr⟩
  · obtain ⟨r, hr, hb⟩ := bodyAgeing_reply (s.ctxOf 0x0303 p) p.words (s.accepted 0x0303 p)
    rw [State.accepted_fwd] at hb
    exact ⟨_, r, answers_of_body rfl h hb, hr, State.withFwd_keeps _ _, rfl⟩
  · intro a e same e' put yes
    have hfwd : a.fwd = s.fwd := s.accepted_fwd _ p
    have hsame : a.streamOfKey e = same := by rw [State.streamOfKey, hfwd]
    have he' : a.streamStored e = e' := by rw [State.streamStored, hfwd]
    unfold put
    rw [← hfwd, ← hsame, ← he']
    exact ⟨fun k x hd hk => fwdStreamSet_answers s p h hn true hd (State.streamSet_stores (.inl ⟨x, hk⟩)),
      fun k hd hk hf => fwdStreamSet_answers s p h hn true hd (State.streamSet_stores (.inr ⟨hk, hf⟩)),
      fun hd hk hf => fwdStreamSet_answers s p h hn false hd (State.streamSet_full hk hf),
      fun k x hd hk => fwdStreamSet_answers s p h hn true hd (State.streamSet_removes hk),
      fun hd hk => fwdStreamSet_answers s p h hn false hd (State.streamSet_removes_none hk)⟩
  · obtain ⟨r, hb, hr⟩ := bodyStreamRead_reply (s.ctxOf 0x0305 p) p.words (s.accepted 0x0305 p)
    rw [State.accepted_fwd] at hr
    exact ⟨r, answers_of_body rfl h hb, hr⟩

end Sys2Proof.Machine
end

section
/-! VLANs, classes, cut-through, punt rules and the limits of the shared buffer (R213-R216, R221, R223, R235-R237): what each body stores and
replies. -/

namespace Sys2Proof.Machine

open Sys2Proof

/-! ### Acceptance leaves the ports and the use of the buffer as they were -/

section
variable (s : State) (op : Nat) (p : Pkt)

theorem State.accepted_portExists (q : Nat) : (s.accepted op p).portExists q = s.portExists q := by
  simp only [State.portExists, State.formed, State.accepted_form]

theorem State.accepted_port (q : Nat) : (s.accepted op p).port q = s.port q := by
  rw [State.port, State.accepted_ports, State.port]

theorem State.accepted_minSum : (s.accepted op p).minSum = s.minSum := by
  rw [State.minSum, State.accepted_buf_mins, State.minSum]

theorem State.accepted_minOf (q j : Nat) : (s.accepted op p).minOf q j = s.minOf q j := by
  rw [State.minOf, State.accepted_buf_mins, State.minOf]

theorem State.accepted_poolUsed : (s.accepted op p).poolUsed = s.poolUsed := by
  simp only [State.poolUsed, State.chargedQueues, State.qOf, State.minOf, State.accepted_buf_copies, State.accepted_buf_mins]

end

/-! ### FWD.VLAN_SET and FWD.PUNT_RULE (R213, R216) -/

/-- The VLAN entry that the words of FWD.VLAN_SET spell. -/
def vlanOf (ws : List Word) : Vlan :=
  { fid := fld (wd ws 1) 11 0, valid := bit (wd ws 1) 16, learn := bit (wd ws 1) 17, member := maskArg ws 2, untag := maskArg ws 6 }

theorem bodyVlanSet_reply (c : Ctx) (ws : List Word) (s : State) : ∃ r, r.length = 10 ∧ bodyVlanSet c ws s =
    (if bit (wd ws 0) 31 then { s with fwd := { s.fwd with
      vlans := Tab.put vlanReset s.fwd.vlans (clamp 1 4094 (fld (wd ws 0) 11 0)) (vlanOf ws) } } else s).ok c r :=
  ⟨_, rfl, rfl⟩

/-- The rule that the words of FWD.PUNT_RULE spell; its HITS start anew. -/
def puntOf (ws : List Word) : Punt :=
  let a := wd ws 1
  { action := fld a 1 0, inPort := portOrNone (fld a 14 8), daAny := bit a 16, etypeAny := bit a 17, protoAny := bit a 18, dportAny := bit a 19,
    da := macOf (wd ws 2) (wd ws 3), etype := fld (wd ws 3) 15 0, proto := fld (wd ws 4) 7 0, dport := fld (wd ws 4) 31 16, hits := 0 }

theorem bodyPuntRule_reply (c : Ctx) (ws : List Word) (s : State) : ∃ r, r.length = 6 ∧ bodyPuntRule c ws s =
    (if bit (wd ws 0) 31 then { s with fwd := { s.fwd with
      punts := Tab.put puntReset s.fwd.punts (fld (wd ws 0) 5 0) (puntOf ws) } } else s).ok c r :=
  ⟨_, rfl, rfl⟩

/-! ### FWD.CLASS_MAP and FWD.CUT_MODE (R214, R215) -/

/-- The port with its default VLAN and classes as the words of FWD.CLASS_MAP spell them. -/
def Port.classed (x : Port) (ws : List Word) : Port :=
  { x with pvid := clamp 1 4094 (fld (wd ws 1) 11 0), defPcp := fld (wd ws 1) 14 12, pcpMap := fld (wd ws 2) 23 0 }

theorem bodyClassMap_reply (c : Ctx) (ws : List Word) (s : State) : ∃ r, r.length = 3 ∧ bodyClassMap c ws s =
    (if bit (wd ws 0) 31 = true ∧ s.portExists (portArg (wd ws 0)) = true then
      s.modPort (portArg (wd ws 0)) (fun x => x.classed ws) else s).ok c r :=
  ⟨_, rfl, rfl⟩

theorem bodyCutMode_read (c : Ctx) {ws : List Word} (s : State) (hw : bit (wd ws 0) 31 = false) :
    ∃ r, r.length = 2 ∧ bodyCutMode c ws s = s.ok c r := by
  simp only [bodyCutMode, hw, Bool.false_eq_true, false_and, if_false]
  exact ⟨_, rfl, rfl⟩

/-- What is written is what the reply returns. -/
theorem bodyCutMode_write (c : Ctx) {ws : List Word} {s : State} (hw : bit (wd ws 0) 31 = true) (hq : s.portExists (portArg (wd ws 0)) = true)
    (hs : Tab.sorted s.ports = true) : bodyCutMode c ws s = (s.modPort (portArg (wd ws 0)) fun x => { x with cut := fld (wd ws 1) 7 0 }).ok c
      [pack [(31, 1), (0, portArg (wd ws 0))], w32 (fld (wd ws 1) 7 0)] := by
  have hport := ((PortTo.refl (p := portArg (wd ws 0)) hs).modPort fun x => { x with cut := fld (wd ws 1) 7 0 }).port
  unfold bodyCutMode
  simp only [hw, hq, and_self, if_true, hport]
  rfl

/-! ### BUF.MIN_SET, BUF.POOL_SET and BUF.OCCUPANCY (R221, R235-R237) -/

/-- MIN as BUF.MIN_SET stores it for one queue: the cells that the pool and the other minima leave (R221). -/
def State.minArg (s : State) (p q : Nat) (w : Word) : Nat :=
  min (min 16384 (fld w 15 0)) (190208 - s.buf.poolSize - (s.minSum - s.minOf p q))

theorem bodyMinSet_read (c : Ctx) {ws : List Word} (s : State) (hw : bit (wd ws 0) 31 = false) :
    ∃ r, r.length = 3 ∧ bodyMinSet c ws s = s.ok c r := by
  simp only [bodyMinSet, hw, Bool.false_eq_true, false_and, if_false]
  exact ⟨_, rfl, rfl⟩

theorem bodyMinSet_write (c : Ctx) {ws : List Word} {s : State} (hw : bit (wd ws 0) 31 = true) (hall : bit (wd ws 0) 30 = false)
    (hp : s.portExists (min 103 (fld (wd ws 0) 6 0)) = true) :
    let p := min 103 (fld (wd ws 0) 6 0)
    let q := min 8 (fld (wd ws 0) 11 8)
    ∃ r, r.length = 3 ∧ bodyMinSet c ws s = (s.setMin p q (s.minArg p q (wd ws 1))).notePeak.ok c r := by
  simp only [bodyMinSet, hw, hall, hp, and_self, if_true, minQueues, Bool.false_eq_true, if_false, List.foldl_cons, List.foldl_nil,
    List.map_cons, List.map_nil, List.sum_cons, List.sum_nil, Nat.add_zero, List.length_singleton, Nat.div_one]
  exact ⟨_, rfl, rfl⟩

theorem State.setMin_keeps (s : State) (p q m : Nat) : (s.setMin p q m).notePeak.keeps s [.buf] := by
  intro q hq
  cases q <;> simp [Part.same, State.setMin, State.notePeak] at hq ⊢

/-- A minimum is kept for its own port and queue (R221). -/
theorem State.minOf_setMin_ne (s : State) {p q x y : Nat} (m : Nat) (hq : q < 9) (hy : y < 9) (h : (x, y) ≠ (p, q)) :
    (s.setMin p q m).notePeak.minOf x y = s.minOf x y := by
  refine Tab.get_put_ne _ _ _ fun heq => h ?_
  rw [Prod.mk.injEq]
  omega

theorem State.minOf_setMin (s : State) (p q m : Nat) (hs : Tab.sorted s.buf.mins = true) : (s.setMin p q m).notePeak.minOf p q = m :=
  Tab.get_put_self _ _ _ hs

/-- The pool takes what the minima leave (R221). -/
theorem bodyPoolSet_reply (c : Ctx) (ws : List Word) (s : State) : ∃ r, r.length = 3 ∧ bodyPoolSet c ws s =
    (if bit (wd ws 0) 31 then { s with buf := { s.buf with
      poolSize := min (fld (wd ws 0) 17 0) (190208 - s.minSum), alpha := (wd ws 1).toNat, alphaSpark := fld (wd ws 2) 3 0 } } else s).ok c r :=
  ⟨_, rfl, rfl⟩

/-- Six words of totals, and for a port eighteen of its queues. -/
theorem bodyOccupancy_reply (c : Ctx) (ws : List Word) (s : State) :
    ∃ r, bodyOccupancy c ws s = ({ s with buf := { s.buf with poolPeak := s.poolUsed } }).ok c r ∧ wd r 1 = w32 s.poolUsed ∧
      wd r 2 = w32 s.buf.poolPeak ∧ r.length = if fld (wd ws 0) 6 0 < 104 then 24 else 6 := by
  refine ⟨_, rfl, rfl, rfl, ?_⟩
  unfold bodyOccupancy.portOrAll
  by_cases hport : fld (wd ws 0) 6 0 < 104
  · rw [if_pos hport, if_pos hport, if_neg (by omega)]
    rfl
  · rw [if_neg hport, if_neg hport]
    rfl

/-! ### The statement -/

/-- Settles O55: with WRITE each body puts one entry into a table, whose other keys read as before; without it the body acts on nothing. -/
theorem ruleAndBufferCommands : Obligations.RuleAndBufferCommands := by
  unfold Obligations.RuleAndBufferCommands
  refine ⟨fun s p hw => ⟨fun h => ?_, fun h => ?_, fun h => ?_, fun h => ?_, fun h => ?_, fun h => ?_⟩, fun s p h hw hs => ?_,
    fun s p h hw hq hs => ?_, fun s p h hw hq hs => ?_, fun s p h hw hs => ?_, fun s p h hw hall hq hs => ?_, fun s p h hw => ?_, fun s p h => ?_⟩
  · obtain ⟨r, hr, hb⟩ := bodyVlanSet_reply (s.ctxOf 0x0306 p) p.words (s.accepted 0x0306 p)
    exact ⟨r, answers_of_body rfl h (by rw [hb, if_neg (by simp [hw])]), hr⟩
  · obtain ⟨r, hr, hb⟩ := bodyClassMap_reply (s.ctxOf 0x0307 p) p.words (s.accepted 0x0307 p)
    exact ⟨r, answers_of_body rfl h (by rw [hb, if_neg (by simp [hw])]), hr⟩
  · obtain ⟨r, hr, hb⟩ := bodyCutMode_read (s.ctxOf 0x0308 p) (s.accepted 0x0308 p) hw
    exact ⟨r, answers_of_body rfl h hb, hr⟩
  · obtain ⟨r, hr, hb⟩ := bodyPuntRule_reply (s.ctxOf 0x0309 p) p.words (s.accepted 0x0309 p)
    exact ⟨r, answers_of_body rfl h (by rw [hb, if_neg (by simp [hw])]), hr⟩
  · obtain ⟨r, hr, hb⟩ := bodyMinSet_read (s.ctxOf 0x0340 p) (s.accepted 0x0340 p) hw
    exact ⟨r, answers_of_body rfl h hb, hr⟩
  · obtain ⟨r, hr, hb⟩ := bodyPoolSet_reply (s.ctxOf 0x0341 p) p.words (s.accepted 0x0341 p)
    exact ⟨r, answers_of_body rfl h (by rw [hb, if_neg (by simp [hw])]), hr⟩
  · obtain ⟨r, hr, hb⟩ := bodyVlanSet_reply (s.ctxOf 0x0306 p) p.words (s.accepted 0x0306 p)
    rw [if_pos hw, State.accepted_fwd] at hb
    exact ⟨_, r, answers_of_body rfl h hb, hr, State.withFwd_keeps _ _, Tab.get_put_self _ _ _ hs, fun k hk => Tab.get_put_ne _ _ _ hk, rfl⟩
  · obtain ⟨r, hr, hb⟩ := bodyClassMap_reply (s.ctxOf 0x0307 p) p.words (s.accepted 0x0307 p)
    rw [if_pos ⟨hw, (s.accepted_portExists _ _ _).trans hq⟩] at hb
    have hto := (PortTo.refl (p := portArg (wd p.words 0)) (s := s.accepted 0x0307 p) (by rw [State.accepted_ports, hs])).modPort
      fun x => x.classed p.words
    exact ⟨_, r, answers_of_body rfl h hb, hr, State.modPort_keeps _ _ _, fun k hk => (hto.other k hk).trans (s.accepted_port _ _ _),
      hto.port.trans (by rw [s.accepted_port]; rfl)⟩
  · have hs' : Tab.sorted (s.accepted 0x0308 p).ports = true := by rw [State.accepted_ports, hs]
    have hb := bodyCutMode_write (s.ctxOf 0x0308 p) hw ((s.accepted_portExists 0x0308 p _).trans hq) hs'
    have hto := (PortTo.refl (p := portArg (wd p.words 0)) hs').modPort fun x => { x with cut := fld (wd p.words 1) 7 0 }
    exact ⟨_, answers_of_body rfl h hb, State.modPort_keeps _ _ _, hto.port.trans (by rw [s.accepted_port]),
      fun k hk => (hto.other k hk).trans (s.accepted_port _ _ _)⟩
  · obtain ⟨r, hr, hb⟩ := bodyPuntRule_reply (s.ctxOf 0x0309 p) p.words (s.accepted 0x0309 p)
    rw [if_pos hw, State.accepted_fwd] at hb
    exact ⟨_, r, answers_of_body rfl h hb, hr, State.withFwd_keeps _ _, Tab.get_put_self _ _ _ hs, fun k hk => Tab.get_put_ne _ _ _ hk, rfl⟩
  · obtain ⟨r, hr, hb⟩ := bodyMinSet_write (s.ctxOf 0x0340 p) hw hall ((s.accepted_portExists 0x0340 p _).trans hq)
    refine ⟨_, r, answers_of_body rfl h hb, hr, State.setMin_keeps _ _ _ _, ?_, fun x y hy hxy => ?_, s.accepted_buf_poolSize _ _,
      s.accepted_buf_copies _ _⟩
    · rw [State.minOf_setMin _ _ _ _ (by rw [State.accepted_buf_mins, hs]), State.minArg, State.accepted_buf_poolSize, State.accepted_minSum,
        State.accepted_minOf]
    · rw [State.minOf_setMin_ne _ _ (by omega) hy hxy, State.accepted_minOf]
  · obtain ⟨r, hr, hb⟩ := bodyPoolSet_reply (s.ctxOf 0x0341 p) p.words (s.accepted 0x0341 p)
    rw [if_pos hw, State.accepted_minSum] at hb
    exact ⟨r, answers_of_body rfl h hb, hr⟩
  · obtain ⟨r, hb, hr⟩ := bodyOccupancy_reply (s.ctxOf 0x0342 p) p.words (s.accepted 0x0342 p)
    rw [State.accepted_poolUsed] at hb hr
    rw [State.accepted_buf_poolPeak] at hr
    exact ⟨r, answers_of_body rfl h hb, hr⟩

end Sys2Proof.Machine
end

section
/-! Admission to a queue of the buffer (R223-R226): what an enqueued copy adds to the charge of its queue and to the pool use, and what a
refusal counts. -/

namespace Sys2Proof.Machine

open Sys2Proof

section
variable {s t : State} {c : Copy}

/-! ### The charges with one more copy (R223) -/

/-- A copy is charged on its own queue. -/
theorem State.qOf_append (h : t.buf.copies = s.buf.copies ++ [c]) (p q : Nat) :
    t.qOf p q = s.qOf p q + if c.port = p ∧ c.queue = q then c.charge else 0 := by
  rw [State.qOf, h, List.filter_append, List.map_append, List.sum_append, ← State.qOf]
  split_ifs with hq <;> simp [hq]

theorem State.qOf_append_self (h : t.buf.copies = s.buf.copies ++ [c]) :
    t.qOf c.port c.queue = s.qOf c.port c.queue + c.charge := by
  rw [State.qOf_append h, if_pos ⟨rfl, rfl⟩]

theorem State.qOf_append_ne (h : t.buf.copies = s.buf.copies ++ [c]) {p q : Nat} (hne : (p, q) ≠ (c.port, c.queue)) :
    t.qOf p q = s.qOf p q := by
  rw [State.qOf_append h, if_neg (fun hq => hne (Prod.ext hq.1.symm hq.2.symm)), Nat.add_zero]

theorem State.mem_chargedQueues {e : Nat × Nat} : e ∈ s.chargedQueues ↔ ∃ x ∈ s.buf.copies, (x.port, x.queue) = e := by
  rw [State.chargedQueues, List.mem_dedup, List.mem_map]

theorem State.qOf_of_not_mem_chargedQueues {p q : Nat} (h : (p, q) ∉ s.chargedQueues) : s.qOf p q = 0 := by
  have hnone : s.buf.copies.filter (fun x => decide (x.port = p ∧ x.queue = q)) = [] := by
    refine List.filter_eq_nil_iff.mpr fun x hx hq => h (State.mem_chargedQueues.mpr ⟨x, hx, ?_⟩)
    simpa using hq
  rw [State.qOf, hnone, List.map_nil, List.sum_nil]

/-- The pool use may be summed over any set of queues that holds the charged ones, since the others use nothing of the pool. -/
theorem State.poolUsed_eq_sum {k : Finset (Nat × Nat)} (h : s.chargedQueues.toFinset ⊆ k) :
    s.poolUsed = ∑ e ∈ k, (s.qOf e.1 e.2 - s.minOf e.1 e.2) := by
  have hnodup : s.chargedQueues.Nodup := List.nodup_dedup _
  rw [State.poolUsed, ← List.sum_toFinset _ hnodup]
  refine Finset.sum_subset h fun e _ he => ?_
  rw [State.qOf_of_not_mem_chargedQueues (by simpa using he), Nat.zero_sub]

/-- The pool use rises by what the queue of the copy takes beyond its minimum. -/
theorem State.poolUsed_append (h : t.buf.copies = s.buf.copies ++ [c]) (hm : t.buf.mins = s.buf.mins) :
    t.poolUsed = s.poolUsed
      + (s.qOf c.port c.queue + c.charge - max (s.qOf c.port c.queue) (s.minOf c.port c.queue)) := by
  have hmin (p q : Nat) : t.minOf p q = s.minOf p q := by rw [State.minOf, hm, State.minOf]
  have hsub : s.chargedQueues.toFinset ⊆ t.chargedQueues.toFinset := fun e he => by
    obtain ⟨x, hx, hxe⟩ := State.mem_chargedQueues.mp (List.mem_toFinset.mp he)
    exact List.mem_toFinset.mpr (State.mem_chargedQueues.mpr ⟨x, h ▸ List.mem_append_left _ hx, hxe⟩)
  have hc : (c.port, c.queue) ∈ t.chargedQueues.toFinset :=
    List.mem_toFinset.mpr (State.mem_chargedQueues.mpr ⟨c, by simp [h], rfl⟩)
  have hothers : ∀ e ∈ t.chargedQueues.toFinset.erase (c.port, c.queue),
      t.qOf e.1 e.2 - t.minOf e.1 e.2 = s.qOf e.1 e.2 - s.minOf e.1 e.2 := fun e he => by
    rw [State.qOf_append_ne h (Finset.ne_of_mem_erase he), hmin]
  rw [State.poolUsed_eq_sum (Finset.Subset.refl _), State.poolUsed_eq_sum hsub, ← Finset.add_sum_erase _ _ hc,
    ← Finset.add_sum_erase _ _ hc, Finset.sum_congr rfl hothers, State.qOf_append_self h, hmin]
  dsimp only
  omega

theorem State.poolUsed_congr (h : t.buf.copies = s.buf.copies) (hm : t.buf.mins = s.buf.mins) : t.poolUsed = s.poolUsed := by
  simp only [State.poolUsed, State.chargedQueues, State.qOf, State.minOf, h, hm]

end

/-! ### The test and its two outcomes (R225, R226) -/

/-- The minimum test or the pool test; code 0 closes the pool. -/
theorem State.admits_iff (s : State) (p q n : Nat) : s.admits p q n = true ↔
    s.qOf p q + n ≤ s.minOf p q ∨ (s.alphaOf q ≠ 0 ∧ s.poolUsed + (s.qOf p q + n - max (s.qOf p q) (s.minOf p q)) ≤ s.buf.poolSize ∧
      (s.qOf p q + n - s.minOf p q) * 256 ≤ 2 ^ s.alphaOf q * (s.buf.poolSize - s.poolUsed)) := by
  simp only [State.admits, Bool.or_eq_true, Bool.and_eq_true, decide_eq_true_eq, and_assoc]

theorem State.refuse_buf (s : State) (p q id : Nat) : ∃ frames, (s.refuse p q id).buf = { s.buf with
    admitDrops := Tab.put zeroReset s.buf.admitDrops (9 * p + q) (inc32 (s.admitDropsOf p q)), frames := frames } := by
  simp only [State.refuse, State.modFrame, State.event_buf]
  exact ⟨_, rfl⟩

theorem State.admitCopy_mins (s : State) (c : Copy) : (s.admitCopy c).buf.mins = s.buf.mins := by
  rw [State.admitCopy]
  split
  · rfl
  · obtain ⟨_, hbuf⟩ := s.refuse_buf c.port c.queue c.frame
    rw [hbuf]

/-- A refusal is counted for its own queue only. -/
theorem State.refuse_admitDropsOf_ne (s : State) {p q x y : Nat} (id : Nat) (hq : q < 9) (hy : y < 9) (h : (x, y) ≠ (p, q)) :
    (s.refuse p q id).admitDropsOf x y = s.admitDropsOf x y := by
  obtain ⟨_, hbuf⟩ := s.refuse_buf p q id
  rw [State.admitDropsOf, hbuf]
  refine Tab.get_put_ne _ _ _ fun heq => h ?_
  rw [Prod.mk.injEq]
  omega

/-- Settles O60: the list of copies gains the admitted copy, so the charge of its queue and the pool use rise with it; a refusal touches one
count of drops. -/
theorem admissionTest : Obligations.AdmissionTest := by
  unfold Obligations.AdmissionTest
  intro s c hq
  dsimp only
  rw [← State.admits_iff, Bool.not_eq_true]
  refine ⟨fun hok => ?_, fun hno => ?_⟩
  · obtain ⟨hcopies, hdrops⟩ := State.admitCopy_admitted hok
    exact ⟨hcopies, State.qOf_append_self hcopies, State.poolUsed_append hcopies (s.admitCopy_mins c),
      fun _ _ hne => State.qOf_append_ne hcopies hne, hdrops⟩
  · obtain ⟨hcopies, hdrops⟩ := State.admitCopy_refused hno
    refine ⟨hcopies, State.poolUsed_congr hcopies (s.admitCopy_mins c), fun _ => ⟨hdrops, fun _ _ hy hne => ?_⟩⟩
    rw [State.admitCopy, if_neg (by simp [hno])]
    exact s.refuse_admitDropsOf_ne c.frame hq hy hne

end Sys2Proof.Machine
end

section
/-! The rate of a time base (R242, R243, R247): what one tick adds to a time base that no slew moves, and how far that lies from 0.8 ns. -/

namespace Sys2Proof.Machine

open Sys2Proof

/-! ### The clamp (R243) -/

theorem clampZ_natAbs_le (b i : Int) : (clampZ (-b) b i).natAbs ≤ b.natAbs := by
  rw [clampZ]
  omega

theorem TBase.rateTotal_natAbs_le (t : TBase) : t.rateTotal.natAbs ≤ 1000000000000 :=
  clampZ_natAbs_le rateLimit t.rateSum

/-! ### One tick without a slew (R242) -/

/-- The rate terms of a tick and the remainder carried to it, over `rateDen`. -/
def TBase.tickNum (t : TBase) : Int := clampZ (-rateLimit) rateLimit (t.rateCmd + t.rateServo) * (4 * nsU : Nat) + t.carry

theorem TBase.advance_of_no_slew {t : TBase} (h : t.slew = none) (k : Nat) :
    t.advance k = { t with
      val := (((t.val + tickU k : Nat) + t.tickNum / (rateDen : Nat)) % (tbWrap : Nat)).toNat
      carry := t.tickNum % (rateDen : Nat) } := by
  simp only [TBase.advance, TBase.tickNum, h, add_zero]

/-- A tick is 0.8 ns, rounded down or up by less than 5 units. -/
theorem tickU_bounds (k : Nat) : 4 * nsU ≤ 5 * tickU k + 4 ∧ 5 * tickU k ≤ 4 * nsU + 20 := by
  unfold tickU nsU
  split <;> omega

/-- What the rates add in a tick is at most one part in 1,000 of 0.8 ns either way, and the unit that the carried remainder makes up. -/
theorem TBase.tickNum_div_bounds {t : TBase} (h0 : 0 ≤ t.carry) (h1 : t.carry < rateDen) :
    5 * (1000 * (t.tickNum / (rateDen : Nat))) < 4 * nsU + 5000 ∧ -(4 * nsU + 5000 : Int) < 5 * (1000 * (t.tickNum / (rateDen : Nat))) := by
  have hclamp : (clampZ (-rateLimit) rateLimit (t.rateCmd + t.rateServo)).natAbs ≤ 1000000000000 := clampZ_natAbs_le _ _
  simp only [TBase.tickNum, rateDen, nsU] at h1 ⊢
  generalize clampZ (-rateLimit) rateLimit (t.rateCmd + t.rateServo) = r at hclamp
  omega

/-- Short of the wrap, one tick raises the value by the tick and what the rates add. -/
theorem TBase.advance_val {t : TBase} (h : t.slew = none) (k : Nat) (h0 : 0 ≤ t.carry) (h1 : t.carry < rateDen)
    (hw : t.val + 2 * nsU ≤ tbWrap) : ((t.advance k).val : Int) = t.val + tickU k + t.tickNum / (rateDen : Nat) := by
  obtain ⟨hup, hdown⟩ := TBase.tickNum_div_bounds h0 h1
  obtain ⟨hlo, hhi⟩ := tickU_bounds k
  rw [TBase.advance_of_no_slew h]
  generalize t.tickNum / (rateDen : Nat) = q at hup hdown ⊢
  dsimp only
  have hns : nsU = 18446744073709551616 := rfl
  rw [Int.emod_eq_of_lt] <;> omega

/-- Settles O34: the three terms are clamped, and without a slew a tick adds 0.8 ns and the share of the clamped rate. -/
theorem rateBounded : Obligations.RateBounded := by
  refine ⟨TBase.rateTotal_natAbs_le, fun t k hslew h0 h1 hw => ?_⟩
  dsimp only
  have hval : ((t.advance k).val : Int) = t.val + tickU k + t.tickNum / (rateDen : Nat) := TBase.advance_val hslew k h0 h1 hw
  have hrec := TBase.advance_of_no_slew hslew k
  have hcarry : (t.advance k).carry = t.tickNum % (rateDen : Nat) := congrArg TBase.carry hrec
  have hden : (0 : Int) < (rateDen : Nat) := by decide
  obtain ⟨hup, hdown⟩ := TBase.tickNum_div_bounds h0 h1
  obtain ⟨hlo, hhi⟩ := tickU_bounds k
  have hns : nsU = 18446744073709551616 := rfl
  refine ⟨by omega, by omega, by omega, hcarry ▸ Int.emod_nonneg _ hden.ne', hcarry ▸ Int.emod_lt_of_pos _ hden, ?_⟩
  rw [hrec]

end Sys2Proof.Machine
end

section
/-! Time bases under commands (R245-R247): what a change of one leaves, the end of a slew, and a set or step as it acts. -/

namespace Sys2Proof.Machine

open Sys2Proof

/-! ### One time base changes -/

/-- A changed time base keeps its past, so it is never what an unlisted one reads as. -/
theorem TBase.since_ne_reset (t old : TBase) (at_ till k : Nat) : t.since old at_ till ≠ tbReset k := fun h =>
  List.cons_ne_nil _ _ (congrArg TBase.past h)

section
variable {s t : State} {n m : Nat}

theorem State.modTb_tb_self (s : State) (n : Nat) (f : TBase → TBase) :
    (s.modTb n f).tb n = (f (s.tb n)).since (s.tb n) s.clk.tick s.clk.tick :=
  Tab.get_put_self_of_ne _ _ _ (TBase.since_ne_reset _ _ _ _ _)

theorem State.modTb_tb_ne (f : TBase → TBase) (h : m ≠ n) : (s.modTb n f).tb m = s.tb m := Tab.get_put_ne _ _ _ h

theorem State.modTb_keeps (s : State) (n : Nat) (f : TBase → TBase) : (s.modTb n f).keeps s [.tbs] := by
  intro q hq
  cases q <;> simp [Part.same, State.modTb] at hq ⊢

theorem State.setServo_keeps (s : State) (n : Nat) (v : Servo) : (s.setServo n v).keeps s [.ptp] := by
  intro q hq
  cases q <;> simp [Part.same] at hq ⊢

theorem State.tb_congr (h : t.tbs = s.tbs) (n : Nat) : t.tb n = s.tb n := by rw [State.tb, h, State.tb]

@[simp] theorem State.accepted_tb (s : State) (op : Nat) (p : Pkt) (n : Nat) : (s.accepted op p).tb n = s.tb n :=
  State.tb_congr (s.accepted_tbs op p) n

theorem Completed.tb (h : Completed t s) (n : Nat) : t.tb n = s.tb n := by
  obtain ⟨_, _, _, _, _, _, _, _, _, _, rfl⟩ := h
  rfl

/-! ### The end of a slew (R247) -/

theorem State.endSlew_of_none (h : (s.tb n).slew = none) : s.endSlew n = s := by
  rw [State.endSlew, h]

/-- The reply to the command of a slew that ends (R277). -/
def slewEnded (n : Nat) (rem : Int) : Work → Option Rpl
  | .slew tb off m => if tb = n then some (okRpl (slewReply tb off m rem)) else none
  | _ => none

theorem State.endSlew_of_some {x : Slew} (h : (s.tb n).slew = some x) :
    s.endSlew n = (s.modTb n (fun t => { t with slew := none })).completeWhere (slewEnded n x.rem) := by
  rw [State.endSlew, h]
  refine congrArg (State.completeWhere _) (funext fun w => ?_)
  cases w <;> rfl

/-- Of commands that no pair mirrors, those that complete leave, and the others stay. -/
theorem State.completeWhere_jobs (f : Work → Option Rpl) (h : ∀ j ∈ s.axg.jobs, j.ctx.mirrored = false) :
    (s.completeWhere f).axg.jobs = s.axg.jobs.filter (fun j => (f j.work).isNone) := by
  unfold State.completeWhere
  refine List.foldlRecOn (motive := fun u : State => u.axg.jobs = s.axg.jobs.filter (fun j => (f j.work).isNone)) _ _ rfl fun u hu d hd => ?_
  obtain ⟨j, hj, hjd⟩ := List.mem_filterMap.mp hd
  obtain ⟨r, -, rfl⟩ := Option.map_eq_some_iff.mp hjd
  exact (u.complete_replied r (h j hj)).jobs.trans hu

theorem State.endSlew_tb_self {x : Slew} (h : (s.tb n).slew = some x) :
    (s.endSlew n).tb n = ({ s.tb n with slew := none }).since (s.tb n) s.clk.tick s.clk.tick := by
  rw [State.endSlew_of_some h, (State.completeWhere_completed _ _).tb, State.modTb_tb_self]

theorem State.endSlew_tb_ne (h : m ≠ n) : (s.endSlew n).tb m = s.tb m := by
  cases hx : (s.tb n).slew with
  | none => rw [State.endSlew_of_none hx]
  | some x => rw [State.endSlew_of_some hx, (State.completeWhere_completed _ _).tb, State.modTb_tb_ne _ h]

/-- No command waits for a slew that has ended. -/
theorem State.endSlew_jobs {x : Slew} (h : (s.tb n).slew = some x) (hm : ∀ j ∈ s.axg.jobs, j.ctx.mirrored = false) :
    ∀ j ∈ (s.endSlew n).axg.jobs, ∀ o m, j.work ≠ .slew n o m := by
  intro j hj o m hw
  have hjobs : (s.endSlew n).axg.jobs = s.axg.jobs.filter (fun j => (slewEnded n x.rem j.work).isNone) := by
    rw [State.endSlew_of_some h]
    exact State.completeWhere_jobs _ hm
  rw [hjobs, List.mem_filter, hw] at hj
  simp [slewEnded] at hj

theorem slewComplete_ends {x : Slew} (h : (s.tb n).slew = some x) (hr : x.rem = 0) : slewComplete n s = s.endSlew n := by
  simp only [slewComplete, h, hr, if_true]

theorem slewComplete_goes_on {x : Slew} (h : (s.tb n).slew = some x) (hr : x.rem ≠ 0) : slewComplete n s = s := by
  simp only [slewComplete, h, hr, if_false]

theorem slewComplete_none (h : (s.tb n).slew = none) : slewComplete n s = s := by
  simp only [slewComplete, h]

/-- The row on a time base that does not exist, or whose slew changes nothing. -/
theorem exec_slewComplete_self (h : 8 ≤ n ∨ slewComplete n s = s) : exec (.slewComplete n) s = .next s := by
  refine congrArg Host.Outcome.next ?_
  rw [onIdx]
  split
  next hn => exact h.resolve_left (by omega)
  next => rfl

/-! ### A set or step acts (R245, R297) -/

/-- What a commanded set or step leaves of the time bases, where the one it names has no slew: that one set, the others as they were. -/
def SetTo (n v : Nat) (t s : State) : Prop :=
  t.tb n = ((s.tb n).setTo v).since (s.tb n) s.clk.tick s.clk.tick ∧ ∀ m, m ≠ n → t.tb m = s.tb m

theorem State.commandTime_of_no_slew (h : (s.tb n).slew = none) (v : Nat) :
    s.commandTime n v = (s.modTb n (TBase.setTo v)).setServo n ((s.modTb n (TBase.setTo v)).servo n).stepped := by
  have hslew : ((s.modTb n (TBase.setTo v)).tb n).slew = none := by
    rw [State.modTb_tb_self]
    exact h
  simp only [State.commandTime, State.endSlew_of_none hslew]

theorem State.commandTime_setTo (h : (s.tb n).slew = none) (v : Nat) : SetTo n v (s.commandTime n v) s := by
  rw [State.commandTime_of_no_slew h]
  exact ⟨State.modTb_tb_self s n _, fun _ => State.modTb_tb_ne _⟩

theorem State.commandTime_keeps (h : (s.tb n).slew = none) (v : Nat) : (s.commandTime n v).keeps s [.tbs, .ptp] := by
  rw [State.commandTime_of_no_slew h]
  exact ((State.setServo_keeps _ _ _).mono (by simp)).trans ((s.modTb_keeps n _).mono (by simp))

theorem State.commandTime_jobs (h : (s.tb n).slew = none) (v : Nat) : (s.commandTime n v).axg.jobs = s.axg.jobs := by
  rw [State.commandTime_of_no_slew h]
  rfl

theorem SetTo.completed {u : State} {v : Nat} (h : SetTo n v t s) (hu : Completed u t) : SetTo n v u s :=
  ⟨(hu.tb n).trans h.1, fun m hm => (hu.tb m).trans (h.2 m hm)⟩

/-- Acceptance leaves the time bases and TICK as they were. -/
theorem SetTo.of_accepted {op v : Nat} {p : Pkt} (h : SetTo n v t (s.accepted op p)) : SetTo n v t s := by
  simpa only [SetTo, State.accepted_tb, State.accepted_clk_tick] using h

/-! ### Scheduled actions (R246) -/

theorem applyDue_none (k : Nat) (h : s.findJob s.due = none) : applyDue k s = s := by
  cases k with
  | zero => rfl
  | succ k => rw [applyDue, h]

theorem scheduledDue_none (h : s.clk.tpUp = false ∨ ∀ j ∈ s.axg.jobs, s.due j.work = false) : scheduledDue s = s := by
  rw [scheduledDue]
  split
  next hup =>
    refine applyDue_none _ (List.find?_eq_none.mpr fun j hj => ?_)
    have hdue : ∀ j ∈ s.axg.jobs, s.due j.work = false := h.resolve_left (by simpa [State.tpUp] using hup)
    simp [hdue j hj]
  next => rfl

/-- The one command in progress, a TIME.SET that has fallen due, acts. -/
theorem scheduledDue_timeSet {c : Ctx} {v at_ : Nat} (hup : s.clk.tpUp = true)
    (hj : s.axg.jobs = [{ ctx := c, work := .timeSet n v at_ }]) (hdue : at_ ≤ (s.tb n).val) :
    scheduledDue s = ({ s with axg := { s.axg with jobs := [] } } : State).applySet c n true v := by
  have hfind : s.findJob s.due = some { ctx := c, work := .timeSet n v at_ } := by
    rw [State.findJob, hj]
    simp [State.due, hdue]
  rw [scheduledDue, if_pos (show s.tpUp = true from hup), hj, List.length_singleton, applyDue, hfind]
  simp only [hj, List.erase_cons_head, applyDue]

end

end Sys2Proof.Machine
end

section
/-! The TIME commands (R273-R278), and the statement on them with the scheduled actions and the end of a slew. -/

namespace Sys2Proof.Machine

open Sys2Proof

section
variable {s : State} {p : Pkt}

/-! ### The reads: TIME.GET and TIME.EPOCH (R273, R278) -/

theorem timeWords_length (v : Nat) : (timeWords v).length = 3 := rfl

theorem timeGet_answers (h : s.accepts 0x0400 (lenIs 1) p = true) :
    ∃ r, Answers (.timeGet p) s 0x0400 p (s.accepted 0x0400 p) r ∧ r.length = (if bit (wd p.words 0) 8 then 34 else 6) ∧
      wd r 0 = w32 (s.clk.tick / 2 ^ 32) ∧ wd r 1 = w32 s.clk.tick ∧
      (bit (wd p.words 0) 8 = false → (r.drop 2).take 3 = timeWords (s.tb (tbArg (wd p.words 0))).val) := by
  refine ⟨_, answers_of_body rfl h rfl, ?_, ?_, ?_, fun hone => ?_⟩
  · split <;> simp [timeWords_length, *]
  · rw [← s.accepted_clk_tick 0x0400 p]
    rfl
  · rw [← s.accepted_clk_tick 0x0400 p]
    rfl
  · rw [hone, ← s.accepted_tb 0x0400 p]
    rfl

theorem timeEpoch_answers (h : s.accepts 0x0405 (lenIs 1) p = true) :
    ∃ r, Answers (.timeEpoch p) s 0x0405 p (s.accepted 0x0405 p) r ∧ r.length = 4 ∧
      wd r 3 = w32 (s.tb (tbArg (wd p.words 0))).stepCount := by
  refine ⟨_, answers_of_body rfl h rfl, rfl, ?_⟩
  rw [← s.accepted_tb 0x0405 p]
  rfl

/-! ### TIME.SET and TIME.STEP (R245, R246, R274, R276) -/

theorem timeSet_answers (h : s.accepts 0x0401 (lenIs 7) p = true) (hat : bit (wd p.words 0) 8 = false)
    (hslew : (s.tb (tbArg (wd p.words 0))).slew = none) :
    Answers (.timeSet p) s 0x0401 p ((s.accepted 0x0401 p).commandTime (tbArg (wd p.words 0)) (timeArg p.words 1))
        (timeSetWords (tbArg (wd p.words 0)) false (timeArg p.words 1) (s.tb (tbArg (wd p.words 0))).val) ∧
      SetTo (tbArg (wd p.words 0)) (timeArg p.words 1) ((s.accepted 0x0401 p).commandTime (tbArg (wd p.words 0)) (timeArg p.words 1)) s ∧
      ((s.accepted 0x0401 p).commandTime (tbArg (wd p.words 0)) (timeArg p.words 1)).keeps (s.accepted 0x0401 p) [.tbs, .ptp] := by
  rw [← s.accepted_tb 0x0401 p] at hslew ⊢
  exact ⟨answers_of_body rfl h (if_pos hat), (State.commandTime_setTo hslew _).of_accepted, State.commandTime_keeps hslew _⟩

theorem timeSet_late (h : s.accepts 0x0401 (lenIs 7) p = true) (hat : bit (wd p.words 0) 8 = true)
    (hpast : timeArg p.words 4 ≤ (s.tb (tbArg (wd p.words 0))).val) :
    exec (.timeSet p) s = .next (((s.accepted 0x0401 p).log .timing 0x0107 (srcOf 4 (tbArg (wd p.words 0)))
      (pack [(0, 0x0401), (16, p.tag)]) 0 0).complete (s.ctxOf 0x0401 p)
      ⟨0x0060, 0, timeSetWords (tbArg (wd p.words 0)) true (timeArg p.words 1) (s.tb (tbArg (wd p.words 0))).val, []⟩) := by
  rw [← s.accepted_tb 0x0401 p] at hpast ⊢
  refine congrArg Host.Outcome.next ((receive_accepted bodyTimeSet h).trans ?_)
  rw [bodyTimeSet, if_neg (by simp [hat]), if_pos hpast]
  rfl

theorem timeSet_waits (h : s.accepts 0x0401 (lenIs 7) p = true) (hat : bit (wd p.words 0) 8 = true)
    (hlater : (s.tb (tbArg (wd p.words 0))).val < timeArg p.words 4) :
    exec (.timeSet p) s = .next ((s.accepted 0x0401 p).hold (s.ctxOf 0x0401 p)
      (.timeSet (tbArg (wd p.words 0)) (timeArg p.words 1) (timeArg p.words 4))) := by
  rw [← s.accepted_tb 0x0401 p] at hlater
  refine congrArg Host.Outcome.next ((receive_accepted bodyTimeSet h).trans ?_)
  exact (if_neg (by simp [hat])).trans (if_neg (Nat.not_le.mpr hlater))

theorem timeStep_answers (h : s.accepts 0x0403 (lenIs 6) p = true) (hat : bit (wd p.words 0) 8 = false)
    (hslew : (s.tb (tbArg (wd p.words 0))).slew = none) :
    ∃ u r, Answers (.timeStep p) s 0x0403 p u r ∧ r.length = 6 ∧
      SetTo (tbArg (wd p.words 0)) (stepTo (s.tb (tbArg (wd p.words 0))).val (s64Arg p.words 1 * (fracU : Nat))) u s ∧
      u.keeps (s.accepted 0x0403 p) [.tbs, .ptp] := by
  rw [← s.accepted_tb 0x0403 p] at hslew ⊢
  exact ⟨_, _, answers_of_body rfl h (if_pos hat), rfl, (State.commandTime_setTo hslew _).of_accepted, State.commandTime_keeps hslew _⟩

theorem timeStep_waits (h : s.accepts 0x0403 (lenIs 6) p = true) (hat : bit (wd p.words 0) 8 = true)
    (hlater : (s.tb (tbArg (wd p.words 0))).val < timeArg p.words 3) :
    exec (.timeStep p) s = .next ((s.accepted 0x0403 p).hold (s.ctxOf 0x0403 p)
      (.timeStep (tbArg (wd p.words 0)) (s64Arg p.words 1) (timeArg p.words 3))) := by
  rw [← s.accepted_tb 0x0403 p] at hlater
  refine congrArg Host.Outcome.next ((receive_accepted bodyTimeStep h).trans ?_)
  exact (if_neg (by simp [hat])).trans (if_neg (Nat.not_le.mpr hlater))

/-! ### TIME.ADJ_RATE and TIME.SLEW (R275, R277) -/

/-- The rate of a command, clamped (R243, R275). -/
def TBase.withRateCmd (r : Int) (t : TBase) : TBase := { t with rateCmd := clampZ (-500000000000) 500000000000 r }

/-- The reply words of TIME.ADJ_RATE with WRITE 1 (R275). -/
def adjRateWords (n : Nat) (t : TBase) : List Word :=
  [pack [(31, 1), (0, n)], i32 (t.rateCmd / 2 ^ 32), i32 t.rateCmd, i32 (t.rateTotal / 2 ^ 32), i32 t.rateTotal]

theorem bodyAdjRate_write (c : Ctx) {ws : List Word} (t : State) (hw : bit (wd ws 0) 31 = true) :
    bodyAdjRate c ws t = (t.modTb (tbArg (wd ws 0)) (TBase.withRateCmd (s64Arg ws 1))).ok c
      (adjRateWords (tbArg (wd ws 0)) ((t.modTb (tbArg (wd ws 0)) (TBase.withRateCmd (s64Arg ws 1))).tb (tbArg (wd ws 0)))) := by
  simp only [bodyAdjRate, hw, if_true]
  rfl

theorem timeAdjRate_answers (h : s.accepts 0x0402 (lenIs 3) p = true) (hw : bit (wd p.words 0) 31 = true) :
    ∃ u r, Answers (.timeAdjRate p) s 0x0402 p u r ∧ r.length = 5 ∧
      u.tb (tbArg (wd p.words 0)) = ((s.tb (tbArg (wd p.words 0))).withRateCmd (s64Arg p.words 1)).since (s.tb (tbArg (wd p.words 0)))
        s.clk.tick s.clk.tick ∧
      (∀ m, m ≠ tbArg (wd p.words 0) → u.tb m = s.tb m) ∧ u.keeps (s.accepted 0x0402 p) [.tbs] := by
  refine ⟨_, _, answers_of_body rfl h (bodyAdjRate_write _ _ hw), rfl, ?_, fun m hm => ?_, State.modTb_keeps _ _ _⟩
  · rw [State.modTb_tb_self, State.accepted_tb, State.accepted_clk_tick]
  · rw [State.modTb_tb_ne _ hm, State.accepted_tb]

theorem timeSlew_waits (h : s.accepts 0x0404 (lenIs 4) p = true) (hoff : s64Arg p.words 1 ≠ 0)
    (hslew : (s.tb (tbArg (wd p.words 0))).slew = none) :
    exec (.timeSlew p) s = .next (((s.accepted 0x0404 p).modTb (tbArg (wd p.words 0)) (fun t => { t with
      slew := some { rem := s64Arg p.words 1 * (fracU : Nat), max := clamp 1000 500000000 (wd p.words 3).toNat } })).hold (s.ctxOf 0x0404 p)
        (.slew (tbArg (wd p.words 0)) (s64Arg p.words 1) (clamp 1000 500000000 (wd p.words 3).toNat))) := by
  rw [← s.accepted_tb 0x0404 p] at hslew
  refine congrArg Host.Outcome.next ((receive_accepted bodyTimeSlew h).trans ?_)
  simp only [bodyTimeSlew, State.endSlew_of_none hslew, if_neg hoff]

end

/-! ### The rows of time (R246, R247) -/

section
variable {s : State} {n : Nat}

theorem scheduledActionDue_sets {c : Ctx} {v at_ : Nat} (hup : s.clk.tpUp = true)
    (hj : s.axg.jobs = [{ ctx := c, work := .timeSet n v at_ }]) (hdue : at_ ≤ (s.tb n).val) (hm : c.mirrored = false)
    (hslew : (s.tb n).slew = none) : Completes .scheduledActionDue s (fun t => t.axg.jobs = [] ∧ SetTo n v t s) := by
  let u : State := { s with axg := { s.axg with jobs := [] } }
  have hslew' : (u.tb n).slew = none := hslew
  have hreply : Replied (u.applySet c n true v) (u.commandTime n v) := State.complete_replied _ _ hm
  have hset : SetTo n v (u.commandTime n v) s := State.commandTime_setTo hslew' v
  exact ⟨_, congrArg Host.Outcome.next (scheduledDue_timeSet hup hj hdue), hreply.jobs.trans (State.commandTime_jobs hslew' v),
    hset.completed hreply.completed⟩

theorem slewComplete_completes {x : Slew} (hn : n < 8) (hx : (s.tb n).slew = some x) (hr : x.rem = 0)
    (hm : ∀ j ∈ s.axg.jobs, j.ctx.mirrored = false) : Completes (.slewComplete n) s (fun t =>
      t.tb n = ({ s.tb n with slew := none }).since (s.tb n) s.clk.tick s.clk.tick ∧ (∀ m, m ≠ n → t.tb m = s.tb m) ∧
      ∀ j ∈ t.axg.jobs, ∀ o m, j.work ≠ .slew n o m) :=
  ⟨s.endSlew n, congrArg Host.Outcome.next ((if_pos hn).trans (slewComplete_ends hx hr)), State.endSlew_tb_self hx,
    fun _ => State.endSlew_tb_ne, State.endSlew_jobs hx hm⟩

end

/-- Settles O33: each command by its body on the state that acceptance leaves, a scheduled set by the one command that waits, a slew by what
it has left to add. -/
theorem timeCommands : Obligations.TimeCommands := by
  refine ⟨fun s p h => timeGet_answers h, fun s p h hat hslew => ?_, fun s p h hat => ⟨timeSet_late h hat, timeSet_waits h hat⟩,
    fun s p h hw => timeAdjRate_answers h hw, fun s p h hat hslew => ?_, fun s p h hat => timeStep_waits h hat,
    fun s p h hoff hslew => timeSlew_waits h hoff hslew, fun s p h => timeEpoch_answers h, fun s c n v at_ hup hj hdue hm hslew => ?_, fun s h => ?_,
    fun s n x hn hx hr hm => slewComplete_completes hn hx hr hm, fun s n x hx hr => ?_, fun s n h => ?_⟩
  · obtain ⟨hans, ⟨hself, hothers⟩, hkeeps⟩ := timeSet_answers h hat hslew
    exact ⟨_, hans, hself, hothers, hkeeps⟩
  · obtain ⟨u, r, hans, hlen, ⟨hself, hothers⟩, hkeeps⟩ := timeStep_answers h hat hslew
    exact ⟨u, r, hans, hlen, hself, hothers, hkeeps⟩
  · exact scheduledActionDue_sets hup hj hdue hm hslew
  · exact congrArg Host.Outcome.next (scheduledDue_none h)
  · exact exec_slewComplete_self (.inr (slewComplete_goes_on hx hr))
  · exact exec_slewComplete_self (h.symm.imp_right slewComplete_none)

end Sys2Proof.Machine
end

section
/-! One tick of the time bases (R241, R242): in a table of rising keys each that has no slew moves on by its rates; why the statement TickMoves,
which does not ask for that form, fails. -/

namespace Sys2Proof.Machine

open Sys2Proof

section
variable {s t : State} {n m : Nat}

/-! ### What is beside the time bases -/

/-- The end of a slew for which no command waits changes its time base only. -/
theorem State.endSlew_tbs (s : State) (n : Nat) (hj : s.axg.jobs = []) : ∃ l, s.endSlew n = { s with tbs := l } := by
  cases h : (s.tb n).slew with
  | none => exact ⟨_, State.endSlew_of_none h⟩
  | some x =>
    refine ⟨_, (State.endSlew_of_some h).trans (State.completeWhere_none _ _ ?_)⟩
    exact hj.symm ▸ List.forall_mem_nil _

theorem State.endSlew_sorted (h : Tab.sorted s.tbs = true) (n : Nat) : Tab.sorted (s.endSlew n).tbs = true := by
  cases hx : (s.tb n).slew with
  | none => rwa [State.endSlew_of_none hx]
  | some x =>
    obtain ⟨_, _, _, _, _, _, _, _, _, _, hc⟩ := (s.modTb n (fun t => { t with slew := none })).completeWhere_completed (slewEnded n x.rem)
    rw [State.endSlew_of_some hx, hc]
    exact Tab.sorted_put _ _ h

theorem State.tickComparison_tbs (s : State) : s.tickComparison.tbs = s.tbs := by
  unfold State.tickComparison State.comparison
  (repeat' split) <;> rfl

theorem State.endAlign_tbs (s : State) (k : Nat) (aligned : Bool) : (s.endAlign k aligned).tbs = s.tbs := by
  unfold State.endAlign State.hamReplies
  split
  · rfl
  · obtain ⟨_, _, _, _, _, _, _, _, _, _, hc⟩ := State.completeWhere_completed (State.mapWork _ _) _
    rw [hc]
    rfl

theorem State.tickHam_tbs (s : State) (k : Nat) : (s.tickHam k).tbs = s.tbs := by
  unfold State.tickHam
  dsimp only
  split
  · rfl
  split
  · split
    · rw [State.endAlign_tbs, State.setHam_tbs]
    · rw [State.setHam_tbs]
  · rw [State.setHam_tbs]

theorem State.tickHams_tbs (s : State) (l : List Nat) : (l.foldl State.tickHam s).tbs = s.tbs :=
  List.foldlRecOn (motive := fun u : State => u.tbs = s.tbs) l _ rfl fun u hu k _ => (u.tickHam_tbs k).trans hu

theorem State.restPhase_tb_ne (s : State) (h : n ≠ 0) : s.restPhase.tb n = s.tb n := by
  unfold State.restPhase
  split
  · exact State.modTb_tb_ne _ h
  · rfl

/-! ### One tick of the time bases (R242) -/

/-- What one tick of some time bases leaves, no command being in progress: their table still has rising keys, those without a slew have moved
on by their rates, and all else is as it was. -/
structure Ticked (l : List Nat) (t s : State) : Prop where
  frame : ∃ tbs, t = { s with tbs := tbs }
  sorted : Tab.sorted t.tbs = true
  others : ∀ m, m ∉ l → t.tb m = s.tb m
  advanced : ∀ m, m ∈ l → (s.tb m).slew = none → t.tb m = (s.tb m).advance s.clk.tick

theorem State.tickTb_of_no_slew (h : (s.tb n).slew = none) : s.tickTb n = s.setTb n ((s.tb n).advance s.clk.tick) := by
  have hnext : ((s.tb n).advance s.clk.tick).slew = none := by rw [TBase.advance_of_no_slew h, h]
  simp [State.tickTb, h, hnext]

/-- The tick of a time base is a write to it, which the end of its slew may follow. -/
theorem State.tickTb_put (s : State) (n : Nat) :
    ∃ x, s.tickTb n = s.setTb n x ∨ s.tickTb n = (s.setTb n x).endSlew n := by
  unfold State.tickTb
  extract_lets b b' done u
  split
  · exact ⟨_, .inr rfl⟩
  · exact ⟨_, .inl rfl⟩

theorem State.tickTb_ticked (hj : s.axg.jobs = []) (hs : Tab.sorted s.tbs = true) (n : Nat) : Ticked [n] (s.tickTb n) s := by
  have hself : ∀ m, m ∈ [n] → (s.tb m).slew = none → (s.tickTb n).tb m = (s.tb m).advance s.clk.tick := fun m hm hslew => by
    rw [List.mem_singleton] at hm
    subst hm
    rw [State.tickTb_of_no_slew hslew]
    exact Tab.get_put_self _ _ _ hs
  have hput (x : TBase) : Tab.sorted (s.setTb n x).tbs = true := Tab.sorted_put _ _ hs
  have hne (x : TBase) : ∀ m, m ∉ [n] → (s.setTb n x).tb m = s.tb m := fun m hm => Tab.get_put_ne _ _ _ (List.ne_of_not_mem_cons hm)
  obtain ⟨x, h | h⟩ := s.tickTb_put n
  · exact ⟨⟨_, h⟩, h ▸ hput x, h ▸ hne x, hself⟩
  · obtain ⟨tbs, hend⟩ := (s.setTb n x).endSlew_tbs n hj
    exact ⟨⟨tbs, h.trans hend⟩, h ▸ State.endSlew_sorted (hput x) n,
      fun m hm => h ▸ (State.endSlew_tb_ne (List.ne_of_not_mem_cons hm)).trans (hne x m hm), hself⟩

theorem Ticked.cons {u : State} {l : List Nat} (h : Ticked [n] t s) (k : Ticked l u t) (hn : n ∉ l) : Ticked (n :: l) u s := by
  obtain ⟨_, rfl⟩ := h.frame
  obtain ⟨_, rfl⟩ := k.frame
  refine ⟨⟨_, rfl⟩, k.sorted, fun m hm => ?_, fun m hm hslew => ?_⟩
  · rw [List.mem_cons, not_or] at hm
    exact (k.others m hm.2).trans (h.others m (by simpa using hm.1))
  · rcases List.mem_cons.mp hm with rfl | hm
    · exact (k.others m hn).trans (h.advanced m (List.mem_singleton_self m) hslew)
    · have hsame := h.others m (by simpa using fun e : m = n => hn (e ▸ hm))
      exact (k.advanced m hm (by rw [hsame, hslew])).trans (by rw [hsame])

theorem State.tickTbs_ticked (l : List Nat) (hl : l.Nodup) (hj : s.axg.jobs = []) (hs : Tab.sorted s.tbs = true) :
    Ticked l (l.foldl State.tickTb s) s := by
  induction l generalizing s with
  | nil => exact ⟨⟨s.tbs, rfl⟩, hs, fun _ _ => rfl, fun _ h => absurd h List.not_mem_nil⟩
  | cons n l ih =>
    obtain ⟨hn, hl⟩ := List.nodup_cons.mp hl
    have hone : Ticked [n] (s.tickTb n) s := State.tickTb_ticked hj hs n
    have hj' : (s.tickTb n).axg.jobs = [] := by
      obtain ⟨_, h⟩ := hone.frame
      rw [h, hj]
    exact hone.cons (ih hl hj' hone.sorted) hn

/-! ### The timing plane's tick (R241, R242) -/

/-- TickMoves on the time bases, given a table of rising keys: one without a slew, other than TB0, moves on by its rates. -/
theorem State.timingTick_tb (hup : s.clk.tpUp = true) (hj : s.axg.jobs = []) (h0 : 0 < n) (h8 : n < 8) (hslew : (s.tb n).slew = none)
    (hs : Tab.sorted s.tbs = true) : s.timingTick.tb n = (s.tb n).advance s.clk.tick := by
  have hticked : Ticked (List.range 8) ((List.range 8).foldl State.tickTb s.tickSteer) s.tickSteer :=
    State.tickTbs_ticked _ List.nodup_range hj hs
  have hnone : scheduledDue ((List.range 8).foldl State.tickTb s.tickSteer) = (List.range 8).foldl State.tickTb s.tickSteer := by
    obtain ⟨_, hframe⟩ := hticked.frame
    refine scheduledDue_none (.inr ?_)
    rw [hframe]
    exact hj.symm ▸ List.forall_mem_nil _
  rw [State.timingTick, if_neg (by simp [State.tpUp, hup]), hnone, State.tb_congr (State.tickHams_tbs _ _),
    State.restPhase_tb_ne _ h0.ne', State.tb_congr (State.tickComparison_tbs _)]
  exact hticked.advanced n (List.mem_range.mpr h8) hslew

end

/-! ### The obligation -/

/-- TB1 a tick before it wraps to 0, all else of it as at reset, in a table that lists it twice. -/
def timeBaseTwice : State :=
  { clk := { tpUp := true }
    tbs := [(1, { val := tbWrap - tickU 0 }), (1, { val := 5 })] }

/-- As TB1 comes to its reset value, its first entry leaves the table, and it reads as the second. -/
theorem timeBaseTwice_reads_second : (timeBaseTwice.timingTick.tb 1).val = 5 := by decide +kernel

theorem timeBaseTwice_wraps : ((timeBaseTwice.tb 1).advance timeBaseTwice.clk.tick).val = 0 := by decide +kernel

/-- Refutes O2: its clause on the time bases asks for no form of their table, and fails of one that lists a time base twice as its first entry
comes to the reset value. With a table of rising keys the clause holds (`State.timingTick_tb`). -/
theorem not_tickMoves : ¬ Obligations.TickMoves := by
  rintro ⟨-, -, -, -, htb⟩
  have hmoves : timeBaseTwice.timingTick.tb 1 = (timeBaseTwice.tb 1).advance timeBaseTwice.clk.tick :=
    htb timeBaseTwice 1 rfl rfl (by omega) (by omega) rfl
  have hval := timeBaseTwice_wraps
  rw [← hmoves, timeBaseTwice_reads_second] at hval
  exact absurd hval (by decide)

end Sys2Proof.Machine
end

section
/-! Timing sessions (R279-R297): what a change of one session, and what follows it at its servo or its packet reference, leaves of the other
sessions and of the rest of the part. -/

namespace Sys2Proof.Machine

open Sys2Proof

section
variable {s t u : State} {sid : Nat} {x : Session} {d e : Option Session}

/-! ### The session table -/

/-- The entry of one SID has become `e`, and those of the other SIDs are as they were. -/
def SessionTo (sid : Nat) (e : Option Session) (t s : State) : Prop := t.session? sid = e ∧ ∀ k, k ≠ sid → t.session? k = s.session? k

theorem SessionTo.trans (h : SessionTo sid e u t) (k : SessionTo sid d t s) : SessionTo sid e u s :=
  ⟨h.1, fun j hj => (h.2 j hj).trans (k.2 j hj)⟩

theorem State.session?_congr (h : t.ptp.sessions = s.ptp.sessions) (k : Nat) : t.session? k = s.session? k := by
  rw [State.session?, h, State.session?]

theorem SessionTo.of_sessions (h : SessionTo sid e t s) (hu : u.ptp.sessions = t.ptp.sessions) : SessionTo sid e u s :=
  ⟨(State.session?_congr hu sid).trans h.1, fun k hk => (State.session?_congr hu k).trans (h.2 k hk)⟩

theorem SessionTo.over (h : SessionTo sid e u t) (ht : t.ptp.sessions = s.ptp.sessions) : SessionTo sid e u s :=
  ⟨h.1, fun k hk => (h.2 k hk).trans (State.session?_congr ht k)⟩

theorem State.setSession_sessionTo (s : State) (sid : Nat) (x : Session) : SessionTo sid (some x) (s.setSession sid x) s :=
  ⟨Tab.find?_insert_self _ _ _, fun _ hk => Tab.find?_insert_ne _ _ hk⟩

theorem State.keeps.refl (s : State) (l : List Part) : s.keeps s l := fun q _ => by cases q <;> rfl

theorem State.setSession_keeps (s : State) (sid : Nat) (x : Session) : (s.setSession sid x).keeps s [.ptp] := by
  intro q hq
  cases q <;> simp [Part.same] at hq ⊢

theorem State.modRun_of_some (h : s.session? sid = some x) (f : SesRun → SesRun) :
    s.modRun sid f = s.setSession sid { x with run := f x.run } := by
  rw [State.modRun, h]

theorem State.modRun_sessionTo (h : s.session? sid = some x) (f : SesRun → SesRun) :
    SessionTo sid (some { x with run := f x.run }) (s.modRun sid f) s := by
  rw [State.modRun_of_some h]
  exact s.setSession_sessionTo sid _

theorem State.modRun_keeps (s : State) (sid : Nat) (f : SesRun → SesRun) : (s.modRun sid f).keeps s [.ptp] := by
  unfold State.modRun
  split
  · exact .refl s _
  · exact s.setSession_keeps sid _

/-! ### The servo and the packet reference follow a session (R291, R295, R297, R357) -/

theorem State.updateServo_sessions (s : State) (n : Nat) : (s.updateServo n).ptp.sessions = s.ptp.sessions := by
  unfold State.updateServo
  dsimp only
  (repeat' split) <;> rfl

theorem State.updateServo_keeps (s : State) (n : Nat) : (s.updateServo n).keeps s [.ptp, .tbs] := by
  have hset (v : Servo) (f : TBase → TBase) : ((s.setServo n v).modTb n f).keeps s [.ptp, .tbs] :=
    ((State.modTb_keeps _ n f).mono (by simp)).trans ((s.setServo_keeps n v).mono (by simp))
  unfold State.updateServo
  dsimp only
  split
  · exact .refl s _
  split
  · split
    · exact .refl s _
    · exact hset _ _
  split
  · exact .refl s _
  split
  · exact hset _ _
  · exact hset _ _

/-- What follows a session's change of state leaves every session as it is. -/
structure Followed (t s : State) : Prop where
  sessions : t.ptp.sessions = s.ptp.sessions
  keeps : t.keeps s [.ptp, .refs, .clk, .tbs, .cru, .buf]

theorem Followed.refl (s : State) : Followed s s := ⟨rfl, .refl s _⟩

theorem Referred.ptp (h : Referred t s) : t.ptp = s.ptp := by
  obtain ⟨_, _, _, _, _, rfl⟩ := h
  rfl

theorem Referred.followed (h : Referred t s) : Followed t s := ⟨congrArg Ptp.sessions h.ptp, h.keeps.mono (by simp)⟩

theorem State.updateServo_followed (s : State) (n : Nat) : Followed (s.updateServo n) s :=
  ⟨s.updateServo_sessions n, (s.updateServo_keeps n).mono (by simp)⟩

theorem State.refOn_referred (s : State) (k : Nat) : Referred (s.refOn k) s := ⟨_, _, _, _, _, rfl⟩

theorem State.refOff_referred (s : State) (k : Nat) : Referred (s.refOff k) s :=
  (State.checkTarget_referred _).trans ⟨_, _, _, _, _, rfl⟩

/-! ### A session changes state (R291) -/

/-- The session as it enters a state: the run of its samples ends, and what only other states keep is forgotten. -/
def Session.entering (x : Session) (n : SesSt) : Session :=
  { x with run := { x.run with
      st := n, run := 0, m3 := false,
      parent := if n = SesSt.uncalibrated ∨ n = SesSt.slave then x.run.parent else none,
      foreigns := if n = SesSt.down then [] else x.run.foreigns,
      sync := if n = SesSt.slave then x.run.sync else none } }

theorem State.sesTo_followed (h : s.session? sid = some x) (n : SesSt) :
    Followed (s.sesTo sid n) (s.setSession sid (x.entering n)) := by
  rw [State.sesTo, h]
  dsimp only
  split
  · exact .refl _
  split
  · split
    · exact (State.refOn_referred _ _).followed
    split
    · exact (State.refFail_referred _ _ _).followed
    · exact .refl _
  · exact State.updateServo_followed _ _

theorem State.sesTo_sessionTo (h : s.session? sid = some x) (n : SesSt) : SessionTo sid (some (x.entering n)) (s.sesTo sid n) s :=
  (s.setSession_sessionTo sid _).of_sessions (State.sesTo_followed h n).sessions

theorem State.sesTo_keeps (h : s.session? sid = some x) (n : SesSt) : (s.sesTo sid n).keeps s [.ptp, .refs, .clk, .tbs, .cru, .buf] :=
  (State.sesTo_followed h n).keeps.trans ((s.setSession_keeps sid _).mono (by simp))

/-! ### A session is deleted (R291, R297, R309) -/

/-- The state without the entry of a SID. -/
def State.dropSession (s : State) (sid : Nat) : State := { s with ptp := { s.ptp with sessions := Tab.erase s.ptp.sessions sid } }

theorem State.dropSession_sessionTo (hs : Tab.sorted s.ptp.sessions = true) : SessionTo sid none (s.dropSession sid) s :=
  ⟨Tab.find?_erase_self _ hs, fun _ hk => Tab.find?_erase_ne _ hk⟩

theorem State.deleteSession_of_none (h : s.session? sid = none) : s.deleteSession sid = s := by
  rw [State.deleteSession, h]

theorem State.deleteSession_followed (h : s.session? sid = some x) : Followed (s.deleteSession sid) (s.dropSession sid) := by
  rw [State.deleteSession, h]
  dsimp only
  split
  · exact .refl _
  split
  · exact (State.refOff_referred _ _).followed
  · exact State.updateServo_followed _ _

theorem State.deleteSession_sessionTo (hs : Tab.sorted s.ptp.sessions = true) (h : s.session? sid = some x) :
    SessionTo sid none (s.deleteSession sid) s :=
  (State.dropSession_sessionTo hs).of_sessions (State.deleteSession_followed h).sessions

end

end Sys2Proof.Machine
end

section
/-! The SESSION commands (R279-R282, R291, R308-R314): what the body of each stores and replies. -/

namespace Sys2Proof.Machine

open Sys2Proof

/-! ### Acceptance leaves the timing engine as it was -/

section
variable (s : State) (op : Nat) (p : Pkt)

@[simp] theorem State.accepted_session? (k : Nat) : (s.accepted op p).session? k = s.session? k :=
  State.session?_congr (by rw [State.accepted_ptp]) k

@[simp] theorem State.accepted_inst (n : Nat) : (s.accepted op p).inst n = s.inst n := by rw [State.inst, State.accepted_ptp, State.inst]

@[simp] theorem State.accepted_esmc (k : Nat) : (s.accepted op p).esmc k = s.esmc k := by rw [State.esmc, State.accepted_ptp, State.esmc]

@[simp] theorem State.accepted_createReason (sid : Nat) (e : SesCfg) : (s.accepted op p).createReason sid e = s.createReason sid e := by
  rw [State.createReason, State.accepted_ptp, State.createReason]

end

theorem SessionTo.of_accepted {s t : State} {sid op : Nat} {e : Option Session} {p : Pkt} (h : SessionTo sid e t (s.accepted op p)) :
    SessionTo sid e t s := h.over (by rw [State.accepted_ptp])

section
variable {s : State} {p : Pkt}

/-! ### SESSION.CREATE (R279-R282, R308) -/

theorem bodySesCreate_refused (c : Ctx) {ws : List Word} {t : State}
    (h : t.createReason (fld (wd ws 0) 9 0) (sesCfgOf ws) ≠ 0 ∨ t.portExists (sesCfgOf ws).port = false) :
    bodySesCreate c ws t = t.ok c ((sesCfgOf ws).toWords (fld (wd ws 0) 9 0) false ++
      [pack [(0, 0), (1, 0), (2, t.createReason (fld (wd ws 0) 9 0) (sesCfgOf ws))]]) := by
  have hcan : (decide (t.createReason (fld (wd ws 0) 9 0) (sesCfgOf ws) = 0) && t.portExists (sesCfgOf ws).port) = false := by
    rcases h with h | h <;> simp [h]
  simp [bodySesCreate, hcan]

/-- The state with a session just created, whose servo counts it. -/
def State.created (s : State) (sid : Nat) (e : SesCfg) : State :=
  if e.role < 3 then (s.setSession sid { cfg := e }).updateServo e.tb else s.setSession sid { cfg := e }

theorem bodySesCreate_created (c : Ctx) {ws : List Word} {t : State} (hr : t.createReason (fld (wd ws 0) 9 0) (sesCfgOf ws) = 0)
    (hp : t.portExists (sesCfgOf ws).port = true) (hfree : t.session? (fld (wd ws 0) 9 0) = none) (hup : (t.port (sesCfgOf ws).port).st ≠ .up) :
    bodySesCreate c ws t = (t.created (fld (wd ws 0) 9 0) (sesCfgOf ws)).ok c
      ((sesCfgOf ws).toWords (fld (wd ws 0) 9 0) false ++ [pack [(0, 1), (1, 0), (2, 0)]]) := by
  have hup' : ((t.setSession (fld (wd ws 0) 9 0) { cfg := sesCfgOf ws }).port (sesCfgOf ws).port).st ≠ .up := hup
  simp [bodySesCreate, hr, hp, hfree, State.deleteSession_of_none hfree, hup', State.created]

theorem State.created_sessionTo (t : State) (sid : Nat) (e : SesCfg) : SessionTo sid (some { cfg := e }) (t.created sid e) t := by
  unfold State.created
  split
  · exact (t.setSession_sessionTo sid _).of_sessions (State.updateServo_sessions _ _)
  · exact t.setSession_sessionTo sid _

theorem State.created_keeps (t : State) (sid : Nat) (e : SesCfg) : (t.created sid e).keeps t [.ptp, .tbs] := by
  have hset : (t.setSession sid { cfg := e }).keeps t [.ptp, .tbs] := (t.setSession_keeps sid _).mono (by simp)
  unfold State.created
  split
  · exact (State.updateServo_keeps _ _).trans hset
  · exact hset

theorem sessionCreate_refused (h : s.accepts 0x0440 (lenIs 9) p = true)
    (hno : s.createReason (fld (wd p.words 0) 9 0) (sesCfgOf p.words) ≠ 0 ∨ s.portExists (sesCfgOf p.words).port = false) :
    Answers (.sessionCreate p) s 0x0440 p (s.accepted 0x0440 p) ((sesCfgOf p.words).toWords (fld (wd p.words 0) 9 0) false ++
      [pack [(0, 0), (1, 0), (2, s.createReason (fld (wd p.words 0) 9 0) (sesCfgOf p.words))]]) := by
  rw [← s.accepted_createReason 0x0440 p] at hno ⊢
  rw [← s.accepted_portExists 0x0440 p] at hno
  exact answers_of_body rfl h (bodySesCreate_refused _ hno)

theorem sessionCreate_created (h : s.accepts 0x0440 (lenIs 9) p = true)
    (hr : s.createReason (fld (wd p.words 0) 9 0) (sesCfgOf p.words) = 0) (hp : s.portExists (sesCfgOf p.words).port = true)
    (hfree : s.session? (fld (wd p.words 0) 9 0) = none) (hup : (s.port (sesCfgOf p.words).port).st ≠ .up) :
    Answers (.sessionCreate p) s 0x0440 p ((s.accepted 0x0440 p).created (fld (wd p.words 0) 9 0) (sesCfgOf p.words))
      ((sesCfgOf p.words).toWords (fld (wd p.words 0) 9 0) false ++ [pack [(0, 1), (1, 0), (2, 0)]]) := by
  rw [← s.accepted_createReason 0x0440 p] at hr
  rw [← s.accepted_portExists 0x0440 p] at hp
  rw [← s.accepted_session? 0x0440 p] at hfree
  rw [← s.accepted_port 0x0440 p] at hup
  exact answers_of_body rfl h (bodySesCreate_created _ hr hp hfree hup)

/-! ### SESSION.DELETE (R309) -/

/-- Of a table in order at most one entry has a key. -/
theorem Tab.filter_key {α : Type} {t : Tab α} (h : Tab.sorted t = true) (k : Nat) :
    t.filter (fun e => decide (e.1 = k)) = (Tab.find? t k).toList.map (fun v => (k, v)) := by
  induction t with
  | nil => rfl
  | cons e t ih =>
    obtain ⟨a, v⟩ := e
    obtain ⟨hlt, ht⟩ := Tab.sorted_cons.1 h
    rw [List.filter_cons, ih ht]
    by_cases ha : a = k
    · subst ha
      simp [Tab.find?, Tab.find?_none_of_lt hlt]
    · simp [Tab.find?, ha]

/-- SESSION.DELETE of one SID. -/
theorem bodySesDelete_one (c : Ctx) {ws : List Word} {t : State} (h24 : bit (wd ws 0) 24 = false) (h25 : bit (wd ws 0) 25 = false)
    (hs : Tab.sorted t.ptp.sessions = true) :
    bodySesDelete c ws t =
      (t.deleteSession (fld (wd ws 0) 9 0)).ok c [w32 (if (t.session? (fld (wd ws 0) 9 0)).isSome then 1 else 0)] := by
  have hgone : t.ptp.sessions.filter (fun e => decide (e.1 = fld (wd ws 0) 9 0)) =
      (t.session? (fld (wd ws 0) 9 0)).toList.map (fun x => (fld (wd ws 0) 9 0, x)) := Tab.filter_key hs _
  simp only [bodySesDelete, h24, h25, Bool.false_or, Bool.false_eq_true, if_false, hgone]
  cases hx : t.session? (fld (wd ws 0) 9 0) with
  | none => simp [State.deleteSession_of_none hx]
  | some x => simp

theorem sessionDelete_none (h : s.accepts 0x0441 (lenIs 1) p = true) (h24 : bit (wd p.words 0) 24 = false) (h25 : bit (wd p.words 0) 25 = false)
    (hs : Tab.sorted s.ptp.sessions = true) (hno : s.session? (fld (wd p.words 0) 9 0) = none) :
    Answers (.sessionDelete p) s 0x0441 p (s.accepted 0x0441 p) [0] := by
  rw [← s.accepted_ptp 0x0441 p] at hs
  rw [← s.accepted_session? 0x0441 p] at hno
  have hb := bodySesDelete_one (s.ctxOf 0x0441 p) h24 h25 hs
  rw [State.deleteSession_of_none hno, hno] at hb
  exact answers_of_body rfl h hb

theorem sessionDelete_some (h : s.accepts 0x0441 (lenIs 1) p = true) (h24 : bit (wd p.words 0) 24 = false) (h25 : bit (wd p.words 0) 25 = false)
    (hs : Tab.sorted s.ptp.sessions = true) (hsome : s.session? (fld (wd p.words 0) 9 0) ≠ none) :
    Answers (.sessionDelete p) s 0x0441 p ((s.accepted 0x0441 p).deleteSession (fld (wd p.words 0) 9 0)) [1] ∧
      SessionTo (fld (wd p.words 0) 9 0) none ((s.accepted 0x0441 p).deleteSession (fld (wd p.words 0) 9 0)) s := by
  obtain ⟨x, hx⟩ := Option.ne_none_iff_exists'.mp hsome
  rw [← s.accepted_ptp 0x0441 p] at hs
  rw [← s.accepted_session? 0x0441 p] at hx
  have hb := bodySesDelete_one (s.ctxOf 0x0441 p) h24 h25 hs
  rw [hx] at hb
  exact ⟨answers_of_body rfl h hb, (State.deleteSession_sessionTo hs hx).of_accepted⟩

/-! ### SESSION.READ and SESSION.STATUS (R310, R311) -/

/-- The entry of a SID as SESSION.READ replies it (R310). -/
def sesReadWords (sid : Nat) : Option Session → List Word
  | some x => x.cfg.toWords sid true
  | none => w32 sid :: List.replicate 8 0

theorem bodySesRead_reply (c : Ctx) (ws : List Word) (t : State) :
    bodySesRead c ws t = t.ok c (sesReadWords (fld (wd ws 0) 9 0) (t.session? (fld (wd ws 0) 9 0))) := by
  unfold bodySesRead
  dsimp only
  split
  next x hx => rw [hx, sesReadWords]
  next hx => rw [hx, sesReadWords]

theorem sessionRead_answers (h : s.accepts 0x0442 (lenIs 1) p = true) :
    Answers (.sessionRead p) s 0x0442 p (s.accepted 0x0442 p) (sesReadWords (fld (wd p.words 0) 9 0) (s.session? (fld (wd p.words 0) 9 0))) := by
  rw [← s.accepted_session? 0x0442 p]
  exact answers_of_body rfl h (bodySesRead_reply _ _ _)

theorem bodySesStatus_reply (c : Ctx) (ws : List Word) (t : State) : ∃ r, bodySesStatus c ws t = t.ok c r ∧ r.length = 16 := by
  unfold bodySesStatus
  dsimp only
  split
  · exact ⟨_, rfl, rfl⟩
  · exact ⟨_, rfl, rfl⟩

/-! ### SESSION.SERVO (R312) -/

/-- The state with the parameters of one clock. -/
def State.setInst (s : State) (n : Nat) (i : Inst) : State := { s with ptp := { s.ptp with insts := Tab.put instReset s.ptp.insts n i } }

theorem State.setInst_inst_self {t : State} (h : Tab.sorted t.ptp.insts = true) (n : Nat) (i : Inst) : (t.setInst n i).inst n = i :=
  Tab.get_put_self _ _ _ h

theorem State.setInst_inst_ne (t : State) {n m : Nat} (i : Inst) (h : m ≠ n) : (t.setInst n i).inst m = t.inst m := Tab.get_put_ne _ _ _ h

theorem State.setInst_keeps (t : State) (n : Nat) (i : Inst) : (t.setInst n i).keeps t [.ptp] := by
  intro q hq
  cases q <;> simp [Part.same, State.setInst] at hq ⊢

/-- SESSION.SERVO stores what its words spell when WRITE is 1, and replies with eleven words. -/
theorem bodySesServo_reply (c : Ctx) (ws : List Word) (t : State) :
    ∃ r, bodySesServo c ws t =
      (if bit (wd ws 0) 31 then t.setInst (tbArg (wd ws 0)) (instOf (tbArg (wd ws 0)) ws (t.inst (tbArg (wd ws 0)))) else t).ok c r ∧
        r.length = 11 := by
  cases hw : bit (wd ws 0) 31 with
  | false =>
    simp only [bodySesServo, hw, Bool.false_eq_true, if_false]
    exact ⟨_, rfl, by split <;> rfl⟩
  | true =>
    simp only [bodySesServo, hw, if_true]
    exact ⟨_, rfl, by split <;> rfl⟩

theorem sessionServo_read (h : s.accepts 0x0444 (lenIs 10) p = true) (hw : bit (wd p.words 0) 31 = false) :
    ∃ r, Answers (.sessionServo p) s 0x0444 p (s.accepted 0x0444 p) r ∧ r.length = 11 := by
  obtain ⟨r, hb, hr⟩ := bodySesServo_reply (s.ctxOf 0x0444 p) p.words (s.accepted 0x0444 p)
  rw [hw] at hb
  exact ⟨r, answers_of_body rfl h hb, hr⟩

theorem sessionServo_write (h : s.accepts 0x0444 (lenIs 10) p = true) (hw : bit (wd p.words 0) 31 = true)
    (hs : Tab.sorted s.ptp.insts = true) :
    ∃ u r, Answers (.sessionServo p) s 0x0444 p u r ∧ r.length = 11 ∧
      u.inst (tbArg (wd p.words 0)) = instOf (tbArg (wd p.words 0)) p.words (s.inst (tbArg (wd p.words 0))) ∧
      (∀ m, m ≠ tbArg (wd p.words 0) → u.inst m = s.inst m) ∧ u.keeps (s.accepted 0x0444 p) [.ptp] := by
  obtain ⟨r, hb, hr⟩ := bodySesServo_reply (s.ctxOf 0x0444 p) p.words (s.accepted 0x0444 p)
  rw [hw] at hb
  rw [← s.accepted_ptp 0x0444 p] at hs
  refine ⟨_, r, answers_of_body rfl h hb, hr, ?_, fun m hm => ?_, State.setInst_keeps _ _ _⟩
  · rw [← s.accepted_inst 0x0444 p]
    exact State.setInst_inst_self hs _ _
  · rw [← s.accepted_inst 0x0444 p]
    exact State.setInst_inst_ne _ _ hm

/-! ### SESSION.KEY (R269, R289, R313) -/

/-- The key that the words of SESSION.KEY spell, its sequenceNo at its start. -/
def sesKeyOf (ws : List Word) : SesKey :=
  { alg := min 2 (fld (wd ws 1) 1 0), spp := fld (wd ws 1) 15 8, keyId := (wd ws 2).toNat, salt := (wd ws 3).toNat,
    key := keyOf ((ws.drop 4).take 8) }

/-- The key slots after SESSION.KEY with WRITE 1: ALG 0 empties the slot. -/
def keySlots (ws : List Word) (l : Tab SesKey) : Tab SesKey :=
  if min 2 (fld (wd ws 1) 1 0) = 0 then Tab.erase l (fld (wd ws 0) 7 0) else Tab.insert l (fld (wd ws 0) 7 0) (sesKeyOf ws)

theorem keySlots_ne (ws : List Word) (l : Tab SesKey) {j : Nat} (h : j ≠ fld (wd ws 0) 7 0) : Tab.find? (keySlots ws l) j = Tab.find? l j := by
  unfold keySlots
  split
  · exact Tab.find?_erase_ne _ h
  · exact Tab.find?_insert_ne _ _ h

theorem keySlots_emptied {ws : List Word} {l : Tab SesKey} (hs : Tab.sorted l = true) (h : fld (wd ws 1) 1 0 = 0) :
    Tab.find? (keySlots ws l) (fld (wd ws 0) 7 0) = none := by
  rw [keySlots, if_pos (by simp [h])]
  exact Tab.find?_erase_self _ hs

theorem keySlots_loaded {ws : List Word} (l : Tab SesKey) (h : fld (wd ws 1) 1 0 ≠ 0) :
    Tab.find? (keySlots ws l) (fld (wd ws 0) 7 0) = some (sesKeyOf ws) := by
  rw [keySlots, if_neg (by omega)]
  exact Tab.find?_insert_self _ _ _

/-- The state after SESSION.KEY with WRITE 1: the slot's sequence numbers and exhausted keys are forgotten. -/
def State.keyWritten (s : State) (ws : List Word) : State :=
  { s with
    sesKeys := keySlots ws s.sesKeys
    ptp := { s.ptp with
      seqSeen := s.ptp.seqSeen.filter (fun q => decide (q.2.1 ≠ fld (wd ws 0) 7 0))
      sessions := Tab.mapVal (fun _ (x : Session) =>
        if x.cfg.txKey = fld (wd ws 0) 7 0 then { x with run := { x.run with keyExhausted := false } } else x) s.ptp.sessions } }

theorem State.keyWritten_keeps (t : State) (ws : List Word) : (t.keyWritten ws).keeps t [.ptp, .sesKeys] := by
  intro q hq
  cases q <;> simp [Part.same, State.keyWritten] at hq ⊢

/-- SESSION.KEY acts on its slot when WRITE is 1, and replies with five words. -/
theorem bodySesKey_reply (c : Ctx) (ws : List Word) (t : State) :
    ∃ r, bodySesKey c ws t = (if bit (wd ws 0) 31 then t.keyWritten ws else t).ok c r ∧ r.length = 5 := by
  cases hw : bit (wd ws 0) 31 with
  | false =>
    simp only [bodySesKey, hw, Bool.false_eq_true, if_false]
    exact ⟨_, rfl, by split <;> rfl⟩
  | true =>
    simp only [bodySesKey, hw, if_true]
    exact ⟨_, rfl, by split <;> rfl⟩

theorem sessionKey_read (h : s.accepts 0x0445 (lenIs 12) p = true) (hw : bit (wd p.words 0) 31 = false) :
    ∃ r, Answers (.sessionKey p) s 0x0445 p (s.accepted 0x0445 p) r ∧ r.length = 5 := by
  obtain ⟨r, hb, hr⟩ := bodySesKey_reply (s.ctxOf 0x0445 p) p.words (s.accepted 0x0445 p)
  rw [hw] at hb
  exact ⟨r, answers_of_body rfl h hb, hr⟩

theorem sessionKey_write (h : s.accepts 0x0445 (lenIs 12) p = true) (hw : bit (wd p.words 0) 31 = true) :
    ∃ u r, Answers (.sessionKey p) s 0x0445 p u r ∧ r.length = 5 ∧ u.keeps (s.accepted 0x0445 p) [.ptp, .sesKeys] ∧
      u.sesKeys = keySlots p.words s.sesKeys := by
  obtain ⟨r, hb, hr⟩ := bodySesKey_reply (s.ctxOf 0x0445 p) p.words (s.accepted 0x0445 p)
  rw [hw] at hb
  refine ⟨_, r, answers_of_body rfl h hb, hr, State.keyWritten_keeps _ _, ?_⟩
  rw [← s.accepted_sesKeys 0x0445 p]
  rfl

/-! ### SESSION.ESMC (R300, R314) -/

theorem State.setEsmc_esmc_self {t : State} (h : Tab.sorted t.ptp.esmc = true) (k : Nat) (e : Esmc) : (t.setEsmc k e).esmc k = e :=
  Tab.get_put_self _ _ _ h

theorem State.setEsmc_esmc_ne (t : State) {k j : Nat} (e : Esmc) (h : j ≠ k) : (t.setEsmc k e).esmc j = t.esmc j := Tab.get_put_ne _ _ _ h

theorem State.setEsmc_keeps (t : State) (k : Nat) (e : Esmc) : (t.setEsmc k e).keeps t [.ptp] := by
  intro q hq
  cases q <;> simp [Part.same, State.setEsmc] at hq ⊢

theorem sessionEsmc_answers (h : s.accepts 0x0446 (lenIs 2) p = true) (hs : Tab.sorted s.ptp.esmc = true) :
    ∃ u r, Answers (.sessionEsmc p) s 0x0446 p u r ∧ r.length = 3 ∧ u.keeps (s.accepted 0x0446 p) [.ptp] ∧
      u.esmc (min 103 (fld (wd p.words 0) 6 0)) =
        (if bit (wd p.words 0) 31 = true ∧ s.portExists (min 103 (fld (wd p.words 0) 6 0)) = true then
          { s.esmc (min 103 (fld (wd p.words 0) 6 0)) with
            en := bit (wd p.words 1) 0, opt := bit (wd p.words 1) 1, ext := bit (wd p.words 1) 2, force := bit (wd p.words 1) 3,
            txQl := fld (wd p.words 1) 7 4, txEssm := fld (wd p.words 1) 15 8 }
        else s.esmc (min 103 (fld (wd p.words 0) 6 0))) ∧
      ∀ j, j ≠ min 103 (fld (wd p.words 0) 6 0) → u.esmc j = s.esmc j := by
  rw [← s.accepted_ptp 0x0446 p] at hs
  refine ⟨_, _, answers_of_body rfl h rfl, rfl, State.setEsmc_keeps _ _ _, ?_, fun j hj => ?_⟩
  · rw [State.setEsmc_esmc_self hs, State.accepted_esmc, State.accepted_portExists]
  · rw [State.setEsmc_esmc_ne _ _ hj, State.accepted_esmc]

end

/-! ### The obligation -/

/-- Settles O41: each command by its body on the state that acceptance leaves, whose timing engine is as it was. -/
theorem sessionCommands : Obligations.SessionCommands := by
  refine ⟨fun s p h => ⟨sessionCreate_refused h, fun hr hp hfree hup => ?_⟩,
    fun s p h h24 h25 hs => ⟨sessionDelete_none h h24 h25 hs, fun hsome => ⟨_, sessionDelete_some h h24 h25 hs hsome⟩⟩,
    fun s p h => ?_, fun s p h => ?_, fun s p h => ⟨sessionServo_read h, sessionServo_write h⟩, fun s p h => ⟨sessionKey_read h, fun hw hs => ?_⟩,
    fun s p h hs => sessionEsmc_answers h hs⟩
  · obtain ⟨hself, hothers⟩ := ((s.accepted 0x0440 p).created_sessionTo (fld (wd p.words 0) 9 0) (sesCfgOf p.words)).of_accepted
    exact ⟨_, sessionCreate_created h hr hp hfree hup, hself, hothers, State.created_keeps _ _ _⟩
  · have hread := sessionRead_answers h
    cases hx : s.session? (fld (wd p.words 0) 9 0) <;> rwa [hx] at hread
  · obtain ⟨r, hb, hr⟩ := bodySesStatus_reply (s.ctxOf 0x0443 p) p.words (s.accepted 0x0443 p)
    exact ⟨r, answers_of_body rfl h hb, hr⟩
  · obtain ⟨u, r, hans, hr, hkeeps, hkeys⟩ := sessionKey_write h hw
    refine ⟨u, r, hans, hr, hkeeps, fun j hj => ?_, fun h0 => ?_, fun h0 => ⟨sesKeyOf p.words, ?_, rfl, rfl, rfl, rfl, rfl⟩⟩
    · rw [hkeys]
      exact keySlots_ne _ _ hj
    · rw [hkeys]
      exact keySlots_emptied hs h0
    · rw [hkeys]
      exact keySlots_loaded _ h0

end Sys2Proof.Machine
end


section
/-! The twin link's frames (R292, R463, R465-R468): what a unit sends, what it takes from its partner, and the link's end. -/

namespace Sys2Proof.Machine

open Sys2Proof

section
variable {s t u : State}

/-! ### Frames a unit sends (R465) -/

theorem State.with_buf_prun_keeps (s : State) (b : Buf) (r : PairRun) : ({ s with buf := b, prun := r } : State).keeps s [.buf, .prun] := by
  intro q hq
  cases q <;> simp [Part.same] at hq ⊢

theorem State.with_prun_keeps (s : State) (r : PairRun) : ({ s with prun := r } : State).keeps s [.prun] := by
  intro q hq
  cases q <;> simp [Part.same] at hq ⊢

/-- An insert of a twin frame: DIRECT, out of the twin port (R465). -/
def State.twinIns (s : State) (bytes : List Byte) : Ins := { bytes := bytes, port := s.pcfg.twinPort, cls := 8, mark := .twin }

theorem State.putTime_enters (i : Ins) (hup : s.tpUp = true) (hroom : s.buf.iqTime.length < 2048) :
    s.putTime i = { s with buf := { s.buf with iqTime := s.buf.iqTime ++ [i] } } := if_pos ⟨hup, hroom⟩

theorem State.twinSend_enters (kind : Nat) (ws : List Word) (hup : s.tpUp = true) (hroom : s.buf.iqTime.length < 2048) :
    ∃ a q, s.twinSend kind ws =
      { s with buf := { s.buf with iqTime := s.buf.iqTime ++ [s.twinIns a] }, prun := { s.prun with seqs := q } } :=
  ⟨_, _, State.putTime_enters _ hup hroom⟩

theorem State.beacon_off (h : s.prun.st = .off ∨ s.start.power ≠ .run) : s.beacon = s := if_pos h

theorem State.beacon_enters (hst : s.prun.st ≠ .off) (hpow : s.start.power = .run) (hup : s.tpUp = true)
    (hroom : s.buf.iqTime.length + 1 < 2048) :
    ∃ a b q, s.beacon =
      { s with
        buf := { s.buf with
          iqTime := s.buf.iqTime ++ [s.twinIns a, { bytes := b, lookup := true, cls := 7, vid := s.pcfg.beaconVid }] }
        prun := { s.prun with seqs := q } } := by
  obtain ⟨a, q, hsend⟩ := State.twinSend_enters (s := s) 0 [] hup (by omega)
  rw [State.beacon, if_neg (by simp [hst, hpow]), hsend]
  dsimp only [State.twinSeq]
  rw [State.putTime_enters]
  · simp only [List.append_assoc, List.singleton_append]
    exact ⟨a, _, _, rfl⟩
  · exact hup
  · simpa using hroom

theorem twinTimeSend_off (h : s.prun.st = .off ∨ s.start.power ≠ .run) : twinTimeSend s = s := if_pos (.inr h)

theorem twinTimeSend_sends (hen : s.pcfg.en = true) (hst : s.prun.st ≠ .off) (hpow : s.start.power = .run) :
    ∃ ws, twinTimeSend s = s.twinSend 1 ws :=
  ⟨_, if_neg (by simp [hen, hst, hpow])⟩

/-! ### TWIN_TIME from the partner (R292, R465, R466) -/

theorem twinTimeReceived_none (h : s.takeTwin 1 = (none, u)) : twinTimeReceived s = u := by rw [twinTimeReceived, h]

variable {f : Frame} {w : Twin}

theorem twinTimeReceived_first (h : s.takeTwin 1 = (some (f, w), u)) (htx : u.prun.twinTx = none) :
    twinTimeReceived s = { u with prun := { u.prun with
      twinRx := some (w.seq, eightTimes w.content, (List.range 8).map (fun n => f.rx.frac n)) } } := by
  simp only [twinTimeReceived, h, htx]

/-- theta of each time base from a whole exchange: the partner's receive times of this unit's last frame less its transmit times `own`, against
this unit's receive times of the partner's frame less the transmit times it carries (R292). -/
def exchangeTheta (asym : Int) (f : Frame) (c : List Word) (own : List Int) : List Int :=
  (List.range 8).map (fun n =>
    roundDiv (((eightTimes ((c.drop 24).take 24)).getD n 0 - own.getD n 0) - (f.rx.frac n - (eightTimes c).getD n 0)) 2
      + roundDiv (asym * 262144) 1000)

theorem State.compareSyncs_nil (h : s.prun.syncCmp = []) : s.compareSyncs = s := by
  rw [State.compareSyncs, h]
  change { s with prun := { s.prun with syncCmp := [] } } = s
  rw [← h]

theorem twinTimeReceived_exchange {own : List Int} (h : s.takeTwin 1 = (some (f, w), u))
    (htx : u.prun.twinTx = some (fld (wd w.content 48) 15 0, own))
    (hback : ((w.content.drop 24).take 24).all (fun w => decide (w = 0)) = false) (hsync : u.prun.syncCmp = []) :
    ∃ rx prevAt at_, twinTimeReceived s = { u with prun := { u.prun with
      twinRx := rx, thetaPrev := u.prun.theta, thetaPrevAt := prevAt, theta := exchangeTheta u.pcfg.twinAsym f w.content own
      thetaAt := at_ } } := by
  have htheta :
      (List.range 8).map (fun n => roundDiv (((eightTimes ((w.content.drop 24).take 24)).getD n 0 - own.getD n 0) -
        (((List.range 8).map (fun n => f.rx.frac n)).getD n 0 - (eightTimes w.content).getD n 0)) 2 +
          roundDiv (u.pcfg.twinAsym * 262144) 1000) = exchangeTheta u.pcfg.twinAsym f w.content own := by
    refine List.map_congr_left fun n hn => ?_
    have hrx : ((List.range 8).map (fun n => f.rx.frac n)).getD n 0 = f.rx.frac n := by
      simp [List.mem_range.mp hn]
    rw [hrx]
  simp only [twinTimeReceived, h, htx, hback, htheta, ne_eq, not_true_eq_false, Bool.false_eq_true, or_self, if_false]
  rw [State.compareSyncs_nil]
  · exact ⟨_, _, _, rfl⟩
  · exact hsync

/-! ### COMPARE and the digest window (R467, R468) -/

theorem compareReceived_none (h : s.takeTwin 2 = (none, u)) : compareReceived s = u := by rw [compareReceived, h]

theorem compareReceived_idle (h : s.takeTwin 2 = (some (f, w), u)) (hc : u.comparing = false) : compareReceived s = u := by
  simp only [compareReceived, h, hc, if_true]

theorem State.matchHam_unmet (k : Nat) (h : s.prun.ham0 = []) : s.matchHam k = s := by
  rw [State.matchHam, h, List.find?_nil]

/-- A boundary of HAM0 that the active reports first waits for its counterpart. -/
theorem compareReceived_ham (h : s.takeTwin 2 = (some (f, w), u)) (hc : u.comparing = true) (hkind : wd w.content 0 = 0)
    (hen : u.pcfg.cmpHam = true) (hcmp : u.prun.hamCmp = []) (hham : u.prun.ham0 = []) :
    compareReceived s = { u with prun := { u.prun with hamCmp := [((wd w.content 1).toNat * 2 ^ 32 + (wd w.content 2).toNat,
      fld (wd w.content 6) 2 0, ((timeOfWords (wd w.content 3) (wd w.content 4) (wd w.content 5) / fracU : Nat) : Int),
      bit (wd w.content 6) 8)] } } := by
  simp only [compareReceived, h, hc, hkind, hen, Bool.true_eq_false, if_false, if_true]
  rw [State.matchHam_unmet]
  · rw [hcmp]
    rfl
  · exact hham

/-- The digest entries of windows still open. -/
def State.digestLeft (s : State) : List (Nat × Nat × Nat × Nat) :=
  s.prun.digest.filter (fun e => decide ((s.tb 0).val / (10 ^ 6 * nsU) - 1 < e.1))

theorem digestWindowEnd_idle (h : s.pcfg.en = false ∨ s.pcfg.cmpDigest = false ∨ s.prun.twinUp = false) :
    digestWindowEnd s = { s with prun := { s.prun with digest := s.digestLeft } } := if_pos h

theorem digestWindowEnd_active (hen : s.pcfg.en = true) (hcmp : s.pcfg.cmpDigest = true) (hup : s.prun.twinUp = true) (hst : s.prun.st = .active) :
    ∃ ws, digestWindowEnd s = ({ s with prun := { s.prun with digest := s.digestLeft } } : State).twinSend 2 ws :=
  ⟨_, (if_neg (by simp [hen, hcmp, hup])).trans (if_pos hst)⟩

/-! ### CONFIG: told changes and mirrored commands (R2, R463) -/

theorem configReceived_none (h : s.takeTwin 4 = (none, u)) : configReceived s = u := by rw [configReceived, h]

theorem configReceived_erased (h : s.takeTwin 4 = (some (f, w), u)) (hkind : wd w.content 0 = 2) (hmi : u.isMi = true)
    (hst : u.prun.st = .standby ∨ u.prun.st = .failed) :
    configReceived s = { u with workers := Tab.erase u.workers ((wd w.content 1).toNat % 4096) } := by
  have htold : ¬((u.prun.st ≠ .standby ∧ u.prun.st ≠ .failed) ∨ u.isMi = false) := by
    rcases hst with hst | hst <;> simp [hst, hmi]
  simp only [configReceived, h, State.takeTold, hkind, if_neg htold]
  rfl

theorem configReceived_mirrored {op : Nat} {p : Pkt} (h : s.takeTwin 4 = (some (f, w), u)) (hcmd : 16 ≤ (wd w.content 0).toNat)
    (hp : parsePacket .twin w.content = .cmd op p) (hen : u.pcfg.cfgMirror = true) (hst : u.prun.st = .standby) (htakes : u.takes .twin = true)
    (hmir : unmirrored op = false) (hman : opManager op = false ∨ u.isMi = true) (hcls : Pkt.cls op p.words = .c)
    (hlen : ((opEntry op).1 p.words).isNone = true) :
    configReceived s = u.perform (opEntry op).2
      { via := .twin, op := op, tag := p.tag, srcId := p.srcId, respId := u.devId, bootEpoch := u.mram.bootEpoch } p.words := by
  have hman' : ¬(opManager op = true ∧ u.isMi = false) := by rcases hman with hman | hman <;> simp [hman]
  simp only [configReceived, h, if_neg (Nat.not_lt.mpr hcmd), hp, hen, hst, htakes, hmir, hcls, and_self, if_true, if_neg hman',
    Option.isNone_iff_eq_none.mp hlen]

/-! ### The link's end (R466, R479) -/

/-- Of what a unit keeps of its pair, replies and records change the frames' numbers and CFG_DIVERGE alone. -/
def PairReplied (t s : State) : Prop := ∃ q d, t.prun = { s.prun with seqs := q, diverge := d }

theorem PairReplied.refl (s : State) : PairReplied s s := ⟨_, _, rfl⟩

theorem PairReplied.trans (h : PairReplied u t) (k : PairReplied t s) : PairReplied u s := by
  obtain ⟨_, _, hu⟩ := h
  obtain ⟨_, _, ht⟩ := k
  exact ⟨_, _, by rw [hu, ht]⟩

theorem PairReplied.foldl {α : Type} {f : State → α → State} (h : ∀ t x, PairReplied (f t x) t) (l : List α) (s : State) :
    PairReplied (l.foldl f s) s :=
  List.foldlRecOn l f (.refl s) (fun t ht x _ => (h t x).trans ht)

theorem Replied.pairReplied (h : Replied t s) : PairReplied t s := by
  obtain ⟨_, _, _, _, _, _, _, _, _, _, _, rfl, -, -, -⟩ := h
  exact ⟨_, _, rfl⟩

theorem Logged.pairReplied (h : Logged t s) : PairReplied t s := by
  obtain ⟨_, _, _, _, _, _, rfl⟩ := h
  exact ⟨_, _, rfl⟩

theorem State.mirrorDone_pairReplied (s : State) (c : Ctx) (r pr : Rpl) : PairReplied (s.mirrorDone c r pr) s := by
  have hreply : PairReplied (s.sendReply c r) s := (s.sendReply_replied c r).pairReplied
  unfold State.mirrorDone
  dsimp only
  split
  · exact hreply
  · exact (State.log_logged _ _ _ _ _ _ _).pairReplied.trans (PairReplied.trans (t := s.sendReply c r) ⟨_, _, rfl⟩ hreply)

theorem State.complete_pairReplied (s : State) (c : Ctx) (r : Rpl) : PairReplied (s.complete c r) s := by
  have hreply : PairReplied (s.sendReply c r) s := (s.sendReply_replied c r).pairReplied
  unfold State.complete
  split
  · exact .refl s
  split
  · exact ⟨_, _, rfl⟩
  split
  · split
    · exact hreply
    · split
      · exact (State.mirrorDone_pairReplied _ _ _ _).trans ⟨_, _, rfl⟩
      · exact ⟨_, _, rfl⟩
  · exact hreply

theorem State.switchReply_pairReplied (s : State) (done : Bool) : PairReplied (s.switchReply done) s :=
  (PairReplied.foldl (fun t (d : Ctx × Rpl) => t.complete_pairReplied d.1 d.2) _ _).trans ⟨_, _, rfl⟩

theorem State.mirrorAlone_pairReplied (s : State) : PairReplied s.mirrorAlone s :=
  (PairReplied.foldl (fun t (e : Ctx × Rpl) => (t.sendReply_replied e.1 e.2).pairReplied) _ _).trans ⟨_, _, rfl⟩

/-- What a unit keeps of its pair once the twin link is down: comparison starts anew, and a dispute is abandoned. -/
def PairRun.linkDown (r : PairRun) : PairRun :=
  { r with
    twinUp := false, twinDown := true, dispute := none, own := none, partner := none, syncCmp := [], hamCmp := [], ham0 := [],
    ownDigests := [], partnerDigests := [], digestRun := 0, beyond := [] }

theorem State.twinLost_pairReplied (h : s.prun.twinUp = true) : PairReplied s.twinLost { s with prun := s.prun.linkDown } := by
  rw [State.twinLost, if_neg (by simp [h])]
  exact (State.switchReply_pairReplied _ _).trans
    ((State.mirrorAlone_pairReplied _).trans (State.log_logged { s with prun := s.prun.linkDown } _ _ _ _ _ _).pairReplied)

theorem Completed.pcfg_mram (h : Completed t s) : t.pcfg = s.pcfg ∧ t.mram = s.mram := by
  obtain ⟨_, _, _, _, _, _, _, _, _, _, rfl⟩ := h
  exact ⟨rfl, rfl⟩

theorem twinTimeout_loses (hen : s.pcfg.en = true) (hdue : s.prun.twinAt + 1250000 ≤ s.clk.tick) : twinTimeout s = s.twinLost :=
  if_pos ⟨hen, hdue⟩

theorem twinTimeout_idle (h : s.pcfg.en = false ∨ s.prun.twinUp = false ∨ s.clk.tick < s.prun.twinAt + 1250000) : twinTimeout s = s := by
  rw [twinTimeout]
  split
  next hdue =>
    obtain ⟨hen, hdue⟩ := hdue
    rcases h with h | h | h
    · simp [hen] at h
    · exact if_pos h
    · omega
  next => rfl

end

/-! ### The obligation -/

/-- Settles O45: a frame sent by where it enters IQ_TIME, a frame taken by what stands in it, the link's end by what replies leave. -/
theorem pairFrames : Obligations.PairFrames := by
  refine ⟨fun s hst hpow hup hroom => ?_,
    fun s h => ⟨congrArg Host.Outcome.next (State.beacon_off h), congrArg Host.Outcome.next (twinTimeSend_off h)⟩,
    fun s hen hst hpow hup hroom => ?_,
    fun s u => ⟨fun h => congrArg Host.Outcome.next (twinTimeReceived_none h), fun h => congrArg Host.Outcome.next (compareReceived_none h),
      fun h => congrArg Host.Outcome.next (configReceived_none h)⟩,
    fun s u f t h htx => congrArg Host.Outcome.next (twinTimeReceived_first h htx), fun s u f t own h htx hback hsync => ?_,
    fun s u f t h => ⟨fun hc => congrArg Host.Outcome.next (compareReceived_idle h hc),
      fun hc hkind hen hcmp hham => congrArg Host.Outcome.next (compareReceived_ham h hc hkind hen hcmp hham)⟩,
    fun s h => congrArg Host.Outcome.next (digestWindowEnd_idle h), fun s hen hcmp hup hst htp hroom => ?_,
    fun s u f t h => ⟨fun hkind hmi hst => congrArg Host.Outcome.next (configReceived_erased h hkind hmi hst),
      fun op p hcmd hp hen hst htakes hmir hman hcls hlen =>
        congrArg Host.Outcome.next (configReceived_mirrored h hcmd hp hen hst htakes hmir hman hcls hlen)⟩,
    fun s hen hup hdue => ?_, fun s h => congrArg Host.Outcome.next (twinTimeout_idle h)⟩
  · obtain ⟨a, b, q, hb⟩ := State.beacon_enters hst hpow hup hroom
    exact ⟨_, congrArg Host.Outcome.next hb, State.with_buf_prun_keeps _ _ _, rfl, a, b, rfl⟩
  · obtain ⟨ws, hsend⟩ := twinTimeSend_sends hen hst hpow
    obtain ⟨a, q, henters⟩ := State.twinSend_enters 1 ws hup hroom
    exact ⟨_, congrArg Host.Outcome.next (hsend.trans henters), State.with_buf_prun_keeps _ _ _, rfl, a, rfl⟩
  · obtain ⟨rx, prevAt, at_, hex⟩ := twinTimeReceived_exchange h htx hback hsync
    exact ⟨_, congrArg Host.Outcome.next hex, State.with_prun_keeps _ _, rfl, rfl, rfl⟩
  · obtain ⟨ws, hsend⟩ := digestWindowEnd_active hen hcmp hup hst
    obtain ⟨a, q, henters⟩ := State.twinSend_enters (s := { s with prun := { s.prun with digest := s.digestLeft } }) 2 ws htp hroom
    exact ⟨_, congrArg Host.Outcome.next (hsend.trans henters), State.with_buf_prun_keeps s _ _, hst, ⟨a, rfl⟩, rfl⟩
  · obtain ⟨q, d, hrun⟩ := State.twinLost_pairReplied hup
    obtain ⟨hcfg, hmram⟩ := s.twinLost_completed.pcfg_mram
    refine ⟨_, congrArg Host.Outcome.next (twinTimeout_loses hen hdue), ?_, ?_, ?_, ?_, hcfg, hmram⟩ <;> rw [hrun] <;> rfl

end Sys2Proof.Machine
end

section
/-! What sessions send and take, and their timeouts (R24, R283-R292), and ESMC (R300-R302). -/

namespace Sys2Proof.Machine

open Sys2Proof

section
variable {s t : State} {sid : Nat} {x : Session} {it : PuntItem} {f : Frame} {tr : Nat} {m : Msg}

/-! ### A session sends (R283, R287) -/

theorem State.with_buf_keeps (s : State) (b : Buf) : ({ s with buf := b } : State).keeps s [.buf] := by
  intro q hq
  cases q <;> simp [Part.same] at hq ⊢

/-- A frame for IQ_TIME has entered the buffer. -/
def Buf.timed (b : Buf) (i : Ins) : Buf := { b with iqTime := b.iqTime ++ [i] }

theorem State.iqTimePut_timed (i : Ins) (hroom : s.buf.iqTime.length < 2048) : s.iqTimePut i = some { s with buf := s.buf.timed i } := if_pos hroom

/-- A session that signs nothing, on a port outside every ring, sends a message: it enters IQ_TIME and is counted. -/
theorem State.sendMsg_plain (typ : Nat) (twoStep : Bool) (flags : Nat) (corr : Int) (seq : Nat) (logInt : Int) (body : List Byte) (mark : Mark)
    (hm3 : x.run.m3 = false) (hauth : x.cfg.auth = 0) (hring : s.ringRole x.cfg.port = none) (hgate : s.pairGateOpen = true)
    (hroom : s.buf.iqTime.length < 2048) :
    ∃ b, s.sendMsg sid x typ twoStep flags corr seq logInt body mark =
      ({ s with buf := s.buf.timed { bytes := b, port := x.cfg.port, cls := x.cfg.cls, mark := mark } } : State).modRun sid
        (fun r => { r with txMsgs := inc32 r.txMsgs }) := by
  refine ⟨s.ptpFrame x ([2, 3, 10].contains typ) (typ < 8) none (ptpHeader s x typ (34 + body.length + 0) twoStep flags corr seq logInt ++ body), ?_⟩
  simp only [State.sendMsg, hm3, hauth, hring, hgate, State.iqTimePut_timed _ hroom, ne_eq, not_true_eq_false, decide_false, Bool.false_eq_true,
    Bool.true_eq_false, false_and, if_false]

/-- A MASTER session's Sync (R286, R287): it enters IQ_TIME, is numbered and counted. -/
theorem ptpSend_sync (hx : s.session? sid = some x) (hup : s.tpUp = true) (hst : x.run.st = .master) (hm3 : x.run.m3 = false)
    (hauth : x.cfg.auth = 0) (hring : s.ringRole x.cfg.port = none) (hgate : s.pairGateOpen = true) (hroom : s.buf.iqTime.length < 2048) :
    (∃ b, (ptpSend sid 1 s).buf = s.buf.timed { bytes := b, port := x.cfg.port, cls := x.cfg.cls, mark := .session sid (s.termsOf x) }) ∧
      SessionTo sid (some { x with run := { x.run with seqSync := (x.run.seqSync + 1) % 65536, txMsgs := inc32 x.run.txMsgs } }) (ptpSend sid 1 s) s ∧
      (ptpSend sid 1 s).keeps s [.buf, .ptp] := by
  let y : Session := { x with run := { x.run with seqSync := (x.run.seqSync + 1) % 65536 } }
  let u : State := s.setSession sid y
  have hu : SessionTo sid (some y) u s := s.setSession_sessionTo sid y
  obtain ⟨b, hsend⟩ := State.sendMsg_plain (s := u) (sid := sid) 0 x.cfg.twoStep 0 0 x.run.seqSync x.cfg.logSync (bytesBE 10 0)
    (.session sid (s.termsOf x)) hm3 hauth hring hgate hroom
  have hrow : ptpSend sid 1 s = u.sendMsg sid x 0 x.cfg.twoStep 0 0 x.run.seqSync x.cfg.logSync (bytesBE 10 0) (.session sid (s.termsOf x)) := by
    rw [ptpSend, hx]
    dsimp only
    rw [if_neg (by simp [hup]), if_neg Nat.one_ne_zero, if_pos rfl, if_neg (by simp [hst]), State.modRun_of_some hx]
    rfl
  let v : State := { u with buf := u.buf.timed { bytes := b, port := x.cfg.port, cls := x.cfg.cls, mark := .session sid (s.termsOf x) } }
  have hv : SessionTo sid (some y) v s := hu.of_sessions rfl
  have hkeeps : v.keeps s [.buf, .ptp] := ((u.with_buf_keeps _).mono (by simp)).trans ((s.setSession_keeps sid y).mono (by simp))
  rw [hrow, hsend]
  exact ⟨⟨b, State.modRun_buf _ _ _⟩, (State.modRun_sessionTo hv.1 (fun r => { r with txMsgs := inc32 r.txMsgs })).trans hv,
    ((v.modRun_keeps sid _).mono (by simp)).trans hkeeps⟩

theorem ptpSend_none (kind : Nat) (h : s.session? sid = none) : ptpSend sid kind s = s := by rw [ptpSend, h]

/-- Announce and Sync are a MASTER's alone. -/
theorem ptpSend_idle {kind : Nat} (hx : s.session? sid = some x) (hk : kind < 2) (h : x.run.st ≠ .master ∨ s.tpUp = false) :
    ptpSend sid kind s = s := by
  simp only [ptpSend, hx]
  split
  · rfl
  next hup =>
    have hst : x.run.st ≠ .master := h.resolve_right hup
    have hkind : kind = 0 ∨ kind = 1 := by omega
    rcases hkind with rfl | rfl <;> simp [hst]

/-! ### A punted frame is consumed, whatever the timing engine holds -/

theorem State.event_with_ptp (q : Ptp) (ev i k w : Nat) :
    ({ s with ptp := q } : State).event ev i k w = { s.event ev i k w with ptp := q } := by
  unfold State.event
  split <;> rfl

theorem State.segFate_with_ptp (s : State) (q : Ptp) (p n : Nat) (delivered : Bool) (cause : Nat) :
    ({ s with ptp := q } : State).segFate p n delivered cause = { s.segFate p n delivered cause with ptp := q } := by
  cases delivered with
  | true => rfl
  | false => exact State.event_with_ptp (s := (s.setPend p (s.pendOf p - n)).addTd p 1 n) q cause p 0 n

/-- The fate of a frame's segments, pipeline lane by lane. -/
theorem State.segFates_with_ptp (q : Ptp) (delivered : Bool) (cause : Nat) (l : List (Nat × Nat)) (s : State) :
    l.foldl (fun (s : State) e => s.segFate e.1 e.2 delivered cause) { s with ptp := q } =
      { l.foldl (fun (s : State) e => s.segFate e.1 e.2 delivered cause) s with ptp := q } := by
  induction l generalizing s with
  | nil => rfl
  | cons e l ih => rw [List.foldl_cons, List.foldl_cons, State.segFate_with_ptp, ih]

theorem State.ite_with_ptp (q : Ptp) (c : Prop) [Decidable c] (s t : State) :
    (if c then { s with ptp := q } else { t with ptp := q } : State) = { (if c then s else t) with ptp := q } := by
  split <;> rfl

theorem State.finish_with_ptp (s : State) (q : Ptp) (id cause : Nat) :
    ({ s with ptp := q } : State).finish id cause = { s.finish id cause with ptp := q } := by
  have hframe : ({ s with ptp := q } : State).frame? id = s.frame? id := rfl
  have href : ({ s with ptp := q } : State).refcnt id = s.refcnt id := rfl
  unfold State.finish
  rw [hframe, href]
  split
  · rfl
  split
  · rfl
  · dsimp only
    rw [State.segFates_with_ptp]
    generalize List.foldl _ s _ = t
    exact State.ite_with_ptp q _ (t.eraseFrame id) (t.modFrame id _)

theorem State.consume_setSession (s : State) (it : PuntItem) (sid : Nat) (x : Session) :
    (s.setSession sid x).consume it = (s.consume it).setSession sid x := by
  have hptp : (s.consume it).ptp = s.ptp := by
    obtain ⟨_, _, h⟩ := s.consume_consumed it
    rw [h]
  rw [State.setSession, State.setSession, hptp]
  exact State.finish_with_ptp (({ s with buf := { s.buf with punted := s.buf.punted.erase it } } : State).modFrame it.frame
    (fun (f : Frame) => { f with delivered := true })) _ it.frame 0x400

theorem Consumed.ptp (h : Consumed t s) : t.ptp = s.ptp := by
  obtain ⟨_, _, rfl⟩ := h
  rfl

/-! ### Taking messages (R284-R292) -/

theorem ptpTaken_idle (h : s.tpUp = false ∨ s.puntHead 0 (fun f => (s.frameMsg f).isSome) = none) : ptpTaken s = s := by
  unfold ptpTaken
  split
  · rfl
  next hup => rw [h.resolve_left hup]

theorem ptpTaken_untaken (hup : s.tpUp = true) (hhead : s.puntHead 0 (fun f => (s.frameMsg f).isSome) = some (it, f))
    (hmsg : s.frameMsg f = some (tr, m)) (htaker : s.takerOf f.inPort tr m = none) : ptpTaken s = s.consume it := by
  simp only [ptpTaken, hup, hhead, hmsg, htaker, Bool.true_eq_false, if_false, ite_self]

theorem State.authRx_off (hauth : x.cfg.auth = 0) : s.authRx x m = some s := if_pos (by simp [hauth])

/-- The session as it counts a message. -/
def Session.heard (x : Session) : Session := { x with run := { x.run with rxMsgs := inc32 x.run.rxMsgs } }

/-- A message that a session takes without authentication is consumed, and the session, which has counted it, acts on it (R286). -/
theorem ptpTaken_acts {sid : Nat} (hup : s.tpUp = true) (hhead : s.puntHead 0 (fun f => (s.frameMsg f).isSome) = some (it, f))
    (hfcs : f.badFcs = false) (hmsg : s.frameMsg f = some (tr, m)) (htaker : s.takerOf f.inPort tr m = some sid) (hx : s.session? sid = some x)
    (hauth : x.cfg.auth = 0) (htyp : m.typ < 12) :
    ptpTaken s = ((s.consume it).setSession sid x.heard).actOn sid x.heard m f.rx := by
  have hrun : s.modRun sid (fun r => { r with rxMsgs := inc32 r.rxMsgs }) = s.setSession sid x.heard := State.modRun_of_some hx _
  have hses : ((s.consume it).setSession sid x.heard).session? sid = some x.heard := (State.setSession_sessionTo _ _ _).1
  have hpass : ¬ (m.typ = 12 ∨ m.typ = 13) := by omega
  simp only [ptpTaken, hup, hhead, hfcs, hmsg, htaker, hx, hrun, State.authRx_off hauth, hpass, State.consume_setSession, hses, Bool.true_eq_false,
    Bool.false_eq_true, if_false]

/-- A two-step Sync of the parent waits for its Follow_Up (R286, R292). -/
theorem State.actOn_sync (rx : Stamp) (htyp : m.typ = 0) (htwo : m.twoStep = true) (hst : x.run.st = .uncalibrated ∨ x.run.st = .slave)
    (hpar : x.run.fromParent m = true) :
    s.actOn sid x m rx = s.modRun sid (fun r => { r with
      sync := some { seq := m.seq, t1 := m.stampAt 34, t2 := s.planeTime x rx (-x.cfg.ingress), corr := m.corr, waiting := true,
                     coarse := rx.isCoarse, uncal := rx.uncal }
      logSyncRx := m.logInt }) := by
  simp only [State.actOn, htyp, htwo, hst, hpar, decide_true, Bool.true_eq_false, or_self, if_false, if_true]

/-! ### ESMC (R300-R302) -/

theorem State.esmc_congr (h : t.ptp = s.ptp) (k : Nat) : t.esmc k = s.esmc k := by rw [State.esmc, h, State.esmc]

theorem Referred.esmc (h : Referred t s) (k : Nat) : t.esmc k = s.esmc k := State.esmc_congr h.ptp k

theorem State.checkQl_referred (s : State) (k : Nat) : Referred (s.checkQl k) s := by
  unfold State.checkQl
  dsimp only
  split
  · exact List.foldlRecOn (motive := fun t => Referred t s) _ _ (.refl s) (fun t ht i _ => (t.refFail_referred i 4).trans ht)
  · exact .refl s

theorem State.checkQl_valid {k : Nat} (hfail : (s.esmc k).failed = false) (hql : (s.esmc k).rxQl ≠ 15) : s.checkQl k = s :=
  if_neg (by simp [hfail, hql])

/-- An entry that has heard a PDU, or that has failed, is not the reset value, and reads back. -/
theorem State.setEsmc_esmc_heard (s : State) (k : Nat) {e : Esmc} (h : e.rxValid = true ∨ e.failed = true) : (s.setEsmc k e).esmc k = e := by
  refine Tab.get_put_self_of_ne _ _ _ ?_
  rintro rfl
  simp [esmcReset] at h

theorem esmcSend_idle {k : Nat} (h : (s.esmc k).en = false ∨ s.tpUp = false ∨ s.portExists k = false) : esmcSend k s = s :=
  if_pos (h.imp_right (Or.imp_right Or.inl))

theorem esmcSend_sends {k : Nat} (hen : (s.esmc k).en = true) (hup : s.tpUp = true) (hport : s.portExists k = true) (hgate : s.pairGateOpen = true)
    (hroom : s.buf.iqTime.length < 2048) :
    ∃ b, esmcSend k s = { s.setEsmc k { s.esmc k with lastTx := some ((s.qlOf k).ssm, (s.qlOf k).essm) } with
      buf := s.buf.timed { bytes := b, port := k, cls := 7 } } := by
  rw [esmcSend]
  dsimp only
  rw [if_neg (by simp [hen, hup, hport, hgate]), State.iqTimePut_timed]
  · exact ⟨_, rfl⟩
  · exact hroom

theorem esmcReceived_idle (h : s.tpUp = false ∨ s.puntHead 0 (fun f => isEsmc f.bytes) = none) : esmcReceived s = s := by
  unfold esmcReceived
  split
  · rfl
  next hup => rw [h.resolve_left hup]

/-- A PDU with a quality level that is not to be refused gives it to its port (R300, R302). -/
theorem esmcReceived_stores {o : Nat} (hup : s.tpUp = true) (hhead : s.puntHead 0 (fun f => isEsmc f.bytes) = some (it, f)) (hfcs : f.badFcs = false)
    (htlv : esmcTlv (dropFcs f.bytes) 1 512 ((parseHdr false f.bytes).pay + 10) = some o) (hql : beAt (dropFcs f.bytes) (o + 3) 1 % 16 ≠ 15) :
    ∃ e : Esmc, esmcReceived s = (s.consume it).setEsmc f.inPort e ∧ e.rxQl = beAt (dropFcs f.bytes) (o + 3) 1 % 16 ∧ e.rxValid = true ∧
      e.failed = false ∧ e.rxPdus = inc16 (s.esmc f.inPort).rxPdus := by
  simp only [esmcReceived, hup, hhead, hfcs, htlv, Bool.true_eq_false, Bool.false_eq_true, if_false]
  rw [State.checkQl_valid]
  · exact ⟨_, rfl, rfl, rfl, rfl, rfl⟩
  · rw [State.setEsmc_esmc_heard _ _ (.inl rfl)]
  · rw [State.setEsmc_esmc_heard _ _ (.inl rfl)]
    exact hql

/-! ### Timeouts (R290, R291) -/

theorem syncLoss_loses (hx : s.session? sid = some x) (hst : x.run.st = .uncalibrated ∨ x.run.st = .slave) :
    syncLoss sid s = (s.modRun sid (fun r => { r with syncLoss := inc16 r.syncLoss })).sesTo sid .listening := by
  simp only [syncLoss, hx, hst, if_true]

theorem syncLoss_idle (h : ∀ x, s.session? sid = some x → x.run.st ≠ .uncalibrated ∧ x.run.st ≠ .slave) : syncLoss sid s = s := by
  unfold syncLoss
  split
  · rfl
  next x hx => exact if_neg (not_or.mpr (h x hx))

/-- What a session does to its run and its state, one after the other. -/
theorem State.modRun_sesTo (hx : s.session? sid = some x) (g : SesRun → SesRun) (n : SesSt) :
    SessionTo sid (some (({ x with run := g x.run } : Session).entering n)) ((s.modRun sid g).sesTo sid n) s ∧
      ((s.modRun sid g).sesTo sid n).keeps s [.ptp, .refs, .clk, .tbs, .cru, .buf] := by
  have hrun := State.modRun_sessionTo hx g
  exact ⟨(State.sesTo_sessionTo hrun.1 n).trans hrun, (State.sesTo_keeps hrun.1 n).trans ((s.modRun_keeps sid g).mono (by simp))⟩

/-- The run of a session whose parent is no longer heard. -/
def SesRun.unheard (r : SesRun) : SesRun :=
  match r.parent with
  | some p => { r with foreigns := r.foreigns.filter (fun f => decide (f.ds.sender ≠ p.ds.sender ∨ f.ds.senderPort ≠ p.ds.senderPort)) }
  | none => { r with foreigns := [] }

theorem SesRun.unheard_alone {r : SesRun} {p : Foreign} (hp : r.parent = some p)
    (h : ∀ g ∈ r.foreigns, g.ds.sender = p.ds.sender ∧ g.ds.senderPort = p.ds.senderPort) : r.unheard = { r with foreigns := [] } := by
  have hall : r.foreigns.filter (fun f => decide (f.ds.sender ≠ p.ds.sender ∨ f.ds.senderPort ≠ p.ds.senderPort)) = [] := by
    refine List.filter_eq_nil_iff.mpr fun g hg => ?_
    simp [h g hg]
  unfold SesRun.unheard
  split
  next q hq =>
    cases hp.symm.trans hq
    rw [hall]
  next => rfl

theorem State.bestForeign_nil (h : x.run.foreigns = []) : s.bestForeign x = none := by
  rw [State.bestForeign, h]
  rfl

theorem announceTimeout_loses (hx : s.session? sid = some x) (hrole : x.cfg.role = 1) (hst : x.run.st = .uncalibrated ∨ x.run.st = .slave)
    {p : Foreign} (hp : x.run.parent = some p) (h : ∀ g ∈ x.run.foreigns, g.ds.sender = p.ds.sender ∧ g.ds.senderPort = p.ds.senderPort) :
    announceTimeout sid s = (s.modRun sid SesRun.unheard).sesTo sid .listening := by
  have hses := (State.modRun_sesTo hx SesRun.unheard .listening).1.1
  have hbest := State.bestForeign_nil (s := (s.modRun sid SesRun.unheard).sesTo sid .listening)
    (x := ({ x with run := x.run.unheard } : Session).entering .listening) (by simp [Session.entering, SesRun.unheard_alone hp h])
  have hgo : ¬ (x.cfg.role = 0 ∨ x.cfg.role = 3 ∨ x.run.st = .down ∨ x.run.st = .master) := by
    rcases hst with hst | hst <;> simp [hst, hrole]
  have hslave : x.run.st = .uncalibrated ∨ x.run.st = .slave ∨ x.run.st = .passive := by tauto
  have hfixed : x.cfg.role ≠ 2 := by omega
  rw [announceTimeout, hx]
  dsimp only
  rw [if_neg hgo, if_pos hslave, if_neg hfixed]
  split
  next y hy =>
    cases hy.symm.trans hses
    split
    next g hg => cases hg.symm.trans hbest
    next => rfl
  next => rfl

theorem announceTimeout_idle (h : ∀ x, s.session? sid = some x → x.cfg.role = 0 ∨ x.cfg.role = 3 ∨ x.run.st = .down ∨ x.run.st = .master) :
    announceTimeout sid s = s := by
  unfold announceTimeout
  split
  · rfl
  next x hx => exact if_pos (h x hx)

theorem m3Expiry_waited (hx : s.session? sid = some x) (hm3 : x.run.m3 = true) (hst : x.run.st ≠ .down) :
    m3Expiry sid s = if (s.inst x.cfg.tb).slaveOnly then s.modRun sid (fun r => { r with m3 := false }) else s.sesTo sid .master := by
  simp only [m3Expiry, hx, hm3, hst, Bool.true_eq_false, or_self, if_false]

theorem m3Expiry_idle (h : ∀ x, s.session? sid = some x → x.run.m3 = false ∨ x.run.st = .down) : m3Expiry sid s = s := by
  unfold m3Expiry
  split
  · rfl
  next x hx => exact if_pos (h x hx)

end

/-! ### The obligation -/

/-- Settles O42: a message sent by what enters IQ_TIME, one taken by the session that acts on it, a timeout by the session's change of state. -/
theorem sessionMessages : Obligations.SessionMessages := by
  refine ⟨fun s sid x hx hup hst hm3 hauth hring hgate hroom => ?_,
    fun s sid kind x hx hk h => congrArg Host.Outcome.next (ptpSend_idle hx hk h),
    fun s sid kind h => congrArg Host.Outcome.next (ptpSend_none kind h), fun s h => congrArg Host.Outcome.next (ptpTaken_idle h),
    fun s it f tr m hup hhead hmsg htaker => congrArg Host.Outcome.next (ptpTaken_untaken hup hhead hmsg htaker),
    fun s it f tr sid m x hup hhead hfcs hmsg htaker hx hauth htyp htwo hst hpar => ?_,
    fun s k hk hen hup hport hgate hroom hsorted => ?_, fun s k h => idxRow_idle (esmcSend k) rfl (esmcSend_idle h),
    fun s h => congrArg Host.Outcome.next (esmcReceived_idle h), fun s it f hup hhead hfcs o htlv hql => ?_, fun s k hk => ?_,
    fun s sid x hx hst => ?_, fun s sid h => congrArg Host.Outcome.next (syncLoss_idle h), fun s sid x f hx hrole hst hp h => ?_,
    fun s sid h => congrArg Host.Outcome.next (announceTimeout_idle h), fun s sid x hx hm3 hst hslave => ?_, fun s sid x hx hm3 hst hslave => ?_,
    fun s sid h => congrArg Host.Outcome.next (m3Expiry_idle h)⟩
  · obtain ⟨hbuf, hses, hkeeps⟩ := ptpSend_sync hx hup hst hm3 hauth hring hgate hroom
    exact ⟨_, rfl, hbuf, hses.1, hses.2, hkeeps⟩
  · have hses : SessionTo sid (some x.heard) ((s.consume it).setSession sid x.heard) s :=
      ((s.consume it).setSession_sessionTo sid x.heard).over (congrArg Ptp.sessions (s.consume_consumed it).ptp)
    have hrun := (State.modRun_sessionTo hses.1 (fun r => { r with
      sync := some { seq := m.seq, t1 := m.stampAt 34, t2 := s.planeTime x f.rx (-x.cfg.ingress), corr := m.corr, waiting := true,
                     coarse := f.rx.isCoarse, uncal := f.rx.uncal }
      logSyncRx := m.logInt })).trans hses
    refine ⟨_, congrArg Host.Outcome.next ((ptpTaken_acts hup hhead hfcs hmsg htaker hx hauth (by omega)).trans
      (State.actOn_sync f.rx htyp htwo hst hpar)), ?_, hrun.1, hrun.2⟩
    exact (State.modRun_keeps _ _ _).trans ((s.consume it).setSession_keeps sid x.heard)
  · obtain ⟨b, hsend⟩ := esmcSend_sends hen hup hport hgate hroom
    refine idxRow_completes (esmcSend k) rfl hk ?_
    rw [hsend]
    refine ⟨?_, ⟨b, rfl⟩, State.setEsmc_esmc_self hsorted k _, fun j hj => State.setEsmc_esmc_ne s _ hj⟩
    exact ((State.with_buf_keeps _ _).mono (by simp)).trans ((s.setEsmc_keeps k _).mono (by simp))
  · obtain ⟨e, hrow, hrx, hvalid, hfail, hpdus⟩ := esmcReceived_stores hup hhead hfcs htlv hql
    have hself := (s.consume it).setEsmc_esmc_heard f.inPort (.inl hvalid)
    refine ⟨_, congrArg Host.Outcome.next hrow, (s.consume it).setEsmc_keeps f.inPort e, ?_, ?_, ?_, ?_, fun j hj => ?_⟩
    · rw [hself, hrx]
    · rw [hself, hvalid]
    · rw [hself, hfail]
    · rw [hself, hpdus]
    · rw [State.setEsmc_esmc_ne _ _ hj, State.esmc_congr (s.consume_consumed it).ptp]
  · refine idxRow_completes (esmcTimeout k) rfl hk ?_
    have href : Referred (esmcTimeout k s) (s.setEsmc k { s.esmc k with failed := true, rxValid := false }) := State.checkQl_referred _ k
    refine ⟨?_, fun j hj => ?_, (href.keeps.mono (by simp)).trans ((s.setEsmc_keeps k _).mono (by simp))⟩
    · rw [href.esmc, State.setEsmc_esmc_heard _ _ (.inr rfl)]
    · rw [href.esmc, State.setEsmc_esmc_ne _ _ hj]
  · obtain ⟨hses, hkeeps⟩ := State.modRun_sesTo hx (fun r => { r with syncLoss := inc16 r.syncLoss }) .listening
    exact ⟨_, congrArg Host.Outcome.next (syncLoss_loses hx hst), ⟨_, hses.1, rfl, rfl, rfl, rfl⟩, hses.2, hkeeps⟩
  · obtain ⟨hses, hkeeps⟩ := State.modRun_sesTo hx SesRun.unheard .listening
    have hrun := SesRun.unheard_alone hp h
    refine ⟨_, congrArg Host.Outcome.next (announceTimeout_loses hx hrole hst hp h), ⟨_, hses.1, rfl, rfl, rfl, ?_, ?_⟩, hses.2, hkeeps⟩
    · exact (congrArg SesRun.foreigns hrun :)
    · exact (congrArg SesRun.syncLoss hrun :)
  · have hses := State.sesTo_sessionTo hx .master
    refine ⟨_, congrArg Host.Outcome.next ((m3Expiry_waited hx hm3 hst).trans (if_neg (by simp [hslave]))), ⟨_, hses.1, rfl, rfl, rfl⟩, hses.2⟩
  · have hses := State.modRun_sessionTo hx (fun r => { r with m3 := false })
    exact ⟨_, congrArg Host.Outcome.next ((m3Expiry_waited hx hm3 hst).trans (if_pos hslave)), hses.1, hses.2, s.modRun_keeps sid _⟩

end Sys2Proof.Machine
end

section
/-! References and the loop of TB0 (R352-R376): what a change of one reference, a failed check and a change of TB0's state leave of the other
references, of the loop and of the rest of the part. -/

namespace Sys2Proof.Machine

open Sys2Proof

theorem Tab.mem_of_find? {α : Type} {l : Tab α} {k : Nat} {x : α} (h : Tab.find? l k = some x) : (k, x) ∈ l := by
  induction l with
  | nil => simp [Tab.find?] at h
  | cons e l ih =>
    obtain ⟨a, v⟩ := e
    rw [Tab.find?] at h
    split at h
    next ha =>
      obtain rfl := Option.some.inj h
      exact ha ▸ List.mem_cons_self
    next => exact List.mem_cons_of_mem _ (ih h)

section
variable {s t u : State} {j k c : Nat} {r : RefRun}

/-! ### One reference changes (R357) -/

/-- The run of one reference has become `r`, and those of the others are as they were. -/
def RefTo (k : Nat) (r : RefRun) (t s : State) : Prop := t.refRun k = r ∧ ∀ j, j ≠ k → t.refRun j = s.refRun j

theorem State.refRun_congr (h : t.refs.runs = s.refs.runs) (k : Nat) : t.refRun k = s.refRun k := by rw [State.refRun, h, State.refRun]

theorem RefTo.of_runs (h : RefTo k r t s) (hu : u.refs.runs = t.refs.runs) : RefTo k r u s :=
  ⟨(State.refRun_congr hu k).trans h.1, fun j hj => (State.refRun_congr hu j).trans (h.2 j hj)⟩

theorem RefTo.trans {q : RefRun} (h : RefTo k r u t) (hs : RefTo k q t s) : RefTo k r u s :=
  ⟨h.1, fun j hj => (h.2 j hj).trans (hs.2 j hj)⟩

theorem State.setRefRun_refTo (hs : Tab.sorted s.refs.runs = true) (k : Nat) (r : RefRun) : RefTo k r (s.setRefRun k r) s :=
  ⟨Tab.get_put_self _ _ _ hs, fun _ hj => Tab.get_put_ne _ _ _ hj⟩

theorem State.with_refs_keeps (s : State) (r : Refs) : ({ s with refs := r } : State).keeps s [.refs] := by
  intro q hq
  cases q <;> simp [Part.same] at hq ⊢

theorem State.setRefRun_keeps (s : State) (k : Nat) (r : RefRun) : (s.setRefRun k r).keeps s [.refs] := s.with_refs_keeps _

/-- A reference that is not OFF is one of those the part goes through in every tick. -/
theorem State.mem_refIds (h : (s.refRun k).q ≠ .off) : k ∈ s.refIds := by
  unfold State.refRun Tab.get at h
  cases hk : Tab.find? s.refs.runs k with
  | none => simp [hk, refRunReset] at h
  | some r =>
    have hmem : (k, r) ∈ s.refs.runs := Tab.mem_of_find? hk
    simp only [hk, Option.getD_some] at h
    exact List.mem_map.mpr ⟨(k, r), List.mem_filter.mpr ⟨hmem, by simpa using h⟩, rfl⟩

/-- Writing one reference brings no other among them. -/
theorem State.mem_refIds_of_setRefRun (h : j ∈ (s.setRefRun k r).refIds) (hj : j ≠ k) : j ∈ s.refIds := by
  obtain ⟨e, he, rfl⟩ := List.mem_map.mp h
  obtain ⟨hput, hq⟩ := List.mem_filter.mp he
  obtain rfl | hold := Tab.mem_put hput
  · exact absurd rfl hj
  · exact List.mem_map.mpr ⟨e, List.mem_filter.mpr ⟨hold, hq⟩, rfl⟩

/-! ### A check fails (R357) -/

/-- QUALIFYING, WTR or QUALIFIED: the states a failed check ends. -/
def RefRun.Passing (r : RefRun) : Prop := r.q = .qualifying ∨ r.q = .wtr ∨ r.q = .qualified

/-- The run of a reference whose check has failed. -/
def RefRun.failed (r : RefRun) (c : Nat) : RefRun :=
  { r with q := .disqualified, cause := c, everDisq := true, disqCount := inc16 r.disqCount }

theorem RefRun.not_passing_of_off (h : r.q = .off) : ¬ r.Passing := by simp [RefRun.Passing, h]

theorem RefRun.not_passing_failed (r : RefRun) (c : Nat) : ¬ (r.failed c).Passing := by simp [RefRun.Passing, RefRun.failed]

theorem Logged.refs (h : Logged t s) : t.refs = s.refs := by
  obtain ⟨_, _, _, _, _, _, rfl⟩ := h
  rfl

theorem State.checkTarget_of_ne (h : s.refs.st ≠ .switching) : s.checkTarget = s := if_neg h

theorem State.refFail_idle (h : ¬ (s.refRun k).Passing) (c : Nat) : s.refFail k c = s := if_neg h

/-- While no switch is in progress, a failed check changes its reference, and raises an event. -/
theorem State.refFail_logged (hst : s.refs.st ≠ .switching) (h : (s.refRun k).Passing) (c : Nat) :
    Logged (s.refFail k c) (s.setRefRun k ((s.refRun k).failed c)) := by
  have hevent : Logged ((s.setRefRun k ((s.refRun k).failed c)).queueEvent .timing none) (s.setRefRun k ((s.refRun k).failed c)) :=
    State.queueEvent_logged _ _ _
  have hfail : s.refFail k c = ((s.setRefRun k ((s.refRun k).failed c)).queueEvent .timing none).checkTarget := if_pos h
  rw [hfail, State.checkTarget_of_ne (by rw [hevent.refs]; exact hst)]
  exact hevent

/-! ### The frequency check of every reference (R356) -/

/-- The frequency check of one reference. -/
def State.pullStep (s : State) (k : Nat) : State := if s.outOfPull k then s.refFail k 2 else s

theorem State.pullStep_of_within (h : s.outOfPull k = false) : s.pullStep k = s := if_neg (by simp [h])

theorem State.foldl_pullStep_self {l : List Nat} (h : ∀ k ∈ l, s.pullStep k = s) : l.foldl State.pullStep s = s :=
  List.foldlRecOn (motive := (· = s)) _ _ rfl fun t ht k hk => by rw [ht, h k hk]

/-- With every reference within PULL_RANGE the frequency checks change nothing. -/
theorem State.checkPull_of_within (h : ∀ k ∈ s.refIds, s.outOfPull k = false) : s.checkPull = s :=
  State.foldl_pullStep_self fun k hk => State.pullStep_of_within (h k hk)

/-- With one reference alone beyond PULL_RANGE, while no switch is in progress, its check alone fails. -/
theorem State.checkPull_of_one (hs : Tab.sorted s.refs.runs = true) (hst : s.refs.st ≠ .switching) (hq : (s.refRun k).Passing)
    (hk : s.outOfPull k = true) (hothers : ∀ j ∈ s.refIds, j ≠ k → s.outOfPull j = false) : s.checkPull = s.refFail k 2 := by
  have hlog := State.refFail_logged hst hq 2
  obtain ⟨hself, hne⟩ := (State.setRefRun_refTo hs k ((s.refRun k).failed 2)).of_runs (congrArg Refs.runs hlog.refs)
  have hmem : k ∈ s.refIds := State.mem_refIds (by obtain h | h | h := hq <;> simp [h])
  have hfailed : ∀ j ∈ s.refIds, (s.refFail k 2).pullStep j = s.refFail k 2 := by
    intro j hj
    obtain rfl | hjk := eq_or_ne j k
    · have hdone : (s.refFail j 2).refFail j 2 = s.refFail j 2 :=
        State.refFail_idle (by rw [hself]; exact RefRun.not_passing_failed _ _) 2
      rw [State.pullStep, hdone, ite_self]
    · have hpull : (s.refFail k 2).outOfPull j = s.outOfPull j := by rw [State.outOfPull, hne j hjk, hlog.refs]; rfl
      exact State.pullStep_of_within (hpull.trans (hothers j hj hjk))
  obtain ⟨before, after, hids, hbefore⟩ := List.eq_append_cons_of_mem hmem
  calc s.checkPull = (before ++ k :: after).foldl State.pullStep s := by rw [← hids]; rfl
    _ = after.foldl State.pullStep (s.pullStep k) := by
      have hfirst : before.foldl State.pullStep s = s := State.foldl_pullStep_self fun j hj =>
        State.pullStep_of_within (hothers j (by simp [hids, hj]) fun h => hbefore (h ▸ hj))
      rw [List.foldl_append, hfirst, List.foldl_cons]
    _ = s.refFail k 2 := by
      rw [State.pullStep, if_pos hk]
      exact State.foldl_pullStep_self fun j hj => hfailed j (by simp [hids, hj])

/-! ### TB0 changes state (R365) -/

theorem Logged.steer (h : Logged t s) : t.clk.steer = s.clk.steer ∧ t.clk.steerTo = s.clk.steerTo := by
  obtain ⟨_, _, _, _, _, _, rfl⟩ := h
  exact ⟨rfl, rfl⟩

/-- TB0 has entered a state; the selection, the bandwidth, the dispute and the steering are as they were. -/
structure Tb0To (n : Tb0St) (t s : State) : Prop where
  st : t.refs.st = n
  sel : t.refs.sel = s.refs.sel
  bwNow : t.refs.bwNow = s.refs.bwNow
  disputed : t.refs.disputed = s.refs.disputed
  steer : t.clk.steer = s.clk.steer
  steerTo : t.clk.steerTo = s.clk.steerTo
  keeps : t.keeps s [.refs, .clk, .tbs, .cru, .buf]

theorem Tb0To.logged {n : Tb0St} (h : Tb0To n t s) (hu : Logged u t) : Tb0To n u s where
  st := (congrArg Refs.st hu.refs).trans h.st
  sel := (congrArg Refs.sel hu.refs).trans h.sel
  bwNow := (congrArg Refs.bwNow hu.refs).trans h.bwNow
  disputed := (congrArg Refs.disputed hu.refs).trans h.disputed
  steer := hu.steer.1.trans h.steer
  steerTo := hu.steer.2.trans h.steerTo
  keeps := (hu.keeps.mono (by simp)).trans h.keeps

theorem State.setTb0_tb0To (s : State) {n : Tb0St} (hn : n ≠ .fault) : Tb0To n (s.setTb0 n) s := by
  unfold State.setTb0
  dsimp only
  split
  next h => exact ⟨h.symm, rfl, rfl, rfl, rfl, rfl, .refl s _⟩
  next =>
    refine Tb0To.logged ?_ (State.event_record_logged _ _ _ _ _ _ _)
    exact ⟨rfl, rfl, rfl, rfl, rfl, rfl, ((State.modTb_keeps _ _ _).mono (by simp)).trans ((s.with_refs_keeps _).mono (by simp))⟩

end

end Sys2Proof.Machine
end

section
/-! The qualification of references (R356, R357) and the rows of TB0's loop (R365-R375): each row, and the statement on them. -/

namespace Sys2Proof.Machine

open Sys2Proof

section
variable {s : State} {k c : Nat}

/-! ### Qualification (R357) -/

theorem refChecksPass_passes (hq : (s.refRun k).q = .disqualified) (hok : s.refCanPass k = true) :
    refChecksPass k State.refCanPass s = s.setRefRun k { s.refRun k with q := .qualifying, since := s.clk.tick } := if_pos ⟨hq, hok⟩

theorem State.refTimeOver_of_le {secs : Nat} (h : (s.refRun k).since < s.clk.tick) (hle : (s.refRun k).since + secs * 1250000000 ≤ s.clk.tick) :
    s.refTimeOver k secs = true := decide_eq_true ⟨h, hle⟩

theorem State.refTimeOver_of_since (h : s.clk.tick ≤ (s.refRun k).since) (secs : Nat) : s.refTimeOver k secs = false :=
  decide_eq_false fun ⟨hlt, _⟩ => by omega

theorem refQualExpiry_expires (hq : (s.refRun k).q = .qualifying) (ht : s.refTimeOver k (s.refRank k).qualTime = true) :
    refQualExpiry k s =
      s.setRefRun k { s.refRun k with q := if (s.refRun k).everDisq then .wtr else .qualified, since := s.clk.tick } := if_pos ⟨hq, ht⟩

theorem refQualExpiry_idle (h : (s.refRun k).q = .off ∨ s.clk.tick ≤ (s.refRun k).since) : refQualExpiry k s = s :=
  if_neg fun ⟨hq, ht⟩ => by
    obtain hoff | hle := h
    · simp [hoff] at hq
    · simp [State.refTimeOver_of_since hle] at ht

theorem refWtrExpiry_expires (hq : (s.refRun k).q = .wtr) (ht : s.refTimeOver k (s.refRank k).wtrTime = true) :
    refWtrExpiry k s = s.setRefRun k { s.refRun k with q := .qualified } := if_pos ⟨hq, ht⟩

theorem refWtrExpiry_idle (h : (s.refRun k).q = .off ∨ s.clk.tick ≤ (s.refRun k).since) : refWtrExpiry k s = s :=
  if_neg fun ⟨hq, ht⟩ => by
    obtain hoff | hle := h
    · simp [hoff] at hq
    · simp [State.refTimeOver_of_since hle] at ht

/-! ### A failed check (R356, R381) -/

/-- What the state or the signal shows of a reference whose check fails, with the CAUSE. -/
def State.Fails (s : State) (k c : Nat) (why : RefWhy) : Prop :=
  (k < 8 ∧ (s.refCfg k).pps = true ∧ c = 1 ∧ why = .gap 1500000000001) ∨
    (k < 8 ∧ (s.refCfg k).pps = true ∧ c = 6 ∧ why = .strays [1000001, -1000001, 1000001]) ∨
    (8 ≤ k ∧ k < 16 ∧ s.laneUsable (s.refCfg k).lane = false ∧ c = 3 ∧ why = .state) ∨
    (8 ≤ k ∧ k < 16 ∧ s.laneUsable (s.refCfg k).lane = true ∧ (s.esmc (s.portOfLane (s.refCfg k).lane)).rxQl = 0xF ∧ c = 4 ∧
      why = .state) ∨
    (0x400 ≤ k ∧ s.packetRef k = none ∧ c = 5 ∧ why = .state)

theorem refCheckFail_of_fails {why : RefWhy} (h : s.Fails k c why) : refCheckFail k why s = s.refFail k c := by
  obtain ⟨hk, hpps, rfl, rfl⟩ | ⟨hk, hpps, rfl, rfl⟩ | ⟨h8, h16, huse, rfl, rfl⟩ | ⟨h8, h16, huse, hql, rfl, rfl⟩ |
    ⟨hk, hses, rfl, rfl⟩ := h
  · simp [refCheckFail, hk, hpps]
  · simp [refCheckFail, hk, hpps]
  · simp [refCheckFail, Nat.not_lt.mpr h8, h16, huse]
  · simp [refCheckFail, Nat.not_lt.mpr h8, h16, huse, hql]
  · simp [refCheckFail, show ¬ k < 8 by omega, show ¬ k < 16 by omega, hses]

/-- A check other than that of its frequency leaves the part as it is, or fails with some cause. -/
theorem refCheckFail_or (s : State) (k : Nat) {why : RefWhy} (hw : ∀ f, why ≠ .freq f) :
    refCheckFail k why s = s ∨ ∃ c, refCheckFail k why s = s.refFail k c := by
  cases why with
  | gap ps => exact (ite_eq_or_eq _ _ _).symm.imp_right fun h => ⟨1, h⟩
  | strays l => exact (ite_eq_or_eq _ _ _).symm.imp_right fun h => ⟨6, h⟩
  | freq f => exact absurd rfl (hw f)
  | state =>
    unfold refCheckFail
    dsimp only
    (repeat' split)
    · exact .inl rfl
    · exact .inr ⟨3, rfl⟩
    · exact .inr ⟨4, rfl⟩
    · exact .inl rfl
    · exact .inr ⟨5, rfl⟩
    · exact .inl rfl

theorem refCheckFail_off (hq : (s.refRun k).q = .off) {why : RefWhy} (hw : ∀ f, why ≠ .freq f) : refCheckFail k why s = s := by
  obtain h | ⟨c, h⟩ := refCheckFail_or s k hw
  · exact h
  · exact h.trans (State.refFail_idle (RefRun.not_passing_of_off hq) c)

/-- FREQ_OFF of a reference is measured. -/
theorem State.measured_freq {f : Int} (hk : k < 0x400) (hq : (s.refRun k).q ≠ .off) (hmin : -(2 ^ 31) ≤ f) (hmax : f < 2 ^ 31) :
    s.measured { ref := k, freq := f } = s.setRefRun k { s.refRun k with freqOff := f } := by
  have hclamp : clampZ (-(2 ^ 31)) (2 ^ 31 - 1) f = f := by
    unfold clampZ
    omega
  rw [State.measured, if_neg (by simp [hq]; omega), hclamp]
  rfl

theorem refCheckFail_freq {f : Int} (hk : k < 0x400) (hs : Tab.sorted s.refs.runs = true) (hst : s.refs.st ≠ .switching)
    (hq : (s.refRun k).q = .qualified) (hothers : ∀ j ∈ s.refIds, j ≠ k → s.outOfPull j = false) (hmin : -(2 ^ 31) ≤ f) (hmax : f < 2 ^ 31)
    (hpull : 1000 * s.refs.pullRange < f.natAbs) :
    RefTo k (({ s.refRun k with freqOff := f } : RefRun).failed 2) (refCheckFail k (.freq f) s) s := by
  let u := s.setRefRun k { s.refRun k with freqOff := f }
  have hu : RefTo k { s.refRun k with freqOff := f } u s := State.setRefRun_refTo hs k _
  have hsorted : Tab.sorted u.refs.runs = true := Tab.sorted_put _ _ hs
  have hpass : (u.refRun k).Passing := by rw [hu.1]; exact .inr (.inr hq)
  have hrow : refCheckFail k (.freq f) s = u.checkPull := by
    rw [refCheckFail, if_neg (by simp [hq]), State.measured_freq hk (by simp [hq]) hmin hmax]
  have hout : u.outOfPull k = true := by rw [State.outOfPull, hu.1]; exact decide_eq_true hpull
  have hwithin : ∀ j ∈ u.refIds, j ≠ k → u.outOfPull j = false := fun j hj hjk => by
    rw [State.outOfPull, hu.2 j hjk]
    exact hothers j (State.mem_refIds_of_setRefRun hj hjk) hjk
  rw [hrow, State.checkPull_of_one hsorted hst hpass hout hwithin]
  have hfail := State.refFail_logged (s := u) hst hpass 2
  rw [← hu.1]
  exact ((State.setRefRun_refTo hsorted k _).of_runs (congrArg Refs.runs hfail.refs)).trans hu

/-! ### The loop changes state and bandwidth (R365, R370) -/

/-- The loop has entered a state at a bandwidth, with the steering to move towards a value; the selection is as it was. -/
structure LoopTo (n : Tb0St) (b : Nat) (x : Int) (t s : State) : Prop where
  st : t.refs.st = n
  bwNow : t.refs.bwNow = b
  sel : t.refs.sel = s.refs.sel
  steer : t.clk.steer = s.clk.steer
  steerTo : t.clk.steerTo = clampZ (-28147497671) 28147497671 x
  keeps : t.keeps s [.refs, .clk, .tbs, .cru, .buf]

theorem State.with_clk_keeps (s : State) (c : Clk) : ({ s with clk := c } : State).keeps s [.clk] := by
  intro q hq
  cases q <;> simp [Part.same] at hq ⊢

theorem State.steerTowards_setBw_keeps (s : State) (x : Int) (b : Nat) : ((s.steerTowards x).setBw b).keeps s [.refs, .clk] :=
  ((State.with_refs_keeps _ _).mono (by simp)).trans ((s.with_clk_keeps _).mono (by simp))

theorem State.steerTowards_setBw_setTb0 (s : State) (x : Int) (b : Nat) {n : Tb0St} (hn : n ≠ .fault) :
    LoopTo n b x (((s.steerTowards x).setBw b).setTb0 n) s :=
  have h := ((s.steerTowards x).setBw b).setTb0_tb0To hn
  ⟨h.st, h.bwNow, h.sel, h.steer, h.steerTo, h.keeps.trans ((s.steerTowards_setBw_keeps x b).mono (by simp))⟩

/-! ### A switch is over (R365, R367) -/

theorem State.switchMeasured_of_window (hsel : s.refs.sel < 0x400) (hc : s.carriesTime s.refs.sel = false)
    (h : s.refs.switchSince + 12500000 ≤ s.clk.tick) : s.switchMeasured = true := by
  simp [State.switchMeasured, Nat.not_le.mpr hsel, hc, h]

theorem State.switchMeasured_of_few (h : (0x400 ≤ s.refs.sel ∧ s.refs.switchSeen < 4) ∨
    (s.refs.sel < 0x400 ∧ s.carriesTime s.refs.sel = true ∧ s.refs.switchSeen < 2)) : s.switchMeasured = false := by
  obtain ⟨hsel, hseen⟩ | ⟨hsel, hc, hseen⟩ := h
  · simp [State.switchMeasured, hsel, hseen]
  · simp [State.switchMeasured, Nat.not_le.mpr hsel, hc, hseen]

/-- Within 100 ppb the loop goes on at the tracking bandwidth, beyond at the acquisition bandwidth. -/
theorem switchComplete_hands_over (f : Int) (hst : s.refs.st = .switching) (hsel : s.refs.sel < 0x400) (hm : s.switchMeasured = true) :
    ∃ b, LoopTo (if (f - roundDiv (s.clk.steerTo * 10 ^ 12) (2 ^ 48)).natAbs ≤ 100000 then .lockNarrow else .acquire) b (State.steerOf f)
      (switchComplete f s) s := by
  have hrow : switchComplete f s =
      if (f - roundDiv (s.clk.steerTo * 10 ^ 12) (2 ^ 48)).natAbs ≤ 100000 then
        ((s.steerTowards (State.steerOf f)).setBw (s.trackBwNow * 65536)).setTb0 .lockNarrow
      else ((s.steerTowards (State.steerOf f)).setBw (s.acqBw * 65536)).setTb0 .acquire := by
    rw [switchComplete, if_neg (by simp [hst, hm]), if_neg (Nat.not_le.mpr hsel)]
    rfl
  rw [hrow]
  split
  · exact ⟨_, s.steerTowards_setBw_setTb0 _ _ (by simp)⟩
  · exact ⟨_, s.steerTowards_setBw_setTb0 _ _ (by simp)⟩

theorem switchComplete_idle (f : Int) (h : s.refs.st ≠ .switching ∨ s.switchMeasured = false) : switchComplete f s = s := if_pos h

/-! ### Lock (R365, R366) -/

theorem sixteen_iff {p : Int → Bool} {errs : List Int} : sixteen p errs = true ↔ 16 ≤ errs.length ∧ ∀ e ∈ errs.take 16, p e = true := by
  simp [sixteen]

theorem sixteen_false {p : Int → Bool} {errs : List Int} (h : errs.length < 16 ∨ ∃ e ∈ errs.take 16, p e = false) :
    sixteen p errs = false := by
  refine Bool.eq_false_iff.mpr fun hs => ?_
  obtain ⟨hlen, hall⟩ := sixteen_iff.mp hs
  obtain hshort | ⟨e, he, hp⟩ := h
  · omega
  · simp [hall e he] at hp

theorem lockDetected_locks (off : Int) {errs : List Int} (hst : s.refs.st = .acquire) (hlen : 16 ≤ errs.length)
    (herr : ∀ e ∈ errs.take 16, e.natAbs ≤ 100000) :
    LoopTo (if s.trackBwNow < s.acqBw then .lockWide else .lockNarrow) (65536 * (if s.trackBwNow < s.acqBw then s.acqBw else s.trackBwNow))
      (State.steerOf off) (lockDetected off errs s) s := by
  have hsixteen : sixteen (fun e => decide (e.natAbs ≤ 100000)) errs = true := sixteen_iff.mpr ⟨hlen, fun e he => decide_eq_true (herr e he)⟩
  have hrow : lockDetected off errs s =
      if s.trackBwNow < s.acqBw then ((s.steerTowards (State.steerOf off)).setBw (s.acqBw * 65536)).setTb0 .lockWide
      else ((s.steerTowards (State.steerOf off)).setBw (s.trackBwNow * 65536)).setTb0 .lockNarrow := if_neg (by simp [hst, hsixteen])
  rw [hrow, Nat.mul_comm]
  split
  · exact s.steerTowards_setBw_setTb0 _ _ (by simp)
  · exact s.steerTowards_setBw_setTb0 _ _ (by simp)

theorem lockDetected_idle (off : Int) {errs : List Int}
    (h : s.refs.st ≠ .acquire ∨ errs.length < 16 ∨ ∃ e ∈ errs.take 16, 100000 < e.natAbs) : lockDetected off errs s = s :=
  if_pos (h.imp_right fun h => sixteen_false (h.imp_right fun ⟨e, he, hlt⟩ => ⟨e, he, by simpa using hlt⟩))

theorem lockLost_returns {errs : List Int} (hst : s.refs.st = .lockWide ∨ s.refs.st = .lockNarrow) (hlen : 16 ≤ errs.length)
    (herr : ∀ e ∈ errs.take 16, 1000000 < e.natAbs) : Tb0To .acquire (lockLost errs s) (s.setBw (s.acqBw * 65536)) := by
  have hsixteen : sixteen (fun e => decide (1000000 < e.natAbs)) errs = true := sixteen_iff.mpr ⟨hlen, fun e he => decide_eq_true (herr e he)⟩
  have hrow : lockLost errs s = s.setAcqBw.setTb0 .acquire := if_pos ⟨hst, hsixteen⟩
  rw [hrow]
  exact s.setAcqBw.setTb0_tb0To (by simp)

theorem lockLost_idle {errs : List Int}
    (h : (s.refs.st ≠ .lockWide ∧ s.refs.st ≠ .lockNarrow) ∨ errs.length < 16 ∨ ∃ e ∈ errs.take 16, e.natAbs ≤ 1000000) :
    lockLost errs s = s := by
  refine if_neg fun ⟨hst, hsixteen⟩ => ?_
  obtain ⟨hwide, hnarrow⟩ | h := h
  · exact hst.elim hwide hnarrow
  · have hfalse := sixteen_false (p := fun e => decide (1000000 < e.natAbs)) (h.imp_right fun ⟨e, he, hle⟩ => ⟨e, he, by simpa using hle⟩)
    simp [hfalse] at hsixteen

/-! ### The bandwidth narrows (R370) -/

theorem narrowStep_narrows (off : Int) {worst : Nat} (hst : s.refs.st = .lockWide) (hw : worst ≤ 100000)
    (hdwell : 2 * 65536 * 1000 * 1250000000 ≤ (s.clk.tick - s.refs.dwellSince) * s.refs.bwNow) :
    (narrowStep off worst s).refs.bwNow = max (s.trackBwNow * 65536) (s.refs.bwNow / 4) ∧
      (narrowStep off worst s).refs.st = (if s.refs.bwNow / 4 ≤ s.trackBwNow * 65536 then .lockNarrow else .lockWide) := by
  have hrow : narrowStep off worst s =
      if max (s.trackBwNow * 65536) (s.refs.bwNow / 4) ≤ s.trackBwNow * 65536 then
        ((s.steerTowards (State.steerOf off)).setBw (max (s.trackBwNow * 65536) (s.refs.bwNow / 4))).setTb0 .lockNarrow
      else (s.steerTowards (State.steerOf off)).setBw (max (s.trackBwNow * 65536) (s.refs.bwNow / 4)) := by
    rw [narrowStep, if_neg (by simp [hst]), if_neg (Nat.not_lt.mpr hw), ticksPerSec, if_neg (Nat.not_lt.mpr hdwell)]
    rfl
  have hmax : max (s.trackBwNow * 65536) (s.refs.bwNow / 4) ≤ s.trackBwNow * 65536 ↔ s.refs.bwNow / 4 ≤ s.trackBwNow * 65536 := by
    rw [max_le_iff, and_iff_right le_rfl]
  rw [hrow]
  simp only [hmax]
  split
  · have h := s.steerTowards_setBw_setTb0 (State.steerOf off) (max (s.trackBwNow * 65536) (s.refs.bwNow / 4)) (n := .lockNarrow) (by simp)
    exact ⟨h.bwNow, h.st⟩
  · exact ⟨rfl, hst⟩

theorem narrowStep_restarts (off : Int) {worst : Nat} (hst : s.refs.st = .lockWide) (hw : 100000 < worst) :
    narrowStep off worst s = { s with refs := { s.refs with dwellSince := s.clk.tick } } := by
  rw [narrowStep, if_neg (by simp [hst]), if_pos hw]

theorem narrowStep_idle (off : Int) (worst : Nat) (hst : s.refs.st ≠ .lockWide) : narrowStep off worst s = s := if_pos hst

/-! ### History, prediction and fit (R374, R375) -/

theorem histValidSet_sets (f c : Int) (hst : s.refs.st = .lockNarrow)
    (ht : s.refs.narrowSince + (s.refs.histWin + s.refs.histGuard) * 1250000000 ≤ s.clk.tick) :
    histValidSet f c s = { s with refs := { s.refs with
      histValid := true, fH := f, tH := c, midH := s.clk.tick - (s.refs.histGuard + s.refs.histWin / 2) * 1250000000 } } :=
  if_neg fun h => h.elim (· hst) (Nat.not_lt.mpr ht)

theorem histValidSet_idle (f c : Int)
    (h : s.refs.st ≠ .lockNarrow ∨ s.clk.tick < s.refs.narrowSince + (s.refs.histWin + s.refs.histGuard) * 1250000000) :
    histValidSet f c s = s := if_pos h

/-- The temperature is noted in every state; it moves the steering in HOLDOVER and in a switch out of it. -/
theorem predictionUpdate_cases (die : Int) (ext : Option Int) (s : State) :
    ∃ u : State, u = { s with refs := { s.refs with
        temp := if s.refs.tempSel then ext.getD die else die, tempFallback := s.refs.tempSel && ext.isNone } } ∧
      predictionUpdate die ext s =
        if s.refs.st = .holdover ∨ (s.refs.st = .switching ∧ s.refs.fromHoldover = true) then
          u.steerTowards (roundDiv (s.prediction15 u.refs.temp * 2 ^ 48) (10 ^ 15))
        else u := ⟨_, rfl, rfl⟩

theorem fitSample_idle (f c : Int) (h : s.refs.st ≠ .lockNarrow) : fitSample f c s = s := if_pos (.inl h)

/-- Before 24 h of means have gathered, a mean joins them and the two temperature coefficients alone are fitted. -/
theorem fitSample_learns (f c : Int) (hst : s.refs.st = .lockNarrow) (hl : s.refs.learn = true) (hlen : s.refs.fits.length + 1 < 1440) :
    ∃ c₁ c₂, fitSample f c s = { s with refs := { s.refs with fits := (f, c, s.clk.tick) :: s.refs.fits, c1 := c₁, c2 := c₂ } } := by
  have hlearns : ¬ (s.refs.st ≠ .lockNarrow ∨ s.refs.learn = false) := by simp [hst, hl]
  exact ⟨_, _, (if_neg hlearns).trans (if_neg (Nat.not_le.mpr hlen))⟩

end

/-! ### The statement -/

/-- Settles O36: each row as one change of the reference's run or of the loop's state, or as none. -/
theorem referencesAndLoop : Obligations.ReferencesAndLoop := by
  refine ⟨fun s k hs hq hok => ?_, fun s k hs hq hlt hle => ?_, fun s k hs hq hlt hle => ?_, fun s k c why hs hst hq hfail => ?_,
    fun s k f hk hs hst hq hothers hmin hmax hpull => ?_, fun s k hq => ?_, fun s k h => ?_, fun s f hst hsel hc ht => ?_, fun s f h => ?_,
    fun s off errs hst hlen herr => ?_, fun s off errs h => congrArg Host.Outcome.next (lockDetected_idle off h),
    fun s errs hst hlen herr => ?_, fun s errs h => congrArg Host.Outcome.next (lockLost_idle h), fun s off worst hst hw hdwell => ?_,
    fun s off worst hst hw => congrArg Host.Outcome.next (narrowStep_restarts off hst hw),
    fun s off worst hst => congrArg Host.Outcome.next (narrowStep_idle off worst hst), fun s f c hst ht => ?_,
    fun s f c ht => congrArg Host.Outcome.next (histValidSet_idle f c (.inr ht)), fun s f c hst => ?_, fun s die ext => ?_,
    fun s f c hst hl hlen => ?_⟩
  · have hto := State.setRefRun_refTo hs k { s.refRun k with q := .qualifying, since := s.clk.tick }
    exact ⟨_, congrArg Host.Outcome.next (refChecksPass_passes hq hok), hto.1, hto.2, State.setRefRun_keeps _ _ _⟩
  · have hto := State.setRefRun_refTo hs k
      { s.refRun k with q := if (s.refRun k).everDisq then .wtr else .qualified, since := s.clk.tick }
    exact ⟨_, congrArg Host.Outcome.next (refQualExpiry_expires hq (State.refTimeOver_of_le hlt hle)), hto.1, hto.2, State.setRefRun_keeps _ _ _⟩
  · have hto := State.setRefRun_refTo hs k { s.refRun k with q := .qualified }
    exact ⟨_, congrArg Host.Outcome.next (refWtrExpiry_expires hq (State.refTimeOver_of_le hlt hle)), hto.1, hto.2, State.setRefRun_keeps _ _ _⟩
  · have hlog := State.refFail_logged hst hq c
    have hto := (State.setRefRun_refTo hs k ((s.refRun k).failed c)).of_runs (congrArg Refs.runs hlog.refs)
    exact ⟨_, congrArg Host.Outcome.next (refCheckFail_of_fails hfail), hto.1, hto.2, (congrArg Refs.st hlog.refs :),
      (congrArg Refs.sel hlog.refs :), (hlog.keeps.mono (by simp)).trans ((s.setRefRun_keeps k _).mono (by simp))⟩
  · have hto := refCheckFail_freq hk hs hst hq hothers hmin hmax hpull
    exact ⟨_, rfl, hto.1, hto.2⟩
  · exact ⟨congrArg Host.Outcome.next (if_neg (by simp [hq])), congrArg Host.Outcome.next (refQualExpiry_idle (.inl hq)),
      congrArg Host.Outcome.next (refWtrExpiry_idle (.inl hq)), fun w hw => congrArg Host.Outcome.next (refCheckFail_off hq hw)⟩
  · exact ⟨congrArg Host.Outcome.next (refQualExpiry_idle (.inr h)), congrArg Host.Outcome.next (refWtrExpiry_idle (.inr h))⟩
  · obtain ⟨_, hloop⟩ := switchComplete_hands_over f hst hsel (State.switchMeasured_of_window hsel hc ht)
    exact ⟨_, rfl, hloop.st, hloop.sel, hloop.steerTo, hloop.steer, hloop.keeps⟩
  · exact congrArg Host.Outcome.next (switchComplete_idle f (h.imp_right State.switchMeasured_of_few))
  · have hloop := lockDetected_locks off hst hlen herr
    exact ⟨_, rfl, hloop.st, hloop.bwNow, hloop.steerTo, hloop.keeps⟩
  · have htb := lockLost_returns hst hlen herr
    exact ⟨_, rfl, htb.st, htb.bwNow, htb.sel⟩
  · exact ⟨_, rfl, narrowStep_narrows off hst hw hdwell⟩
  · exact ⟨_, congrArg Host.Outcome.next (histValidSet_sets f c hst ht), rfl, rfl, rfl, rfl, s.with_refs_keeps _⟩
  · exact ⟨congrArg Host.Outcome.next (histValidSet_idle f c (.inl hst)), congrArg Host.Outcome.next (fitSample_idle f c hst)⟩
  · obtain ⟨u, rfl, hrow⟩ := predictionUpdate_cases die ext s
    refine ⟨_, congrArg Host.Outcome.next hrow, ?_⟩
    split
    next hact =>
      refine ⟨rfl, fun hhold hsw => ?_, fun _ => ⟨rfl, rfl⟩, ?_⟩
      · exact absurd hact (by simp [hhold, hsw])
      · exact ((State.with_clk_keeps _ _).mono (by simp)).trans ((s.with_refs_keeps _).mono (by simp))
    next hrest => exact ⟨rfl, fun _ _ => rfl, fun hhold => absurd (.inl hhold) hrest, (s.with_refs_keeps _).mono (by simp)⟩
  · obtain ⟨_, _, hrow⟩ := fitSample_learns f c hst hl hlen
    exact ⟨_, congrArg Host.Outcome.next hrow, rfl, rfl, s.with_refs_keeps _⟩

end Sys2Proof.Machine
end

section
/-! The evaluation of the selection (R359-R362, R365): when one is made, what it leaves without a reference and with one candidate of best rank. -/

namespace Sys2Proof.Machine

open Sys2Proof

section
variable {s : State} {k b n : Nat}

/-! ### OUTVOTED ends (R363) -/

/-- A reference's run as an evaluation finds it: no longer OUTVOTED once it is within QUAL_LIMIT of its winner. -/
def State.unvoted (s : State) (r : RefRun) : RefRun :=
  match r.outvoted with
  | some w => if s.differ r.freqOff (s.refRun w).freqOff then r else { r with outvoted := none }
  | none => r

theorem State.unvoted_q (s : State) (r : RefRun) : (s.unvoted r).q = r.q := by
  unfold State.unvoted
  (repeat' split) <;> rfl

theorem State.unvoted_of_none {r : RefRun} (h : r.outvoted = none) : s.unvoted r = r := by
  rw [State.unvoted, h]

theorem State.unvote_runs (s : State) : s.unvote.refs.runs = Tab.mapVal (fun _ => s.unvoted) s.refs.runs := by
  refine List.map_congr_left fun e _ => ?_
  cases hout : e.2.outvoted with
  | none => simp only [State.unvoted, hout]
  | some w =>
    simp only [State.unvoted, hout]
    split <;> rfl

theorem State.unvote_q (s : State) (k : Nat) : (s.unvote.refRun k).q = (s.refRun k).q := by
  rw [State.refRun, Tab.get, State.unvote_runs, Tab.find?_mapVal, State.refRun, Tab.get]
  cases Tab.find? s.refs.runs k with
  | none => rfl
  | some r => exact s.unvoted_q r

theorem State.unvote_of_none (h : ∀ e ∈ s.refs.runs, e.2.outvoted = none) : s.unvote = s := by
  have hruns : s.unvote.refs.runs = s.refs.runs := by
    rw [State.unvote_runs]
    exact (List.map_congr_left fun e he => congrArg (Prod.mk e.1) (State.unvoted_of_none (h e he))).trans (List.map_id _)
  calc s.unvote = { s with refs := { s.refs with runs := s.unvote.refs.runs } } := rfl
    _ = s := by rw [hruns]

/-! ### When an evaluation is made (R361) -/

/-- The present tick is noted as that of the latest evaluation. -/
def State.tickNoted (s : State) : State := { s with refs := { s.refs with evalTick := some s.clk.tick } }

/-- The state in which the evaluation of the present tick is made. -/
def State.atEvaluation (s : State) : State := s.tickNoted.unvote

theorem State.atEvaluation_of_none (h : ∀ e ∈ s.refs.runs, e.2.outvoted = none) : s.atEvaluation = s.tickNoted :=
  State.unvote_of_none (s := s.tickNoted) h

theorem State.evaluateTick_idle (h : s.clk.tick % 1250000 ≠ 0 ∨ s.refs.evalTick = some s.clk.tick) : s.evaluateTick = s := if_pos h

theorem State.evaluateTick_evaluates (htick : s.clk.tick % 1250000 = 0) (hnew : s.refs.evalTick ≠ some s.clk.tick) :
    s.evaluateTick = s.atEvaluation.evaluate := if_neg fun h => h.elim (· htick) hnew

/-- With nothing newly measured and every reference within PULL_RANGE, the row steers a closed loop and makes the evaluation of its tick. -/
theorem selectionEval_of_within (off : Int) (hup : s.clk.tpUp = true) (hpull : ∀ k ∈ s.refIds, s.outOfPull k = false) :
    selectionEval off [] s = (if s.phaseActs then s.steerTowards (State.steerOf off) else s).evaluateTick := by
  have hrow : selectionEval off [] s = (if s.checkPull.phaseActs then s.checkPull.steerTowards (State.steerOf off) else s.checkPull).evaluateTick :=
    if_neg (by simp [State.tpUp, hup])
  rw [hrow, State.checkPull_of_within hpull]

theorem State.phaseActs_iff : s.phaseActs = true ↔ s.refs.st = .acquire ∨ s.refs.st = .lockWide ∨ s.refs.st = .lockNarrow := by
  simp [State.phaseActs, or_assoc]

theorem selectionEval_of_open (off : Int) (hup : s.clk.tpUp = true) (hpull : ∀ k ∈ s.refIds, s.outOfPull k = false)
    (hopen : s.phaseActs = false) : selectionEval off [] s = s.evaluateTick := by
  rw [selectionEval_of_within off hup hpull, hopen]
  rfl

/-- In SWITCHING and FAULT only the tick is noted. -/
theorem State.evaluateTick_suspended (hst : s.refs.st = .switching ∨ s.refs.st = .fault) (hruns : s.refs.runs = [])
    (htick : s.clk.tick % 1250000 = 0) : s.evaluateTick = s.tickNoted := by
  by_cases hold : s.refs.evalTick = some s.clk.tick
  · rw [State.evaluateTick_idle (.inr hold), State.tickNoted, ← hold]
  · have hnone : ∀ e ∈ s.refs.runs, e.2.outvoted = none := by simp [hruns]
    rw [State.evaluateTick_evaluates htick hold, State.atEvaluation_of_none hnone]
    exact if_pos hst

/-! ### No reference (R362, R365) -/

/-- TB0 has lost its reference: it holds over on a valid history and runs free otherwise. -/
structure Lost (t s : State) : Prop where
  st : t.refs.st = if s.refs.histValid then .holdover else .freeRun
  sel : t.refs.sel = noRef
  steer : t.clk.steer = s.clk.steer

theorem State.loseReference_lost (s : State) : Lost s.loseReference s := by
  unfold State.loseReference
  dsimp only
  split
  next hv =>
    have h := State.setTb0_tb0To { s with refs := { s.refs with sel := noRef } } (n := .holdover) (by simp)
    exact ⟨h.st.trans (if_pos hv).symm, h.sel, h.steer⟩
  next hv =>
    have h := State.setTb0_tb0To ({ s with refs := { s.refs with sel := noRef } } : State).holdSteering (n := .freeRun) (by simp)
    exact ⟨h.st.trans (if_neg hv).symm, h.sel, h.steer⟩

theorem State.takeSelection_none (hst : s.refs.st = .acquire ∨ s.refs.st = .lockWide ∨ s.refs.st = .lockNarrow) :
    s.takeSelection noRef = s.loseReference := by
  rw [State.takeSelection, if_pos (.inl rfl)]
  obtain h | h | h := hst <;> simp only [h, if_true]

/-- The forced reference of MODE 1 cannot serve, or MODE 2 asks for none. -/
def State.SelectsNone (s : State) : Prop :=
  s.refs.mode = 2 ∨ (s.refs.mode = 1 ∧ (s.refRun s.refs.forceRef).q ≠ .qualified ∧ (s.refRun s.refs.forceRef).q ≠ .wtr)

/-- The rescue rule is noted as what the selection rests on, or not (R360). -/
def State.rescueNoted (s : State) (x : Bool) : State := { s with refs := { s.refs with rescued := x } }

/-- The evaluation outside SWITCHING and FAULT, by MODE (R360, R362). -/
theorem State.evaluate_by_mode (hon : ¬ (s.refs.st = .switching ∨ s.refs.st = .fault)) :
    s.evaluate =
      if s.refs.mode = 0 then s.selectAuto
      else if s.refs.mode = 1 then
        (s.rescueNoted false).takeSelection
          (if ((s.refRun s.refs.forceRef).q = .qualified ∨ (s.refRun s.refs.forceRef).q = .wtr) ∧ s.islandHold s.refs.forceRef = false
            then s.refs.forceRef else noRef)
      else (s.rescueNoted false).takeSelection noRef := if_neg hon

theorem State.evaluate_none (hmode : s.SelectsNone) (hst : s.refs.st = .acquire ∨ s.refs.st = .lockWide ∨ s.refs.st = .lockNarrow) :
    Lost s.evaluate s := by
  have hon : ¬ (s.refs.st = .switching ∨ s.refs.st = .fault) := by obtain h | h | h := hst <;> simp [h]
  have htake : s.evaluate = (s.rescueNoted false).takeSelection noRef := by
    rw [State.evaluate_by_mode hon]
    obtain h2 | ⟨h1, hqual, hwtr⟩ := hmode
    · simp [h2]
    · simp [h1, hqual, hwtr]
  have hlost := State.loseReference_lost (s.rescueNoted false)
  rw [htake, State.takeSelection_none (s := s.rescueNoted false) hst]
  exact ⟨hlost.st, hlost.sel, hlost.steer⟩

/-! ### The candidate of best rank (R360) -/

theorem State.leastBy_mem {key : Nat → Nat} {l : List Nat} (h : State.leastBy key l = some b) : b ∈ l := by
  induction l generalizing b with
  | nil => simp [State.leastBy] at h
  | cons x l ih =>
    cases hl : State.leastBy key l with
    | none =>
      obtain rfl : x = b := by simpa [State.leastBy, hl] using h
      exact List.mem_cons_self
    | some y =>
      rw [State.leastBy, hl] at h
      by_cases hlt : key y < key x
      · obtain rfl : y = b := by simpa [hlt] using h
        exact List.mem_cons_of_mem _ (ih hl)
      · obtain rfl : x = b := by simpa [hlt] using h
        exact List.mem_cons_self

theorem State.leastBy_of_lt {key : Nat → Nat} {l : List Nat} (hb : b ∈ l) (h : ∀ k ∈ l, k ≠ b → key b < key k) :
    State.leastBy key l = some b := by
  induction l with
  | nil => simp at hb
  | cons x l ih =>
    have hl : ∀ k ∈ l, k ≠ b → key b < key k := fun k hk => h k (List.mem_cons_of_mem _ hk)
    obtain rfl | hx := eq_or_ne x b
    · cases hy : State.leastBy key l with
      | none => rw [State.leastBy, hy]
      | some y =>
        have hnot : ¬ key y < key x := by
          obtain rfl | hyx := eq_or_ne y x
          · omega
          · exact (hl y (State.leastBy_mem hy) hyx).not_gt
        simp only [State.leastBy, hy, if_neg hnot]
    · have hmem : b ∈ l := (List.mem_cons.mp hb).resolve_left hx.symm
      simp only [State.leastBy, ih hmem hl, if_pos (h x List.mem_cons_self hx)]

theorem State.differ_self (s : State) (a : Int) : s.differ a a = false := by simp [State.differ]

/-- A reference is in no dispute with itself. -/
theorem State.disputing_of_eq {l : List Nat} (h : ∀ k ∈ l, k = b) : s.disputing l = [] := by
  refine List.filter_eq_nil_iff.mpr fun a ha => ?_
  simp only [List.any_eq_true, not_exists, not_and]
  intro c hc
  rw [h a ha, h c hc, State.differ_self]
  simp

theorem State.chooseAuto_best {cands : List Nat} (hleast : State.leastBy (fun k => (s.refRank k).rank) cands = some b)
    (hcur : s.refs.sel ∉ cands) : s.chooseAuto cands = b := by
  simp only [State.chooseAuto, hleast]
  exact if_neg (by simpa using hcur)

/-- The candidates of best rank, which may be in dispute (R363). -/
def State.bestOf (s : State) (cands : List Nat) : List Nat :=
  match State.leastBy (fun k => (s.refRank k).rank) cands with
  | none => []
  | some b => cands.filter (fun k => decide ((s.refRank k).rank = (s.refRank b).rank))

theorem State.eq_of_mem_bestOf {cands : List Nat} (hb : b ∈ cands)
    (hbest : ∀ k ∈ cands, k ≠ b → (s.refRank b).rank < (s.refRank k).rank) : ∀ k ∈ s.bestOf cands, k = b := by
  intro k hk
  rw [State.bestOf, State.leastBy_of_lt (key := fun k => (s.refRank k).rank) hb hbest] at hk
  obtain ⟨hmem, hrank⟩ := List.mem_filter.mp hk
  by_contra hne
  exact (hbest k hmem hne).ne' (of_decide_eq_true hrank)

/-- There is no dispute, or no longer one without an arbiter. -/
def State.undisputed (s : State) : State := { s with refs := { s.refs with disputed := false } }

theorem State.selectAuto_undisputed {u : State} (hu : u = s.rescueNoted (s.candidates.any s.rescue))
    (h : u.disputing (u.bestOf s.candidates) = []) : s.selectAuto = u.undisputed.takeSelection (u.chooseAuto s.candidates) := by
  subst hu
  exact if_pos h

/-- With one candidate of best rank, and the present selection no candidate, it is selected without a dispute. -/
theorem State.selectAuto_best (hb : b ∈ s.candidates) (hbest : ∀ k ∈ s.candidates, k ≠ b → (s.refRank b).rank < (s.refRank k).rank)
    (hcur : s.refs.sel ∉ s.candidates) :
    ∃ u : State, s.selectAuto = u.takeSelection b ∧ u.refs.st = s.refs.st ∧ u.refs.disputed = false := by
  let u := s.rescueNoted (s.candidates.any s.rescue)
  have hone := State.eq_of_mem_bestOf (s := u) hb hbest
  have hleast := State.leastBy_of_lt (key := fun k => (s.refRank k).rank) hb hbest
  rw [State.selectAuto_undisputed rfl (State.disputing_of_eq hone), State.chooseAuto_best (s := u) hleast hcur]
  exact ⟨_, rfl, rfl, rfl⟩

theorem State.takeSelection_freeRun (hst : s.refs.st = .freeRun) (hn : n ≠ noRef) :
    ∃ runs, s.takeSelection n = ({ s with refs := { s.refs with runs := runs, sel := n } } : State).setAcqBw.setTb0 .acquire := by
  obtain ⟨runs, hruns⟩ : ∃ runs,
      (if n = noRef ∨ n = s.refs.sel then s else s.modRefRun n (fun r => { r with selCount := inc16 r.selCount })) =
        { s with refs := { s.refs with runs := runs } } := by
    split
    · exact ⟨s.refs.runs, rfl⟩
    · exact ⟨_, rfl⟩
  refine ⟨runs, ?_⟩
  rw [State.takeSelection, hruns]
  simp only [hst, if_neg hn]

end

/-! ### The statement -/

/-- Settles O37: the row as the evaluation of its tick, and the evaluation by the selection it takes. -/
theorem selection : Obligations.Selection := by
  refine ⟨fun s off hup hst hruns htick => ?_, fun s off hup hpull hopen htick => ?_, fun s off hup hpull htick hnew hmode hst => ?_,
    fun s off b hup hpull htick hnew hmode hst hsel hvote hb hcand hnone hbest => ?_,
    fun s off m hup => congrArg Host.Outcome.next (if_pos hup)⟩
  · have hpull : ∀ k ∈ s.refIds, s.outOfPull k = false := by simp [State.refIds, hruns]
    have hopen : s.phaseActs = false := by obtain h | h := hst <;> simp [State.phaseActs, h]
    exact congrArg Host.Outcome.next ((selectionEval_of_open off hup hpull hopen).trans (State.evaluateTick_suspended hst hruns htick))
  · exact congrArg Host.Outcome.next ((selectionEval_of_open off hup hpull hopen).trans (State.evaluateTick_idle htick))
  · have hmode' : (s.steerTowards (State.steerOf off)).atEvaluation.SelectsNone := by
      unfold State.SelectsNone State.atEvaluation
      rw [State.unvote_q]
      exact hmode
    have hrow : selectionEval off [] s = (s.steerTowards (State.steerOf off)).atEvaluation.evaluate := by
      rw [selectionEval_of_within off hup hpull, if_pos (State.phaseActs_iff.mpr hst)]
      exact State.evaluateTick_evaluates htick hnew
    have hlost := State.evaluate_none hmode' hst
    exact ⟨_, congrArg Host.Outcome.next hrow, hlost.st, hlost.sel, hlost.steer⟩
  · have hopen : s.phaseActs = false := by simp [State.phaseActs, hst]
    have hon : ¬ (s.refs.st = .switching ∨ s.refs.st = .fault) := by simp [hst]
    have hrow : selectionEval off [] s = s.tickNoted.selectAuto := by
      rw [selectionEval_of_open off hup hpull hopen, State.evaluateTick_evaluates htick hnew, State.atEvaluation_of_none hvote]
      exact (State.evaluate_by_mode (s := s.tickNoted) hon).trans (if_pos hmode)
    obtain ⟨u, hauto, hust, hdisp⟩ := State.selectAuto_best (s := s.tickNoted) hcand hbest (hsel ▸ hnone)
    obtain ⟨runs, htake⟩ := State.takeSelection_freeRun (hust.trans hst) hb
    have hto := State.setTb0_tb0To ({ u with refs := { u.refs with runs := runs, sel := b } } : State).setAcqBw (n := .acquire) (by simp)
    exact ⟨_, congrArg Host.Outcome.next (hrow.trans (hauto.trans htake)), hto.sel, hto.st, hto.disputed.trans hdisp⟩

end Sys2Proof.Machine
end

section
/-! The REF commands (R378-R383): what the body of each stores and replies. -/

namespace Sys2Proof.Machine

open Sys2Proof

/-! ### Acceptance leaves the references as they were -/

section
variable (s : State) (op : Nat) (p : Pkt) (k : Nat)

theorem State.accepted_refRun : (s.accepted op p).refRun k = s.refRun k := State.refRun_congr (by rw [State.accepted_refs]) k

theorem State.accepted_refCfg : (s.accepted op p).refCfg k = s.refCfg k := by rw [State.refCfg, State.accepted_refs, State.refCfg]

theorem State.accepted_refRank : (s.accepted op p).refRank k = s.refRank k := by rw [State.refRank, State.accepted_refs, State.refRank]

theorem State.accepted_refState : (s.accepted op p).refState = s.refState := by
  obtain ⟨_, _, _, _, _, _, _, h⟩ := accepted_frame s op p
  rw [h]
  rfl

end

section
variable {s t : State} {p : Pkt} {ws : List Word} {k : Nat}

/-! ### REF.CONFIG (R354, R357, R378) -/

/-- A reference's run as it goes OFF. -/
def RefRun.turnedOff (r : RefRun) : RefRun := { r with q := .off, everDisq := false, outvoted := none, samples := [] }

/-- A reference's run as it leaves OFF, where it is OFF. -/
def RefRun.turnedOn (r : RefRun) : RefRun := if r.q = .off then { r with q := .disqualified, everDisq := false } else r

/-- The state with the configuration of one reference written. -/
def State.setRefCfg (t : State) (k : Nat) (x : RefCfg) : State := { t with refs := { t.refs with cfg := Tab.put refCfgReset t.refs.cfg k x } }

/-- The state with a reference's configuration written and its run turned on or off. -/
def State.refConfigured (t : State) (k : Nat) (ws : List Word) : State :=
  (t.setRefCfg k (t.refCfgOf k ws)).setRefRun k (if bit (wd ws 1) 0 then (t.refRun k).turnedOn else (t.refRun k).turnedOff)

theorem State.refOff_of_ne (hst : t.refs.st ≠ .switching) (k : Nat) : t.refOff k = t.setRefRun k (t.refRun k).turnedOff :=
  State.checkTarget_of_ne (s := t.setRefRun k (t.refRun k).turnedOff) hst

/-- A REFIN's configuration is what the packet says, whatever the state. -/
theorem State.refCfgOf_refin (hk : k < 8) (s t : State) (ws : List Word) : s.refCfgOf k ws = t.refCfgOf k ws := by
  rw [State.refCfgOf, State.refCfgOf, if_pos hk, if_pos hk]

theorem State.refCfgOf_enable (hk : k < 8) (t : State) (ws : List Word) : (t.refCfgOf k ws).enable = bit (wd ws 1) 0 := by
  rw [State.refCfgOf, if_pos hk]

theorem bodyRefConfig_refin (c : Ctx) (hw : bit (wd ws 0) 31 = true) (hkey : fld (wd ws 0) 11 0 = k) (hk : k < 8) (hst : t.refs.st ≠ .switching) :
    ∃ r, bodyRefConfig c ws t = (t.refConfigured k ws).ok c r ∧ r.length = 4 := by
  have hmin : min 0xF k = k := by omega
  have hturn : (if (t.refCfgOf k ws).enable then (t.setRefCfg k (t.refCfgOf k ws)).refOn k else (t.setRefCfg k (t.refCfgOf k ws)).refOff k) =
      t.refConfigured k ws := by
    rw [State.refCfgOf_enable hk, State.refConfigured]
    split
    · rfl
    · exact State.refOff_of_ne (t := t.setRefCfg k _) hst k
  rw [← hturn]
  simp only [bodyRefConfig, hw, if_true, hkey, hmin, if_neg (Nat.not_le.mpr hk)]
  exact ⟨_, rfl, rfl⟩

theorem State.refConfigured_refTo (hs : Tab.sorted t.refs.runs = true) (k : Nat) (ws : List Word) :
    RefTo k (if bit (wd ws 1) 0 then (t.refRun k).turnedOn else (t.refRun k).turnedOff) (t.refConfigured k ws) t :=
  State.setRefRun_refTo (s := t.setRefCfg k (t.refCfgOf k ws)) hs k _

theorem State.refConfigured_keeps (t : State) (k : Nat) (ws : List Word) : (t.refConfigured k ws).keeps t [.refs] :=
  (State.setRefRun_keeps _ _ _).trans (State.with_refs_keeps _ _)

theorem State.refConfigured_refCfg_self (hs : Tab.sorted t.refs.cfg = true) (k : Nat) (ws : List Word) :
    (t.refConfigured k ws).refCfg k = t.refCfgOf k ws := Tab.get_put_self _ _ _ hs

theorem State.refConfigured_refCfg_ne {j : Nat} (h : j ≠ k) (ws : List Word) : (t.refConfigured k ws).refCfg j = t.refCfg j :=
  Tab.get_put_ne _ _ _ h

/-! ### REF.RANK (R379) -/

/-- Rank and wait times as a REF.RANK writes them. -/
def refRankOf (ws : List Word) : RefRank :=
  { rank := clamp 1 15 (fld (wd ws 1) 3 0), qualTime := clamp 1 3600 (fld (wd ws 1) 27 16), wtrTime := min 3600 (fld (wd ws 2) 11 0),
    pktSsm := fld (wd ws 2) 15 12, pktEssm := fld (wd ws 2) 23 16 }

/-- The state with the rank of one reference written. -/
def State.setRefRank (t : State) (k : Nat) (x : RefRank) : State :=
  { t with refs := { t.refs with ranks := Tab.put refRankReset t.refs.ranks k x } }

theorem bodyRefRank_write (c : Ctx) (hw : bit (wd ws 0) 31 = true) :
    ∃ r, bodyRefRank c ws t = (t.setRefRank (refId false (fld (wd ws 0) 11 0)) (refRankOf ws)).ok c r ∧ r.length = 3 := by
  simp only [bodyRefRank, hw, if_true]
  exact ⟨_, rfl, rfl⟩

theorem bodyRefRank_read (c : Ctx) (hw : bit (wd ws 0) 31 = false) : ∃ r, bodyRefRank c ws t = t.ok c r := by
  simp only [bodyRefRank, hw, Bool.false_eq_true, if_false]
  exact ⟨_, rfl⟩

/-! ### REF.SELECT and REF.STATUS (R369, R380, R381) -/

/-- The selection's settings as a REF.SELECT writes them. -/
def Refs.selectSet (r : Refs) (ws : List Word) : Refs :=
  { r with
    mode := min 2 (fld (wd ws 1) 1 0), revertive := bit (wd ws 1) 2, forceRef := refId false (fld (wd ws 1) 27 16),
    pullRange := clamp 1000 100000 (fld (wd ws 2) 16 0), qualLimit := clamp 1 65535 (fld (wd ws 3) 15 0) }

theorem bodyRefSelect_write (c : Ctx) (hw : bit (wd ws 0) 31 = true) (hruns : t.refs.runs = []) :
    ∃ r, bodyRefSelect c ws t = ({ t with refs := t.refs.selectSet ws } : State).ok c r ∧ r.length = 4 := by
  have hpull : ({ t with refs := t.refs.selectSet ws } : State).checkPull = { t with refs := t.refs.selectSet ws } :=
    State.checkPull_of_within fun k hk => by simp [State.refIds, Refs.selectSet, hruns] at hk
  rw [← hpull]
  simp only [bodyRefSelect, hw, if_true]
  exact ⟨_, rfl, rfl⟩

theorem bodyRefStatus_reply (c : Ctx) (ws : List Word) (t : State) :
    ∃ r, bodyRefStatus c ws t = t.ok c r ∧ r.length = 8 ∧ wd r 0 = t.refState := by
  refine ⟨_, rfl, ?_, rfl⟩
  rw [List.length_append, apply_ite List.length]
  simp

/-! ### REF.BANDWIDTH and REF.HOLDOVER (R371, R374, R375, R382, R383) -/

theorem State.trackChanged_of_open (hwide : t.refs.st ≠ .lockWide) (hnarrow : t.refs.st ≠ .lockNarrow) : t.trackChanged = t :=
  if_neg (by simp [hwide, hnarrow])

/-- The loop's settings as a REF.BANDWIDTH writes them. -/
def Refs.bandwidthSet (r : Refs) (ws : List Word) : Refs :=
  { r with
    trackBw := clamp 50 100000 (fld (wd ws 1) 16 0), damping := clamp 500 10000 (fld (wd ws 2) 13 0),
    phaseBw := clamp 1 10000 (fld (wd ws 3) 13 0), phaseSlew := clamp 1 500000 (fld (wd ws 4) 18 0),
    stepThresh := min 1000000000 (fld (wd ws 5) 29 0) }

theorem bodyRefBandwidth_write (c : Ctx) (hw : bit (wd ws 0) 31 = true) (hwide : t.refs.st ≠ .lockWide) (hnarrow : t.refs.st ≠ .lockNarrow) :
    ∃ r, bodyRefBandwidth c ws t = ({ t with refs := t.refs.bandwidthSet ws } : State).ok c r ∧ r.length = 6 := by
  rw [← State.trackChanged_of_open (t := { t with refs := t.refs.bandwidthSet ws }) hwide hnarrow]
  simp only [bodyRefBandwidth, hw, if_true]
  exact ⟨_, rfl, rfl⟩

theorem bodyRefBandwidth_read (c : Ctx) (hw : bit (wd ws 0) 31 = false) : ∃ r, bodyRefBandwidth c ws t = t.ok c r := by
  simp only [bodyRefBandwidth, hw, Bool.false_eq_true, if_false]
  exact ⟨_, rfl⟩

/-- A REF.HOLDOVER that writes stores its settings; with LEARN 0 it stores its coefficients too, and with FORGET the history is no longer valid. -/
theorem bodyRefHoldover_write (c : Ctx) (t : State) (hw : bit (wd ws 0) 31 = true) :
    ∃ c₁ c₂ a fits r, bodyRefHoldover c ws t = ({ t with refs := { t.refs with
        learn := bit (wd ws 0) 30, histWin := clamp 16 65535 (fld (wd ws 1) 15 0), histGuard := fld (wd ws 1) 23 16, tempSel := bit (wd ws 1) 24,
        histValid := !bit (wd ws 0) 29 && t.refs.histValid, c1 := c₁, c2 := c₂, age := a, fits := fits } } : State).ok c r ∧ r.length = 8 ∧
      (bit (wd ws 0) 30 = false → c₁ = sfld (wd ws 2) 31 0 ∧ c₂ = sfld (wd ws 3) 31 0 ∧ a = sfld (wd ws 4) 31 0) := by
  cases hl : bit (wd ws 0) 30 with
  | false =>
    cases hf : bit (wd ws 0) 29 <;> simp only [bodyRefHoldover, hw, hl, hf, if_true, Bool.false_eq_true, if_false]
    · exact ⟨_, _, _, _, _, rfl, rfl, fun _ => ⟨rfl, rfl, rfl⟩⟩
    · exact ⟨_, _, _, _, _, rfl, rfl, fun _ => ⟨rfl, rfl, rfl⟩⟩
  | true =>
    cases hf : bit (wd ws 0) 29 <;> simp only [bodyRefHoldover, hw, hl, hf, if_true, Bool.false_eq_true, if_false, true_or, false_or]
    · split
      · exact ⟨_, _, _, _, _, rfl, rfl, nofun⟩
      · exact ⟨_, _, _, _, _, rfl, rfl, nofun⟩
    · exact ⟨_, _, _, _, _, rfl, rfl, nofun⟩

theorem bodyRefHoldover_read (c : Ctx) (hw : bit (wd ws 0) 31 = false) : ∃ r, bodyRefHoldover c ws t = t.ok c r := by
  simp only [bodyRefHoldover, hw, Bool.false_eq_true, if_false]
  exact ⟨_, rfl⟩

end

/-! ### The statement -/

/-- Settles O35: each command by its body on the state that acceptance leaves, whose references are as they were. -/
theorem referenceCommands : Obligations.ReferenceCommands := by
  refine ⟨fun s p h hw hk hcfg hruns hst => ?_, fun s p h hw hranks => ?_, fun s p h hw hruns => ?_, fun s p h => ?_,
    fun s p h hw hwide hnarrow => ?_, fun s p h hw => ?_, fun s p hw => ⟨fun h => ?_, fun h => ?_, fun h => ?_⟩⟩
  · rw [← s.accepted_refs 0x0600 p] at hcfg hruns hst
    obtain ⟨r, hbody, hlen⟩ := bodyRefConfig_refin (s.ctxOf 0x0600 p) hw rfl hk hst
    obtain ⟨hself, hothers⟩ := State.refConfigured_refTo hruns (fld (wd p.words 0) 11 0) p.words
    rw [State.accepted_refRun] at hself
    refine ⟨_, r, answers_of_body rfl h hbody, hlen, ?_, fun j hj => ⟨?_, ?_⟩, State.refConfigured_keeps _ _ _, fun hoff => ?_,
      fun hon hq => ?_, fun hon hq => ?_⟩
    · exact (State.refConfigured_refCfg_self hcfg _ _).trans (State.refCfgOf_refin hk _ _ _)
    · exact (State.refConfigured_refCfg_ne hj _).trans (s.accepted_refCfg 0x0600 p j)
    · exact (hothers j hj).trans (s.accepted_refRun 0x0600 p j)
    · rw [hself, hoff]
      rfl
    · rw [hself, hon, if_pos rfl, RefRun.turnedOn, if_pos hq]
    · rw [hself, hon, if_pos rfl, RefRun.turnedOn, if_neg hq]
  · obtain ⟨r, hbody, hlen⟩ := bodyRefRank_write (t := s.accepted 0x0601 p) (s.ctxOf 0x0601 p) hw
    have hself : ((s.accepted 0x0601 p).setRefRank (refId false (fld (wd p.words 0) 11 0)) (refRankOf p.words)).refRank
        (refId false (fld (wd p.words 0) 11 0)) = refRankOf p.words := Tab.get_put_self _ _ _ (by rw [State.accepted_refs]; exact hranks)
    refine ⟨_, r, answers_of_body rfl h hbody, hlen, State.with_refs_keeps _ _, ?_, ?_, ?_, fun j hj => ?_⟩
    · rw [hself, refRankOf]
    · rw [hself, refRankOf]
    · rw [hself, refRankOf]
    · exact (Tab.get_put_ne _ _ _ hj).trans (s.accepted_refRank 0x0601 p j)
  · obtain ⟨r, hbody, hlen⟩ := bodyRefSelect_write (t := s.accepted 0x0602 p) (s.ctxOf 0x0602 p) hw (by rw [State.accepted_refs]; exact hruns)
    rw [State.accepted_refs] at hbody
    exact ⟨r, answers_of_body rfl h hbody, hlen⟩
  · obtain ⟨r, hbody, hlen, hstate⟩ := bodyRefStatus_reply (s.ctxOf 0x0603 p) p.words (s.accepted 0x0603 p)
    exact ⟨r, answers_of_body rfl h hbody, hlen, hstate.trans (s.accepted_refState 0x0603 p)⟩
  · rw [← s.accepted_refs 0x0604 p] at hwide hnarrow ⊢
    obtain ⟨r, hbody, hlen⟩ := bodyRefBandwidth_write (s.ctxOf 0x0604 p) hw hwide hnarrow
    exact ⟨r, answers_of_body rfl h hbody, hlen⟩
  · obtain ⟨_, _, _, _, r, hbody, hlen, hcoeff⟩ := bodyRefHoldover_write (s.ctxOf 0x0605 p) (s.accepted 0x0605 p) hw
    refine ⟨_, r, answers_of_body rfl h hbody, hlen, State.with_refs_keeps _ _, rfl, rfl, rfl, rfl, ?_, ?_, hcoeff, fun hf => ?_⟩
    · exact (congrArg Refs.st (s.accepted_refs 0x0605 p) :)
    · exact (congrArg Refs.sel (s.accepted_refs 0x0605 p) :)
    · simp [hf]
  · obtain ⟨r, hbody⟩ := bodyRefRank_read (s.ctxOf 0x0601 p) hw
    exact ⟨r, answers_of_body rfl h hbody⟩
  · obtain ⟨r, hbody⟩ := bodyRefBandwidth_read (s.ctxOf 0x0604 p) hw
    exact ⟨r, answers_of_body rfl h hbody⟩
  · obtain ⟨r, hbody⟩ := bodyRefHoldover_read (s.ctxOf 0x0605 p) hw
    exact ⟨r, answers_of_body rfl h hbody⟩

end Sys2Proof.Machine
end

section
/-! Hammer outputs (R384-R404): what a write of one output leaves, commands that wait for no output, and the rows that commit edges, emit them and
complete alignments. -/

namespace Sys2Proof.Machine

open Sys2Proof

section
variable {s t u : State} {k : Nat} {x y : Ham}

/-! ### One output changes -/

/-- What a change of one output leaves of the outputs: that one as given, the others as they were. -/
def HamTo (k : Nat) (x : Ham) (t s : State) : Prop := t.ham k = x ∧ ∀ j, j ≠ k → t.ham j = s.ham j

theorem HamTo.trans (h : HamTo k x u t) (hs : HamTo k y t s) : HamTo k x u s :=
  ⟨h.1, fun j hj => (h.2 j hj).trans (hs.2 j hj)⟩

theorem State.setHam_hamTo (hs : Tab.sorted s.hams = true) (k : Nat) (x : Ham) : HamTo k x (s.setHam k x) s :=
  ⟨Tab.get_put_self _ _ _ hs, fun _ hj => Tab.get_put_ne _ _ _ hj⟩

/-- Without order in the table, an output that is not as at reset reads back. -/
theorem State.setHam_hamTo_of_ne (s : State) (k : Nat) (h : x ≠ {}) : HamTo k x (s.setHam k x) s :=
  ⟨Tab.get_put_self_of_ne _ _ _ h, fun _ hj => Tab.get_put_ne _ _ _ hj⟩

theorem Ham.ne_reset_of_st (h : x.st ≠ .idle) : x ≠ {} := fun e => h (congrArg Ham.st e)

theorem Ham.ne_reset_of_armed (h : x.st = .armed) : x ≠ {} := Ham.ne_reset_of_st (by simp [h])

theorem State.setHam_keeps (s : State) (k : Nat) (x : Ham) : (s.setHam k x).keeps s [.hams] := by
  intro q hq
  cases q <;> simp [Part.same] at hq ⊢

theorem State.ham_congr (h : t.hams = s.hams) (k : Nat) : t.ham k = s.ham k := by rw [State.ham, h, State.ham]

@[simp] theorem State.accepted_ham (s : State) (op : Nat) (p : Pkt) (k : Nat) : (s.accepted op p).ham k = s.ham k :=
  State.ham_congr (s.accepted_hams op p) k

/-- Acceptance leaves the outputs as they were. -/
theorem HamTo.of_accepted {op : Nat} {p : Pkt} (h : HamTo k x t (s.accepted op p)) : HamTo k x t s :=
  ⟨h.1, fun j hj => (h.2 j hj).trans (s.accepted_ham op p j)⟩

@[simp] theorem State.accepted_earliest (s : State) (op : Nat) (p : Pkt) (k n : Nat) (rho : Int) :
    (s.accepted op p).earliest k n rho = s.earliest k n rho := by
  simp [State.earliest]

/-! ### Commands that wait for outputs (R403, R407, R408) -/

/-- No HAM command waits for an output. -/
def State.noHamJob (s : State) : Prop := s.axg.jobs.all (fun j => !j.work.forHam) = true

theorem State.noHamJob.accepted (h : s.noHamJob) (op : Nat) (p : Pkt) : (s.accepted op p).noHamJob := by
  rwa [State.noHamJob, State.accepted_axg_jobs]

theorem State.noHamJob.forHam {j : Job} (h : s.noHamJob) (hj : j ∈ s.axg.jobs) : j.work.forHam = false := by
  simpa using List.all_eq_true.mp h j hj

/-- The reply to a HAM command once it waits for no output any more. -/
def hamReply : Work → Option Rpl
  | .hamDisarm mask 0 => some (okRpl [w32 mask])
  | .hamAlign mask 0 aligned ended slew rate =>
    some (okRpl [pack [(0, mask), (16, slew.toNat)], w32 rate, pack [(0, aligned), (16, ended)]])
  | _ => none

theorem State.hamReplies_eq (s : State) : s.hamReplies = s.completeWhere hamReply := rfl

theorem hamReply_of_not_forHam {w : Work} (h : w.forHam = false) : hamReply w = none := by
  unfold hamReply
  split
  · exact Bool.noConfusion h
  · exact Bool.noConfusion h
  · rfl

theorem hamReply_disarm_waits (mask : Nat) {todo : Nat} (h : todo ≠ 0) : hamReply (.hamDisarm mask todo) = none := by
  obtain ⟨_, rfl⟩ := Nat.exists_eq_succ_of_ne_zero h
  rfl

theorem hamReply_align_waits (mask : Nat) {todo : Nat} (h : todo ≠ 0) (aligned ended : Nat) (slew : Bool) (rate : Nat) :
    hamReply (.hamAlign mask todo aligned ended slew rate) = none := by
  obtain ⟨_, rfl⟩ := Nat.exists_eq_succ_of_ne_zero h
  rfl

theorem State.hamReplies_of_noHamJob (h : s.noHamJob) : s.hamReplies = s :=
  s.completeWhere_none hamReply fun _ hj => hamReply_of_not_forHam (h.forHam hj)

/-- A command held last, which waits for an output, goes on waiting. -/
theorem State.hold_hamReplies_waits (h : s.noHamJob) (c : Ctx) {w : Work} (hw : hamReply w = none) : (s.hold c w).hamReplies = s.hold c w := by
  refine State.completeWhere_none _ hamReply fun j hj => ?_
  rcases List.mem_append.mp hj with hj | hj
  · exact hamReply_of_not_forHam (h.forHam hj)
  · rw [List.mem_singleton.mp hj, hw]

/-- A command held last, which waits for no output, replies at once. -/
theorem State.hold_hamReplies_replies (h : s.noHamJob) (c : Ctx) {w : Work} {r : Rpl} (hw : hamReply w = some r) :
    (s.hold c w).hamReplies = s.complete c r := by
  have hnone (j : Job) (hj : j ∈ s.axg.jobs) : hamReply j.work = none := hamReply_of_not_forHam (h.forHam hj)
  have hkeep : s.axg.jobs.filter (fun j => (hamReply j.work).isNone) = s.axg.jobs := by
    rw [List.filter_eq_self]
    intro j hj
    rw [hnone j hj]
    rfl
  have hdone : s.axg.jobs.filterMap (fun j => (hamReply j.work).map (fun r => (j.ctx, r))) = [] := by
    rw [List.filterMap_eq_nil_iff]
    intro j hj
    rw [hnone j hj]
    rfl
  simp [State.hamReplies_eq, State.completeWhere, State.hold, hkeep, hdone, hw]

theorem State.mapWork_self {f : Work → Work} (h : ∀ j ∈ s.axg.jobs, f j.work = j.work) : s.mapWork f = s := by
  have hjobs : s.axg.jobs.map (fun (j : Job) => { j with work := f j.work }) = s.axg.jobs :=
    (List.map_congr_left fun j hj => by rw [h j hj, id]).trans (List.map_id _)
  rw [State.mapWork, hjobs]

theorem State.endDisarm_of_noHamJob (h : s.noHamJob) (k : Nat) : s.endDisarm k = s := by
  rw [State.endDisarm, State.mapWork_self, State.hamReplies_of_noHamJob h]
  intro j hj
  have hw := h.forHam hj
  split
  next heq => exact Bool.noConfusion (heq ▸ hw)
  next => rfl

theorem State.endAlign_of_none (h : (s.ham k).align = none) (aligned : Bool) : s.endAlign k aligned = s := if_pos h

/-- The end of an alignment that no command waits for. -/
theorem State.endAlign_of_noHamJob (h : s.noHamJob) (ha : (s.ham k).align ≠ none) (aligned : Bool) :
    s.endAlign k aligned = s.setHam k { s.ham k with align := none } := by
  have hset : (s.setHam k { s.ham k with align := none }).noHamJob := h
  simp only [State.endAlign, if_neg ha]
  rw [State.mapWork_self, State.hamReplies_of_noHamJob hset]
  intro j hj
  have hw := hset.forHam hj
  split
  next heq => exact Bool.noConfusion (heq ▸ hw)
  next => rfl

end
end Sys2Proof.Machine
end

section
/-! The rows of the Hammer outputs (R389, R390, R393, R402, R404): edges committed and emitted, slewing alignments completed. -/

namespace Sys2Proof.Machine

open Sys2Proof

section
variable {s : State} {k : Nat} {v : Bool}

/-! ### Edges are committed (R389, R390, R393) -/

/-- Within 64 ticks of its start, and not past it, a one-shot commits its pulse. -/
theorem State.commitOneShot_due {x : Ham} (hdue : x.start ≤ ((s.tb x.tb).val : Int) + scaleRho (s.tb x.tb).rateTotal commitU)
    (hahead : (s.tb x.tb).val ≤ x.start) : s.commitOneShot k x = s.setHam k { x with
      next := none, steppedOver := x.steppedOver || false, committed := x.committed ++ x.edgesOf s.clk.tick (s.tb x.tb).rateTotal 0 x.start
        (placePs (s.tb x.tb).val x.start (s.tb x.tb).rateTotal) true } := by
  simp only [State.commitOneShot, if_neg (Int.not_lt.mpr hdue), decide_eq_false (Nat.not_lt.mpr hahead), Bool.false_eq_true, if_false]

theorem State.commitOneShot_early {x : Ham} (h : ((s.tb x.tb).val : Int) + scaleRho (s.tb x.tb).rateTotal commitU < x.start) :
    s.commitOneShot k x = s := if_pos h

/-- A pulse is two edges, its end not before its beginning. -/
theorem Ham.edgesOf_pulse {x : Ham} (h : x.frame = false) (tick : Nat) (rho : Int) (n b ps : Nat) (last : Bool) :
    ∃ e₁ e₂, x.edgesOf tick rho n b ps last = [e₁, e₂] ∧ e₁.level = some true ∧ e₂.level = some false ∧ tick ≤ e₁.tick ∧
      e₁.tick ≤ e₂.tick := by
  rw [Ham.edgesOf, if_neg (by simp [h])]
  refine ⟨_, _, rfl, rfl, rfl, Nat.le_add_right _ _, ?_⟩
  exact Nat.add_le_add_left (Nat.div_le_div_right (Nat.le_add_right _ _)) _

theorem hamCommit_oneShot {n : Nat} (hk : k < 16) (hup : s.clk.tpUp = true) (hmode : (s.ham k).mode = .oneShot) (hdis : (s.ham k).disarming = false)
    (halign : (s.ham k).align = none) (hnext : (s.ham k).next = some n) : hamCommit k s = s.commitOneShot k (s.ham k) := by
  simp only [hamCommit, Nat.mod_eq_of_lt hk, hup, hdis, halign, hnext, hmode, Bool.true_eq_false, Bool.false_eq_true, or_self, if_false, if_true]

theorem hamCommit_idle (hk : k < 16) (h : s.clk.tpUp = false ∨ (s.ham k).disarming = true ∨ (s.ham k).next = none ∨
    ((s.ham k).mode = .oneShot ∧ ((s.tb (s.ham k).tb).val : Int) + scaleRho (s.tb (s.ham k).tb).rateTotal commitU < (s.ham k).start)) :
    hamCommit k s = s := by
  simp only [hamCommit, Nat.mod_eq_of_lt hk]
  refine ite_eq_left_iff.mpr fun hopen => ?_
  rw [not_or, not_or] at hopen
  obtain ⟨hup, hdis, -⟩ := hopen
  rcases (h.resolve_left hup).resolve_left hdis with hnext | ⟨hmode, hearly⟩
  · rw [hnext]
  · split
    · rfl
    · rw [if_pos hmode, State.commitOneShot_early hearly]

/-! ### Edges are emitted (R390, R404, R461) -/

/-- The oldest committed edge is not due, or there is none. -/
theorem hamEmit_idle (hk : k < 16) (h : s.clk.tpUp = false ∨ (s.ham k).committed = [] ∨
    (∃ e, (s.ham k).committed.head? = some e ∧ s.clk.tick < e.tick)) : hamEmit k s = s := by
  rcases h with hdown | hnone | ⟨e, hhead, hlater⟩
  · exact if_pos hdown
  · simp only [hamEmit, Nat.mod_eq_of_lt hk, hnone, ite_self]
  · obtain ⟨l, hl⟩ := List.head?_eq_some_iff.mp hhead
    simp only [hamEmit, Nat.mod_eq_of_lt hk, hl, if_pos hlater, ite_self]

theorem State.hamSettle_of_not_disarming (h : (s.ham k).disarming = false) : s.hamSettle k = s := if_neg (by simp [h])

/-- A due edge that begins no boundary and ends no schedule sets the output's level. -/
theorem hamEmit_level {e : HamEdge} {l : List HamEdge} {v : Bool} (hk : k < 16) (hup : s.clk.tpUp = true) (hcom : (s.ham k).committed = e :: l)
    (hdue : e.tick ≤ s.clk.tick) (hbound : e.boundary = none) (hlevel : e.level = some v) (hstop : e.stop = false) :
    hamEmit k s = ((s.setHam k { s.ham k with committed := l }).hamLevel k v ((e.tick : Int) - s.clk.tick) e.ps).hamSettle k := by
  simp only [hamEmit, Nat.mod_eq_of_lt hk, hup, hcom, hbound, hlevel, hstop, if_neg (Nat.not_lt.mpr hdue), Bool.true_eq_false, Bool.false_eq_true,
    if_false]

/-- A ball's level changes its output only, and may leave an edge. -/
theorem State.hamLevel_hams (s : State) (k : Nat) (v : Bool) (ticks : Int) (ps : Nat) :
    (s.hamLevel k v ticks ps).hams = (s.setHam k { s.ham k with active := v }).hams := by
  unfold State.hamLevel
  dsimp only
  split <;> rfl

theorem State.hamLevel_keeps (s : State) (k : Nat) (v : Bool) (ticks : Int) (ps : Nat) : (s.hamLevel k v ticks ps).keeps s [.hams, .out] := by
  intro q hq
  unfold State.hamLevel
  dsimp only
  split <;> cases q <;> simp [Part.same] at hq ⊢

theorem State.hamLevel_out_same (h : (s.ham k).active = v ∨ s.pairGateOpen = false) (ticks : Int) (ps : Nat) :
    (s.hamLevel k v ticks ps).out = s.out := by
  unfold State.hamLevel
  dsimp only
  rw [if_neg]
  · rfl
  · rintro ⟨hne, hopen⟩
    exact h.elim hne fun hshut => Bool.noConfusion (hshut.symm.trans hopen)

theorem State.hamLevel_out_edge (hne : (s.ham k).active ≠ v) (hopen : s.pairGateOpen = true) (ticks : Int) (ps : Nat) :
    (s.hamLevel k v ticks ps).out.length = s.out.length + 1 := by
  unfold State.hamLevel
  dsimp only
  rw [if_pos ⟨hne, hopen⟩, State.emit_out, List.length_append]
  rfl

/-! ### A slewing alignment completes (R402) -/

theorem hamAlignComplete_met {ppb : Nat} (hk : k < 16) (ha : (s.ham k).align = some (.slew ppb)) (hmet : (s.ham k).h = (s.tb (s.ham k).tb).val) :
    hamAlignComplete k s = s.endAlign k true := by
  simp only [hamAlignComplete, Nat.mod_eq_of_lt hk, ha, hmet, if_true]

theorem hamAlignComplete_off {ppb : Nat} (hk : k < 16) (ha : (s.ham k).align = some (.slew ppb)) (hoff : (s.ham k).h ≠ (s.tb (s.ham k).tb).val) :
    hamAlignComplete k s = s := by
  simp only [hamAlignComplete, Nat.mod_eq_of_lt hk, ha, hoff, if_false]

theorem hamAlignComplete_none (hk : k < 16) (ha : (s.ham k).align = none) : hamAlignComplete k s = s := by
  simp only [hamAlignComplete, Nat.mod_eq_of_lt hk, ha]

/-! ### What the rows complete in -/

theorem hamEdgeCommit_completes (hk : k < 16) (hup : s.clk.tpUp = true) (hs : Tab.sorted s.hams = true) (hmode : (s.ham k).mode = .oneShot)
    (hframe : (s.ham k).frame = false) (hdis : (s.ham k).disarming = false) (halign : (s.ham k).align = none) (hnext : (s.ham k).next = some 0)
    (hdue : (s.ham k).start ≤ ((s.tb (s.ham k).tb).val : Int) + scaleRho (s.tb (s.ham k).tb).rateTotal commitU)
    (hahead : (s.tb (s.ham k).tb).val ≤ (s.ham k).start) :
    Completes (.hamEdgeCommit k) s (fun t => t.keeps s [.hams] ∧ (t.ham k).next = none ∧
      (∃ a b, (t.ham k).committed = (s.ham k).committed ++ [a, b] ∧ a.level = some true ∧ b.level = some false ∧ s.clk.tick ≤ a.tick ∧
        a.tick ≤ b.tick) ∧ ∀ j, j ≠ k → t.ham j = s.ham j) := by
  obtain ⟨a, b, hedges, hrise, hfall, hnow, hafter⟩ := Ham.edgesOf_pulse hframe s.clk.tick (s.tb (s.ham k).tb).rateTotal 0 (s.ham k).start
    (placePs (s.tb (s.ham k).tb).val (s.ham k).start (s.tb (s.ham k).tb).rateTotal) true
  have hrow := (hamCommit_oneShot hk hup hmode hdis halign hnext).trans (State.commitOneShot_due hdue hahead)
  rw [hedges] at hrow
  obtain ⟨hself, hothers⟩ := State.setHam_hamTo hs k { s.ham k with
    next := none, steppedOver := (s.ham k).steppedOver || false, committed := (s.ham k).committed ++ [a, b] }
  refine idxRow_completes (hamCommit k) rfl hk ?_
  rw [hrow]
  refine ⟨State.setHam_keeps _ _ _, ?_, ⟨a, b, ?_, hrise, hfall, hnow, hafter⟩, hothers⟩ <;> rw [hself]

theorem hamEdgeEmit_completes {e : HamEdge} {l : List HamEdge} {v : Bool} (hk : k < 16) (hup : s.clk.tpUp = true) (hs : Tab.sorted s.hams = true)
    (hcom : (s.ham k).committed = e :: l) (hdue : e.tick ≤ s.clk.tick) (hbound : e.boundary = none) (hlevel : e.level = some v)
    (hstop : e.stop = false) (hdis : (s.ham k).disarming = false) :
    Completes (.hamEdgeEmit k) s (fun t => t.keeps s [.hams, .out] ∧ t.ham k = { s.ham k with committed := l, active := v } ∧
      ((s.ham k).active = v ∨ s.pairGateOpen = false → t.out = s.out) ∧
      ((s.ham k).active ≠ v → s.pairGateOpen = true → t.out.length = s.out.length + 1)) := by
  let t : State := s.setHam k { s.ham k with committed := l }
  obtain ⟨htaken, -⟩ : HamTo k { s.ham k with committed := l } t s := State.setHam_hamTo hs k _
  obtain ⟨hset, -⟩ := State.setHam_hamTo (s := t) (Tab.sorted_put _ _ hs) k { t.ham k with active := v }
  have hham : (t.hamLevel k v ((e.tick : Int) - s.clk.tick) e.ps).ham k = { s.ham k with committed := l, active := v } := by
    rw [State.ham_congr (State.hamLevel_hams _ _ _ _ _), hset, htaken]
  have hrow : hamEmit k s = t.hamLevel k v ((e.tick : Int) - s.clk.tick) e.ps :=
    (hamEmit_level hk hup hcom hdue hbound hlevel hstop).trans (State.hamSettle_of_not_disarming (by rw [hham]; exact hdis))
  have hactive : (t.ham k).active = (s.ham k).active := (congrArg Ham.active htaken :)
  refine idxRow_completes (hamEmit k) rfl hk ?_
  rw [hrow, ← hactive]
  exact ⟨(State.hamLevel_keeps _ _ _ _ _).trans ((State.setHam_keeps _ _ _).mono (by simp)), hham,
    fun h => State.hamLevel_out_same (s := t) h _ _, fun hne hopen => State.hamLevel_out_edge (s := t) hne hopen _ _⟩

theorem hamAlignComplete_completes {ppb : Nat} (hk : k < 16) (hs : Tab.sorted s.hams = true) (ha : (s.ham k).align = some (.slew ppb))
    (hj : s.noHamJob) (hmet : (s.ham k).h = (s.tb (s.ham k).tb).val) :
    Completes (.hamAlignComplete k) s (fun t => t.keeps s [.hams] ∧ HamTo k { s.ham k with align := none } t s) := by
  have hend : hamAlignComplete k s = s.setHam k { s.ham k with align := none } :=
    (hamAlignComplete_met hk ha hmet).trans (State.endAlign_of_noHamJob hj (by simp [ha]) true)
  refine idxRow_completes (hamAlignComplete k) rfl hk ?_
  rw [hend]
  exact ⟨State.setHam_keeps _ _ _, State.setHam_hamTo hs k _⟩

end

/-! ### The statement -/

/-- Settles O40: a one-shot's commit by whether it is due, an emission by the oldest committed edge, the end of a slew by the output time. -/
theorem hammerEdges : Obligations.HammerEdges := by
  refine ⟨fun s k => hamEdgeCommit_completes, fun s k hk h => ?_, fun s k e l v => hamEdgeEmit_completes, fun s k hk h => ?_,
    fun s k ppb => hamAlignComplete_completes, fun s k ppb hk ha hoff => ?_, fun s k hk ha => ?_⟩
  · exact idxRow_next (hamCommit k) rfl hk (hamCommit_idle hk h)
  · exact idxRow_next (hamEmit k) rfl hk (hamEmit_idle hk h)
  · exact idxRow_next (hamAlignComplete k) rfl hk (hamAlignComplete_off hk ha hoff)
  · exact idxRow_next (hamAlignComplete k) rfl hk (hamAlignComplete_none hk ha)

end Sys2Proof.Machine
end

section
/-! The HAM commands (R393-R410): what the body of each stores and replies. -/

namespace Sys2Proof.Machine

open Sys2Proof

section
variable {t : State} {ws : List Word} {k : Nat}

/-- Acceptance of a command that is not carried out through IQ_REG changes the command channel alone (R28, R63). -/
theorem State.accepted_keeps (s : State) {op : Nat} (p : Pkt) (h : dataOp op = false) : (s.accepted op p).keeps s [.axg] := by
  obtain ⟨_, hs⟩ := accepted_replay s p h
  intro q hq
  rw [hs]
  cases q <;> simp [Part.same] at hq ⊢

/-! ### Masks of outputs -/

theorem maskBits_filter_eq_nil {n m : Nat} {q : Nat → Bool} (h : ∀ i, i < n → m.testBit i = true → q i = false) :
    (maskBits n m).filter q = [] := by
  rw [List.filter_eq_nil_iff]
  intro i hi
  obtain ⟨hn, hm⟩ := List.mem_filter.mp hi
  rw [h i (List.mem_range.mp hn) hm]
  exact Bool.false_ne_true

theorem maskBits_two_pow {n : Nat} (h : k < n) : maskBits n (2 ^ k) = [k] := by
  have hbit : (fun i => (2 ^ k).testBit i) = (fun i => i == k) := funext fun i => by
    rw [Nat.testBit_two_pow, Bool.beq_eq_decide_eq, decide_eq_decide]
    exact eq_comm
  rw [maskBits, hbit, List.filter_beq, List.count_eq_one_of_mem List.nodup_range (List.mem_range.mpr h)]
  rfl

theorem maskOf_singleton (k : Nat) : maskOf [k] = 2 ^ k := Nat.zero_or _

theorem testBit_fld_15_0 (w : Word) (h : k < 16) : (fld w 15 0).testBit k = w.getLsbD k :=
  (Nat.testBit_mod_two_pow _ 16 k).trans (by simp [h, BitVec.getLsbD])

theorem toNat_w32_two_pow (h : k < 16) : (w32 (2 ^ k)).toNat = 2 ^ k := by
  rw [w32, BitVec.toNat_ofNat]
  exact Nat.mod_eq_of_lt (Nat.pow_lt_pow_right (by decide) (by omega))

/-! ### HAM.ARM and HAM.CONV (R389, R393, R397, R403, R406, R410) -/

/-- A one-shot too early to be emitted is LATE, and nothing is armed. -/
theorem bodyHamArm_late (c : Ctx) (hkey : fld (wd ws 0) 3 0 = k) {x : Ham} (hx : hamOfWords ws = x) (hone : x.mode = .oneShot)
    (hlate : x.start < t.earliest k x.tb (t.tb x.tb).rateTotal) : bodyHamArm c ws t = (t.logLate .timing c (srcOf 7 k)).complete c
      { status := stLate, detail := 0, words := x.armWords k ++ timeWords (t.tb x.tb).val ++ [0] } := by
  subst hkey hx
  simp only [bodyHamArm, if_pos hone, if_pos hlate]

/-- An output that is as at reset takes a schedule; nothing of an earlier one has to end. -/
theorem State.armHam_reset (hj : t.noHamJob) (hreset : t.ham k = {}) (x : Ham) : t.armHam k x = t.setHam k { x with
    st := .armed, h := if x.mode = .oneShot then 0 else (t.tb x.tb).val, active := false, committed := [] } := by
  have hend : (t.endAlign k false).endDisarm k = t := by
    rw [State.endAlign_of_none (by rw [hreset]), State.endDisarm_of_noHamJob hj]
  simp only [State.armHam, hend, hreset, Bool.false_eq_true, false_and, if_false, List.map_nil]

theorem bodyHamArm_once (c : Ctx) (hj : t.noHamJob) (hkey : fld (wd ws 0) 3 0 = k) (hreset : t.ham k = {}) {x : Ham} (hx : hamOfWords ws = x)
    (hone : x.mode = .oneShot) (htime : t.earliest k x.tb (t.tb x.tb).rateTotal ≤ x.start) :
    bodyHamArm c ws t = (t.setHam k { x with st := .armed, next := some 0 }).ok c (x.armWords k ++ timeWords x.start ++ [0]) := by
  have harm : t.armHam k { x with next := some 0 } = t.setHam k { x with st := .armed, next := some 0 } := by
    rw [State.armHam_reset hj hreset, if_pos hone, ← hx]
    rfl
  subst hkey
  simp only [bodyHamArm, hx, if_pos hone, if_neg (Nat.not_lt.mpr htime), harm, hreset]
  rfl

/-- HAM.CONV as its parameters state it, clamped (R398, R410). -/
def hamConvOfWords (ws : List Word) : Ham :=
  let n := clamp 1 10000000 (fld (wd ws 1) 23 0)
  { mode := .conv, tb := fld (wd ws 0) 6 4, pol := bit (wd ws 0) 9, follow := bit (wd ws 0) 10, wrap := bit (wd ws 0) 12, nPerSec := n
    width := clamp 2000 (10 ^ 12 / (2 * n) - 2000) (wd ws 2).toNat, start := timeArg ws 3 }

theorem State.hamNext_of_no_stop (h : (t.ham k).stopEn = false) (n : Nat) : t.hamNext k n = t.setHam k { t.ham k with next := some n } :=
  if_neg (by simp [Ham.stopped, h])

/-- A converter start on an output that is as at reset arms it from its first sample on. -/
theorem bodyHamConv_reset (c : Ctx) (hj : t.noHamJob) (hkey : fld (wd ws 0) 3 0 = k) (hreset : t.ham k = {}) :
    ∃ u n r, bodyHamConv c ws t = u.ok c r ∧ r.length = 10 ∧ u.keeps t [.hams] ∧
      HamTo k { hamConvOfWords ws with st := .armed, h := (t.tb (fld (wd ws 0) 6 4)).val, next := some n } u t := by
  let x : Ham := { hamConvOfWords ws with st := .armed, h := (t.tb (fld (wd ws 0) 6 4)).val }
  have harm : t.armHam k (hamConvOfWords ws) = t.setHam k x := State.armHam_reset hj hreset _
  have hto : HamTo k x (t.setHam k x) t := State.setHam_hamTo_of_ne t k (Ham.ne_reset_of_armed rfl)
  let n := (hamConvOfWords ws).firstAt 0 (max (timeArg ws 3) (t.earliest k (fld (wd ws 0) 6 4) (t.hamRho (hamConvOfWords ws))))
  have hnext : (t.armHam k (hamConvOfWords ws)).hamNext k n = (t.setHam k x).setHam k { x with next := some n } := by
    rw [harm, State.hamNext_of_no_stop (by rw [hto.1]; rfl), hto.1]
  subst hkey
  refine ⟨_, n, _, congrArg (State.ok · c _) hnext, ?_, (State.setHam_keeps _ _ _).trans (State.setHam_keeps _ _ _), ?_⟩
  · simp [timeWords_length]
  · exact (State.setHam_hamTo_of_ne _ _ (Ham.ne_reset_of_armed rfl)).trans hto

/-! ### HAM.DISARM (R404, R407) -/

theorem bodyHamDisarm_none (c : Ctx) (hj : t.noHamJob) (hidle : ∀ k, k < 16 → (wd ws 0).getLsbD k = true → (t.ham k).st = .idle) :
    bodyHamDisarm c ws t = t.ok c [0] := by
  have hnone : (maskBits 16 (wd ws 0).toNat).filter (fun k => decide ((t.ham k).st ≠ .idle)) = [] :=
    maskBits_filter_eq_nil fun i hi hbit => by simp [hidle i hi hbit]
  simp only [bodyHamDisarm, hnone]
  exact State.hold_hamReplies_replies hj c rfl

/-- One output whose committed edges are still to come is waited for. -/
theorem bodyHamDisarm_waits (c : Ctx) (hj : t.noHamJob) (hk : k < 16) (hmask : wd ws 0 = w32 (2 ^ k)) (hst : (t.ham k).st ≠ .idle)
    (halign : (t.ham k).align = none) (hcom : (t.ham k).committed ≠ []) :
    bodyHamDisarm c ws t = (t.setHam k { t.ham k with disarming := true, next := none }).hold c (.hamDisarm (2 ^ k) (2 ^ k)) := by
  let u : State := t.setHam k { t.ham k with disarming := true, next := none }
  have hone : (maskBits 16 (wd ws 0).toNat).filter (fun k => decide ((t.ham k).st ≠ .idle)) = [k] := by
    rw [hmask, toNat_w32_two_pow hk, maskBits_two_pow hk, List.filter_singleton, decide_eq_true hst]
    rfl
  obtain ⟨hself, -⟩ : HamTo k { t.ham k with disarming := true, next := none } u t := State.setHam_hamTo_of_ne t k (Ham.ne_reset_of_st hst)
  have hleft : (u.ham k).committed ≠ [] := by
    rw [hself]
    exact hcom
  have hsettle : (u.hold c (.hamDisarm (2 ^ k) (2 ^ k))).hamSettle k = u.hold c (.hamDisarm (2 ^ k) (2 ^ k)) :=
    if_neg fun ⟨_, hnone, _⟩ => hleft hnone
  simp only [bodyHamDisarm, hone, List.foldl_cons, List.foldl_nil, State.endAlign_of_none halign, maskOf_singleton, hsettle, u]
  exact State.hold_hamReplies_waits (s := u) hj c (hamReply_disarm_waits _ (Nat.two_pow_pos k).ne')

/-! ### HAM.ALIGN (R400, R402, R403, R408) -/

/-- The mask, whether it slews and the rate that a HAM.ALIGN names: what its reply begins with. -/
def hamAlignWords (ws : List Word) : List Word :=
  [pack [(0, fld (wd ws 0) 15 0), (16, (bit (wd ws 0) 16).toNat)], w32 (clamp 1 500000 (fld (wd ws 1) 18 0)), 0]

theorem bodyHamAlign_none (c : Ctx) (hj : t.noHamJob) (h : ∀ k, k < 16 → (wd ws 0).getLsbD k = true →
    (t.ham k).mode = .oneShot ∨ (t.ham k).st = .idle ∨ (t.ham k).st = .done) : bodyHamAlign c ws t = t.ok c (hamAlignWords ws) := by
  have hnone : (maskBits 16 (fld (wd ws 0) 15 0)).filter (fun k => decide ((t.ham k).mode ≠ .oneShot) && !(t.ham k).disarming &&
      (decide ((t.ham k).st = .armed) || decide ((t.ham k).st = .running))) = [] :=
    maskBits_filter_eq_nil fun i hi hbit => by
      rcases h i hi ((testBit_fld_15_0 _ hi).symm.trans hbit) with hm | hm | hm <;> simp [hm]
  simp only [bodyHamAlign, hnone]
  exact State.hold_hamReplies_replies hj c rfl

/-- A slew begins on one running output that is off its time base, and the command waits for it. -/
theorem bodyHamAlign_slews (c : Ctx) (hj : t.noHamJob) (hk : k < 16) (hmask : fld (wd ws 0) 15 0 = 2 ^ k) (hslew : bit (wd ws 0) 16 = true)
    (hst : (t.ham k).st = .running) (hmode : (t.ham k).mode = .periodic) (hdis : (t.ham k).disarming = false) (halign : (t.ham k).align = none)
    (hoff : (t.ham k).h ≠ (t.tb (t.ham k).tb).val) :
    bodyHamAlign c ws t = (t.setHam k { t.ham k with align := some (.slew (clamp 1 500000 (fld (wd ws 1) 18 0))) }).hold c
      (.hamAlign (2 ^ k) (2 ^ k) 0 0 true (clamp 1 500000 (fld (wd ws 1) 18 0))) := by
  have hone : (maskBits 16 (2 ^ k)).filter (fun k => decide ((t.ham k).mode ≠ .oneShot) && !(t.ham k).disarming &&
      (decide ((t.ham k).st = .armed) || decide ((t.ham k).st = .running))) = [k] := by
    rw [maskBits_two_pow hk]
    simp [hmode, hdis, hst]
  have hstart (w : Work) (rate : Nat) : (t.hold c w).alignOne true rate k =
      (t.setHam k { t.ham k with align := some (.slew rate) }).hold c w := if_neg hoff
  simp only [bodyHamAlign, hmask, hone, hslew, List.foldl_cons, List.foldl_nil, State.endAlign_of_none halign, maskOf_singleton, hstart]
  exact State.hold_hamReplies_waits (s := t.setHam k _) hj c (hamReply_align_waits _ (Nat.two_pow_pos k).ne' _ _ _ _)

/-! ### HAM.STATUS (R409) -/

theorem State.nextEdge_length (t : State) (x : Ham) : (t.nextEdge x).length = 3 := by
  unfold State.nextEdge
  split
  · rfl
  · split <;> rfl
  · rfl

theorem bodyHamStatus_reply (c : Ctx) (ws : List Word) (t : State) : ∃ r, bodyHamStatus c ws t = t.ok c r ∧ r.length = 12 := by
  refine ⟨_, rfl, ?_⟩
  simp [timeWords_length, s64Words, State.nextEdge_length]

end

/-! ### The statement -/

/-- Settles O39: each command by its body, on the state that acceptance leaves, whose outputs and time bases are as they were. -/
theorem hammerCommands : Obligations.HammerCommands := by
  refine ⟨fun s p h => fun hone hlate => ?_, fun s p h hj => fun hreset hone htime => ?_, fun s p h hj hreset => ?_, fun s p h hj hidle => ?_,
    fun s p k h hj hk hmask hst halign hcom => ?_, fun s p h hj hsel => ?_,
    fun s p k h hj hk hmask hslew hst hmode hdis halign hoff => ?_, fun s p h => ?_⟩
  · rw [← s.accepted_earliest 0x0700 p, ← s.accepted_tb 0x0700 p] at hlate
    rw [← s.accepted_tb 0x0700 p]
    exact congrArg Host.Outcome.next ((receive_accepted bodyHamArm h).trans (bodyHamArm_late _ rfl rfl hone hlate))
  · rw [← s.accepted_earliest 0x0700 p, ← s.accepted_tb 0x0700 p] at htime
    rw [← s.accepted_ham 0x0700 p] at hreset
    obtain ⟨hself, hothers⟩ := (State.setHam_hamTo_of_ne (s.accepted 0x0700 p) (fld (wd p.words 0) 3 0)
      (x := { hamOfWords p.words with st := .armed, next := some 0 }) (Ham.ne_reset_of_armed rfl)).of_accepted
    exact ⟨_, answers_of_body rfl h (bodyHamArm_once _ (State.noHamJob.accepted hj _ _) rfl hreset rfl hone htime),
      State.setHam_keeps _ _ _, hself, hothers⟩
  · rw [← s.accepted_ham 0x0704 p] at hreset
    obtain ⟨u, n, r, hbody, hlen, hkeeps, hto⟩ := bodyHamConv_reset (s.ctxOf 0x0704 p) (State.noHamJob.accepted hj 0x0704 p) rfl hreset
    obtain ⟨hself, hothers⟩ := hto.of_accepted
    rw [State.accepted_tb] at hself
    refine ⟨u, r, answers_of_body rfl h hbody, hlen, hkeeps, ?_, ?_, ?_, ?_, ?_, hothers⟩ <;> rw [hself] <;> rfl
  · exact answers_of_body rfl h (bodyHamDisarm_none _ (State.noHamJob.accepted hj _ _) (by simpa using hidle))
  · rw [← s.accepted_ham 0x0701 p] at hst halign hcom ⊢
    exact congrArg Host.Outcome.next ((receive_accepted bodyHamDisarm h).trans
      (bodyHamDisarm_waits _ (State.noHamJob.accepted hj _ _) hk hmask hst halign hcom))
  · exact ⟨_, answers_of_body rfl h (bodyHamAlign_none _ (State.noHamJob.accepted hj _ _) (by simpa using hsel)), rfl, rfl, rfl⟩
  · rw [← s.accepted_ham 0x0702 p] at hst hmode hdis halign
    rw [← s.accepted_ham 0x0702 p, ← s.accepted_tb 0x0702 p] at hoff
    have hne : ((s.accepted 0x0702 p).ham k).st ≠ .idle := by
      rw [hst]
      exact nofun
    obtain ⟨hself, -⟩ := State.setHam_hamTo_of_ne (s.accepted 0x0702 p) k (x := { (s.accepted 0x0702 p).ham k with
      align := some (.slew (clamp 1 500000 (fld (wd p.words 1) 18 0))) }) (Ham.ne_reset_of_st hne)
    refine ⟨_, congrArg Host.Outcome.next ((receive_accepted bodyHamAlign h).trans
      (bodyHamAlign_slews _ (State.noHamJob.accepted hj _ _) hk hmask hslew hst hmode hdis halign hoff)), ?_, ?_, ?_, ?_⟩
    · exact (congrArg Ham.align hself :)
    · rw [← s.accepted_ham 0x0702 p]
      exact (congrArg Ham.h hself :)
    · simp
    · exact ((State.hold_keeps _ _ _).mono (by simp)).trans
        (((State.setHam_keeps _ _ _).mono (by simp)).trans ((State.accepted_keeps s p rfl).mono (by simp)))
  · obtain ⟨r, hbody, hlen⟩ := bodyHamStatus_reply (s.ctxOf 0x0703 p) p.words (s.accepted 0x0703 p)
    exact ⟨r, answers_of_body rfl h hbody, hlen⟩

end Sys2Proof.Machine
end

section
/-! Controller memory (R442, R585, R592): the operations that leave it as it is, in the order of the model's files, and those that write it and
keep its form. -/

namespace Sys2Proof.Machine

open Sys2Proof

/-! ### How a projection passes conditionals, folds and pairs -/

@[simp] theorem mem_ite (c : Prop) [Decidable c] (a b : State) : (if c then a else b).mem = if c then a.mem else b.mem :=
  apply_ite State.mem c a b

@[simp] theorem foldl_mem {α : Type} (f : State → α → State) (h : ∀ t x, (f t x).mem = t.mem) (l : List α) (s : State) :
    (l.foldl f s).mem = s.mem := by
  induction l generalizing s with
  | nil => rfl
  | cons x l ih => rw [List.foldl_cons, ih, h]

@[simp] theorem foldl_snd_mem {α β : Type} (f : β × State → α → β × State) (h : ∀ a x, (f a x).2.mem = a.2.mem) (l : List α)
    (a : β × State) : (l.foldl f a).2.mem = a.2.mem := by
  induction l generalizing a with
  | nil => rfl
  | cons x l ih => rw [List.foldl_cons, ih, h]

/-- The state of a pair that an operation has returned. -/
theorem snd_mem {α : Type} {p : α × State} {a : α} {t : State} {x : Mem} (h : p = (a, t)) (hp : p.2.mem = x) : t.mem = x := by
  rw [← hp, h]

@[simp] theorem onIdx_mem (n k : Nat) (f : State → State) (s : State) (h : (f s).mem = s.mem) : (onIdx n k f s).mem = s.mem := by
  simp [onIdx, h]

@[simp] theorem State.whileRunning_mem (s : State) (f : State → State) (h : (f s).mem = s.mem) : (s.whileRunning f).mem = s.mem := by
  simp [State.whileRunning, h]

theorem mem_ite_of {c : Prop} [Decidable c] {a b : State} {x : Mem} (ha : a.mem = x) (hb : b.mem = x) :
    (if c then a else b).mem = x := by
  split
  · exact ha
  · exact hb

/-! ### The operations of Machine/Ops.lean -/

@[simp] theorem State.modLane_mem (s : State) (k : Nat) (f : Lane → Lane) : (s.modLane k f).mem = s.mem := by simp [State.modLane]
@[simp] theorem State.modPort_mem (s : State) (k : Nat) (f : Port → Port) : (s.modPort k f).mem = s.mem := by simp [State.modPort]
@[simp] theorem State.modPair_mem (s : State) (k : Nat) (f : Bypass → Bypass) : (s.modPair k f).mem = s.mem := by simp [State.modPair]
@[simp] theorem State.modTb_mem (s : State) (k : Nat) (f : TBase → TBase) : (s.modTb k f).mem = s.mem := by simp [State.modTb]
@[simp] theorem State.drawNat_mem (s : State) : s.drawNat.2.mem = s.mem := by simp [State.drawNat]
@[simp] theorem State.drawInt_mem (s : State) : s.drawInt.2.mem = s.mem := by simp [State.drawInt]
@[simp] theorem State.drawCount_mem (s : State) (m old : Nat) : (s.drawCount m old).2.mem = s.mem := by simp [State.drawCount]

@[simp] theorem State.queueEvent_mem (s : State) (pl : Plane) (r? : Option Rec) : (s.queueEvent pl r?).mem = s.mem := by
  unfold State.queueEvent
  (repeat' split) <;> simp

@[simp] theorem State.signal_mem (s : State) (vec : Nat) : (s.signal vec).mem = s.mem := by simp [State.signal]

theorem State.ringReply_mem (s : State) (pkt : List Word) (t : State) (h : s.ringReply pkt = some t) : t.mem = s.mem := by
  simp only [State.ringReply, Option.ite_none_right_eq_some, Option.some.injEq] at h
  obtain ⟨-, rfl⟩ := h
  simp

@[simp] theorem drainReplies_mem (n : Nat) (s : State) : (drainReplies n s).mem = s.mem := by
  induction n generalizing s with
  | zero => rfl
  | succ n ih =>
    unfold drainReplies
    split
    · rfl
    · split
      next u h => simp [ih, State.ringReply_mem s _ u h]
      · rfl

@[simp] theorem State.drainReplies_mem (s : State) : s.drainReplies.mem = s.mem := by simp [State.drainReplies]
@[simp] theorem State.scriptStatus_mem (s : State) (idx status : Nat) : (s.scriptStatus idx status).mem = s.mem := by
  simp [State.scriptStatus]
@[simp] theorem State.checkStartDone_mem (s : State) : s.checkStartDone.mem = s.mem := by simp [State.checkStartDone]
@[simp] theorem State.twinSeq_mem (s : State) (kind : Nat) : (s.twinSeq kind).2.mem = s.mem := by simp [State.twinSeq]
@[simp] theorem State.putTime_mem (s : State) (i : Ins) : (s.putTime i).mem = s.mem := by simp [State.putTime]
@[simp] theorem State.twinSend_mem (s : State) (kind : Nat) (ws : List Word) : (s.twinSend kind ws).mem = s.mem := by simp [State.twinSend]

@[simp] theorem State.sendReply_mem (s : State) (c : Ctx) (r : Rpl) : (s.sendReply c r).mem = s.mem := by
  unfold State.sendReply
  (repeat' split) <;> simp

@[simp] theorem State.mirrorDone_mem (s : State) (c : Ctx) (r pr : Rpl) : (s.mirrorDone c r pr).mem = s.mem := by simp [State.mirrorDone]

@[simp] theorem State.complete_mem (s : State) (c : Ctx) (r : Rpl) : (s.complete c r).mem = s.mem := by
  unfold State.complete
  (repeat' split) <;> simp

@[simp] theorem State.setHostRegs_mem (s : State) (r : HostRegs) : (s.setHostRegs r).mem = s.mem := by simp [State.setHostRegs]

@[simp] theorem State.applyReg_mem (s : State) (o : RegOp) : (s.applyReg o).mem = s.mem := by
  cases o <;> rfl

@[simp] theorem State.putReg_mem (s : State) (o : RegOp) : (s.putReg o).mem = s.mem := by simp [State.putReg]

@[simp] theorem State.regEnter_mem (s : State) : s.regEnter.mem = s.mem := by
  unfold State.regEnter
  split <;> simp

@[simp] theorem State.regStep_mem (s : State) : s.regStep.mem = s.mem := by
  unfold State.regStep
  split <;> simp

@[simp] theorem State.drainReg_mem (s : State) : s.drainReg.mem = s.mem := by simp [State.drainReg]
@[simp] theorem State.copyRegs_mem (s : State) : s.copyRegs.mem = s.mem := by simp [State.copyRegs]

/-- Every reply keeps it, in whatever context; `State.ok_mem` is the case of an accepted packet's. -/
@[simp] theorem ok_ctx_mem (s : State) (c : Ctx) (ws : List Word) : (s.ok c ws).mem = s.mem := by simp [State.ok]

@[simp] theorem err_ctx_mem (s : State) (c : Ctx) (status detail : Nat) : (s.err c status detail).mem = s.mem := by simp [State.err]
@[simp] theorem State.completeWhere_mem (s : State) (f : Work → Option Rpl) : (s.completeWhere f).mem = s.mem := by simp [State.completeWhere]

@[simp] theorem State.completeFirst_mem (s : State) (p : Work → Bool) (r : Rpl) : (s.completeFirst p r).mem = s.mem := by
  unfold State.completeFirst
  split <;> simp

/-! ### The operations of Machine/Twin.lean -/

@[simp] theorem State.gateEdges_mem (s : State) : s.gateEdges.mem = s.mem := by
  rw [State.gateEdges, foldl_mem]
  simp

@[simp] theorem State.beacon_mem (s : State) : s.beacon.mem = s.mem := by simp [State.beacon]
@[simp] theorem State.setUnit_mem (s : State) (n : UnitSt) (cause : Nat) : (s.setUnit n cause).mem = s.mem := by simp [State.setUnit]
@[simp] theorem State.setGen_mem (s : State) (g : Nat) : (s.setGen g).mem = s.mem := by simp [State.setGen]
@[simp] theorem State.takeover_mem (s : State) (gen cause : Nat) : (s.takeover gen cause).mem = s.mem := by simp [State.takeover]
@[simp] theorem State.standDown_mem (s : State) : s.standDown.mem = s.mem := by simp [State.standDown]
@[simp] theorem State.switchReply_mem (s : State) (done : Bool) : (s.switchReply done).mem = s.mem := by simp [State.switchReply]
@[simp] theorem State.mirrorAlone_mem (s : State) : s.mirrorAlone.mem = s.mem := by simp [State.mirrorAlone]
@[simp] theorem State.twinLost_mem (s : State) : s.twinLost.mem = s.mem := by simp [State.twinLost]
@[simp] theorem State.twinHeard_mem (s : State) : s.twinHeard.mem = s.mem := by simp [State.twinHeard]
@[simp] theorem State.raiseDispute_mem (s : State) (d : Disputed) (last : Int) : (s.raiseDispute d last).mem = s.mem := by
  simp [State.raiseDispute]
@[simp] theorem State.compared_mem (s : State) (key : Nat) (d : Disputed) (x : Int) : (s.compared key d x).mem = s.mem := by
  simp [State.compared]

@[simp] theorem State.matchHam_mem (s : State) (k : Nat) : (s.matchHam k).mem = s.mem := by
  unfold State.matchHam
  split <;> simp

@[simp] theorem State.ham0Boundary_mem (s : State) (k tb : Nat) (t : Int) (uncal : Bool) :
    (s.ham0Boundary k tb t uncal).mem = s.mem := by
  simp [State.ham0Boundary]
@[simp] theorem State.syncSent_mem (s : State) (sid seq tb : Nat) (st : Stamp) : (s.syncSent sid seq tb st).mem = s.mem := by
  simp [State.syncSent]
@[simp] theorem State.twinTell_mem (s : State) (ws : List Word) : (s.twinTell ws).mem = s.mem := by simp [State.twinTell]
@[simp] theorem State.witnessSample_mem (s : State) (kind id : Nat) (x : Int) : (s.witnessSample kind id x).mem = s.mem := by
  simp [State.witnessSample]

/-! ### The operations of Machine/Axger.lean -/

@[simp] theorem State.authCheck_mem (s : State) (op : Nat) (p : Pkt) : (s.authCheck op p).s.mem = s.mem := by rw [authCheck_frame]
@[simp] theorem State.segAuth_mem (s : State) (op : Nat) (p : Pkt) : (s.segAuth op p).s.mem = s.mem := by rw [segAuth_frame]

@[simp] theorem State.sendToChild_mem (s : State) (w : Worker) (pkt : List Word) : (s.sendToChild w pkt).mem = s.mem := by
  simp [State.sendToChild]

@[simp] theorem State.relayCommand_mem (s : State) (op : Nat) (p : Pkt) : (s.relayCommand op p).mem = s.mem := by
  unfold State.relayCommand
  dsimp only
  (repeat' split) <;> simp

@[simp] theorem State.segment_mem (s : State) (op : Nat) (p : Pkt) : (s.segment op p).mem = s.mem := by
  unfold State.segment
  dsimp only
  (repeat' split) <;> simp

@[simp] theorem State.authFailed_mem (s : State) (c : Ctx) (detail : Nat) : (s.authFailed c detail).mem = s.mem := by simp [State.authFailed]

@[simp] theorem bodySysNop_mem (c : Ctx) (ws : List Word) (s : State) : (bodySysNop c ws s).mem = s.mem := by simp [bodySysNop]
@[simp] theorem bodySysIdent_mem (c : Ctx) (ws : List Word) (s : State) : (bodySysIdent c ws s).mem = s.mem := by simp [bodySysIdent]
@[simp] theorem bodyAxgConfig_mem (c : Ctx) (ws : List Word) (s : State) : (bodyAxgConfig c ws s).mem = s.mem := by simp [bodyAxgConfig]
@[simp] theorem axgErrRead_mem (s : State) : (axgErrRead s).mem = s.mem := by simp [axgErrRead]
@[simp] theorem State.countBadHdr_mem (s : State) : s.countBadHdr.mem = s.mem := by simp [State.countBadHdr]
@[simp] theorem State.countMalformed_mem (s : State) : s.countMalformed.mem = s.mem := by simp [State.countMalformed]

/-! ### The operations of Machine/Crucible.lean -/

@[simp] theorem State.beginFlush_mem (s : State) (why : FlushBy) : (s.beginFlush why).mem = s.mem := by simp [State.beginFlush]
@[simp] theorem State.faultFlush_mem (s : State) : s.faultFlush.mem = s.mem := by simp [State.faultFlush]
@[simp] theorem State.commandFlush_mem (s : State) : s.commandFlush.mem = s.mem := by simp [State.commandFlush]

@[simp] theorem State.endFlush_mem (s : State) : s.endFlush.mem = s.mem := by
  unfold State.endFlush
  dsimp only
  (repeat' split) <;> simp

@[simp] theorem State.tearFlush_mem (s : State) : s.tearFlush.mem = s.mem := by
  unfold State.tearFlush
  split <;> simp

@[simp] theorem bodyCrucibleRead_mem (c : Ctx) (ws : List Word) (s : State) : (bodyCrucibleRead c ws s).mem = s.mem := by
  simp [bodyCrucibleRead]
@[simp] theorem bodyCrucibleFlush_mem (c : Ctx) (ws : List Word) (s : State) : (bodyCrucibleFlush c ws s).mem = s.mem := by
  simp [bodyCrucibleFlush]
@[simp] theorem bodyCrucibleLatchRead_mem (c : Ctx) (ws : List Word) (s : State) : (bodyCrucibleLatchRead c ws s).mem = s.mem := by
  simp [bodyCrucibleLatchRead]
@[simp] theorem bodyCrucibleClear_mem (c : Ctx) (ws : List Word) (s : State) : (bodyCrucibleClear c ws s).mem = s.mem := by
  simp [bodyCrucibleClear]

@[simp] theorem ringTake_mem (s : State) : (ringTake s).mem = s.mem := by
  unfold ringTake
  (repeat' split) <;> simp

@[simp] theorem latchTimer_mem (s : State) : (latchTimer s).mem = s.mem := by simp [latchTimer]
@[simp] theorem recordArrival_mem (pl : Plane) (code source : Nat) (d5 d6 d7 : Word) (s : State) :
    (recordArrival pl code source d5 d6 d7 s).mem = s.mem := by
  simp [recordArrival]

/-! ### The operations of Machine/Bellows.lean -/

@[simp] theorem holdupMean_mem (pinUv : Nat) (s : State) : (holdupMean pinUv s).mem = s.mem := by simp [holdupMean]
@[simp] theorem huLowTimer_mem (s : State) : (huLowTimer s).mem = s.mem := by simp [huLowTimer]
@[simp] theorem windowBoundary_mem (s : State) : (windowBoundary s).mem = s.mem := by simp [windowBoundary]

theorem State.admitHead_mem (s : State) (j : LedJob) (t : State) (h : s.admitHead = some (j, t)) : t.mem = s.mem := by
  unfold State.admitHead at h
  split at h
  · cases h
  · split at h
    · cases h
      rfl
    · cases h

@[simp] theorem meterInterval_mem (rails : List Nat) (s : State) : (meterInterval rails s).mem = s.mem := by simp [meterInterval]
@[simp] theorem bodyBudget_mem (c : Ctx) (ws : List Word) (s : State) : (bodyBudget c ws s).mem = s.mem := by simp [bodyBudget]
@[simp] theorem bodyHoldup_mem (c : Ctx) (ws : List Word) (s : State) : (bodyHoldup c ws s).mem = s.mem := by simp [bodyHoldup]
@[simp] theorem bodyReport_mem (c : Ctx) (ws : List Word) (s : State) : (bodyReport c ws s).mem = s.mem := by simp [bodyReport]
@[simp] theorem bodyCosts_mem (c : Ctx) (ws : List Word) (s : State) : (bodyCosts c ws s).mem = s.mem := by simp [bodyCosts]

/-! ### The operations of Machine/Memory.lean -/

@[simp] theorem State.setFwByte_mem (s : State) (slot a : Nat) (b : Byte) : (s.setFwByte slot a b).mem = s.mem := by simp [State.setFwByte]

@[simp] theorem State.setFwBytes_mem (s : State) (slot a : Nat) (bs : List Byte) : (s.setFwBytes slot a bs).mem = s.mem := by
  induction bs generalizing s a with
  | nil => rfl
  | cons b t ih => simp [State.setFwBytes, ih]

@[simp] theorem State.setBootGen_mem (s : State) (slot gen : Nat) : (s.setBootGen slot gen).mem = s.mem := by simp [State.setBootGen]

@[simp] theorem bodyMemRead_mem (slots : State → Nat → Option Byte) (c : Ctx) (ws : List Word) (s : State) :
    (bodyMemRead slots c ws s).mem = s.mem := by simp [bodyMemRead]

@[simp] theorem bodyImageWrite_mem (c : Ctx) (ws : List Word) (s : State) : (bodyImageWrite c ws s).mem = s.mem := by
  unfold bodyImageWrite
  dsimp only
  split
  · simp
  · rw [foldl_mem] <;> simp

/-! ### The operations of Machine/Security.lean -/

@[simp] theorem State.wipe_mem (s : State) : s.wipe.mem = s.mem := by simp [State.wipe]
@[simp] theorem State.setLc_mem (s : State) (n : Lc) : (s.setLc n).mem = s.mem := by simp [State.setLc]
@[simp] theorem State.tamperSteps_mem (s : State) (cause : Nat) : (s.tamperSteps cause).mem = s.mem := by simp [State.tamperSteps]

@[simp] theorem tamperDetected_mem (cause : Nat) (s : State) : (tamperDetected cause s).mem = s.mem := by
  unfold tamperDetected
  (repeat' split) <;> simp

@[simp] theorem tamperInputHigh_mem (input : Nat) (s : State) : (tamperInputHigh input s).mem = s.mem := by simp [tamperInputHigh]
@[simp] theorem vbatFall_mem (lost : Bool) (s : State) : (vbatFall lost s).mem = s.mem := by simp [vbatFall]
@[simp] theorem bodyLcSet_mem (c : Ctx) (ws : List Word) (s : State) : (bodyLcSet c ws s).mem = s.mem := by simp [bodyLcSet]
@[simp] theorem bodyLcStatus_mem (c : Ctx) (ws : List Word) (s : State) : (bodyLcStatus c ws s).mem = s.mem := by simp [bodyLcStatus]
@[simp] theorem bodyKeyLoad_mem (c : Ctx) (ws : List Word) (s : State) : (bodyKeyLoad c ws s).mem = s.mem := by simp [bodyKeyLoad]
@[simp] theorem bodySeqReset_mem (c : Ctx) (ws : List Word) (s : State) : (bodySeqReset c ws s).mem = s.mem := by simp [bodySeqReset]
@[simp] theorem bodyTamperStatus_mem (c : Ctx) (ws : List Word) (s : State) : (bodyTamperStatus c ws s).mem = s.mem := by
  simp [bodyTamperStatus]
@[simp] theorem bodyScanEnable_mem (c : Ctx) (ws : List Word) (s : State) : (bodyScanEnable c ws s).mem = s.mem := by simp [bodyScanEnable]
@[simp] theorem State.annealRecord_mem (s : State) (result test completed source : Nat) :
    (s.annealRecord result test completed source).mem = s.mem := by
  simp [State.annealRecord]
@[simp] theorem bodyAnnealConfig_mem (c : Ctx) (ws : List Word) (s : State) : (bodyAnnealConfig c ws s).mem = s.mem := by
  simp [bodyAnnealConfig]
@[simp] theorem bodyAnnealResult_mem (c : Ctx) (ws : List Word) (s : State) : (bodyAnnealResult c ws s).mem = s.mem := by
  simp [bodyAnnealResult]
@[simp] theorem runHourly_mem (s : State) : (runHourly s).mem = s.mem := by simp [runHourly]

/-! ### The operations of Machine/Counters.lean -/

@[simp] theorem State.setPend_mem (s : State) (p n : Nat) : (s.setPend p n).mem = s.mem := by simp [State.setPend]
@[simp] theorem State.setBacklog_mem (s : State) (p n : Nat) : (s.setBacklog p n).mem = s.mem := by simp [State.setBacklog]
@[simp] theorem State.event_mem (s : State) (ev inst q w : Nat) : (s.event ev inst q w).mem = s.mem := by simp [State.event]
@[simp] theorem State.ev_mem (s : State) (ev inst : Nat) : (s.ev ev inst).mem = s.mem := by simp [State.ev]
@[simp] theorem State.addTd_mem (s : State) (p c n : Nat) : (s.addTd p c n).mem = s.mem := by simp [State.addTd]
@[simp] theorem State.segArrive_mem (s : State) (p n : Nat) : (s.segArrive p n).mem = s.mem := by simp [State.segArrive]
@[simp] theorem State.segFate_mem (s : State) (p n : Nat) (delivered : Bool) (cause : Nat) :
    (s.segFate p n delivered cause).mem = s.mem := by
  simp [State.segFate]
@[simp] theorem State.inWindow_mem (s : State) (tick p : Nat) (f : Band → Band) : (s.inWindow tick p f).mem = s.mem := by
  simp [State.inWindow]
@[simp] theorem State.rxBand_mem (s : State) (p len tick : Nat) : (s.rxBand p len tick).mem = s.mem := by simp [State.rxBand]
@[simp] theorem State.txBand_mem (s : State) (p len tick : Nat) : (s.txBand p len tick).mem = s.mem := by simp [State.txBand]
@[simp] theorem bandwidthEnd_mem (s : State) : (bandwidthEnd s).mem = s.mem := by simp [bandwidthEnd]
@[simp] theorem bodyCntConfig_mem (c : Ctx) (ws : List Word) (s : State) : (bodyCntConfig c ws s).mem = s.mem := by simp [bodyCntConfig]
@[simp] theorem State.setCnt_mem (s : State) (k v : Nat) (ovf : Bool) : (s.setCnt k v ovf).mem = s.mem := by simp [State.setCnt]
@[simp] theorem State.clearOvf_mem (s : State) (k : Nat) : (s.clearOvf k).mem = s.mem := by simp [State.clearOvf]
@[simp] theorem State.readCnt_mem (s : State) (k : Nat) (clr : Bool) : (s.readCnt k clr).2.mem = s.mem := by simp [State.readCnt]
@[simp] theorem State.writeCnt_mem (s : State) (k : Nat) (a b : Word) : (s.writeCnt k a b).2.mem = s.mem := by simp [State.writeCnt]

@[simp] theorem State.counterJob_mem (s : State) : s.counterJob.mem = s.mem := by
  unfold State.counterJob
  split <;> simp

@[simp] theorem bodyCntRead_mem (c : Ctx) (ws : List Word) (s : State) : (bodyCntRead c ws s).mem = s.mem := by simp [bodyCntRead]
@[simp] theorem bodyCntWrite_mem (c : Ctx) (ws : List Word) (s : State) : (bodyCntWrite c ws s).mem = s.mem := by simp [bodyCntWrite]
@[simp] theorem bodyBandwidth_mem (c : Ctx) (ws : List Word) (s : State) : (bodyBandwidth c ws s).mem = s.mem := by simp [bodyBandwidth]
@[simp] theorem bodyCntUser_mem (c : Ctx) (ws : List Word) (s : State) : (bodyCntUser c ws s).mem = s.mem := by simp [bodyCntUser]
@[simp] theorem cntPageRead_mem (k word : Nat) (s : State) : (cntPageRead k word s).mem = s.mem := by simp [cntPageRead]

/-! ### The operations of Machine/Buffer.lean -/

@[simp] theorem State.modFrame_mem (s : State) (id : Nat) (g : Frame → Frame) : (s.modFrame id g).mem = s.mem := by simp [State.modFrame]
@[simp] theorem State.newFrame_mem (s : State) (f : Frame) : (s.newFrame f).2.mem = s.mem := by simp [State.newFrame]
@[simp] theorem State.drawCells_mem (s : State) (id len : Nat) : (s.drawCells id len).mem = s.mem := by simp [State.drawCells]

@[simp] theorem State.carry_mem (s : State) (id p n : Nat) : (s.carry id p n).mem = s.mem := by
  unfold State.carry
  (repeat' split) <;> simp

@[simp] theorem State.wrote_mem (s : State) (id len : Nat) : (s.wrote id len).mem = s.mem := by
  unfold State.wrote
  split <;> simp

@[simp] theorem State.arriveSegs_mem (s : State) (id len : Nat) : (s.arriveSegs id len).mem = s.mem := by simp [State.arriveSegs]
@[simp] theorem State.arriveTick_mem (s : State) : s.arriveTick.mem = s.mem := by simp [State.arriveTick]
@[simp] theorem State.eraseFrame_mem (s : State) (id : Nat) : (s.eraseFrame id).mem = s.mem := by simp [State.eraseFrame]

@[simp] theorem State.finish_mem (s : State) (id cause : Nat) : (s.finish id cause).mem = s.mem := by
  unfold State.finish
  split <;> simp

@[simp] theorem State.endFrame_mem (s : State) (id : Nat) : (s.endFrame id).mem = s.mem := by
  unfold State.endFrame
  split <;> simp

@[simp] theorem State.placeSegs_mem (s : State) (q p n : Nat) : (s.placeSegs q p n).mem = s.mem := by
  unfold State.placeSegs
  dsimp only
  (repeat' split) <;> simp

@[simp] theorem State.slotTick_mem (s : State) : s.slotTick.mem = s.mem := by
  have h (t : State) (p : Nat) (c : Bool) : (if c then t else t.setBacklog p (t.backlogOf p - 1)).mem = t.mem := by
    split <;> simp
  simp [State.slotTick]

@[simp] theorem State.dropCopy_mem (s : State) (c : Copy) : (s.dropCopy c).mem = s.mem := by simp [State.dropCopy]
@[simp] theorem State.notePeak_mem (s : State) : s.notePeak.mem = s.mem := by simp [State.notePeak]
@[simp] theorem State.refuse_mem (s : State) (p q id : Nat) : (s.refuse p q id).mem = s.mem := by simp [State.refuse]
@[simp] theorem State.admitCopy_mem (s : State) (c : Copy) : (s.admitCopy c).mem = s.mem := by simp [State.admitCopy]
@[simp] theorem State.countPuntDrop_mem (s : State) (q : Nat) : (s.countPuntDrop q).mem = s.mem := by simp [State.countPuntDrop]
@[simp] theorem State.punt_mem (s : State) (id : Nat) (dst : PuntTo) : (s.punt id dst).mem = s.mem := by simp [State.punt]
@[simp] theorem State.consume_mem (s : State) (x : PuntItem) : (s.consume x).mem = s.mem := by simp [State.consume]
@[simp] theorem State.dropPunt_mem (s : State) (x : PuntItem) (cause : Nat) : (s.dropPunt x cause).mem = s.mem := by simp [State.dropPunt]

@[simp] theorem State.cutShort_mem (s : State) (c : Copy) (lo : Nat) : (s.cutShort c lo).mem = s.mem := by
  unfold State.cutShort
  dsimp only
  (repeat' split) <;> simp

@[simp] theorem State.flushPort_mem (s : State) (p : Nat) : (s.flushPort p).mem = s.mem := by simp [State.flushPort]

@[simp] theorem State.truncateRx_mem (s : State) (p : Nat) : (s.truncateRx p).mem = s.mem := by
  unfold State.truncateRx
  split <;> simp

@[simp] theorem bodyMinSet_mem (c : Ctx) (ws : List Word) (s : State) : (bodyMinSet c ws s).mem = s.mem := by
  unfold bodyMinSet
  dsimp only
  split
  · rw [ok_ctx_mem, State.notePeak_mem, foldl_mem]
    simp
  · simp

@[simp] theorem bodyPoolSet_mem (c : Ctx) (ws : List Word) (s : State) : (bodyPoolSet c ws s).mem = s.mem := by simp [bodyPoolSet]
@[simp] theorem bodyOccupancy_mem (c : Ctx) (ws : List Word) (s : State) : (bodyOccupancy c ws s).mem = s.mem := by simp [bodyOccupancy]

/-! ### The operations of Machine/Time.lean -/

@[simp] theorem State.noteIsland_mem (s : State) : s.noteIsland.mem = s.mem := by simp [State.noteIsland]

@[simp] theorem State.endSlew_mem (s : State) (n : Nat) : (s.endSlew n).mem = s.mem := by
  unfold State.endSlew
  split <;> simp

@[simp] theorem State.commandTime_mem (s : State) (n v : Nat) : (s.commandTime n v).mem = s.mem := by simp [State.commandTime]
@[simp] theorem State.logLate_mem (s : State) (pl : Plane) (c : Ctx) (source : Nat) : (s.logLate pl c source).mem = s.mem := by
  simp [State.logLate]
@[simp] theorem bodyTimeGet_mem (c : Ctx) (ws : List Word) (s : State) : (bodyTimeGet c ws s).mem = s.mem := by simp [bodyTimeGet]
@[simp] theorem State.applySet_mem (s : State) (c : Ctx) (n : Nat) (at_ : Bool) (v : Nat) : (s.applySet c n at_ v).mem = s.mem := by
  simp [State.applySet]
@[simp] theorem bodyTimeSet_mem (c : Ctx) (ws : List Word) (s : State) : (bodyTimeSet c ws s).mem = s.mem := by simp [bodyTimeSet]
@[simp] theorem bodyAdjRate_mem (c : Ctx) (ws : List Word) (s : State) : (bodyAdjRate c ws s).mem = s.mem := by simp [bodyAdjRate]
@[simp] theorem State.applyStep_mem (s : State) (c : Ctx) (n : Nat) (at_ : Bool) (off : Int) (t : Nat) :
    (s.applyStep c n at_ off t).mem = s.mem := by
  simp [State.applyStep]
@[simp] theorem bodyTimeStep_mem (c : Ctx) (ws : List Word) (s : State) : (bodyTimeStep c ws s).mem = s.mem := by simp [bodyTimeStep]
@[simp] theorem bodyTimeSlew_mem (c : Ctx) (ws : List Word) (s : State) : (bodyTimeSlew c ws s).mem = s.mem := by simp [bodyTimeSlew]
@[simp] theorem bodyTimeEpoch_mem (c : Ctx) (ws : List Word) (s : State) : (bodyTimeEpoch c ws s).mem = s.mem := by simp [bodyTimeEpoch]

@[simp] theorem slewComplete_mem (n : Nat) (s : State) : (slewComplete n s).mem = s.mem := by
  unfold slewComplete
  split <;> simp

@[simp] theorem State.tickTb_mem (s : State) (n : Nat) : (s.tickTb n).mem = s.mem := by simp [State.tickTb]

/-! ### The operations of Machine/Ref.lean -/

@[simp] theorem State.modRefRun_mem (s : State) (k : Nat) (f : RefRun → RefRun) : (s.modRefRun k f).mem = s.mem := by simp [State.modRefRun]
@[simp] theorem State.setBw_mem (s : State) (b : Nat) : (s.setBw b).mem = s.mem := by simp [State.setBw]
@[simp] theorem State.setAcqBw_mem (s : State) : s.setAcqBw.mem = s.mem := by simp [State.setAcqBw]
@[simp] theorem State.setTrackBw_mem (s : State) : s.setTrackBw.mem = s.mem := by simp [State.setTrackBw]
@[simp] theorem State.steerTowards_mem (s : State) (x : Int) : (s.steerTowards x).mem = s.mem := by simp [State.steerTowards]
@[simp] theorem State.holdSteering_mem (s : State) : s.holdSteering.mem = s.mem := by simp [State.holdSteering]
@[simp] theorem State.tickSteer_mem (s : State) : s.tickSteer.mem = s.mem := by simp [State.tickSteer]
@[simp] theorem State.setTb0_mem (s : State) (n : Tb0St) : (s.setTb0 n).mem = s.mem := by simp [State.setTb0]
@[simp] theorem State.loseReference_mem (s : State) : s.loseReference.mem = s.mem := by simp [State.loseReference]

@[simp] theorem State.takeSelection_mem (s : State) (n : Nat) : (s.takeSelection n).mem = s.mem := by
  unfold State.takeSelection
  dsimp only
  split <;> simp

@[simp] theorem State.unvote_mem (s : State) : s.unvote.mem = s.mem := by simp [State.unvote]

@[simp] theorem State.selectAuto_mem (s : State) : s.selectAuto.mem = s.mem := by
  unfold State.selectAuto
  dsimp only
  (repeat' split) <;> simp

@[simp] theorem State.evaluate_mem (s : State) : s.evaluate.mem = s.mem := by simp [State.evaluate]
@[simp] theorem State.evaluateTick_mem (s : State) : s.evaluateTick.mem = s.mem := by simp [State.evaluateTick]
@[simp] theorem State.checkTarget_mem (s : State) : s.checkTarget.mem = s.mem := by simp [State.checkTarget]
@[simp] theorem State.phaseSample_mem (s : State) (theta : Int) : (s.phaseSample theta).mem = s.mem := by simp [State.phaseSample]
@[simp] theorem State.comparison_mem (s : State) (k : Nat) : (s.comparison k).mem = s.mem := by simp [State.comparison]

@[simp] theorem State.tickComparison_mem (s : State) : s.tickComparison.mem = s.mem := by
  unfold State.tickComparison
  split <;> simp

@[simp] theorem State.refSeen_mem (s : State) (k : Nat) : (s.refSeen k).mem = s.mem := by simp [State.refSeen]
@[simp] theorem State.notePhase_mem (s : State) (k : Nat) (ps : Int) : (s.notePhase k ps).mem = s.mem := by simp [State.notePhase]
@[simp] theorem State.packetSample_mem (s : State) (k : Nat) (theta : Int) : (s.packetSample k theta).mem = s.mem := by
  simp [State.packetSample]
@[simp] theorem State.refFail_mem (s : State) (k cause : Nat) : (s.refFail k cause).mem = s.mem := by simp [State.refFail]
@[simp] theorem State.checkPull_mem (s : State) : s.checkPull.mem = s.mem := by simp [State.checkPull]
@[simp] theorem State.refOff_mem (s : State) (k : Nat) : (s.refOff k).mem = s.mem := by simp [State.refOff]
@[simp] theorem State.refOn_mem (s : State) (k : Nat) : (s.refOn k).mem = s.mem := by simp [State.refOn]
@[simp] theorem State.ppsEdge_mem (s : State) (k ago f8 : Nat) : (s.ppsEdge k ago f8).mem = s.mem := by simp [State.ppsEdge]

@[simp] theorem State.measured_mem (s : State) (m : RefMeas) : (s.measured m).mem = s.mem := by
  unfold State.measured
  (repeat' split) <;> simp

@[simp] theorem xoLossStep_mem (s : State) : (xoLossStep s).mem = s.mem := by simp [xoLossStep]
@[simp] theorem rootRelock_mem (ago : Nat) (s : State) : (rootRelock ago s).mem = s.mem := by simp [rootRelock]
@[simp] theorem clkStatusW1c_mem (mask : Word) (s : State) : (clkStatusW1c mask s).mem = s.mem := by simp [clkStatusW1c]
@[simp] theorem refStateW1c_mem (mask : Word) (s : State) : (refStateW1c mask s).mem = s.mem := by simp [refStateW1c]
@[simp] theorem selectionEval_mem (off : Int) (meas : List RefMeas) (s : State) : (selectionEval off meas s).mem = s.mem := by
  simp [selectionEval]

@[simp] theorem refChecksPass_mem (k : Nat) (ok : State → Nat → Bool) (s : State) : (refChecksPass k ok s).mem = s.mem := by
  simp [refChecksPass]

@[simp] theorem refQualExpiry_mem (k : Nat) (s : State) : (refQualExpiry k s).mem = s.mem := by simp [refQualExpiry]
@[simp] theorem refWtrExpiry_mem (k : Nat) (s : State) : (refWtrExpiry k s).mem = s.mem := by simp [refWtrExpiry]
@[simp] theorem switchComplete_mem (f : Int) (s : State) : (switchComplete f s).mem = s.mem := by simp [switchComplete]
@[simp] theorem lockDetected_mem (off : Int) (errs : List Int) (s : State) : (lockDetected off errs s).mem = s.mem := by simp [lockDetected]
@[simp] theorem lockLost_mem (errs : List Int) (s : State) : (lockLost errs s).mem = s.mem := by simp [lockLost]
@[simp] theorem narrowStep_mem (off : Int) (worst : Nat) (s : State) : (narrowStep off worst s).mem = s.mem := by simp [narrowStep]
@[simp] theorem histValidSet_mem (f t : Int) (s : State) : (histValidSet f t s).mem = s.mem := by simp [histValidSet]
@[simp] theorem predictionUpdate_mem (die : Int) (ext : Option Int) (s : State) : (predictionUpdate die ext s).mem = s.mem := by
  simp [predictionUpdate]
@[simp] theorem fitSample_mem (f t : Int) (s : State) : (fitSample f t s).mem = s.mem := by simp [fitSample]

/-! ### The operations of Machine/Session.lean -/

@[simp] theorem State.modRun_mem (s : State) (sid : Nat) (f : SesRun → SesRun) : (s.modRun sid f).mem = s.mem := by
  unfold State.modRun
  split <;> simp

@[simp] theorem State.updateServo_mem (s : State) (n : Nat) : (s.updateServo n).mem = s.mem := by
  unfold State.updateServo
  dsimp only
  (repeat' split) <;> simp

@[simp] theorem State.servoSample_mem (s : State) (n : Nat) (logSync theta : Int) : (s.servoSample n logSync theta).mem = s.mem := by
  simp [State.servoSample]
@[simp] theorem State.rejoinSample_mem (s : State) (port : Nat) (theta : Int) : (s.rejoinSample port theta).mem = s.mem := by
  simp [State.rejoinSample]

@[simp] theorem State.sesTo_mem (s : State) (sid : Nat) (n : SesSt) : (s.sesTo sid n).mem = s.mem := by
  unfold State.sesTo
  split <;> simp

@[simp] theorem State.sesPortUp_mem (s : State) (sid : Nat) : (s.sesPortUp sid).mem = s.mem := by
  unfold State.sesPortUp
  split <;> simp

@[simp] theorem State.sessionsUp_mem (s : State) (p : Nat) : (s.sessionsUp p).mem = s.mem := by simp [State.sessionsUp]
@[simp] theorem State.sessionsDown_mem (s : State) (p : Nat) : (s.sessionsDown p).mem = s.mem := by simp [State.sessionsDown]

@[simp] theorem State.takeParent_mem (s : State) (sid : Nat) (f : Foreign) : (s.takeParent sid f).mem = s.mem := by
  unfold State.takeParent
  split <;> simp

@[simp] theorem State.recommendMaster_mem (s : State) (sid : Nat) (slaveOnly : Bool) :
    (s.recommendMaster sid slaveOnly).mem = s.mem := by
  unfold State.recommendMaster
  split <;> simp

@[simp] theorem State.decideOne_mem (s : State) (n : Nat) (own : DataSet) (best : Option (Nat × Foreign)) (timedOut : Option Nat) (sid :
    Nat) : (s.decideOne n own best timedOut sid).mem = s.mem := by
  unfold State.decideOne
  dsimp only
  (repeat' split) <;> simp

@[simp] theorem State.bmca_mem (s : State) (n : Nat) (timedOut : Option Nat) : (s.bmca n timedOut).mem = s.mem := by simp [State.bmca]

@[simp] theorem State.delaySample_mem (s : State) (sid : Nat) (d : Int) (coarse : Bool) :
    (s.delaySample sid d coarse).mem = s.mem := by
  unfold State.delaySample
  (repeat' split) <;> simp

@[simp] theorem State.sampleLost_mem (s : State) (sid : Nat) (x : Session) : (s.sampleLost sid x).mem = s.mem := by simp [State.sampleLost]

@[simp] theorem State.offsetSample_mem (s : State) (sid : Nat) : (s.offsetSample sid).mem = s.mem := by
  unfold State.offsetSample
  (repeat' split) <;> simp

@[simp] theorem State.nextSeq_mem (s : State) (k : Nat) : (s.nextSeq k).2.mem = s.mem := by simp [State.nextSeq]

theorem State.iqTimePut_mem (s : State) (i : Ins) (t : State) (h : s.iqTimePut i = some t) : t.mem = s.mem := by
  unfold State.iqTimePut at h
  split at h
  · cases h
    rfl
  · cases h

@[simp] theorem iqTimePut_getD_mem (s : State) (i : Ins) : ((s.iqTimePut i).getD s).mem = s.mem := by
  cases h : s.iqTimePut i with
  | none => rfl
  | some t => exact State.iqTimePut_mem s i t h

@[simp] theorem State.sendMsg_mem (s : State) (sid : Nat) (x : Session) (typ : Nat) (twoStep : Bool) (flags : Nat) (corr : Int) (seq : Nat)
    (logInt : Int) (body : List Byte) (mark : Mark) :
    (s.sendMsg sid x typ twoStep flags corr seq logInt body mark).mem = s.mem := by
  unfold State.sendMsg
  extract_lets sign key tlvLen head peer
  refine mem_ite_of rfl (mem_ite_of (by simp) ?_)
  split
  next msg u hu =>
  have hu : u.mem = s.mem := snd_mem hu (by split <;> rfl)
  split
  next hsr v hv =>
  have hv : v.mem = s.mem := by
    refine (snd_mem hv ?_).trans hu
    split
    · split
      · rfl
      · rfl
    · rfl
  extract_lets i
  refine mem_ite_of hv ?_
  split
  next w hw => rw [State.modRun_mem, State.iqTimePut_mem _ _ _ hw, hv]
  · rw [State.modRun_mem, hv]

@[simp] theorem ptpSend_mem (sid kind : Nat) (s : State) : (ptpSend sid kind s).mem = s.mem := by
  unfold ptpSend
  split <;> simp

@[simp] theorem State.msgStamped_mem (s : State) (sid : Nat) (bs : List Byte) (st : Stamp) :
    (s.msgStamped sid bs st).mem = s.mem := by
  unfold State.msgStamped
  split <;> simp

@[simp] theorem State.overlay_mem (s : State) (mark : Mark) (rates : List Int) (egress : Nat) (bs : List Byte) (rx tx : Stamp) :
    (s.overlay mark rates egress bs rx tx).2.mem = s.mem := by
  unfold State.overlay
  dsimp only
  (repeat' split) <;> simp

theorem State.authRx_mem (s : State) (x : Session) (m : Msg) (t : State) (h : s.authRx x m = some t) : t.mem = s.mem := by
  unfold State.authRx at h
  grind

@[simp] theorem State.takeAnnounce_mem (s : State) (sid : Nat) (x : Session) (m : Msg) : (s.takeAnnounce sid x m).mem = s.mem := by
  unfold State.takeAnnounce
  dsimp only
  (repeat' split) <;> simp

@[simp] theorem State.actOn_mem (s : State) (sid : Nat) (x : Session) (m : Msg) (rx : Stamp) : (s.actOn sid x m rx).mem = s.mem := by
  unfold State.actOn
  (repeat' split) <;> simp

@[simp] theorem ptpTaken_mem (s : State) : (ptpTaken s).mem = s.mem := by
  unfold ptpTaken
  split
  · rfl
  · split
    · rfl
    next it f _ =>
      split
      · simp
      · split
        · rfl
        next m _ =>
          split
          · simp
          next sid _ =>
            split
            · simp
            next x _ =>
              dsimp only
              split
              · simp
              next u hu =>
                have hu : u.mem = s.mem := by simpa using State.authRx_mem _ _ _ _ hu
                (repeat' split) <;> simp [hu]

@[simp] theorem announceTimeout_mem (sid : Nat) (s : State) : (announceTimeout sid s).mem = s.mem := by
  unfold announceTimeout
  dsimp only
  (repeat' split) <;> simp

@[simp] theorem syncLoss_mem (sid : Nat) (s : State) : (syncLoss sid s).mem = s.mem := by
  unfold syncLoss
  split <;> simp

@[simp] theorem m3Expiry_mem (sid : Nat) (s : State) : (m3Expiry sid s).mem = s.mem := by
  unfold m3Expiry
  split <;> simp

/-! ### The operations of Machine/SessionCommands.lean -/

@[simp] theorem State.deleteSession_mem (s : State) (sid : Nat) : (s.deleteSession sid).mem = s.mem := by
  unfold State.deleteSession
  split <;> simp

@[simp] theorem bodySesCreate_mem (c : Ctx) (ws : List Word) (s : State) : (bodySesCreate c ws s).mem = s.mem := by simp [bodySesCreate]
@[simp] theorem bodySesDelete_mem (c : Ctx) (ws : List Word) (s : State) : (bodySesDelete c ws s).mem = s.mem := by simp [bodySesDelete]

@[simp] theorem bodySesRead_mem (c : Ctx) (ws : List Word) (s : State) : (bodySesRead c ws s).mem = s.mem := by
  unfold bodySesRead
  dsimp only
  split <;> simp

@[simp] theorem bodySesStatus_mem (c : Ctx) (ws : List Word) (s : State) : (bodySesStatus c ws s).mem = s.mem := by
  unfold bodySesStatus
  dsimp only
  split <;> simp

@[simp] theorem bodySesServo_mem (c : Ctx) (ws : List Word) (s : State) : (bodySesServo c ws s).mem = s.mem := by simp [bodySesServo]
@[simp] theorem bodySesKey_mem (c : Ctx) (ws : List Word) (s : State) : (bodySesKey c ws s).mem = s.mem := by simp [bodySesKey]

@[simp] theorem esmcSend_mem (p : Nat) (s : State) : (esmcSend p s).mem = s.mem := by
  simp [esmcSend]

@[simp] theorem State.checkQl_mem (s : State) (p : Nat) : (s.checkQl p).mem = s.mem := by simp [State.checkQl]

@[simp] theorem esmcReceived_mem (s : State) : (esmcReceived s).mem = s.mem := by
  unfold esmcReceived
  (repeat' split) <;> simp

@[simp] theorem esmcTimeout_mem (p : Nat) (s : State) : (esmcTimeout p s).mem = s.mem := by simp [esmcTimeout]
@[simp] theorem bodySesEsmc_mem (c : Ctx) (ws : List Word) (s : State) : (bodySesEsmc c ws s).mem = s.mem := by simp [bodySesEsmc]

/-! ### The operations of Machine/Closure.lean -/

@[simp] theorem State.replyRejected_mem (s : State) (r : Closure) (reason : Nat) (fig : Option (Int × Int)) :
    (s.replyRejected r reason fig).mem = s.mem := by
  unfold State.replyRejected
  dsimp only
  split <;> simp

@[simp] theorem State.setRings_mem (s : State) (t : Tab RingRes) : (s.setRings t).mem = s.mem := by simp [State.setRings]
@[simp] theorem State.dropRings_mem (s : State) (r : Closure) : (s.dropRings r).mem = s.mem := by simp [State.dropRings]

@[simp] theorem startClosures_mem (n : Nat) (s : State) : (startClosures n s).mem = s.mem := by
  induction n generalizing s with
  | zero => rfl
  | succ n ih =>
    unfold startClosures
    dsimp only
    (repeat' split) <;> simp [ih]

@[simp] theorem State.nextClosure_mem (s : State) : s.nextClosure.mem = s.mem := by simp [State.nextClosure]
@[simp] theorem bodyClosure_mem (c : Ctx) (ws : List Word) (s : State) : (bodyClosure c ws s).mem = s.mem := by simp [bodyClosure]

@[simp] theorem bodyClosureRead_mem (c : Ctx) (ws : List Word) (s : State) : (bodyClosureRead c ws s).mem = s.mem := by
  unfold bodyClosureRead
  dsimp only
  split <;> simp

@[simp] theorem State.rejectClosure_mem (s : State) (reason : Nat) : (s.rejectClosure reason).mem = s.mem := by
  unfold State.rejectClosure
  split <;> simp

@[simp] theorem State.closurePortLost_mem (s : State) (p : Nat) : (s.closurePortLost p).mem = s.mem := by
  unfold State.closurePortLost
  split <;> simp

@[simp] theorem State.closureNodeLost_mem (s : State) (id : Nat) : (s.closureNodeLost id).mem = s.mem := by
  unfold State.closureNodeLost
  split <;> simp

@[simp] theorem State.applyOwn_mem (s : State) (x : RingRes) : (s.applyOwn x).mem = s.mem := by
  unfold State.applyOwn
  split <;> simp

@[simp] theorem State.tryFinish_mem (s : State) : s.tryFinish.mem = s.mem := by
  unfold State.tryFinish
  (repeat' split) <;> simp

@[simp] theorem State.closureReport_mem (s : State) (w : Worker) : (s.closureReport w).mem = s.mem := by
  unfold State.closureReport
  split <;> simp

@[simp] theorem closureProbeSend_mem (ccw : Bool) (s : State) : (closureProbeSend ccw s).mem = s.mem := by
  unfold closureProbeSend
  split <;> simp

@[simp] theorem State.probeSent_mem (s : State) (seq : Nat) (st : Stamp) : (s.probeSent seq st).mem = s.mem := by
  unfold State.probeSent
  split <;> simp

@[simp] theorem closureProbeReturn_mem (s : State) : (closureProbeReturn s).mem = s.mem := by
  unfold closureProbeReturn
  (repeat' split) <;> simp

/-! ### The operations of Machine/Links.lean -/

@[simp] theorem State.checkLane_mem (s : State) (l : Nat) : (s.checkLane l).mem = s.mem := by simp [State.checkLane]
@[simp] theorem State.leaveUp_mem (s : State) (p : Nat) : (s.leaveUp p).mem = s.mem := by simp [State.leaveUp]
@[simp] theorem State.portDown_mem (s : State) (p : Nat) (st : PortSt) : (s.portDown p st).mem = s.mem := by simp [State.portDown]
@[simp] theorem State.portLoss_mem (s : State) (p : Nat) : (s.portLoss p).mem = s.mem := by simp [State.portLoss]
@[simp] theorem State.confirmPair_mem (s : State) (b : Nat) : (s.confirmPair b).mem = s.mem := by simp [State.confirmPair]
@[simp] theorem State.portUp_mem (s : State) (p : Nat) : (s.portUp p).mem = s.mem := by simp [State.portUp]
@[simp] theorem State.syncFault_mem (s : State) (p : Nat) : (s.syncFault p).mem = s.mem := by simp [State.syncFault]

@[simp] theorem State.syncState_mem (s : State) (p : Nat) : (s.syncState p).mem = s.mem := by
  unfold State.syncState
  dsimp only
  (repeat' split) <;> simp

@[simp] theorem State.syncPort_mem (s : State) (p : Nat) : (s.syncPort p).mem = s.mem := by simp [State.syncPort]
@[simp] theorem State.forceDown_mem (s : State) (p : Nat) : (s.forceDown p).mem = s.mem := by simp [State.forceDown]
@[simp] theorem State.laneSends_mem (s : State) (l : Nat) (o : Output) : (s.laneSends l o).mem = s.mem := by simp [State.laneSends]
@[simp] theorem State.sendFlags_mem (s : State) (l : Nat) : (s.sendFlags l).mem = s.mem := by simp [State.sendFlags]
@[simp] theorem State.wake_mem (s : State) (l : Nat) : (s.wake l).mem = s.mem := by simp [State.wake]
@[simp] theorem State.dozeChanged_mem (s : State) (l : Nat) : (s.dozeChanged l).mem = s.mem := by simp [State.dozeChanged]
@[simp] theorem State.calReply_mem (s : State) (c : CalStep) (reason : Nat) : (s.calReply c reason).mem = s.mem := by simp [State.calReply]
@[simp] theorem State.calReject_mem (s : State) (c : CalStep) (reason : Nat) : (s.calReject c reason).mem = s.mem := by simp [State.calReject]
@[simp] theorem State.breakCal_mem (s : State) (l why : Nat) : (s.breakCal l why).mem = s.mem := by simp [State.breakCal]
@[simp] theorem State.laneStep_mem (s : State) (l n : Nat) : (s.laneStep l n).mem = s.mem := by simp [State.laneStep]
@[simp] theorem State.endTraining_mem (s : State) (l : Nat) (abandoned : Bool) : (s.endTraining l abandoned).mem = s.mem := by
  simp [State.endTraining]
@[simp] theorem State.laneRestart_mem (s : State) (l n : Nat) : (s.laneRestart l n).mem = s.mem := by simp [State.laneRestart]
@[simp] theorem State.lanesRestart_mem (s : State) (ls : List Nat) (n : Nat) : (s.lanesRestart ls n).mem = s.mem := by
  simp [State.lanesRestart]
@[simp] theorem State.laneArrived_mem (s : State) (l : Nat) : (s.laneArrived l).mem = s.mem := by simp [State.laneArrived]
@[simp] theorem State.startClose_mem (s : State) (b cause : Nat) : (s.startClose b cause).mem = s.mem := by simp [State.startClose]
@[simp] theorem State.startOpen_mem (s : State) (b : Nat) (probe : Bool) : (s.startOpen b probe).mem = s.mem := by simp [State.startOpen]
@[simp] theorem State.pairActed_mem (s : State) (b : Nat) (close : Bool) : (s.pairActed b close).mem = s.mem := by simp [State.pairActed]
@[simp] theorem State.pairHeld_mem (s : State) (b : Nat) (acted close : Bool) : (s.pairHeld b acted close).mem = s.mem := by
  simp [State.pairHeld]
@[simp] theorem State.writePolicy_mem (s : State) (b : Nat) (a : Word) : (s.writePolicy b a).mem = s.mem := by simp [State.writePolicy]

@[simp] theorem State.runPair_mem (b n : Nat) (s : State) : (s.runPair b n).mem = s.mem := by
  induction n generalizing s with
  | zero => rfl
  | succ n ih =>
    unfold State.runPair
    dsimp only
    (repeat' split) <;> simp [ih]

@[simp] theorem State.servePair_mem (s : State) (b : Nat) : (s.servePair b).mem = s.mem := by simp [State.servePair]
@[simp] theorem bypassClosed_mem (b : Nat) (s : State) : (bypassClosed b s).mem = s.mem := by simp [bypassClosed]
@[simp] theorem bypassOpened_mem (b : Nat) (s : State) : (bypassOpened b s).mem = s.mem := by simp [bypassOpened]
@[simp] theorem probeStart_mem (b : Nat) (s : State) : (probeStart b s).mem = s.mem := by simp [probeStart]
@[simp] theorem openProbeExpiry_mem (b : Nat) (s : State) : (openProbeExpiry b s).mem = s.mem := by simp [openProbeExpiry]
@[simp] theorem retryGapExpiry_mem (b : Nat) (s : State) : (retryGapExpiry b s).mem = s.mem := by simp [retryGapExpiry]
@[simp] theorem linkLoss_mem (p cause : Nat) (withDown early : Bool) (s : State) :
    (linkLoss p cause withDown early s).mem = s.mem := by
  simp [linkLoss]
@[simp] theorem lfFilterExpiry_mem (p : Nat) (s : State) : (lfFilterExpiry p s).mem = s.mem := by simp [lfFilterExpiry]
@[simp] theorem linkLossCleared_mem (p : Nat) (s : State) : (linkLossCleared p s).mem = s.mem := by simp [linkLossCleared]

/-! ### The operations of Machine/Lanes.lean -/

@[simp] theorem State.chargeTraining_mem (s : State) (l : Nat) : (s.chargeTraining l).mem = s.mem := by simp [State.chargeTraining]
@[simp] theorem State.trainingDone_mem (s : State) (l : Nat) : (s.trainingDone l).mem = s.mem := by simp [State.trainingDone]

@[simp] theorem State.groupAligned_mem (s : State) (l order : Nat) : (s.groupAligned l order).mem = s.mem := by
  simp [State.groupAligned]

@[simp] theorem State.startTraining_mem (s : State) (l : Nat) : (s.startTraining l).mem = s.mem := by simp [State.startTraining]

@[simp] theorem laneStepExit_mem (l : Nat) (pol : Pol) (order : Nat) (s : State) : (laneStepExit l pol order s).mem = s.mem := by
  unfold laneStepExit
  dsimp only
  (repeat' split) <;> simp

@[simp] theorem laneStepTimeout_mem (l : Nat) (s : State) : (laneStepTimeout l s).mem = s.mem := by
  unfold laneStepTimeout
  dsimp only
  (repeat' split) <;> simp

@[simp] theorem cl72Update_mem (l req marker : Nat) (s : State) : (cl72Update l req marker s).mem = s.mem := by simp [cl72Update]
@[simp] theorem cl72Status_mem (l report marker : Nat) (fom : Int) (s : State) : (cl72Status l report marker fom s).mem = s.mem := by
  simp [cl72Status]
@[simp] theorem State.lockLoss_mem (s : State) (l : Nat) : (s.lockLoss l).mem = s.mem := by simp [State.lockLoss]
@[simp] theorem laneSignalLoss_mem (l : Nat) (s : State) : (laneSignalLoss l s).mem = s.mem := by simp [laneSignalLoss]
@[simp] theorem laneLockLoss_mem (l : Nat) (s : State) : (laneLockLoss l s).mem = s.mem := by simp [laneLockLoss]
@[simp] theorem burstEnd_mem (l : Nat) (ok : Bool) (s : State) : (burstEnd l ok s).mem = s.mem := by simp [burstEnd]
@[simp] theorem dozeIdleExpired_mem (l : Nat) (s : State) : (dozeIdleExpired l s).mem = s.mem := by simp [dozeIdleExpired]
@[simp] theorem dozeEntryEnd_mem (l : Nat) (s : State) : (dozeEntryEnd l s).mem = s.mem := by simp [dozeEntryEnd]
@[simp] theorem dozeWake_mem (l : Nat) (s : State) : (dozeWake l s).mem = s.mem := by simp [dozeWake]
@[simp] theorem dozeExitComplete_mem (l : Nat) (s : State) : (dozeExitComplete l s).mem = s.mem := by simp [dozeExitComplete]
@[simp] theorem dozeFlagsPeriodic_mem (l : Nat) (s : State) : (dozeFlagsPeriodic l s).mem = s.mem := by simp [dozeFlagsPeriodic]
@[simp] theorem dozeFlagsReceived_mem (l : Nat) (ok : Bool) (s : State) : (dozeFlagsReceived l ok s).mem = s.mem := by
  simp [dozeFlagsReceived]
@[simp] theorem dozeEnterReceived_mem (l : Nat) (s : State) : (dozeEnterReceived l s).mem = s.mem := by simp [dozeEnterReceived]
@[simp] theorem dozeBurstReceived_mem (l : Nat) (s : State) : (dozeBurstReceived l s).mem = s.mem := by simp [dozeBurstReceived]
@[simp] theorem dozeBurstMissed_mem (l : Nat) (regained : Bool) (s : State) : (dozeBurstMissed l regained s).mem = s.mem := by
  simp [dozeBurstMissed]
@[simp] theorem lpiTransition_mem (l : Nat) (tx on : Bool) (s : State) : (lpiTransition l tx on s).mem = s.mem := by simp [lpiTransition]

@[simp] theorem runSketch_mem (l n : Nat) (s : State) : (runSketch l n s).mem = s.mem := by
  induction n generalizing s with
  | zero => rfl
  | succ n ih =>
    unfold runSketch
    dsimp only
    (repeat' split) <;> simp [ih]

@[simp] theorem State.serveSketch_mem (s : State) (l : Nat) : (s.serveSketch l).mem = s.mem := by simp [State.serveSketch]

@[simp] theorem State.sketchAdmitted_mem (s : State) (l code : Nat) : (s.sketchAdmitted l code).mem = s.mem := by
  unfold State.sketchAdmitted
  split <;> simp

@[simp] theorem sketchScanEnd_mem (l : Nat) (rows : List EyeErr) (lost : Bool) (s : State) :
    (sketchScanEnd l rows lost s).mem = s.mem := by
  unfold sketchScanEnd
  split <;> simp

@[simp] theorem bodyLaneConfig_mem (c : Ctx) (ws : List Word) (s : State) : (bodyLaneConfig c ws s).mem = s.mem := by simp [bodyLaneConfig]

@[simp] theorem bodyLaneStatus_mem (c : Ctx) (ws : List Word) (s : State) : (bodyLaneStatus c ws s).mem = s.mem := by
  unfold bodyLaneStatus
  dsimp only
  split <;> simp

@[simp] theorem bodyLaneTrain_mem (c : Ctx) (ws : List Word) (s : State) : (bodyLaneTrain c ws s).mem = s.mem := by simp [bodyLaneTrain]

@[simp] theorem State.trainAdmitted_mem (s : State) (l : Nat) : (s.trainAdmitted l).mem = s.mem := by
  unfold State.trainAdmitted
  dsimp only
  split <;> simp

@[simp] theorem bodyLaneDoze_mem (c : Ctx) (ws : List Word) (s : State) : (bodyLaneDoze c ws s).mem = s.mem := by simp [bodyLaneDoze]
@[simp] theorem bodyLaneSketch_mem (c : Ctx) (ws : List Word) (s : State) : (bodyLaneSketch c ws s).mem = s.mem := by simp [bodyLaneSketch]
@[simp] theorem bodySketchRead_mem (c : Ctx) (ws : List Word) (s : State) : (bodySketchRead c ws s).mem = s.mem := by simp [bodySketchRead]

@[simp] theorem bodyLoopback_mem (c : Ctx) (ws : List Word) (s : State) : (bodyLoopback c ws s).mem = s.mem := by
  unfold bodyLoopback
  dsimp only
  (repeat' split) <;> simp

/-! ### The operations of Machine/Ports.lean -/

@[simp] theorem State.changeRing_mem (s : State) (k : Nat) (r : Ring) : (s.changeRing k r).mem = s.mem := by simp [State.changeRing]
@[simp] theorem State.dropRoles_mem (s : State) : s.dropRoles.mem = s.mem := by simp [State.dropRoles]
@[simp] theorem State.setForm_mem (s : State) (k : Nat) (on : Bool) : (s.setForm k on).mem = s.mem := by simp [State.setForm]
@[simp] theorem bodyPortConfig_mem (c : Ctx) (ws : List Word) (s : State) : (bodyPortConfig c ws s).mem = s.mem := by simp [bodyPortConfig]

@[simp] theorem bodyPortStatus_mem (c : Ctx) (ws : List Word) (s : State) : (bodyPortStatus c ws s).mem = s.mem := by
  unfold bodyPortStatus
  dsimp only
  split <;> simp

@[simp] theorem bodyPortAdmin_mem (c : Ctx) (ws : List Word) (s : State) : (bodyPortAdmin c ws s).mem = s.mem := by simp [bodyPortAdmin]
@[simp] theorem bodyPortRing_mem (c : Ctx) (ws : List Word) (s : State) : (bodyPortRing c ws s).mem = s.mem := by simp [bodyPortRing]
@[simp] theorem bodyNodeRead_mem (c : Ctx) (ws : List Word) (s : State) : (bodyNodeRead c ws s).mem = s.mem := by simp [bodyNodeRead]

@[simp] theorem State.seeNode_mem (s : State) (sa ring q role : Nat) : (s.seeNode sa ring q role).2.mem = s.mem := by
  unfold State.seeNode
  (repeat' split) <;> simp

@[simp] theorem entryForget_mem (slot : Nat) (s : State) : (entryForget slot s).mem = s.mem := by simp [entryForget]
@[simp] theorem nodeForget_mem (slot : Nat) (s : State) : (nodeForget slot s).mem = s.mem := by simp [nodeForget]
@[simp] theorem supervisionSend_mem (k : Nat) (s : State) : (supervisionSend k s).mem = s.mem := by simp [supervisionSend]
@[simp] theorem bodyBypassSet_mem (c : Ctx) (ws : List Word) (s : State) : (bodyBypassSet c ws s).mem = s.mem := by simp [bodyBypassSet]
@[simp] theorem bodyBypassPolicy_mem (c : Ctx) (ws : List Word) (s : State) : (bodyBypassPolicy c ws s).mem = s.mem := by
  simp [bodyBypassPolicy]
@[simp] theorem bodyBypassStatus_mem (c : Ctx) (ws : List Word) (s : State) : (bodyBypassStatus c ws s).mem = s.mem := by
  simp [bodyBypassStatus]

/-! ### The operations of Machine/RefCommands.lean -/

@[simp] theorem refCheckFail_mem (k : Nat) (why : RefWhy) (s : State) : (refCheckFail k why s).mem = s.mem := by
  unfold refCheckFail
  split <;> simp

@[simp] theorem State.restPhase_mem (s : State) : s.restPhase.mem = s.mem := by simp [State.restPhase]
@[simp] theorem bodyRefConfig_mem (c : Ctx) (ws : List Word) (s : State) : (bodyRefConfig c ws s).mem = s.mem := by simp [bodyRefConfig]
@[simp] theorem bodyRefRank_mem (c : Ctx) (ws : List Word) (s : State) : (bodyRefRank c ws s).mem = s.mem := by simp [bodyRefRank]
@[simp] theorem bodyRefSelect_mem (c : Ctx) (ws : List Word) (s : State) : (bodyRefSelect c ws s).mem = s.mem := by simp [bodyRefSelect]
@[simp] theorem bodyRefStatus_mem (c : Ctx) (ws : List Word) (s : State) : (bodyRefStatus c ws s).mem = s.mem := by simp [bodyRefStatus]
@[simp] theorem State.trackChanged_mem (s : State) : s.trackChanged.mem = s.mem := by simp [State.trackChanged]
@[simp] theorem bodyRefBandwidth_mem (c : Ctx) (ws : List Word) (s : State) : (bodyRefBandwidth c ws s).mem = s.mem := by
  simp [bodyRefBandwidth]
@[simp] theorem bodyRefHoldover_mem (c : Ctx) (ws : List Word) (s : State) : (bodyRefHoldover c ws s).mem = s.mem := by simp [bodyRefHoldover]

/-! ### The operations of Machine/Forward.lean -/

@[simp] theorem State.learn_mem (s : State) (mac fid port : Nat) : (s.learn mac fid port).mem = s.mem := by
  unfold State.learn
  (repeat' split) <;> simp

@[simp] theorem ageSweep_mem (s : State) : (ageSweep s).mem = s.mem := by simp [ageSweep]

@[simp] theorem State.ruleFor_mem (s : State) (p : Nat) (h : Hdr) : (s.ruleFor p h).2.mem = s.mem := by
  unfold State.ruleFor
  split <;> simp

@[simp] theorem State.ringRules_mem (s : State) (at_ : Option (Nat × Ring × Nat)) (fid : Nat) (h : Hdr) (bs : List Byte) (whole : Bool) :
    (s.ringRules at_ fid h bs whole).2.mem = s.mem := by
  unfold State.ringRules
  dsimp only
  (repeat' split) <;> simp

@[simp] theorem State.vlanDrop_mem (s : State) (p : Nat) : (s.vlanDrop p).mem = s.mem := by simp [State.vlanDrop]

@[simp] theorem State.prune_mem (s : State) (p vid : Nat) (l : List Nat) : (s.prune p vid l).2.mem = s.mem := by
  simp [State.prune]

@[simp] theorem State.lookup_mem (s : State) (p vid cls : Nat) (h : Hdr) (d : Decision) : (s.lookup p vid cls h d).2.mem = s.mem := by
  unfold State.lookup
  dsimp only
  (repeat' split) <;> simp

@[simp] theorem State.resolve_mem (s : State) (p : Nat) (bs : List Byte) (whole : Bool) : (s.resolve p bs whole).2.mem = s.mem := by
  unfold State.resolve
  dsimp only
  (repeat' split) <;> simp

/-! ### The operations of Machine/Frames.lean -/

@[simp] theorem State.seqsFor_mem (s : State) (d : Decision) : (s.seqsFor d).2.mem = s.mem := by
  refine foldl_snd_mem _ (fun acc k => ?_) _ _
  dsimp only
  (repeat' split) <;> simp

@[simp] theorem State.admitAll_mem (s : State) (id p : Nat) (d : Decision) (h : Hdr) (bs : List Byte) (cut : Nat → Bool) (ended : Bool)
    (n : Nat) : (s.admitAll id p d h bs cut ended n).mem = s.mem := by
  simp [State.admitAll]
@[simp] theorem State.settle_mem (s : State) (id len : Nat) : (s.settle id len).mem = s.mem := by simp [State.settle]
@[simp] theorem State.noteDigest_mem (s : State) (p : Nat) (rx : Stamp) (d : Decision) : (s.noteDigest p rx d).mem = s.mem := by
  simp [State.noteDigest]

@[simp] theorem State.puntMsg_mem (s : State) (id p : Nat) (h : Hdr) (bs : List Byte) (dst : PuntTo) :
    (s.puntMsg id p h bs dst).mem = s.mem := by
  unfold State.puntMsg
  dsimp only
  (repeat' split) <;> simp

@[simp] theorem State.decide_mem (s : State) (id p : Nat) (d : Decision) (h : Hdr) (bs : List Byte) (cut : Nat → Bool) (ended : Bool) (n
    : Nat) : (s.decide_ id p d h bs cut ended n).mem = s.mem := by
  unfold State.decide_
  dsimp only
  split <;> simp

@[simp] theorem State.startFrame_mem (s : State) (p : Nat) (bs : List Byte) (r : Raw) : (s.startFrame p bs r).2.mem = s.mem := by
  simp [State.startFrame]
@[simp] theorem State.closeFrame_mem (s : State) (id cause : Nat) : (s.closeFrame id cause).mem = s.mem := by simp [State.closeFrame]

@[simp] theorem State.learnFrame_mem (s : State) (id p : Nat) (bs : List Byte) : (s.learnFrame id p bs).mem = s.mem := by
  unfold State.learnFrame
  split <;> simp

@[simp] theorem State.wholeFrame_mem (s : State) (id p : Nat) (bs : List Byte) (ok : Bool) :
    (s.wholeFrame id p bs ok).mem = s.mem := by
  simp [State.wholeFrame]

@[simp] theorem State.endCopies_mem (s : State) (id : Nat) (each : State → Copy → State) (h : ∀ t c, (each t c).mem = t.mem) :
    (s.endCopies id each).mem = s.mem := foldl_mem each h _ _

@[simp] theorem State.cutWhole_mem (s : State) (c : Copy) : (s.cutWhole c).mem = s.mem := by simp [State.cutWhole]

@[simp] theorem State.badEnd_mem (s : State) (id p : Nat) : (s.badEnd id p).mem = s.mem := by
  simp [State.badEnd]

@[simp] theorem State.dupEnd_mem (s : State) (id lo : Nat) : (s.dupEnd id lo).mem = s.mem := by
  simp [State.dupEnd]

@[simp] theorem State.lateEnd_mem (s : State) (f : Frame) (p : Nat) (bs : List Byte) (ok : Bool) (under : List Nat) :
    (s.lateEnd f p bs ok under).mem = s.mem := by
  unfold State.lateEnd
  extract_lets n id h long u v a b d late
  have hv : v.mem = s.mem := by simp [v, u]
  have hd : d.mem = s.mem := by simp [d, b, a, hv]
  refine mem_ite_of (by simp [hd]) (mem_ite_of (by simp [hv]) ?_)
  split
  next ri w hw =>
  have hw : w.mem = s.mem := by
    refine (snd_mem hw ?_).trans hv
    split <;> simp
  simp [hw]

@[simp] theorem State.sparkStart_mem (s : State) (p : Nat) (e : Stream) (bs : List Byte) (r : Raw) :
    (s.sparkStart p e bs r).mem = s.mem := by
  unfold State.sparkStart
  dsimp only
  split <;> simp

@[simp] theorem State.sparkMismatch_mem (s : State) (f : Frame) : (s.sparkMismatch f).mem = s.mem := by
  simp [State.sparkMismatch]

@[simp] theorem State.fillSeq_mem (s : State) (id k q : Nat) : (s.fillSeq id k q).mem = s.mem := by simp [State.fillSeq]

@[simp] theorem State.sparkByte127_mem (s : State) (f : Frame) (bs : List Byte) : (s.sparkByte127 f bs).mem = s.mem := by
  unfold State.sparkByte127
  extract_lets p h t free fix prun u
  have ht : t.mem = s.mem := by simp [t]
  clear_value fix
  have hu : u.mem = s.mem := by
    unfold u
    (repeat' split) <;> simp [ht]
  refine mem_ite_of rfl ?_
  split
  · rfl
  next v _ =>
    refine mem_ite_of (by simp) ?_
    split
    next ri w hw =>
    have hw : w.mem = s.mem := snd_mem hw (by simp [hu])
    refine mem_ite_of (by simp [hw]) ?_
    extract_lets x y
    have hx : x.mem = s.mem := by
      unfold x
      split <;> simp [hw]
    have hy : y.mem = s.mem := by
      unfold y
      split
      · refine mem_ite_of hx ?_
        split
        next hr => exact mem_ite_of (by simpa [hx] using snd_mem hr (x.ruleFor_mem p h)) hx
        · exact hx
      · exact hx
    simp [hy]

@[simp] theorem frameLastByte_mem (p : Nat) (bs : List Byte) (ok : Bool) (under : List Nat) (s : State) :
    (frameLastByte p bs ok under s).mem = s.mem := by
  unfold frameLastByte
  dsimp only
  (repeat' split) <;> simp

@[simp] theorem frameTrigger_mem (p : Nat) (bs : List Byte) (ended : Option Bool) (r : Raw) (s : State) :
    (frameTrigger p bs ended r s).mem = s.mem := by
  unfold frameTrigger
  dsimp only
  (repeat' split) <;> simp

@[simp] theorem sparkMatch_mem (p : Nat) (bs : List Byte) (r : Raw) (s : State) : (sparkMatch p bs r s).mem = s.mem := by
  unfold sparkMatch
  (repeat' split) <;> simp

@[simp] theorem sparkKeyFail_mem (p : Nat) (bs : List Byte) (s : State) : (sparkKeyFail p bs s).mem = s.mem := by
  unfold sparkKeyFail
  (repeat' split) <;> simp

@[simp] theorem State.setCopy_mem (s : State) (old new : Copy) : (s.setCopy old new).mem = s.mem := by simp [State.setCopy]
@[simp] theorem State.insStamped_mem (s : State) (i : Nat) (st : Option Stamp) : (s.insStamped i st).mem = s.mem := by simp [State.insStamped]

@[simp] theorem State.afterStamp_mem (s : State) (c : Copy) (bs : List Byte) (tx : Stamp) : (s.afterStamp c bs tx).mem = s.mem := by
  unfold State.afterStamp
  (repeat' split) <;> simp

@[simp] theorem egressSelect_mem (p : Nat) (r : Raw) (s : State) : (egressSelect p r s).mem = s.mem := by
  unfold egressSelect
  (repeat' split) <;> simp

@[simp] theorem stampVerify_mem (p : Nat) (c : Copy) (off : Option Int) (tx : Stamp) (s : State) :
    (stampVerify p c off tx s).2.mem = s.mem := by
  unfold stampVerify
  (repeat' split) <;> simp

@[simp] theorem frameTxEnd_mem (p : Nat) (off : Option Int) (s : State) : (frameTxEnd p off s).mem = s.mem := by
  unfold frameTxEnd
  dsimp only
  (repeat' split) <;> simp

@[simp] theorem State.startCopy_mem (s : State) (q id n : Nat) : (s.startCopy q id n).mem = s.mem := by
  unfold State.startCopy
  split <;> simp

theorem State.popInsert_mem (s : State) (q : Nat) (i : Ins) (t : State) (h : s.popInsert q = some (i, t)) : t.mem = s.mem := by
  unfold State.popInsert at h
  split at h <;> cases h <;> rfl

@[simp] theorem State.insCopied_mem (s : State) (i : Ins) (stored : Bool) : (s.insCopied i stored).mem = s.mem := by
  unfold State.insCopied
  split <;> simp

@[simp] theorem State.insertDirect_mem (s : State) (id : Nat) (i : Ins) (n : Nat) : (s.insertDirect id i n).mem = s.mem := by
  simp [State.insertDirect]
@[simp] theorem State.insertLookup_mem (s : State) (id : Nat) (i : Ins) (bs : List Byte) (n : Nat) :
    (s.insertLookup id i bs n).mem = s.mem := by
  simp [State.insertLookup]

@[simp] theorem insertFrame_mem (q : Nat) (s : State) : (insertFrame q s).mem = s.mem := by
  unfold insertFrame
  split
  · rfl
  · split
    · rfl
    next i t h => simp [State.popInsert_mem s q i t h]

/-! ### The operations of Machine/ForwardCommands.lean -/

@[simp] theorem State.fdbAdd_mem (s : State) (a b d : Word) : (s.fdbAdd a b d).2.mem = s.mem := by
  unfold State.fdbAdd
  dsimp only
  (repeat' split) <;> simp

@[simp] theorem bodyFdbAdd_mem (c : Ctx) (ws : List Word) (s : State) : (bodyFdbAdd c ws s).mem = s.mem := by
  unfold bodyFdbAdd
  dsimp only
  rw [ok_ctx_mem]
  split
  · rw [foldl_mem]
    simp
  · simp

@[simp] theorem State.fdbDelKeys_mem (s : State) (ws : List Word) : (s.fdbDelKeys ws).mem = s.mem := by simp [State.fdbDelKeys]
@[simp] theorem State.fdbFlush_mem (s : State) (w : Word) : (s.fdbFlush w).mem = s.mem := by simp [State.fdbFlush]
@[simp] theorem bodyFdbDel_mem (c : Ctx) (ws : List Word) (s : State) : (bodyFdbDel c ws s).mem = s.mem := by simp [bodyFdbDel]
@[simp] theorem bodyFdbRead_mem (c : Ctx) (ws : List Word) (s : State) : (bodyFdbRead c ws s).mem = s.mem := by simp [bodyFdbRead]
@[simp] theorem bodyAgeing_mem (c : Ctx) (ws : List Word) (s : State) : (bodyAgeing c ws s).mem = s.mem := by simp [bodyAgeing]

@[simp] theorem State.streamSet_mem (s : State) (del : Bool) (e : Stream) : (s.streamSet del e).2.mem = s.mem := by
  unfold State.streamSet
  dsimp only
  (repeat' split) <;> simp

@[simp] theorem bodyStreamSet_mem (c : Ctx) (ws : List Word) (s : State) : (bodyStreamSet c ws s).mem = s.mem := by
  simp [bodyStreamSet]

@[simp] theorem bodyStreamRead_mem (c : Ctx) (ws : List Word) (s : State) : (bodyStreamRead c ws s).mem = s.mem := by simp [bodyStreamRead]
@[simp] theorem bodyVlanSet_mem (c : Ctx) (ws : List Word) (s : State) : (bodyVlanSet c ws s).mem = s.mem := by simp [bodyVlanSet]
@[simp] theorem bodyClassMap_mem (c : Ctx) (ws : List Word) (s : State) : (bodyClassMap c ws s).mem = s.mem := by simp [bodyClassMap]
@[simp] theorem bodyCutMode_mem (c : Ctx) (ws : List Word) (s : State) : (bodyCutMode c ws s).mem = s.mem := by simp [bodyCutMode]
@[simp] theorem bodyPuntRule_mem (c : Ctx) (ws : List Word) (s : State) : (bodyPuntRule c ws s).mem = s.mem := by simp [bodyPuntRule]

/-! ### The operations of Machine/HostBus.lean -/

@[simp] theorem State.restartCring_mem (s : State) (a : Axg) : (s.restartCring a).mem = s.mem := by simp [State.restartCring]
@[simp] theorem State.restartRring_mem (s : State) (a : Axg) : (s.restartRring a).mem = s.mem := by simp [State.restartRring]
@[simp] theorem State.restartPring_mem (s : State) (h : Hst) : (s.restartPring h).mem = s.mem := by simp [State.restartPring]
@[simp] theorem State.restartIring_mem (s : State) (h : Hst) : (s.restartIring h).mem = s.mem := by simp [State.restartIring]
@[simp] theorem State.writeMsix_mem (s : State) (k : Nat) (v : Word) : (s.writeMsix k v).mem = s.mem := by simp [State.writeMsix]

theorem State.registerPut_mem (s : State) (off : Nat) (v : Word) (t : State) (h : s.registerPut off v = some t) : t.mem = s.mem := by
  unfold State.registerPut at h
  dsimp only at h
  split at h
  · cases h
    simp
  · split at h <;> cases h <;> simp

@[simp] theorem registerWrite_mem (off : Nat) (v : Word) (s : State) : (registerWrite off v s).mem = s.mem := by
  unfold registerWrite
  split
  · rfl
  · split
    next t h => simp [State.registerPut_mem s off v t h]
    · rfl

@[simp] theorem rplCiWrite_mem (v : Nat) (s : State) : (rplCiWrite v s).mem = s.mem := by simp [rplCiWrite]
@[simp] theorem puntPiWrite_mem (v : Nat) (s : State) : (puntPiWrite v s).mem = s.mem := by simp [puntPiWrite]
@[simp] theorem insPiWrite_mem (v : Nat) (s : State) : (insPiWrite v s).mem = s.mem := by simp [insPiWrite]
@[simp] theorem hostClkW1c_mem (v : Word) (s : State) : (hostClkW1c v s).mem = s.mem := by simp [hostClkW1c]
@[simp] theorem hostRefW1c_mem (v : Word) (s : State) : (hostRefW1c v s).mem = s.mem := by simp [hostRefW1c]
@[simp] theorem hostPlaneW1c_mem (v : Word) (s : State) : (hostPlaneW1c v s).mem = s.mem := by simp [hostPlaneW1c]
@[simp] theorem regOperation_mem (s : State) : (regOperation s).mem = s.mem := by simp [regOperation]
@[simp] theorem hostAxgErrRead_mem (s : State) : (hostAxgErrRead s).mem = s.mem := by simp [hostAxgErrRead]
@[simp] theorem hostCntPageRead_mem (k word : Nat) (s : State) : (hostCntPageRead k word s).mem = s.mem := by simp [hostCntPageRead]
@[simp] theorem State.dmaRecord_mem (s : State) : s.dmaRecord.mem = s.mem := by simp [State.dmaRecord]

@[simp] theorem puntFill_mem (addr : Nat) (s : State) : (puntFill addr s).mem = s.mem := by
  unfold puntFill
  (repeat' split) <;> simp

@[simp] theorem insFetch_mem (ws : List Word) (bytes : List Byte) (s : State) : (insFetch ws bytes s).mem = s.mem := by simp [insFetch]

@[simp] theorem insDone_mem (s : State) : (insDone s).mem = s.mem := by
  unfold insDone
  dsimp only
  (repeat' split) <;> simp

@[simp] theorem spiStat_mem (s : State) : (spiStat s).mem = s.mem := by simp [spiStat]

@[simp] theorem spiGet_mem (done : Bool) (s : State) : (spiGet done s).mem = s.mem := by
  unfold spiGet
  (repeat' split) <;> simp

@[simp] theorem snapStatusRead_mem (s : State) : (snapStatusRead s).mem = s.mem := by
  unfold snapStatusRead
  dsimp only
  (repeat' split) <;> simp

@[simp] theorem sbpTimeRead_mem (word : Nat) (s : State) : (sbpTimeRead word s).mem = s.mem := by simp [sbpTimeRead]
@[simp] theorem jtagInstruction_mem (i : Jtag) (pads : List BPin) (s : State) : (jtagInstruction i pads s).mem = s.mem := by
  simp [jtagInstruction]
@[simp] theorem tapReset_mem (s : State) : (tapReset s).mem = s.mem := by simp [tapReset]

/-! ### The operations of Machine/Meas.lean -/

@[simp] theorem State.modChan_mem (s : State) (k : Nat) (f : Chan → Chan) : (s.modChan k f).mem = s.mem := by simp [State.modChan]

@[simp] theorem State.beginStats_mem (s : State) (ch : Nat) : (s.beginStats ch).mem = s.mem := by
  unfold State.beginStats
  (repeat' split) <;> simp

@[simp] theorem State.endStats_mem (s : State) (ch : Nat) (stopped : Bool) : (s.endStats ch stopped).mem = s.mem := by
  unfold State.endStats
  dsimp only
  split <;> simp

@[simp] theorem State.statTake_mem (s : State) (ch tick : Nat) (d : Delta) : (s.statTake ch tick d).mem = s.mem := by
  unfold State.statTake
  split <;> simp

@[simp] theorem State.ownEdge_mem (s : State) (ch : Nat) (c : Option Cap) : (s.ownEdge ch c).mem = s.mem := by
  unfold State.ownEdge
  dsimp only
  (repeat' split) <;> simp

@[simp] theorem State.pairEdge_mem (s : State) (ch : Nat) (stop : Bool) (c : Option Cap) : (s.pairEdge ch stop c).mem = s.mem := by
  unfold State.pairEdge
  dsimp only
  (repeat' split) <;> simp

@[simp] theorem State.passedEdge_mem (s : State) (ch ago f8 : Nat) : (s.passedEdge ch ago f8).mem = s.mem := by simp [State.passedEdge]
@[simp] theorem eventEdge_mem (ch : Nat) (falling : Bool) (ago f8 : Nat) (s : State) :
    (eventEdge ch falling ago f8 s).mem = s.mem := by
  simp [eventEdge]

@[simp] theorem State.passesDue_mem (s : State) : s.passesDue.mem = s.mem := by
  unfold State.passesDue
  rw [foldl_mem]
  intro t k
  dsimp only
  split
  · rfl
  · rw [foldl_mem] <;> simp

@[simp] theorem State.startChans_mem (s : State) (mask : Nat) : (s.startChans mask).2.mem = s.mem := by
  simp [State.startChans]

@[simp] theorem State.stopChan_mem (s : State) (ch : Nat) : (s.stopChan ch).mem = s.mem := by
  unfold State.stopChan
  dsimp only
  split <;> simp

@[simp] theorem State.chansOff_mem (s : State) : s.chansOff.mem = s.mem := by simp [State.chansOff]
@[simp] theorem bodyMeasConfig_mem (c : Ctx) (ws : List Word) (s : State) : (bodyMeasConfig c ws s).mem = s.mem := by simp [bodyMeasConfig]
@[simp] theorem State.applyStart_mem (s : State) (c : Ctx) (mask : Nat) : (s.applyStart c mask).mem = s.mem := by simp [State.applyStart]
@[simp] theorem bodyMeasStart_mem (c : Ctx) (ws : List Word) (s : State) : (bodyMeasStart c ws s).mem = s.mem := by simp [bodyMeasStart]
@[simp] theorem bodyMeasStop_mem (c : Ctx) (ws : List Word) (s : State) : (bodyMeasStop c ws s).mem = s.mem := by simp [bodyMeasStop]
@[simp] theorem bodyMeasRead_mem (c : Ctx) (ws : List Word) (s : State) : (bodyMeasRead c ws s).mem = s.mem := by simp [bodyMeasRead]
@[simp] theorem bodyMeasStats_mem (c : Ctx) (ws : List Word) (s : State) : (bodyMeasStats c ws s).mem = s.mem := by simp [bodyMeasStats]

@[simp] theorem applyDue_mem (n : Nat) (s : State) : (applyDue n s).mem = s.mem := by
  induction n generalizing s with
  | zero => rfl
  | succ n ih =>
    unfold applyDue
    dsimp only
    (repeat' split) <;> simp [ih]

@[simp] theorem scheduledDue_mem (s : State) : (scheduledDue s).mem = s.mem := by simp [scheduledDue]
@[simp] theorem snapEdge_mem (ago f8 : Nat) (s : State) : (snapEdge ago f8 s).mem = s.mem := by simp [snapEdge]

/-! ### The operations of Machine/Cal.lean -/

@[simp] theorem State.queueCal_mem (s : State) (item origin : Nat) : (s.queueCal item origin).mem = s.mem := by simp [State.queueCal]
@[simp] theorem State.requestCommit_mem (s : State) (cmd : Bool) : (s.requestCommit cmd).mem = s.mem := by simp [State.requestCommit]
@[simp] theorem State.deferPass_mem (s : State) (item : Nat) : (s.deferPass item).mem = s.mem := by simp [State.deferPass]

@[simp] theorem State.nextItem_mem (i n : Nat) (s : State) : (State.nextItem i n s).2.mem = s.mem := by
  induction n generalizing i s with
  | zero => rfl
  | succ n ih =>
    unfold State.nextItem
    (repeat' split) <;> simp [ih]

@[simp] theorem State.endCycle_mem (s : State) : s.endCycle.mem = s.mem := by simp [State.endCycle]
@[simp] theorem State.requestStep_mem (s : State) (item : Nat) : (s.requestStep item).mem = s.mem := by simp [State.requestStep]

@[simp] theorem calRoundRobin_mem (s : State) : (calRoundRobin s).mem = s.mem := by
  unfold calRoundRobin
  split
  · rfl
  · split
    next h => simp [snd_mem h (State.nextItem_mem ..)]
    next h =>
      split
      all_goals
      next h' => simp [snd_mem h' (State.nextItem_mem ..), snd_mem h (State.nextItem_mem ..)]

@[simp] theorem State.calAdmitted_mem (s : State) (item origin : Nat) : (s.calAdmitted item origin).mem = s.mem := by simp [State.calAdmitted]
@[simp] theorem State.calAccept_mem (s : State) (c : CalStep) (m : CalMeas) (v : Int) : (s.calAccept c m v).mem = s.mem := by
  simp [State.calAccept]

@[simp] theorem calStepComplete_mem (item : Nat) (m : CalMeas) (s : State) : (calStepComplete item m s).mem = s.mem := by
  unfold calStepComplete
  dsimp only
  (repeat' split) <;> simp

@[simp] theorem valueStale_mem (temp : Int) (s : State) : (valueStale temp s).mem = s.mem := by simp [valueStale]
@[simp] theorem State.beginCommit_mem (s : State) (cmd : Bool) : (s.beginCommit cmd).mem = s.mem := by simp [State.beginCommit]
@[simp] theorem State.commitAdmitted_mem (s : State) (cmd : Bool) : (s.commitAdmitted cmd).mem = s.mem := by simp [State.commitAdmitted]
@[simp] theorem State.writeCommit_mem (s : State) (x : PalSlot) : (s.writeCommit x).mem = s.mem := by simp [State.writeCommit]

@[simp] theorem State.tearCommit_mem (s : State) : s.tearCommit.mem = s.mem := by
  unfold State.tearCommit
  split <;> simp

@[simp] theorem State.palLoad_mem (s : State) (temp : Int) : (s.palLoad temp).mem = s.mem := by
  unfold State.palLoad
  split <;> simp

@[simp] theorem calCommitComplete_mem (s : State) : (calCommitComplete s).mem = s.mem := by
  unfold calCommitComplete
  dsimp only
  (repeat' split) <;> simp

@[simp] theorem bodyCalConfig_mem (c : Ctx) (ws : List Word) (s : State) : (bodyCalConfig c ws s).mem = s.mem := by simp [bodyCalConfig]
@[simp] theorem bodyCalRun_mem (c : Ctx) (ws : List Word) (s : State) : (bodyCalRun c ws s).mem = s.mem := by simp [bodyCalRun]
@[simp] theorem bodyCalStatus_mem (c : Ctx) (ws : List Word) (s : State) : (bodyCalStatus c ws s).mem = s.mem := by simp [bodyCalStatus]

@[simp] theorem bodyCalCalref_mem (c : Ctx) (ws : List Word) (s : State) : (bodyCalCalref c ws s).mem = s.mem := by
  unfold bodyCalCalref
  dsimp only
  (repeat' split) <;> simp

@[simp] theorem bodyCalCommit_mem (c : Ctx) (ws : List Word) (s : State) : (bodyCalCommit c ws s).mem = s.mem := by simp [bodyCalCommit]

/-! ### The operations of Machine/Anneal.lean -/

@[simp] theorem State.writeTest_mem (s : State) (k : TestKind) : (s.writeTest k).mem = s.mem := by
  unfold State.writeTest
  split <;> simp

@[simp] theorem State.beginTest_mem (s : State) (k : TestKind) : (s.beginTest k).mem = s.mem := by simp [State.beginTest]

@[simp] theorem State.testSegment_mem (s : State) (fail : Bool) (us : Nat) : (s.testSegment fail us).mem = s.mem := by
  unfold State.testSegment
  dsimp only
  (repeat' split) <;> simp

@[simp] theorem State.testSegments_mem (s : State) (fails : List Bool) : (s.testSegments fails).mem = s.mem := by simp [State.testSegments]

@[simp] theorem State.startBlock_mem (chan : Bool) (i n : Nat) (s : State) : (State.startBlock chan i n s).mem = s.mem := by
  induction n generalizing s with
  | zero => rfl
  | succ n ih => simp [State.startBlock, ih]

@[simp] theorem State.closeBlock_mem (s : State) (b : Block) : (s.closeBlock b).mem = s.mem := by simp [State.closeBlock]
@[simp] theorem State.endBlock_mem (s : State) (b : Block) : (s.endBlock b).mem = s.mem := by simp [State.endBlock]
@[simp] theorem State.endBlocks_mem (s : State) : s.endBlocks.mem = s.mem := by simp [State.endBlocks]
@[simp] theorem State.annealAdmitted_mem (s : State) (chan : Bool) (i : Nat) : (s.annealAdmitted chan i).mem = s.mem := by
  simp [State.annealAdmitted]

@[simp] theorem State.blockSegment_mem (s : State) (b : Block) (errors us : Nat) : (s.blockSegment b errors us).mem = s.mem := by
  simp [State.blockSegment]

@[simp] theorem State.blockNext_mem (s : State) (chan : Bool) (i : Nat) : (s.blockNext chan i).mem = s.mem := by
  unfold State.blockNext
  split <;> simp

@[simp] theorem bodyAnnealBlock_mem (c : Ctx) (ws : List Word) (s : State) : (bodyAnnealBlock c ws s).mem = s.mem := by simp [bodyAnnealBlock]
@[simp] theorem bodyShutdown_mem (c : Ctx) (ws : List Word) (s : State) : (bodyShutdown c ws s).mem = s.mem := by simp [bodyShutdown]
@[simp] theorem bodyRestart_mem (c : Ctx) (ws : List Word) (s : State) : (bodyRestart c ws s).mem = s.mem := by simp [bodyRestart]
@[simp] theorem bodyBootSlot_mem (c : Ctx) (ws : List Word) (s : State) : (bodyBootSlot c ws s).mem = s.mem := by simp [bodyBootSlot]
@[simp] theorem bodySysStatus_mem (c : Ctx) (ws : List Word) (s : State) : (bodySysStatus c ws s).mem = s.mem := by simp [bodySysStatus]

@[simp] theorem State.imageWritten_mem (s : State) (id : Nat) : (s.imageWritten id).mem = s.mem := by
  unfold State.imageWritten
  split <;> simp

@[simp] theorem State.bootSlotWritten_mem (s : State) (slot : Nat) : (s.bootSlotWritten slot).mem = s.mem := by simp [State.bootSlotWritten]

/-! ### The operations of Machine/Ham.lean -/

@[simp] theorem State.hamReplies_mem (s : State) : s.hamReplies.mem = s.mem := by simp [State.hamReplies]
@[simp] theorem State.mapWork_mem (s : State) (f : Work → Work) : (s.mapWork f).mem = s.mem := by simp [State.mapWork]
@[simp] theorem State.endAlign_mem (s : State) (k : Nat) (aligned : Bool) : (s.endAlign k aligned).mem = s.mem := by simp [State.endAlign]
@[simp] theorem State.endDisarm_mem (s : State) (k : Nat) : (s.endDisarm k).mem = s.mem := by simp [State.endDisarm]
@[simp] theorem State.hamLevel_mem (s : State) (k : Nat) (active : Bool) (ticks : Int) (ps : Nat) :
    (s.hamLevel k active ticks ps).mem = s.mem := by
  simp [State.hamLevel]
@[simp] theorem State.hamDone_mem (s : State) (k : Nat) : (s.hamDone k).mem = s.mem := by simp [State.hamDone]
@[simp] theorem State.hamSettle_mem (s : State) (k : Nat) : (s.hamSettle k).mem = s.mem := by simp [State.hamSettle]
@[simp] theorem State.commitOneShot_mem (s : State) (k : Nat) (x : Ham) : (s.commitOneShot k x).mem = s.mem := by simp [State.commitOneShot]
@[simp] theorem State.commitPeriodic_mem (s : State) (k : Nat) (x : Ham) (n : Nat) : (s.commitPeriodic k x n).mem = s.mem := by
  simp [State.commitPeriodic]

@[simp] theorem hamCommit_mem (k : Nat) (s : State) : (hamCommit k s).mem = s.mem := by
  unfold hamCommit
  dsimp only
  (repeat' split) <;> simp

@[simp] theorem hamEmit_mem (k : Nat) (s : State) : (hamEmit k s).mem = s.mem := by
  unfold hamEmit
  extract_lets n x
  refine mem_ite_of rfl ?_
  split
  · rfl
  next e t _ =>
    refine mem_ite_of rfl ?_
    extract_lets ticks u v y w z
    have hv : v.mem = s.mem := by
      unfold v
      split <;> simp [u]
    have hw : w.mem = s.mem := by
      unfold w
      split <;> simp [hv]
    have hz : z.mem = s.mem := by simp [z, hw]
    simp [hz]

@[simp] theorem State.hamNext_mem (s : State) (k n : Nat) : (s.hamNext k n).mem = s.mem := by simp [State.hamNext]
@[simp] theorem State.hamFirst_mem (s : State) (k n : Nat) : (s.hamFirst k n).mem = s.mem := by simp [State.hamFirst]

@[simp] theorem hamAlignComplete_mem (k : Nat) (s : State) : (hamAlignComplete k s).mem = s.mem := by
  unfold hamAlignComplete
  dsimp only
  split <;> simp

@[simp] theorem State.tickHam_mem (s : State) (k : Nat) : (s.tickHam k).mem = s.mem := by
  unfold State.tickHam
  dsimp only
  (repeat' split) <;> simp

@[simp] theorem State.hamsOff_mem (s : State) : s.hamsOff.mem = s.mem := by simp [State.hamsOff]
@[simp] theorem State.armHam_mem (s : State) (k : Nat) (x : Ham) : (s.armHam k x).mem = s.mem := by simp [State.armHam]
@[simp] theorem bodyHamArm_mem (c : Ctx) (ws : List Word) (s : State) : (bodyHamArm c ws s).mem = s.mem := by simp [bodyHamArm]
@[simp] theorem bodyHamConv_mem (c : Ctx) (ws : List Word) (s : State) : (bodyHamConv c ws s).mem = s.mem := by simp [bodyHamConv]
@[simp] theorem bodyHamDisarm_mem (c : Ctx) (ws : List Word) (s : State) : (bodyHamDisarm c ws s).mem = s.mem := by simp [bodyHamDisarm]
@[simp] theorem State.alignOne_mem (s : State) (slew : Bool) (rate k : Nat) : (s.alignOne slew rate k).mem = s.mem := by simp [State.alignOne]
@[simp] theorem bodyHamAlign_mem (c : Ctx) (ws : List Word) (s : State) : (bodyHamAlign c ws s).mem = s.mem := by simp [bodyHamAlign]
@[simp] theorem bodyHamStatus_mem (c : Ctx) (ws : List Word) (s : State) : (bodyHamStatus c ws s).mem = s.mem := by simp [bodyHamStatus]

/-! ### The operations of Machine/Hier.lean -/

@[simp] theorem State.saveHier_mem (s : State) : s.saveHier.mem = s.mem := by simp [State.saveHier]
@[simp] theorem State.restoreRings_mem (s : State) : s.restoreRings.mem = s.mem := by simp [State.restoreRings]

@[simp] theorem State.bcastEnd_mem (s : State) (id : Nat) : (s.bcastEnd id).mem = s.mem := by
  unfold State.bcastEnd
  split <;> simp

@[simp] theorem State.bcastFail_mem (s : State) (id child detail : Nat) : (s.bcastFail id child detail).mem = s.mem := by
  unfold State.bcastFail
  split <;> simp

@[simp] theorem State.bcastSend_mem (s : State) (id : Nat) (b : Bcast) (child : Nat) (rest : List Nat) :
    (s.bcastSend id b child rest).mem = s.mem := by
  unfold State.bcastSend
  dsimp only
  split <;> simp

@[simp] theorem pumpBcasts_mem (n : Nat) (s : State) : (pumpBcasts n s).mem = s.mem := by
  induction n generalizing s with
  | zero => rfl
  | succ n ih =>
    unfold pumpBcasts
    (repeat' split) <;> simp [ih]

@[simp] theorem State.pump_mem (s : State) : s.pump.mem = s.mem := by simp [State.pump]

@[simp] theorem State.relaysFail_mem (s : State) (child detail : Nat) : (s.relaysFail child detail).mem = s.mem := by
  unfold State.relaysFail
  dsimp only
  rw [State.pump_mem, foldl_mem]
  intro t r
  split <;> simp

@[simp] theorem State.passBack_mem (s : State) (c : Ctx) (pkt : List Word) : (s.passBack c pkt).mem = s.mem := by
  unfold State.passBack
  (repeat' split) <;> simp

@[simp] theorem State.bcastReplyIn_mem (s : State) (id child : Nat) (pkt : List Word) (more : Bool) :
    (s.bcastReplyIn id child pkt more).mem = s.mem := by
  unfold State.bcastReplyIn
  split <;> simp

@[simp] theorem State.relayReply_mem (s : State) (r : Relay) (pkt : List Word) : (s.relayReply r pkt).mem = s.mem := by
  unfold State.relayReply
  split <;> simp

@[simp] theorem State.bcastAtOnce_mem (s : State) (id : Nat) (targets : List Nat) : (s.bcastAtOnce id targets).mem = s.mem := by
  unfold State.bcastAtOnce
  rw [foldl_mem]
  intro t k
  split <;> simp

@[simp] theorem bodyBroadcast_mem (c : Ctx) (ws : List Word) (s : State) : (bodyBroadcast c ws s).mem = s.mem := by simp [bodyBroadcast]
@[simp] theorem State.hierMoved_mem (s : State) (old : HierCfg) : (s.hierMoved old).mem = s.mem := by simp [State.hierMoved]
@[simp] theorem bodyHierConfig_mem (c : Ctx) (ws : List Word) (s : State) : (bodyHierConfig c ws s).mem = s.mem := by simp [bodyHierConfig]
@[simp] theorem State.push_mem (s : State) (w : Worker) (persist has : Bool) : (s.push w persist has).mem = s.mem := by simp [State.push]
@[simp] theorem State.enrollReply_mem (s : State) (child kind : Nat) (ok : Bool) (reason : Nat) :
    (s.enrollReply child kind ok reason).mem = s.mem := by
  simp [State.enrollReply]
@[simp] theorem bodyEnroll_mem (c : Ctx) (ws : List Word) (s : State) : (bodyEnroll c ws s).mem = s.mem := by simp [bodyEnroll]

@[simp] theorem bodyRelease_mem (c : Ctx) (ws : List Word) (s : State) : (bodyRelease c ws s).mem = s.mem := by
  unfold bodyRelease
  dsimp only
  split <;> simp

@[simp] theorem bodyTableRead_mem (c : Ctx) (ws : List Word) (s : State) : (bodyTableRead c ws s).mem = s.mem := by simp [bodyTableRead]
@[simp] theorem State.childAbsent_mem (s : State) (slot : Nat) (w : Worker) (dying : Bool) :
    (s.childAbsent slot w dying).mem = s.mem := by
  simp [State.childAbsent]

@[simp] theorem State.workerReport_mem (s : State) (c : Ctx) (ws : List Word) : (s.workerReport c ws).mem = s.mem := by
  unfold State.workerReport
  (repeat' split) <;> simp

@[simp] theorem bodyHierStatus_mem (c : Ctx) (ws : List Word) (s : State) : (bodyHierStatus c ws s).mem = s.mem := by simp [bodyHierStatus]

@[simp] theorem childMiss_mem (slot : Nat) (s : State) : (childMiss slot s).mem = s.mem := by
  unfold childMiss
  split <;> simp

@[simp] theorem State.sendReport_mem (s : State) (dying : Bool) : (s.sendReport dying).mem = s.mem := by simp [State.sendReport]
@[simp] theorem State.enterIsland_mem (s : State) (fresh : Bool) : (s.enterIsland fresh).mem = s.mem := by simp [State.enterIsland]

@[simp] theorem State.reportMissed_mem (s : State) : s.reportMissed.mem = s.mem := by
  unfold State.reportMissed
  dsimp only
  (repeat' split) <;> simp

@[simp] theorem State.reportAnswered_mem (s : State) (port : Nat) (ws : List Word) : (s.reportAnswered port ws).mem = s.mem := by
  unfold State.reportAnswered
  dsimp only
  (repeat' split) <;> simp

@[simp] theorem workerReportSend_mem (s : State) : (workerReportSend s).mem = s.mem := by simp [workerReportSend]

@[simp] theorem State.reportReplyIn_mem (s : State) (port sa : Nat) (pkt : List Word) :
    (s.reportReplyIn port sa pkt).mem = s.mem := by
  unfold State.reportReplyIn
  split <;> simp

@[simp] theorem State.relayReplyIn_mem (s : State) (port sa : Nat) (pkt : List Word) : (s.relayReplyIn port sa pkt).mem = s.mem := by
  unfold State.relayReplyIn
  (repeat' split) <;> simp

@[simp] theorem workerReportReply_mem (port sa : Nat) (pkt : List Word) (s : State) :
    (workerReportReply port sa pkt s).mem = s.mem := by
  simp [workerReportReply]
@[simp] theorem axgRelayReply_mem (port sa : Nat) (pkt : List Word) (s : State) : (axgRelayReply port sa pkt s).mem = s.mem := by
  simp [axgRelayReply]
@[simp] theorem replyTaken_mem (port sa : Nat) (pkt : List Word) (s : State) : (replyTaken port sa pkt s).mem = s.mem := by simp [replyTaken]

/-! ### The operations of Machine/Pair.lean -/

@[simp] theorem State.notePartner_mem (s : State) (f : Frame) (t : Twin) : (s.notePartner f t).mem = s.mem := by simp [State.notePartner]

@[simp] theorem State.takeTwin_mem (s : State) (kind : Nat) : (s.takeTwin kind).2.mem = s.mem := by
  unfold State.takeTwin
  dsimp only
  (repeat' split) <;> simp

@[simp] theorem State.beaconActs_mem (s : State) (t : Twin) : (s.beaconActs t).mem = s.mem := by
  unfold State.beaconActs
  split <;> simp

@[simp] theorem State.pairTable_mem (s : State) (sa : Nat) (t : Twin) : (s.pairTable sa t).mem = s.mem := by
  unfold State.pairTable
  dsimp only
  split <;> simp

@[simp] theorem State.takeBeacon_mem (s : State) (own : Bool) : (s.takeBeacon own).mem = s.mem := by
  unfold State.takeBeacon
  (repeat' split) <;> simp

@[simp] theorem beaconReceived_mem (s : State) : (beaconReceived s).mem = s.mem := by simp [beaconReceived]
@[simp] theorem pairBeaconTaken_mem (s : State) : (pairBeaconTaken s).mem = s.mem := by simp [pairBeaconTaken]

@[simp] theorem pairTableForget_mem (k : Nat) (s : State) : (pairTableForget k s).mem = s.mem := by
  unfold pairTableForget
  split <;> simp

@[simp] theorem beaconSend_mem (s : State) : (beaconSend s).mem = s.mem := by simp [beaconSend]
@[simp] theorem beaconLoss_mem (s : State) : (beaconLoss s).mem = s.mem := by simp [beaconLoss]
@[simp] theorem joiningTimeout_mem (s : State) : (joiningTimeout s).mem = s.mem := by simp [joiningTimeout]
@[simp] theorem twinTimeout_mem (s : State) : (twinTimeout s).mem = s.mem := by simp [twinTimeout]

@[simp] theorem handoverReceived_mem (s : State) : (handoverReceived s).mem = s.mem := by
  unfold handoverReceived
  split <;> next h => simp [snd_mem h (s.takeTwin_mem 5)]

@[simp] theorem twinTimeSend_mem (s : State) : (twinTimeSend s).mem = s.mem := by simp [twinTimeSend]
@[simp] theorem State.compareSyncs_mem (s : State) : s.compareSyncs.mem = s.mem := by simp [State.compareSyncs]

@[simp] theorem twinTimeReceived_mem (s : State) : (twinTimeReceived s).mem = s.mem := by
  unfold twinTimeReceived
  split
  next h => exact snd_mem h (s.takeTwin_mem 1)
  next h =>
    dsimp only
    (repeat' split) <;> simp [snd_mem h (s.takeTwin_mem 1)]

@[simp] theorem State.matchDigest_mem (s : State) (w : Nat) : (s.matchDigest w).mem = s.mem := by
  unfold State.matchDigest
  split <;> simp

@[simp] theorem digestWindowEnd_mem (s : State) : (digestWindowEnd s).mem = s.mem := by simp [digestWindowEnd]

@[simp] theorem compareReceived_mem (s : State) : (compareReceived s).mem = s.mem := by
  unfold compareReceived
  split <;> next h => simp [snd_mem h (s.takeTwin_mem 2)]

@[simp] theorem State.judge_mem (s : State) : s.judge.mem = s.mem := by
  unfold State.judge
  split <;> simp

@[simp] theorem selfCheckDone_mem (signature : Bool) (s : State) : (selfCheckDone signature s).mem = s.mem := by
  unfold selfCheckDone
  split <;> simp

@[simp] theorem verdictReceived_mem (s : State) : (verdictReceived s).mem = s.mem := by
  unfold verdictReceived
  split <;> next h => simp [snd_mem h (s.takeTwin_mem 3)]

@[simp] theorem State.mirrorReply_mem (s : State) (pkt : List Word) : (s.mirrorReply pkt).mem = s.mem := by
  unfold State.mirrorReply
  dsimp only
  split <;> simp

@[simp] theorem State.pairLeave_mem (s : State) (new : PairCfg) (was : Bool) : (s.pairLeave new was).mem = s.mem := by simp [State.pairLeave]
@[simp] theorem State.pairEnter_mem (s : State) (new : PairCfg) (was : Bool) : (s.pairEnter new was).mem = s.mem := by simp [State.pairEnter]
@[simp] theorem State.pairRelink_mem (s : State) (new : PairCfg) : (s.pairRelink new).mem = s.mem := by simp [State.pairRelink]
@[simp] theorem State.pairWitness_mem (s : State) (new : PairCfg) : (s.pairWitness new).mem = s.mem := by simp [State.pairWitness]
@[simp] theorem State.pairApply_mem (s : State) (new : PairCfg) : (s.pairApply new).mem = s.mem := by simp [State.pairApply]
@[simp] theorem bodyPairConfig_mem (c : Ctx) (ws : List Word) (s : State) : (bodyPairConfig c ws s).mem = s.mem := by simp [bodyPairConfig]

@[simp] theorem bodyPairSwitch_mem (c : Ctx) (ws : List Word) (s : State) : (bodyPairSwitch c ws s).mem = s.mem := by
  unfold bodyPairSwitch
  split <;> simp

@[simp] theorem bodyPairStatus_mem (c : Ctx) (ws : List Word) (s : State) : (bodyPairStatus c ws s).mem = s.mem := by simp [bodyPairStatus]


/-! ### The form of memory passes conditionals and folds -/

/-- The form that `State.memOk` asks for, of controller memory alone. -/
def Mem.ok (m : Mem) : Bool :=
  Memory.wf m.bytes && m.bytes.all (fun e => decide (e.1 < secureBase)) && Memory.wf m.shadow && m.shadow.all (fun e => decide (e.1 < 4096))
    && m.bg.all (fun b => decide (b.tested < b.count ∧ b.first + b.count ≤ 480))

theorem State.memOk_eq (s : State) : s.memOk = s.mem.ok := rfl

/-- A background test keeps to the regions outside the secure one (R594). -/
def Mem.bgIn (bg : Option BgTest) : Prop := ∀ b, bg = some b → b.tested < b.count ∧ b.first + b.count ≤ 480

theorem Mem.ok_iff (m : Mem) : m.ok = true ↔ m.form ∧ Mem.bgIn m.bg := State.memOk_iff { State.reset with mem := m }

@[simp] theorem ok_ite (c : Prop) [Decidable c] (a b : Mem) : (if c then a else b).ok = if c then a.ok else b.ok := apply_ite Mem.ok c a b

/-- What an operation on the bytes leaves in form, the test in progress staying as it was. -/
theorem Mem.ok_of_form {m n : Mem} (h : m.ok = true) (hf : n.form) (hb : n.bg = m.bg) : n.ok = true := by
  rw [Mem.ok_iff] at h ⊢
  exact ⟨hf, hb ▸ h.2⟩

/-- A change of the test in progress alone. -/
theorem Mem.ok_of_bg {m n : Mem} (h : m.ok = true) (hf : n.bytes = m.bytes ∧ n.shadow = m.shadow) (hb : Mem.bgIn n.bg) : n.ok = true := by
  rw [Mem.ok_iff] at h ⊢
  refine ⟨?_, hb⟩
  rw [Mem.form, hf.1, hf.2]
  exact h.1

/-- The record of MRAM writes in progress is not part of the form (R596). -/
@[simp] theorem Mem.ok_writes (m : Mem) (w : List JobFor) : ({ m with writes := w } : Mem).ok = m.ok := rfl

theorem Mem.ok_noTest {m : Mem} (h : m.ok = true) : ({ m with bg := none } : Mem).ok = true := Mem.ok_of_bg h ⟨rfl, rfl⟩ nofun

theorem foldl_memOk {α : Type} (f : State → α → State) (h : ∀ t x, t.mem.ok = true → (f t x).mem.ok = true) (l : List α) (s : State)
    (hs : s.mem.ok = true) : (l.foldl f s).mem.ok = true := by
  induction l generalizing s with
  | nil => exact hs
  | cons x l ih => exact ih _ (h s x hs)

theorem memOk_ite_of {c : Prop} [Decidable c] {a b : State} (ha : a.mem.ok = true) (hb : b.mem.ok = true) :
    (if c then a else b).mem.ok = true := by
  split
  · exact ha
  · exact hb

@[simp] theorem onIdx_ok (n k : Nat) (f : State → State) (s : State) (hf : (f s).mem.ok = true) (h : s.mem.ok = true) :
    (onIdx n k f s).mem.ok = true := memOk_ite_of hf h

/-! ### Writes to memory, and its background test (R592-R595, R600, R602) -/

@[simp] theorem State.setMemBytes_ok (s : State) (a : Nat) (bs : List Byte) (h : s.mem.ok = true) : (s.setMemBytes a bs).mem.ok = true :=
  State.setMemBytes_memOk h a bs

@[simp] theorem hostWindowWrite_ok (off : Nat) (bs : List Byte) (s : State) (h : s.mem.ok = true) : (hostWindowWrite off bs s).mem.ok = true :=
  hostWindowWrite_memOk h off bs

@[simp] theorem bodyMemWrite_ok (c : Ctx) (ws : List Word) (s : State) (h : s.mem.ok = true) : (bodyMemWrite c ws s).mem.ok = true := by
  simp [bodyMemWrite, h]

/-- The test that MEM.BGTEST begins keeps to the regions outside the secure one, whatever it names (R602). -/
theorem bgtest_in {first count : Nat} {o : Option Ctx} (h0 : min count (480 - min 479 first) ≠ 0) :
    Mem.bgIn (some { first := min 479 first, count := min count (480 - min 479 first), owner := o }) := by
  rintro b ⟨⟩
  dsimp only
  omega

/-- A change that every step of a test makes to it: the regions it names and those tested stay. -/
theorem Mem.bgIn.map {bg : Option BgTest} (h : Mem.bgIn bg) (f : BgTest → BgTest)
    (hf : ∀ b, (f b).tested = b.tested ∧ (f b).count = b.count ∧ (f b).first = b.first) : Mem.bgIn (bg.map f) := by
  rintro _ hb
  obtain ⟨b, rfl, rfl⟩ := Option.map_eq_some_iff.1 hb
  obtain ⟨ht, hc, h1⟩ := hf b
  rw [ht, hc, h1]
  exact h b rfl

theorem Mem.ok_mapTest {m : Mem} (h : m.ok = true) (f : BgTest → BgTest)
    (hf : ∀ b, (f b).tested = b.tested ∧ (f b).count = b.count ∧ (f b).first = b.first) : ({ m with bg := m.bg.map f } : Mem).ok = true :=
  Mem.ok_of_bg h ⟨rfl, rfl⟩ (((Mem.ok_iff m).1 h).2.map f hf)

@[simp] theorem bodyBgtest_ok (c : Ctx) (ws : List Word) (s : State) (h : s.mem.ok = true) : (bodyBgtest c ws s).mem.ok = true := by
  unfold bodyBgtest
  extract_lets stop first count rep
  split
  · rw [ok_ctx_mem]
    exact Mem.ok_mapTest h _ (fun _ => ⟨rfl, rfl, rfl⟩)
  · split
    · simpa using h
    · split
      · simpa using h
      · split
        · simpa using h
        next h0 =>
          rw [State.queueJob_mem]
          exact Mem.ok_of_bg h ⟨rfl, rfl⟩ (bgtest_in h0)

@[simp] theorem State.endBgtest_ok (s : State) (b : BgTest) (stopped : Bool) (fail : Option Nat) (words : Nat) (h : s.mem.ok = true) :
    (s.endBgtest b stopped fail words).mem.ok = true := by
  unfold State.endBgtest
  dsimp only
  (repeat' split) <;> simp [Mem.ok_noTest h]

/-- The step of a region whose test goes on. -/
theorem Mem.ok_step {m n : Mem} {b c : BgTest} (h : m.ok = true) (hb : m.bg = some b) (hf : n.form)
    (hc : c.tested = b.tested ∧ c.count = b.count ∧ c.first = b.first) : ({ n with bg := some c } : Mem).ok = true := by
  obtain ⟨ht, hn, h1⟩ := hc
  refine (Mem.ok_iff _).2 ⟨hf, ?_⟩
  rintro _ ⟨⟩
  rw [ht, hn, h1]
  exact ((Mem.ok_iff m).1 h).2 b hb

@[simp] theorem borrowStep_ok (failWords : Nat) (s : State) (h : s.mem.ok = true) : (borrowStep failWords s).mem.ok = true := by
  obtain ⟨hform, hbg⟩ := (Mem.ok_iff _).1 h
  unfold borrowStep
  split
  · exact h
  next b hb =>
    obtain ⟨hlt, hle⟩ := hbg b hb
    extract_lets r go m tested u next mem
    split
    · exact h
    · exact Mem.ok_step h hb (Mem.form_copyRegion hform r) ⟨rfl, rfl, rfl⟩
    · exact Mem.ok_step (n := { s.mem with inUse := some r }) h hb hform ⟨rfl, rfl, rfl⟩
    · split
      · exact Mem.ok_step h hb (Mem.form_testRegion hform r) ⟨rfl, rfl, rfl⟩
      · refine State.endBgtest_ok _ _ _ _ _ (Mem.ok_of_form (m := s.mem) h ?_ rfl)
        exact Mem.form_testRegion hform r
    · exact Mem.ok_step h hb (Mem.form_restoreRegion hform (by omega)) ⟨rfl, rfl, rfl⟩
    · have hform0 : ({ s.mem with inUse := none, shadow := [] } : Mem).form := ⟨hform.1, Cells.nil _⟩
      have hrel : ({ s.mem with inUse := none, shadow := [] } : Mem).ok = true := Mem.ok_of_form h hform0 rfl
      split
      · exact State.endBgtest_ok _ _ _ _ _ hrel
      · split
        · exact State.endBgtest_ok _ _ _ _ _ hrel
        next hne =>
          rw [State.queueJob_mem]
          refine (Mem.ok_iff _).2 ⟨hform0, ?_⟩
          rintro _ ⟨⟩
          simp only [next] at hne ⊢
          omega

@[simp] theorem State.startRegion_ok (s : State) (h : s.mem.ok = true) : s.startRegion.mem.ok = true :=
  Mem.ok_mapTest h _ (fun _ => ⟨rfl, rfl, rfl⟩)

@[simp] theorem State.mutePcie_ok (s : State) (h : s.mem.ok = true) : s.mutePcie.mem.ok = true :=
  Mem.ok_mapTest h _ (fun _ => ⟨rfl, rfl, rfl⟩)

/-! ### MRAM writes in progress (R596, R597) -/

@[simp] theorem State.writeAdmitted_ok (s : State) (what : JobFor) (h : s.mem.ok = true) : (s.writeAdmitted what).mem.ok = true := by
  simp [State.writeAdmitted, h]

@[simp] theorem mramWriteComplete_ok (s : State) (h : s.mem.ok = true) : (mramWriteComplete s).mem.ok = true := by
  unfold mramWriteComplete
  (repeat' split) <;> simp [h]

@[simp] theorem State.tearWrites_ok (s : State) (h : s.mem.ok = true) : s.tearWrites.mem.ok = true := by
  unfold State.tearWrites
  dsimp only
  (repeat' split) <;> simp [h]

/-! ### From a carrier to a command's body -/

/-- A body that keeps the form of memory. -/
def Body.keepsMem (body : Body) : Prop := ∀ c ws t, t.mem.ok = true → (body c ws t).mem.ok = true

@[simp] theorem State.performNow_ok (s : State) {body : Body} (hb : body.keepsMem) (c : Ctx) (ws : List Word) (h : s.mem.ok = true) :
    (s.performNow body c ws).mem.ok = true := by
  unfold State.performNow
  split
  · simpa using h
  · exact hb _ _ _ (by simp [h])

@[simp] theorem State.perform_ok (s : State) {body : Body} (hb : body.keepsMem) (c : Ctx) (ws : List Word) (h : s.mem.ok = true) :
    (s.perform body c ws).mem.ok = true := by simp [State.perform, hb, h]

@[simp] theorem State.execute_ok (s : State) (len : LenRule) {body : Body} (hb : body.keepsMem) (c : Ctx) (ws : List Word)
    (h : s.mem.ok = true) : (s.execute len body c ws).mem.ok = true := by
  unfold State.execute
  dsimp only
  (repeat' split) <;> simp [hb, h]

@[simp] theorem State.accept_ok (s : State) (len : LenRule) {body : Body} (hb : body.keepsMem) (op : Nat) (p : Pkt) (h : s.mem.ok = true) :
    (s.accept len body op p).mem.ok = true := by
  unfold State.accept
  dsimp only
  split <;> simp [hb, h]

@[simp] theorem State.taken_ok (s : State) (len : LenRule) {body : Body} (hb : body.keepsMem) (op : Nat) (p : Pkt) (h : s.mem.ok = true) :
    (s.taken len body op p).mem.ok = true := by simp [State.taken, hb, h]

theorem State.receive_ok (s : State) (len : LenRule) {body : Body} (hb : ∀ c ws t, t.mem.ok = true → (body c ws t).mem.ok = true) (op : Nat)
    (p : Pkt) (h : s.mem.ok = true) : (s.receive len body op p).mem.ok = true := by
  have hb : body.keepsMem := hb
  simp [State.receive, hb, h]

/-- Every body of the master table keeps the form of memory (R91). -/
theorem opTables_keepsMem : ∀ e ∈ opTableA ++ opTableB ++ opTableC, Body.keepsMem e.2.2 := by
  simp +contextual [opTableA, opTableB, opTableC, Body.keepsMem]

@[simp] theorem opEntry_keepsMem (op : Nat) : Body.keepsMem (opEntry op).2 := by
  unfold opEntry
  split
  next e h => exact opTables_keepsMem _ (List.mem_of_find?_eq_some h)
  · intro c ws t h
    simpa using h

/-! ### The operations of Machine/Intake.lean -/

@[simp] theorem State.arrives_ok (s : State) (op : Nat) (p : Pkt) (h : s.mem.ok = true) : (s.arrives op p).mem.ok = true :=
  s.receive_ok _ (opEntry_keepsMem op) op p h
@[simp] theorem State.dispatch_ok (s : State) (op : Nat) (p : Pkt) (h : s.mem.ok = true) : (s.dispatch op p).mem.ok = true := by
  simp [State.dispatch, h]
@[simp] theorem State.consumeSlots_mem (s : State) (k : Nat) : (s.consumeSlots k).mem = s.mem := by simp [State.consumeSlots]

@[simp] theorem State.drainRing_ok (n : Nat) (s : State) (h : s.mem.ok = true) : (s.drainRing n).mem.ok = true := by
  induction n generalizing s with
  | zero => exact h
  | succ n ih =>
    unfold State.drainRing
    dsimp only
    (repeat' split) <;> simp [ih, h]

@[simp] theorem State.serveRing_ok (s : State) (h : s.mem.ok = true) : s.serveRing.mem.ok = true := by simp [State.serveRing, h]
@[simp] theorem State.fetchRing_ok (s : State) (pi' : Nat) (words : List Word) (h : s.mem.ok = true) :
    (s.fetchRing pi' words).mem.ok = true := by
  simp [State.fetchRing, h]
@[simp] theorem cmdPiWrite_ok (pi' : Nat) (words : List Word) (s : State) (h : s.mem.ok = true) : (cmdPiWrite pi' words s).mem.ok = true := by
  simp [cmdPiWrite, h]

@[simp] theorem State.drainSpi_ok (n : Nat) (s : State) (h : s.mem.ok = true) : (s.drainSpi n).mem.ok = true := by
  induction n generalizing s with
  | zero => exact h
  | succ n ih =>
    unfold State.drainSpi
    dsimp only
    (repeat' split) <;> simp [ih, h]

@[simp] theorem State.serveSpi_ok (s : State) (h : s.mem.ok = true) : s.serveSpi.mem.ok = true := by simp [State.serveSpi, h]
@[simp] theorem spiPut_ok (ws : List Word) (s : State) (h : s.mem.ok = true) : (spiPut ws s).mem.ok = true := by simp [spiPut, h]
@[simp] theorem State.takeTold_mem (s : State) (c : List Word) : (s.takeTold c).mem = s.mem := by simp [State.takeTold]

@[simp] theorem State.servePqCmd_ok (s : State) (h : s.mem.ok = true) : s.servePqCmd.mem.ok = true := by
  unfold State.servePqCmd
  dsimp only
  (repeat' split) <;> simp [h]

@[simp] theorem configReceived_ok (s : State) (h : s.mem.ok = true) : (configReceived s).mem.ok = true := by
  unfold configReceived
  split
  next ht => rw [snd_mem ht (s.takeTwin_mem 4), h]
  next ht =>
    dsimp only
    (repeat' split) <;> simp [snd_mem ht (s.takeTwin_mem 4), h]

@[simp] theorem State.release_ok (s : State) (f : Job → Option (List Word)) (h : s.mem.ok = true) : (s.release f).mem.ok = true := by
  unfold State.release
  dsimp only
  refine foldl_memOk _ (fun t e ht => ?_) _ _ h
  exact t.perform_ok (opEntry_keepsMem _) _ _ ht

@[simp] theorem State.applyMailbox_ok (n : Nat) (s : State) (h : s.mem.ok = true) : (s.applyMailbox n).mem.ok = true := by
  induction n generalizing s with
  | zero => exact h
  | succ n ih =>
    unfold State.applyMailbox
    (repeat' split) <;> simp [ih, h]

@[simp] theorem State.serveMailbox_ok (s : State) (h : s.mem.ok = true) : s.serveMailbox.mem.ok = true := by simp [State.serveMailbox, h]

@[simp] theorem State.serveBehind_ok (n : Nat) (s : State) (h : s.mem.ok = true) : (s.serveBehind n).mem.ok = true := by
  induction n generalizing s with
  | zero => exact h
  | succ n ih =>
    unfold State.serveBehind
    split <;> simp [ih, h]

@[simp] theorem State.serveBlocked_ok (s : State) (chan : Bool) (i : Nat) (h : s.mem.ok = true) : (s.serveBlocked chan i).mem.ok = true := by
  simp [State.serveBlocked, h]

@[simp] theorem blockSegmentEnd_ok (chan : Bool) (i errors us : Nat) (s : State) (h : s.mem.ok = true) :
    (blockSegmentEnd chan i errors us s).mem.ok = true := by
  unfold blockSegmentEnd
  split <;> simp [h]

@[simp] theorem jobAdmitted_ok (s : State) (h : s.mem.ok = true) : (jobAdmitted s).mem.ok = true := by
  unfold jobAdmitted
  split
  · exact h
  · split
    · exact h
    next j t _ =>
      extract_lets led without begin_
      have hbegin (k : State → State) (hk : ∀ t, t.mem.ok = true → (k t).mem.ok = true) : (begin_ k).mem.ok = true := by
        unfold begin_
        split
        next hd => exact hk _ (by rw [s.admitHead_mem _ _ hd, h])
        · exact h
      have hwithout : without.mem.ok = true := h
      (repeat' split) <;> simp +contextual [hbegin, hwithout]

@[simp] theorem State.runScript_ok (n idx : Nat) (ws : List Word) (s : State) (h : s.mem.ok = true) : (s.runScript n idx ws).mem.ok = true := by
  induction n generalizing s idx ws with
  | zero => exact h
  | succ n ih =>
    unfold State.runScript
    (repeat' split) <;> simp [ih, h]

@[simp] theorem State.startScript_ok (s : State) (h : s.mem.ok = true) : s.startScript.mem.ok = true := by simp [State.startScript, h]

/-! ### The operations of Machine/Startup.lean -/

@[simp] theorem State.endHeld_mem (s : State) (j : Job) : (s.endHeld j).mem = s.mem := by
  unfold State.endHeld
  split <;> simp

@[simp] theorem State.tpLeave_mem (s : State) : s.tpLeave.mem = s.mem := by simp [State.tpLeave]
@[simp] theorem tpFaultStep_mem (s : State) : (tpFaultStep s).mem = s.mem := by simp [tpFaultStep]
@[simp] theorem tpReturnStep_ok (s : State) (h : s.mem.ok = true) : (tpReturnStep s).mem.ok = true := by simp [tpReturnStep, h]
@[simp] theorem xoLossRow_mem (s : State) : (xoLossRow s).mem = s.mem := by simp [xoLossRow]
@[simp] theorem rootRelockRow_mem (ago : Nat) (s : State) : (rootRelockRow ago s).mem = s.mem := by simp [rootRelockRow]

@[simp] theorem State.flushPunts_mem (s : State) : s.flushPunts.mem = s.mem := by simp [State.flushPunts]

/-- The cut of MPI ends a test in progress whose region is not borrowed, and takes the other from its command (R38, R595). -/
theorem Mem.ok_cutTest {m : Mem} (h : m.ok = true) : ({ m with
    bg := (m.bg.filter (fun b => b.step.isSome)).map (fun (b : BgTest) => { b with owner := none }) } : Mem).ok = true := by
  refine Mem.ok_of_bg h ⟨rfl, rfl⟩ (Mem.bgIn.map (fun b hb => ?_) _ (fun _ => ⟨rfl, rfl, rfl⟩))
  exact ((Mem.ok_iff m).1 h).2 b (Option.filter_eq_some_iff.1 hb).1

@[simp] theorem State.cutWork_ok (s : State) (h : s.mem.ok = true) : s.cutWork.mem.ok = true := by
  simp [State.cutWork, Mem.ok_cutTest, h]
@[simp] theorem State.cutMpi_ok (s : State) (h : s.mem.ok = true) : s.cutMpi.mem.ok = true := by simp [State.cutMpi, h]
@[simp] theorem watchdogFire_ok (s : State) (h : s.mem.ok = true) : (watchdogFire s).mem.ok = true := by simp [watchdogFire, h]

/-- Out of RUN nothing of controller memory is held (R586, R636). -/
@[simp] theorem State.inReset_mem (s : State) (p : Power) : (s.inReset p).mem = {} := rfl
@[simp] theorem Mem.ok_reset : ({} : Mem).ok = true := rfl

@[simp] theorem State.tearAll_ok (s : State) (h : s.mem.ok = true) : s.tearAll.mem.ok = true := by simp [State.tearAll, h]

@[simp] theorem State.vaultCheck_mem (s : State) : s.vaultCheck.mem = s.mem := by
  unfold State.vaultCheck
  dsimp only
  split <;> simp

@[simp] theorem State.loadRecords_mem (s : State) : s.loadRecords.mem = s.mem := by
  unfold State.loadRecords
  dsimp only
  (repeat' split) <;> simp

@[simp] theorem State.enterRecovery_mem (s : State) : s.enterRecovery.mem = s.mem := by simp [State.enterRecovery]

@[simp] theorem State.finishStart_ok (s : State) (h : s.mem.ok = true) : s.finishStart.mem.ok = true := by
  unfold State.finishStart
  split <;> simp [h]

@[simp] theorem State.testDone_ok (s : State) (h : s.mem.ok = true) : s.testDone.mem.ok = true := by simp [State.testDone, h]

@[simp] theorem State.startUp_ok (s : State) (cause : Nat) (m : StartMeas) : (s.startUp cause m).mem.ok = true := by
  unfold State.startUp
  extract_lets r start alarms clk led u v start' sec w x sec' test y
  have hv : v.mem = {} := by simp [v, u, r]
  have hy : y.mem = {} := by simp [y, x, w, hv]
  split
  · exact State.finishStart_ok _ (by simp [hv])
  · split
    · simp [hy]
    · exact State.testDone_ok _ (by simp [hy])

@[simp] theorem State.enterStopped_mem (s : State) : s.enterStopped.mem = {} := rfl
@[simp] theorem resetRelease_ok (m : StartMeas) (s : State) (h : s.mem.ok = true) : (resetRelease m s).mem.ok = true := by
  simp [resetRelease, h]
@[simp] theorem releaseWaitAlarm_mem (s : State) : (releaseWaitAlarm s).mem = s.mem := by simp [releaseWaitAlarm]
@[simp] theorem resetFall_ok (s : State) (h : s.mem.ok = true) : (resetFall s).mem.ok = true := by simp [resetFall, h]
@[simp] theorem powerOnRelease_ok (s : State) (h : s.mem.ok = true) : (powerOnRelease s).mem.ok = true := by simp [powerOnRelease, h]
@[simp] theorem moduleUnpowered_ok (s : State) (h : s.mem.ok = true) : (moduleUnpowered s).mem.ok = true := by simp [moduleUnpowered, h]
@[simp] theorem parkedResume_ok (m : StartMeas) (s : State) (h : s.mem.ok = true) : (parkedResume m s).mem.ok = true := by
  simp [parkedResume, h]

@[simp] theorem State.closeNow_mem (s : State) (cause b : Nat) : (s.closeNow cause b).mem = s.mem := by simp [State.closeNow]
@[simp] theorem State.lastGasp_mem (s : State) (pfail rail : Bool) (idx : Nat) : (s.lastGasp pfail rail idx).mem = {} := rfl
@[simp] theorem pfailLow_ok (s : State) (h : s.mem.ok = true) : (pfailLow s).mem.ok = true := by simp [pfailLow, h]
@[simp] theorem railFault_ok (rail : Nat) (s : State) (h : s.mem.ok = true) : (railFault rail s).mem.ok = true := by simp [railFault, h]

@[simp] theorem State.stopPart_ok (s : State) (noPass : Bool) (fails : List Bool) (us : Nat) (h : s.mem.ok = true) :
    (s.stopPart noPass fails us).mem.ok = true := by
  simp [State.stopPart, h]

@[simp] theorem shutdownReplyLeft_ok (fails : List Bool) (us : Nat) (s : State) (h : s.mem.ok = true) :
    (shutdownReplyLeft fails us s).mem.ok = true := by
  unfold shutdownReplyLeft
  split <;> simp [h]

@[simp] theorem restartReplyLeft_ok (m : StartMeas) (s : State) (h : s.mem.ok = true) : (restartReplyLeft m s).mem.ok = true := by
  unfold restartReplyLeft
  split <;> simp [h]

@[simp] theorem testSegmentEnd_ok (fail : Bool) (us : Nat) (s : State) (h : s.mem.ok = true) : (testSegmentEnd fail us s).mem.ok = true := by
  unfold testSegmentEnd
  (repeat' split) <;> simp [h]

@[simp] theorem mpiPowerUp_ok (startUs : Nat) (s : State) (h : s.mem.ok = true) : (mpiPowerUp startUs s).mem.ok = true := by
  simp [mpiPowerUp, h]
@[simp] theorem pcieLinkUp_ok (words : List Word) (s : State) (h : s.mem.ok = true) : (pcieLinkUp words s).mem.ok = true := by
  simp [pcieLinkUp, h]
@[simp] theorem perstAssert_ok (s : State) (h : s.mem.ok = true) : (perstAssert s).mem.ok = true := by simp [perstAssert, h]
@[simp] theorem perstRelease_mem (s : State) : (perstRelease s).mem = s.mem := by simp [perstRelease]

/-! ### The operations of Machine/Clock.lean -/

@[simp] theorem State.timingTick_mem (s : State) : s.timingTick.mem = s.mem := by simp [State.timingTick]
@[simp] theorem State.counterTick_mem (s : State) : s.counterTick.mem = s.mem := by simp [State.counterTick]
@[simp] theorem State.counterEnd_mem (s : State) : s.counterEnd.mem = s.mem := by simp [State.counterEnd]
@[simp] theorem State.qualTick_mem (s : State) : s.qualTick.mem = s.mem := by simp [State.qualTick]
@[simp] theorem State.hamTick_mem (s : State) (k : Nat) : (s.hamTick k).mem = s.mem := by simp [State.hamTick]
@[simp] theorem State.hierTick_mem (s : State) : s.hierTick.mem = s.mem := by simp [State.hierTick]
@[simp] theorem State.timersTick_mem (s : State) : s.timersTick.mem = s.mem := by simp [State.timersTick]
@[simp] theorem State.endTick_mem (s : State) : s.endTick.mem = s.mem := by simp [State.endTick]

/-- The packets that wait in the part are taken in order: those behind others, then the ring's, the SPI buffer's and PQ_CMD's. -/
theorem State.serveAll_ok (s : State) (h : s.mem.ok = true) :
    (State.serveBehind s.axg.jobs.length s).serveRing.serveSpi.servePqCmd.mem.ok = true :=
  State.servePqCmd_ok _ (State.serveSpi_ok _ (State.serveRing_ok _ (State.serveBehind_ok _ s h)))

@[simp] theorem State.clockTick_ok (s : State) (h : s.mem.ok = true) : s.clockTick.mem.ok = true := by
  simp [State.clockTick, State.serveAll_ok, -State.servePqCmd_ok, h]

/-! ### The rows and the step -/

/-- A row keeps the form of memory when the operation that gives its next state does. -/
theorem memOk_of_next {t u : State} (h : (Host.Outcome.next u : Host.Outcome State Fault Refusal) = .next t) (hu : u.mem.ok = true) :
    t.mem.ok = true := by
  cases h
  exact hu

/-- Every row keeps the form of memory: each is one operation above, or the reception of a packet by one body of the master table. -/
theorem exec_memOk (i : Instr) {s t : State} (hs : s.mem.ok = true) (h : exec i s = .next t) : t.mem.ok = true := by
  cases i
  case annealSegmentComplete block errors us =>
    rcases block with _ | ⟨chan, k⟩ <;> exact memOk_of_next h (by simp [hs])
  all_goals exact memOk_of_next h (by simp (disch := intros; simp [*]) [State.receive_ok, hs])

/-- Settles O3: a step is a tick or a row; the operations that write memory keep its form, and the others leave it as it is. -/
theorem memoryKept : Obligations.MemoryKept := by
  intro s t hs h
  rw [State.memOk_eq] at hs ⊢
  unfold step at h
  split at h
  · exact memOk_of_next h (s.clockTick_ok hs)
  next c rest _ => exact exec_memOk (s := { s with pending := rest }) c hs h

/-- Settles O4: after reset no byte of memory and none of its shadow is listed, and no test runs. -/
theorem memoryAtReset : Obligations.MemoryAtReset := rfl

end Sys2Proof.Machine
end

section
/-! The life cycle (R566, R567, R570): why DECOMMISSIONED is not kept from every state. A command that waits for the timing plane has passed
the life-cycle check before it waits and acts without one, so a state may hold a key load there, though no packet puts one. -/

namespace Sys2Proof.Machine

open Sys2Proof

/-- A part in DECOMMISSIONED without a command key, whose timing plane is about to return, with a SEC.KEY_LOAD of the host key 1 among the
commands that wait for it. -/
def keyLoadWaits : State :=
  { pending := [.timingPlaneReturn]
    start := { power := .run }
    clk := { rootLock := true, dpUp := true }
    mram := { lc := .decommissioned }
    axg := { jobs := [{ ctx := { via := .pcie, op := 0x0F02 }, work := .mailbox [0, 0, 0, 0, 0, 0, 0, 0, 1] }] } }

/-- The plane returns, the command acts, and the key is loaded. -/
theorem keyLoadWaits_loads : (tpReturnStep { keyLoadWaits with pending := [] }).mram.hostKey = some 1 := by decide +kernel

/-- Refutes O5: its premises say nothing of the commands that wait for the timing plane, and one of them loads a key as the plane returns.
No step from reset makes a key load wait there. -/
theorem not_decommissionedForGood : ¬ Obligations.DecommissionedForGood := by
  intro h
  obtain ⟨-, hkey, -⟩ := h keyLoadWaits (tpReturnStep { keyLoadWaits with pending := [] }) rfl rfl rfl rfl
  rw [keyLoadWaits_loads] at hkey
  exact absurd hkey (by decide)

end Sys2Proof.Machine
end

section
/-! Secrets, tamper and the test access port (chapter 18, R457, R566-R584): what a wipe with its life-cycle change leaves, the security
commands, and the rows of the tamper inputs, of VBAT and of the TAP. -/

namespace Sys2Proof.Machine

open Sys2Proof

/-! ### Fields of a packed word -/

theorem pack_toNat (fs : List (Nat × Nat)) : (pack fs).toNat = (fs.map (fun f => f.2 * 2 ^ f.1)).sum % 2 ^ 32 := BitVec.toNat_ofNat _ _

theorem fld_pack (fs : List (Nat × Nat)) (hi lo : Nat) :
    fld (pack fs) hi lo = (fs.map (fun f => f.2 * 2 ^ f.1)).sum % 2 ^ 32 / 2 ^ lo % 2 ^ (hi + 1 - lo) := by
  rw [fld, pack_toNat, Nat.shiftRight_eq_div_pow]

theorem bit_pack (fs : List (Nat × Nat)) (i : Nat) :
    bit (pack fs) i = decide ((fs.map (fun f => f.2 * 2 ^ f.1)).sum % 2 ^ 32 / 2 ^ i % 2 = 1) := by
  rw [bit, BitVec.getLsbD, pack_toNat, Nat.testBit_eq_decide_div_mod_eq]

/-! ### A wipe and a change of the life cycle (R566, R568) -/

/-- A change of the life cycle stores the new state and writes one record; the fuse blows with DECOMMISSIONED. -/
theorem State.setLc_only (s : State) (n : Lc) : ∃ cru, s.setLc n = { s with
    mram := { s.mram with lc := n }, sec := { s.sec with fuse := s.sec.fuse || decide (n = Lc.decommissioned) }, cru := cru } := ⟨_, rfl⟩

/-- A wiped part that was PROVISIONED or OPERATIONAL goes to MANUFACTURE. -/
theorem State.demote_only (s : State) : ∃ cru sec,
    (if s.mram.lc = .provisioned ∨ s.mram.lc = .operational then s.setLc .manufacture else s) = { s with
      mram := { s.mram with lc := if s.mram.lc = .decommissioned then .decommissioned else .manufacture }, sec := sec, cru := cru } := by
  split
  · rename_i h
    have hne : ¬ s.mram.lc = .decommissioned := by
      intro hd
      simp [hd] at h
    rw [if_neg hne]
    exact ⟨_, _, rfl⟩
  · rename_i h
    have hlc : (if s.mram.lc = .decommissioned then .decommissioned else .manufacture) = s.mram.lc := by
      cases hc : s.mram.lc <;> simp_all
    rw [hlc]
    exact ⟨_, _, rfl⟩

/-- What the steps on a latched tamper leave: the wiped part in MANUFACTURE or DECOMMISSIONED with the cause handled and ALARM_N low. -/
theorem State.tamperSteps_only (s : State) (cause : Nat) : ∃ cru sec, s.tamperSteps cause = { s.wipe with
    tamper := { s.tamper with wiped := true }
    mram := { s.wipe.mram with lc := if s.mram.lc = .decommissioned then .decommissioned else .manufacture }
    sec := sec
    cru := cru
    alarms := { s.alarms with tamper := true } } := by
  obtain ⟨_, _, h⟩ := State.demote_only { s.wipe with tamper := { s.tamper with wiped := true } }
  exact ⟨_, _, congrArg (fun u : State =>
    let t := u.log .mgmt 0x0F01 0 (pack [(0, cause)]) 0 0
    { t with alarms := { t.alarms with tamper := true } }) h⟩

/-! ### The tamper inputs and VBAT (R571, R572) -/

/-- A cause that a running part raises is handled at once. -/
theorem tamperDetected_handled {s : State} {cause : Nat} {raised : Tamper} (hrun : s.start.power = .run)
    (hv : ¬ (s.tamper.vbatLost = true ∧ cause < 2)) (hr : s.tamper.raise cause true = some raised) :
    tamperDetected cause s = ({ s with tamper := { raised with wiped := false } } : State).tamperSteps cause := by
  have hrunning : s.running = true := decide_eq_true hrun
  have hrunning' (x : Tamper) : ({ s with tamper := x } : State).running = true := decide_eq_true hrun
  simp only [tamperDetected, if_neg hv, hrunning, hr, hrunning', if_true]

/-- The two inputs raise their causes while they are armed. -/
theorem tamperDetected_input {s : State} {c : Nat} (hc : c < 2) (hrun : s.start.power = .run) (hv : s.tamper.vbatLost = false)
    (ha : (if c = 0 then s.tamper.armed0 else s.tamper.armed1) = true) : Completes (.tamperDetected c) s (fun t =>
      t.tamper.latched = true ∧ t.tamper.count = inc8 s.tamper.count ∧ t.tamper.wiped = true ∧
      (if c = 0 then t.tamper.t0 = true ∧ t.tamper.armed0 = false else t.tamper.t1 = true ∧ t.tamper.armed1 = false) ∧
      t.mram.hostKey = none ∧ t.mram.sysKey = none ∧ t.mram.bootEpoch = 0 ∧ t.sesKeys = [] ∧ t.axg.replay = [] ∧ t.alarmLow = true ∧
      t.mram.lc = (if s.mram.lc = .decommissioned then .decommissioned else .manufacture) ∧
      t.keeps s [.tamper, .mram, .sesKeys, .axg, .sec, .alarms, .cru]) := by
  have hvb : ¬ (s.tamper.vbatLost = true ∧ c < 2) := by simp [hv]
  obtain ⟨raised, hr, hcount, hset⟩ : ∃ r, s.tamper.raise c true = some r ∧ r.count = inc8 s.tamper.count ∧
      (if c = 0 then r.t0 = true ∧ r.armed0 = false else r.t1 = true ∧ r.armed1 = false) := by
    obtain rfl | rfl : c = 0 ∨ c = 1 := by omega
    · exact ⟨_, if_pos ha, rfl, rfl, rfl⟩
    · exact ⟨_, if_pos ha, rfl, rfl, rfl⟩
  have hlatched : raised.latched = true := by
    split at hset <;> simp [Tamper.latched, hset]
  obtain ⟨_, _, h⟩ := State.tamperSteps_only { s with tamper := { raised with wiped := false } } c
  refine idxRow_completes (tamperDetected c) rfl (by omega) ?_
  rw [tamperDetected_handled hrun hvb hr, h]
  refine ⟨hlatched, hcount, rfl, hset, rfl, rfl, rfl, rfl, rfl, ?_, rfl, fun q hq => ?_⟩
  · simp [State.alarmLow]
  · cases q <;> simp at hq <;> rfl

/-- The two glitch detectors raise their causes in a running part. -/
theorem tamperDetected_glitch {s : State} {c : Nat} (hc : c = 3 ∨ c = 4) (hrun : s.start.power = .run) :
    Completes (.tamperDetected c) s (fun t => t.tamper.latched = true ∧ t.tamper.wiped = true ∧ t.mram.hostKey = none ∧
      t.mram.sysKey = none ∧ t.alarmLow = true) := by
  obtain ⟨raised, hr, hlatched⟩ : ∃ r, s.tamper.raise c true = some r ∧ r.latched = true := by
    obtain rfl | rfl := hc
    · exact ⟨_, rfl, by simp [Tamper.latched]⟩
    · exact ⟨_, rfl, by simp [Tamper.latched]⟩
  obtain ⟨_, _, h⟩ := State.tamperSteps_only { s with tamper := { raised with wiped := false } } c
  refine idxRow_completes (tamperDetected c) rfl (by omega) ?_
  rw [tamperDetected_handled hrun (by omega) hr, h]
  refine ⟨hlatched, rfl, rfl, rfl, ?_⟩
  simp [State.alarmLow]

/-- The loss of VBAT is raised once it is back, and waits for the next start in a part that does not run. -/
theorem tamperDetected_vbat {s : State} (hrun : s.start.power ≠ .run) (hv : s.tamper.vbatLost = true) :
    tamperDetected 2 s = { s with tamper :=
      { s.tamper with vbatLoss := true, vbatLost := false, vbatLow := false, count := 1, wiped := false } } := by
  have hrunning (x : Tamper) : ({ s with tamper := x } : State).running = false := decide_eq_false hrun
  have hraise (b : Bool) : s.tamper.raise 2 b =
      some { s.tamper with vbatLoss := true, vbatLost := false, vbatLow := false, count := 1 } := if_pos hv
  have hvb : ¬ (s.tamper.vbatLost = true ∧ 2 < 2) := by omega
  simp only [tamperDetected, if_neg hvb, hraise, hrunning, Bool.false_eq_true, if_false]

/-! ### The test access port (R457) -/

/-- SCAN_ACCESS is decoded when scan is armed or the part is DECOMMISSIONED. -/
theorem jtag_scanAccess (s : State) (pads : List BPin) (hp : s.powered = true) : jtagInstruction .scanAccess pads s =
    { s with hst := { s.hst with tap := if s.sec.scanArmed = true ∨ s.mram.lc = .decommissioned then .scanAccess else .bypass } } := by
  simp only [jtagInstruction, hp, Bool.true_eq_false, if_false, State.scanOpen, Bool.or_eq_true, decide_eq_true_eq]
  split <;> rfl

/-- The other boundary instructions are decoded while RESET_N is low. -/
theorem jtag_boundary {i : Jtag} (hi : i = .extest ∨ i = .clamp ∨ i = .highz ∨ i = .extestPulse ∨ i = .extestTrain) (s : State)
    (pads : List BPin) (hp : s.powered = true) :
    (s.start.resetN = true → jtagInstruction i pads s = { s with hst := { s.hst with tap := .bypass } }) ∧
    (s.start.resetN = false → jtagInstruction i pads s = { s with hst := { s.hst with
      tap := i, bsr := if i = .clamp ∨ i = .highz then s.hst.bsr else s.sampled pads } }) := by
  constructor <;> intro hr <;> obtain rfl | rfl | rfl | rfl | rfl := hi <;> simp [jtagInstruction, hp, hr]

/-- Settles O16: each row of the tamper inputs, of VBAT and of the TAP. -/
theorem tamperAndTap : Obligations.TamperAndTap := by
  unfold Obligations.TamperAndTap
  refine ⟨fun s c hc hrun hv ha => tamperDetected_input hc hrun hv ha, fun s c hc hrun => tamperDetected_glitch hc hrun,
    fun s hrun hv => idxRow_next (tamperDetected 2) rfl (by omega) (tamperDetected_vbat hrun hv),
    fun s c hc hv => idxRow_next (tamperDetected c) rfl (by omega) (if_pos ⟨hv, hc⟩), fun s hv => ?_, fun s => ⟨rfl, rfl⟩,
    fun s pads hp => ?_, fun s i pads hp hi => ?_, fun s i pads hp => ?_, fun s => rfl⟩
  · have hinput (n : Nat) : exec (.tamperInputHigh n) s = .next (onIdx 2 n (tamperInputHigh n) s) := rfl
    simp [hinput, onIdx, tamperInputHigh, hv]
  · have hpow : s.powered = true := decide_eq_true hp
    have hload (i : Jtag) : exec (.jtagLoad i pads) s = .next (jtagInstruction i pads s) := rfl
    simp only [hload, jtag_scanAccess s pads hpow]
    simp [jtagInstruction, hpow, State.emit]
  · obtain ⟨hhigh, hlow⟩ := jtag_boundary hi s pads (decide_eq_true hp)
    exact ⟨fun h => congrArg _ (hhigh h), fun h => congrArg _ (hlow h)⟩
  · exact congrArg Host.Outcome.next (if_pos (by simp [State.powered, hp]))

/-! ### The security commands (R570, R579-R584) -/

/-- SEC.SEQ_RESET frees entries of the replay table and answers with their number. -/
theorem bodySeqReset_eq (c : Ctx) (ws : List Word) (s : State) : ∃ u : State, bodySeqReset c ws s = u.ok c [w32 (s.axg.replay.length - u.axg.replay.length)] ∧
    u = { s with axg := { s.axg with replay := u.axg.replay } } ∧ (bit (wd ws 0) 24 = true → u.axg.replay = []) ∧
    (bit (wd ws 0) 24 = false → u.axg.replay = s.axg.replay.filter (fun r => decide (r.srcId ≠ fld (wd ws 0) 17 0))) :=
  ⟨_, rfl, rfl, fun h => if_pos h, fun h => if_neg (by simp [h])⟩

/-- Settles O59: the body of SEC.SEQ_RESET acts on the replay table alone. -/
theorem seqReset : Obligations.SeqReset := by
  intro s p h
  obtain ⟨u, hbody, hu, hall, hsrc⟩ := bodySeqReset_eq (s.ctxOf 0x0F03 p) p.words (s.accepted 0x0F03 p)
  exact ⟨State.accepts_lenIs h, u, answers_of_body rfl h hbody, hu, hall, hsrc⟩

/-- A new host key is stored; the replay table and BOOT_EPOCH start anew. -/
theorem bodyKeyLoad_host (c : Ctx) {ws : List Word} {s : State} (hhost : bit (wd ws 0) 0 = false) (hk : keyOf ((ws.drop 1).take 8) ≠ 0)
    (hwipe : s.sec.wipeFail = false) (hnew : s.mram.hostKey ≠ some (keyOf ((ws.drop 1).take 8))) :
    bodyKeyLoad c ws s = ({ s with
      mram := { s.mram with hostKey := some (keyOf ((ws.drop 1).take 8)), bootEpoch := 0 }, axg := { s.axg with replay := [] } } : State).ok c
        [pack [(0, 1), (1, s.mram.sysKey.isSome.toNat), (16, 0)]] := by
  rw [bodyKeyLoad]
  generalize keyOf ((ws.drop 1).take 8) = k at *
  simp [hhost, hwipe, loadKey, hk, Ne.symm hnew]

/-- While WIPE_FAIL is set a key load stores nothing. -/
theorem bodyKeyLoad_wipeFail (c : Ctx) (ws : List Word) {s : State} (hwipe : s.sec.wipeFail = true) :
    bodyKeyLoad c ws s = s.ok c [pack [(0, s.mram.hostKey.isSome.toNat), (1, s.mram.sysKey.isSome.toNat), (16, s.mram.bootEpoch)]] := by
  simp [bodyKeyLoad, hwipe]

/-- Without its key word SEC.LC_SET changes nothing. -/
theorem bodyLcSet_unkeyed (c : Ctx) {ws : List Word} (s : State) (h : fld (wd ws 0) 31 16 ≠ 0x4C43) :
    bodyLcSet c ws s = s.ok c [pack [(0, lcCode s.mram.lc), (2, lcCode s.mram.lc), (4, 0), (5, 0)]] := if_pos h

/-- A change of the life cycle wipes, stores the keys it carries when the wipe has verified, takes the new state and clears the tamper latch. -/
theorem bodyLcSet_changes (c : Ctx) {ws : List Word} (s : State) (h : fld (wd ws 0) 31 16 = 0x4C43) {target : Nat}
    (ht : fld (wd ws 0) 1 0 = target) : ∃ (u : State) (r : List Word), bodyLcSet c ws s = u.ok c r ∧
    let keys := decide (target = 1 ∨ target = 2) && !(s.sec.wipeFail || s.fused.secureDefect)
    u.mram.lc = lcOf target ∧
    u.mram.hostKey = (if keys then some (keyOf ((ws.drop 1).take 8)) else none) ∧
    u.mram.sysKey = (if keys then some (keyOf ((ws.drop 9).take 8)) else none) ∧
    u.mram.bootEpoch = 0 ∧ u.sesKeys = [] ∧ u.axg.replay = [] ∧ u.tamper.latched = false ∧
    u.sec.fuse = (s.sec.fuse || decide (lcOf target = .decommissioned)) := by
  subst ht
  refine ⟨_, _, if_neg (not_not_intro h), ?_⟩
  dsimp only
  split <;> rename_i hk
  · have hk' : (decide (fld (wd ws 0) 1 0 = 1 ∨ fld (wd ws 0) 1 0 = 2) && !(s.sec.wipeFail || s.fused.secureDefect)) = true := hk
    rw [if_pos hk', if_pos hk']
    exact ⟨rfl, rfl, rfl, rfl, rfl, rfl, rfl, rfl⟩
  · have hk' : ¬ (decide (fld (wd ws 0) 1 0 = 1 ∨ fld (wd ws 0) 1 0 = 2) && !(s.sec.wipeFail || s.fused.secureDefect)) = true := hk
    rw [if_neg hk', if_neg hk']
    exact ⟨rfl, rfl, rfl, rfl, rfl, rfl, rfl, rfl⟩

/-- An accepted SEC.LC_SET completes with the reply of the change. -/
theorem secLcSet_changes {s : State} {p : Pkt} (h : s.accepts 0x0F00 lenLcSet p = true) (hkey : fld (wd p.words 0) 31 16 = 0x4C43)
    {target : Nat} (ht : fld (wd p.words 0) 1 0 = target) : Completes (.secLcSet p) s (fun t =>
      let keys := decide (target = 1 ∨ target = 2) && !(s.sec.wipeFail || s.fused.secureDefect)
      t.mram.lc = lcOf target ∧
      t.mram.hostKey = (if keys then some (keyOf ((p.words.drop 1).take 8)) else none) ∧
      t.mram.sysKey = (if keys then some (keyOf ((p.words.drop 9).take 8)) else none) ∧
      t.mram.bootEpoch = 0 ∧ t.sesKeys = [] ∧ t.axg.replay = [] ∧ t.tamper.latched = false ∧
      t.sec.fuse = (s.sec.fuse || decide (lcOf target = .decommissioned))) := by
  obtain ⟨u, r, hbody, hu⟩ := bodyLcSet_changes (s.ctxOf 0x0F00 p) (s.accepted 0x0F00 p) hkey ht
  exact ⟨_, answers_of_body rfl h hbody, by simpa using hu⟩

/-- A scan enable is accepted in MANUFACTURE and PROVISIONED alone (R566). -/
theorem State.accepts_scanEnable {s : State} {p : Pkt} (h : s.accepts 0x0F05 (lenIs 0) p = true) :
    s.mram.lc = .manufacture ∨ s.mram.lc = .provisioned := by
  simp only [State.accepts, Bool.and_eq_true, Option.isNone_iff_eq_none, and_assoc] at h
  obtain ⟨-, -, -, -, -, -, -, -, -, hlc, -⟩ := h
  rw [segAuth_frame] at hlc
  cases hc : s.mram.lc <;> simp [State.lcCheck, hc] at hlc ⊢

/-- A scan enable replies, then wipes, leaves PROVISIONED and arms scan when the wipe verifies. -/
theorem bodyScanEnable_eq (c : Ctx) (ws : List Word) {s u : State}
    (hu : s.ok c [pack [(0, 0), (7, (!(s.sec.wipeFail || s.fused.secureDefect)).toNat)]] = u) : ∃ (cru : Cru) (sec : Sec),
    bodyScanEnable c ws s = { u.wipe with
      mram := { u.wipe.mram with lc := if u.mram.lc = .provisioned then .manufacture else u.mram.lc }
      cru := cru
      sec := sec } ∧ sec.scanArmed = !(s.sec.wipeFail || s.fused.secureDefect) := by
  rw [bodyScanEnable]
  dsimp only
  rw [hu]
  by_cases hp : u.mram.lc = .provisioned
  · have hp' : u.wipe.mram.lc = .provisioned := hp
    rw [if_pos hp, if_pos hp']
    exact ⟨_, _, rfl, rfl⟩
  · have hp' : ¬ u.wipe.mram.lc = .provisioned := hp
    rw [if_neg hp, if_neg hp']
    exact ⟨_, _, rfl, rfl⟩

/-- An accepted scan enable leaves MANUFACTURE without keys, and scan armed when the wipe verifies. -/
theorem secScanEnable_arms {s : State} {p : Pkt} (h : s.accepts 0x0F05 (lenIs 0) p = true) : Completes (.secScanEnable p) s (fun t =>
    t.sec.scanArmed = (!s.sec.wipeFail && !s.fused.secureDefect) ∧ t.mram.hostKey = none ∧ t.mram.sysKey = none ∧ t.sesKeys = [] ∧
    t.mram.lc = .manufacture) := by
  obtain ⟨_, _, hbody, harmed⟩ := bodyScanEnable_eq (s := s.accepted 0x0F05 p) (s.ctxOf 0x0F05 p) p.words rfl
  refine ⟨_, congrArg Host.Outcome.next ((receive_accepted bodyScanEnable h).trans hbody), ?_, rfl, rfl, rfl, ?_⟩
  · rw [← Bool.not_or]
    simpa using harmed
  · obtain hlc | hlc := State.accepts_scanEnable h <;> simp [hlc]

/-- The words of SEC.LC_STATUS give the life-cycle state and BOOT_EPOCH. -/
theorem bodyLcStatus_answers (c : Ctx) (ws : List Word) (s : State) : ∃ r, bodyLcStatus c ws s = s.ok c r ∧ r.length = 2 ∧
    fld (wd r 0) 1 0 = lcCode s.mram.lc ∧ wd r 1 = w32 s.mram.bootEpoch := by
  refine ⟨_, rfl, rfl, ?_, rfl⟩
  have hlt : lcCode s.mram.lc < 4 := by cases s.mram.lc <;> decide
  simp only [wd, List.getD_cons_zero, fld_pack, List.map_cons, List.map_nil, List.sum_cons, List.sum_nil]
  omega

/-- The word of SEC.TAMPER_STATUS gives the causes of the two inputs and whether they were handled. -/
theorem bodyTamperStatus_answers (c : Ctx) (ws : List Word) (s : State) : ∃ r, bodyTamperStatus c ws s = s.ok c r ∧ r.length = 1 ∧
    bit (wd r 0) 0 = s.tamper.t0 ∧ bit (wd r 0) 1 = s.tamper.t1 ∧ bit (wd r 0) 5 = s.tamper.wiped := by
  refine ⟨_, rfl, rfl, ?_⟩
  simp only [wd, List.getD_cons_zero, bit_pack, List.map_cons, List.map_nil, List.sum_cons, List.sum_nil]
  have h0 := s.tamper.t0.toNat_le
  have h1 := s.tamper.t1.toNat_le
  have h2 := s.tamper.vbatLoss.toNat_le
  have h3 := s.tamper.vGlitch.toNat_le
  have h4 := s.tamper.cGlitch.toNat_le
  have h5 := s.tamper.wiped.toNat_le
  refine ⟨?_, ?_, ?_⟩ <;> rw [Bool.eq_iff_iff, decide_eq_true_iff, ← Bool.toNat_eq_one] <;> omega

/-- Settles O17: the body of each security command, in the state its acceptance gives. -/
theorem securityCommands : Obligations.SecurityCommands := by
  unfold Obligations.SecurityCommands
  refine ⟨fun s p h hhost hk hwipe hnew => ?_, fun s p h hwipe => ?_, fun s p h hkey hdef hwipe ht => ?_, fun s p h hkey ht => ?_,
    fun s p h hkey => ?_, fun s p h => secScanEnable_arms h, fun s p h => ?_, fun s p h => ?_⟩
  · refine answers_of_body rfl h ?_
    rw [bodyKeyLoad_host _ hhost hk (by simpa using hwipe) (by simpa using hnew), State.accepted_mram]
  · exact ⟨_, answers_of_body rfl h (bodyKeyLoad_wipeFail _ _ (by simpa using hwipe)), rfl⟩
  · obtain ⟨t, hrow, hlc, hhost, hsys, hboot, hses, hrpl, htam, -⟩ := secLcSet_changes h hkey ht
    refine ⟨t, hrow, hlc, ?_, ?_, hboot, hses, hrpl, htam⟩
    · simpa [hdef, hwipe] using hhost
    · simpa [hdef, hwipe] using hsys
  · obtain ⟨t, hrow, hlc, hhost, hsys, -, -, -, -, hfuse⟩ := secLcSet_changes h hkey ht
    exact ⟨t, hrow, hlc, hhost, hsys, by simpa [lcOf] using hfuse⟩
  · refine answers_of_body rfl h ?_
    rw [bodyLcSet_unkeyed _ _ hkey, State.accepted_mram]
  · obtain ⟨r, hbody, hr⟩ := bodyLcStatus_answers (s.ctxOf 0x0F01 p) p.words (s.accepted 0x0F01 p)
    exact ⟨r, answers_of_body rfl h hbody, by simpa using hr⟩
  · obtain ⟨r, hbody, hr⟩ := bodyTamperStatus_answers (s.ctxOf 0x0F04 p) p.words (s.accepted 0x0F04 p)
    exact ⟨r, answers_of_body rfl h hbody, by simpa using hr⟩

end Sys2Proof.Machine
end

section
/-! The energy ledger (chapter 15): the BELLOWS commands, windows, metering, the hold-up mean, and the admission of the head of the queue. -/

namespace Sys2Proof.Machine

open Sys2Proof

/-! ### The BELLOWS commands (R503-R506) -/

theorem bodyBudget_write (c : Ctx) {ws : List Word} (s : State) (hw : bit (wd ws 0) 31 = true) :
    let u := { s with led := { s.led with
      budget := clamp 1 100000 (fld (wd ws 1) 16 0), enable := bit (wd ws 1) 31, window := clamp 10 10000 (fld (wd ws 2) 13 0)
      test := s.led.test || decide (bit (wd ws 1) 31 ≠ s.led.enable) } }
    bodyBudget c ws s = u.ok c [pack [(31, 1)], pack [(0, u.led.budget), (31, u.led.enable.toNat)], w32 u.led.window] := by
  simp [bodyBudget, hw]

theorem bodyBudget_read (c : Ctx) {ws : List Word} (s : State) (hw : bit (wd ws 0) 31 = false) :
    bodyBudget c ws s = s.ok c [pack [(31, 0)], pack [(0, s.led.budget), (31, s.led.enable.toNat)], w32 s.led.window] := by
  simp [bodyBudget, hw]

/-- The hold-up values that BELLOWS.HOLDUP carries (R504). -/
def holdupArgs (ws : List Word) : HuCfg :=
  { en := bit (wd ws 0) 0, eff := clamp 50 100 (fld (wd ws 0) 14 8), cap := clamp 10 1000000 (fld (wd ws 1) 19 0)
    vmin := clamp 1000 60000 (fld (wd ws 2) 15 0), ratio := clamp 100 10000 (fld (wd ws 2) 29 16)
    load := min 50000 (fld (wd ws 3) 15 0), gaspPort := if fld (wd ws 3) 22 16 < 104 then fld (wd ws 3) 22 16 else 0x7F }

theorem bodyHoldup_write (c : Ctx) {ws : List Word} (s : State) (hw : bit (wd ws 0) 31 = true) : ∃ r, r.length = 4 ∧
    bodyHoldup c ws s = ({ s with
      led := { s.led with huNext := some (holdupArgs ws), huLow := s.led.huLow && (holdupArgs ws).en }
      alarms := { s.alarms with huLow := s.led.huLow && (holdupArgs ws).en } } : State).ok c r := by
  rw [bodyHoldup, hw]
  exact ⟨_, rfl, rfl⟩

theorem bodyHoldup_read (c : Ctx) {ws : List Word} (s : State) (hw : bit (wd ws 0) 31 = false) : ∃ r, r.length = 4 ∧
    bodyHoldup c ws s = ({ s with
      led := { s.led with huLow := s.led.huLow && s.led.hu.en }
      alarms := { s.alarms with huLow := s.led.huLow && s.led.hu.en } } : State).ok c r := by
  rw [bodyHoldup, hw]
  exact ⟨[_, _, _, _], rfl, rfl⟩

/-- Without WRITE nothing changes where HU_LOW stands only with HU_EN 1 and ALARM_N follows it. -/
theorem bodyHoldup_same (c : Ctx) {ws : List Word} {s : State} (hw : bit (wd ws 0) 31 = false) (ha : s.alarms.huLow = s.led.huLow)
    (hlow : s.led.huLow = true → s.led.hu.en = true) : ∃ r, r.length = 4 ∧ bodyHoldup c ws s = s.ok c r := by
  obtain ⟨r, hr, hbody⟩ := bodyHoldup_read c s hw
  have hkeep : (s.led.huLow && s.led.hu.en) = s.led.huLow := by
    cases h : s.led.huLow
    · rfl
    · rw [hlow h, Bool.and_true]
  have halarms : ({ s.alarms with huLow := s.led.huLow } : Alarms) = s.alarms := by rw [← ha]
  rw [hkeep, halarms] at hbody
  exact ⟨r, hr, hbody⟩

theorem gaspWords_length (g : Option Gasp) : (gaspWords g).length = 3 := by cases g <;> rfl

/-- BELLOWS.REPORT replies with the ledger as it stands, then returns the peaks to 0 with CLEAR. -/
theorem bodyReport_answers (c : Ctx) (ws : List Word) (s : State) : ∃ r, r.length = 10 + s.led.eRail.length + s.led.pPeak.length ∧
    wd r 1 = i32 s.led.credit ∧ wd r 3 = w32 s.led.eUsable ∧
    bodyReport c ws s = (if bit (wd ws 0) 0 then { s with led := { s.led with pPeak := List.replicate 8 0 } } else s).ok c r := by
  refine ⟨_, ?_, rfl, rfl, rfl⟩
  simp only [List.length_append, List.length_map, gaspWords_length, List.length_cons, List.length_nil]
  omega

theorem bodyCosts_answers (c : Ctx) (ws : List Word) (s : State) :
    ∃ r, bodyCosts c ws s = s.ok c r ∧ r.length = 25 ∧ wd r 0 = 12 := by
  refine ⟨_, rfl, ?_, rfl⟩
  rw [List.length_append, length_flatMap_const _ _ 2 (fun _ _ => rfl)]
  rfl

/-- Settles O25: the body of each BELLOWS command. -/
theorem ledgerCommands : Obligations.LedgerCommands := by
  unfold Obligations.LedgerCommands
  refine ⟨fun s p h hw => answers_of_body rfl h ?_, fun s p h hw => answers_of_body rfl h ?_, fun s p h hw => ?_,
    fun s p h hw ha hlow => ?_, fun s p h => ?_, fun s p h => ?_⟩
  · rw [bodyBudget_write _ _ hw, State.accepted_led]
  · rw [bodyBudget_read _ _ hw, State.accepted_led]
  · obtain ⟨r, hr, hbody⟩ := bodyHoldup_write (s.ctxOf 0x0A01 p) (s.accepted 0x0A01 p) hw
    rw [State.accepted_led, State.accepted_alarms] at hbody
    exact ⟨r, hr, answers_of_body rfl h hbody⟩
  · obtain ⟨r, hr, hbody⟩ := bodyHoldup_same (s := s.accepted 0x0A01 p) (s.ctxOf 0x0A01 p) hw (by simpa using ha) (by simpa using hlow)
    exact ⟨r, hr, answers_of_body rfl h hbody⟩
  · obtain ⟨r, hr, hcredit, husable, hbody⟩ := bodyReport_answers (s.ctxOf 0x0A02 p) p.words (s.accepted 0x0A02 p)
    rw [State.accepted_led] at hr hcredit husable hbody
    refine ⟨r, hr, hcredit, husable, fun hc => answers_of_body rfl h ?_, fun hc => answers_of_body rfl h ?_⟩
    · rw [hbody, if_neg (by simp [hc])]
    · rw [hbody, if_pos hc]
  · obtain ⟨r, hbody, hr⟩ := bodyCosts_answers (s.ctxOf 0x0A03 p) p.words (s.accepted 0x0A03 p)
    exact ⟨r, answers_of_body rfl h hbody, hr⟩

/-! ### Rows that act while the part runs -/

/-- A row that acts in RUN, in RUN and outside it. -/
theorem runRow {i : Instr} {s : State} {f : State → State} (hi : exec i s = .next (s.whileRunning f)) :
    (s.start.power = .run → exec i s = .next (f s)) ∧ (s.start.power ≠ .run → exec i s = .next s) :=
  ⟨fun h => hi.trans (congrArg _ (if_pos h)), fun h => hi.trans (congrArg _ (if_neg h))⟩

/-- Where it would change nothing, it changes nothing. -/
theorem runRow_same {i : Instr} {s : State} {f : State → State} (hi : exec i s = .next (s.whileRunning f)) (hf : f s = s) :
    exec i s = .next s := by
  rw [hi, State.whileRunning, hf, ite_self]

/-! ### The hold-up mean (R492-R494, R504) -/

/-- The values last written are those in force once they are taken. -/
theorem Led.takeHu_hu (l : Led) : l.takeHu.hu = l.hu := rfl

/-- What a mean at the pin leaves. -/
theorem holdupMean_eq (uv : Nat) (s : State) :
    let t := holdupMean uv s
    t.keeps s [.led, .alarms] ∧ t.led.huNext = none ∧ t.led.hu = s.led.hu ∧
    t.led.samples = min 1250000 uv :: s.led.samples.take 15 ∧
    t.led.vHu = (2 * t.led.samples.sum * s.led.hu.ratio + 100000 * t.led.samples.length) / (200000 * max 1 t.led.samples.length) ∧
    (t.led.covered = true ↔ s.led.hu.en = true ∧ t.led.enough = true) ∧
    (t.led.covered = true → t.led.huLow = false ∧ t.alarms.huLow = false) ∧ (t.led.covered = false → t.led.huLow = s.led.huLow) ∧
    t.led.test = (s.led.test || (t.led.covered && !s.led.covered)) ∧
    (t.led.covered = false → s.led.hu.en = true → t.led.uncovered = some (s.led.uncovered.getD s.clk.tick)) ∧
    t.led.waiting = s.led.waiting ∧ t.led.credit = s.led.credit := by
  refine ⟨fun q hq => ?_, rfl, rfl, rfl, rfl, Bool.and_eq_true_iff, fun h => ⟨if_pos h, if_pos h⟩, fun h => if_neg (ne_true_of_eq_false h), rfl,
    fun h he => if_pos ⟨he, h⟩, rfl, rfl⟩
  cases q <;> simp at hq <;> rfl

/-- After 1 s without COVERED the part raises HU_LOW with its record. -/
theorem huLowTimer_raises {s : State} {t0 : Nat} (hen : s.led.huEn = true) (hnext : s.led.huNext = none) (hcov : s.led.covered = false)
    (hlow : s.led.huLow = false) (hun : s.led.uncovered = some t0) (hdue : t0 + ticksPerSec ≤ s.clk.tick) :
    huLowTimer s = { s with
      led := { s.led with huLow := true }
      alarms := { s.alarms with huLow := true }
      cru := s.cru.arrive s.clk.tick (s.mkRec 0x0A01 0 2 (w32 s.led.vHu) (w32 s.led.eUsable) 0) } := by
  have hhu : s.led.hu.en = true := by simp [Led.hu, hnext, hen]
  have hwait : s.led.huDue s.clk.tick = true := by
    rw [Led.huDue, hun, Option.any_some]
    exact decide_eq_true hdue
  have hlog : huLowTimer s = ({ s with led := { s.led with huLow := true }, alarms := { s.alarms with huLow := true } } : State).log .mgmt
      0x0A01 0 (w32 s.led.vHu) (w32 s.led.eUsable) 0 := if_pos ⟨hen, hhu, hwait, hcov, hlow⟩
  have hsev : sevOf 0x0A01 = 2 := rfl
  rw [hlog, State.log_mgmt, hsev]
  rfl

theorem huLowTimer_waits {s : State} (h : s.led.huEn = false ∨ s.led.covered = true ∨ s.led.huLow = true ∨ s.led.uncovered = none) :
    huLowTimer s = s := by
  refine if_neg ?_
  rintro ⟨hen, -, hdue, hcov, hlow⟩
  simp [hen, hcov, hlow] at h
  simp [Led.huDue, h] at hdue

/-! ### Admission (R488-R491) -/

/-- The head of the queue is admitted when the ledger allows it, and charged its cost. -/
theorem State.admitHead_admits {s : State} {j : LedJob} {l : List LedJob} (hw : s.led.waiting = j :: l) (hmay : s.led.mayAdmit j.cost = true) :
    s.admitHead = some (j, { s with led := { s.led with
      waiting := l, credit := s.led.credit - j.cost, admitted := inc16 s.led.admitted } }) := by
  simp [State.admitHead, hw, hmay]

theorem State.admitHead_refuses {s : State} {j : LedJob} {l : List LedJob} (hw : s.led.waiting = j :: l) (hmay : s.led.mayAdmit j.cost = false) :
    s.admitHead = none := by
  simp [State.admitHead, hw, hmay]

/-- Nothing is admitted but the head of a queue that the ledger allows. -/
theorem State.admitHead_some {s t : State} {j : LedJob} (h : s.admitHead = some (j, t)) : ∃ l, s.led.waiting = j :: l ∧
    s.led.mayAdmit j.cost = true ∧ t = { s with led := { s.led with
      waiting := l, credit := s.led.credit - j.cost, admitted := inc16 s.led.admitted } } := by
  unfold State.admitHead at h
  split at h
  · cases h
  · split at h
    · cases h
      exact ⟨_, by assumption, by assumption, rfl⟩
    · cases h

/-- An enforced ledger admits what the credit covers, or what no budget covers at the full credit; a hold-up in use has to be covered. -/
theorem Led.mayAdmit_enforced {l : Led} {cost : Nat} (h : l.mayAdmit cost = true) (he : l.enable = true) :
    ((cost : Int) ≤ l.credit ∨ (1000 * l.budgetNow < cost ∧ l.credit = (1000 * l.budgetNow : Nat))) ∧ (l.huEn = true → l.covered = true) := by
  simp only [Led.mayAdmit, he, Bool.not_true, Bool.false_or, Bool.and_eq_true, Bool.or_eq_true, Bool.not_eq_true'] at h
  obtain ⟨hcredit, hcov⟩ := h
  constructor
  · split at hcredit
    · exact .inr ⟨by assumption, of_decide_eq_true hcredit⟩
    · exact .inl (of_decide_eq_true hcredit)
  · intro hen
    simpa [hen] using hcov

theorem State.mpiUp_of_up {s : State} (h : s.start.mpi = .up) : s.mpiUp = true := by simp [State.mpiUp, h]

/-- With no head to test, nothing is admitted. -/
theorem jobAdmitted_idle {s : State} (h : s.start.power ≠ .run ∨ s.led.test = false ∨ s.led.waiting = [] ∨ s.mpiUp = false) :
    jobAdmitted s = s := by
  unfold jobAdmitted
  split
  · rfl
  · rename_i hgo
    have hw : s.led.waiting = [] := by tauto
    rw [hw]

/-- The head that is tested, and what its admission begins, by its work. -/
theorem jobAdmitted_head {s : State} {j : LedJob} {l : List LedJob} (hrun : s.start.power = .run) (hup : s.start.mpi = .up)
    (htest : s.led.test = true) (hw : s.led.waiting = j :: l) {k : State → State}
    (hk : (j.what = .bgRegion ∧ k = State.startRegion) ∨ (j.what = .flush ∧ k = State.commandFlush) ∨
      (∃ slot, j.what = .bootSlot slot ∧ k = fun t => t.writeAdmitted (.bootSlot slot)) ∨
      (∃ cmd, j.what = .calCommit cmd ∧ k = fun t => t.commitAdmitted cmd)) :
    jobAdmitted s = match s.admitHead with | some (_, t) => k t | none => { s with led := { s.led with test := false } } := by
  have hgo : ¬ (s.start.power ≠ .run ∨ s.mpiUp = false ∨ s.led.test = false) := by simp [hrun, State.mpiUp_of_up hup, htest]
  rw [jobAdmitted, if_neg hgo, hw]
  dsimp only
  obtain ⟨hwhat, rfl⟩ | ⟨hwhat, rfl⟩ | ⟨_, hwhat, rfl⟩ | ⟨_, hwhat, rfl⟩ := hk <;> rw [hwhat] <;> rfl

/-- Settles O26: each row of the ledger. -/
theorem ledgerEvents : Obligations.LedgerEvents := by
  unfold Obligations.LedgerEvents
  refine ⟨fun s hrun hend => ?_, fun s hend => runRow_same (f := windowBoundary) rfl (if_pos hend), fun s rails hrun hmul hnew => ?_,
    fun s rails h => runRow_same (f := meterInterval rails) rfl (if_pos h), fun s uv hrun => ?_,
    fun s t0 hrun hen hnext hcov hlow hun hdue => ?_, fun s h => runRow_same (f := huLowTimer) rfl (huLowTimer_waits h),
    fun s j l hrun hup htest hw hmay hwhat => ?_, fun s c l slot hrun hup htest hw hmay => ?_,
    fun s c l cmd hrun hup htest hcommit hw hmay => ?_, fun s h => congrArg _ (jobAdmitted_idle (.inr h)), fun s hrun => ?_,
    fun l s t j hl hadmit hen => ?_⟩
  · exact ((runRow (f := windowBoundary) rfl).1 hrun).trans (congrArg _ (if_neg (by omega)))
  · exact ((runRow (f := meterInterval rails) rfl).1 hrun).trans (congrArg _ (if_neg (by omega)))
  · exact ⟨_, (runRow (f := holdupMean uv) rfl).1 hrun, holdupMean_eq uv s⟩
  · refine ⟨_, ((runRow (f := huLowTimer) rfl).1 hrun).trans (congrArg _ (huLowTimer_raises hen hnext hcov hlow hun hdue)), rfl, rfl, ?_, rfl,
      fun q hq => ?_⟩
    · simp [State.alarmLow]
    · cases q <;> simp at hq <;> rfl
  · have hnone := State.admitHead_refuses hw hmay
    obtain hwhat | hwhat := hwhat
    · exact congrArg _ ((jobAdmitted_head hrun hup htest hw (.inl ⟨hwhat, rfl⟩)).trans (by rw [hnone]))
    · exact congrArg _ ((jobAdmitted_head hrun hup htest hw (.inr (.inl ⟨hwhat, rfl⟩))).trans (by rw [hnone]))
  · refine congrArg Host.Outcome.next ((jobAdmitted_head hrun hup htest hw (.inr (.inr (.inl ⟨slot, rfl, rfl⟩)))).trans ?_)
    rw [State.admitHead_admits hw hmay]
    rfl
  · have hrow := jobAdmitted_head hrun hup htest hw (.inr (.inr (.inr ⟨cmd, rfl, rfl⟩)))
    rw [State.admitHead_admits hw hmay] at hrow
    dsimp only at hrow
    rw [State.commitAdmitted, if_neg (by simp [hcommit])] at hrow
    refine ⟨_, congrArg Host.Outcome.next hrow, rfl, rfl, rfl, fun q hq => ?_⟩
    cases q <;> simp at hq <;> rfl
  · exact ⟨congrArg _ (jobAdmitted_idle (.inl hrun)), (runRow (f := windowBoundary) rfl).2 hrun, (runRow (f := huLowTimer) rfl).2 hrun,
      fun l => (runRow (f := meterInterval l) rfl).2 hrun, fun n => (runRow (f := holdupMean n) rfl).2 hrun⟩
  · subst hl
    obtain ⟨l, hw, hmay, rfl⟩ := State.admitHead_some hadmit
    obtain ⟨hcredit, hcov⟩ := Led.mayAdmit_enforced hmay hen
    refine ⟨hcredit, hcov, rfl, hw, fun q hq => ?_⟩
    cases q <;> simp at hq <;> rfl

end Sys2Proof.Machine
end

section
/-! The event record (chapter 17): what taking in a record changes, the CRUCIBLE commands, the ring's step, and a flush from its start to its
trailer. -/

namespace Sys2Proof.Machine

open Sys2Proof

/-! ### The intake (R539-R541) -/

/-- What taking in a record can change: the FIFO, the counts of records that stand in it, in the ring and in the latch, and the losses. -/
def Cru.Fed (d c : Cru) : Prop :=
  ∃ fifo ring latch recent lossRec lossCount lossLastNs, d = { c with
    fifo := fifo, ring := ring, latch := latch, recent := recent, lossRec := lossRec, lossCount := lossCount, lossLastNs := lossLastNs }

theorem Cru.Fed.refl (c : Cru) : c.Fed c := ⟨_, _, _, _, _, _, _, rfl⟩

theorem Cru.Fed.trans {c d e : Cru} (h : e.Fed d) (k : d.Fed c) : e.Fed c := by
  obtain ⟨_, _, _, _, _, _, _, rfl⟩ := k
  obtain ⟨_, _, _, _, _, _, _, rfl⟩ := h
  exact ⟨_, _, _, _, _, _, _, rfl⟩

theorem Cru.bump_fed (c : Cru) (code source : Nat) : (c.bump code source).Fed c := by
  unfold Cru.bump
  split <;> exact ⟨_, _, _, _, _, _, _, rfl⟩

theorem Cru.arrive_fed (c : Cru) (tick : Nat) (r : Rec) : (c.arrive tick r).Fed c := by
  unfold Cru.arrive
  split
  · split
    · exact Cru.Fed.trans ⟨_, _, _, _, _, _, _, rfl⟩ (c.bump_fed _ _)
    · split <;> exact ⟨_, _, _, _, _, _, _, rfl⟩
  · split <;> exact ⟨_, _, _, _, _, _, _, rfl⟩

/-- A record that is not coalesced joins the FIFO while it has room. -/
theorem Cru.arrive_joins {c : Cru} (tick : Nat) {r : Rec} (hnew : c.recent.find? (fun e => decide (e.1 = r.code ∧ e.2.1 = r.source)) = none)
    (hroom : c.fifo.length < 256) :
    c.arrive tick r = { c with fifo := c.fifo ++ [r], recent := (r.code, r.source, 0, tick) :: c.recent.take 15 } := by
  rw [Cru.arrive, hnew]
  exact if_pos hroom

/-- A full FIFO drops it, and counts it. -/
theorem Cru.arrive_lost {c : Cru} (tick : Nat) {r : Rec} (hnew : c.recent.find? (fun e => decide (e.1 = r.code ∧ e.2.1 = r.source)) = none)
    (hfull : ¬ c.fifo.length < 256) : c.arrive tick r = { c with
      lossRec := if c.lossCount = 0 then r else c.lossRec, lossCount := inc32 c.lossCount, lossLastNs := timeNs r.time } := by
  rw [Cru.arrive, hnew]
  exact if_neg hfull

/-- An empty latch holds no record to count in. -/
theorem Cru.arrive_latch {c : Cru} (tick : Nat) (r : Rec) (h : c.latch = []) : (c.arrive tick r).latch = [] := by
  unfold Cru.arrive
  split
  · split
    · dsimp only
      unfold Cru.bump
      split
      · exact h
      · simp [h, bumpFirst]
    · split <;> exact h
  · split <;> exact h

/-- A plane's event feeds the record. -/
theorem State.queueEvent_fed (s : State) (pl : Plane) (r : Option Rec) : (s.queueEvent pl r).cru.Fed s.cru := by
  unfold State.queueEvent
  extract_lets take lost
  have htake (u : State) : (take u).cru.Fed u.cru := by
    cases r
    · exact .refl _
    · exact Cru.arrive_fed _ _ _
  have hlost (u : State) (was : Bool) (idx : Nat) : (lost u was idx).cru.Fed u.cru := by
    cases was
    · exact Cru.arrive_fed _ _ _
    · exact .refl _
  cases pl with
  | mgmt => exact htake s
  | timing =>
    dsimp only
    split
    · exact htake s
    split
    · exact htake { s with buf := { s.buf with mbxEvt := s.buf.mbxEvt ++ [r] } }
    · exact hlost { s with clk := { s.clk with mbxEvtLost := true }, buf := { s.buf with mbxEvtDrops := inc32 s.buf.mbxEvtDrops } } _ _
  | data =>
    dsimp only
    split
    · split
      · exact htake s
      · exact htake { s with buf := { s.buf with pqReg := s.buf.pqReg ++ [r] } }
    · exact hlost { s with clk := { s.clk with pqRegEvtLost := true } } _ _

theorem State.log_fed (s : State) (pl : Plane) (code source : Nat) (d5 d6 d7 : Word) : (s.log pl code source d5 d6 d7).cru.Fed s.cru :=
  s.queueEvent_fed _ _

/-! ### The CRUCIBLE commands (R550-R553) -/

theorem bodyCrucibleRead_answers (c : Ctx) (ws : List Word) (s : State) : ∃ r, bodyCrucibleRead c ws s = s.ok c r ∧
    (fld (wd ws 0) 1 0 = 0 → wd r 0 = w32 s.cru.total ∧
      wd r 1 = w32 (max (wd ws 1).toNat (oldestOf s.cru.total s.cru.base s.cru.ring.length))) := by
  refine ⟨_, rfl, fun h => ?_⟩
  rw [h]
  exact ⟨rfl, rfl⟩

theorem bodyCrucibleLatchRead_answers (c : Ctx) (ws : List Word) (s : State) : ∃ r, bodyCrucibleLatchRead c ws s = s.ok c r ∧
    (fld (wd ws 0) 1 0 = 0 → (s.cru.latchSt = .armed → wd r 1 = 0xFFFFFFFF) ∧ (s.cru.latchSt ≠ .armed → wd r 1 = w32 s.cru.latchFirst)) := by
  refine ⟨_, rfl, fun h => ?_⟩
  rw [h]
  exact ⟨fun ha => if_pos ha, fun ha => if_neg ha⟩

/-- With no loss to report, nothing enters for one. -/
theorem Cru.admitLost_none {c : Cru} (tick : Nat) (h : c.lossCount = 0) : c.admitLost tick = c := if_neg (by omega)

theorem Cru.clear_lossCount (c : Cru) (ring latch : Bool) : (c.clear ring latch).lossCount = c.lossCount := by
  cases ring <;> cases latch <;> rfl

/-- The record that CRUCIBLE.CLEAR writes after it has cleared. -/
def State.clearedRec (s : State) (w : Word) : Rec := s.mkRec 0x0B01 0 (sevOf 0x0B01) (pack [(0, fld w 1 0)]) (w32 s.cru.total) 0

/-- With no loss to report CRUCIBLE.CLEAR clears, writes its record and replies. -/
theorem bodyCrucibleClear_eq (c : Ctx) (ws : List Word) {s : State} (hloss : s.cru.lossCount = 0) :
    bodyCrucibleClear c ws s =
      ({ s with cru := (s.cru.clear (bit (wd ws 0) 0) (bit (wd ws 0) 1)).arrive s.clk.tick (s.clearedRec (wd ws 0)) } : State).ok c
        [pack [(0, fld (wd ws 0) 1 0)]] := by
  have hclear : (s.cru.clear (bit (wd ws 0) 0) (bit (wd ws 0) 1)).admitLost s.clk.tick = s.cru.clear (bit (wd ws 0) 0) (bit (wd ws 0) 1) :=
    Cru.admitLost_none _ ((s.cru.clear_lossCount _ _).trans hloss)
  rw [bodyCrucibleClear, hclear]
  rfl

/-- What a clear leaves once its record is in. -/
theorem Cru.clear_arrive (c : Cru) (ring latch : Bool) (tick : Nat) (r : Rec) :
    let d := (c.clear ring latch).arrive tick r
    d.total = c.total ∧ (ring = true → d.base = c.total ∧ d.fifo.length = 1 ∧ d.ring = c.ring) ∧ (ring = false → d.base = c.base) ∧
    (latch = true → d.latchSt = .armed ∧ d.latch = [] ∧ d.latchFlushDue = false) ∧ (latch = false → d.latchSt = c.latchSt) := by
  obtain ⟨_, _, _, _, _, _, _, hfed⟩ := Cru.arrive_fed (c.clear ring latch) tick r
  have hring (h : ring = true) : ((c.clear ring latch).arrive tick r).fifo.length = 1 ∧ ((c.clear ring latch).arrive tick r).ring = c.ring := by
    subst h
    rw [Cru.arrive_joins tick (by cases latch <;> rfl) (by cases latch <;> simp [Cru.clear])]
    cases latch <;> exact ⟨rfl, rfl⟩
  have hlatch (h : latch = true) : ((c.clear ring latch).arrive tick r).latch = [] := by
    subst h
    exact Cru.arrive_latch tick r (by cases ring <;> rfl)
  refine ⟨?_, fun h => ⟨?_, (hring h).1, (hring h).2⟩, fun h => ?_, fun h => ⟨?_, hlatch h, ?_⟩, fun h => ?_⟩ <;> rw [hfed] <;>
    cases ring <;> cases latch <;> trivial

theorem bodyCrucibleFlush_waits (c : Ctx) (ws : List Word) (s : State) :
    bodyCrucibleFlush c ws s = (s.hold c (.flush 0)).queueJob 11 3630 .flush := rfl

/-- Settles O27: the body of each CRUCIBLE command. -/
theorem recordCommands : Obligations.RecordCommands := by
  unfold Obligations.RecordCommands
  refine ⟨fun s p h => ?_, fun s p h => ?_, fun s p h => ?_, fun s p h hloss => ?_⟩
  · obtain ⟨r, hbody, hr⟩ := bodyCrucibleRead_answers (s.ctxOf 0x0B00 p) p.words (s.accepted 0x0B00 p)
    exact ⟨r, answers_of_body rfl h hbody, by simpa using hr⟩
  · obtain ⟨r, hbody, hr⟩ := bodyCrucibleLatchRead_answers (s.ctxOf 0x0B02 p) p.words (s.accepted 0x0B02 p)
    exact ⟨r, answers_of_body rfl h hbody, by simpa using hr⟩
  · exact congrArg Host.Outcome.next ((receive_accepted bodyCrucibleFlush h).trans (bodyCrucibleFlush_waits _ _ _))
  · have hbody := bodyCrucibleClear_eq (s.ctxOf 0x0B03 p) p.words (s := s.accepted 0x0B03 p) (by simpa using hloss)
    refine ⟨_, answers_of_body rfl h hbody, fun q hq => ?_, ?_⟩
    · cases q <;> simp at hq <;> rfl
    · simpa using Cru.clear_arrive s.cru (bit (wd p.words 0) 0) (bit (wd p.words 0) 1) s.clk.tick
        ((s.accepted 0x0B03 p).clearedRec (wd p.words 0))

/-! ### Arrival, the ring and the latch (R538, R542-R544) -/

/-- A listed record of the management plane reaches the intake while the part runs. -/
theorem recordArrival_mgmt {s : State} {code src : Nat} (a b c : Word) (hrun : s.start.power = .run) (hcode : recordCodes.contains code = true)
    (hsrc : src < 65536) : recordArrival .mgmt code src a b c s = { s with
      cru := s.cru.arrive s.clk.tick (s.mkRec code src (sevOfData code a) a b c) } := by
  have hmod : src % 2 ^ 16 = src := Nat.mod_eq_of_lt hsrc
  rw [recordArrival, if_pos ⟨hcode, hrun⟩, hmod]
  rfl

theorem recordArrival_ignored {s : State} (pl : Plane) {code : Nat} (src : Nat) (a b c : Word)
    (h : s.start.power ≠ .run ∨ recordCodes.contains code = false) : recordArrival pl code src a b c s = s := by
  refine if_neg ?_
  rintro ⟨hcode, hrun⟩
  rcases h with h | h
  · exact h hrun
  · exact Bool.noConfusion (hcode.symm.trans h)

/-- The ring stores the oldest record; a latch that this fills starts its flush. -/
theorem ringTake_stores {s : State} {r : Rec} {l : List Rec} {d : Cru} (hflush : s.cru.flushing = none) (htake : s.cru.nextTake ≤ s.clk.tick)
    (hfifo : s.cru.fifo = r :: l) (hd : ({ s.cru with fifo := l, nextTake := s.clk.tick + 32 } : Cru).store s.clk.tick r = d)
    (hloss : d.lossCount = 0) (hfull : d.latchSt ≠ .full) : ringTake s = { s with cru := d } := by
  have hgo : ¬ (s.cru.flushing.isSome = true ∨ s.clk.tick < s.cru.nextTake) := by simp [hflush, htake]
  rw [ringTake, if_neg hgo, hfifo]
  dsimp only
  rw [hd, Cru.admitLost_none _ hloss]
  exact if_neg fun h => hfull h.1

/-- The ring takes the oldest record; an armed latch passes one that is no fault. -/
theorem ringTake_passes {s : State} {r : Rec} {l : List Rec} (hflush : s.cru.flushing = none) (htake : s.cru.nextTake ≤ s.clk.tick)
    (hfifo : s.cru.fifo = r :: l) (hloss : s.cru.lossCount = 0) (harmed : s.cru.latchSt = .armed) (hsev : r.sev ≠ 3) :
    ringTake s = { s with cru := { s.cru with
      fifo := l, nextTake := s.clk.tick + 32, ring := r :: s.cru.ring.take 4095, total := (s.cru.total + 1) % 2 ^ 32 } } := by
  refine ringTake_stores hflush htake hfifo (if_neg (by simp [harmed, hsev])) hloss ?_
  simp [harmed]

/-- A fault starts the filling of an armed latch. -/
theorem ringTake_fills {s : State} {r : Rec} {l : List Rec} (hflush : s.cru.flushing = none) (htake : s.cru.nextTake ≤ s.clk.tick)
    (hfifo : s.cru.fifo = r :: l) (hloss : s.cru.lossCount = 0) (harmed : s.cru.latchSt = .armed) (hlatch : s.cru.latch = []) (hsev : r.sev = 3) :
    ringTake s = { s with cru := { s.cru with
      fifo := l, nextTake := s.clk.tick + 32, ring := { r with latched := true } :: s.cru.ring.take 4095
      total := (s.cru.total + 1) % 2 ^ 32, latch := [{ r with latched := true }], latchFirst := s.cru.total, latchSt := .filling
      latchFlushDue := true, latchTick := s.clk.tick } } := by
  refine ringTake_stores hflush htake hfifo ?_ hloss (by simp)
  simp [Cru.store, harmed, hsev, hlatch]

theorem ringTake_waits {s : State} (h : s.cru.flushing.isSome = true ∨ s.clk.tick < s.cru.nextTake ∨ s.cru.fifo = []) : ringTake s = s := by
  unfold ringTake
  split
  · rfl
  · have hfifo : s.cru.fifo = [] := by tauto
    rw [hfifo]

/-- 10 ms into a fill its flush starts, at the cost of 33 units. -/
theorem latchTimer_flushes {s : State} (hdue : s.cru.latchFlushDue = true) (htick : s.cru.latchTick + 12500000 ≤ s.clk.tick)
    (hup : s.start.mpi = .up) (hflush : s.cru.flushing = none) : ∃ img, (latchTimer s).cru.flushing = some img ∧
      (latchTimer s).cru.latchFlushDue = false ∧ (latchTimer s).led.credit = s.led.credit - 3630 ∧
      (latchTimer s).mram.flushSeq = nextFlushSeq s.mram.flushSeq := by
  have hon : ¬ ({ s with cru := { s.cru with latchFlushDue := false } } : State).mpiOn = false := by simp [State.mpiOn, hup]
  have hfault : latchTimer s = ({ s with cru := { s.cru with latchFlushDue := false } } : State).faultFlush := if_pos ⟨hdue, htick⟩
  rw [hfault, State.faultFlush, if_neg hon, if_neg (by simp [hflush])]
  exact ⟨_, rfl, rfl, rfl, rfl⟩

theorem latchTimer_waits {s : State} (h : s.cru.latchFlushDue = false ∨ s.clk.tick < s.cru.latchTick + 12500000) : latchTimer s = s := by
  refine if_neg ?_
  rintro ⟨hdue, htick⟩
  rcases h with h | h
  · exact Bool.noConfusion (hdue.symm.trans h)
  · omega

theorem nextFlushSeq_eq (q : Nat) :
    nextFlushSeq q = q % 256 + 1 + (if q % 256 = 255 then 1 else 0) - (if q % 256 = 255 then 256 else 0) := by
  unfold nextFlushSeq
  split <;> omega

/-! ### The end of a flush (R546, R549, R551) -/

/-- What completing a command keeps of a flush: the event record is at most fed, and a command that joins those in progress waits for its
partner's reply. -/
def FlushKept (t s : State) : Prop := t.cru.Fed s.cru ∧ ∀ j ∈ t.axg.jobs, j ∈ s.axg.jobs ∨ ∃ r, j.work = .mirror r

theorem FlushKept.trans {s t u : State} (h : FlushKept u t) (k : FlushKept t s) : FlushKept u s :=
  ⟨h.1.trans k.1, fun j hj => (h.2 j hj).elim (k.2 j) .inr⟩

theorem FlushKept.of_eq {s t : State} (hc : t.cru = s.cru) (hj : t.axg.jobs = s.axg.jobs) : FlushKept t s :=
  ⟨hc ▸ .refl _, fun _ h => .inl (hj ▸ h)⟩

theorem Replied.flushKept {s t : State} (h : Replied t s) : FlushKept t s := by
  obtain ⟨_, _, _, _, _, _, _, _, _, _, _, rfl, -, -, -⟩ := h
  exact .of_eq rfl rfl

theorem State.log_flushKept (s : State) (pl : Plane) (code source : Nat) (d5 d6 d7 : Word) : FlushKept (s.log pl code source d5 d6 d7) s :=
  ⟨s.log_fed _ _ _ _ _ _, fun _ h => .inl (by simpa using h)⟩

theorem State.mirrorDone_flushKept (s : State) (c : Ctx) (r pr : Rpl) : FlushKept (s.mirrorDone c r pr) s := by
  unfold State.mirrorDone
  extract_lets t
  have ht : FlushKept t s := (s.sendReply_replied c r).flushKept
  split
  · exact ht
  · exact (State.log_flushKept _ _ _ _ _ _ _).trans ((FlushKept.of_eq (s := t) rfl rfl).trans ht)

theorem State.complete_flushKept (s : State) (c : Ctx) (r : Rpl) : FlushKept (s.complete c r) s := by
  unfold State.complete
  split
  · exact .of_eq rfl rfl
  split
  · exact .of_eq rfl rfl
  split
  · split
    · exact (s.sendReply_replied c r).flushKept
    split
    · exact (State.mirrorDone_flushKept _ _ _ _).trans (.of_eq rfl rfl)
    · refine ⟨.refl _, fun j hj => ?_⟩
      rcases List.mem_append.mp hj with hj | hj
      · exact .inl hj
      · exact .inr ⟨r, by rw [List.mem_singleton.mp hj]⟩
  · exact (s.sendReply_replied c r).flushKept

/-- Commands that complete leave; no other work appears but waiting for a partner. -/
theorem State.completeWhere_flushKept (s : State) (f : Work → Option Rpl) : (s.completeWhere f).cru.Fed s.cru ∧
    ∀ j ∈ (s.completeWhere f).axg.jobs, f j.work = none ∨ ∃ r, j.work = .mirror r := by
  unfold State.completeWhere
  extract_lets done axg t
  have h : FlushKept (done.foldl (fun s d => s.complete d.1 d.2) t) t :=
    List.foldlRecOn done _ (motive := fun u => FlushKept u t) (.of_eq rfl rfl) fun u hu d _ => (u.complete_flushKept d.1 d.2).trans hu
  refine ⟨h.1, fun j hj => (h.2 j hj).imp_left fun hj => ?_⟩
  exact Option.isNone_iff_eq_none.mp (List.mem_filter.mp hj).2

/-- The part as the trailer is written: the image of the slot is complete, and the ring may take records again after 32 ticks. -/
def State.trailerWritten (s : State) (img : Image) : State :=
  { s with
    mram := { s.mram with images := Tab.insert s.mram.images s.cru.slot { img with complete := true } }
    cru := { s.cru with flushing := none, nextTake := s.clk.tick + 32 } }

/-- The reply to the commands that the flush served. -/
def State.flushReply (s : State) (img : Image) (w : Work) : Option Rpl :=
  if w = Work.flush 2 then some (okRpl [pack [(0, img.seq), (8, s.cru.slot)], w32 img.total]) else none

/-- With no other flush waiting, the end of one is its trailer and its replies. -/
theorem State.endFlush_last {s : State} {img : Image} (hflush : s.cru.flushing = some img) (hwait : s.cru.flushWait = []) :
    s.endFlush = (s.trailerWritten img).completeWhere (s.flushReply img) := by
  have hnone : ((s.trailerWritten img).completeWhere (s.flushReply img)).cru.flushWait = [] := by
    obtain ⟨⟨_, _, _, _, _, _, _, hfed⟩, -⟩ := (s.trailerWritten img).completeWhere_flushKept (s.flushReply img)
    rw [hfed]
    exact hwait
  rw [State.endFlush, hflush]
  change (match ((s.trailerWritten img).completeWhere (s.flushReply img)).cru.flushWait with | [] => _ | why :: t => _) = _
  rw [hnone]
  rfl

/-- When the trailer is written and no other flush waits, the image is complete and none runs. -/
theorem State.endFlush_completes {s : State} {img : Image} (hflush : s.cru.flushing = some img) (hwait : s.cru.flushWait = []) :
    let t := s.endFlush
    t.cru.flushing = none ∧ t.cru.nextTake = s.clk.tick + 32 ∧ Tab.find? t.mram.images s.cru.slot = some { img with complete := true } ∧
    (∀ j ∈ t.axg.jobs, j.work ≠ .flush 2) ∧ t.mem.bytes = s.mem.bytes := by
  obtain ⟨⟨_, _, _, _, _, _, _, hfed⟩, hjobs⟩ := (s.trailerWritten img).completeWhere_flushKept (s.flushReply img)
  obtain ⟨_, _, _, _, _, _, _, _, _, _, hkept⟩ := (s.trailerWritten img).completeWhere_completed (s.flushReply img)
  rw [State.endFlush_last hflush hwait]
  refine ⟨by rw [hfed]; rfl, by rw [hfed]; rfl, ?_, fun j hj hw => ?_, by rw [hkept]; rfl⟩
  · rw [hkept]
    exact Tab.find?_insert_self _ _ _
  · obtain h | ⟨r, h⟩ := hjobs j hj
    · simp [State.flushReply, hw] at h
    · rw [hw] at h
      cases h

/-- Settles O28: the intake, the ring's step, the latch timer and the end of a flush. -/
theorem recordIntake : Obligations.RecordIntake := by
  unfold Obligations.RecordIntake
  refine ⟨fun s code src a b c hrun hcode hsrc hnew hroom => ?_, fun s code src a b c hrun hcode hsrc hnew hfull => ?_,
    fun s pl code src a b c h => congrArg _ (recordArrival_ignored pl src a b c h),
    fun s r l hflush htake hfifo hloss harmed hsev => congrArg _ (ringTake_passes hflush htake hfifo hloss harmed hsev),
    fun s r l hflush htake hfifo hloss harmed hlatch hsev => ?_, fun s h => congrArg _ (ringTake_waits h),
    fun s hdue htick hup hflush => ?_, fun s h => congrArg _ (latchTimer_waits h), fun s img hflush hwait => ?_, fun s h => ?_⟩
  · refine ⟨_, congrArg Host.Outcome.next (recordArrival_mgmt a b c hrun hcode hsrc), fun q hq => ?_, s.mkRec code src (sevOfData code a) a b c, ?_⟩
    · cases q <;> simp at hq <;> rfl
    · rw [Cru.arrive_joins _ hnew hroom]
      exact ⟨rfl, rfl, rfl, rfl, rfl, rfl, rfl, rfl⟩
  · refine ⟨_, congrArg Host.Outcome.next (recordArrival_mgmt a b c hrun hcode hsrc), fun q hq => ?_, ?_⟩
    · cases q <;> simp at hq <;> rfl
    · rw [Cru.arrive_lost _ hnew (by omega)]
      exact ⟨rfl, rfl⟩
  · refine ⟨_, congrArg Host.Outcome.next (ringTake_fills hflush htake hfifo hloss harmed hlatch hsev), fun q hq => ?_, rfl, rfl, rfl, rfl, rfl⟩
    cases q <;> simp at hq <;> rfl
  · obtain ⟨img, himg, hoff, hcredit, hseq⟩ := latchTimer_flushes hdue htick hup hflush
    exact ⟨_, rfl, hoff, by rw [himg]; rfl, hcredit, hseq.trans (nextFlushSeq_eq _)⟩
  · exact ⟨_, rfl, State.endFlush_completes hflush hwait⟩
  · exact congrArg Host.Outcome.next (by rw [State.endFlush, h])

end Sys2Proof.Machine
end

section
/-! Background calibration (chapter 16): the CAL commands, the steps of items, commits, staleness and the round-robin. -/

namespace Sys2Proof.Machine

open Sys2Proof

/-! ### The CAL commands (R528-R532) -/

theorem bodyCalConfig_write (c : Ctx) {ws : List Word} (s : State) (hw : bit (wd ws 0) 31 = true) :
    let v := wd ws 0
    let q := { s.pal with
      rrEn := bit v 0, autoCommit := bit v 1, laneEn := bit v 4, convEn := bit v 5, hamEn := bit v 6, refinEn := bit v 7,
      stepGap := clamp 1 10000 (fld (wd ws 1) 13 0), commitDelta := clamp 1 255 (fld (wd ws 1) 23 16),
      staleAge := clamp 10 3600 (fld (wd ws 2) 11 0), staleTemp := clamp 1 20 (fld (wd ws 2) 20 16) }
    ∃ r, bodyCalConfig c ws s = ({ s with pal := q } : State).ok c r ∧ r.length = 3 := by
  rw [bodyCalConfig, hw]
  exact ⟨[_, _, _], rfl, rfl⟩

theorem bodyCalRun_rejected (c : Ctx) {ws : List Word} {s : State} (h : s.calEligible (min 245 (fld (wd ws 0) 8 0)) = false) :
    bodyCalRun c ws s = s.complete c { status := 0x0050, detail := 1, words := s.calEntry (min 245 (fld (wd ws 0) 8 0)) } := if_pos h

theorem bodyCalRun_waits (c : Ctx) {ws : List Word} {s : State} (h : s.calEligible (min 245 (fld (wd ws 0) 8 0)) = true)
    (hheld : s.passHeld (min 245 (fld (wd ws 0) 8 0)) = false) :
    bodyCalRun c ws s = (s.hold c (.calRun (min 245 (fld (wd ws 0) 8 0)))).queueCal (min 245 (fld (wd ws 0) 8 0)) 1 := by
  rw [bodyCalRun]
  dsimp only
  rw [if_neg (ne_false_of_eq_true h)]
  exact if_neg (ne_true_of_eq_false hheld)

/-- CAL.STATUS replies with four words and three for each item asked for. -/
theorem bodyCalStatus_answers (c : Ctx) (ws : List Word) (s : State) : ∃ r, bodyCalStatus c ws s = s.ok c r ∧
    r.length = 4 + 3 * min (fld (wd ws 0) 24 16) (246 - min 245 (fld (wd ws 0) 8 0)) ∧ wd r 1 = w32 s.pal.gen ∧ wd r 3 = i32 s.palK := by
  refine ⟨_, rfl, ?_, rfl, rfl⟩
  rw [List.length_append, length_flatMap_const _ _ 3 (fun _ _ => rfl), List.length_range]
  rfl

/-- CAL.CALREF stores its values; with no trace step in progress it does nothing else. -/
theorem bodyCalCalref_write (c : Ctx) {ws : List Word} {s : State} (hw : bit (wd ws 0) 31 = true)
    (hstep : s.pal.steps.find? (fun (x : CalStep) => decide (x.item = 245)) = none) : ∃ r, bodyCalCalref c ws s = ({ s with
      free := s.free + 1
      pal := { s.pal with
        calrefEn := bit (wd ws 0) 0, tauCab := min 10000000 (wd ws 1).toNat, uCab := fld (wd ws 2) 15 0 } } : State).ok c r ∧ r.length = 4 := by
  rw [bodyCalCalref, hw]
  dsimp only
  rw [if_pos rfl, hstep]
  exact ⟨[_, _, _, _], rfl, rfl⟩

/-- Settles O30: the body of each CAL command. -/
theorem calibrationCommands : Obligations.CalibrationCommands := by
  unfold Obligations.CalibrationCommands
  refine ⟨fun s p h hw => ?_, fun s p h hel => ?_, fun s p h => ?_, fun s p h => ?_, fun s p h hw hstep => ?_, fun s p h => ?_⟩
  · obtain ⟨r, hbody, hr⟩ := bodyCalConfig_write (s.ctxOf 0x0800 p) (s.accepted 0x0800 p) hw
    rw [State.accepted_pal] at hbody
    exact ⟨r, answers_of_body rfl h hbody, hr⟩
  · obtain ⟨l, ha⟩ := accepted_replay s p (op := 0x0801) rfl
    have hel' : (s.accepted 0x0801 p).calEligible (min 245 (fld (wd p.words 0) 8 0)) = false := by
      rw [ha]
      exact hel
    have hentry (i : Nat) : (s.accepted 0x0801 p).calEntry i = s.calEntry i := by
      rw [ha]
      rfl
    refine congrArg Host.Outcome.next ((receive_accepted bodyCalRun h).trans ?_)
    rw [bodyCalRun_rejected _ hel', hentry]
  · intro item hel hheld
    obtain ⟨l, ha⟩ := accepted_replay s p (op := 0x0801) rfl
    have hel' : (s.accepted 0x0801 p).calEligible item = true := by
      rw [ha]
      exact hel
    have hheld' : (s.accepted 0x0801 p).passHeld item = false := by
      rw [ha]
      exact hheld
    exact congrArg Host.Outcome.next ((receive_accepted bodyCalRun h).trans (bodyCalRun_waits _ hel' hheld'))
  · obtain ⟨r, hbody, hlen, hgen, hk⟩ := bodyCalStatus_answers (s.ctxOf 0x0802 p) p.words (s.accepted 0x0802 p)
    rw [State.accepted_pal] at hgen
    rw [State.palK, State.accepted_pal] at hk
    exact ⟨r, answers_of_body rfl h hbody, hlen, hgen, hk⟩
  · obtain ⟨r, hbody, hr⟩ := bodyCalCalref_write (s.ctxOf 0x0803 p) (s := s.accepted 0x0803 p) hw (by simpa using hstep)
    rw [State.accepted_pal, State.accepted_free] at hbody
    exact ⟨r, answers_of_body rfl h hbody, hr⟩
  · exact congrArg Host.Outcome.next (receive_accepted bodyCalCommit h)

/-! ### The end of a step (R509-R517) -/

/-- The state once a step has left the list with the die temperature it measured. -/
def State.stepEnded (s : State) (c : CalStep) (temp : Int) : State :=
  { s with pal := { s.pal with steps := s.pal.steps.erase c, dieTemp := temp } }

/-- A step ends where nothing holds it; what its command has lost ends without effect. -/
theorem calStepComplete_eq {s : State} {item : Nat} (m : CalMeas) {c : CalStep}
    (hc : s.pal.steps.find? (fun (c : CalStep) => decide (c.item = item)) = some c) (hfree : s.calBlocked item = false)
    (hplane : item < 192 ∨ s.tpUp = true) : calStepComplete item m s =
      if c.lost then s.stepEnded c m.temp
      else
        let u := s.stepEnded c m.temp
        let reason := if item < 192 ∧ u.calEligible item = false then 1 else State.calReason c m
        if reason ≠ 0 then ({ u with pal := { u.pal with near := Tab.erase u.pal.near item } }).calReject c reason
        else
          let v := if item = 245 then State.traceValue m u.pal.tauCab else State.calValue m u.palK
          match u.calPasses c m v with
          | (true, _) => u.calAccept c m v
          | (false, l) =>
            let near := if l = [] then Tab.erase u.pal.near item else Tab.insert u.pal.near item l
            ({ u with pal := { u.pal with near := near } }).calReject c 3 := by
  have hgo : ¬ (s.calBlocked item = true ∨ (192 ≤ item ∧ s.tpUp = false)) := by
    rintro (h | ⟨h, htp⟩)
    · exact Bool.noConfusion (hfree.symm.trans h)
    · rcases hplane with h' | h'
      · omega
      · exact Bool.noConfusion (htp.symm.trans h')
  rw [calStepComplete, hc]
  dsimp only
  rw [if_neg hgo]
  rfl

/-- The step found on an item is a step on that item. -/
theorem CalStep.item_of_find {l : List CalStep} {item : Nat} {c : CalStep}
    (hc : l.find? (fun (c : CalStep) => decide (c.item = item)) = some c) : c.item = item := by
  simpa using List.find?_some hc

/-- Without a step on the item, while its block is tested, and while its plane is out of service, nothing ends. -/
theorem calStepComplete_waits {s : State} {item : Nat} (m : CalMeas)
    (h : (∀ c ∈ s.pal.steps, c.item ≠ item) ∨ s.calBlocked item = true ∨ (192 ≤ item ∧ s.tpUp = false)) : calStepComplete item m s = s := by
  unfold calStepComplete
  split
  · rfl
  · rename_i c hc
    rcases h with h | h
    · exact absurd (CalStep.item_of_find hc) (h c (List.mem_of_find?_eq_some hc))
    · exact if_pos h

/-- A rejected step of the round-robin on an item other than the trace stores its reason and counts. -/
theorem State.calReject_counts (s : State) {c : CalStep} (reason : Nat) (hitem : c.item ≠ 245) (hrun : c.byRun = false) :
    s.calReject c reason = ({ s with pal := { s.pal with
      reasons := Tab.insert s.pal.reasons c.item reason
      rejects := Tab.insert s.pal.rejects c.item (satAdd 0xFFF ((Tab.find? s.pal.rejects c.item).getD 0) 1) } } : State).queueEvent .timing none := by
  rw [State.calReject]
  dsimp only
  rw [if_neg hitem, State.calReply, if_neg (ne_true_of_eq_false hrun)]

/-- A lane item that is no longer eligible is rejected for that. -/
theorem calStepComplete_ineligible {s : State} {item : Nat} {m : CalMeas} {c : CalStep}
    (hc : s.pal.steps.find? (fun (c : CalStep) => decide (c.item = item)) = some c) (hitem : item < 96) (hfree : s.calBlocked item = false)
    (hel : s.calEligible item = false) (hlost : c.lost = false) (hrun : c.byRun = false) : Completes (.calStepComplete item m) s (fun t =>
      t.pal.vals = s.pal.vals ∧ Tab.find? t.pal.reasons item = some 1 ∧ t.pal.steps = s.pal.steps.erase c ∧
      Tab.find? t.pal.rejects item = some (satAdd 0xFFF ((Tab.find? s.pal.rejects item).getD 0) 1) ∧ t.pal.dieTemp = m.temp ∧
      t.keeps s [.pal, .cru, .buf, .clk]) := by
  obtain rfl := CalStep.item_of_find hc
  have hel' : (s.stepEnded c m.temp).calEligible c.item = false := hel
  have hrow := calStepComplete_eq m hc hfree (.inl (by omega))
  dsimp only at hrow
  have hreason : (if c.item < 192 ∧ (s.stepEnded c m.temp).calEligible c.item = false then 1 else State.calReason c m) = 1 :=
    if_pos ⟨by omega, hel'⟩
  rw [if_neg (ne_true_of_eq_false hlost), hreason, if_pos (by decide), State.calReject_counts _ _ (by omega) hrun] at hrow
  obtain ⟨_, _, _, _, _, _, hq⟩ := State.queueEvent_logged ({ s.stepEnded c m.temp with pal := { (s.stepEnded c m.temp).pal with
    near := Tab.erase (s.stepEnded c m.temp).pal.near c.item, reasons := Tab.insert s.pal.reasons c.item 1
    rejects := Tab.insert s.pal.rejects c.item (satAdd 0xFFF ((Tab.find? s.pal.rejects c.item).getD 0) 1) } } : State) .timing none
  refine ⟨_, congrArg Host.Outcome.next (hrow.trans hq), rfl, Tab.find?_insert_self _ _ _, rfl, Tab.find?_insert_self _ _ _, rfl, fun q hq => ?_⟩
  cases q <;> simp at hq <;> rfl

/-- The first result of a lane item within its limits passes. -/
theorem State.calPasses_first {s : State} {c : CalStep} {m : CalMeas} {v : Int} (hitem : c.item ≠ 245) (hsd : m.sd ≤ 10000)
    (hfac : (v - Config.palFactory c.item c.rate).natAbs ≤ 300) (hnone : Tab.find? s.pal.vals (8 * c.item + c.rate) = none) :
    s.calPasses c m v = (true, []) := by
  have hlim : ¬ (300 < (v - Config.palFactory c.item c.rate).natAbs ∨ 10000 < m.sd) := by omega
  simp only [State.calPasses, hitem, decide_false, Bool.false_eq_true, if_false, hnone]
  exact if_neg hlim

/-- An accepted result of a step of the round-robin is the value in force. -/
theorem State.calAccept_stores (s : State) {c : CalStep} (m : CalMeas) (v : Int) (hitem : c.item ≠ 245) (hrun : c.byRun = false) :
    ∃ x, (s.calAccept c m v).pal.vals = Tab.insert s.pal.vals (8 * c.item + c.rate) x ∧ x.value = v ∧ x.temp = m.temp ∧ x.since = s.clk.tick ∧
      (s.calAccept c m v).pal.rejects = s.pal.rejects := by
  have hauto : ¬ (decide (c.item = 245) = true ∧ s.pal.autoCommit = true) := by simp [hitem]
  rw [State.calAccept, if_neg hauto, State.calReply, if_neg (ne_true_of_eq_false hrun)]
  exact ⟨_, rfl, rfl, rfl, rfl, rfl⟩

/-- The first result of an eligible lane item, within its limits, is stored. -/
theorem calStepComplete_first {s : State} {item : Nat} {m : CalMeas} {c : CalStep}
    (hc : s.pal.steps.find? (fun (c : CalStep) => decide (c.item = item)) = some c) (hitem : item < 96) (hfree : s.calBlocked item = false)
    (hel : s.calEligible item = true) (hlost : c.lost = false) (hrun : c.byRun = false) (hoff : m.off.natAbs ≤ 20000) (hsd : m.sd ≤ 10000)
    (hnone : Tab.find? s.pal.vals (8 * item + c.rate) = none)
    (hfac : (State.calValue m s.palK - Config.palFactory item c.rate).natAbs ≤ 300) : Completes (.calStepComplete item m) s (fun t =>
      (∃ v, Tab.find? t.pal.vals (8 * item + c.rate) = some v ∧ v.value = State.calValue m s.palK ∧ v.temp = m.temp ∧ v.since = s.clk.tick) ∧
      (∀ k, k ≠ 8 * item + c.rate → Tab.find? t.pal.vals k = Tab.find? s.pal.vals k) ∧ t.pal.rejects = s.pal.rejects) := by
  obtain rfl := CalStep.item_of_find hc
  have hinel : ¬ (c.item < 192 ∧ (s.stepEnded c m.temp).calEligible c.item = false) := by
    rintro ⟨-, h⟩
    exact Bool.noConfusion (hel.symm.trans h)
  have hreason : State.calReason c m = 0 := by
    have h245 : ¬ c.item = 245 := by omega
    have hfar : ¬ (c.item < 96 ∧ 20000 < m.off.natAbs) := by omega
    rw [State.calReason, if_neg h245, if_neg hfar]
  have hpass : (s.stepEnded c m.temp).calPasses c m (State.calValue m (s.stepEnded c m.temp).palK) = (true, []) :=
    State.calPasses_first (by omega) hsd hfac hnone
  have hrow := calStepComplete_eq m hc hfree (.inl (by omega))
  dsimp only at hrow
  rw [if_neg (ne_true_of_eq_false hlost), if_neg hinel, hreason, if_neg (by decide), if_neg (by omega), hpass] at hrow
  obtain ⟨x, hvals, hvalue, htemp, hsince, hrej⟩ :=
    (s.stepEnded c m.temp).calAccept_stores m (State.calValue m (s.stepEnded c m.temp).palK) (c := c) (by omega) hrun
  refine ⟨_, congrArg Host.Outcome.next hrow, ⟨x, ?_, hvalue, htemp, hsince⟩, fun k hk => ?_, hrej⟩
  · dsimp only
    rw [hvals]
    exact Tab.find?_insert_self _ _ _
  · dsimp only
    rw [hvals]
    exact Tab.find?_insert_ne _ _ hk

/-! ### Commits and staleness (R518, R524) -/

/-- The state once a commit's generation is in force and the command that asked for it has replied. -/
def State.commitReplied (s : State) (x : PalSlot) : State :=
  if s.pal.commitCmd then
    (s.writeCommit x).completeFirst (fun w => decide (w = .calCommit)) (okRpl [w32 x.gen, pack [(0, 1 - s.pal.slot)]])
  else s.writeCommit x

theorem State.commitReplied_completed (s : State) (x : PalSlot) : Completed (s.commitReplied x) (s.writeCommit x) := by
  unfold State.commitReplied
  split
  · exact State.completeFirst_completed _ _ _
  · exact .refl _

/-- A commit that completes, with no other waiting, leaves its generation in force in the other slot. -/
theorem calCommitComplete_ends {s : State} {x : PalSlot} (hx : s.pal.commit = some x) (hq : s.pal.commitQ = []) :
    let t := calCommitComplete s
    t.pal.gen = x.gen ∧ t.pal.slot = 1 - s.pal.slot ∧ t.pal.commit = none ∧ Tab.find? t.mram.palette (1 - s.pal.slot) = some x := by
  obtain ⟨_, _, _, _, _, _, _, _, _, _, hu⟩ := s.commitReplied_completed x
  have hnone : (s.commitReplied x).pal.commitQ = [] := by
    rw [hu]
    exact hq
  have hend : calCommitComplete s = s.commitReplied x := by
    rw [calCommitComplete, hx]
    change (match (s.commitReplied x).pal.commitQ with | [] => _ | b :: t => _) = _
    rw [hnone]
    rfl
  rw [hend, hu]
  exact ⟨rfl, rfl, rfl, Tab.find?_insert_self _ _ _⟩

/-- A value of more than STALE_AGE whole seconds, or taken more than STALE_TEMP away from the die temperature, is STALE. -/
theorem State.palStale_of {s : State} {v : PalVal} (h : s.pal.staleAge < s.palAge v ∨ 16 * s.pal.staleTemp < (s.pal.dieTemp - v.temp).natAbs) :
    s.palStale v = true := by
  have hold (h : s.pal.staleAge < s.palAge v) : s.pal.staleAge * ticksPerSec < s.clk.tick - v.since := by
    have hle : (s.pal.staleAge + 1) * ticksPerSec ≤ s.clk.tick - v.since := (Nat.le_div_iff_mul_le (by decide)).mp h
    have hpos : 0 < ticksPerSec := by decide
    rw [Nat.succ_mul] at hle
    omega
  simp only [State.palStale, Bool.or_eq_true, decide_eq_true_eq]
  exact h.elim (fun h => .inl (.inl (hold h))) .inr

/-! ### The round-robin (R512, R513) -/

/-- Deferring a pass changes its channel alone. -/
theorem State.deferPass_only (s : State) (item : Nat) : ∃ chans, s.deferPass item = { s with chans := chans } := ⟨_, rfl⟩

/-- The search for the next item changes channels alone, and what it finds is eligible. -/
theorem State.nextItem_spec (n from_ : Nat) (s : State) : ∃ chans, (State.nextItem from_ n s).2 = { s with chans := chans } ∧
    ∀ i, (State.nextItem from_ n s).1 = some i → i < 246 ∧ s.calEligible i = true := by
  induction n generalizing from_ s with
  | zero => exact ⟨_, rfl, fun i hi => by cases hi⟩
  | succ n ih =>
    unfold State.nextItem
    split
    · exact ⟨_, rfl, fun i hi => by cases hi⟩
    split
    · exact ih (from_ + 1) s
    split
    · obtain ⟨_, hs, hi⟩ := ih (from_ + 1) (s.deferPass from_)
      exact ⟨_, hs, hi⟩
    · rename_i hlt hel _
      refine ⟨_, rfl, fun i hi => ?_⟩
      cases hi
      exact ⟨by omega, by simpa using hel⟩

/-- The end of a cycle changes what no eligibility depends on. -/
theorem State.endCycle_calEligible (s : State) (i : Nat) : s.endCycle.calEligible i = s.calEligible i := by
  unfold State.endCycle
  dsimp only
  split <;> rfl

theorem State.endCycle_rrWaiting (s : State) : s.endCycle.pal.rrWaiting = s.pal.rrWaiting := by
  unfold State.endCycle
  dsimp only
  split <;> rfl

/-- Where the round-robin acts. -/
theorem calRoundRobin_acts {s : State} (hrun : s.start.power = .run) (hup : s.start.mpi = .up) (hdue : s.pal.rrDue ≤ s.clk.tick)
    (hen : s.pal.rrEn = true) (hwait : s.pal.rrWaiting = false) :
    ¬ (s.clk.tick < s.pal.rrDue ∨ s.pal.rrEn = false ∨ s.pal.rrWaiting = true ∨ s.mpiUp = false ∨ s.start.power ≠ .run) := by
  simp [hrun, State.mpiUp_of_up hup, hdue, hen, hwait]

/-- The step of the round-robin asks for the next eligible item or for none. -/
theorem calRoundRobin_asks {s : State} (hrun : s.start.power = .run) (hup : s.start.mpi = .up) (hdue : s.pal.rrDue ≤ s.clk.tick)
    (hen : s.pal.rrEn = true) (hwait : s.pal.rrWaiting = false) :
    let t := calRoundRobin s
    t.pal.rrWaiting = false ∨ (t.pal.rrWaiting = true ∧ t.pal.next < 246 ∧ s.calEligible t.pal.next = true) := by
  obtain ⟨_, hfirst, hfound⟩ := s.nextItem_spec (246 - s.pal.next) s.pal.next
  rw [calRoundRobin, if_neg (calRoundRobin_acts hrun hup hdue hen hwait)]
  rcases hn : State.nextItem s.pal.next (246 - s.pal.next) s with ⟨o, u⟩
  rw [hn] at hfirst hfound
  cases o with
  | some i =>
    obtain ⟨hi, hel⟩ := hfound i rfl
    exact .inr ⟨rfl, hi, hel⟩
  | none =>
    obtain ⟨_, hsecond, hfound⟩ := u.endCycle.nextItem_spec 246 0
    dsimp only
    rcases hn : State.nextItem 0 246 u.endCycle with ⟨o, v⟩
    rw [hn] at hsecond hfound
    cases o with
    | some i =>
      obtain ⟨hi, hel⟩ := hfound i rfl
      rw [State.endCycle_calEligible, show u = _ from hfirst] at hel
      exact .inr ⟨rfl, hi, hel⟩
    | none =>
      refine .inl ?_
      dsimp only
      rw [show v = _ from hsecond]
      exact (State.endCycle_rrWaiting u).trans (by rw [show u = _ from hfirst]; exact hwait)

/-- A lane item that is eligible at its turn is asked for. -/
theorem calRoundRobin_next {s : State} (hrun : s.start.power = .run) (hup : s.start.mpi = .up) (hdue : s.pal.rrDue ≤ s.clk.tick)
    (hen : s.pal.rrEn = true) (hwait : s.pal.rrWaiting = false) (hlane : s.pal.next < 192) (hel : s.calEligible s.pal.next = true) :
    calRoundRobin s = s.requestStep s.pal.next := by
  have hfree : s.passHeld s.pal.next = false := by
    rw [State.passHeld, decide_eq_false (by omega), Bool.false_and]
  have hn : State.nextItem s.pal.next (246 - s.pal.next) s = (some s.pal.next, s) := by
    obtain ⟨n, hn⟩ : ∃ n, 246 - s.pal.next = n + 1 := ⟨245 - s.pal.next, by omega⟩
    rw [hn, State.nextItem, if_neg (by omega), if_neg (ne_false_of_eq_true hel), if_neg (ne_true_of_eq_false hfree)]
  rw [calRoundRobin, if_neg (calRoundRobin_acts hrun hup hdue hen hwait), hn]

theorem calRoundRobin_waits {s : State} (h : s.pal.rrEn = false ∨ s.pal.rrWaiting = true ∨ s.clk.tick < s.pal.rrDue) : calRoundRobin s = s :=
  if_pos (by tauto)

/-- Settles O31: each row of the calibration. -/
theorem calibrationEvents : Obligations.CalibrationEvents := by
  unfold Obligations.CalibrationEvents
  refine ⟨fun s item m c hc hitem hfree hel hlost hrun => calStepComplete_ineligible hc hitem hfree hel hlost hrun,
    fun s item m c hc hfree hplane hlost => ?_,
    fun s item m c hc hitem hfree hel hlost hrun hoff hsd hnone hfac => calStepComplete_first hc hitem hfree hel hlost hrun hoff hsd hnone hfac,
    fun s item m h => congrArg _ (calStepComplete_waits m h), fun s x hx hq => ⟨_, rfl, calCommitComplete_ends hx hq⟩, fun s h => ?_,
    fun s temp => ⟨_, rfl, rfl, fun v h => State.palStale_of h⟩, fun s hrun hup hdue hen hwait => ⟨_, rfl, calRoundRobin_asks hrun hup hdue hen hwait⟩,
    fun s hrun hup hdue hen hwait hlane hel => congrArg _ (calRoundRobin_next hrun hup hdue hen hwait hlane hel),
    fun s h => congrArg _ (calRoundRobin_waits h)⟩
  · exact congrArg Host.Outcome.next ((calStepComplete_eq m hc hfree hplane).trans (if_pos hlost))
  · exact congrArg Host.Outcome.next (by rw [calCommitComplete, h])

end Sys2Proof.Machine
end

section
/-! Self-tests (R554-R565, R576-R578): the ANNEAL commands, a segment of the pass, and the hour count. -/

namespace Sys2Proof.Machine

open Sys2Proof

/-! ### The ANNEAL commands (R576-R578) -/

theorem bodyAnnealConfig_write (c : Ctx) {ws : List Word} (s : State) (hw : bit (wd ws 0) 31 = true) :
    bodyAnnealConfig c ws s = ({ s with mram := { s.mram with
      nextFull := bit (wd ws 0) 0, quickAge := min 8760 (fld (wd ws 1) 13 0) } } : State).ok c
        [pack [(31, 1), (0, (bit (wd ws 0) 0).toNat)], w32 (min 8760 (fld (wd ws 1) 13 0)), w32 s.mram.runH] := by
  simp [bodyAnnealConfig, hw]

theorem TestRec.reads_lt (r : TestRec) : r.reads < 4 := by
  unfold TestRec.reads
  repeat' split
  all_goals omega

theorem readsOf_lt (r : Option TestRec) : readsOf r < 4 := by
  cases r with
  | none => decide
  | some r => exact r.reads_lt

/-- The words of ANNEAL.RESULT for the pass, which lead with how its record reads, and the reply they make. -/
theorem bodyAnnealResult_pass (c : Ctx) {ws : List Word} (s : State) (hw : fld (wd ws 0) 1 0 = 0) : ∃ r, r.length = 8 ∧
    fld (wd r 0) 1 0 = readsOf s.mram.passRec ∧
    bodyAnnealResult c ws s = if readsOf s.mram.passRec = 3 then
      s.complete c { status := stIncomplete, detail := min 0xFFFF (s.mram.passRec.getD {}).completed, words := r } else s.ok c r := by
  have hlt := readsOf_lt s.mram.passRec
  rw [bodyAnnealResult, hw]
  refine ⟨[_, _, _, _, _, _, _, _], rfl, ?_, rfl⟩
  rw [wd, List.getD_cons_zero, fld_pack]
  simp only [List.map_cons, List.map_nil, List.sum_cons, List.sum_nil, Nat.min_zero, if_true]
  omega

/-- A command that waits for an anneal keeps no block from being idle. -/
theorem State.hold_anneal_blockIdle (s : State) (c : Ctx) (chan : Bool) (i : Nat) :
    (s.hold c (.anneal chan i)).blockIdle chan i = s.blockIdle chan i := by
  cases chan with
  | true => rfl
  | false =>
    have hjobs (p : Job → Bool) (hp : p { ctx := c, work := .anneal false i } = false) :
        (s.hold c (.anneal false i)).axg.jobs.any p = s.axg.jobs.any p := by
      simp [State.hold, hp]
    rw [State.blockIdle, hjobs _ rfl]
    rfl

/-- ANNEAL.BLOCK of an idle block without an anneal begins one, whose first segment waits for its job. -/
theorem bodyAnnealBlock_begins (c : Ctx) {ws : List Word} {s : State} {chan : Bool} (hchan : bit (wd ws 0) 0 = chan) {i : Nat}
    (hi : min (if chan then 27 else 95) (fld (wd ws 0) 14 8) = i) (hidle : s.blockIdle chan i = true) (hrun : s.blockRun chan i = none) :
    bodyAnnealBlock c ws s = (({ s.hold c (.anneal chan i) with sec := { s.sec with blocks := s.sec.blocks ++
      [{ chan := chan, index := i, expected := State.blockSegs chan, runH := s.mram.runH, epoch := s.mram.bootEpoch }] } } : State).queueJob
        9 2500 (.annealSeg chan i)) := by
  have hlen : (s.hold c (.anneal chan i)).axg.jobs.length = s.axg.jobs.length + 1 := by simp [State.hold]
  have hfind : ((s.hold c (.anneal chan i)).findJob (State.isAnneal chan i)).isSome = true := by
    simp [State.findJob, State.hold, State.isAnneal]
  have hbegin : ¬ (((s.hold c (.anneal chan i)).blockRun chan i).isSome = true ∨
      ((s.hold c (.anneal chan i)).findJob (State.isAnneal chan i)).isNone = true) := by
    rintro (h | h)
    · rw [show (s.hold c (.anneal chan i)).blockRun chan i = s.blockRun chan i from rfl, hrun] at h
      cases h
    · rw [Option.isNone_iff_eq_none.mp h] at hfind
      cases hfind
  have hidle' : (s.hold c (.anneal chan i)).blockIdle chan i = true := (s.hold_anneal_blockIdle c chan i).trans hidle
  rw [bodyAnnealBlock]
  dsimp only
  rw [hchan, hi, hlen, State.startBlock, if_neg hbegin]
  exact if_pos hidle'

/-! ### Segments of the pass, and the hours (R554-R556, R561) -/

/-- A segment of the pass that is not its last is charged and enters the record, which MRAM takes every 16 segments. -/
theorem State.testSegment_goes {s : State} (fail : Bool) (us : Nat) (hpass : s.sec.testing = some .pass)
    (hmore : s.sec.test.completed + 1 < s.sec.test.expected) : ∃ mram, s.testSegment fail us = { s with
      led := { s.led with credit := s.led.credit - 2500 }
      sec := { s.sec with test := { s.sec.test.segment s.mem.retired.isSome fail with duration := s.sec.test.duration + us } }
      mram := mram } := by
  have hlast : ¬ s.sec.test.completed + 1 = s.sec.test.expected := by omega
  rw [State.testSegment, hpass]
  dsimp only
  rw [if_neg (by exact hlast)]
  split <;> exact ⟨_, rfl⟩

/-- A segment of the pass that is not its last counts, as failed when it failed. -/
theorem testSegmentEnd_counts {s : State} (fail : Bool) (us : Nat) (hpass : s.sec.testing = some .pass)
    (hmore : s.sec.test.completed + 1 < s.sec.test.expected) (hmem : s.mem.retired = none) :
    let t := testSegmentEnd fail us s
    t.sec.testing = some .pass ∧ t.sec.test.completed = s.sec.test.completed + 1 ∧
    t.sec.test.nFail = s.sec.test.nFail + (if fail then 1 else 0) ∧ t.keeps s [.sec, .led, .mram] := by
  obtain ⟨mram, h⟩ := State.testSegment_goes fail us hpass hmore
  have hfail : (s.sec.test.segment s.mem.retired.isSome fail).nFail = s.sec.test.nFail + (if fail then 1 else 0) := by
    rw [hmem]
    cases fail <;> rfl
  have hon : (s.testSegment fail us).sec.testing.isSome = true := by rw [h]; simp [hpass]
  have hend : testSegmentEnd fail us s = s.testSegment fail us := by
    rw [testSegmentEnd, hpass]
    exact if_pos hon
  rw [hend, h]
  refine ⟨hpass, rfl, hfail, fun q hq => ?_⟩
  cases q <;> simp at hq <;> rfl

theorem runHourly_counts {s : State} (hrun : s.start.power = .run) (hhour : s.sec.hours < s.clk.tick / (45 * 10 ^ 11)) : runHourly s = { s with
    led := { s.led with credit := s.led.credit - 110 }, mram := { s.mram with runH := (s.mram.runH + 1) % 2 ^ 32 }, sec := { s.sec with hours := s.sec.hours + 1 } } :=
  if_pos ⟨decide_eq_true hrun, hhour⟩

theorem runHourly_waits {s : State} (h : s.start.power ≠ .run ∨ s.clk.tick / (45 * 10 ^ 11) ≤ s.sec.hours) : runHourly s = s := by
  refine if_neg ?_
  rintro ⟨hrun, hhour⟩
  rcases h with h | h
  · exact h (of_decide_eq_true hrun)
  · exact absurd hhour (by omega)

/-- Settles O32: the ANNEAL commands, a segment of the pass and the hour. -/
theorem annealRows : Obligations.AnnealRows := by
  unfold Obligations.AnnealRows
  refine ⟨fun s p h hw => answers_of_body rfl h ?_, fun s p h hwhich hread => ?_, fun s p x h hwhich hrec hread => ?_, fun s p h => ?_,
    fun s errors us hpass hmore hmem => ?_, fun s errors us hnone => ?_, fun s hrun hhour => congrArg _ (runHourly_counts hrun hhour),
    fun s h => congrArg _ (runHourly_waits h)⟩
  · rw [bodyAnnealConfig_write _ _ hw, State.accepted_mram]
  · obtain ⟨r, hlen, hfld, hbody⟩ := bodyAnnealResult_pass (s.ctxOf 0x0902 p) (s.accepted 0x0902 p) hwhich
    rw [State.accepted_mram] at hfld hbody
    exact ⟨r, answers_of_body rfl h (hbody.trans (if_neg hread)), hlen, hfld⟩
  · obtain ⟨r, hlen, -, hbody⟩ := bodyAnnealResult_pass (s.ctxOf 0x0902 p) (s.accepted 0x0902 p) hwhich
    rw [State.accepted_mram, hrec] at hbody
    exact ⟨r, congrArg Host.Outcome.next ((receive_accepted bodyAnnealResult h).trans (hbody.trans (if_pos hread))), hlen⟩
  · intro chan i hidle hrun
    obtain ⟨l, ha⟩ := accepted_replay s p (op := 0x0901) rfl
    have hbody := bodyAnnealBlock_begins (s.ctxOf 0x0901 p) (ws := p.words) (s := s.accepted 0x0901 p) (chan := chan) rfl (i := i) rfl
      (by rw [ha]; exact hidle) (by rw [ha]; exact hrun)
    refine ⟨_, congrArg Host.Outcome.next ((receive_accepted bodyAnnealBlock h).trans hbody), ?_⟩
    rw [ha]
    refine ⟨rfl, ⟨_, rfl, rfl, rfl, rfl, rfl, rfl⟩, rfl, rfl, fun q hq => ?_⟩
    cases q <;> simp at hq <;> rfl
  · obtain ⟨htest, hdone, hfail, hkeep⟩ := testSegmentEnd_counts (decide (0 < errors)) us hpass hmore hmem
    refine ⟨_, rfl, htest, hdone, ?_, hkeep⟩
    simpa using hfail
  · exact congrArg Host.Outcome.next (by rw [testSegmentEnd, hnone])

end Sys2Proof.Machine
end

section
/-! A frame that leaves (R230, R263, R286, R292, R448): the parts of the state that its stamp, its overlay and the messages that follow it can
change. The management plane's state, MRAM and the commands in progress are not among them. -/

namespace Sys2Proof.Machine

open Sys2Proof

/-- The parts that the end of a frame's transmission can change. -/
def Part.ofEgress : List Part := [.free, .out, .buf, .cnt, .ports, .ptp, .hier, .hst, .prun, .cru, .clk, .sesKeys, .rings]

/-- Beside these parts nothing changes. -/
def Egressed (t s : State) : Prop := t.keeps s Part.ofEgress

theorem Egressed.refl (s : State) : Egressed s s := State.keeps.refl s _

theorem Egressed.trans {s t u : State} (h : Egressed u t) (k : Egressed t s) : Egressed u s := State.keeps.trans h k

theorem Egressed.of_keeps {s t : State} {l : List Part} (h : t.keeps s l) (hl : l ⊆ Part.ofEgress) : Egressed t s := h.mono hl

theorem Egressed.foldl {α : Type} {f : State → α → State} (h : ∀ t x, Egressed (f t x) t) (l : List α) (s : State) : Egressed (l.foldl f s) s :=
  List.foldlRecOn l f (motive := fun u => Egressed u s) (.refl s) (fun t ht x _ => (h t x).trans ht)

/-- A choice between two changes changes no other part. -/
theorem Egressed.ite {c : Prop} [Decidable c] {s t u : State} (h : Egressed t s) (k : Egressed u s) : Egressed (if c then t else u) s := by
  split
  · exact h
  · exact k

theorem State.emit_egressed (s : State) (o : Output) : Egressed (s.emit o) s := fun q hq => by
  cases q <;> simp [Part.ofEgress] at hq <;> rfl

theorem State.with_buf_egressed (s : State) (b : Buf) : Egressed { s with buf := b } s := .of_keeps (s.with_buf_keeps b) (by decide)

theorem State.event_egressed (s : State) (ev inst q w : Nat) : Egressed (s.event ev inst q w) s := by
  unfold State.event
  split
  · exact .refl s
  · intro q hq
    cases q <;> simp [Part.ofEgress] at hq <;> rfl

theorem State.ev_egressed (s : State) (ev inst : Nat) : Egressed (s.ev ev inst) s := s.event_egressed ev inst 0 1

theorem State.modPort_egressed (s : State) (p : Nat) (f : Port → Port) : Egressed (s.modPort p f) s := .of_keeps (s.modPort_keeps p f) (by decide)

theorem State.modRun_egressed (s : State) (sid : Nat) (f : SesRun → SesRun) : Egressed (s.modRun sid f) s :=
  .of_keeps (s.modRun_keeps sid f) (by decide)

theorem State.log_egressed (s : State) (pl : Plane) (code source : Nat) (d5 d6 d7 : Word) : Egressed (s.log pl code source d5 d6 d7) s :=
  .of_keeps (s.log_logged pl code source d5 d6 d7).keeps (by decide)

theorem Counted.egressed {s t : State} (h : Counted t s) : Egressed t s := .of_keeps h.written.keeps (by decide)

theorem State.finish_egressed (s : State) (id cause : Nat) : Egressed (s.finish id cause) s := .of_keeps (s.finish_written id cause).keeps (by decide)

theorem State.cutShort_egressed (s : State) (c : Copy) (lo : Nat) : Egressed (s.cutShort c lo) s := .of_keeps (s.cutShort_ends c lo).keeps (by decide)

/-! ### The messages of a session (R286, R292, R463) -/

theorem State.twinSend_egressed (s : State) (kind : Nat) (ws : List Word) : Egressed (s.twinSend kind ws) s := by
  unfold State.twinSend State.twinSeq State.putTime
  dsimp only
  split <;> intro q hq <;> cases q <;> simp [Part.ofEgress] at hq <;> rfl

theorem State.syncSent_egressed (s : State) (sid seq tb : Nat) (st : Stamp) : Egressed (s.syncSent sid seq tb st) s :=
  .ite (s.twinSend_egressed _ _) (.refl s)

theorem State.iqTimePut_egressed {s t : State} {i : Ins} (h : s.iqTimePut i = some t) : Egressed t s := by
  unfold State.iqTimePut at h
  split at h
  · cases h
    exact s.with_buf_egressed _
  · cases h

theorem State.with_sesKeys_egressed (s : State) (k : Tab SesKey) : Egressed { s with sesKeys := k } s := fun q hq => by
  cases q <;> simp [Part.ofEgress] at hq <;> rfl

theorem State.setRing_egressed (s : State) (k : Nat) (r : Ring) : Egressed (s.setRing k r) s := fun q hq => by
  cases q <;> simp [Part.ofEgress] at hq <;> rfl

/-- The second of a pair that a step gives. -/
theorem Egressed.snd {α : Type} {s t : State} {p : α × State} {a : α} (hp : p = (a, t)) (h : Egressed p.2 s) : Egressed t s := by
  rw [hp] at h
  exact h

theorem State.sendMsg_egressed (s : State) (sid : Nat) (x : Session) (typ : Nat) (twoStep : Bool) (flags : Nat) (corr : Int) (seq : Nat)
    (logInt : Int) (body : List Byte) (mark : Mark) : Egressed (s.sendMsg sid x typ twoStep flags corr seq logInt body mark) s := by
  unfold State.sendMsg
  extract_lets sign key tlvLen head peer
  refine .ite (.refl s) (.ite (.ite (.refl s) ((State.log_egressed _ _ _ _ _ _ _).trans (s.modRun_egressed _ _))) ?_)
  split
  next msg u hu =>
  have hu : Egressed u s := by
    refine .snd hu ?_
    split
    · exact .refl s
    · exact s.with_sesKeys_egressed _
  split
  next hsr v hv =>
  have hv : Egressed v s := by
    refine .snd hv ?_
    split
    · split
      · exact (u.setRing_egressed _ _).trans hu
      · exact hu
    · exact hu
  extract_lets i
  refine .ite hv ?_
  split
  · next w hw => exact (w.modRun_egressed _ _).trans ((State.iqTimePut_egressed hw).trans hv)
  · exact (v.modRun_egressed _ _).trans hv

theorem State.msgStamped_egressed (s : State) (sid : Nat) (bs : List Byte) (st : Stamp) : Egressed (s.msgStamped sid bs st) s := by
  unfold State.msgStamped
  split
  · next x _ off _ _ =>
    extract_lets m t u t1
    have hu : Egressed u s := .ite (s.syncSent_egressed _ _ _ _) (.refl s)
    exact .ite ((u.sendMsg_egressed _ _ _ _ _ _ _ _ _ _).trans hu)
      (.ite ((u.modRun_egressed _ _).trans hu) (.ite ((u.sendMsg_egressed _ _ _ _ _ _ _ _ _ _).trans hu) hu))
  · exact .refl s

/-! ### The frame (R230, R260, R263) -/

theorem State.overlay_egressed (s : State) (mark : Mark) (rates : List Int) (egress : Nat) (bs : List Byte) (rx tx : Stamp) :
    Egressed (s.overlay mark rates egress bs rx tx).2 s := by
  unfold State.overlay
  split
  · exact .refl s
  · extract_lets m sat sign
    have hsat (b : Bool) (u : State) (hu : Egressed u s) : Egressed (sat b u) s := by
      cases b
      · exact hu
      · exact (State.ev_egressed _ _ _).trans ((u.modPort_egressed _ _).trans hu)
    split
    · split
      · exact hsat _ s (.refl s)
      · exact .refl s
    · exact hsat _ s (.refl s)
    · dsimp only
      split
      · exact hsat _ s (.refl s)
      · split
        · exact hsat _ s (.refl s)
        · exact (State.ev_egressed _ _ _).trans ((State.modPort_egressed _ _ _).trans (hsat _ s (.refl s)))
    · exact .refl s

theorem stampVerify_egressed (p : Nat) (c : Copy) (off : Option Int) (tx : Stamp) (s : State) : Egressed (stampVerify p c off tx s).2 s := by
  unfold stampVerify
  split
  · exact .refl s
  · split
    · exact .refl s
    · extract_lets u
      have hu : Egressed u s := (State.log_egressed _ _ _ _ _ _ _).trans ((State.ev_egressed _ _ _).trans (s.modPort_egressed _ _))
      dsimp only
      split
      · exact (u.modRun_egressed _ _).trans hu
      · exact hu

theorem State.probeSent_egressed (s : State) (seq : Nat) (st : Stamp) : Egressed (s.probeSent seq st) s := by
  unfold State.probeSent
  split
  · exact .refl s
  · intro q hq
    cases q <;> simp [Part.ofEgress] at hq <;> rfl

theorem State.insStamped_egressed (s : State) (i : Nat) (st : Option Stamp) : Egressed (s.insStamped i st) s := fun q hq => by
  cases q <;> simp [Part.ofEgress] at hq <;> rfl

theorem State.afterStamp_egressed (s : State) (c : Copy) (bs : List Byte) (tx : Stamp) : Egressed (s.afterStamp c bs tx) s := by
  unfold State.afterStamp
  extract_lets r u
  have hu : Egressed u s := by
    unfold u
    split
    · exact s.msgStamped_egressed _ _ _
    · exact s.msgStamped_egressed _ _ _
    · split
      · exact s.probeSent_egressed _ _
      · exact .refl s
    · exact .ite (.of_keeps (s.with_prun_keeps _) (by decide)) (.refl s)
    · exact .refl s
  split
  · exact (u.insStamped_egressed _ _).trans hu
  · exact hu

/-- The end of a frame's transmission. -/
theorem frameTxEnd_egressed (p : Nat) (off : Option Int) (s : State) : Egressed (frameTxEnd p off s) s := by
  unfold frameTxEnd
  split
  · exact .refl s
  split
  · exact .refl s
  refine .ite (.refl s) ?_
  extract_lets bs c
  split
  next bs' u hu =>
  have hu : Egressed u s := by
    refine .snd hu ?_
    split
    · split
      · exact .refl s
      · exact s.overlay_egressed _ _ _ _ _ _
    · exact .refl s
  extract_lets fcs v w
  have hv : Egressed v s := (State.txBand_counted _ _ _ _).egressed.trans ((u.emit_egressed _).trans hu)
  have hw : Egressed w s := (State.finish_egressed _ _ _).trans ((State.with_buf_egressed _ _).trans ((State.with_buf_egressed _ _).trans hv))
  split
  · split
    next tx' x hx => exact (x.afterStamp_egressed _ _ _).trans ((Egressed.snd hx (stampVerify_egressed _ _ _ _ _)).trans hw)
  · split
    · exact (w.insStamped_egressed _ _).trans hw
    · exact hw

end Sys2Proof.Machine
end

section
/-! The last gasp (R495-R505): what its steps leave of MRAM, and the part after it. -/

namespace Sys2Proof.Machine

open Sys2Proof

/-! ### Firmware writes cut off (R497, R596) -/

/-- A write into a firmware slot changes nothing but the bytes of the slots. -/
theorem State.setFwBytes_slots (s : State) (slot a : Nat) (bs : List Byte) :
    ∃ x y, s.setFwBytes slot a bs = { s with mram := { s.mram with fwA := x, fwB := y } } := by
  induction bs generalizing s a with
  | nil => exact ⟨_, _, rfl⟩
  | cons b t ih =>
    have hbyte : ∃ x y, s.setFwByte slot a b = { s with mram := { s.mram with fwA := x, fwB := y } } := by
      unfold State.setFwByte
      split
      · exact ⟨_, _, rfl⟩
      · split <;> exact ⟨_, _, rfl⟩
    obtain ⟨x, y, hb⟩ := hbyte
    obtain ⟨x', y', ht⟩ := ih (s.setFwByte slot a b) (a + 1)
    exact ⟨x', y', by rw [State.setFwBytes, ht, hb]⟩

theorem State.setBootGen_slots (s : State) (slot gen : Nat) :
    ∃ x y, s.setBootGen slot gen = { s with mram := { s.mram with fwA := x, fwB := y } } := by
  unfold State.setBootGen
  extract_lets t
  obtain ⟨x, y, ht⟩ : ∃ x y, t = { s with mram := { s.mram with fwA := x, fwB := y } } := s.setFwBytes_slots _ _ _
  obtain ⟨x', y', hu⟩ := t.setFwBytes_slots slot 60 (bytesLE 4 (crc32 (fwBytes (t.fwSlot slot) 0 60)))
  exact ⟨x', y', by rw [hu, ht]⟩

/-- A write cut off leaves the rest of MRAM as it was. -/
theorem State.tearWrites_slots (s : State) :
    ∃ free x y, s.tearWrites = { s with free := free, mem := { s.mem with writes := [] }, mram := { s.mram with fwA := x, fwB := y } } := by
  unfold State.tearWrites
  dsimp only
  split
  · split
    · obtain ⟨_, _, h⟩ := State.setFwBytes_slots _ _ _ _
      exact ⟨_, _, _, h⟩
    · exact ⟨_, _, _, rfl⟩
  · split
    · obtain ⟨_, _, h⟩ := State.setBootGen_slots _ _ _
      exact ⟨_, _, _, h⟩
    · exact ⟨_, _, _, rfl⟩
  · exact ⟨_, _, _, rfl⟩

/-! ### The pins over a completed command -/

/-- RESET_N and PFAIL_N stand as they were. -/
def PinsKept (t s : State) : Prop := t.start.resetN = s.start.resetN ∧ t.start.pfailN = s.start.pfailN

theorem PinsKept.trans {s t u : State} (h : PinsKept u t) (k : PinsKept t s) : PinsKept u s := ⟨h.1.trans k.1, h.2.trans k.2⟩

theorem PinsKept.of_start {s t : State} (h : t.start = s.start) : PinsKept t s := ⟨congrArg _ h, congrArg _ h⟩

theorem Replied.pinsKept {s t : State} (h : Replied t s) : PinsKept t s := by
  obtain ⟨_, _, _, _, _, _, _, _, _, _, _, rfl, hpins, -, -⟩ := h
  simp only [Prod.mk.injEq] at hpins
  obtain ⟨-, -, hreset, hpf, -⟩ := hpins
  exact ⟨hreset, hpf⟩

theorem State.mirrorDone_pinsKept (s : State) (c : Ctx) (r pr : Rpl) : PinsKept (s.mirrorDone c r pr) s := by
  unfold State.mirrorDone
  extract_lets t
  have ht : PinsKept t s := (s.sendReply_replied c r).pinsKept
  split
  · exact ht
  · exact (PinsKept.of_start (State.log_start _ _ _ _ _ _ _)).trans ht

theorem State.complete_pinsKept (s : State) (c : Ctx) (r : Rpl) : PinsKept (s.complete c r) s := by
  unfold State.complete
  split
  · exact .of_start rfl
  split
  · exact .of_start rfl
  split
  · split
    · exact (s.sendReply_replied c r).pinsKept
    split
    · exact (State.mirrorDone_pinsKept _ _ _ _).trans (.of_start rfl)
    · exact .of_start rfl
  · exact (s.sendReply_replied c r).pinsKept

theorem State.completeWhere_pinsKept (s : State) (f : Work → Option Rpl) : PinsKept (s.completeWhere f) s := by
  unfold State.completeWhere
  extract_lets done axg t
  exact List.foldlRecOn done _ (motive := fun u => PinsKept u s) (.of_start rfl) fun u hu d _ => (u.complete_pinsKept d.1 d.2).trans hu

/-! ### The summary in MRAM (R498) -/

/-- The pins and the summary of the last gasp stand as they were. -/
def SummaryKept (t s : State) : Prop :=
  PinsKept t s ∧ t.mram.gasp = s.mram.gasp ∧ t.mram.lgCount = s.mram.lgCount ∧ t.mram.gaspEnded = s.mram.gaspEnded

theorem SummaryKept.refl (s : State) : SummaryKept s s := ⟨.of_start rfl, rfl, rfl, rfl⟩

theorem SummaryKept.trans {s t u : State} (h : SummaryKept u t) (k : SummaryKept t s) : SummaryKept u s := by
  obtain ⟨h₁, h₂, h₃, h₄⟩ := h
  obtain ⟨k₁, k₂, k₃, k₄⟩ := k
  exact ⟨h₁.trans k₁, h₂.trans k₂, h₃.trans k₃, h₄.trans k₄⟩

theorem State.tearWrites_summaryKept (s : State) : SummaryKept s.tearWrites s := by
  obtain ⟨_, _, _, h⟩ := s.tearWrites_slots
  rw [h]
  exact .refl s

theorem State.tearFlush_summaryKept (s : State) : SummaryKept s.tearFlush s := by
  unfold State.tearFlush
  split <;> exact .refl s

theorem State.endFlush_summaryKept (s : State) : SummaryKept s.endFlush s := by
  unfold State.endFlush
  split
  · exact .refl s
  · extract_lets mram cru t rpl u
    have hu : SummaryKept u s := by
      have hmram : u.mram = t.mram := by
        obtain ⟨_, _, _, _, _, _, _, _, _, _, h⟩ := t.completeWhere_completed (fun w => if w = Work.flush 2 then some rpl else none)
        unfold u
        rw [h]
      exact ⟨t.completeWhere_pinsKept _, by rw [hmram], by rw [hmram], by rw [hmram]⟩
    split
    · exact hu
    · exact hu

/-- Step 3: the summary stands in MRAM and LG_COUNT has risen by one. -/
theorem State.gaspSave_summary (s : State) (g : Gasp) :
    PinsKept (s.gaspSave g) s ∧ (s.gaspSave g).mram.gasp = some g ∧
    (s.gaspSave g).mram.lgCount = inc16 s.mram.lgCount ∧ (s.gaspSave g).mram.gaspEnded = true := by
  unfold State.gaspSave
  extract_lets t dropped r mram cru u v
  obtain ⟨hpins, -, hcount, -⟩ : SummaryKept t s := (State.tearFlush_summaryKept _).trans s.tearWrites_summaryKept
  obtain ⟨kpins, kgasp, kcount, kended⟩ : SummaryKept v u := (State.endFlush_summaryKept _).trans (.refl u)
  have hv : PinsKept v s ∧ v.mram.gasp = some g ∧ v.mram.lgCount = inc16 s.mram.lgCount ∧ v.mram.gaspEnded = true :=
    ⟨kpins.trans hpins, kgasp, by rw [kcount, ← hcount], kended⟩
  split <;> exact hv

/-! ### Steps 1 and 2 (R497, R498) -/

/-- The parts that steps 1 and 2 can change. -/
def Part.ofShed : List Part := .axg :: .bypass :: Part.ofEgress

theorem State.closeNow_keeps (s : State) (cause b : Nat) : (s.closeNow cause b).keeps s [.bypass, .buf, .clk, .cru] := by
  unfold State.closeNow
  extract_lets x t
  split
  · exact .refl s _
  · exact (State.log_logged _ _ _ _ _ _ _).keeps.mono (by decide) |>.trans ((s.setPair_keeps _ _).mono (by decide))

theorem State.closeAll_keeps (s : State) (cause : Nat) (l : List Nat) : (l.foldl (fun s b => s.closeNow cause b) s).keeps s [.bypass, .buf, .clk, .cru] :=
  List.foldlRecOn l _ (motive := fun (u : State) => u.keeps s [.bypass, .buf, .clk, .cru]) (.refl s _) fun (t : State) ht b _ => (t.closeNow_keeps cause b).trans ht

theorem State.gaspEgress_egressed (s : State) (keep : List Nat) : Egressed (s.gaspEgress keep) s :=
  (Egressed.foldl (fun t c => t.cutShort_egressed c 0) _ _).trans (Egressed.foldl (fun t p => frameTxEnd_egressed p none t) _ _)

theorem State.gaspShed_keeps (s : State) (keep : List Nat) : (s.gaspShed keep).keeps s Part.ofShed := by
  refine ((State.closeAll_keeps _ 3 _).mono (by decide)).trans (((State.gaspEgress_egressed _ keep).mono (by decide)).trans ?_)
  intro q hq
  cases q <;> simp [Part.ofShed] at hq <;> rfl

theorem State.dyingReport_keeps (s : State) (ports : List Nat) : (s.dyingReport ports).keeps s [.out] := by
  unfold State.dyingReport
  split
  · exact .refl s _
  · split
    · exact .refl s _
    · intro q hq
      cases q <;> simp at hq <;> rfl

/-! ### The whole last gasp -/

/-- After the last gasp the part is PARKED, or held while RESET_N is low; with MPI in service MRAM has the summary. -/
theorem State.lastGasp_leaves (s : State) (pfail rail : Bool) (idx : Nat) :
    let t := s.lastGasp pfail rail idx
    t.start.power = (if s.start.resetN then .parked else .held) ∧ t.start.pfailN = s.start.pfailN ∧ t.axg.jobs = [] ∧
    t.alarms.parked = s.start.resetN ∧ (s.start.mpi = .down → t.mram = s.mram) ∧
    (s.start.mpi ≠ .down → t.mram.gasp = some (s.gaspNow pfail rail idx) ∧ t.mram.lgCount = inc16 s.mram.lgCount ∧ t.mram.gaspEnded = true) := by
  unfold State.lastGasp
  generalize s.gaspNow pfail rail idx = g
  generalize hu : s.gaspShed s.keepUp = u
  have hkeep : u.keeps s Part.ofShed := hu ▸ s.gaspShed_keeps s.keepUp
  have hstart : u.start = s.start := hkeep .start (by decide)
  have hmram : u.mram = s.mram := hkeep .mram (by decide)
  unfold State.gaspEnd
  extract_lets v
  have hsave : PinsKept v s ∧ (s.start.mpi = .down → v.mram = s.mram) ∧ (s.start.mpi ≠ .down →
      v.mram.gasp = some g ∧ v.mram.lgCount = inc16 s.mram.lgCount ∧ v.mram.gaspEnded = true) := by
    have hrep := State.dyingReport_keeps (if u.start.mpi = .down then u else u.gaspSave g) s.keepUp
    have hsame : v.start = _ ∧ v.mram = _ := ⟨hrep .start (by decide), hrep .mram (by decide)⟩
    obtain ⟨hvs, hvm⟩ := hsame
    rw [PinsKept, hvs, hvm, hstart]
    by_cases hdown : s.start.mpi = .down
    · rw [if_pos hdown]
      exact ⟨PinsKept.of_start hstart, fun _ => hmram, fun h => absurd hdown h⟩
    · rw [if_neg hdown]
      obtain ⟨h₁, h₂, h₃, h₄⟩ := u.gaspSave_summary g
      exact ⟨h₁.trans (.of_start hstart), fun h => absurd h hdown, fun _ => ⟨h₂, by rw [h₃, hmram], h₄⟩⟩
  obtain ⟨⟨hreset, hpf⟩, hdown, hup⟩ := hsave
  refine ⟨congrArg (fun b : Bool => if b then Power.parked else .held) hreset, hpf, rfl, ?_, hdown, hup⟩
  have hparked : decide ((if v.start.resetN then Power.parked else .held) = .parked) = s.start.resetN := by
    rw [hreset]
    cases s.start.resetN <;> rfl
  exact hparked

/-- Settles O12: each step of the last gasp leaves the summary of the step before, and the reset state after it keeps MRAM. -/
theorem lastGasp : Obligations.LastGasp := by
  unfold Obligations.LastGasp
  refine ⟨fun s hrun => ?_, fun s rail hrail hrun => ?_, fun s hrun => ?_, fun s rail hrun => ?_⟩
  · generalize hu : ({ s with start := { s.start with pfailN := false } } : State) = u
    have hrow : exec .pfailNLow s = .next (u.lastGasp true false 0) := hu ▸ congrArg Host.Outcome.next (if_pos hrun)
    obtain ⟨h₁, h₂, h₃, h₄, h₅, h₆⟩ := u.lastGasp_leaves true false 0
    subst hu
    exact ⟨_, hrow, h₁, h₂, h₃, h₄, h₅, h₆⟩
  · have hmod : rail % 8 = rail := Nat.mod_eq_of_lt hrail
    generalize hu : (if rail % 8 = 5 then (List.range 4).foldl (fun (s : State) b => s.closeNow 1 b) s else s) = u
    have hkeep : u.keeps s [.bypass, .buf, .clk, .cru] := by
      rw [← hu]
      split
      · exact s.closeAll_keeps 1 _
      · exact .refl s _
    have hrow : exec (.internalRailFault rail) s = .next (u.lastGasp false true rail) := by
      change Host.Outcome.next (onIdx 8 rail (railFault rail) s) = _
      rw [onIdx, if_pos hrail, railFault, if_neg (not_not.mpr hrun), hu, hmod]
    obtain ⟨h₁, -, h₂, h₃, h₄, h₅⟩ := u.lastGasp_leaves false true rail
    have hstart : u.start = s.start := hkeep .start (by decide)
    have hmram : u.mram = s.mram := hkeep .mram (by decide)
    have hnow : u.gaspNow false true rail = s.gaspNow false true rail := by
      have hled : u.led = s.led := hkeep .led (by decide)
      rw [State.gaspNow, hled, hmram]
      rfl
    rw [hstart] at h₁ h₃ h₄ h₅
    rw [hmram] at h₄ h₅
    rw [hnow] at h₅
    refine ⟨_, hrow, h₁, h₂, h₃, h₄, fun h => ?_⟩
    obtain ⟨hg, hc, -⟩ := h₅ h
    exact ⟨hg, hc⟩
  · exact congrArg Host.Outcome.next (if_neg hrun)
  · refine congrArg Host.Outcome.next ?_
    rw [onIdx]
    split
    · exact if_pos hrun
    · rfl

end Sys2Proof.Machine
end

section
/-! Stop and restart (R556, R574, R575, R637, R638): the two commands, the stop sequence with its anneal pass, and the restart of the part. -/

namespace Sys2Proof.Machine

open Sys2Proof

/-! ### The commands up to their replies -/

theorem bodyShutdown_stops (c : Ctx) (ws : List Word) (s : State) :
    let b := (s.charge 110).endBlocks
    let noPass := bit (wd ws 0) 0
    let next := bit (wd ws 0) 1
    let begun : TestRec := { expected := 316, runH := b.mram.runH, epoch := b.mram.bootEpoch }
    bodyShutdown c ws s = ({ b with
      mram := { b.mram with nextFull := b.mram.nextFull || next, passRec := if noPass then b.mram.passRec else some begun }
      start := { b.start with stop := some (.shutdown noPass) } } : State).ok c
        [pack [(0, noPass.toNat), (1, next.toNat)], w32 (if noPass then 0 else 316)] := by
  unfold bodyShutdown
  cases bit (wd ws 0) 0 <;> rfl

/-! ### The pass of the stop sequence (R555, R556) -/

/-- The record after segments that ended with these verdicts. -/
def TestRec.run (retired : Bool) (r : TestRec) (fails : List Bool) : TestRec := fails.foldl (fun r f => r.segment retired f) r

theorem TestRec.run_cons (retired : Bool) (r : TestRec) (f : Bool) (l : List Bool) :
    r.run retired (f :: l) = (r.segment retired f).run retired l := rfl

theorem TestRec.run_counts (retired : Bool) (r : TestRec) (fails : List Bool) :
    (r.run retired fails).completed = r.completed + fails.length ∧ (r.run retired fails).expected = r.expected := by
  induction fails generalizing r with
  | nil => exact ⟨rfl, rfl⟩
  | cons f l ih =>
    obtain ⟨hdone, hexp⟩ := ih (r.segment retired f)
    exact ⟨by rw [TestRec.run_cons, hdone, List.length_cons]; simp only [TestRec.segment]; omega, hexp⟩

/-- A pass whose segments all pass, on memory without a retired region, has no failure. -/
theorem TestRec.run_passes (r : TestRec) (n : Nat) : (r.run false (List.replicate n false)).nFail = r.nFail := by
  induction n generalizing r with
  | zero => rfl
  | succ n ih => rw [List.replicate_succ, TestRec.run_cons, ih]; rfl

theorem State.testSegments_cons (s : State) (f : Bool) (l : List Bool) : s.testSegments (f :: l) = (s.testSegment f 0).testSegments l := rfl

/-- Segments that leave the pass unfinished enter its record. -/
theorem State.testSegments_run {s : State} (fails : List Bool) (hpass : s.sec.testing = some .pass)
    (hmore : s.sec.test.completed + fails.length < s.sec.test.expected) :
    (s.testSegments fails).sec.testing = some .pass ∧ (s.testSegments fails).mem = s.mem ∧
    (s.testSegments fails).sec.test = s.sec.test.run s.mem.retired.isSome fails := by
  induction fails generalizing s with
  | nil => exact ⟨hpass, rfl, rfl⟩
  | cons f l ih =>
    rw [List.length_cons] at hmore
    obtain ⟨mram, hs⟩ := State.testSegment_goes f 0 hpass (by omega)
    have htest : (s.testSegment f 0).sec.test = s.sec.test.segment s.mem.retired.isSome f := by rw [hs]; rfl
    have hmem : (s.testSegment f 0).mem = s.mem := by rw [hs]
    have hlen : (s.testSegment f 0).sec.test.completed + l.length < (s.testSegment f 0).sec.test.expected := by
      rw [htest]
      change s.sec.test.completed + 1 + l.length < s.sec.test.expected
      omega
    obtain ⟨h₁, h₂, h₃⟩ := ih (s := s.testSegment f 0) (by rw [hs]; exact hpass) hlen
    rw [State.testSegments_cons, TestRec.run_cons]
    exact ⟨h₁, h₂.trans hmem, by rw [h₃, htest, hmem]⟩

/-- The last segment ends the pass with its final record. -/
theorem State.testSegment_ends {s : State} (f : Bool) (hpass : s.sec.testing = some .pass)
    (hlast : s.sec.test.completed + 1 = s.sec.test.expected) :
    (s.testSegment f 0).sec.testing = none ∧ (s.testSegment f 0).sec.test = (s.sec.test.segment s.mem.retired.isSome f).final := by
  rw [State.testSegment, hpass]
  dsimp only
  rw [if_pos (by exact hlast), State.annealRecord, State.logSev_sec]
  exact ⟨rfl, rfl⟩

/-- All the segments of the pass end it with the final record of its verdicts. -/
theorem State.testSegments_end {s : State} {fails : List Bool} (hfails : fails ≠ []) (hpass : s.sec.testing = some .pass)
    (hall : s.sec.test.completed + fails.length = s.sec.test.expected) : (s.testSegments fails).sec.testing = none ∧
    (s.testSegments fails).sec.test = (s.sec.test.run s.mem.retired.isSome fails).final := by
  obtain ⟨l, f, rfl⟩ : ∃ l f, fails = l ++ [f] := ⟨_, _, (List.dropLast_append_getLast hfails).symm⟩
  rw [List.length_append, List.length_singleton] at hall
  obtain ⟨hon, hmem, htest⟩ := State.testSegments_run l hpass (by omega)
  have hlast : (s.testSegments l).sec.test.completed + 1 = (s.testSegments l).sec.test.expected := by
    obtain ⟨hdone, hexp⟩ := s.sec.test.run_counts s.mem.retired.isSome l
    rw [htest, hdone, hexp]
    omega
  obtain ⟨hnone, hfinal⟩ := State.testSegment_ends f hon hlast
  have happ : s.testSegments (l ++ [f]) = (s.testSegments l).testSegment f 0 := List.foldl_append ..
  rw [happ]
  refine ⟨hnone, ?_⟩
  rw [hfinal, htest, hmem, TestRec.run, TestRec.run, List.foldl_append]
  rfl

/-- A final record reads PASS without a failure, and FAIL with one. -/
theorem TestRec.final_reads {r : TestRec} (h : r.completed = r.expected) : r.final.reads = if r.nFail = 0 then 1 else 2 := by
  unfold TestRec.final TestRec.reads
  by_cases hf : r.nFail = 0
  · simp [hf, h]
  · simp [hf]

/-! ### The stop sequence (R556) -/

theorem State.tearWrites_retired (s : State) : s.tearWrites.mem.retired = s.mem.retired := by
  obtain ⟨_, _, _, h⟩ := s.tearWrites_slots
  rw [h]

/-- The stop sequence before its pass: queues closed, ports DOWN, pairs closed, the record flushed, the timing plane in reset. -/
def State.stopQuiet (s : State) : State :=
  let s := (s.tearWrites).dropJobs (fun _ => true)
  let s := { s with axg := { s.axg with jobs := [] }, start := { s.start with stop := none, watchdog := false } }
  let s := (List.range 104).foldl (fun (s : State) p => s.forceDown p) s
  let s := (List.range 4).foldl (fun (s : State) b => bypassClosed b (s.startClose b 6)) s
  (s.faultFlush.endFlush.endFlush).tpLeave

theorem State.stopQuiet_retired (s : State) : s.stopQuiet.mem.retired = s.mem.retired := by
  have hclose (t : State) (b : Nat) : (bypassClosed b (t.startClose b 6)).mem = t.mem := by rw [bypassClosed_mem, State.startClose_mem]
  rw [State.stopQuiet, State.tpLeave_mem, State.endFlush_mem, State.endFlush_mem, State.faultFlush_mem, foldl_mem _ hclose,
    foldl_mem _ State.forceDown_mem]
  exact s.tearWrites_retired

/-- The pass of the stop sequence, up to its last segment and with its duration. -/
def State.stopPass (s : State) (fails : List Bool) (us : Nat) : State :=
  let s := (s.beginTest .pass).testSegments (fails.take 316)
  { s with sec := { s.sec with test := { s.sec.test with duration := us } } }

theorem State.stopPart_eq (s : State) (noPass : Bool) (fails : List Bool) (us : Nat) : s.stopPart noPass fails us =
    if noPass then s.stopQuiet.enterStopped
    else if (s.stopQuiet.stopPass fails us).sec.testing.isSome then s.stopQuiet.stopPass fails us
    else ((s.stopQuiet.stopPass fails us).writeTest .pass).enterStopped := by
  unfold State.stopPart State.stopQuiet State.stopPass
  rfl

/-- The state of a part that stops after its pass. -/
theorem State.stopPart_pass (s : State) {fails : List Bool} (us : Nat) (hlen : fails.length = 316) : ∃ (u : State) (r : TestRec),
    s.stopPart false fails us = u.enterStopped ∧ u.mram.passRec = some { r.final with duration := us } ∧ r.completed = 316 ∧ r.expected = 316 ∧
    (fails = List.replicate 316 false → s.mem.retired = none → r.nFail = 0) := by
  generalize hb : s.stopQuiet.beginTest .pass = b
  have htest : b.sec.testing = some .pass ∧ b.sec.test.completed = 0 ∧ b.sec.test.expected = 316 ∧ b.sec.test.nFail = 0 := by
    rw [← hb]
    exact ⟨rfl, rfl, rfl, rfl⟩
  obtain ⟨hpass, hzero, hexp, hnoFail⟩ := htest
  have hmem : b.mem.retired = s.mem.retired := by
    rw [← hb, State.beginTest_mem]
    exact s.stopQuiet_retired
  have hne : fails ≠ [] := by
    rintro rfl
    simp at hlen
  obtain ⟨hnone, hfinal⟩ := State.testSegments_end hne hpass (by rw [hzero, hlen, hexp])
  obtain ⟨hdone, hrange⟩ := b.sec.test.run_counts b.mem.retired.isSome fails
  generalize hrec : b.sec.test.run b.mem.retired.isSome fails = r at hfinal hdone hrange
  generalize hv : b.testSegments fails = v at hnone hfinal
  have hstop : s.stopPart false fails us =
      (({ v with sec := { v.sec with test := { v.sec.test with duration := us } } } : State).writeTest .pass).enterStopped := by
    have hend : s.stopQuiet.stopPass fails us = { v with sec := { v.sec with test := { v.sec.test with duration := us } } } := by
      rw [State.stopPass, hb, List.take_of_length_le (by omega), hv]
    rw [State.stopPart_eq, if_neg Bool.false_ne_true, hend]
    exact if_neg (by rw [hnone]; exact Bool.false_ne_true)
  refine ⟨_, r, hstop, ?_, by rw [hdone, hzero, hlen], by rw [hrange, hexp], fun hall hret => ?_⟩
  · rw [← hfinal]
    rfl
  · rw [← hrec, hmem, hret, hall]
    exact (TestRec.run_passes _ _).trans hnoFail

theorem shutdownReplyLeft_stops {s : State} (fails : List Bool) (us : Nat) {noPass : Bool} (hrun : s.start.power = .run)
    (hstop : s.start.stop = some (.shutdown noPass)) : shutdownReplyLeft fails us s = s.stopPart noPass fails us := by
  rw [shutdownReplyLeft, hstop]
  exact if_pos hrun

/-! ### The restart of the part (R638) -/

theorem State.tearAll_kept (s : State) : s.tearAll.clk = s.clk ∧ s.tearAll.start = s.start := by
  unfold State.tearAll
  split
  · obtain ⟨_, _, _, hw⟩ := s.tearWrites_slots
    obtain ⟨_, _, _, hf⟩ := s.tearWrites.tearFlush_frame
    have hcommit (t : State) : t.tearCommit.clk = t.clk ∧ t.tearCommit.start = t.start := by
      unfold State.tearCommit
      split <;> exact ⟨rfl, rfl⟩
    rw [(hcommit _).1, (hcommit _).2, hf, hw]
    exact ⟨rfl, rfl⟩
  · exact ⟨rfl, rfl⟩

/-- The part held in reset by a restart, its cause noted. -/
def State.restartHeld (s : State) : State :=
  let w := s.tearAll.inReset .waiting
  { w with start := { w.start with cause := 2 } }

theorem State.restartHeld_conditions (s : State) :
    s.restartHeld.clk.xoPresent = s.clk.xoPresent ∧ s.restartHeld.start.pfailN = s.start.pfailN := by
  obtain ⟨hclk, hstart⟩ := s.tearAll_kept
  have hxo : s.tearAll.clk.xoPresent = s.clk.xoPresent := by rw [hclk]
  have hpf : s.tearAll.start.pfailN = s.start.pfailN := by rw [hstart]
  exact ⟨hxo, hpf⟩

theorem restartReplyLeft_restarts {s : State} (m : StartMeas) (hrun : s.start.power = .run) (hstop : s.start.stop = some .restart) :
    restartReplyLeft m s =
      if s.clk.xoPresent = true ∧ s.start.pfailN = true then s.restartHeld.startUp 2 m else s.restartHeld := by
  obtain ⟨hxo, hpf⟩ := s.restartHeld_conditions
  rw [restartReplyLeft, hstop]
  dsimp only
  rw [if_neg (not_not.mpr hrun), ← hxo, ← hpf]
  rfl

/-- Settles O10: the pass of the stop sequence is a run of its record over the verdicts; every other step ends in a reset. -/
theorem stopAndRestart : Obligations.StopAndRestart := by
  unfold Obligations.StopAndRestart
  refine ⟨fun s p h => answers_of_body rfl h (bodyShutdown_stops _ _ _), fun s p h => answers_of_body rfl h rfl, fun s us fails hrun hstop => ?_,
    fun s us fails hrun hstop hlen => ?_, fun s m hrun hstop hcond => ?_, fun s m hrun hstop hxo hpf => ?_, fun s us fails m hnone => ?_⟩
  · exact ⟨_, congrArg Host.Outcome.next ((shutdownReplyLeft_stops fails us hrun hstop).trans ((s.stopPart_eq _ _ _).trans (if_pos rfl))), rfl, rfl, rfl, rfl⟩
  · obtain ⟨u, r, hend, hrec, hdone, hexp, hfail⟩ := s.stopPart_pass us hlen
    have hreads : ({ r.final with duration := us } : TestRec).reads = if r.nFail = 0 then 1 else 2 := TestRec.final_reads (hdone.trans hexp.symm)
    refine ⟨_, congrArg Host.Outcome.next ((shutdownReplyLeft_stops fails us hrun hstop).trans hend), rfl, rfl, _, hrec, hexp, hdone, rfl, ?_,
      fun hall hret => hreads.trans (if_pos (hfail hall hret))⟩
    rw [hreads]
    split
    · exact .inl rfl
    · exact .inr rfl
  · refine ⟨_, congrArg Host.Outcome.next ((restartReplyLeft_restarts m hrun hstop).trans (if_neg ?_)), rfl, rfl, rfl, rfl⟩
    rintro ⟨hxo, hpf⟩
    rcases hcond with h | h
    · exact Bool.noConfusion (hxo.symm.trans h)
    · exact Bool.noConfusion (hpf.symm.trans h)
  · exact congrArg Host.Outcome.next ((restartReplyLeft_restarts m hrun hstop).trans (if_pos ⟨hxo, hpf⟩))
  · exact ⟨congrArg Host.Outcome.next (by rw [shutdownReplyLeft, hnone]), congrArg Host.Outcome.next (by rw [restartReplyLeft, hnone])⟩

end Sys2Proof.Machine
end

section
/-! Controller memory (R592, R600): why a byte written does not leave every other byte from every state of its form. The form says nothing of
the region that the shadow serves, so a region that writes go to twice may stand beside another that the one shadow serves. -/

namespace Sys2Proof.Machine

open Sys2Proof

/-- A running part whose test has copied region 0 into the shadow, which at the same time serves region 1. -/
def shadowShared : State :=
  { start := { power := .run, pcieUp := true }
    mem := { bg := some { first := 0, count := 1, step := some .switch, owner := none }, inUse := some 1 } }

/-- A write of byte 0 goes to the shadow as well, from which byte 4096 then reads. -/
theorem shadowShared_written : (hostWindowWrite 0 [1] shadowShared).memByte 4096 = 1 := by decide +kernel

/-- Refutes O23: its clauses on writes ask for the form of memory alone, and not that the shadow fits the region borrowed (R592). No step
from reset leaves the shadow to two regions. -/
theorem not_memoryCommands : ¬ Obligations.MemoryCommands := by
  intro h
  obtain ⟨-, -, -, -, -, -, -, hwindow, -⟩ := h
  obtain ⟨t, hrow, -, -, -, hread⟩ := hwindow shadowShared 0 [1] (by decide) rfl rfl (by decide)
  obtain rfl : hostWindowWrite 0 [1] shadowShared = t := Host.Outcome.next.inj hrow
  have hzero : (hostWindowWrite 0 [1] shadowShared).memByte 4096 = 0 := (hread 4096).trans (by decide)
  rw [shadowShared_written] at hzero
  exact absurd hzero (by decide)

end Sys2Proof.Machine
end

section
/-! A borrowed region of controller memory (R592, R593): each step of the test leaves every byte to read as before, from a state whose shadow
fits the step; and the end of an MRAM write (R601, R639). -/

namespace Sys2Proof.Machine

open Sys2Proof

/-! ### What a key reads as after a filter, a move and an append -/

theorem Tab.find?_filter {α : Type} (t : Tab α) (p : Nat → Bool) (k : Nat) :
    Tab.find? (t.filter (fun e => p e.1)) k = if p k then Tab.find? t k else none := by
  induction t with
  | nil => simp [Tab.find?]
  | cons x t ih =>
    obtain ⟨a, v⟩ := x
    by_cases ha : a = k
    · subst ha
      cases hp : p a
      · simp [hp, ih]
      · simp [hp, Tab.find?]
    · cases hp : p a <;> simp [hp, Tab.find?, ha, ih]

theorem Tab.find?_map {α : Type} (t : Tab α) (f : Nat → Nat) (k : Nat) (hf : ∀ e ∈ t, f e.1 = f k → e.1 = k) :
    Tab.find? (t.map (fun e => (f e.1, e.2))) (f k) = Tab.find? t k := by
  induction t with
  | nil => rfl
  | cons x t ih =>
    obtain ⟨a, v⟩ := x
    have hhead : f a = f k ↔ a = k := ⟨hf (a, v) List.mem_cons_self, fun h => h ▸ rfl⟩
    simp only [List.map_cons, Tab.find?, hhead, ih fun e he => hf e (List.mem_cons_of_mem _ he)]

theorem Tab.find?_none {α : Type} {t : Tab α} {k : Nat} (h : ∀ e ∈ t, e.1 ≠ k) : Tab.find? t k = none := by
  induction t with
  | nil => rfl
  | cons x t ih => rw [Tab.find?, if_neg (h x List.mem_cons_self), ih fun e he => h e (List.mem_cons_of_mem _ he)]

theorem Tab.find?_append {α : Type} (t u : Tab α) (k : Nat) : Tab.find? (t ++ u) k = (Tab.find? t k).or (Tab.find? u k) := by
  induction t with
  | nil => rfl
  | cons x t ih =>
    obtain ⟨a, v⟩ := x
    rw [List.cons_append, Tab.find?, Tab.find?, ih]
    split <;> rfl

/-! ### A byte over the steps of a borrow (R592) -/

/-- One byte as memory and shadow give it. -/
def Mem.byte (m : Mem) (a : Nat) : Byte :=
  if secureBase ≤ a then 0 else if m.shadowed a then Tab.get byteReset m.shadow (a % 4096) else Tab.get byteReset m.bytes a

theorem State.memByte_eq (s : State) (a : Nat) : s.memByte a = s.mem.byte a := rfl

/-- Memory and shadow that give the same cell at an address read alike there. -/
theorem Mem.byte_congr {m n : Mem} {a : Nat}
    (h : (if n.shadowed a then Tab.find? n.shadow (a % 4096) else Tab.find? n.bytes a) =
      if m.shadowed a then Tab.find? m.shadow (a % 4096) else Tab.find? m.bytes a) : n.byte a = m.byte a := by
  unfold Mem.byte Tab.get
  split
  · rfl
  · cases hn : n.shadowed a <;> cases hm : m.shadowed a <;> simp only [hn, hm, if_true, if_false, Bool.false_eq_true] at h ⊢ <;>
      rw [h] <;> rfl

theorem Mem.shadowed_region {m : Mem} {r : Nat} (h : m.inUse = some r) (a : Nat) : m.shadowed a = decide (memRegion a = r) := by
  rw [Mem.shadowed, h]
  exact decide_eq_decide.mpr ⟨fun h => (Option.some.inj h).symm, fun h => congrArg some h.symm⟩

theorem Mem.shadowed_none {m : Mem} (h : m.inUse = none) (a : Nat) : m.shadowed a = false := by simp [Mem.shadowed, h]

/-- The shadow of a copied region holds its cells. -/
theorem Mem.find?_copyRegion (m : Mem) (a : Nat) : Tab.find? (m.copyRegion (memRegion a)).shadow (a % 4096) = Tab.find? m.bytes a := by
  have hin : ∀ e ∈ m.bytes.filter (fun e => decide (memRegion e.1 = memRegion a)), e.1 % 4096 = a % 4096 → e.1 = a := fun e he hmod => by
    have hreg : e.1 / 4096 = a / 4096 := of_decide_eq_true (List.mem_filter.mp he).2
    omega
  rw [Mem.copyRegion, Tab.find?_map _ (· % 4096) a hin, Tab.find?_filter m.bytes (fun k => decide (memRegion k = memRegion a))]
  exact if_pos (decide_eq_true rfl)

theorem Mem.byte_copyRegion {m : Mem} (huse : m.inUse = none) (r a : Nat) : (m.copyRegion r).byte a = m.byte a := by
  refine Mem.byte_congr ?_
  rw [Mem.shadowed_none huse, Mem.shadowed_none (m := m.copyRegion r) huse]
  rfl

theorem Mem.byte_switch {m : Mem} {r : Nat} (huse : m.inUse = none) (hcopy : m.shadow = (m.copyRegion r).shadow) (a : Nat) :
    ({ m with inUse := some r } : Mem).byte a = m.byte a := by
  refine Mem.byte_congr ?_
  rw [Mem.shadowed_none huse, Mem.shadowed_region (r := r) rfl]
  by_cases hr : memRegion a = r
  · subst hr
    rw [decide_eq_true rfl, if_pos rfl, if_neg Bool.false_ne_true]
    exact (congrArg (fun t => Tab.find? t (a % 4096)) hcopy).trans (m.find?_copyRegion a)
  · rw [decide_eq_false hr]

theorem Mem.byte_testRegion {m : Mem} {r : Nat} (huse : m.inUse = some r) (a : Nat) : (m.testRegion r).byte a = m.byte a := by
  refine Mem.byte_congr ?_
  rw [Mem.shadowed_region huse, Mem.shadowed_region (m := m.testRegion r) huse]
  by_cases hr : memRegion a = r
  · rw [decide_eq_true hr]
    rfl
  · rw [decide_eq_false hr, if_neg Bool.false_ne_true, if_neg Bool.false_ne_true, Mem.testRegion,
      Tab.find?_filter m.bytes (fun k => decide (memRegion k ≠ r))]
    exact if_pos (decide_eq_true hr)

/-- A region that is copied back has the cells of the shadow, every other one those it had. -/
theorem Mem.find?_restoreRegion {m : Mem} (hform : m.form) (r a : Nat) :
    Tab.find? (m.restoreRegion r).bytes a = if memRegion a = r then Tab.find? m.shadow (a % 4096) else Tab.find? m.bytes a := by
  have hlow : ∀ e ∈ m.shadow, e.1 < 4096 := hform.2.2
  have hback : Tab.find? (m.shadow.map (fun e => (4096 * r + e.1, e.2))) a =
      if memRegion a = r then Tab.find? m.shadow (a % 4096) else none := by
    by_cases hr : memRegion a = r
    · rw [if_pos hr, ← Tab.find?_map m.shadow (4096 * r + ·) (a % 4096) fun e _ h => by omega]
      congr 1
      have hdiv : a / 4096 = r := hr
      omega
    · rw [if_neg hr]
      refine Tab.find?_none fun e he => ?_
      obtain ⟨x, hx, rfl⟩ := List.mem_map.mp he
      have hx4 := hlow x hx
      have hdiv : a / 4096 ≠ r := hr
      dsimp only
      omega
  rw [Mem.restoreRegion, Tab.find?_append, Tab.find?_append, hback, Tab.find?_filter m.bytes (fun k => decide (memRegion k < r)),
    Tab.find?_filter m.bytes (fun k => decide (r < memRegion k))]
  rcases Nat.lt_trichotomy (memRegion a) r with h | h | h
  · simp [h, Nat.ne_of_lt h, Nat.not_lt_of_gt h]
  · simp [h]
  · simp [h, Nat.ne_of_gt h, Nat.not_lt_of_gt h]

theorem Mem.byte_restoreRegion {m : Mem} {r : Nat} (hform : m.form) (huse : m.inUse = some r) (a : Nat) :
    (m.restoreRegion r).byte a = m.byte a := by
  refine Mem.byte_congr ?_
  rw [Mem.shadowed_region huse, Mem.shadowed_region (m := m.restoreRegion r) huse]
  by_cases hr : memRegion a = r
  · rw [decide_eq_true hr]
    rfl
  · rw [decide_eq_false hr, if_neg Bool.false_ne_true, if_neg Bool.false_ne_true, Mem.find?_restoreRegion hform, if_neg hr]

/-- A region that has been copied back would be copied again as it stands in the shadow. -/
theorem Mem.copyRegion_restoreRegion {m : Mem} (hform : m.form) (r : Nat) : ((m.restoreRegion r).copyRegion r).shadow = m.shadow := by
  have hlow : ∀ e ∈ m.shadow, e.1 < 4096 := hform.2.2
  have hback : ((m.shadow.map (fun e => (4096 * r + e.1, e.2))).filter (fun e => decide (memRegion e.1 = r))).map
      (fun e => (e.1 % 4096, e.2)) = m.shadow := by
    rw [List.filter_eq_self.mpr, List.map_map]
    · refine (List.map_congr_left fun e he => ?_).trans (List.map_id _)
      have h4 := hlow e he
      have hmod : (4096 * r + e.1) % 4096 = e.1 := by omega
      exact Prod.ext hmod rfl
    · intro e he
      obtain ⟨x, hx, rfl⟩ := List.mem_map.mp he
      have h4 := hlow x hx
      have hdiv : (4096 * r + x.1) / 4096 = r := by omega
      exact decide_eq_true hdiv
  have hother (p : Nat → Bool) (hp : ∀ k, p k = true → memRegion k ≠ r) :
      (m.bytes.filter (fun e => p (e.1))).filter (fun e => decide (memRegion e.1 = r)) = [] := by
    refine List.filter_eq_nil_iff.mpr fun e he => ?_
    simpa using hp e.1 (List.mem_filter.mp he).2
  rw [Mem.copyRegion, Mem.restoreRegion]
  dsimp only
  rw [List.filter_append, List.filter_append, hother (fun k => decide (memRegion k < r)) (fun k hk => Nat.ne_of_lt (of_decide_eq_true hk)),
    hother (fun k => decide (r < memRegion k)) (fun k hk => Nat.ne_of_gt (of_decide_eq_true hk)), List.nil_append, List.append_nil]
  exact hback

theorem Mem.byte_release {m : Mem} {r : Nat} (huse : m.inUse = some r) (hcopy : m.shadow = (m.copyRegion r).shadow) (a : Nat) :
    ({ m with inUse := none, shadow := [] } : Mem).byte a = m.byte a := by
  refine Mem.byte_congr ?_
  rw [Mem.shadowed_none (m := { m with inUse := none, shadow := [] }) rfl, Mem.shadowed_region huse]
  by_cases hr : memRegion a = r
  · subst hr
    rw [decide_eq_true rfl, if_pos rfl, if_neg Bool.false_ne_true, hcopy]
    exact (m.find?_copyRegion a).symm
  · rw [decide_eq_false hr]
    rfl

/-! ### The steps of the test (R592, R593, R595, R602) -/

/-- MEM.BGTEST without STOP leaves memory as it was but for the test it begins, no region of which is borrowed yet. -/
theorem bodyBgtest_begins (c : Ctx) {ws : List Word} {s : State} (hstop : bit (wd ws 0) 0 = false) (hnone : s.mem.bg = none) :
    ∃ bg, (bodyBgtest c ws s).mem = { s.mem with bg := bg } ∧ ∀ b, bg = some b → b.step = none := by
  have hsame : ∃ bg, s.mem = { s.mem with bg := bg } ∧ ∀ b, bg = some b → b.step = none :=
    ⟨none, by rw [← hnone], nofun⟩
  unfold bodyBgtest
  extract_lets stop first count rep
  rw [if_neg (ne_true_of_eq_false hstop), if_neg (by rw [hnone]; exact Bool.false_ne_true)]
  split
  · rwa [ok_ctx_mem]
  · split
    · rwa [ok_ctx_mem]
    · rw [State.queueJob_mem]
      refine ⟨_, rfl, fun b hb => ?_⟩
      cases hb
      rfl

/-- The end of a test changes memory only in the test that waits and begins. -/
theorem State.endBgtest_begins (s : State) (b : BgTest) (stopped : Bool) (fail : Option Nat) (words : Nat) :
    ∃ bg, (s.endBgtest b stopped fail words).mem = { s.mem with bg := bg } ∧ ∀ x, bg = some x → x.step = none := by
  unfold State.endBgtest
  extract_lets mem t u
  have hu : u.mem = t.mem := by
    unfold u
    split
    · exact ok_ctx_mem _ _ _
    · rfl
  split
  next c first count _ =>
    obtain ⟨bg, hbg, hstep⟩ := bodyBgtest_begins c (ws := [0, w32 first, w32 count])
      (s := { u with axg := { u.axg with jobs := u.axg.jobs.erase { ctx := c, work := .bgtest first count } } })
      (show bit (0 : Word) 0 = false by decide)
      (congrArg Mem.bg hu)
    refine ⟨bg, hbg.trans ?_, hstep⟩
    rw [hu]
  · exact ⟨none, hu, nofun⟩

/-- The test of a region that finds failing words retires it and ends. -/
theorem borrowStep_fails {s : State} {b : BgTest} {n : Nat} (hb : s.mem.bg = some b) (hstep : b.step = some .test) (hn : 0 < n) :
    borrowStep n s = ({ s with mem := { s.mem.testRegion (b.first + b.tested) with retired := some (b.first + b.tested) } } : State).endBgtest
      { b with tested := b.tested + 1 } b.stop (some (b.first + b.tested)) n := by
  rw [borrowStep, hb]
  dsimp only
  rw [hstep]
  exact if_neg (by omega)

/-- The steps of a region whose test finds no failing word. -/
theorem borrowStep_copy {s : State} {b : BgTest} (hb : s.mem.bg = some b) (hstep : b.step = some .copy) (n : Nat) :
    borrowStep n s = { s with mem := { s.mem.copyRegion (b.first + b.tested) with bg := some { b with step := some .switch } } } := by
  rw [borrowStep, hb]
  dsimp only
  rw [hstep]

theorem borrowStep_switch {s : State} {b : BgTest} (hb : s.mem.bg = some b) (hstep : b.step = some .switch) (n : Nat) :
    borrowStep n s = { s with mem := { s.mem with inUse := some (b.first + b.tested), bg := some { b with step := some .test } } } := by
  rw [borrowStep, hb]
  dsimp only
  rw [hstep]

theorem borrowStep_test {s : State} {b : BgTest} (hb : s.mem.bg = some b) (hstep : b.step = some .test) :
    borrowStep 0 s = { s with mem := { s.mem.testRegion (b.first + b.tested) with bg := some { b with step := some .restore } } } := by
  rw [borrowStep, hb]
  dsimp only
  rw [hstep]
  rfl

theorem borrowStep_restore {s : State} {b : BgTest} (hb : s.mem.bg = some b) (hstep : b.step = some .restore) (n : Nat) :
    borrowStep n s = { s with mem := { s.mem.restoreRegion (b.first + b.tested) with bg := some { b with step := some .release } } } := by
  rw [borrowStep, hb]
  dsimp only
  rw [hstep]

/-- After RELEASE of a region that is not the last, the next one waits for its job. -/
theorem borrowStep_next {s : State} {b : BgTest} (hb : s.mem.bg = some b) (hstep : b.step = some .release) (hgo : b.stop = false)
    (howner : b.owner.isSome = true) (hmore : b.tested + 1 < b.count) (n : Nat) : borrowStep n s =
      ({ s with mem := { s.mem with inUse := none, shadow := [], bg := some { b with tested := b.tested + 1, step := none } } } : State).queueJob
        10 60 .bgRegion := by
  have hstay : ¬ (b.stop = true ∨ b.owner.isNone = true) := by
    rintro (h | h)
    · exact Bool.noConfusion (h.symm.trans hgo)
    · rw [Option.isNone_iff_eq_none.mp h] at howner
      exact Bool.noConfusion howner
  rw [borrowStep, hb]
  dsimp only
  rw [hstep]
  dsimp only
  rw [if_neg hstay, if_neg (Nat.ne_of_lt hmore)]
  rfl

/-- What a shadow that fits the step of a borrow holds. -/
theorem Mem.borrowOk_iff {m : Mem} {b : BgTest} {x : Borrow} (hb : m.bg = some b) (hstep : b.step = some x) : m.borrowOk = true ↔
    match x with
    | .copy => m.inUse = none
    | .switch => m.inUse = none ∧ m.shadow = (m.copyRegion (b.first + b.tested)).shadow
    | .test => m.inUse = some (b.first + b.tested)
    | .restore => m.inUse = some (b.first + b.tested)
    | .release => m.inUse = some (b.first + b.tested) ∧ m.shadow = (m.copyRegion (b.first + b.tested)).shadow := by
  cases x <;> simp [Mem.borrowOk, hb, hstep]

/-- With no region borrowed any shadow fits. -/
theorem Mem.borrowOk_free {m : Mem} (h : ∀ b, m.bg = some b → b.step = none) : m.borrowOk = true := by
  cases hb : m.bg with
  | none => simp [Mem.borrowOk, hb]
  | some b => simp [Mem.borrowOk, hb, h b hb]

/-- The shadow fits the step of a borrow, and every byte reads as in another state of memory. -/
def Mem.Borrowed (n m : Mem) : Prop := n.borrowOk = true ∧ ∀ a, n.byte a = m.byte a

theorem State.endBgtest_borrowed {s : State} {m : Mem} (h : ∀ a, s.mem.byte a = m.byte a) (b : BgTest) (stopped : Bool) (fail : Option Nat)
    (words : Nat) : (s.endBgtest b stopped fail words).mem.Borrowed m := by
  obtain ⟨bg, hbg, hstep⟩ := s.endBgtest_begins b stopped fail words
  rw [hbg]
  exact ⟨Mem.borrowOk_free hstep, h⟩

/-- The test of a region leaves every byte as it reads, whether it finds failing words or not. -/
theorem borrowStep_test_borrowed {s : State} {b : BgTest} (hb : s.mem.bg = some b) (hstep : b.step = some .test)
    (huse : s.mem.inUse = some (b.first + b.tested)) (n : Nat) : (borrowStep n s).mem.Borrowed s.mem := by
  rcases Nat.eq_zero_or_pos n with rfl | hn
  · rw [borrowStep_test hb hstep]
    exact ⟨(Mem.borrowOk_iff (b := { b with step := some .restore }) (x := .restore) rfl rfl).mpr huse, Mem.byte_testRegion huse⟩
  · rw [borrowStep_fails hb hstep hn]
    exact State.endBgtest_borrowed (Mem.byte_testRegion huse) _ _ _ _

/-- The release of a region leaves every byte as it reads, whether the test goes on or ends. -/
theorem borrowStep_release_borrowed {s : State} {b : BgTest} (hb : s.mem.bg = some b) (hstep : b.step = some .release)
    (huse : s.mem.inUse = some (b.first + b.tested)) (hcopy : s.mem.shadow = (s.mem.copyRegion (b.first + b.tested)).shadow) (n : Nat) :
    (borrowStep n s).mem.Borrowed s.mem := by
  have hrel : ∀ a, ({ s.mem with inUse := none, shadow := [] } : Mem).byte a = s.mem.byte a := Mem.byte_release huse hcopy
  rw [borrowStep, hb]
  dsimp only
  rw [hstep]
  dsimp only
  split
  · exact State.endBgtest_borrowed hrel _ _ _ _
  split
  · exact State.endBgtest_borrowed hrel _ _ _ _
  · rw [State.queueJob_mem]
    refine ⟨Mem.borrowOk_free ?_, hrel⟩
    rintro x ⟨⟩
    rfl

/-- A step of the borrow from a state whose shadow fits it: every byte reads as before, and the shadow fits the next. -/
theorem borrowStep_borrowed (n : Nat) {s : State} (hform : s.mem.form) (hfit : s.mem.borrowOk = true) : (borrowStep n s).mem.Borrowed s.mem := by
  cases hb : s.mem.bg with
  | none =>
    rw [borrowStep, hb]
    exact ⟨hfit, fun _ => rfl⟩
  | some b =>
    cases hstep : b.step with
    | none =>
      rw [borrowStep, hb]
      dsimp only
      rw [hstep]
      exact ⟨hfit, fun _ => rfl⟩
    | some x =>
      have hstate := (Mem.borrowOk_iff hb hstep).mp hfit
      cases x with
      | copy =>
        rw [borrowStep_copy hb hstep]
        exact ⟨(Mem.borrowOk_iff (b := { b with step := some .switch }) (x := .switch) rfl rfl).mpr ⟨hstate, rfl⟩,
          Mem.byte_copyRegion hstate _⟩
      | switch =>
        obtain ⟨huse, hcopy⟩ := hstate
        rw [borrowStep_switch hb hstep]
        exact ⟨(Mem.borrowOk_iff (b := { b with step := some .test }) (x := .test) rfl rfl).mpr rfl, Mem.byte_switch huse hcopy⟩
      | test => exact borrowStep_test_borrowed hb hstep hstate n
      | restore =>
        rw [borrowStep_restore hb hstep]
        exact ⟨(Mem.borrowOk_iff (b := { b with step := some .release }) (x := .release) rfl rfl).mpr
          ⟨hstate, (Mem.copyRegion_restoreRegion hform _).symm⟩, Mem.byte_restoreRegion hform hstate⟩
      | release =>
        obtain ⟨huse, hcopy⟩ := hstate
        exact borrowStep_release_borrowed hb hstep huse hcopy n

theorem borrowStep_retires {s : State} {b : BgTest} {n : Nat} (hb : s.mem.bg = some b) (hstep : b.step = some .test) (hn : 0 < n) :
    (borrowStep n s).mem.retired = some (b.first + b.tested) ∧ (borrowStep n s).mem.inUse = s.mem.inUse ∧
    (borrowStep n s).mem.shadow = s.mem.shadow := by
  rw [borrowStep_fails hb hstep hn]
  generalize hu : ({ s with mem := { s.mem.testRegion (b.first + b.tested) with retired := some (b.first + b.tested) } } : State) = u
  obtain ⟨bg, hbg, -⟩ := u.endBgtest_begins { b with tested := b.tested + 1 } b.stop (some (b.first + b.tested)) n
  rw [hbg, ← hu]
  exact ⟨rfl, rfl, rfl⟩

/-! ### Writes to MRAM (R596, R601, R639) -/

/-- The oldest write in progress leaves the list. -/
theorem mramWriteComplete_mem {s : State} {x : JobFor} {l : List JobFor} (h : s.mem.writes = x :: l) :
    (mramWriteComplete s).mem = { s.mem with writes := l } := by
  rw [mramWriteComplete, h]
  dsimp only
  split
  · rw [State.imageWritten_mem]
  · rw [State.bootSlotWritten_mem]
  · rfl

/-- Settles O24: each step of a borrow by the cells it moves. -/
theorem memoryEvents : Obligations.MemoryEvents := by
  unfold Obligations.MemoryEvents
  refine ⟨fun s b hb => ⟨fun h => ?_, fun h => ?_, fun h => ?_, fun h => ?_, fun h hgo howner hmore => ?_⟩, fun s n hok hfit => ?_,
    fun s b n hb h hn => ⟨_, rfl, borrowStep_retires hb h hn⟩, fun s n hnone => ?_, fun s hnone => ?_, fun s x l h => ?_⟩
  · exact congrArg Host.Outcome.next (borrowStep_copy hb h 0)
  · exact congrArg Host.Outcome.next (borrowStep_switch hb h 0)
  · exact congrArg Host.Outcome.next (borrowStep_test hb h)
  · exact congrArg Host.Outcome.next (borrowStep_restore hb h 0)
  · exact congrArg Host.Outcome.next (borrowStep_next hb h hgo howner hmore 0)
  · obtain ⟨hnext, hread⟩ := borrowStep_borrowed n ((State.memOk_iff s).mp hok).1 hfit
    exact ⟨_, rfl, borrowStep_ok n s hok, hnext, hread⟩
  · exact congrArg Host.Outcome.next (by rw [borrowStep, hnone])
  · exact congrArg Host.Outcome.next (by rw [mramWriteComplete, hnone])
  · have hmem := mramWriteComplete_mem h
    have hbytes : (mramWriteComplete s).mem.bytes = s.mem.bytes := by rw [hmem]
    exact ⟨_, rfl, congrArg Mem.writes hmem, hbytes⟩

end Sys2Proof.Machine
end

section
/-! The counters' commands and the end of a bandwidth window (R609, R614, R617-R621). -/

namespace Sys2Proof.Machine

open Sys2Proof

/-! ### CNT.CONFIG (R617) -/

/-- A counter as CNT.CONFIG selects it: its value and its overflow flag stay. -/
def Cnt.configured (old : Cnt) (ws : List Word) : Cnt :=
  let e := if evCodes.contains (fld (wd ws 1) 11 0) then fld (wd ws 1) 11 0 else 0
  { old with
    event := e, level := bit (wd ws 1) 15, enable := bit (wd ws 1) 16, inst := evInst e (fld (wd ws 2) 6 0)
    queue := if evQueue e then (if fld (wd ws 2) 11 8 < 9 then fld (wd ws 2) 11 8 else 0xF) else (if evNoInst e then 0 else 0xF) }

theorem bodyCntConfig_write (c : Ctx) {ws : List Word} (s : State) (hw : bit (wd ws 0) 31 = true) :
    let k := fld (wd ws 0) 6 0
    let new := (s.prog k).configured ws
    ∃ r, r.length = 3 ∧ bodyCntConfig c ws s = (s.setProg k { new with prev := s.holds new }).ok c r := by
  rw [bodyCntConfig, hw]
  exact ⟨_, rfl, rfl⟩

theorem State.prog_setProg_self {s : State} (h : Tab.sorted s.cnt.prog = true) (k : Nat) (x : Cnt) : (s.setProg k x).prog k = x :=
  Tab.get_put_self _ k x h

theorem State.prog_setProg_ne (s : State) {j k : Nat} (h : j ≠ k) (x : Cnt) : (s.setProg k x).prog j = s.prog j := Tab.get_put_ne _ _ x h

theorem State.setProg_keeps (s : State) (k : Nat) (x : Cnt) : (s.setProg k x).keeps s [.cnt] := fun q hq => by
  cases q <;> simp at hq <;> rfl

/-! ### A counter read and a counter written in its turn (R609) -/

theorem State.clearOvf_keeps (s : State) (k : Nat) : (s.clearOvf k).keeps s [.cnt] := by
  unfold State.clearOvf State.setCnt
  split
  · exact s.setProg_keeps _ _
  split
  · intro q hq
    cases q <;> simp at hq <;> rfl
  · exact .refl s _

/-- A CNT.READ with more than one counter left reads the one whose turn it is. -/
theorem State.counterJob_reads {s : State} {c : Ctx} {first n left : Nat} {clr : Bool} {acc : List Word} {l : List Job}
    (hjobs : s.axg.jobs = ⟨c, .cntRead first n clr (left + 2) acc⟩ :: l) :
    let k := first + (n - (left + 2))
    let r := if clr then s.clearOvf k else s
    s.counterJob = { r with axg := { r.axg with
      jobs := ⟨c, .cntRead first n clr (left + 1) (acc ++ s.cntWords k s.clk.tick)⟩ :: l } } := by
  intro k r
  have hfind : s.findJob Work.onCounters = some ⟨c, .cntRead first n clr (left + 2) acc⟩ := by
    rw [State.findJob, hjobs]
    rfl
  have hkeep : r.axg = s.axg := by
    unfold r
    split
    · exact s.clearOvf_keeps k .axg (by decide)
    · rfl
  have hk : first + (n - 1 - (left + 1)) = k := by
    unfold k
    omega
  rw [State.counterJob, hfind]
  dsimp only
  rw [if_neg (Nat.succ_ne_zero left), hk]
  change ({ r with axg := { r.axg with jobs := updWork Work.onCounters _ r.axg.jobs } } : State) = _
  rw [hkeep, hjobs]
  rfl

/-- A CNT.WRITE of one counter writes it and replies. -/
theorem State.counterJob_writes {s : State} {c : Ctx} {k : Nat} {a b : Word} {l : List Job} (hjobs : s.axg.jobs = ⟨c, .cntWrite k 1 [(a, b)] []⟩ :: l)
    (hk : k < 128) :
    let v := fld a 15 0 * 2 ^ 32 + b.toNat + (s.prog k).got
    let u := s.setProg k { s.prog k with value := v % 2 ^ 48, ovf := ((s.prog k).was && !bit a 31) || decide (2 ^ 48 ≤ v) }
    s.counterJob = ({ u with axg := { s.axg with jobs := l } } : State).complete c (okRpl (pack [(0, k), (8, 1)] :: u.cntWords k s.clk.tick)) := by
  intro v u
  have hfind : s.findJob Work.onCounters = some ⟨c, .cntWrite k 1 [(a, b)] []⟩ := by
    rw [State.findJob, hjobs]
    rfl
  have hwrite : s.writeCnt k a b = (u.cntWords k s.clk.tick, u) := by
    rw [State.writeCnt, State.cntThis, State.setCnt, if_pos hk, if_pos hk]
    rfl
  have hfind' : u.findJob Work.onCounters = some ⟨c, .cntWrite k 1 [(a, b)] []⟩ := hfind
  have herase : u.axg.jobs.erase ⟨c, .cntWrite k 1 [(a, b)] []⟩ = l := by
    change s.axg.jobs.erase _ = l
    rw [hjobs, List.erase_cons_head]
  rw [State.counterJob, hfind]
  dsimp only
  rw [if_pos rfl, show k + (1 - 1 - ([] : List (Word × Word)).length) = k from rfl, hwrite, State.completeFirst, hfind']
  dsimp only
  rw [herase]
  rfl

/-! ### CNT.BANDWIDTH and the window (R614, R620) -/

theorem bodyBandwidth_write (c : Ctx) {ws : List Word} (s : State) (hw : bit (wd ws 0) 31 = true) :
    let ms := clamp 1 10000 (fld (wd ws 0) 13 0)
    ∃ r, r.length = 4 + 6 * min (min 104 (fld (wd ws 1) 14 8)) (104 - min 103 (fld (wd ws 1) 6 0)) ∧
      bodyBandwidth c ws s = ({ s with cnt := { s.cnt with
        windowMs := ms, changed := s.cnt.changed || decide (ms ≠ s.cnt.windowMs), valid := s.cnt.valid && decide (ms = s.cnt.windowMs) } } :
          State).ok c r := by
  intro ms
  have hsame : (!decide (ms ≠ s.cnt.windowMs)) = decide (ms = s.cnt.windowMs) := by simp
  rw [bodyBandwidth, hw]
  dsimp only
  rw [if_pos rfl, if_pos rfl, hsame]
  refine ⟨_, ?_, rfl⟩
  rw [List.length_append, length_flatMap_const _ _ 6 fun _ _ => rfl, List.length_range]
  rfl

theorem bandwidthEnd_latches {s : State} (hsame : s.cnt.changed = false) (hlater : s.cnt.winStart < s.clk.tick)
    (hend : s.clk.tick % (1250000 * s.cnt.windowNow) = 0) : bandwidthEnd s = { s with cnt := { s.cnt with
      last := s.cnt.acc, lastStart := s.cnt.winStart, lastEnd := s.clk.tick, acc := [], winStart := s.clk.tick, valid := true } } := by
  rw [bandwidthEnd]
  dsimp only
  rw [if_neg (Nat.not_le.mpr hlater), if_neg (fun h => Bool.noConfusion (h.1.symm.trans hsame)), hsame]
  exact if_pos hend

/-- The first window of a new length begins at its own boundary; the one it breaks off is latched only where it ends there as well. -/
theorem bandwidthEnd_changes {s : State} (hnew : s.cnt.changed = true) (hlater : s.cnt.winStart < s.clk.tick)
    (hend : s.clk.tick % (1250000 * s.cnt.windowMs) = 0) : ∃ last a b, bandwidthEnd s = { s with cnt := { s.cnt with
      last := last, lastStart := a, lastEnd := b, acc := [], winStart := s.clk.tick, windowNow := s.cnt.windowMs, changed := false } } := by
  have hturn : s.cnt.changed = true ∧ s.clk.tick % windowTicks s.cnt.windowMs = 0 := ⟨hnew, hend⟩
  rw [bandwidthEnd]
  dsimp only
  rw [if_neg (Nat.not_le.mpr hlater), if_pos hturn]
  split <;> exact ⟨_, _, _, rfl⟩

theorem bandwidthEnd_early {s : State} (h : s.clk.tick ≤ s.cnt.winStart) : bandwidthEnd s = s := if_pos h

/-- Settles O29: the commands by what their bodies store, the two operations in turn, and the window. -/
theorem counterCommands : Obligations.CounterCommands := by
  unfold Obligations.CounterCommands
  refine ⟨fun s p h hw hsort => ?_, fun s p h => ⟨fun hn => answers_of_body rfl h (if_pos hn), fun hn => ?_⟩,
    fun s p h => ⟨fun hn => answers_of_body rfl h (if_pos hn), fun hn => ?_⟩, fun s c first n left clr acc l hjobs _ => ?_,
    fun s c k a b l hjobs hk hsort => ?_, fun s p h hw => ?_, fun s p h hw => answers_of_body rfl h ?_,
    fun s hsame hlater hend => congrArg _ (bandwidthEnd_latches hsame hlater hend), fun s hnew hlater hend => ?_,
    fun s h => congrArg _ (bandwidthEnd_early h)⟩
  · obtain ⟨r, hlen, hbody⟩ := bodyCntConfig_write (s.ctxOf 0x0C00 p) (s.accepted 0x0C00 p) hw
    have hprog : (s.accepted 0x0C00 p).prog = s.prog := by
      unfold State.prog
      rw [State.accepted_cnt]
    have hsort' : Tab.sorted (s.accepted 0x0C00 p).cnt.prog = true := by rwa [State.accepted_cnt]
    have hself := State.prog_setProg_self hsort'
    refine ⟨_, r, answers_of_body rfl h hbody, hlen, State.setProg_keeps _ _ _, ?_, ?_, ?_, ?_, ?_, ?_, fun j hj => ?_⟩
    · exact (congrArg Cnt.event (hself _ _)).trans rfl
    · exact (congrArg Cnt.enable (hself _ _)).trans rfl
    · exact (congrArg Cnt.level (hself _ _)).trans rfl
    · exact (congrArg Cnt.inst (hself _ _)).trans rfl
    · exact (congrArg Cnt.value (hself _ _)).trans (by rw [hprog]; rfl)
    · exact (congrArg Cnt.ovf (hself _ _)).trans (by rw [hprog]; rfl)
    · rw [State.prog_setProg_ne _ hj, hprog]
  · exact congrArg Host.Outcome.next ((receive_accepted bodyCntRead h).trans (if_neg hn))
  · exact congrArg Host.Outcome.next ((receive_accepted bodyCntWrite h).trans (if_neg hn))
  · rw [State.counterJob_reads hjobs]
    refine ⟨rfl, ?_⟩
    rintro rfl q hq
    cases q <;> simp at hq <;> rfl
  · refine ⟨_, State.counterJob_writes hjobs hk, s.setProg_keeps _ _, State.prog_setProg_self hsort _ _, fun j hj => s.prog_setProg_ne hj _⟩
  · obtain ⟨r, hlen, hbody⟩ := bodyBandwidth_write (s.ctxOf 0x0C03 p) (s.accepted 0x0C03 p) hw
    rw [State.accepted_cnt] at hbody
    exact ⟨r, answers_of_body rfl h hbody, hlen⟩
  · rw [bodyCntUser, hw, State.accepted_cnt]
    rfl
  · obtain ⟨_, _, _, hrow⟩ := bandwidthEnd_changes hnew hlater hend
    refine ⟨_, congrArg Host.Outcome.next hrow, fun q hq => ?_, rfl, rfl, rfl, rfl, rfl⟩
    cases q <;> simp at hq <;> rfl

end Sys2Proof.Machine
end

section
/-! The measurement channels (R413-R437): the MEAS commands, and what an edge leaves of a channel. -/

namespace Sys2Proof.Machine

open Sys2Proof

/-! ### One channel -/

theorem State.chan_setChan_self {s : State} (h : Tab.sorted s.chans = true) (k : Nat) (x : Chan) : (s.setChan k x).chan k = x :=
  Tab.get_put_self _ k x h

theorem State.chan_setChan_ne (s : State) {j k : Nat} (h : j ≠ k) (x : Chan) : (s.setChan k x).chan j = s.chan j := Tab.get_put_ne _ _ x h

/-- One channel stands as given, and nothing else has changed. -/
def ChanTo (ch : Nat) (x : Chan) (t s : State) : Prop :=
  Tab.sorted t.chans = true ∧ t.keeps s [.chans] ∧ t.chan ch = x ∧ ∀ k, k ≠ ch → t.chan k = s.chan k

theorem ChanTo.refl {s : State} (h : Tab.sorted s.chans = true) (ch : Nat) : ChanTo ch (s.chan ch) s s := ⟨h, .refl s _, rfl, fun _ _ => rfl⟩

theorem ChanTo.setChan {s t : State} {ch : Nat} {x : Chan} (h : ChanTo ch x t s) (y : Chan) : ChanTo ch y (t.setChan ch y) s := by
  obtain ⟨hsort, hkeep, -, hother⟩ := h
  have hset : (t.setChan ch y).keeps t [.chans] := fun q hq => by
    cases q <;> simp at hq <;> rfl
  exact ⟨Tab.sorted_put _ _ hsort, hset.trans hkeep, State.chan_setChan_self hsort _ _,
    fun k hk => (t.chan_setChan_ne hk y).trans (hother k hk)⟩

theorem State.setChan_chanTo {s : State} (h : Tab.sorted s.chans = true) (ch : Nat) (x : Chan) : ChanTo ch x (s.setChan ch x) s :=
  (ChanTo.refl h ch).setChan x

/-! ### Changes of several channels -/

/-- One change of every listed channel. -/
theorem State.chan_foldl_modChan {s : State} (hsort : Tab.sorted s.chans = true) (f : Chan → Chan) {l : List Nat} (hl : l.Nodup) (k : Nat) :
    (l.foldl (fun s k => s.modChan k f) s).chan k = if k ∈ l then f (s.chan k) else s.chan k := by
  induction l generalizing s with
  | nil => rfl
  | cons a l ih =>
    obtain ⟨ha, hl⟩ := List.nodup_cons.mp hl
    rw [List.foldl_cons, ih (s := s.modChan a f) (Tab.sorted_put _ _ hsort) hl, s.chan_modChan a k f hsort]
    by_cases hk : k = a
    · subst hk
      simp [ha]
    · simp [hk]

theorem State.foldl_modChan_keeps (s : State) (f : Chan → Chan) (l : List Nat) : (l.foldl (fun s k => s.modChan k f) s).keeps s [.chans] :=
  List.foldlRecOn l _ (motive := fun (t : State) => t.keeps s [.chans]) (.refl s _) fun t ht k _ =>
    State.keeps.trans (fun q hq => by cases q <;> simp at hq <;> rfl) ht

theorem State.sorted_foldl_modChan {s : State} (hsort : Tab.sorted s.chans = true) (f : Chan → Chan) (l : List Nat) :
    Tab.sorted (l.foldl (fun s k => s.modChan k f) s).chans = true :=
  List.foldlRecOn l _ (motive := fun (t : State) => Tab.sorted t.chans = true) hsort fun _ ht _ _ => Tab.sorted_put _ _ ht

theorem mem_maskBits {n m k : Nat} : k ∈ maskBits n m ↔ k < n ∧ m.testBit k = true := by simp [maskBits]

theorem maskBits_nodup (n m : Nat) : (maskBits n m).Nodup := List.nodup_range.filter _

/-- The state after a start (R434). -/
theorem State.startChans_eq (s : State) (mask : Nat) : (s.startChans mask).2 =
    ((maskBits 28 mask).filter (fun k => decide ((s.chan k).st ≠ .off))).foldl (fun t k => t.modChan k (Chan.begin_ s.clk.tick)) s := by
  have htick (l : List Nat) (t : State) : l.foldl (fun t k => t.modChan k (Chan.begin_ t.clk.tick)) t =
      l.foldl (fun u k => u.modChan k (Chan.begin_ t.clk.tick)) t := by
    induction l generalizing t with
    | nil => rfl
    | cons a l ih => exact ih (t.modChan a (Chan.begin_ t.clk.tick))
  exact htick _ s

/-- With no statistics run a stop on a channel halts its measurement (R431). -/
theorem State.stopChan_halts {s : State} (hsort : Tab.sorted s.chans = true) {ch : Nat} (hstat : (s.chan ch).stat = none) :
    s.stopChan ch = s.modChan ch Chan.halt := by
  have hhalt (x : Chan) : x.halt.stat = x.stat := by
    unfold Chan.halt
    split <;> rfl
  have hnone : ((s.modChan ch Chan.halt).chan ch).stat = none := by
    rw [s.chan_modChan _ _ _ hsort, if_pos rfl, hhalt, hstat]
  rw [State.stopChan, hnone]

theorem State.foldl_stopChan {s : State} (hsort : Tab.sorted s.chans = true) {l : List Nat} (hl : l.Nodup)
    (hstat : ∀ k ∈ l, (s.chan k).stat = none) : l.foldl State.stopChan s = l.foldl (fun s k => s.modChan k Chan.halt) s := by
  induction l generalizing s with
  | nil => rfl
  | cons a l ih =>
    obtain ⟨ha, hl⟩ := List.nodup_cons.mp hl
    have hstop := State.stopChan_halts hsort (hstat a List.mem_cons_self)
    rw [List.foldl_cons, List.foldl_cons, hstop]
    refine ih (Tab.sorted_put _ _ hsort) hl fun k hk => ?_
    have hne : k ≠ a := fun h => ha (h ▸ hk)
    rw [s.chan_modChan _ _ _ hsort, if_neg hne]
    exact hstat k (List.mem_cons_of_mem _ hk)

/-! ### Passes put off (R426) -/

/-- With no pass put off and no CAL.RUN waiting, none falls due. -/
theorem State.passesDue_same {s : State} (hdef : ∀ k, k < 28 → (s.chan k).deferred = false)
    (hrun : ∀ j ∈ s.axg.jobs, ∀ item, j.work ≠ .calRun item) : s.passesDue = s := by
  have hnone (item : Nat) : s.runsWaiting item = 0 := by
    have hfilter : s.axg.jobs.filter (fun j => decide (j.work = .calRun item)) = [] :=
      List.filter_eq_nil_iff.mpr fun j hj => by simpa using hrun j hj item
    simp [State.runsWaiting, hfilter]
  unfold State.passesDue
  refine List.foldlRecOn (motive := fun u => u = s) _ _ rfl fun u hu k hk => ?_
  subst hu
  dsimp only
  rw [hdef k (List.mem_range.mp hk)]
  split
  · rfl
  · rw [if_neg Bool.false_ne_true, hnone]
    rfl

/-- The passes that fall due leave every channel in its state. -/
theorem State.passesDue_st {s : State} (h : Tab.sorted s.chans = true) (k : Nat) : (s.passesDue.chan k).st = (s.chan k).st := by
  have hall : Tab.sorted s.passesDue.chans = true ∧ (s.passesDue.chan k).st = (s.chan k).st := by
    unfold State.passesDue
    refine List.foldlRecOn (motive := fun (u : State) => Tab.sorted u.chans = true ∧ (u.chan k).st = (s.chan k).st) _ _ ⟨h, rfl⟩
      fun u hu i _ => ?_
    obtain ⟨hsort, hst⟩ := hu
    dsimp only
    split
    · exact ⟨hsort, hst⟩
    · refine List.foldlRecOn (motive := fun (u : State) => Tab.sorted u.chans = true ∧ (u.chan k).st = (s.chan k).st) _ _ ?_
        (fun v hv _ _ => hv)
      split
      · refine ⟨Tab.sorted_put _ _ hsort, ?_⟩
        rw [State.chan, State.queueJob_chans, ← State.chan, u.chan_modChan _ _ _ hsort]
        split
        next hk => exact hk ▸ hst
        next => exact hst
      · exact ⟨hsort, hst⟩
  exact hall.2

/-! ### The commands (R433-R437) -/

/-- A channel as MEAS.CONFIG leaves it. -/
def Chan.configured (x : Chan) (ws : List Word) (ch tick : Nat) : Chan :=
  let v := wd ws 1
  let stopCh := min 27 (fld v 20 16)
  let mode := min 2 (fld v 3 2)
  { x with
    enable := bit v 0, edge := bit v 1, mode := if mode = 1 ∧ stopCh = ch then 2 else mode, tb := fld v 6 4, queueEn := bit v 7
    calHold := bit v 8, stopCh := stopCh, prescale := clamp 1 4096 (fld (wd ws 2) 12 0)
    pre := 0, begun := tick, st := if bit v 0 then .ready else .off, queue := if bit v 0 then x.queue else [] }

theorem bodyMeasConfig_write (c : Ctx) {ws : List Word} {s : State} (hw : bit (wd ws 0) 31 = true) (hsort : Tab.sorted s.chans = true)
    (hstat : (s.chan (chArg (wd ws 0))).stat = none) (hdef : ∀ k, k < 28 → (s.chan k).deferred = false)
    (hrun : ∀ j ∈ s.axg.jobs, ∀ item, j.work ≠ .calRun item) :
    let ch := chArg (wd ws 0)
    ∃ (u : State) (r : List Word), bodyMeasConfig c ws s = u.ok c r ∧ r.length = 3 ∧ ChanTo ch ((s.chan ch).halt.configured ws ch s.clk.tick) u s := by
  intro ch
  have hhalt : ChanTo ch (s.chan ch).halt (s.modChan ch Chan.halt) s := State.setChan_chanTo hsort ch _
  have hhalt' := hhalt
  obtain ⟨-, -, hself, hother⟩ := hhalt'
  have hdue : (s.stopChan ch).passesDue = s.modChan ch Chan.halt := by
    rw [State.stopChan_halts hsort hstat]
    refine State.passesDue_same (fun k hk => ?_) hrun
    by_cases heq : k = ch
    · rw [heq, hself]
      have hkeep (x : Chan) : x.halt.deferred = x.deferred := by
        unfold Chan.halt
        split <;> rfl
      rw [hkeep]
      exact hdef ch (heq ▸ hk)
    · rw [hother k heq]
      exact hdef k hk
  have hset := hhalt.setChan ((s.chan ch).halt.configured ws ch s.clk.tick)
  have hbody : bodyMeasConfig c ws s = ((s.modChan ch Chan.halt).setChan ch ((s.chan ch).halt.configured ws ch s.clk.tick)).ok c
      ((((s.modChan ch Chan.halt).setChan ch ((s.chan ch).halt.configured ws ch s.clk.tick)).chan ch).cfgWords true ch) := by
    rw [bodyMeasConfig, hw]
    dsimp only
    rw [if_pos rfl, hdue, hself]
    rfl
  exact ⟨_, _, hbody, rfl, hset⟩

/-- Without AT the selected channels that are READY or RUNNING start. -/
theorem bodyMeasStart_now (c : Ctx) {ws : List Word} {s : State} (hat : bit (wd ws 0) 31 = false) (hsort : Tab.sorted s.chans = true) :
    ∃ (u : State) (r : List Word), bodyMeasStart c ws s = u.ok c r ∧ r.length = 3 ∧ u.keeps s [.chans] ∧ ∀ k, k < 28 → u.chan k =
      if (fld (wd ws 0) 27 0).testBit k ∧ (s.chan k).st ≠ .off then (s.chan k).begin_ s.clk.tick else s.chan k := by
  have hstart := s.startChans_eq (fld (wd ws 0) 27 0)
  have hbody : bodyMeasStart c ws s = (s.startChans (fld (wd ws 0) 27 0)).2.ok c
      (startWords (s.startChans (fld (wd ws 0) 27 0)).1 (s.startChans (fld (wd ws 0) 27 0)).2.clk.tick) := if_pos hat
  refine ⟨_, _, hbody, rfl, hstart ▸ s.foldl_modChan_keeps _ _, fun k hk => ?_⟩
  rw [hstart, State.chan_foldl_modChan hsort _ ((maskBits_nodup _ _).filter _)]
  simp only [List.mem_filter, mem_maskBits, decide_eq_true_eq, hk, true_and]

/-- MEAS.STOP with no statistics run takes the running channels it selects to READY. -/
theorem bodyMeasStop_stops (c : Ctx) (ws : List Word) {s : State} (hsort : Tab.sorted s.chans = true)
    (hstat : ∀ k, k < 28 → (s.chan k).stat = none) : ∃ u : State,
    bodyMeasStop c ws s =
      u.ok c [w32 (maskOf ((maskBits 28 (wd ws 0).toNat).filter (fun k => decide ((s.chan k).st = ChSt.running))))] ∧
    ∀ k, k < 28 → (u.chan k).st = if (wd ws 0).getLsbD k = true ∧ (s.chan k).st = .running then .ready else (s.chan k).st := by
  have hstop := State.foldl_stopChan hsort (maskBits_nodup 28 (wd ws 0).toNat) fun k hk => hstat k (mem_maskBits.mp hk).1
  have hhalt (x : Chan) : x.halt.st = if x.st = .running then .ready else x.st := by
    unfold Chan.halt
    split <;> rfl
  refine ⟨_, rfl, fun k hk => ?_⟩
  rw [State.passesDue_st (by rw [hstop]; exact State.sorted_foldl_modChan hsort _ _), hstop,
    State.chan_foldl_modChan hsort _ (maskBits_nodup _ _), ← BitVec.testBit_toNat]
  simp only [mem_maskBits, hk, true_and]
  by_cases hbit : (wd ws 0).toNat.testBit k = true
  · rw [if_pos hbit, hhalt]
    simp only [hbit, true_and]
  · rw [if_neg hbit, if_neg fun h => hbit h.1]

/-- A command that joins a channel whose statistics run waits for it. -/
theorem bodyMeasStats_waits (c : Ctx) (ws : List Word) {s : State} (hrun : (s.chan (chArg (wd ws 0))).stat.isSome = true) :
    bodyMeasStats c ws s = s.hold c (.stats (chArg (wd ws 0)) (wd ws 1).toNat) := if_pos hrun

/-! ### Edges (R413-R423) -/

/-- A result that finds room joins the queue as one entry of its words. -/
theorem Chan.store_room {x : Chan} {e : List Word} (hen : x.queueEn = true) (hroom : x.queue.length < 4096) :
    ∃ e', e'.length = e.length ∧ x.store e = { x with queue := x.queue ++ [e'], gap := false } := by
  rw [Chan.store, if_neg (ne_false_of_eq_true hen), if_neg (Nat.not_le.mpr hroom)]
  exact ⟨_, List.length_set, rfl⟩

/-- The channels that a channel serves depend on the channels' states, modes and stop channels. -/
theorem State.stopsFor_congr {s t : State} {ch : Nat}
    (h : ∀ k, (t.chan k).st = (s.chan k).st ∧ (t.chan k).mode = (s.chan k).mode ∧ (t.chan k).stopCh = (s.chan k).stopCh) :
    t.stopsFor ch = s.stopsFor ch := by
  unfold State.stopsFor
  congr 1
  funext k
  obtain ⟨hst, hmode, hstop⟩ := h k
  dsimp only
  rw [hst, hmode, hstop]

/-- A channel with the state, the mode and the stop channel of another. -/
def Chan.SameUse (x y : Chan) : Prop := x.st = y.st ∧ x.mode = y.mode ∧ x.stopCh = y.stopCh

theorem ChanTo.stopsFor {s t : State} {ch : Nat} {x : Chan} (h : ChanTo ch x t s) (hx : x.SameUse (s.chan ch)) :
    t.stopsFor ch = s.stopsFor ch := by
  obtain ⟨-, -, hself, hother⟩ := h
  refine State.stopsFor_congr fun k => ?_
  by_cases hk : k = ch
  · rw [hk, hself]
    exact hx
  · rw [hother k hk]
    exact ⟨rfl, rfl, rfl⟩

/-- An edge that the channel takes. -/
theorem eventEdge_taken {s : State} {ch ago f8 : Nat} (hch : ch < 28) (hup : s.clk.tpUp = true) (hon : (s.chan ch).st ≠ .off)
    (hbegun : (s.chan ch).begun ≤ s.clk.tick - ago) : exec (.inputEdge ch (s.chan ch).edge ago f8) s = .next
      (if (s.chan ch).pre = 0 then
        (s.setChan ch { s.chan ch with pre := ((s.chan ch).pre + 1) % max 1 (s.chan ch).prescale }).passedEdge ch ago f8
      else s.setChan ch { s.chan ch with pre := ((s.chan ch).pre + 1) % max 1 (s.chan ch).prescale }) := by
  have htake : ¬ (s.clk.tpUp = false ∨ (s.chan ch).st = .off ∨ (s.chan ch).edge ≠ (s.chan ch).edge ∨ s.clk.tick - ago < (s.chan ch).begun) := by
    rintro (h | h | h | h)
    · exact Bool.noConfusion (h.symm.trans hup)
    · exact hon h
    · exact h rfl
    · omega
  have hmin : min 27 ch = ch := by omega
  change Host.Outcome.next (onIdx 28 ch (eventEdge ch (s.chan ch).edge ago f8) s) = _
  rw [onIdx, if_pos hch, eventEdge, hmin]
  exact congrArg _ (if_neg htake)

theorem eventEdge_ignored {s : State} {ch ago f8 : Nat} {fal : Bool}
    (h : 28 ≤ ch ∨ s.clk.tpUp = false ∨ (s.chan ch).st = .off ∨ fal ≠ (s.chan ch).edge ∨ s.clk.tick - ago < (s.chan ch).begun) :
    exec (.inputEdge ch fal ago f8) s = .next s := by
  refine congrArg Host.Outcome.next ?_
  rw [onIdx]
  by_cases hch : ch < 28
  · have hmin : min 27 ch = ch := by omega
    rw [if_pos hch, eventEdge, hmin]
    exact if_pos (h.resolve_left (by omega))
  · exact if_neg hch

/-- An edge that the prescaler of a running STAMP channel passes is captured by a channel without an edge captured before it. -/
theorem State.passedEdge_captured {s : State} {ch : Nat} (ago f8 : Nat) (hrun : (s.chan ch).st = .running) (hmode : (s.chan ch).mode = 0)
    (hlast : (s.chan ch).lastCap = none) {t : State}
    (ht : (s.setChan ch { s.chan ch with lastCap := some (s.clk.tick - ago, min 6399 f8) }).ownEdge ch
      (some (s.capture (chItem ch) (decide (24 ≤ ch)) ago f8)) = t) (hstops : t.stopsFor ch = []) : s.passedEdge ch ago f8 = t := by
  unfold State.passedEdge
  extract_lets x c near s₁ c? s₂
  have hfar : near = false := by
    unfold near x
    rw [hlast]
  have hs₂ : s₂ = t := by
    unfold s₂ s₁ c? x
    rw [hfar, if_neg (not_not.mpr hrun), if_neg (by rw [hmode]; decide), if_neg Bool.false_ne_true, if_neg Bool.false_ne_true, ← ht]
    rfl
  rw [hs₂, hstops]
  rfl

/-- One at the same point as the last captured edge is refused and counted. -/
theorem State.passedEdge_refused {s : State} {ch ago f8 : Nat} (hrun : (s.chan ch).st = .running) (hmode : (s.chan ch).mode = 0)
    (hlast : (s.chan ch).lastCap = some (s.clk.tick - ago, min 6399 f8)) {t : State}
    (ht : (s.setChan ch { s.chan ch with missed := inc16 (s.chan ch).missed }).ownEdge ch none = t) (hstops : t.stopsFor ch = []) :
    s.passedEdge ch ago f8 = t := by
  unfold State.passedEdge
  extract_lets x c near s₁ c? s₂
  have hnear : near = true := by
    unfold near x
    rw [hlast]
    have hspace : (0 : Int) < (chSpacing ch : Nat) := by
      unfold chSpacing
      split <;> decide
    have htick : (c.tick : Int) = ((s.clk.tick - ago : Nat) : Int) := rfl
    refine decide_eq_true ?_
    omega
  have hs₂ : s₂ = t := by
    unfold s₂ s₁ c? x
    rw [hnear, if_neg (not_not.mpr hrun), if_neg (by rw [hmode]; decide), if_pos rfl, if_pos rfl, ← ht]
  rw [hs₂, hstops]
  rfl

/-- The first edge captured in STAMP mode takes its index and is stored as one result of four words. -/
theorem State.ownEdge_stamp {s : State} {ch : Nat} (c : Cap) (hmode : (s.chan ch).mode = 0) (hprev : (s.chan ch).prev = none) :
    ∃ e : List Word, e.length = 4 ∧ s.ownEdge ch (some c) = s.setChan ch (({ s.chan ch with k := (s.chan ch).k + 1, prev := some c } : Chan).store e) := by
  rw [State.ownEdge]
  dsimp only
  rw [hprev, if_pos hmode]
  exact ⟨_, rfl, rfl⟩

/-- The first edge that a running STAMP channel captures, where it serves no other channel. -/
theorem State.passedEdge_stamps {s : State} (hsort : Tab.sorted s.chans = true) {ch : Nat} (ago f8 : Nat) (hrun : (s.chan ch).st = .running)
    (hmode : (s.chan ch).mode = 0) (hlast : (s.chan ch).lastCap = none) (hprev : (s.chan ch).prev = none) (hstops : s.stopsFor ch = [])
    (hen : (s.chan ch).queueEn = true) (hroom : (s.chan ch).queue.length < 4096) : ∃ (e : List Word) (c : Cap), e.length = 4 ∧
    ChanTo ch { s.chan ch with lastCap := some (s.clk.tick - ago, min 6399 f8), k := (s.chan ch).k + 1, prev := some c
                               queue := (s.chan ch).queue ++ [e], gap := false } (s.passedEdge ch ago f8) s := by
  generalize hc : s.capture (chItem ch) (decide (24 ≤ ch)) ago f8 = c
  generalize hy : ({ s.chan ch with lastCap := some (s.clk.tick - ago, min 6399 f8) } : Chan) = y
  have hset : ChanTo ch y (s.setChan ch y) s := State.setChan_chanTo hsort ch y
  have hset' := hset
  obtain ⟨-, -, hself, -⟩ := hset'
  obtain ⟨e, hlen, hown⟩ := State.ownEdge_stamp (s := s.setChan ch y) c (by rw [hself, ← hy]; exact hmode) (by rw [hself, ← hy]; exact hprev)
  rw [hself] at hown
  obtain ⟨e', hlen', hstore⟩ := Chan.store_room (x := { y with k := y.k + 1, prev := some c }) (e := e) (by rw [← hy]; exact hen)
    (by rw [← hy]; exact hroom)
  rw [hstore] at hown
  have hto := hset.setChan { y with k := y.k + 1, prev := some c, queue := y.queue ++ [e'], gap := false }
  have huse : ({ y with k := y.k + 1, prev := some c, queue := y.queue ++ [e'], gap := false } : Chan).SameUse (s.chan ch) := hy ▸ ⟨rfl, rfl, rfl⟩
  refine ⟨e', c, hlen'.trans hlen, ?_⟩
  rw [State.passedEdge_captured ago f8 hrun hmode hlast (by rw [hy, hc]; exact hown) ((hto.stopsFor huse).trans hstops)]
  subst hy
  exact hto

/-- An edge at the same point as the last one captured, on a running STAMP channel that serves no other. -/
theorem State.passedEdge_misses {s : State} (hsort : Tab.sorted s.chans = true) {ch ago f8 : Nat} (hrun : (s.chan ch).st = .running)
    (hmode : (s.chan ch).mode = 0) (hlast : (s.chan ch).lastCap = some (s.clk.tick - ago, min 6399 f8)) (hstops : s.stopsFor ch = []) : ∃ n,
    ChanTo ch (({ s.chan ch with missed := inc16 (s.chan ch).missed, k := (s.chan ch).k + 1, prev := none } : Chan).miss n)
      (s.passedEdge ch ago f8) s := by
  generalize hy : ({ s.chan ch with missed := inc16 (s.chan ch).missed } : Chan) = y
  have hset : ChanTo ch y (s.setChan ch y) s := State.setChan_chanTo hsort ch y
  have hset' := hset
  obtain ⟨-, -, hself, -⟩ := hset'
  obtain ⟨n, hown⟩ : ∃ n, (s.setChan ch y).ownEdge ch none = (s.setChan ch y).setChan ch (({ y with k := y.k + 1, prev := none } : Chan).miss n) := by
    rw [State.ownEdge, hself]
    exact ⟨_, rfl⟩
  have hto := hset.setChan (({ y with k := y.k + 1, prev := none } : Chan).miss n)
  have huse : (({ y with k := y.k + 1, prev := none } : Chan).miss n).SameUse (s.chan ch) := hy ▸ ⟨rfl, rfl, rfl⟩
  refine ⟨n, ?_⟩
  rw [State.passedEdge_refused hrun hmode hlast (by rw [hy]; exact hown) ((hto.stopsFor huse).trans hstops)]
  subst hy
  exact hto

/-- Settles O38: the commands by their bodies, and an edge by the changes it makes of its channel, first where the prescaler counts it. -/
theorem channels : Obligations.Channels := by
  unfold Obligations.Channels
  refine ⟨fun s p h hw hsort => ?_, fun s p h hat hsort => ?_, fun s p h hat hlater => ?_, fun s p h hat hpast => ?_,
    fun s p h hsort hstat => ?_, fun s p h hsort => ?_, fun s p h hrun => ?_, fun s ch ago f8 fal h => eventEdge_ignored h,
    fun s ch ago f8 hch hup hon hbegun hpre => (eventEdge_taken hch hup hon hbegun).trans (congrArg _ (if_neg hpre)),
    fun s ch ago f8 hch hup hsort hrun hmode hbegun hpre hlast hstat hprev hstops hen hroom => ?_,
    fun s ch ago f8 hch hup hsort hrun hmode hbegun hpre hstops hlast => ?_⟩
  · intro ch hstat hdef hrun
    obtain ⟨l, ha⟩ := accepted_replay s p (op := 0x0500) rfl
    have hjobs : ∀ j ∈ (s.accepted 0x0500 p).axg.jobs, ∀ item, j.work ≠ .calRun item := by
      rw [ha]
      intro j hj item hitem
      have hno := List.all_eq_true.mp hrun j hj
      rw [hitem] at hno
      exact Bool.noConfusion hno
    obtain ⟨u, r, hbody, hlen, -, hkeep, hself, hother⟩ := bodyMeasConfig_write (s.ctxOf 0x0500 p) (ws := p.words) (s := s.accepted 0x0500 p) hw
      (by rwa [ha]) (by rw [ha]; exact hstat) (by rw [ha]; exact hdef) hjobs
    refine ⟨u, r, answers_of_body rfl h hbody, hlen, hkeep, ?_, ?_, ?_, ?_, ?_, fun hoff => ?_, fun k hk => ?_⟩
    · exact congrArg Chan.enable hself
    · exact congrArg Chan.edge hself
    · exact congrArg Chan.tb hself
    · exact congrArg Chan.st hself
    · exact congrArg Chan.prescale hself
    · exact (congrArg Chan.queue hself).trans (if_neg (ne_true_of_eq_false hoff))
    · rw [hother k hk, ha]
      rfl
  · obtain ⟨l, ha⟩ := accepted_replay s p (op := 0x0501) rfl
    obtain ⟨u, r, hbody, hlen, hkeep, hchan⟩ := bodyMeasStart_now (s.ctxOf 0x0501 p) (ws := p.words) (s := s.accepted 0x0501 p) hat (by rwa [ha])
    refine ⟨u, r, answers_of_body rfl h hbody, hlen, hkeep, fun k hk => ?_⟩
    rw [hchan k hk, ha]
    rfl
  · obtain ⟨l, ha⟩ := accepted_replay s p (op := 0x0501) rfl
    refine congrArg Host.Outcome.next ((receive_accepted bodyMeasStart h).trans ?_)
    rw [bodyMeasStart, if_neg (by rw [hat]; decide), if_neg (by rw [ha]; exact Nat.not_le.mpr hlater)]
  · obtain ⟨l, ha⟩ := accepted_replay s p (op := 0x0501) rfl
    refine congrArg Host.Outcome.next ((receive_accepted bodyMeasStart h).trans ?_)
    rw [bodyMeasStart, if_neg (by rw [hat]; decide), if_pos (by rw [ha]; exact hpast), ha]
    rfl
  · obtain ⟨l, ha⟩ := accepted_replay s p (op := 0x0502) rfl
    obtain ⟨u, hbody, hst⟩ := bodyMeasStop_stops (s.ctxOf 0x0502 p) p.words (s := s.accepted 0x0502 p) (by rwa [ha]) (by rw [ha]; exact hstat)
    rw [ha] at hbody hst
    exact ⟨u, answers_of_body rfl h (by rw [ha]; exact hbody), hst⟩
  · obtain ⟨l, ha⟩ := accepted_replay s p (op := 0x0503) rfl
    intro ch n
    have hset := State.setChan_chanTo (s := s.accepted 0x0503 p) (by rwa [ha]) ch { s.chan ch with queue := (s.chan ch).queue.drop n, lost := 0, missed := 0 }
    obtain ⟨-, hkeep, hself, hother⟩ := hset
    refine ⟨_, answers_of_body rfl h ?_, hkeep, hself, fun k hk => (hother k hk).trans ?_⟩
    · rw [ha]
      rfl
    · rw [ha]
      rfl
  · obtain ⟨l, ha⟩ := accepted_replay s p (op := 0x0504) rfl
    exact congrArg Host.Outcome.next ((receive_accepted bodyMeasStats h).trans (bodyMeasStats_waits _ _ (by rw [ha]; exact hrun)))
  · have hon : (s.chan ch).st ≠ .off := by rw [hrun]; decide
    have hrow := (eventEdge_taken (f8 := f8) hch hup hon hbegun).trans (congrArg Host.Outcome.next (if_pos hpre))
    generalize hy : ({ s.chan ch with pre := ((s.chan ch).pre + 1) % max 1 (s.chan ch).prescale } : Chan) = y at hrow
    have hcount : ChanTo ch y (s.setChan ch y) s := State.setChan_chanTo hsort ch y
    have hsame := hcount.stopsFor (hy ▸ ⟨rfl, rfl, rfl⟩)
    obtain ⟨hsort₁, hkeep₁, hself₁, hother₁⟩ := hcount
    obtain ⟨e, c, hlen, -, hkeep, hself, hother⟩ := State.passedEdge_stamps hsort₁ (ch := ch) ago f8 (by rw [hself₁, ← hy]; exact hrun)
      (by rw [hself₁, ← hy]; exact hmode) (by rw [hself₁, ← hy]; exact hlast) (by rw [hself₁, ← hy]; exact hprev) (hsame.trans hstops)
      (by rw [hself₁, ← hy]; exact hen) (by rw [hself₁, ← hy]; exact hroom)
    rw [hself₁] at hself
    refine ⟨_, hrow, hkeep.trans hkeep₁, ?_, ⟨e, ?_, hlen⟩, ?_, fun k hk => (hother k hk).trans (hother₁ k hk)⟩
    · rw [hself, ← hy]
    · rw [hself, ← hy]
    · rw [hself, ← hy]
  · have hon : (s.chan ch).st ≠ .off := by rw [hrun]; decide
    have hrow := (eventEdge_taken (f8 := f8) hch hup hon hbegun).trans (congrArg Host.Outcome.next (if_pos hpre))
    generalize hy : ({ s.chan ch with pre := ((s.chan ch).pre + 1) % max 1 (s.chan ch).prescale } : Chan) = y at hrow
    have hcount : ChanTo ch y (s.setChan ch y) s := State.setChan_chanTo hsort ch y
    have hsame := hcount.stopsFor (hy ▸ ⟨rfl, rfl, rfl⟩)
    obtain ⟨hsort₁, hkeep₁, hself₁, -⟩ := hcount
    obtain ⟨n, -, hkeep, hself, -⟩ := State.passedEdge_misses hsort₁ (ch := ch) (ago := ago) (f8 := f8) (by rw [hself₁, ← hy]; exact hrun)
      (by rw [hself₁, ← hy]; exact hmode) (by rw [hself₁, ← hy]; exact hlast) (hsame.trans hstops)
    rw [hself₁] at hself
    refine ⟨_, hrow, hkeep.trans hkeep₁, ?_, ?_, ?_, ?_⟩
    · rw [hself, ← hy]
      rfl
    · rw [hself, ← hy]
      rfl
    · rw [hself, ← hy]
      rfl
    · rw [hself]
      rfl

end Sys2Proof.Machine
end

section
/-! Redundant pairs (chapter 14): what a change of a unit's state leaves of it, the PAIR commands, and the rows that move a unit (R473, R474,
R478-R482). -/

namespace Sys2Proof.Machine

open Sys2Proof

/-! ### A unit changes state (R465, R474) -/

theorem State.emit_keeps (s : State) (o : Output) : (s.emit o).keeps s [.out] := fun q hq => by
  cases q <;> simp at hq <;> rfl

theorem State.gateEdges_keeps (s : State) : s.gateEdges.keeps s [.out] :=
  List.foldlRecOn _ _ (motive := fun (t : State) => t.keeps s [.out]) (.refl s _) fun t ht _ _ => (t.emit_keeps _).trans ht

/-- A frame that a unit sends changes of its pair the frames' numbers alone. -/
theorem State.twinSend_numbers (s : State) (kind : Nat) (ws : List Word) :
    (s.twinSend kind ws).keeps s [.buf, .prun] ∧ ∃ q, (s.twinSend kind ws).prun = { s.prun with seqs := q } := by
  unfold State.twinSend State.twinSeq State.putTime
  dsimp only
  split
  · exact ⟨s.with_buf_prun_keeps _ _, _, rfl⟩
  · exact ⟨(s.with_prun_keeps _).mono (by decide), _, rfl⟩

theorem State.beacon_numbers (s : State) : s.beacon.keeps s [.buf, .prun] ∧ ∃ q, s.beacon.prun = { s.prun with seqs := q } := by
  obtain ⟨hkeep, q, hnum⟩ := s.twinSend_numbers 0 []
  unfold State.beacon
  split
  · exact ⟨.refl s _, _, rfl⟩
  · unfold State.twinSeq State.putTime
    dsimp only
    rw [hnum]
    split
    · exact ⟨(State.with_buf_prun_keeps _ _ _).trans hkeep, _, rfl⟩
    · exact ⟨((State.with_prun_keeps _ _).mono (by decide)).trans hkeep, _, rfl⟩

/-- A unit in another state: its pair has its new state, the tick, and the numbers of the frames it has sent. -/
def UnitMoved (n : UnitSt) (t s : State) : Prop :=
  t.keeps s [.prun, .out, .cru, .buf, .clk] ∧
    ∃ q, t.prun = { s.prun with st := n, activeAt := s.clk.tick, heardAt := s.clk.tick, seqs := q }

theorem State.setUnit_moved (s : State) (n : UnitSt) (cause : Nat) : UnitMoved n (s.setUnit n cause) s := by
  unfold State.setUnit
  extract_lets old was r t u
  have ht : t.keeps s [.prun] := s.with_prun_keeps _
  have hu : u.keeps t [.out] := by
    unfold u
    split
    · exact .refl t _
    · exact t.gateEdges_keeps
  have hprun : u.prun = t.prun := hu .prun (by decide)
  generalize hv : u.log .timing 0x0E01 (srcOf 12 0) (pack [(0, unitCode n), (4, unitCode old), (8, cause)]) (w32 u.mram.pairGen) 0 = v
  have hlog : v.keeps u [.buf, .clk, .cru] := hv ▸ (State.log_logged _ _ _ _ _ _ _).keeps
  have hlogPrun : v.prun = u.prun := hlog .prun (by decide)
  obtain ⟨hbeacon, q, hnum⟩ := v.beacon_numbers
  refine ⟨(hbeacon.mono (by decide)).trans ((hlog.mono (by decide)).trans ((hu.mono (by decide)).trans (ht.mono (by decide)))), q, ?_⟩
  rw [hnum, hlogPrun, hprun]

/-- A takeover: the unit is ACTIVE under the given PAIR_GEN, with its cause, and any dispute has ended. -/
theorem State.takeover_active (s : State) (gen cause : Nat) :
    (s.takeover gen cause).keeps s [.prun, .mram, .led, .out, .cru, .buf, .clk, .free] ∧
    (s.takeover gen cause).mram.pairGen = gen % 2 ^ 32 ∧ (s.takeover gen cause).prun.st = .active ∧
    (s.takeover gen cause).prun.lastCause = cause ∧ (s.takeover gen cause).prun.takeovers = inc16 s.prun.takeovers := by
  unfold State.takeover
  split
  next n t ht =>
    extract_lets u r v
    have hu : u.keeps s [.prun, .mram, .led, .out, .cru, .buf, .clk, .free] := by
      cases ht
      intro q hq
      cases q <;> simp at hq <;> rfl
    have htake : t.prun.takeovers = s.prun.takeovers := by
      cases ht
      rfl
    have hv : v.keeps u [.prun] := u.with_prun_keeps _
    obtain ⟨hmove, q, hprun⟩ := v.setUnit_moved .active cause
    refine ⟨(hmove.mono (by decide)).trans ((hv.mono (by decide)).trans hu), ?_, ?_, ?_, ?_⟩
    · rw [hmove .mram (by decide)]
      rfl
    · rw [hprun]
    · rw [hprun]
    · rw [hprun, ← htake]
      rfl

/-! ### PAIR.STATUS and PAIR.SWITCH (R481, R482) -/

/-- What CLEAR of PAIR.STATUS returns to 0. -/
def PairRun.cleared (r : PairRun) : PairRun :=
  { r with
    disagree := false, diverge := false, dualSeen := false, disputes := 0, takeovers := 0, digestMismatch := 0, twinDrops := 0, filtered := 0 }

theorem bodyPairStatus_answers (c : Ctx) (ws : List Word) (s : State) : ∃ r : List Word, r.length = 12 ∧ wd r 1 = w32 s.mram.pairGen ∧
    bodyPairStatus c ws s = (if bit (wd ws 0) 0 then { s with prun := s.prun.cleared } else s).ok c r :=
  ⟨[_, _, _, _, _, _, _, _, _, _, _, _], rfl, rfl, rfl⟩

theorem bodyPairSwitch_other (c : Ctx) (ws : List Word) {s : State} (ha : s.prun.st ≠ .active) (hs : s.prun.st ≠ .standby) :
    bodyPairSwitch c ws s = s.ok c [pack [(0, 0)], w32 s.mram.pairGen] := by
  unfold bodyPairSwitch
  split
  next h => exact absurd h ha
  next h => exact absurd h hs
  next => rfl

theorem bodyPairSwitch_active (c : Ctx) (ws : List Word) {s : State} (ha : s.prun.st = .active) : bodyPairSwitch c ws s =
    if s.prun.twinUp = true ∧ s.prun.partnerSt = 3 then (s.twinSend 5 []).hold c .pairSwitch else s.ok c [pack [(0, 0)], w32 s.mram.pairGen] := by
  rw [bodyPairSwitch, ha]
  rfl

theorem bodyPairSwitch_standby (c : Ctx) (ws : List Word) {s : State} (hs : s.prun.st = .standby) : bodyPairSwitch c ws s =
    if s.prun.twinUp = true ∨ bit (wd ws 0) 0 = true then
      (s.takeover (s.mram.pairGen + 1) 4).ok c [pack [(0, 1)], w32 (s.takeover (s.mram.pairGen + 1) 4).mram.pairGen]
    else s.ok c [pack [(0, 0)], w32 s.mram.pairGen] := by
  rw [bodyPairSwitch, hs]
  rfl

/-! ### PAIR.CONFIG (R474, R480) -/

/-- The state of the unit, its configuration and MRAM stand as given. -/
def PairIs (cfg : PairCfg) (st : UnitSt) (m : Mram) (t : State) : Prop := t.pcfg = cfg ∧ t.prun.st = st ∧ t.mram = m

theorem Completed.pairIs {s t : State} {cfg : PairCfg} {st : UnitSt} {m : Mram} (h : Completed t s) (hp : PairReplied t s)
    (k : PairIs cfg st m s) : PairIs cfg st m t := by
  obtain ⟨hcfg, hst, hm⟩ := k
  obtain ⟨h₁, h₂⟩ := h.pcfg_mram
  obtain ⟨_, _, hprun⟩ := hp
  exact ⟨h₁.trans hcfg, by rw [hprun]; exact hst, h₂.trans hm⟩

theorem PairIs.of_keeps {s t : State} {cfg : PairCfg} {st : UnitSt} {m : Mram} (k : PairIs cfg st m s) (h : t.keeps s [.out]) : PairIs cfg st m t := by
  obtain ⟨hcfg, hst, hm⟩ := k
  have hprun : t.prun = s.prun := h .prun (by decide)
  exact ⟨(h .pcfg (by decide)).trans hcfg, by rw [hprun]; exact hst, (h .mram (by decide)).trans hm⟩

/-- A unit that changes state keeps its configuration and MRAM. -/
theorem State.setUnit_pairIs (s : State) (n : UnitSt) (cause : Nat) : PairIs s.pcfg n s.mram (s.setUnit n cause) := by
  obtain ⟨hkeep, q, hprun⟩ := s.setUnit_moved n cause
  exact ⟨hkeep .pcfg (by decide), by rw [hprun], hkeep .mram (by decide)⟩

theorem State.switchReply_pairIs {s : State} {cfg : PairCfg} {st : UnitSt} {m : Mram} (k : PairIs cfg st m s) (done : Bool) :
    PairIs cfg st m (s.switchReply done) :=
  Completed.pairIs (s.completeWhere_completed _) (s.switchReply_pairReplied done) k

theorem State.twinLost_pairIs {s : State} {cfg : PairCfg} {st : UnitSt} {m : Mram} (k : PairIs cfg st m s) : PairIs cfg st m s.twinLost := by
  by_cases hup : s.prun.twinUp = true
  · obtain ⟨hcfg, hst, hm⟩ := k
    obtain ⟨h₁, h₂⟩ := s.twinLost_completed.pcfg_mram
    obtain ⟨_, _, hprun⟩ := State.twinLost_pairReplied hup
    exact ⟨h₁.trans hcfg, by rw [hprun]; exact hst, h₂.trans hm⟩
  · rw [State.twinLost, if_pos (eq_false_of_ne_true hup)]
    exact k

theorem State.pairLeave_off (s : State) {new : PairCfg} (was : Bool) (hnew : s.pcfg = new) : PairIs new .off s.mram (s.pairLeave new was) := by
  unfold State.pairLeave
  split
  next hoff => exact ⟨hnew, hoff, rfl⟩
  · extract_lets r t v w x u
    have ht : PairIs new .off s.mram x := by
      obtain ⟨-, hst, hm⟩ := v.setUnit_pairIs .off 0
      exact ⟨rfl, hst, hm⟩
    have hu : PairIs new .off s.mram u := by
      unfold u
      split
      · exact ht
      · exact ht.of_keeps (State.gateEdges_keeps _)
    exact State.switchReply_pairIs hu false

theorem State.pairEnter_joins (s : State) {new : PairCfg} (was : Bool) (hen : new.en = true) :
    PairIs new .joining s.mram (s.pairEnter new was) := by
  unfold State.pairEnter
  extract_lets r v t u
  have hcfg : ({ new with en := true } : PairCfg) = new := by rw [← hen]
  have hu : PairIs new .joining s.mram u := by
    obtain ⟨hpcfg, hst, hm⟩ := t.setUnit_pairIs .joining 0
    exact ⟨hpcfg.trans hcfg, hst, hm⟩
  split
  · exact hu.of_keeps u.gateEdges_keeps
  · exact hu

/-- A written PAIR.CONFIG: the configuration stands, and the unit is OFF, joins, or stays. -/
theorem State.pairApply_pairIs (s : State) (new : PairCfg) : PairIs new
    (if new.en = false then .off else if s.prun.st = .off ∨ s.prun.st = .failed then .joining else s.prun.st) s.mram (s.pairApply new) := by
  have hlink : PairIs s.pcfg s.prun.st s.mram (s.pairRelink new) := by
    unfold State.pairRelink
    extract_lets old
    split
    · exact State.twinLost_pairIs ⟨rfl, rfl, rfl⟩
    · exact ⟨rfl, rfl, rfl⟩
  have hwit : PairIs s.pcfg s.prun.st s.mram ((s.pairRelink new).pairWitness new) := by
    unfold State.pairWitness
    split
    · exact hlink
    · exact hlink
  obtain ⟨-, hst, hm⟩ := hwit
  unfold State.pairApply
  extract_lets t was u
  have hu : u.prun.st = s.prun.st ∧ u.mram = s.mram := ⟨hst, hm⟩
  obtain ⟨hust, hum⟩ := hu
  rw [hust]
  by_cases hen : new.en = false
  · rw [if_pos hen, if_pos hen, ← hum]
    exact u.pairLeave_off was rfl
  rw [if_neg hen, if_neg hen]
  by_cases hoff : s.prun.st = .off
  · rw [if_pos hoff, if_pos (.inl hoff), ← hum]
    exact u.pairEnter_joins was (eq_true_of_ne_false hen)
  rw [if_neg hoff]
  by_cases hfail : s.prun.st = .failed
  · rw [if_pos hfail, if_pos (.inr hfail), ← hum]
    exact u.setUnit_pairIs .joining 0
  · rw [if_neg hfail, if_neg (by rintro (h | h) <;> contradiction)]
    exact ⟨rfl, hust, hum⟩

theorem bodyPairConfig_write (c : Ctx) {ws : List Word} (s : State) (hw : bit (wd ws 0) 31 = true) :
    let t := s.pairApply (pairCfgOf ws (refId false (fld (wd ws 5) 11 0)))
    bodyPairConfig c ws s = t.ok c (pairCfgWords t.pcfg true) := by
  rw [bodyPairConfig, hw]
  rfl

theorem bodyPairConfig_read (c : Ctx) {ws : List Word} (s : State) (hw : bit (wd ws 0) 31 = false) :
    bodyPairConfig c ws s = s.ok c (pairCfgWords s.pcfg false) := by
  rw [bodyPairConfig, hw]
  rfl

/-- Settles O43: each command by its body, a configuration by the unit's state after it. -/
theorem pairCommands : Obligations.PairCommands := by
  unfold Obligations.PairCommands
  refine ⟨fun s p h => ?_, fun s p h => ⟨fun hw => ?_, fun hw => ?_⟩, fun s p h => ?_⟩
  · obtain ⟨r, hlen, hgen, hbody⟩ := bodyPairStatus_answers (s.ctxOf 0x0E01 p) p.words (s.accepted 0x0E01 p)
    rw [State.accepted_mram] at hgen
    refine ⟨r, hlen, hgen, fun hclr => answers_of_body rfl h ?_, fun hclr => answers_of_body rfl h ?_⟩
    · rw [hbody, if_neg (ne_true_of_eq_false hclr)]
    · rw [hbody, if_pos hclr, State.accepted_prun]
      rfl
  · have hbody := bodyPairConfig_read (s.ctxOf 0x0E00 p) (s.accepted 0x0E00 p) hw
    rw [State.accepted_pcfg] at hbody
    exact answers_of_body rfl h hbody
  · have hbody := bodyPairConfig_write (s.ctxOf 0x0E00 p) (s.accepted 0x0E00 p) hw
    obtain ⟨hcfg, hst, hm⟩ := (s.accepted 0x0E00 p).pairApply_pairIs (pairCfgOf p.words (refId false (fld (wd p.words 5) 11 0)))
    rw [State.accepted_prun] at hst
    rw [State.accepted_mram] at hm
    exact ⟨_, answers_of_body rfl h (by rw [hbody, hcfg]), hcfg, hst, hm⟩
  · intro a
    have hprun : a.prun = s.prun := State.accepted_prun s _ p
    have hgen : a.mram = s.mram := State.accepted_mram s _ p
    refine ⟨fun ha hs => ?_, fun hs hup hpart => ?_, fun hs hno => ?_, fun hs hup hforce => ?_, fun hs hmay => ?_⟩
    · have hbody := bodyPairSwitch_other (s.ctxOf 0x0E02 p) p.words (s := a) (by rwa [hprun]) (by rwa [hprun])
      rw [hgen] at hbody
      exact answers_of_body rfl h hbody
    · have hbody := bodyPairSwitch_active (s.ctxOf 0x0E02 p) p.words (s := a) (by rwa [hprun])
      rw [if_pos (by rw [hprun]; exact ⟨hup, hpart⟩)] at hbody
      exact congrArg Host.Outcome.next ((receive_accepted bodyPairSwitch h).trans hbody)
    · have hbody := bodyPairSwitch_active (s.ctxOf 0x0E02 p) p.words (s := a) (by rwa [hprun])
      have hstay : ¬ (a.prun.twinUp = true ∧ a.prun.partnerSt = 3) := by
        rw [hprun]
        rintro ⟨hup, hpart⟩
        rcases hno with h | h
        · exact Bool.noConfusion (hup.symm.trans h)
        · exact h hpart
      rw [if_neg hstay, hgen] at hbody
      exact answers_of_body rfl h hbody
    · have hbody := bodyPairSwitch_standby (s.ctxOf 0x0E02 p) p.words (s := a) (by rwa [hprun])
      have hstay : ¬ (a.prun.twinUp = true ∨ bit (wd p.words 0) 0 = true) := by
        rw [hprun, hup, hforce]
        decide
      rw [if_neg hstay, hgen] at hbody
      exact answers_of_body rfl h hbody
    · have hbody := bodyPairSwitch_standby (s.ctxOf 0x0E02 p) p.words (s := a) (by rwa [hprun])
      rw [if_pos (by rwa [hprun])] at hbody
      obtain ⟨hkeep, hnext, hst, hcause, htake⟩ := a.takeover_active (a.mram.pairGen + 1) 4
      rw [hprun] at htake
      exact ⟨_, hnext.trans (by rw [hgen]), answers_of_body rfl h hbody, hst, hcause, htake, hkeep⟩

end Sys2Proof.Machine
end

section
/-! The rows that move a unit of a redundant pair (R470-R474), and the worker's filter table (R478). -/

namespace Sys2Proof.Machine

open Sys2Proof

/-! ### TAKEOVER_DELAY and HANDOVER (R473, R474) -/

theorem beaconLoss_takes {s : State} (hst : s.prun.st = .standby ∨ s.prun.st = .failed)
    (hdue : s.prun.activeAt + s.pcfg.takeoverDelay * 125000 ≤ s.clk.tick) : beaconLoss s = s.takeover (s.mram.pairGen + 1) 2 :=
  if_pos ⟨hst, decide_eq_true hdue⟩

theorem beaconLoss_stays {s : State}
    (h : (s.prun.st ≠ .standby ∧ s.prun.st ≠ .failed) ∨ s.clk.tick < s.prun.activeAt + s.pcfg.takeoverDelay * 125000) : beaconLoss s = s := by
  refine if_neg ?_
  rintro ⟨hst, hdue⟩
  have hle : s.prun.activeAt + s.pcfg.takeoverDelay * 125000 ≤ s.clk.tick := of_decide_eq_true hdue
  rcases h with ⟨hs, hf⟩ | h
  · exact hst.elim hs hf
  · omega

theorem joiningTimeout_takes {s : State} (hst : s.prun.st = .joining) (hdue : s.prun.heardAt + s.pcfg.takeoverDelay * 125000 ≤ s.clk.tick) :
    joiningTimeout s = ({ s with prun := { s.prun with mismatch := false, partnerSt := 7 } } : State).takeover (s.mram.pairGen + 1) 1 :=
  if_pos ⟨hst, hdue⟩

theorem joiningTimeout_stays {s : State} (h : s.prun.st ≠ .joining ∨ s.clk.tick < s.prun.heardAt + s.pcfg.takeoverDelay * 125000) :
    joiningTimeout s = s := by
  refine if_neg ?_
  rintro ⟨hst, hdue⟩
  have hle : s.prun.heardAt + s.pcfg.takeoverDelay * 125000 ≤ s.clk.tick := hdue
  rcases h with h | h
  · exact h hst
  · omega

theorem handoverReceived_some {s u : State} {f : Frame} {t : Twin} (h : s.takeTwin 5 = (some (f, t), u)) :
    handoverReceived s = if u.prun.st = .standby then u.takeover (u.mram.pairGen + 1) 4 else u := by
  rw [handoverReceived, h]

/-! ### A beacon of the partner (R466, R473, R474) -/

/-- The partner's BEACON by the twin port is taken, noted and acted on. -/
theorem State.takeBeacon_partner {s : State} {x : PuntItem} {f : Frame} {t : Twin} (hup : s.tpUp = true) (hhead : s.twinHeadFrame = some (x, f, t))
    (htwin : s.onTwin f = true) (hfcs : f.badFcs = false) (hpart : s.isPartner t = true) (hkind : t.kind = 0) :
    s.takeBeacon true = ((s.consume x).notePartner f t).beaconActs t := by
  have hpart' : (s.consume x).isPartner t = true := by
    obtain ⟨_, _, hc⟩ := s.consume_consumed x
    rw [hc]
    exact hpart
  rw [State.takeBeacon, if_neg (ne_false_of_eq_true hup), hhead]
  dsimp only
  rw [htwin, hfcs, hkind]
  simp [hpart']

/-- A frame by the twin port is noted on the link. -/
theorem State.twinHeard_link (s : State) : s.twinHeard.keeps s [.prun, .buf, .clk, .cru] ∧ ∃ up down,
    s.twinHeard.prun = { s.prun with twinAt := s.clk.tick, twinUp := up, twinDown := down } := by
  unfold State.twinHeard
  extract_lets r t
  have ht : t.keeps s [.prun] := s.with_prun_keeps _
  split
  · exact ⟨ht.mono (by decide), _, _, rfl⟩
  · refine ⟨((State.log_logged _ _ _ _ _ _ _).keeps.mono (by decide)).trans
      (((t.with_prun_keeps _).mono (by decide)).trans (ht.mono (by decide))), true, false, ?_⟩
    rw [State.log_prun]

/-- A BEACON of an ACTIVE partner is noted in the unit's pair. -/
theorem State.notePartner_active (s : State) (f : Frame) {t : Twin} (hkind : t.kind = 0) (hst : t.st = 2) :
    (s.notePartner f t).keeps s [.prun, .buf, .clk, .cru] ∧ ∃ twinAt up down, (s.notePartner f t).prun = { s.prun with
      heardAt := s.clk.tick, activeAt := s.clk.tick, partnerSt := t.st, partnerGen := t.gen
      mismatch := decide (t.variant ≠ (if s.isMi then 1 else 2)), twinAt := twinAt, twinUp := up, twinDown := down } := by
  unfold State.notePartner
  extract_lets r u v
  have hu : u.keeps s [.prun] := s.with_prun_keeps _
  have hprun : u.prun = { s.prun with
      heardAt := s.clk.tick, activeAt := s.clk.tick, partnerSt := t.st, partnerGen := t.gen
      mismatch := decide (t.variant ≠ (if s.isMi then 1 else 2)) } := by
    have hact : t.kind = 0 ∧ t.st = 2 := ⟨hkind, hst⟩
    unfold u
    rw [if_pos hact]
  rw [if_neg (by rw [hst]; decide)]
  unfold v
  split
  · obtain ⟨hkeep, up, down, hlink⟩ := u.twinHeard_link
    exact ⟨hkeep.trans (hu.mono (by decide)), _, up, down, by rw [hlink, hprun]⟩
  · exact ⟨hu.mono (by decide), _, _, _, hprun⟩

/-- The same for a BEACON that stood at the head of its queue. -/
theorem State.consume_notePartner (s : State) (x : PuntItem) (f : Frame) {t : Twin} (hkind : t.kind = 0) (hst : t.st = 2) :
    ∃ v, (s.consume x).notePartner f t = v ∧ v.mram = s.mram ∧ ∃ twinAt up down, v.prun = { s.prun with
      heardAt := s.clk.tick, activeAt := s.clk.tick, partnerSt := t.st, partnerGen := t.gen
      mismatch := decide (t.variant ≠ (if s.isMi then 1 else 2)), twinAt := twinAt, twinUp := up, twinDown := down } := by
  obtain ⟨hkeep, a, b, c, hprun⟩ := (s.consume x).notePartner_active f hkind hst
  obtain ⟨_, _, hc⟩ := s.consume_consumed x
  have hmram := hkeep .mram (by decide)
  rw [hc] at hprun hmram
  exact ⟨_, rfl, by rw [hc]; exact hmram, a, b, c, by rw [hc]; exact hprun⟩

theorem State.beaconActs_joins {s : State} {t : Twin} (hst : s.prun.st = .joining) (hvar : s.prun.mismatch = false) (hact : t.st = 2) :
    s.beaconActs t = (s.setGen t.gen).setUnit .standby 0 := by
  rw [State.beaconActs, hst]
  dsimp only
  rw [if_neg (ne_true_of_eq_false hvar), if_pos hact]

/-- An ACTIVE unit stands down before a partner of a higher PAIR_GEN. -/
theorem State.beaconActs_yields {s : State} {t : Twin} (hst : s.prun.st = .active) (hact : t.st = 2) (hahead : aheadOf 32 t.gen s.mram.pairGen = true) :
    (s.beaconActs t).prun.st = (if s.prun.faulty then .failed else .standby) ∧ (s.beaconActs t).mram = s.mram ∧
    (s.beaconActs t).prun.dualSeen = (s.prun.dualSeen || decide (t.gen = s.mram.pairGen)) := by
  obtain ⟨n, hacts⟩ : ∃ n, s.beaconActs t = (({ s with
      free := s.free + 1
      prun := { s.prun with dualSeen := s.prun.dualSeen || decide (t.gen = s.mram.pairGen), lastDual := n } } : State).standDown).switchReply true := by
    rw [State.beaconActs, hst]
    dsimp only
    rw [if_pos ⟨hact, .inl hahead⟩]
    exact ⟨_, rfl⟩
  rw [hacts, State.standDown]
  generalize hv : ({ s with
      free := s.free + 1
      prun := { s.prun with dualSeen := s.prun.dualSeen || decide (t.gen = s.mram.pairGen), lastDual := n } } : State) = v
  have hbefore : v.prun.faulty = s.prun.faulty ∧ v.mram = s.mram ∧ v.prun.dualSeen = (s.prun.dualSeen || decide (t.gen = s.mram.pairGen)) := by
    rw [← hv]
    exact ⟨rfl, rfl, rfl⟩
  obtain ⟨hfaulty, hmram, hdual⟩ := hbefore
  rw [hfaulty]
  generalize (if s.prun.faulty then UnitSt.failed else .standby) = x
  obtain ⟨hkeep, q, hprun⟩ := v.setUnit_moved x v.prun.lastCause
  generalize v.setUnit x v.prun.lastCause = w at hkeep hprun
  obtain ⟨q', d, hreply⟩ := w.switchReply_pairReplied true
  obtain ⟨-, hkept⟩ := (w.completeWhere_completed _ : Completed (w.switchReply true) w).pcfg_mram
  refine ⟨by rw [hreply, hprun], hkept.trans ((hkeep .mram (by decide)).trans hmram), ?_⟩
  rw [hreply, hprun]
  exact hdual

/-! ### The filter table (R478) -/

/-- The first pair a worker hears of takes slot 0. -/
theorem State.pairTable_first {s : State} (h : s.prun.pairs = []) (sa : Nat) (t : Twin) :
    s.pairTable sa t = { s with prun := { s.prun with pairs :=
      [(0, if t.unit = 0 then { mac := t.mac, unit0 := some (sa, t.gen), last := s.clk.tick }
           else { mac := t.mac, unit1 := some (sa, t.gen), last := s.clk.tick })] } } := by
  rw [State.pairTable, h]
  rfl

/-- A beacon by a network port of a part outside every pair teaches the filter table alone. -/
theorem State.takeBeacon_learns {s : State} {x : PuntItem} {f : Frame} {t : Twin} (hup : s.tpUp = true) (hhead : s.twinHeadFrame = some (x, f, t))
    (hen : s.pcfg.en = false) (hfilter : s.pcfg.filter = true) (hfcs : f.badFcs = false) :
    s.takeBeacon false = (s.consume x).pairTable (parseHdr false f.bytes).sa t := by
  obtain ⟨_, _, hc⟩ := s.consume_consumed x
  have hpcfg : (s.consume x).pcfg = s.pcfg := by rw [hc]
  have htwin : s.onTwin f = false := by rw [State.onTwin, hen, Bool.false_and]
  have hpart (u : State) (hu : u.pcfg = s.pcfg) : u.isPartner t = false := by
    rw [State.isPartner, hu, hen, Bool.false_and, Bool.false_and]
  have hpairs : ((s.consume x).pairTable (parseHdr false f.bytes).sa t).pcfg = s.pcfg := by
    rw [← hpcfg]
    unfold State.pairTable
    dsimp only
    split <;> rfl
  rw [State.takeBeacon, if_neg (ne_false_of_eq_true hup), hhead]
  dsimp only
  have hlearn : false = false ∧ true = true := ⟨rfl, rfl⟩
  rw [htwin, hfcs, hpcfg, hfilter, if_neg (by simp), if_neg Bool.false_ne_true, if_pos hlearn, hpart _ hpairs]
  exact if_neg (fun h => Bool.false_ne_true h.1)

theorem State.takeBeacon_none {s : State} (own : Bool) (h : s.tpUp = false ∨ s.twinHeadFrame = none) : s.takeBeacon own = s := by
  rw [State.takeBeacon]
  split
  · rfl
  next hup => rw [h.resolve_left hup]

theorem pairTableForget_forgets {s : State} {k : Nat} {e : PairEnt} (hk : k < 16) (he : Tab.find? s.prun.pairs k = some e)
    (hdue : e.last + 1250000000 ≤ s.clk.tick) :
    exec (.pairTableForget k) s = .next { s with prun := { s.prun with pairs := Tab.erase s.prun.pairs k } } := by
  change Host.Outcome.next (onIdx 16 k (pairTableForget k) s) = _
  rw [onIdx, if_pos hk, pairTableForget, Nat.mod_eq_of_lt hk, he]
  exact congrArg _ (if_pos hdue)

theorem pairTableForget_stays {s : State} {k : Nat} (h : ∀ e, Tab.find? s.prun.pairs k = some e → s.clk.tick < e.last + 1250000000) :
    exec (.pairTableForget k) s = .next s := by
  change Host.Outcome.next (onIdx 16 k (pairTableForget k) s) = _
  rw [onIdx]
  split
  next hk =>
    rw [pairTableForget, Nat.mod_eq_of_lt hk]
    split
    next e he => exact congrArg _ (if_neg (Nat.not_le.mpr (h e he)))
    next => rfl
  next => rfl

/-! ### Disputes (R470-R472) -/

/-- While one of the two verdicts is not known nothing is decided. -/
theorem State.judge_waits {s : State} (h : s.prun.own = none ∨ s.prun.partner = none) : s.judge = s := by
  unfold State.judge
  split
  next ho hp => rcases h with h | h <;> simp_all
  next => rfl

/-- A STANDBY unit whose own self-check failed while its partner passed is FAILED. -/
theorem State.judge_fails {s : State} {o p : Verdict} (hown : s.prun.own = some o) (hpartner : s.prun.partner = some p) (ho : o.pass = false)
    (hp : p.pass = true) (hst : s.prun.st = .standby) : s.judge.prun.st = .failed ∧ s.judge.prun.dispute = none ∧ s.judge.mram = s.mram ∧
    s.judge.prun.takeovers = s.prun.takeovers := by
  have hrow : s.verdictRow p o = 1 := by
    rw [State.verdictRow, hp, ho]
  have hactive : decide (s.prun.st = .active) = false := decide_eq_false (by rw [hst]; decide)
  rw [State.judge, hown, hpartner]
  dsimp only
  rw [if_neg (fun h => h.2 hst), hactive, if_neg Bool.false_ne_true, if_neg Bool.false_ne_true, if_neg Bool.false_ne_true, hrow,
    if_neg (by decide), if_neg (by decide)]
  generalize hu : s.log .timing 0x0E03 (srcOf 12 0) (w32 1) 0 0 = u
  have hlog : u.prun = s.prun ∧ u.mram = s.mram := by
    rw [← hu]
    exact ⟨State.log_prun _ _ _ _ _ _ _, State.log_mram _ _ _ _ _ _ _⟩
  obtain ⟨hprun, hmram⟩ := hlog
  generalize hv : ({ u with prun := _ } : State) = v
  obtain ⟨hkeep, q, hmove⟩ := v.setUnit_moved .failed u.prun.lastCause
  refine ⟨by rw [hmove], ?_, ?_, ?_⟩
  · rw [hmove, ← hv]
  · rw [hkeep .mram (by decide), ← hv]
    exact hmram
  · rw [hmove, ← hv, ← hprun]

/-- A self-check that ends sends its VERDICT, and is judged with the partner's. -/
theorem selfCheckDone_sends {s : State} {d : Disputed} (sig : Bool) (hdis : s.prun.dispute = some d) (hown : s.prun.own = none) : ∃ ws,
    selfCheckDone sig s = (({ s with prun := { s.prun with own := some (s.ownVerdict d sig), selfOk := (s.ownVerdict d sig).pass
                                                           eOwn := (s.ownVerdict d sig).e.getD s.prun.eOwn } } : State).twinSend 3 ws).judge := by
  rw [selfCheckDone, hdis, hown]
  exact ⟨_, rfl⟩

theorem selfCheckDone_stays {s : State} (sig : Bool) (h : s.prun.dispute = none ∨ s.prun.own ≠ none) : selfCheckDone sig s = s := by
  unfold selfCheckDone
  split
  next hdis hown => rcases h with h | h <;> simp_all
  next => rfl

/-- A VERDICT of the partner: where no dispute is in progress, only an ACTIVE unit raises one. -/
theorem verdictReceived_undisputed {s u : State} {f : Frame} {t : Twin} (h : s.takeTwin 3 = (some (f, t), u)) (hdis : u.prun.dispute = none)
    (hst : u.prun.st ≠ .active) : verdictReceived s = u := by
  have hraise : (if u.prun.dispute.isNone = true ∧ u.prun.st = .active then
      u.raiseDispute (State.disputeOf (fld (wd t.content 0) 15 8)) 0 else u) = u := if_neg fun h => hst h.2
  rw [verdictReceived, h]
  dsimp only
  rw [hraise, hdis]
  rfl

theorem verdictReceived_first {s u : State} {f : Frame} {t : Twin} {d : Disputed} (h : s.takeTwin 3 = (some (f, t), u))
    (hdis : u.prun.dispute = some d) (hown : u.prun.own = none) : ∃ e, verdictReceived s = { u with prun := { u.prun with
      partner := some { pass := bit (wd t.content 0) 0, e := if bit (wd t.content 0) 1 then some (sfld (wd t.content 1) 31 0) else none }
      ePartner := e } } := by
  have hnone : u.prun.dispute.isNone = false := by rw [hdis]; rfl
  have hraise : (if u.prun.dispute.isNone = true ∧ u.prun.st = .active then
      u.raiseDispute (State.disputeOf (fld (wd t.content 0) 15 8)) 0 else u) = u := if_neg fun h => Bool.noConfusion (h.1.symm.trans hnone)
  rw [verdictReceived, h]
  dsimp only
  rw [hraise, hnone, if_neg Bool.false_ne_true]
  exact ⟨_, State.judge_waits (.inl hown)⟩

/-- Settles O44: a row that moves the unit is a takeover, a stand-down or a change of its state; the others note what they took. -/
theorem pairStates : Obligations.PairStates := by
  unfold Obligations.PairStates
  refine ⟨fun s hst hdue => ?_, fun s h => congrArg _ (beaconLoss_stays h), fun s hst hdue => ?_, fun s h => congrArg _ (joiningTimeout_stays h),
    fun s u f t h => ?_, fun s u h => congrArg Host.Outcome.next (by rw [handoverReceived, h]),
    fun s x f t hup hhead htwin hfcs hpart hkind hact => ?_,
    fun s h => ⟨congrArg _ (State.takeBeacon_none true h), congrArg _ (State.takeBeacon_none false h)⟩,
    fun s x f t hup hhead hen hfilter hfcs hpairs => ?_, fun s k e hk he hdue => pairTableForget_forgets hk he hdue,
    fun s k h => pairTableForget_stays h, fun s d sig hdis hown hpartner => ?_, fun s d v hdis hown hpartner hpass hst => ?_,
    fun s sig h => congrArg _ (selfCheckDone_stays sig h), fun s u f t h => ⟨fun hdis hst => congrArg _ (verdictReceived_undisputed h hdis hst),
      fun d hdis hown => ?_⟩, fun s u h => congrArg Host.Outcome.next (by rw [verdictReceived, h])⟩
  · obtain ⟨hkeep, hgen, hactive, hcause, htake⟩ := s.takeover_active (s.mram.pairGen + 1) 2
    exact ⟨_, congrArg Host.Outcome.next (beaconLoss_takes hst hdue), hactive, hcause, hgen, htake, hkeep⟩
  · obtain ⟨-, hgen, hactive, hcause, htake⟩ :=
      State.takeover_active { s with prun := { s.prun with mismatch := false, partnerSt := 7 } } (s.mram.pairGen + 1) 1
    exact ⟨_, congrArg Host.Outcome.next (joiningTimeout_takes hst hdue), hactive, hcause, hgen, htake⟩
  · obtain ⟨-, hgen, hactive, hcause, -⟩ := u.takeover_active (u.mram.pairGen + 1) 4
    refine ⟨_, congrArg Host.Outcome.next (handoverReceived_some h), fun hst => ?_, fun hst => if_neg hst⟩
    rw [if_pos hst]
    exact ⟨hactive, hcause, hgen⟩
  · have hrow : exec .beaconReceived s = .next (((s.consume x).notePartner f t).beaconActs t) :=
      congrArg Host.Outcome.next (State.takeBeacon_partner hup hhead htwin hfcs hpart hkind)
    obtain ⟨v, hv, hmram, a, b, c, hprun⟩ := State.consume_notePartner s x f hkind hact
    rw [hv] at hrow
    refine ⟨fun hst hvar => ?_, fun hst hahead => ?_⟩
    · have hjoin := State.beaconActs_joins (s := v) (t := t) (by rw [hprun]; exact hst)
        (by rw [hprun]; exact decide_eq_false (not_not.mpr hvar)) hact
      obtain ⟨hkeep, q, hmove⟩ := (v.setGen t.gen).setUnit_moved .standby 0
      have hset : (v.setGen t.gen).prun = v.prun := rfl
      rw [hset, hprun] at hmove
      rw [hjoin] at hrow
      refine ⟨_, hrow, by rw [hmove], by rw [hkeep .mram (by decide)]; rfl, ?_, by rw [hmove], by rw [hmove]⟩
      rw [hmove]
      exact hact
    · obtain ⟨hyield, hkept, hdual⟩ := State.beaconActs_yields (s := v) (t := t) (by rw [hprun]; exact hst) hact (by rw [hmram]; exact hahead)
      rw [hmram] at hdual
      rw [hprun] at hyield hdual
      exact ⟨_, hrow, hyield, by rw [hkept, hmram], hdual⟩
  · have hrow : exec .pairBeaconTaken s = .next ((s.consume x).pairTable (parseHdr false f.bytes).sa t) :=
      congrArg Host.Outcome.next (State.takeBeacon_learns hup hhead hen hfilter hfcs)
    obtain ⟨_, _, hc⟩ := s.consume_consumed x
    have hfirst := State.pairTable_first (s := s.consume x) (by rw [hc]; exact hpairs) (parseHdr false f.bytes).sa t
    have htick : (s.consume x).clk.tick = s.clk.tick := by rw [hc]
    rw [hfirst, htick] at hrow
    exact ⟨_, hrow, State.with_prun_keeps _ _, rfl⟩
  · obtain ⟨ws, hsend⟩ := selfCheckDone_sends sig hdis hown
    generalize hu : ({ s with prun := { s.prun with own := some (s.ownVerdict d sig), selfOk := (s.ownVerdict d sig).pass
                                                    eOwn := (s.ownVerdict d sig).e.getD s.prun.eOwn } } : State) = u at hsend
    have hkeepu : u.keeps s [.prun] := hu ▸ s.with_prun_keeps _
    obtain ⟨hkeep, q, hprun⟩ := u.twinSend_numbers 3 ws
    have hwait : (u.twinSend 3 ws).judge = u.twinSend 3 ws := State.judge_waits (.inr (by rw [hprun, ← hu]; exact hpartner))
    have hkept : (u.twinSend 3 ws).keeps s [.prun, .buf] := (hkeep.mono (by decide)).trans (hkeepu.mono (by decide))
    refine ⟨_, congrArg Host.Outcome.next (hsend.trans hwait), ?_, ?_, ?_, ?_, ?_, hkept⟩
    · rw [hprun, ← hu]
    · rw [hprun, ← hu]
    · rw [hprun, ← hu]
    · rw [hprun, ← hu]
      exact hdis
    · rw [hprun, ← hu]
  · obtain ⟨ws, hsend⟩ := selfCheckDone_sends false hdis hown
    generalize hu : ({ s with prun := { s.prun with own := some (s.ownVerdict d false), selfOk := (s.ownVerdict d false).pass
                                                    eOwn := (s.ownVerdict d false).e.getD s.prun.eOwn } } : State) = u at hsend
    obtain ⟨hkeep, q, hprun⟩ := u.twinSend_numbers 3 ws
    have hmram : (u.twinSend 3 ws).mram = s.mram := (hkeep .mram (by decide)).trans (by rw [← hu])
    have hfailed : (s.ownVerdict d false).pass = false := Bool.and_false _
    obtain ⟨hst', hdis', hmram', htake⟩ := State.judge_fails (s := u.twinSend 3 ws) (o := s.ownVerdict d false) (p := v) (by rw [hprun, ← hu])
      (by rw [hprun, ← hu]; exact hpartner) hfailed hpass (by rw [hprun, ← hu]; exact hst)
    refine ⟨_, congrArg Host.Outcome.next hsend, hst', hdis', hmram'.trans hmram, htake.trans ?_⟩
    rw [hprun, ← hu]
  · obtain ⟨e, hfirst⟩ := verdictReceived_first h hdis hown
    exact ⟨_, congrArg Host.Outcome.next hfirst, u.with_prun_keeps _, rfl, rfl⟩

end Sys2Proof.Machine
end
